-- ==== Sys2Proof/Word.lean ====
section
/-! DEFINITION. The word types of the block: registers are 32 bits (R8), memory is bytes. -/

namespace Sys2Proof

/-- A register's value (R8). -/
abbrev Word := BitVec 32

/-- One byte of memory. -/
abbrev Byte := BitVec 8

end Sys2Proof
end

