-- ==== Sys2Proof/Config.lean ====
section
/-! DEFINITION. The constants with no body: values that the spec leaves open (free values), and the
cryptographic functions that the spec takes from published standards without giving their computation.
Nothing in Lean can evaluate one of them, so a statement about one holds whatever it is. -/

namespace Sys2Proof.Config

/-- A free value of `w` bits, the `k`-th the machine has drawn (assumption 3). -/
opaque freeBits (w k : Nat) : BitVec w

/-- What a byte of an erased flash sector reads as (R416): the spec does not say. -/
opaque erasedByte : BitVec 8

/-- SHA-384 (R343, R384, R406) of a byte string, as a 384-bit number (assumption 4). -/
opaque sha384 (m : List Nat) : Nat

/-- Whether an ECDSA P-384 signature verifies (R379): key, digest and signature as byte strings. -/
opaque ecdsaOk (key digest sig : List Nat) : Bool

/-- Whether an ML-DSA-65 signature verifies (R379): key, digest and signature as byte strings. -/
opaque mldsaOk (key digest sig : List Nat) : Bool

/-- The output of the deterministic random bit generator (R381):
the `k`-th 32-bit word. -/
opaque drbgWord (k : Nat) : Nat

/-- The PRFs of R371: CMAC-AES-256, or HMAC-SHA-384 (`hmac`), of a key and a message, as byte strings (assumption 4). -/
opaque prf (hmac : Bool) (key msg : List Nat) : List Nat

/-- The root that the boot ROM reconstructs from the SRAM PUF (R370), 32 bytes. -/
opaque pufRoot : List Nat

/-- The device is a TZC-9640-E0 (R2): which of the two grades it is, its provisioning fixes. -/
opaque gradeE0 : Bool

/-- The fused SHA-384 hash of OEM root key `k`, 0–3 (R383); none where it is not fused or is revoked. -/
opaque rootHash (k : Nat) : Option Nat

/-- The SHA-384 hash of Prihild's factory debug key, which only a TZC-9640-E0 holds in its fuses (R2, R383). -/
opaque factoryKeyHash : Nat

/-- The hash in the fuses for signer `k`: 0–3 = OEM root keys, 15 = the factory debug key (R2, R383). -/
def fusedHash (k : Nat) : Option Nat :=
  if k = 15 then (if gradeE0 then some factoryKeyHash else none) else rootHash k

/-- AES key wrap of a key blob (R385): wrapping key, plain record. -/
opaque wrap (kek plain : List Nat) : List Nat

/-- The inverse of `wrap`: none when its integrity check fails (R385). -/
opaque unwrap (kek blob : List Nat) : Option (List Nat)

/-- The public key of a private key of a slot of TYPE 5 or 6 (R380). -/
opaque publicOf (type : Nat) (priv : List Nat) : List Nat

/-- P-384 key agreement (R380): none when the peer's point is not on the curve. -/
opaque ecdh (priv peer : List Nat) : Option (List Nat)

/-- ML-KEM-768 encapsulation (R380): ciphertext and shared secret for a public key and a seed number. -/
opaque kemEnc (pub : List Nat) (seed : Nat) : List Nat × List Nat

/-- ML-KEM-768 decapsulation (R380). -/
opaque kemDec (priv ct : List Nat) : List Nat

/-- A cipher of the cipher engine (R391): algorithm, direction, key, nonce, associated data, text. -/
opaque cipher (alg : Nat) (decrypt : Bool) (key nonce aad text : List Nat) : List Nat

/-- The tag or MAC of a cipher or MAC algorithm (R391). -/
opaque tag (alg : Nat) (key nonce aad text : List Nat) (len : Nat) : List Nat

/-- A digest of the cipher engine (R391). -/
opaque digest (alg : Nat) (text : List Nat) : List Nat

/-- The words of a core's local interrupt controller in a state fold (R357): of its pending and of its active sources. -/
opaque lcWords (pending active : List Nat) : List Nat

/-- The factory-trimmed on-resistances of an integrated channel in µΩ at 25 °C and at 150 °C (R305, R482), and outside these
temperatures, in 0.1 °C as a signed 16-bit number. -/
opaque onRes25 (chan : Nat) : Nat
opaque onRes150 (chan : Nat) : Nat
opaque onResBeyond (chan tj : Nat) : Nat

/-- The MAC address of an external Ethernet port (R135), octet 0 in the lowest byte; the spec gives no register
for it. -/
opaque portMac (p : Nat) : Nat

/-- The device's own IEEE 802.1AS clock quality (R85): class, accuracy and variance as a 32-bit number, of which less is
better; the spec gives no register for it. -/
opaque clockQuality : Nat

/-- The device's own IEEE 802.1AS clockIdentity (R85), octet 0 in the lowest byte; the spec gives no register for it. -/
opaque clockIdentity : Nat

/-- The length field of an ACF message of 512 quadlets or more, and of an NTSCF header over 2,047 bytes (R135): neither
fits its field, and the spec states no value (assumption 88). -/
opaque longAcf (quads : Nat) : Nat
opaque longNtscf (bytes : Nat) : Nat

/-- The synchronous exceptions that the Core Reference routes to the monitor (R341), by their number in `WldSt.exc`; the
spec does not name them (assumption 140). -/
opaque toMonitor (exc : Nat) : Bool

/-- How long fuses are blown, and how long a write of the strongbox store lasts, in ns (R414, R415); the spec gives neither
(assumption 141). -/
opaque fuseNs : Nat
opaque storeNs : Nat

end Sys2Proof.Config
end

