-- ==== Sys2Proof/Syntax.lean ====
section
/-! DEFINITION. The commands of the block: one constructor of `Instr` per row of spec/opcode_table.json. The
table gives no operands; each constructor's operands are what the row's rules take from outside the block
(assumption 1). The first operand of every constructor, `dt`, is the time in nanoseconds that has passed since
the command before it (assumption 2). -/

namespace Sys2Proof

/-- Who makes an access: the owner on whose behalf (R16, R333), whether from the Guard world, and the core
(0–11 of R328, or 15 when it is not a core). -/
structure Acc where
  owner : Nat
  guard : Bool
  core : Nat
deriving DecidableEq, Repr

/-- The kinds of access of R335 (MAN_LAST_INFO.KIND). -/
inductive AccKind where
  | read | write | fetch | dma
deriving DecidableEq, Repr

/-- What an Announce gives to the BMCA (R85): the grandmaster's priorities, its clock quality and identity,
stepsRemoved, and the sending port's identity. -/
structure Announce where
  prio1 : Nat
  quality : Nat
  prio2 : Nat
  gm : Nat
  steps : Nat
  srcClock : Nat
  srcPort : Nat
deriving DecidableEq, Repr

/-- An Announce as it was heard (R85): the port that heard it and what it gives, or none when that port's last
Announce has expired. -/
structure Heard where
  port : Nat
  info : Option Announce
deriving DecidableEq, Repr

/-- Who sent a Sync (R72, R87): the grandmaster it names and, on a 10BASE-T1S port, the PLCA node it came from. -/
structure SyncFrom where
  gm : Nat
  node : Nat
deriving DecidableEq, Repr

/-- What a short-circuit comparator of R288 sees: the instantaneous load current in µA, or the voltage from DRN to SRC
in µV of one MOSFET of a GD channel. -/
inductive ScInput where
  | current (ua : Int)
  | vds (odd : Bool) (uv : Int)
deriving DecidableEq, Repr

/-- A frame as the wake-up frame decoder of a CAN transceiver sees it (R251): its rate as SID_CANk_WUF_CFG.RATE codes it,
whether it is an FD frame, whether it had an error, its identifier, its DLC and its data bytes. -/
structure WakeFrame where
  rate : Nat
  fd : Bool
  err : Bool
  ide : Bool
  id : Nat
  dlc : Nat
  data : List Nat
deriving DecidableEq, Repr

/-- What reaches a wake source (R249–R252, R324), with durations in ns: the TC10 pulse of a link partner; T1S energy, or a
dominant level of a LIN bus that ends recessive; the dominant, recessive and dominant phases of a CAN bus; a CAN frame;
a voltage of an input in µV, which has stood on its side of the input's thresholds for that long. -/
inductive WakeSignal where
  | pulse
  | level (ns : Nat)
  | pattern (first gap last : Nat)
  | frame (f : WakeFrame)
  | crossing (uv : Int) (ns : Nat)
deriving DecidableEq, Repr

/-- What the MAC of a MACsec port found in a protected frame (R221): SCI, AN and PN of the SecTAG, whether its C bit says
that the data is encrypted, and whether ICV and FCS are right. -/
structure SecTag where
  sci : Nat
  an : Nat
  pn : Nat
  /-- The SecTAG itself is malformed (InPktsBadTag). -/
  badTag : Bool
  enc : Bool
  icvOk : Bool
  fcsOk : Bool
deriving DecidableEq, Repr

/-- How a CAN transmission ends (R227, R228): acknowledged, lost, or with an error of PORT_CAN_STS.LEC's code. -/
inductive CanEnd where
  | ok
  | lostArbitration
  | error (lec : Nat)
deriving DecidableEq, Repr

/-- How a LIN response ends (R231–R235): received bytes with their checksum, none, or sent by this port. -/
inductive LinEnd where
  | received (data : List Nat) (chk : Nat)
  | missing
  | sent
deriving DecidableEq, Repr


/-- The commands, in the order of the table. -/
inductive Instr where
  /-- REGISTER_WRITE (R11): A write to a register that has no row of its own, applied under its access type, GO and LK rules. -/
  | registerWrite (dt : Nat) (a : Acc) (addr width v : Nat)
  /-- CORE_MEMORY_ACCESS (R333): A core access to SRAM, DRAM, flash or control space is checked against the ownership manifest. -/
  | coreMemoryAccess (dt : Nat) (a : Acc) (kind : AccKind) (addr width v : Nat)
  /-- LATCHING_READ_LO (R71): A read of a _LO register such as TIME_NOW_LO latches its companion high word. -/
  | latchingReadLo (dt : Nat) (a : Acc) (addr : Nat)
  /-- STAGE_TICK (R46): At a grid instant the tick latches the snapshot, applies deferred commands, fires due actions, flips gates, updates STG_NUM and opens start-0 windows. -/
  | stageTick (dt : Nat)
  /-- STAGE_OUT_FALL (R40): The STAGE_OUT pulse ends WIDTH × 100 ns after the tick. -/
  | stageOutFall (dt : Nat)
  /-- WINDOW_START (R47): A coach or Guard window opens and raises the dispatch line of its core, or is skipped. -/
  | windowStart (dt : Nat) (n : Nat)
  /-- WINDOW_END (R49): A window ends and is checked for an in-time STG_DONE or STG_GDONE. -/
  | windowEnd (dt : Nat) (n : Nat)
  /-- STG_DONE (R48): A coach write to STG_DONE closes its most recent awaiting window in time or late. -/
  | stgDone (dt : Nat) (a : Acc) (c v : Nat)
  /-- STG_GDONE (R50): A Guard write to STG_GDONE closes its window. -/
  | stgGdone (dt : Nat) (a : Acc) (v : Nat)
  /-- SNAPSHOT_DELIVERY (R52): The snapshot work item writes each enabled coach's records into its buffer half, commit word last. -/
  | snapshotDelivery (dt : Nat) (crossed : Bool)
  /-- GATE_LIST_FLIP (R62): A kind 4 entry sets the egress gates of its port or all ports. -/
  | gateListFlip (dt : Nat) (n : Nat)
  /-- QUIET_START (R64): A quiet entry begins and closes the quiet classes on every external Ethernet port. -/
  | quietStart (dt : Nat) (n : Nat)
  /-- QUIET_END (R64): A quiet entry ends and the quiet classes return to their listed gate state. -/
  | quietEnd (dt : Nat) (n : Nat)
  /-- LIN_SCHEDULE_SLOT (R233): A kind 3 LIN work item decrements the slot count and may send the next schedule header. -/
  | linScheduleSlot (dt : Nat) (n : Nat)
  /-- BANDWIDTH_LATCH_POINT (R467): At the last latch point of a window the port byte sums, window length and rates latch. -/
  | bandwidthLatchPoint (dt : Nat) (n : Nat)
  /-- SYNC_RECEIVED (R76): A Sync of the primary domain gives an offset that is corrected by rate, stepped, or refused. -/
  | syncReceived (dt : Nat) (dom port : Nat) (diff256 : Int) (src : SyncFrom)
  /-- SYNC_RECEIPT_TIMEOUT (R72): Three Sync intervals without a Sync move a LOCKED servo to HOLDOVER or ACQUIRE. -/
  | syncReceiptTimeout (dt : Nat) (dom : Nat)
  /-- ANNOUNCE_RECEIVED (R85): An Announce runs the BMCA, which may make the device or another clock grandmaster. -/
  | announceReceived (dt : Nat) (dom : Nat) (heard : Heard)
  /-- PDELAY_EXCHANGE (R85): A peer-delay exchange updates the link delay or sets PDELAY_FAULT. -/
  | pdelayExchange (dt : Nat) (port : Nat) (delay : Option Nat)
  /-- TIME_ACCEPT (R78): A Guard write to TIME_ACCEPT with key and sequence applies the pending correction or is refused. -/
  | timeAccept (dt : Nat) (a : Acc) (v : Nat)
  /-- SLOT_ARM (R98): Writing ARM checks the timed-action slot, captures its registers, or denies or late-handles it. -/
  | slotArm (dt : Nat) (a : Acc) (n v : Nat)
  /-- SLOT_DISARM (R97): Writing DISARM disarms the slot at once. -/
  | slotDisarm (dt : Nat) (a : Acc) (n v : Nat)
  /-- SLOT_FIRE (R99): An armed slot reaches its fire instant and performs its action, counting down REMAIN. -/
  | slotFire (dt : Nat) (n : Nat)
  /-- TOUT_PULSE_END (R97): The pulse width elapses and the TOUT pin returns to its level. -/
  | toutPulseEnd (dt : Nat) (k : Nat)
  /-- TCAP_EDGE (R105): A selected edge on a TCAP pin is time-stamped into its FIFO or discarded on overflow. -/
  | tcapEdge (dt : Nat) (k : Nat) (falling : Bool)
  /-- TCAP_POP (R105): A read of TTA_TCAPk_TS_LO pops the oldest entry and latches TS_HI and INFO. -/
  | tcapPop (dt : Nat) (a : Acc) (k : Nat)
  /-- LOGBOOK_RECORD_WRITE (R120): A posted record is written to the main logbook ring, overwriting or dropping as needed. -/
  | logbookRecordWrite (dt : Nat)
  /-- DROPPED_RECORDS_REPORT (R122): Once the post queue has space again, code 0x0002 reports the number dropped. -/
  | droppedRecordsReport (dt : Nat)
  /-- LOGB_SPOST_GO (R118): A write to LOGB_SPOST_GO posts a software record of block 0x90. -/
  | logbSpostGo (dt : Nat) (a : Acc) (page v : Nat)
  /-- LOGB_RD_CNT_WRITE (R121): Guard writes its consumed count, re-arming the first-overwrite record. -/
  | logbRdCntWrite (dt : Nat) (a : Acc) (v : Nat)
  /-- ALWAYS_ON_WRITE (R124): The Heavia die writes a selected record into the always-on log. -/
  | alwaysOnWrite (dt : Nat) (cut : Bool)
  /-- ALWAYS_ON_FETCH (R124): A write to LOGB_AO_IDX fetches an always-on entry over the H-link. -/
  | alwaysOnFetch (dt : Nat) (a : Acc) (v : Nat)
  /-- ALWAYS_ON_FETCH_DONE (R126): The fetched entry arrives, clearing BUSY and reporting CRC errors. -/
  | alwaysOnFetchDone (dt : Nat)
  /-- AO_CLEAR_WRITE_ONCE (R127): LOGB_AO_CLR with SCOPE 0 empties the write-once region. -/
  | aoClearWriteOnce (dt : Nat) (a : Acc) (v : Nat)
  /-- AO_CLEAR_WHOLE_LOG (R127): LOGB_AO_CLR with SCOPE 1 empties the whole always-on log. -/
  | aoClearWholeLog (dt : Nat) (a : Acc) (v : Nat)
  /-- FRAME_INGRESS (R108): A frame enters the fabric and gets its waybill; trunk tags are removed. -/
  | frameIngress (dt : Nat) (p ts256 : Nat) (bytes : List Nat) (sec : Option SecTag)
  /-- FRAME_LOOKUP (R140): Once LOOKUP_DEPTH bytes have arrived the lookup decides destinations, class, stream and cut-through. -/
  | frameLookup (dt : Nat) (id : Nat)
  /-- FRAME_TAIL_CHECK (R156): At the tail a frame is judged good or bad, stomping cut-through copies and dropping stored ones. -/
  | frameTailCheck (dt : Nat) (id : Nat) (trunc : Bool) (ce : Nat) (ue : Option Nat)
  /-- EGRESS_FRAME_START (R185): An egress port selects and starts its next ready frame. -/
  | egressFrameStart (dt : Nat) (p : Nat)
  /-- EGRESS_COPY_DONE (R160): A copy's last cell leaves its port and its epoch drain count falls. -/
  | egressCopyDone (dt : Nat) (p : Nat)
  /-- CELL_ARRIVAL (R188): A cell reaches the resequencer and is passed, held, or discarded as late. -/
  | cellArrival (dt : Nat) (p src cls num idx : Nat) (last : Bool)
  /-- GAP_TIMEOUT (R189): A flow's gap timer expires and the missing cell is declared lost. -/
  | gapTimeout (dt : Nat) (p src cls : Nat)
  /-- PLANE_FAULT (R131): A plane reports a fault and is taken out of service. -/
  | planeFault (dt : Nat) (i kind : Nat)
  /-- PLANE_READMIT (R131): Guard writes READMIT and the plane runs its self-test. -/
  | planeReadmit (dt : Nat) (a : Acc) (v : Nat)
  /-- PLANE_SELF_TEST_DONE (R131): The plane self-test ends and the plane returns to service or stays out. -/
  | planeSelfTestDone (dt : Nat) (i : Nat) (pass : Bool)
  /-- RECOVERY_EXPIRED (R157): RECOVERY_LEFT counts down to 0 and the recovery reason ends. -/
  | recoveryExpired (dt : Nat)
  /-- LKP_FLIP_AT_TICK (R161): Guard requests a bank flip at the next stage tick. -/
  | lkpFlipAtTick (dt : Nat) (a : Acc) (v : Nat)
  /-- LKP_FLIP_IMMEDIATE (R161): Guard requests an immediate bank flip. -/
  | lkpFlipImmediate (dt : Nat) (a : Acc) (v : Nat)
  /-- FLIP_INSTANT (R161): SHADOW becomes ACTIVE with the next epoch, ACTIVE drains and the free bank syncs. -/
  | flipInstant (dt : Nat)
  /-- SYNC_COPY_DONE (R163): The SYNC copy completes and the bank becomes SHADOW. -/
  | syncCopyDone (dt : Nat)
  /-- DRAIN_TIMEOUT (R164): A DRAINING bank undrained after DRAIN_TMO ticks has its copies dropped. -/
  | drainTimeout (dt : Nat)
  /-- LKP_FRER_RST (R165): Guard resets a FRER instance. -/
  | lkpFrerRst (dt : Nat) (a : Acc) (v : Nat)
  /-- FRER_RESET_TIMEOUT (R150): No frame passes for RESET_MS and the recovery instance resets. -/
  | frerResetTimeout (dt : Nat) (i : Nat)
  /-- STREAM_GATE_CHANGE (R148): A stream gate list entry's offset is reached and the gate state changes. -/
  | streamGateChange (dt : Nat) (g i : Nat)
  /-- CQ_DB (R169): Software writes a new TAIL to a queue doorbell, refused if invalid. -/
  | cqDb (dt : Nat) (a : Acc) (q v : Nat)
  /-- TRANSMIT_DESCRIPTOR_SEND (R173): A coach port fetches a transmit descriptor and sends its frame or completes it with an error. -/
  | transmitDescriptorSend (dt : Nat) (o : Nat)
  /-- RECEIVE_DELIVERY (R178): A copy takes the receive descriptor at HEAD and its cells are written. -/
  | receiveDelivery (dt : Nat) (id p : Nat)
  /-- DELIVERY_RECEIPT (R194): Once every copy of a multicast is resolved, a receipt is written to the event queue. -/
  | deliveryReceipt (dt : Nat)
  /-- SAMPLE_DELIVERY (R199): After the sampled frame's tail check the sample is delivered or dropped. -/
  | sampleDelivery (dt : Nat) (dest : Nat)
  /-- OUTR_PORT_N_WRITE (R197): A write of a sampler's N reloads its counter. -/
  | outrPortNWrite (dt : Nat) (a : Acc) (p k v : Nat)
  /-- TOW_ARM (R205): A legacy write with ARM starts the 1 ms window. -/
  | towArm (dt : Nat) (a : Acc) (v : Nat)
  /-- TOW_ENABLE (R205): A legacy write with ENABLE turns the mirror on after checks, or sets an error. -/
  | towEnable (dt : Nat) (a : Acc) (v : Nat)
  /-- TOW_DISABLE (R205): A legacy write with DISABLE turns the mirror off. -/
  | towDisable (dt : Nat) (a : Acc) (v : Nat)
  /-- TOW_ARM_EXPIRY (R205): The 1 ms arm window elapses without ENABLE. -/
  | towArmExpiry (dt : Nat)
  /-- LINK_UP (R214): A port's link comes up. -/
  | linkUp (dt : Nat) (p rate sqi : Nat) (master : Bool)
  /-- LINK_DOWN (R214): A port's link goes down. -/
  | linkDown (dt : Nat) (p : Nat)
  /-- TRAINING_FAILURE (R215): A T10 training attempt fails and may fall back to a lower rate. -/
  | trainingFailure (dt : Nat) (p : Nat)
  /-- CRANK_LIMIT_EXIT (R216): VBAT_L held at 9.5 V for 1 s clears CRANK_LIMIT and may upshift. -/
  | crankLimitExit (dt : Nat)
  /-- LINK_RESTART (R217): PORT_CTL.LINK_RESTART drops and retrains an Ethernet link. -/
  | linkRestart (dt : Nat) (a : Acc) (p v : Nat)
  /-- CABLE_TEST (R217): PORT_CTL.CABLE_TEST starts a reflectometry test while the link is down. -/
  | cableTest (dt : Nat) (a : Acc) (p v : Nat)
  /-- CABLE_TEST_DONE (R217): The cable test ends and its result appears in PORT_PHY_STS. -/
  | cableTestDone (dt : Nat) (p cable dist : Nat)
  /-- CAN_RECOVER (R228): The owner starts bus-off recovery of a CAN port. -/
  | canRecover (dt : Nat) (a : Acc) (p v : Nat)
  /-- BUS_OFF_RECOVERY_DONE (R228): The 128 occurrences of 11 recessive bits complete and the controller returns to error-active. -/
  | busOffRecoveryDone (dt : Nat) (p : Nat)
  /-- PLCA_BEACON_LOSS (R219): A follower sees no BEACON for four PLCA cycles. -/
  | plcaBeaconLoss (dt : Nat) (p : Nat)
  /-- MSEC_TXSA_SWITCH (R223): A new transmit AN takes effect at the next frame boundary. -/
  | msecTxsaSwitch (dt : Nat) (a : Acc) (p v : Nat)
  /-- CAN_FRAME_RECEIVED (R226): A CAN controller receives a frame without error and injects it as a carriage. -/
  | canFrameReceived (dt : Nat) (p ts256 : Nat) (car : List Nat)
  /-- CAN_TX_BUFFER_LOAD (R227): A free transmit buffer is filled from the egress queues if the frame fits before its gate closes. -/
  | canTxBufferLoad (dt : Nat) (p : Nat)
  /-- CAN_TX_ATTEMPT_END (R227): A CAN transmission is acknowledged, loses arbitration, or errs and is retried or aborted. -/
  | canTxAttemptEnd (dt : Nat) (p : Nat) (how : CanEnd)
  /-- TRANSCEIVER_FAULT (R229): A transceiver detects a dominant timeout, short or thermal shutdown. -/
  | transceiverFault (dt : Nat) (p k : Nat)
  /-- LIN_CARRIAGE_EGRESS (R232): A LIN carriage replaces the publish buffer of its ID or is discarded. -/
  | linCarriageEgress (dt : Nat) (p : Nat)
  /-- LIN_RESPONSE_RECEIVED (R231): A LIN response ends and is injected, flagged as error, or taken as a collision. -/
  | linResponseReceived (dt : Nat) (p : Nat) (how : LinEnd)
  /-- LIN_SCHED_SWITCH (R235): A write of SWITCH requests the other schedule table. -/
  | linSchedSwitch (dt : Nat) (a : Acc) (p v : Nat)
  /-- LIN_SCHED_RUN (R233): A write of RUN starts or stops the commander schedule. -/
  | linSchedRun (dt : Nat) (a : Acc) (p v : Nat)
  /-- PORT_REQUEST_ACTIVE (R240): A siding request moves a port to ACTIVE. -/
  | portRequestActive (dt : Nat) (a : Acc) (p v : Nat)
  /-- PORT_REQUEST_IGNORE (R240): A siding request moves a port to IGNORE. -/
  | portRequestIgnore (dt : Nat) (a : Acc) (p v : Nat)
  /-- PORT_REQUEST_ASLEEP (R240): A siding request performs the port's sleep action. -/
  | portRequestAsleep (dt : Nat) (a : Acc) (p v : Nat)
  /-- PORT_SLEEP_ACK (R243): A port's sleep action completes, such as a TC10 acknowledgement, and the port is ASLEEP. -/
  | portSleepAck (dt : Nat) (p : Nat)
  /-- ENTRY_COMPLETE (R245): The Beyvo rails are off and the module is in SENTINEL or PARKED. -/
  | entryComplete (dt : Nat)
  /-- PRE_SLEEP_TIMEOUT (R242): PRE_TMO_MS elapses and ports are forced asleep or the sleep aborts. -/
  | preSleepTimeout (dt : Nat)
  /-- WAKE_DETECTED (R249): An armed wake source detects a wake, waking a port or the module. -/
  | wakeDetected (dt : Nat) (src : Nat) (sig : WakeSignal)
  /-- SLEEP_EXIT (R437): An exit from SENTINEL or PARKED drives bus wakes and runs start-up anew. -/
  | sleepExit (dt : Nat) (bootsel : Nat) (meshOk : Bool)
  /-- SID_CONFIRM (R255): A write of a source to SID_CONFIRM confirms a wake or ends a lockout. -/
  | sidConfirm (dt : Nat) (a : Acc) (v : Nat)
  /-- CONFIRMATION_WINDOW_END (R256): An unconfirmed window ends, counting a false wake or locking out the source. -/
  | confirmationWindowEnd (dt : Nat) (src : Nat)
  /-- LOCKOUT_EXPIRY (R256): LOCK_LEFT reaches 0 and the source rearms. -/
  | lockoutExpiry (dt : Nat) (src : Nat)
  /-- TRANSCEIVER_FS_TIMEOUT (R259): A transceiver in standby unacknowledged for T_FS_MS returns to sleep. -/
  | transceiverFsTimeout (dt : Nat) (p : Nat)
  /-- CHANNEL_CMD_OFF (R270): An OFF command switches the channel off at its mode's instant. -/
  | channelCmdOff (dt : Nat) (a : Acc) (i v : Nat)
  /-- CHANNEL_CMD_ON (R270): An ON command switches the channel on and starts the envelope. -/
  | channelCmdOn (dt : Nat) (a : Acc) (i v : Nat)
  /-- CHANNEL_CMD_PWM (R270): A PWM command starts PWM at DUTY from the next cadence period. -/
  | channelCmdPwm (dt : Nat) (a : Acc) (i v : Nat)
  /-- CHANNEL_CMD_DUTY (R270): A DUTY command stores or applies a new duty. -/
  | channelCmdDuty (dt : Nat) (a : Acc) (i v : Nat)
  /-- CHANNEL_CMD_FWD (R267): A FWD command on a pair conducts supply to load only. -/
  | channelCmdFwd (dt : Nat) (a : Acc) (i v : Nat)
  /-- CHANNEL_CMD_REV (R267): A REV command on a pair conducts load to supply only. -/
  | channelCmdRev (dt : Nat) (a : Acc) (i v : Nat)
  /-- CADENCE_PERIOD_START (R272): A cadence period begins and its PWM channels turn on at their phase. -/
  | cadencePeriodStart (dt : Nat) (c : Nat) (edge : Option Nat)
  /-- PWM_OFF_EDGE (R273): A PWM pulse's on-time ends and the channel turns off. -/
  | pwmOffEdge (dt : Nat) (i : Nat)
  /-- Q_CLR (R280): CHAN_CTL.Q_CLR clears the charge counter. -/
  | qClr (dt : Nat) (a : Acc) (i : Nat)
  /-- CNT_CLR (R280): CHAN_CTL.CNT_CLR clears the switch-on counter. -/
  | cntClr (dt : Nat) (a : Acc) (i : Nat)
  /-- SENSE_READING (R276): Every 1 µs each channel delivers current and voltage readings that feed range, envelope and diagnostics. -/
  | senseReading (dt : Nat) (i : Nat) (cur volt voltOdd supply tj : Int)
  /-- REVERSE_BLOCK_END (R304): After 1 ms of forward voltage a blocking pair turns its odd MOSFET on again. -/
  | reverseBlockEnd (dt : Nat) (i : Nat)
  /-- SHORT_CIRCUIT_TRIP (R288): The analogue comparator or VDS check crosses its threshold and turns the output off. -/
  | shortCircuitTrip (dt : Nat) (i : Nat) (seen : ScInput)
  /-- MODEL_UPDATE (R290): Every 1 ms the harness and GD junction models update their temperatures. -/
  | modelUpdate (dt : Nat)
  /-- RETRY_RESTART (R296): After DELAY_MS and all holding conditions end, a channel in RETRY restarts. -/
  | retryRestart (dt : Nat) (i : Nat)
  /-- RETRY_COUNT_CLEAR (R297): GOOD_S seconds of trip-free conduction return RETRY_CNT to 0. -/
  | retryCountClear (dt : Nat) (i : Nat)
  /-- UNLATCH (R298): A write of CHAN_PCTL.UNLATCH leaves LATCHED or is refused. -/
  | unlatch (dt : Nat) (a : Acc) (i : Nat)
  /-- PULL_UP_TEST (R302): Every OL_OFF_INT an off channel starts its pull-up test after a tick. -/
  | pullUpTest (dt : Nat) (i : Nat) (supplyLow : Bool)
  /-- PULL_UP_TEST_END (R302): The pull-up test ends and sets or clears OPEN_OFF. -/
  | pullUpTestEnd (dt : Nat) (i : Nat) (volt : Int)
  /-- BUDGETER_UPDATE (R305): Every 1 ms the budgeter estimates power and currents and may shed one channel. -/
  | budgeterUpdate (dt : Nat) (logic : Nat)
  /-- BUDGET_RELEASE (R306): After REL_MS below every release threshold one shed channel is released. -/
  | budgetRelease (dt : Nat)
  /-- RETAINED_STATE_WRITE (R308): Every second the Heavia die writes θ, φ and RETRY_CNT to retention memory. -/
  | retainedStateWrite (dt : Nat)
  /-- HLINK_CRC_ERROR (R309): An H-link block arrives with a CRC error and is retried, possibly dropping a lane or the link. -/
  | hlinkCrcError (dt : Nat) (bad good : Nat) (again : Bool)
  /-- HLINK_UP (R310): The H-link retraining completes and the link is up. -/
  | hlinkUp (dt : Nat) (lanes : Nat)
  /-- HLK_CW_WORD (R312): Guard writes a coachman word, correct or wrong. -/
  | hlkCwWord (dt : Nat) (a : Acc) (v : Nat)
  /-- WATCHDOG_WINDOW_END (R312): A watchdog window ends without a correct word and counts a miss. -/
  | watchdogWindowEnd (dt : Nat)
  /-- HLK_DS_RELEASE (R315): Guard writes HLK_DS_CTL to release drag-shoe states at the next tick. -/
  | hlkDsRelease (dt : Nat) (a : Acc) (v : Nat)
  /-- COAST_START (R316): Detection of a Beyvo reset or rail loss starts a coast holding the outputs. -/
  | coastStart (dt : Nat)
  /-- COAST_EXPIRY (R316): COAST_LEFT reaches 0 and drag-shoe states apply with cause 2. -/
  | coastExpiry (dt : Nat)
  /-- LIO_CONVERSION (R318): Every 10 µs each input converts its voltage and checks wetting current. -/
  | lioConversion (dt : Nat) (n : Nat) (mv : Int) (ua : Nat) (openSwitch : Bool)
  /-- LIO_EDGE (R320): A crossing held for the debounce time changes LEVEL and enters the edge FIFO. -/
  | lioEdge (dt : Nat) (n : Nat) (uv : Int) (held256 : Nat)
  /-- LIO_EDGE_POP (R321): A read of LIO_EDGE_LOn pops the oldest edge and latches HI and INFO. -/
  | lioEdgePop (dt : Nat) (a : Acc) (n : Nat)
  /-- LIO_FAST_SAMPLE (R323): A fast sample is taken at its grid instant into the fast FIFO. -/
  | lioFastSample (dt : Nat) (n k : Nat)
  /-- LIO_FAST_POP (R323): A read of LIO_FASTn pops the oldest fast sample. -/
  | lioFastPop (dt : Nat) (a : Acc) (n : Nat)
  /-- MAN_EDIT_CMD (R337): Guard starts a manifest entry edit with GO and key. -/
  | manEditCmd (dt : Nat) (a : Acc) (v : Nat)
  /-- MAN_EDIT_DONE (R338): The edit completes, zeroising on owner change, or is refused. -/
  | manEditDone (dt : Nat)
  /-- GCALL (R340): GCALL switches a coach core to the Guard world at its entry. -/
  | gcall (dt : Nat) (core imm : Nat)
  /-- GRET (R340): GRET returns the core to the Open world. -/
  | gret (dt : Nat) (core : Nat)
  /-- GUARD_TIME_LIMIT_EXPIRY (R342): The Guard time limit expires and Guard restarts on that core. -/
  | guardTimeLimitExpiry (dt : Nat) (core : Nat)
  /-- REMEASUREMENT_DONE (R343): Re-measurement of Guard pages ends with a match or a severity-3 fault. -/
  | remeasurementDone (dt : Nat) (core : Nat)
  /-- MAN_GINFO_READ (R344): A read of MAN_COREk_GINFO clears RESTARTED and NOT_QUIESCED. -/
  | manGinfoRead (dt : Nat) (a : Acc) (core : Nat)
  /-- PWRM_GUARD_QUIESCED (R346): Guard marks itself quiesced for the sleep handshake. -/
  | pwrmGuardQuiesced (dt : Nat) (a : Acc) (v : Nat)
  /-- GUARD_QUIESCE_TIMEOUT (R346): The one-stage quiesce timer runs out and Guard counts as quiesced with a fault. -/
  | guardQuiesceTimeout (dt : Nat)
  /-- INTERRUPT_RAISED (R348): A source event sets its pending bit at the local controller of its route. -/
  | interruptRaised (dt : Nat) (src : Nat)
  /-- IRQ_CLAIM (R349): A read of IRQ_LCk_CLAIM returns and activates the presented source. -/
  | irqClaim (dt : Nat) (a : Acc) (core : Nat) (guardHalf : Bool)
  /-- IRQ_EOI (R349): A write to IRQ_LCk_EOI ends a source's active state or flags EOI_ERR. -/
  | irqEoi (dt : Nat) (a : Acc) (core : Nat) (guardHalf : Bool) (v : Nat)
  /-- BOUNDARY_MISMATCH (R355): A leader and wheeler output differ; both cores stop and the pair resets. -/
  | boundaryMismatch (dt : Nat) (pair kind : Nat) (addrDiff dataDiff attrDiff inGuard : Bool) (addr : Nat)
  /-- FOLD_CAPTURE (R357): Every FOLD_INTERVAL cycles the fold engine captures both cores' registers. -/
  | foldCapture (dt : Nat) (pair : Nat) (leader wheeler : List Nat)
  /-- FOLD_COMPARE (R359): Both CRCs complete and differ as a latent mismatch or match. -/
  | foldCompare (dt : Nat) (pair : Nat)
  /-- TANDEM_INFRASTRUCTURE_FAULT (R361): A self-test failure or delay parity error degrades the pair. -/
  | tandemInfrastructureFault (dt : Nat) (pair : Nat) (parity : Bool) (rail : Nat)
  /-- TAN_INJ_BOUNDARY (R364): TAN_INJ flips bit 0 of the leader's next bus request. -/
  | tanInjBoundary (dt : Nat) (a : Acc) (v : Nat)
  /-- TAN_INJ_FOLD (R364): TAN_INJ flips bit 0 of the wheeler's next fold CRC. -/
  | tanInjFold (dt : Nat) (a : Acc) (v : Nat)
  /-- TAN_INJ_SELF_TEST (R364): TAN_INJ suppresses the next self-test flag of rail 0. -/
  | tanInjSelfTest (dt : Nat) (a : Acc) (v : Nat)
  /-- SBX_SUBMIT (R385): Guard queues a strongbox command descriptor. -/
  | sbxSubmit (dt : Nat) (a : Acc) (v : Nat)
  /-- GENERATE (R366): The strongbox generates a new key into a slot or shadow. -/
  | generate (dt : Nat)
  /-- DERIVE (R371): The strongbox derives a key by the counter-mode KDF from a parent. -/
  | derive (dt : Nat)
  /-- UNWRAP (R385): The strongbox unwraps a key blob into a slot. -/
  | unwrap (dt : Nat)
  /-- WRAP (R385): The strongbox wraps an exportable key into a blob. -/
  | wrap (dt : Nat)
  /-- PUBLIC (R380): The strongbox writes the public key of a TYPE 5 or 6 slot. -/
  | publicKey (dt : Nat)
  /-- ECDH (R380): P-384 key agreement places a shared secret in a slot. -/
  | ecdh (dt : Nat)
  /-- KEM_ENC (R380): ML-KEM-768 encapsulation writes a ciphertext and a shared secret. -/
  | kemEnc (dt : Nat)
  /-- KEM_DEC (R380): ML-KEM-768 decapsulation places a shared secret in a slot. -/
  | kemDec (dt : Nat)
  /-- VERIFY_ECDSA (R379): The strongbox verifies an ECDSA P-384 signature. -/
  | verifyEcdsa (dt : Nat)
  /-- VERIFY_MLDSA (R379): The strongbox verifies an ML-DSA-65 signature. -/
  | verifyMldsa (dt : Nat)
  /-- VERIFY_HYBRID (R379): The strongbox verifies both signatures of a hybrid pair. -/
  | verifyHybrid (dt : Nat)
  /-- RANDOM (R381): The strongbox returns DRBG bytes. -/
  | random (dt : Nat)
  /-- VERIFY_STAGED (R373): The shadow key is checked by key-check value or signature. -/
  | verifyStaged (dt : Nat)
  /-- COMMIT (R372): A verified shadow is swapped in, GEN increments and descendants are invalidated. -/
  | commit (dt : Nat)
  /-- DISCARD (R372): The shadow of a slot is cleared. -/
  | discard (dt : Nat)
  /-- INVALIDATE (R375): A slot and all descendants are revoked. -/
  | invalidate (dt : Nat)
  /-- ERASE (R375): A slot without children is erased once its operations end. -/
  | erase (dt : Nat)
  /-- ODO_READ (R382): The strongbox returns an odometer value. -/
  | odoRead (dt : Nat)
  /-- ODO_ADVANCE (R382): The strongbox advances one of Guard's odometers. -/
  | odoAdvance (dt : Nat)
  /-- DEBUG_CERT (R384): A debug certificate is verified and grants enables or is refused. -/
  | debugCert (dt : Nat)
  /-- TAMPER_ALARM (R377): A tamper source alarms; keys are zeroised and tamper hold entered. -/
  | tamperAlarm (dt : Nat) (sources : Nat)
  /-- TRNG_HEALTH_FAILURE (R381): A TRNG health test fails and entropy operations are refused. -/
  | trngHealthFailure (dt : Nat)
  /-- DRBG_RESEED_RETRY (R381): Every 10 ms a failed DRBG retries its reseed. -/
  | drbgReseedRetry (dt : Nat) (ok : Bool)
  /-- SBX_DRBG_READ (R381): A read of SBX_DRBG returns a fresh DRBG word. -/
  | sbxDrbgRead (dt : Nat) (a : Acc)
  /-- CE_SUBMIT (R387): Guard queues a cipher command descriptor on a lane. -/
  | ceSubmit (dt : Nat) (a : Acc) (lane v : Nat)
  /-- ENCRYPT (R391): A lane encrypts a message and delivers ciphertext chunks. -/
  | encrypt (dt : Nat) (lane : Nat)
  /-- DECRYPT (R397): A lane decrypts into escrow, releasing plaintext after the tag or provisionally. -/
  | decrypt (dt : Nat) (lane : Nat)
  /-- MAC_GEN (R391): A lane computes a MAC into the completion record. -/
  | macGen (dt : Nat) (lane : Nat)
  /-- MAC_VERIFY (R391): A lane verifies a MAC tag. -/
  | macVerify (dt : Nat) (lane : Nat)
  /-- HASH (R391): A lane computes a digest into the completion record. -/
  | hashMsg (dt : Nat) (lane : Nat)
  /-- MSEC_INSTALL (R403): A TYPE 8 key is copied into a MACsec SA. -/
  | msecInstall (dt : Nat) (lane : Nat)
  /-- MSEC_REMOVE (R403): A MACsec SA's key is zeroised. -/
  | msecRemove (dt : Nat) (lane : Nat)
  /-- CHUNK_DELIVERY_RETRY (R389): A held chunk is retried at a tick or doorbell of its queue. -/
  | chunkDeliveryRetry (dt : Nat) (lane : Nat)
  /-- OUTPUT_STALL_TIMEOUT (R389): A lane unable to deliver for STALL_MS ends its command with OUT_STALL. -/
  | outputStallTimeout (dt : Nat) (lane : Nat)
  /-- PROVISIONAL_REVOKE (R399): After released chunks complete, unconsumed descriptors are purged at the purge instant and a revoke notice placed. -/
  | provisionalRevoke (dt : Nat) (lane : Nat)
  /-- NONCE_BLOCK_RESERVED (R396): A lane's advance of odometer 0 completes and a block of counter values is reserved. -/
  | nonceBlockReserved (dt : Nat) (lane : Nat)
  /-- CE_KEYLOAD (R394): A write to CE_KEYLOAD loads a temporary key register. -/
  | ceKeyload (dt : Nat) (a : Acc) (v : Nat)
  /-- CE_KEYLOAD_CLR (R394): A write to CE_KEYLOAD with CLR zeroises a temporary key register. -/
  | ceKeyloadClr (dt : Nat) (a : Acc) (v : Nat)
  /-- LANE_FAULT (R402): A parity or ECC error takes a lane out of service and erases temporary keys. -/
  | laneFault (dt : Nat) (lane : Nat)
  /-- CE_LANE_READMIT (R402): Guard writes READMIT and the lane runs its known-answer tests. -/
  | ceLaneReadmit (dt : Nat) (a : Acc) (v : Nat)
  /-- LANE_SELF_TEST_DONE (R402): The lane's tests end and it returns to service or stays out. -/
  | laneSelfTestDone (dt : Nat) (lane : Nat) (pass : Bool)
  /-- POWER_ON_RESET (R448): VBAT_L rising out of lockout resets both dies. -/
  | powerOnReset (dt : Nat) (bootsel : Nat)
  /-- DEVICE_RESET (R448): Both dies reset, channels off at once, then start-up. -/
  | deviceReset (dt : Nat) (bootsel : Nat) (meshOk : Bool)
  /-- BEYVO_RESET (R448): The Beyvo die resets under a coast, then starts up. -/
  | beyvoReset (dt : Nat) (bootsel : Nat)
  /-- RESET_N_LOW (R451): RESET_N held low for 10 µs starts a device reset. -/
  | resetNLow (dt : Nat) (us : Nat)
  /-- BOOT_SEQUENCE (R417): The boot ROM selects, verifies and applies a consist, loads images and seals. -/
  | bootSequence (dt : Nat) (pufOk : Bool) (unread : Nat) (imageOk sleepOk : Bool) (odo : List (Nat × Option Nat))
  /-- SEAL (R420): The boot ROM writes SYS_SEAL, locking LK registers and starting Guard. -/
  | seal (dt : Nat) (failed : Nat)
  /-- BOOT_TIMER_EXPIRY (R421): The 5 s boot timer expires and a device reset or boot hold follows. -/
  | bootTimerExpiry (dt : Nat)
  /-- CERTIFICATE_WAIT_TIMEOUT (R423): In factory test no certificate arrives within 10 s and boot hold follows. -/
  | certificateWaitTimeout (dt : Nat)
  /-- COACH_START (R422): A coach's start condition holds and its cores are released. -/
  | coachStart (dt : Nat) (c : Nat)
  /-- COACH_START_TIMEOUT (R422): TMO × 100 ms after seal the coach is started anyway. -/
  | coachStartTimeout (dt : Nat) (c : Nat)
  /-- GUARD_GO (R422): Guard sets SYS_CTL.GUARD_GO. -/
  | guardGo (dt : Nat) (a : Acc) (v : Nat)
  /-- SYS_ROLLBACK_CMT (R415): Guard blows consist version fuses up to the booted ROLLBACK. -/
  | sysRollbackCmt (dt : Nat) (a : Acc) (v : Nat)
  /-- FLASH_ERASE (R416): SYS_FLASH_CMD OP 1 erases a 64 KiB sector. -/
  | flashErase (dt : Nat) (a : Acc) (v : Nat)
  /-- FLASH_PROGRAM (R416): SYS_FLASH_CMD OP 2 programs bytes from a Guard SRAM page. -/
  | flashProgram (dt : Nat) (a : Acc) (v : Nat)
  /-- FLASH_COMMAND_DONE (R416): A flash command completes and sets DONE or ERROR. -/
  | flashCommandDone (dt : Nat) (ok : Bool)
  /-- HELLO (R424): In service boot the device broadcasts HELLO every 100 ms. -/
  | hello (dt : Nat)
  /-- DATA (R424): A service DATA frame adds image bytes at OFFSET and is acknowledged. -/
  | data (dt : Nat) (tool offset : Nat) (data : List Nat)
  /-- CERT (R425): A service CERT frame delivers debug certificate bytes. -/
  | cert (dt : Nat) (offset : Nat) (data : List Nat)
  /-- CERT_LOAD (R426): The JTAG instruction CERT_LOAD shifts in a certificate. -/
  | certLoad (dt : Nat) (cert : List Nat)
  /-- CERT_STS (R426): The JTAG instruction CERT_STS returns the certificate status. -/
  | certSts (dt : Nat)
  /-- DEBUG_READ (R426): An access word reads 32 bits through JTAG or a DEBUG frame. -/
  | debugRead (dt : Nat) (port : Bool) (core addr : Nat)
  /-- DEBUG_WRITE (R426): An access word writes 32 bits. -/
  | debugWrite (dt : Nat) (port : Bool) (core addr v : Nat)
  /-- DEBUG_HALT (R426): An access word halts a core. -/
  | debugHalt (dt : Nat) (port : Bool) (core addr : Nat)
  /-- DEBUG_RESUME (R426): An access word resumes a core. -/
  | debugResume (dt : Nat) (port : Bool) (core addr : Nat)
  /-- DEBUG_STEP (R426): An access word steps a core. -/
  | debugStep (dt : Nat) (port : Bool) (core addr : Nat)
  /-- PWRM_SLEEP_REQ (R432): An owner writes its sleep request, possibly withdrawing during a handshake. -/
  | pwrmSleepReq (dt : Nat) (a : Acc) (o v : Nat)
  /-- PWRM_TOL_US (R435): An owner writes its tolerable exit latency, possibly withdrawing. -/
  | pwrmTolUs (dt : Nat) (a : Acc) (o v : Nat)
  /-- CORE_WAIT (R430): A core's wait instruction in DROWSE lowers its rail to retention. -/
  | coreWait (dt : Nat) (core : Nat)
  /-- CORE_RETENTION_WAKE (R430): A dispatch or interrupt wakes a retained core after 2 µs. -/
  | coreRetentionWake (dt : Nat) (core : Nat)
  /-- WAKE_TIMER_EXPIRY (R436): PWRM_WAKE_TMR reaches 0 in SENTINEL and wakes the module. -/
  | wakeTimerExpiry (dt : Nat)
  /-- SUPPLY_RANGE_CHANGE (R439): VBAT_L crosses a range threshold and the Heavia die acts on the new range. -/
  | supplyRangeChange (dt : Nat) (range : Nat) (low : Bool) (bootsel : Nat) (meshOk : Bool)
  /-- REFCLK_SELECTED (R440): REFCLK stays valid for 1 s and the time clock switches to it. -/
  | refclkSelected (dt : Nat) (ppm : Nat)
  /-- REFCLK_LOST (R440): REFCLK stops or drifts and the time clock returns to the 50 MHz reference. -/
  | refclkLost (dt : Nat) (edges : Bool) (ppm : Nat)
  /-- PLL_UNLOCK (R441): A PLL loses lock and the device resets. -/
  | pllUnlock (dt : Nat) (pll : Nat)
  /-- CLK_GATE_WRITE (R442): A write to a clock gate requests gating of a unit. -/
  | clkGateWrite (dt : Nat) (a : Acc) (u v : Nat)
  /-- PWRM_PGATE_WRITE (R442): A write to a power gate requests powering a unit down. -/
  | pwrmPgateWrite (dt : Nat) (a : Acc) (u v : Nat)
  /-- GATE_IN_EFFECT (R442): A requested gate takes effect once its unit is idle. -/
  | gateInEffect (dt : Nat) (u j : Nat)
  /-- FRM_ACK (R445): Guard clears PEND and FAULT_N may rise. -/
  | frmAck (dt : Nat) (a : Acc) (v : Nat)
  /-- FRM_SAFE_CTL (R446): Guard releases SAFE_N or the release is refused. -/
  | frmSafeCtl (dt : Nat) (a : Acc) (v : Nat)
  /-- FRM_SWFAULT (R447): Software reports a fault through FRM_SWFAULT. -/
  | frmSwfault (dt : Nat) (a : Acc) (page v : Nat)
  /-- FRM_RESET_DEVICE (R448): FRM_RESET_CMD KIND 1 starts a device reset. -/
  | frmResetDevice (dt : Nat) (a : Acc) (v : Nat)
  /-- FRM_RESET_BEYVO (R448): FRM_RESET_CMD KIND 2 starts a Beyvo reset. -/
  | frmResetBeyvo (dt : Nat) (a : Acc) (v : Nat)
  /-- COACH_RESET (R453): A coach is reset through the six steps, applying its channel policy and scrub. -/
  | coachReset (dt : Nat) (c : Nat)
  /-- CA_RESET_REQ (R453): A coach requests its own reset with the key. -/
  | caResetReq (dt : Nat) (a : Acc) (c v : Nat)
  /-- FRM_COACH_RESET (R453): Guard's write of FRM_COACHc_CTL.RESET starts a coach reset. -/
  | frmCoachReset (dt : Nat) (a : Acc) (c v : Nat)
  /-- FRM_COACH_RESTART (R455): Guard's write of RESTART releases a held coach. -/
  | frmCoachRestart (dt : Nat) (a : Acc) (c v : Nat)
  /-- FRM_COACH_DS_REL (R454): Guard's write of DS_REL releases a coach's drag-shoe states or is refused. -/
  | frmCoachDsRel (dt : Nat) (a : Acc) (c v : Nat)
  /-- FRM_CTL_LOCK (R456): Guard locks the FRM configuration until device reset. -/
  | frmCtlLock (dt : Nat) (a : Acc) (v : Nat)
  /-- BLOCK_RESET_CAN_LIN (R456): FRM_BLK_RST UNIT 1 restarts a CAN or LIN controller and transceiver. -/
  | blockResetCanLin (dt : Nat) (a : Acc) (v : Nat)
  /-- BLOCK_RESET_TALLY (R456): FRM_BLK_RST UNIT 2 zeroes every counter and sampling buffer. -/
  | blockResetTally (dt : Nat) (a : Acc) (v : Nat)
  /-- BLOCK_RESET_OUTR (R456): FRM_BLK_RST UNIT 3 reloads every sampler counter. -/
  | blockResetOutr (dt : Nat) (a : Acc) (v : Nat)
  /-- BLOCK_RESET_LIO (R456): FRM_BLK_RST UNIT 4 empties an input's edge and fast FIFOs. -/
  | blockResetLio (dt : Nat) (a : Acc) (v : Nat)
  /-- TALLY_COUNTER_WRITE (R460): A write to a counter half sets it, overriding a same-cycle increment. -/
  | tallyCounterWrite (dt : Nat) (a : Acc) (addr v : Nat)
  /-- PRECISE_SAMPLE (R463): A due sample writes a record to the core's sampling buffer, or stops or wraps when full. -/
  | preciseSample (dt : Nat) (core count addr opcode latency : Nat)
  /-- SMP_CFG_WRITE (R463): A write to SMP_CFG restarts the sampling count. -/
  | smpCfgWrite (dt : Nat) (a : Acc) (core v : Nat)
  /-- SMP_RD_WRITE (R465): Software writes its consumed count, resuming a stopped buffer. -/
  | smpRdWrite (dt : Nat) (a : Acc) (core v : Nat)
  /-- PLCA_BEACON_RETURN (R219): A PLCA follower that had lost BEACONs receives them again, sets PORT_PLCA_STS.STATUS and leaves CSMA/CD for PLCA. -/
  | plcaBeaconReturn (dt : Nat) (p : Nat)
  /-- CAN_RECEIVE_ERROR (R228): A CAN controller meets an error or a protocol exception while receiving, updating REC, LEC, PORT_RX_ERR or PORT_FMT_CNT and possibly its fault confinement state. -/
  | canReceiveError (dt : Nat) (p lec : Nat) (by8 : Bool)
  /-- LIN_HEADER_RECEIVED (R231): A LIN responder receives a break, SYNC and PID, sends its publish response or prepares to receive, and flags SYNC or PID errors. -/
  | linHeaderReceived (dt : Nat) (p ts256 : Nat) (syncOk : Bool) (pid : Nat)
  /-- VBAT_P3_REVERSE (R262): VBAT_P3 falls below or returns above GND, and every gate driver holds GATE at SRC while CHAN_GSTS.P3_REV reads 1. -/
  | vbatP3Reverse (dt : Nat) (below : Bool)
  /-- HOLDOVER_AVAIL_REACHED (R73): TIME_LOCK_SECS reaches 64 seconds of unbroken lock and TIME_STS.HOLDOVER_AVAIL becomes 1. -/
  | holdoverAvailReached (dt : Nat)
deriving DecidableEq, Repr

end Sys2Proof
end

