-- ==== Sys2Proof/Decode.lean ====
section
/-! DEFINITION. The words of the commands. The block takes its commands from outside and decodes none: no row of
spec/opcode_table.json gives bits (assumption 1). -/

namespace Sys2Proof

/-- The command that a word spells by the table's bits: none, since no row has bits. -/
def decodeTableWord (_nbits _w : Nat) : Option Instr := none

end Sys2Proof
end

