-- ==== Sys2Proof/Machine/Bits.lean ====
section
/-! DEFINITION. Bit fields, signed readings of bit fields, and sparse tables: the plain arithmetic that the
whole model shares. -/

namespace Sys2Proof.Machine

/-- A named bit field [hi:lo] of the register at `addr`. -/
structure Fld where
  addr : Nat
  hi : Nat
  lo : Nat
deriving DecidableEq, Repr

/-- Bits [hi:lo] of `n`. -/
def bits (hi lo n : Nat) : Nat := n / 2 ^ lo % 2 ^ (hi + 1 - lo)

/-- `n` with bits [hi:lo] replaced by the low bits of `v`. -/
def putBits (hi lo n v : Nat) : Nat :=
  n % 2 ^ lo + (v % 2 ^ (hi + 1 - lo)) * 2 ^ lo + n / 2 ^ (hi + 1) * 2 ^ (hi + 1)

/-- Bit `k` of `n`. -/
def bit (k n : Nat) : Bool := n / 2 ^ k % 2 == 1

/-- 1 for true. -/
def b2n (b : Bool) : Nat := if b then 1 else 0

/-- The low `w` bits of `n` as a two's complement number. -/
def sgn (w n : Nat) : Int :=
  if n % 2 ^ w < 2 ^ (w - 1) then (n % 2 ^ w : Nat) else (n % 2 ^ w : Nat) - (2 ^ w : Nat)

/-- A number as `w` bits in two's complement. -/
def unsgn (w : Nat) (z : Int) : Nat := (z % (2 ^ w : Nat)).toNat

/-- A number held between two bounds. -/
def clampInt (lo hi z : Int) : Int := if z < lo then lo else if hi < z then hi else z

/-- One more, in `w` bits. -/
def incW (w n : Nat) : Nat := (n + 1) % 2 ^ w

/-- One more, held at `2 ^ w - 1`. -/
def incSat (w n : Nat) : Nat := if n + 1 < 2 ^ w then n + 1 else 2 ^ w - 1

/-! ### Sparse tables: `(key, value)` pairs, keys rising, no value equal to the default of its key. -/

/-- The value at key `a`, or `d` when none is listed. -/
def tget {α : Type} (d : α) : List (Nat × α) → Nat → α
  | [], _ => d
  | (k, v) :: r, a => if k = a then v else tget d r a

/-- The table without key `a`. -/
def terase {α : Type} (a : Nat) : List (Nat × α) → List (Nat × α)
  | [] => []
  | (k, v) :: r => if k = a then terase a r else (k, v) :: terase a r

/-- The table with an entry put before the first larger key. -/
def tput {α : Type} (a : Nat) (v : α) : List (Nat × α) → List (Nat × α)
  | [] => [(a, v)]
  | (k, w) :: r => if a < k then (a, v) :: (k, w) :: r else (k, w) :: tput a v r

/-- The table with value `v` at key `a`, where `d` is the default of that key. -/
def tset {α : Type} [DecidableEq α] (d v : α) (a : Nat) (t : List (Nat × α)) : List (Nat × α) :=
  if v = d then terase a t else tput a v (terase a t)

/-- Keys strictly rising, each above `lo`. -/
def keysAbove {α : Type} : Option Nat → List (Nat × α) → Bool
  | _, [] => true
  | none, (k, _) :: r => keysAbove (some k) r
  | some lo, (k, _) :: r => decide (lo < k) && keysAbove (some k) r

/-- The canonical form of a table: keys strictly rising, no entry at its default. -/
def twf {α : Type} [DecidableEq α] (d : Nat → α) (t : List (Nat × α)) : Bool :=
  keysAbove none t && t.all (fun e => decide (e.2 ≠ d e.1))

/-- `l` with its first element that meets `p` replaced by `f` of it. -/
def modifyFirst {α : Type} (p : α → Bool) (f : α → α) : List α → List α
  | [] => []
  | x :: r => if p x then f x :: r else x :: modifyFirst p f r

/-- A number put into a rising list without repeats. -/
def insertNat (a : Nat) : List Nat → List Nat
  | [] => [a]
  | x :: r => if a = x then x :: r else if a < x then a :: x :: r else x :: insertNat a r

/-- The bytes of an `n`-byte number, the lowest byte first. -/
def leBytes : Nat → Nat → List Nat
  | 0, _ => []
  | n + 1, v => v % 256 :: leBytes n (v / 256)

/-- The bytes of an `n`-byte number, the highest byte first. -/
def beBytes (n v : Nat) : List Nat := (leBytes n v).reverse

/-- The number whose bytes are given, the lowest first. -/
def leNat : List Nat → Nat
  | [] => 0
  | b :: r => b % 256 + 256 * leNat r

/-- The number whose bytes are given, the highest first. -/
def beNat (l : List Nat) : Nat := leNat l.reverse

end Sys2Proof.Machine
end

