-- ==== Sys2Proof/Machine/Regs.lean ====
section
/-! DEFINITION. The names of the registers and of their fields: every register of the field tables of
spec/02 to spec/20 as its address in the 34-bit map (spec/23_address_map.md, R496, R497), and every
non-reserved field as a bit range of it. A letter in a register's name in the spec is an argument here. -/

namespace Sys2Proof.Machine.R

/-- Offset of the owner page of owner `o` in the STG, LOGB, PWRM and FRM windows: coach `c` at
0x8000 + 0x1000 c, Guard (owner 8) at 0x7000 (R503). -/
def ownerPage (o : Nat) : Nat := if o = 8 then 0x7000 else 0x8000 + 0x1000 * o


/-! ### Registers of spec/02_stage_and_timetable.md -/

def STG_CTL : Nat := 0x40410000
def STG_CTL_DOMAIN : Fld := ⟨STG_CTL, 1, 0⟩
def STG_CTL_CYCLE_LOG2 : Fld := ⟨STG_CTL, 6, 4⟩
def STG_PERIOD_NS : Nat := 0x40410004
def STG_PERIOD_NS_NS : Fld := ⟨STG_PERIOD_NS, 23, 0⟩
def STG_CMD_CUTOFF_NS : Nat := 0x40410008
def STG_CMD_CUTOFF_NS_NS : Fld := ⟨STG_CMD_CUTOFF_NS, 23, 0⟩
def STG_QUIET_CLASSES : Nat := 0x4041000C
def STG_QUIET_CLASSES_CLASSES : Fld := ⟨STG_QUIET_CLASSES, 7, 0⟩
def STG_OUT_CFG : Nat := 0x40410010
def STG_OUT_CFG_EN : Fld := ⟨STG_OUT_CFG, 0, 0⟩
def STG_OUT_CFG_WIDTH : Fld := ⟨STG_OUT_CFG, 15, 8⟩
def STG_NUM : Nat := 0x40410020
def STG_NUM_VALUE : Fld := ⟨STG_NUM, 31, 0⟩
def STG_TICK_LO : Nat := 0x40410024
def STG_TICK_LO_VALUE : Fld := ⟨STG_TICK_LO, 31, 0⟩
def STG_TICK_HI : Nat := 0x40410028
def STG_TICK_HI_VALUE : Fld := ⟨STG_TICK_HI, 31, 0⟩
def STG_STS : Nat := 0x4041002C
def STG_STS_RUNNING : Fld := ⟨STG_STS, 0, 0⟩
def STG_STS_LOCKED : Fld := ⟨STG_STS, 1, 1⟩
def STG_STS_HOLDOVER : Fld := ⟨STG_STS, 2, 2⟩
def STG_STS_REALIGNED : Fld := ⟨STG_STS, 8, 8⟩
def STG_STS_SNAP_MISS : Fld := ⟨STG_STS, 9, 9⟩
def STG_STS_CMD_LATE : Fld := ⟨STG_STS, 10, 10⟩
def STG_STS_OVERRUN : Fld := ⟨STG_STS, 11, 11⟩
def STG_STS_HOLDOVER_SEEN : Fld := ⟨STG_STS, 12, 12⟩
def STG_INT_EN : Nat := 0x40410030
def STG_INT_EN_TICK : Fld := ⟨STG_INT_EN, 0, 0⟩
def STG_INT_EN_OVERRUN : Fld := ⟨STG_INT_EN, 1, 1⟩
def STG_INT_EN_SYNC : Fld := ⟨STG_INT_EN, 2, 2⟩
def STG_INT_EN_SNAP : Fld := ⟨STG_INT_EN, 3, 3⟩
def STG_OVR_CNT : Nat := 0x40410034
def STG_OVR_CNT_COUNT : Fld := ⟨STG_OVR_CNT, 31, 0⟩
def STG_LATE_CMD_CNT : Nat := 0x40410038
def STG_LATE_CMD_CNT_COUNT : Fld := ⟨STG_LATE_CMD_CNT, 31, 0⟩
def STG_COACH_CFG (c : Nat) : Nat := 0x40410040 + 0x4 * c
def STG_COACH_CFG_OVR_SEV (c : Nat) : Fld := ⟨STG_COACH_CFG c, 1, 0⟩
def STG_COACH_CFG_SNAP_EN (c : Nat) : Fld := ⟨STG_COACH_CFG c, 2, 2⟩
def STG_SNAP_BASE (c : Nat) : Nat := 0x40410060 + 0x4 * c
def STG_SNAP_BASE_PAGE (c : Nat) : Fld := ⟨STG_SNAP_BASE c, 31, 12⟩
def STG_TT_START (n : Nat) : Nat := 0x40411000 + 0x10 * n
def STG_TT_START_NS (n : Nat) : Fld := ⟨STG_TT_START n, 23, 0⟩
def STG_TT_LEN (n : Nat) : Nat := 0x40411004 + 0x10 * n
def STG_TT_LEN_NS (n : Nat) : Fld := ⟨STG_TT_LEN n, 23, 0⟩
def STG_TT_CTL (n : Nat) : Nat := 0x40411008 + 0x10 * n
def STG_TT_CTL_KIND (n : Nat) : Fld := ⟨STG_TT_CTL n, 2, 0⟩
def STG_TT_CTL_OWNER (n : Nat) : Fld := ⟨STG_TT_CTL n, 7, 4⟩
def STG_TT_CTL_CORE (n : Nat) : Fld := ⟨STG_TT_CTL n, 11, 8⟩
def STG_TT_CTL_WORK (n : Nat) : Fld := ⟨STG_TT_CTL n, 15, 12⟩
def STG_TT_CTL_PARAM (n : Nat) : Fld := ⟨STG_TT_CTL n, 23, 16⟩
def STG_TT_CTL_PHASE (n : Nat) : Fld := ⟨STG_TT_CTL n, 27, 24⟩
def STG_TT_CTL_ALL_PHASES (n : Nat) : Fld := ⟨STG_TT_CTL n, 31, 31⟩
def STG_TT_GATE (n : Nat) : Nat := 0x4041100C + 0x10 * n
def STG_TT_GATE_GATE (n : Nat) : Fld := ⟨STG_TT_GATE n, 7, 0⟩
def STG_GDONE : Nat := 0x40417000
def STG_GDONE_DONE : Fld := ⟨STG_GDONE, 0, 0⟩
def STG_GSTS : Nat := 0x40417004
def STG_GSTS_IN_WINDOW : Fld := ⟨STG_GSTS, 0, 0⟩
def STG_GSTS_DONE : Fld := ⟨STG_GSTS, 1, 1⟩
def STG_GSTS_LATE_DONE : Fld := ⟨STG_GSTS, 2, 2⟩
def STG_GSTS_OVR_CNT_OVF : Fld := ⟨STG_GSTS, 3, 3⟩
def STG_GSTS_SKIPPED : Fld := ⟨STG_GSTS, 4, 4⟩
def STG_GSTS_WINDOW : Fld := ⟨STG_GSTS, 15, 8⟩
def STG_GSTS_OVR_CNT : Fld := ⟨STG_GSTS, 31, 16⟩
def STG_DONE (c : Nat) : Nat := 0x40418000 + 0x1000 * c
def STG_DONE_DONE (c : Nat) : Fld := ⟨STG_DONE c, 0, 0⟩
def STG_CSTS (c : Nat) : Nat := 0x40418004 + 0x1000 * c
def STG_CSTS_IN_WINDOW (c : Nat) : Fld := ⟨STG_CSTS c, 0, 0⟩
def STG_CSTS_DONE (c : Nat) : Fld := ⟨STG_CSTS c, 1, 1⟩
def STG_CSTS_LATE_DONE (c : Nat) : Fld := ⟨STG_CSTS c, 2, 2⟩
def STG_CSTS_OVR_CNT_OVF (c : Nat) : Fld := ⟨STG_CSTS c, 3, 3⟩
def STG_CSTS_SKIPPED (c : Nat) : Fld := ⟨STG_CSTS c, 4, 4⟩
def STG_CSTS_WINDOW (c : Nat) : Fld := ⟨STG_CSTS c, 15, 8⟩
def STG_CSTS_OVR_CNT (c : Nat) : Fld := ⟨STG_CSTS c, 31, 16⟩

/-! ### Registers of spec/03_timebase.md -/

def TIME_CTL : Nat := 0x40400000
def TIME_CTL_PRIMARY : Fld := ⟨TIME_CTL, 1, 0⟩
def TIME_CTL_TC_EN : Fld := ⟨TIME_CTL, 8, 8⟩
def TIME_JUMP_LIMIT_NS : Nat := 0x40400004
def TIME_JUMP_LIMIT_NS_VALUE : Fld := ⟨TIME_JUMP_LIMIT_NS, 19, 0⟩
def TIME_SLEW_PPM : Nat := 0x40400008
def TIME_SLEW_PPM_VALUE : Fld := ⟨TIME_SLEW_PPM, 19, 0⟩
def TIME_SERVO_CFG : Nat := 0x4040000C
def TIME_SERVO_CFG_BW : Fld := ⟨TIME_SERVO_CFG, 1, 0⟩
def TIME_SERVO_CFG_LOCK_THR : Fld := ⟨TIME_SERVO_CFG, 15, 8⟩
def TIME_SERVO_CFG_LOCK_CNT : Fld := ⟨TIME_SERVO_CFG, 19, 16⟩
def TIME_NOW_LO : Nat := 0x40400010
def TIME_NOW_LO_NS : Fld := ⟨TIME_NOW_LO, 31, 0⟩
def TIME_NOW_HI : Nat := 0x40400014
def TIME_NOW_HI_NS : Fld := ⟨TIME_NOW_HI, 31, 0⟩
def TIME_NOW_FRAC : Nat := 0x40400018
def TIME_NOW_FRAC_FRAC : Fld := ⟨TIME_NOW_FRAC, 15, 0⟩
def TIME_STS : Nat := 0x4040001C
def TIME_STS_STATE : Fld := ⟨TIME_STS, 2, 0⟩
def TIME_STS_EVER_LOCKED : Fld := ⟨TIME_STS, 3, 3⟩
def TIME_STS_HOLDOVER_AVAIL : Fld := ⟨TIME_STS, 4, 4⟩
def TIME_STS_EXEMPT_AVAIL : Fld := ⟨TIME_STS, 5, 5⟩
def TIME_STS_PENDING : Fld := ⟨TIME_STS, 6, 6⟩
def TIME_STS_REFCLK : Fld := ⟨TIME_STS, 7, 7⟩
def TIME_STS_JUMP_REFUSED : Fld := ⟨TIME_STS, 8, 8⟩
def TIME_STS_GM_CHANGE : Fld := ⟨TIME_STS, 9, 9⟩
def TIME_STS_BACK_REFUSED : Fld := ⟨TIME_STS, 10, 10⟩
def TIME_STS_ACCEPT_FAIL : Fld := ⟨TIME_STS, 11, 11⟩
def TIME_STS_STEPPED : Fld := ⟨TIME_STS, 12, 12⟩
def TIME_STS_TC_UNCORRECTED : Fld := ⟨TIME_STS, 13, 13⟩
def TIME_INT_EN : Nat := 0x40400020
def TIME_INT_EN_STATE : Fld := ⟨TIME_INT_EN, 0, 0⟩
def TIME_INT_EN_REFUSAL : Fld := ⟨TIME_INT_EN, 1, 1⟩
def TIME_INT_EN_PORT : Fld := ⟨TIME_INT_EN, 2, 2⟩
def TIME_OFFSET : Nat := 0x40400024
def TIME_OFFSET_OFS : Fld := ⟨TIME_OFFSET, 31, 0⟩
def TIME_FREQ : Nat := 0x40400028
def TIME_FREQ_FREQ : Fld := ⟨TIME_FREQ, 31, 0⟩
def TIME_LOCK_SECS : Nat := 0x4040002C
def TIME_LOCK_SECS_COUNT : Fld := ⟨TIME_LOCK_SECS, 31, 0⟩
def TIME_ACCEPT : Nat := 0x40400030
def TIME_ACCEPT_KEY : Fld := ⟨TIME_ACCEPT, 15, 0⟩
def TIME_ACCEPT_SEQ : Fld := ⟨TIME_ACCEPT, 31, 16⟩
def TIME_PEND_SEQ : Nat := 0x40400034
def TIME_PEND_SEQ_COUNT : Fld := ⟨TIME_PEND_SEQ, 31, 0⟩
def TIME_PEND_OFS_LO : Nat := 0x40400038
def TIME_PEND_OFS_LO_VALUE : Fld := ⟨TIME_PEND_OFS_LO, 31, 0⟩
def TIME_PEND_OFS_HI : Nat := 0x4040003C
def TIME_PEND_OFS_HI_VALUE : Fld := ⟨TIME_PEND_OFS_HI, 31, 0⟩
def TIME_GMID_LO : Nat := 0x40400040
def TIME_GMID_LO_VALUE : Fld := ⟨TIME_GMID_LO, 31, 0⟩
def TIME_GMID_HI : Nat := 0x40400044
def TIME_GMID_HI_VALUE : Fld := ⟨TIME_GMID_HI, 31, 0⟩
def TIME_PEND_GMID_LO : Nat := 0x40400048
def TIME_PEND_GMID_LO_VALUE : Fld := ⟨TIME_PEND_GMID_LO, 31, 0⟩
def TIME_PEND_GMID_HI : Nat := 0x4040004C
def TIME_PEND_GMID_HI_VALUE : Fld := ⟨TIME_PEND_GMID_HI, 31, 0⟩
def TIME_STEP_PRE_LO : Nat := 0x40400050
def TIME_STEP_PRE_LO_VALUE : Fld := ⟨TIME_STEP_PRE_LO, 31, 0⟩
def TIME_STEP_PRE_HI : Nat := 0x40400054
def TIME_STEP_PRE_HI_VALUE : Fld := ⟨TIME_STEP_PRE_HI, 31, 0⟩
def TIME_STEP_SIZE_LO : Nat := 0x40400058
def TIME_STEP_SIZE_LO_VALUE : Fld := ⟨TIME_STEP_SIZE_LO, 31, 0⟩
def TIME_STEP_SIZE_HI : Nat := 0x4040005C
def TIME_STEP_SIZE_HI_VALUE : Fld := ⟨TIME_STEP_SIZE_HI, 31, 0⟩
def TIME_DOM_CFG (d : Nat) : Nat := 0x40400080 + 0x20 * d
def TIME_DOM_CFG_EN (d : Nat) : Fld := ⟨TIME_DOM_CFG d, 0, 0⟩
def TIME_DOM_CFG_MODE (d : Nat) : Fld := ⟨TIME_DOM_CFG d, 1, 1⟩
def TIME_DOM_CFG_GM_CAPABLE (d : Nat) : Fld := ⟨TIME_DOM_CFG d, 2, 2⟩
def TIME_DOM_CFG_SPORT (d : Nat) : Fld := ⟨TIME_DOM_CFG d, 7, 4⟩
def TIME_DOM_CFG_NO_SPORT (d : Nat) : Fld := ⟨TIME_DOM_CFG d, 8, 8⟩
def TIME_DOM_CFG_NUMBER (d : Nat) : Fld := ⟨TIME_DOM_CFG d, 23, 16⟩
def TIME_DOM_CFG_SYNC_LOG (d : Nat) : Fld := ⟨TIME_DOM_CFG d, 27, 24⟩
def TIME_DOM_MPORTS (d : Nat) : Nat := 0x40400084 + 0x20 * d
def TIME_DOM_MPORTS_MASK (d : Nat) : Fld := ⟨TIME_DOM_MPORTS d, 15, 0⟩
def TIME_DOM_MPORTS_PRIORITY1 (d : Nat) : Fld := ⟨TIME_DOM_MPORTS d, 23, 16⟩
def TIME_DOM_MPORTS_PRIORITY2 (d : Nat) : Fld := ⟨TIME_DOM_MPORTS d, 31, 24⟩
def TIME_DOM_OFS_LO (d : Nat) : Nat := 0x40400088 + 0x20 * d
def TIME_DOM_OFS_LO_VALUE (d : Nat) : Fld := ⟨TIME_DOM_OFS_LO d, 31, 0⟩
def TIME_DOM_OFS_HI (d : Nat) : Nat := 0x4040008C + 0x20 * d
def TIME_DOM_OFS_HI_VALUE (d : Nat) : Fld := ⟨TIME_DOM_OFS_HI d, 31, 0⟩
def TIME_DOM_STS (d : Nat) : Nat := 0x40400090 + 0x20 * d
def TIME_DOM_STS_STATE (d : Nat) : Fld := ⟨TIME_DOM_STS d, 2, 0⟩
def TIME_DOM_STS_GM_CHANGE (d : Nat) : Fld := ⟨TIME_DOM_STS d, 3, 3⟩
def TIME_PORT_CFG (p : Nat) : Nat := 0x40400100 + 0x10 * p
def TIME_PORT_CFG_EN (p : Nat) : Fld := ⟨TIME_PORT_CFG p, 0, 0⟩
def TIME_PORT_CFG_ONESTEP (p : Nat) : Fld := ⟨TIME_PORT_CFG p, 1, 1⟩
def TIME_PORT_CFG_PDELAY_LOG (p : Nat) : Fld := ⟨TIME_PORT_CFG p, 7, 4⟩
def TIME_PORT_CFG_ASCAPABLE (p : Nat) : Fld := ⟨TIME_PORT_CFG p, 8, 8⟩
def TIME_PORT_CFG_PDELAY_FAULT (p : Nat) : Fld := ⟨TIME_PORT_CFG p, 9, 9⟩
def TIME_PORT_CFG_PLCA_NODE (p : Nat) : Fld := ⟨TIME_PORT_CFG p, 23, 16⟩
def TIME_PORT_ASYM (p : Nat) : Nat := 0x40400104 + 0x10 * p
def TIME_PORT_ASYM_VALUE (p : Nat) : Fld := ⟨TIME_PORT_ASYM p, 31, 0⟩
def TIME_PORT_CAL (p : Nat) : Nat := 0x40400108 + 0x10 * p
def TIME_PORT_CAL_VALUE (p : Nat) : Fld := ⟨TIME_PORT_CAL p, 31, 0⟩
def TIME_PORT_DELAY (p : Nat) : Nat := 0x4040010C + 0x10 * p
def TIME_PORT_DELAY_VALUE (p : Nat) : Fld := ⟨TIME_PORT_DELAY p, 31, 0⟩
def TTA_TOUT_CFG (k : Nat) : Nat := 0x40420100 + 0x4 * k
def TTA_TOUT_CFG_OWNER (k : Nat) : Fld := ⟨TTA_TOUT_CFG k, 3, 0⟩
def TTA_TOUT_CFG_IDLE (k : Nat) : Fld := ⟨TTA_TOUT_CFG k, 4, 4⟩
def TTA_TOUT_CFG_EN (k : Nat) : Fld := ⟨TTA_TOUT_CFG k, 8, 8⟩
def TTA_TOUT_LEVEL : Nat := 0x40420120
def TTA_TOUT_LEVEL_LEVEL : Fld := ⟨TTA_TOUT_LEVEL, 7, 0⟩
def TTA_TCAP_CFG (k : Nat) : Nat := 0x40420200 + 0x10 * k
def TTA_TCAP_CFG_OWNER (k : Nat) : Fld := ⟨TTA_TCAP_CFG k, 3, 0⟩
def TTA_TCAP_CFG_EDGE (k : Nat) : Fld := ⟨TTA_TCAP_CFG k, 5, 4⟩
def TTA_TCAP_CFG_IRQ_SEL (k : Nat) : Fld := ⟨TTA_TCAP_CFG k, 10, 8⟩
def TTA_TCAP_CFG_IRQ_EN (k : Nat) : Fld := ⟨TTA_TCAP_CFG k, 11, 11⟩
def TTA_TCAP_TS_LO (k : Nat) : Nat := 0x40420204 + 0x10 * k
def TTA_TCAP_TS_LO_NS (k : Nat) : Fld := ⟨TTA_TCAP_TS_LO k, 31, 0⟩
def TTA_TCAP_TS_HI (k : Nat) : Nat := 0x40420208 + 0x10 * k
def TTA_TCAP_TS_HI_NS (k : Nat) : Fld := ⟨TTA_TCAP_TS_HI k, 31, 0⟩
def TTA_TCAP_INFO (k : Nat) : Nat := 0x4042020C + 0x10 * k
def TTA_TCAP_INFO_FRAC (k : Nat) : Fld := ⟨TTA_TCAP_INFO k, 7, 0⟩
def TTA_TCAP_INFO_FALLING (k : Nat) : Fld := ⟨TTA_TCAP_INFO k, 8, 8⟩
def TTA_TCAP_INFO_VALID (k : Nat) : Fld := ⟨TTA_TCAP_INFO k, 9, 9⟩
def TTA_TCAP_INFO_FILL (k : Nat) : Fld := ⟨TTA_TCAP_INFO k, 20, 16⟩
def TTA_TCAP_INFO_OVF_CNT (k : Nat) : Fld := ⟨TTA_TCAP_INFO k, 31, 24⟩
def TTA_SLOT_CFG (n : Nat) : Nat := 0x40421000 + 0x20 * n
def TTA_SLOT_CFG_ACTION (n : Nat) : Fld := ⟨TTA_SLOT_CFG n, 2, 0⟩
def TTA_SLOT_CFG_LATE_POLICY (n : Nat) : Fld := ⟨TTA_SLOT_CFG n, 5, 4⟩
def TTA_SLOT_CFG_PERIODIC (n : Nat) : Fld := ⟨TTA_SLOT_CFG n, 6, 6⟩
def TTA_SLOT_CFG_IRQ_EN (n : Nat) : Fld := ⟨TTA_SLOT_CFG n, 7, 7⟩
def TTA_SLOT_CFG_IRQ_SEL (n : Nat) : Fld := ⟨TTA_SLOT_CFG n, 10, 8⟩
def TTA_SLOT_CFG_TARGET (n : Nat) : Fld := ⟨TTA_SLOT_CFG n, 24, 16⟩
def TTA_SLOT_CFG_OWNER (n : Nat) : Fld := ⟨TTA_SLOT_CFG n, 31, 28⟩
def TTA_SLOT_TIME_LO (n : Nat) : Nat := 0x40421004 + 0x20 * n
def TTA_SLOT_TIME_LO_NS (n : Nat) : Fld := ⟨TTA_SLOT_TIME_LO n, 31, 0⟩
def TTA_SLOT_TIME_HI (n : Nat) : Nat := 0x40421008 + 0x20 * n
def TTA_SLOT_TIME_HI_NS (n : Nat) : Fld := ⟨TTA_SLOT_TIME_HI n, 31, 0⟩
def TTA_SLOT_FRAC (n : Nat) : Nat := 0x4042100C + 0x20 * n
def TTA_SLOT_FRAC_FRAC (n : Nat) : Fld := ⟨TTA_SLOT_FRAC n, 7, 0⟩
def TTA_SLOT_PERIOD (n : Nat) : Nat := 0x40421010 + 0x20 * n
def TTA_SLOT_PERIOD_NS (n : Nat) : Fld := ⟨TTA_SLOT_PERIOD n, 31, 0⟩
def TTA_SLOT_COUNT (n : Nat) : Nat := 0x40421014 + 0x20 * n
def TTA_SLOT_COUNT_COUNT (n : Nat) : Fld := ⟨TTA_SLOT_COUNT n, 15, 0⟩
def TTA_SLOT_ARG (n : Nat) : Nat := 0x40421018 + 0x20 * n
def TTA_SLOT_ARG_ARG (n : Nat) : Fld := ⟨TTA_SLOT_ARG n, 31, 0⟩
def TTA_SLOT_CMD (n : Nat) : Nat := 0x4042101C + 0x20 * n
def TTA_SLOT_CMD_ARM (n : Nat) : Fld := ⟨TTA_SLOT_CMD n, 0, 0⟩
def TTA_SLOT_CMD_DISARM (n : Nat) : Fld := ⟨TTA_SLOT_CMD n, 1, 1⟩
def TTA_SLOT_CMD_ARMED (n : Nat) : Fld := ⟨TTA_SLOT_CMD n, 8, 8⟩
def TTA_SLOT_CMD_LATE (n : Nat) : Fld := ⟨TTA_SLOT_CMD n, 9, 9⟩
def TTA_SLOT_CMD_DENIED (n : Nat) : Fld := ⟨TTA_SLOT_CMD n, 10, 10⟩
def TTA_SLOT_CMD_EMPTY (n : Nat) : Fld := ⟨TTA_SLOT_CMD n, 11, 11⟩
def TTA_SLOT_CMD_REMAIN (n : Nat) : Fld := ⟨TTA_SLOT_CMD n, 31, 16⟩

/-! ### Registers of spec/04_waybills_and_logbook.md -/

def LOGB_CTL : Nat := 0x40080000
def LOGB_CTL_THRESH : Fld := ⟨LOGB_CTL, 16, 0⟩
def LOGB_WR_CNT : Nat := 0x40080004
def LOGB_WR_CNT_COUNT : Fld := ⟨LOGB_WR_CNT, 31, 0⟩
def LOGB_RD_CNT : Nat := 0x40080008
def LOGB_RD_CNT_COUNT : Fld := ⟨LOGB_RD_CNT, 31, 0⟩
def LOGB_OVW_CNT : Nat := 0x4008000C
def LOGB_OVW_CNT_COUNT : Fld := ⟨LOGB_OVW_CNT, 31, 0⟩
def LOGB_DROP_CNT : Nat := 0x40080010
def LOGB_DROP_CNT_COUNT : Fld := ⟨LOGB_DROP_CNT, 31, 0⟩
def LOGB_STS : Nat := 0x40080014
def LOGB_STS_OVERWRITE : Fld := ⟨LOGB_STS, 0, 0⟩
def LOGB_STS_DROP : Fld := ⟨LOGB_STS, 1, 1⟩
def LOGB_STS_AO_CRC : Fld := ⟨LOGB_STS, 2, 2⟩
def LOGB_STS_AO_WO_FULL : Fld := ⟨LOGB_STS, 3, 3⟩
def LOGB_INT_EN : Nat := 0x40080018
def LOGB_INT_EN_THRESH : Fld := ⟨LOGB_INT_EN, 0, 0⟩
def LOGB_INT_EN_OVERWRITE : Fld := ⟨LOGB_INT_EN, 1, 1⟩
def LOGB_INT_EN_DROP : Fld := ⟨LOGB_INT_EN, 2, 2⟩
def LOGB_INT_EN_AO : Fld := ⟨LOGB_INT_EN, 3, 3⟩
def LOGB_AO_CFG : Nat := 0x40080040
def LOGB_AO_CFG_MIN_SEV : Fld := ⟨LOGB_AO_CFG, 1, 0⟩
def LOGB_AO_STS : Nat := 0x40080044
def LOGB_AO_STS_WO_FILL : Fld := ⟨LOGB_AO_STS, 5, 0⟩
def LOGB_AO_STS_NEXT : Fld := ⟨LOGB_AO_STS, 15, 8⟩
def LOGB_AO_STS_OVW_CNT : Fld := ⟨LOGB_AO_STS, 31, 16⟩
def LOGB_AO_IDX : Nat := 0x40080048
def LOGB_AO_IDX_IDX : Fld := ⟨LOGB_AO_IDX, 7, 0⟩
def LOGB_AO_ESTS : Nat := 0x4008004C
def LOGB_AO_ESTS_VALID : Fld := ⟨LOGB_AO_ESTS, 0, 0⟩
def LOGB_AO_ESTS_CRC_ERR : Fld := ⟨LOGB_AO_ESTS, 1, 1⟩
def LOGB_AO_ESTS_BUSY : Fld := ⟨LOGB_AO_ESTS, 2, 2⟩
def LOGB_AO_DATA (i : Nat) : Nat := 0x40080050 + 0x4 * i
def LOGB_AO_DATA_WORD (i : Nat) : Fld := ⟨LOGB_AO_DATA i, 31, 0⟩
def LOGB_AO_CLR : Nat := 0x40080070
def LOGB_AO_CLR_KEY : Fld := ⟨LOGB_AO_CLR, 15, 0⟩
def LOGB_AO_CLR_SEQ : Fld := ⟨LOGB_AO_CLR, 21, 16⟩
def LOGB_AO_CLR_SCOPE : Fld := ⟨LOGB_AO_CLR, 23, 22⟩
def LOGB_SPOST_CODE (o : Nat) : Nat := 0x40080000 + ownerPage o
def LOGB_SPOST_CODE_CODE (o : Nat) : Fld := ⟨LOGB_SPOST_CODE o, 31, 16⟩
def LOGB_SPOST_CODE_INSTANCE (o : Nat) : Fld := ⟨LOGB_SPOST_CODE o, 15, 0⟩
def LOGB_SPOST_D (o i : Nat) : Nat := 0x40080004 + ownerPage o + 0x4 * i
def LOGB_SPOST_D_DATA (o i : Nat) : Fld := ⟨LOGB_SPOST_D o i, 31, 0⟩
def LOGB_SPOST_GO (o : Nat) : Nat := 0x40080014 + ownerPage o
def LOGB_SPOST_GO_SEV (o : Nat) : Fld := ⟨LOGB_SPOST_GO o, 1, 0⟩

/-! ### Registers of spec/05_fabric_forwarding.md -/

def FAB_CTL : Nat := 0x40100000
def FAB_CTL_FORCE_STRICT : Fld := ⟨FAB_CTL, 0, 0⟩
def FAB_MODE : Nat := 0x40100004
def FAB_MODE_REGIME : Fld := ⟨FAB_MODE, 0, 0⟩
def FAB_MODE_FORCED : Fld := ⟨FAB_MODE, 4, 4⟩
def FAB_MODE_UNSYNC : Fld := ⟨FAB_MODE, 5, 5⟩
def FAB_MODE_TEST : Fld := ⟨FAB_MODE, 6, 6⟩
def FAB_MODE_RECOVERY : Fld := ⟨FAB_MODE, 7, 7⟩
def FAB_MODE_RECOVERY_LEFT : Fld := ⟨FAB_MODE, 25, 16⟩
def FAB_STS : Nat := 0x40100008
def FAB_STS_PLANE_UP : Fld := ⟨FAB_STS, 1, 0⟩
def FAB_STS_PLANE_FAULT : Fld := ⟨FAB_STS, 8, 8⟩
def FAB_STS_XBAR_PARITY : Fld := ⟨FAB_STS, 9, 9⟩
def FAB_STS_ECC_CE : Fld := ⟨FAB_STS, 10, 10⟩
def FAB_STS_ECC_UE : Fld := ⟨FAB_STS, 11, 11⟩
def FAB_STS_STOMPED : Fld := ⟨FAB_STS, 12, 12⟩
def FAB_INT_EN : Nat := 0x4010000C
def FAB_INT_EN_FAULT : Fld := ⟨FAB_INT_EN, 0, 0⟩
def FAB_INT_EN_MODE : Fld := ⟨FAB_INT_EN, 1, 1⟩
def FAB_INT_EN_STOMP : Fld := ⟨FAB_INT_EN, 2, 2⟩
def FAB_PLANE_CTL : Nat := 0x40100010
def FAB_PLANE_CTL_READMIT : Fld := ⟨FAB_PLANE_CTL, 1, 0⟩
def FAB_BUF_FREE : Nat := 0x40100014
def FAB_BUF_FREE_CELLS : Fld := ⟨FAB_BUF_FREE, 16, 0⟩
def FAB_BUF_LOW : Nat := 0x40100018
def FAB_BUF_LOW_CELLS : Fld := ⟨FAB_BUF_LOW, 16, 0⟩
def FAB_STOMP_CNT : Nat := 0x4010001C
def FAB_STOMP_CNT_COUNT : Fld := ⟨FAB_STOMP_CNT, 31, 0⟩
def FAB_ECC_CE_CNT : Nat := 0x40100020
def FAB_ECC_CE_CNT_COUNT : Fld := ⟨FAB_ECC_CE_CNT, 31, 0⟩
def FAB_ECC_UE_CNT : Nat := 0x40100024
def FAB_ECC_UE_CNT_COUNT : Fld := ⟨FAB_ECC_UE_CNT, 31, 0⟩
def FAB_FAULT_CNT : Nat := 0x40100028
def FAB_FAULT_CNT_COUNT : Fld := ⟨FAB_FAULT_CNT, 31, 0⟩
def FAB_KIND_DROP_CNT : Nat := 0x4010002C
def FAB_KIND_DROP_CNT_COUNT : Fld := ⟨FAB_KIND_DROP_CNT, 31, 0⟩
def FAB_PORT_CFG (p : Nat) : Nat := 0x40100100 + 0x4 * p
def FAB_PORT_CFG_EXPRESS_EN (p : Nat) : Fld := ⟨FAB_PORT_CFG p, 0, 0⟩
def FAB_PORT_CFG_RATE (p : Nat) : Fld := ⟨FAB_PORT_CFG p, 7, 4⟩
def LKP_CTL : Nat := 0x40200000
def LKP_CTL_DRAIN_TMO : Fld := ⟨LKP_CTL, 7, 0⟩
def LKP_STS : Nat := 0x40200004
def LKP_STS_EPOCH : Fld := ⟨LKP_STS, 7, 0⟩
def LKP_STS_ACTIVE_BANK : Fld := ⟨LKP_STS, 9, 8⟩
def LKP_STS_DRAIN_BANK : Fld := ⟨LKP_STS, 11, 10⟩
def LKP_STS_SHADOW_BANK : Fld := ⟨LKP_STS, 13, 12⟩
def LKP_STS_PENDING : Fld := ⟨LKP_STS, 16, 16⟩
def LKP_STS_BUSY : Fld := ⟨LKP_STS, 17, 17⟩
def LKP_STS_SYNC : Fld := ⟨LKP_STS, 18, 18⟩
def LKP_STS_FLIP_DONE : Fld := ⟨LKP_STS, 24, 24⟩
def LKP_STS_DRAIN_TMO : Fld := ⟨LKP_STS, 25, 25⟩
def LKP_STS_FLIP_REJ : Fld := ⟨LKP_STS, 26, 26⟩
def LKP_FLIP : Nat := 0x40200008
def LKP_FLIP_MODE : Fld := ⟨LKP_FLIP, 1, 0⟩
def LKP_FLIP_KEY : Fld := ⟨LKP_FLIP, 31, 16⟩
def LKP_DRAIN_OLD : Nat := 0x4020000C
def LKP_DRAIN_OLD_COUNT : Fld := ⟨LKP_DRAIN_OLD, 23, 0⟩
def LKP_DRAIN_OLD_EPOCH : Fld := ⟨LKP_DRAIN_OLD, 31, 24⟩
def LKP_DRAIN_CUR : Nat := 0x40200010
def LKP_DRAIN_CUR_COUNT : Fld := ⟨LKP_DRAIN_CUR, 23, 0⟩
def LKP_DRAIN_CUR_EPOCH : Fld := ⟨LKP_DRAIN_CUR, 31, 24⟩
def LKP_INT_EN : Nat := 0x40200014
def LKP_INT_EN_FLIP : Fld := ⟨LKP_INT_EN, 0, 0⟩
def LKP_INT_EN_DRAIN_TMO : Fld := ⟨LKP_INT_EN, 1, 1⟩
def LKP_DRAIN_DROP_CNT : Nat := 0x40200018
def LKP_DRAIN_DROP_CNT_COUNT : Fld := ⟨LKP_DRAIN_DROP_CNT, 31, 0⟩
def LKP_VLAN_DROP_CNT : Nat := 0x4020001C
def LKP_VLAN_DROP_CNT_COUNT : Fld := ⟨LKP_VLAN_DROP_CNT, 31, 0⟩
def LKP_CAN_MISS_CNT : Nat := 0x40200020
def LKP_CAN_MISS_CNT_COUNT : Fld := ⟨LKP_CAN_MISS_CNT, 31, 0⟩
def LKP_CLS_DROP_CNT : Nat := 0x40200024
def LKP_CLS_DROP_CNT_COUNT : Fld := ⟨LKP_CLS_DROP_CNT, 31, 0⟩
def LKP_ACF_SKIP_CNT : Nat := 0x40200028
def LKP_ACF_SKIP_CNT_COUNT : Fld := ⟨LKP_ACF_SKIP_CNT, 31, 0⟩
def LKP_FRER_RST : Nat := 0x4020002C
def LKP_FRER_RST_INSTANCE : Fld := ⟨LKP_FRER_RST, 7, 0⟩
def LKP_FRER_RST_KEY : Fld := ⟨LKP_FRER_RST, 31, 16⟩
def LKP_CLS_HIT (r : Nat) : Nat := 0x40200400 + 0x4 * r
def LKP_CLS_HIT_COUNT (r : Nat) : Fld := ⟨LKP_CLS_HIT r, 31, 0⟩
def LKP_FRER_CNT (i j : Nat) : Nat := 0x40202000 + 0x20 * i + 0x4 * j
def LKP_FRER_CNT_COUNT (i j : Nat) : Fld := ⟨LKP_FRER_CNT i j, 31, 0⟩
def LKP_QCI_CNT (s j : Nat) : Nat := 0x40208000 + 0x10 * s + 0x4 * j
def LKP_QCI_CNT_COUNT (s j : Nat) : Fld := ⟨LKP_QCI_CNT s j, 31, 0⟩

/-! ### Registers of spec/06_queues_and_resequencing.md -/

def CQ_CFG (c n : Nat) : Nat := 0x48000000 + 0x100000 * c + 0x1000 * n
def CQ_CFG_ROLE (c n : Nat) : Fld := ⟨CQ_CFG c n, 2, 0⟩
def CQ_CFG_SIZE_LOG2 (c n : Nat) : Fld := ⟨CQ_CFG c n, 7, 4⟩
def CQ_CFG_CLASS (c n : Nat) : Fld := ⟨CQ_CFG c n, 10, 8⟩
def CQ_CFG_RCPT (c n : Nat) : Fld := ⟨CQ_CFG c n, 21, 16⟩
def CQ_BASE_LO (c n : Nat) : Nat := 0x48000004 + 0x100000 * c + 0x1000 * n
def CQ_BASE_LO_ADDR (c n : Nat) : Fld := ⟨CQ_BASE_LO c n, 31, 0⟩
def CQ_BASE_HI (c n : Nat) : Nat := 0x48000008 + 0x100000 * c + 0x1000 * n
def CQ_BASE_HI_ADDR (c n : Nat) : Fld := ⟨CQ_BASE_HI c n, 1, 0⟩
def CQ_BUDGET (c n : Nat) : Nat := 0x4800000C + 0x100000 * c + 0x1000 * n
def CQ_BUDGET_BYTES (c n : Nat) : Fld := ⟨CQ_BUDGET c n, 23, 0⟩
def CQ_THR (c n : Nat) : Nat := 0x48000010 + 0x100000 * c + 0x1000 * n
def CQ_THR_HOLD (c n : Nat) : Fld := ⟨CQ_THR c n, 15, 0⟩
def CQ_THR_HOLD_DE (c n : Nat) : Fld := ⟨CQ_THR c n, 31, 16⟩
def CQ_ALLOW (c n : Nat) : Nat := 0x48000014 + 0x100000 * c + 0x1000 * n
def CQ_ALLOW_COACH (c n : Nat) : Fld := ⟨CQ_ALLOW c n, 7, 0⟩
def CQ_ALLOW_GUARD (c n : Nat) : Fld := ⟨CQ_ALLOW c n, 8, 8⟩
def CQ_DB (c n : Nat) : Nat := 0x48000020 + 0x100000 * c + 0x1000 * n
def CQ_DB_COUNT (c n : Nat) : Fld := ⟨CQ_DB c n, 15, 0⟩
def CQ_HEAD (c n : Nat) : Nat := 0x48000024 + 0x100000 * c + 0x1000 * n
def CQ_HEAD_COUNT (c n : Nat) : Fld := ⟨CQ_HEAD c n, 15, 0⟩
def CQ_TAIL (c n : Nat) : Nat := 0x48000028 + 0x100000 * c + 0x1000 * n
def CQ_TAIL_COUNT (c n : Nat) : Fld := ⟨CQ_TAIL c n, 15, 0⟩
def CQ_STS (c n : Nat) : Nat := 0x4800002C + 0x100000 * c + 0x1000 * n
def CQ_STS_EMPTY (c n : Nat) : Fld := ⟨CQ_STS c n, 0, 0⟩
def CQ_STS_BUDGET_HOLD (c n : Nat) : Fld := ⟨CQ_STS c n, 1, 1⟩
def CQ_STS_DB_REFUSED (c n : Nat) : Fld := ⟨CQ_STS c n, 8, 8⟩
def CQ_STS_DENIED (c n : Nat) : Fld := ⟨CQ_STS c n, 9, 9⟩
def CQ_STS_DROP (c n : Nat) : Fld := ⟨CQ_STS c n, 10, 10⟩
def CQ_STS_RCPT_LOST (c n : Nat) : Fld := ⟨CQ_STS c n, 11, 11⟩
def CQ_STS_REVOKED (c n : Nat) : Fld := ⟨CQ_STS c n, 12, 12⟩
def CQ_INT_EN (c n : Nat) : Nat := 0x48000030 + 0x100000 * c + 0x1000 * n
def CQ_INT_EN_DONE (c n : Nat) : Fld := ⟨CQ_INT_EN c n, 0, 0⟩
def CQ_INT_EN_STATUS (c n : Nat) : Fld := ⟨CQ_INT_EN c n, 1, 1⟩
def CQ_DROP_CNT (c n : Nat) : Nat := 0x48000034 + 0x100000 * c + 0x1000 * n
def CQ_DROP_CNT_COUNT (c n : Nat) : Fld := ⟨CQ_DROP_CNT c n, 31, 0⟩
def CQ_BUDGET_LEFT (c n : Nat) : Nat := 0x48000038 + 0x100000 * c + 0x1000 * n
def CQ_BUDGET_LEFT_BYTES (c n : Nat) : Fld := ⟨CQ_BUDGET_LEFT c n, 23, 0⟩
def CQ_RCPT_DROP_CNT (c n : Nat) : Nat := 0x4800003C + 0x100000 * c + 0x1000 * n
def CQ_RCPT_DROP_CNT_COUNT (c n : Nat) : Fld := ⟨CQ_RCPT_DROP_CNT c n, 31, 0⟩
def CQ_RXMAP0 (c : Nat) : Nat := 0x48040000 + 0x100000 * c
def CQ_RXMAP0_Q0 (c : Nat) : Fld := ⟨CQ_RXMAP0 c, 5, 0⟩
def CQ_RXMAP0_Q1 (c : Nat) : Fld := ⟨CQ_RXMAP0 c, 13, 8⟩
def CQ_RXMAP0_Q2 (c : Nat) : Fld := ⟨CQ_RXMAP0 c, 21, 16⟩
def CQ_RXMAP0_Q3 (c : Nat) : Fld := ⟨CQ_RXMAP0 c, 29, 24⟩
def CQ_RXMAP1 (c : Nat) : Nat := 0x48040004 + 0x100000 * c
def CQ_RXMAP1_Q0 (c : Nat) : Fld := ⟨CQ_RXMAP1 c, 5, 0⟩
def CQ_RXMAP1_Q1 (c : Nat) : Fld := ⟨CQ_RXMAP1 c, 13, 8⟩
def CQ_RXMAP1_Q2 (c : Nat) : Fld := ⟨CQ_RXMAP1 c, 21, 16⟩
def CQ_RXMAP1_Q3 (c : Nat) : Fld := ⟨CQ_RXMAP1 c, 29, 24⟩
def CQ_GRP_STS (c g : Nat) : Nat := 0x48040010 + 0x100000 * c + 0x4 * g
def CQ_GRP_STS_PEND (c g : Nat) : Fld := ⟨CQ_GRP_STS c g, 7, 0⟩
def FAB_EQ_INT_EN : Nat := 0x40100030
def FAB_EQ_INT_EN_DROP : Fld := ⟨FAB_EQ_INT_EN, 0, 0⟩
def FAB_EQ_THR (p k : Nat) : Nat := 0x40140000 + 0x100 * p + 0x10 * k
def FAB_EQ_THR_CELLS (p k : Nat) : Fld := ⟨FAB_EQ_THR p k, 16, 0⟩
def FAB_EQ_DE (p k : Nat) : Nat := 0x40140004 + 0x100 * p + 0x10 * k
def FAB_EQ_DE_CELLS (p k : Nat) : Fld := ⟨FAB_EQ_DE p k, 16, 0⟩
def FAB_EQ_CBS (p k : Nat) : Nat := 0x40140008 + 0x100 * p + 0x10 * k
def FAB_EQ_CBS_IDLE_SLOPE (p k : Nat) : Fld := ⟨FAB_EQ_CBS p k, 31, 0⟩
def FAB_EQ_DEPTH (p k : Nat) : Nat := 0x4014000C + 0x100 * p + 0x10 * k
def FAB_EQ_DEPTH_CELLS (p k : Nat) : Fld := ⟨FAB_EQ_DEPTH p k, 16, 0⟩
def FAB_EDROP_FULL (p : Nat) : Nat := 0x40180000 + 0x20 * p
def FAB_EDROP_FULL_COUNT (p : Nat) : Fld := ⟨FAB_EDROP_FULL p, 31, 0⟩
def FAB_EDROP_DOWN (p : Nat) : Nat := 0x40180004 + 0x20 * p
def FAB_EDROP_DOWN_COUNT (p : Nat) : Fld := ⟨FAB_EDROP_DOWN p, 31, 0⟩
def FAB_EDROP_SIDING (p : Nat) : Nat := 0x40180008 + 0x20 * p
def FAB_EDROP_SIDING_COUNT (p : Nat) : Fld := ⟨FAB_EDROP_SIDING p, 31, 0⟩
def FAB_EDROP_GATE (p : Nat) : Nat := 0x4018000C + 0x20 * p
def FAB_EDROP_GATE_COUNT (p : Nat) : Fld := ⟨FAB_EDROP_GATE p, 31, 0⟩
def FAB_EDROP_RESET (p : Nat) : Nat := 0x40180010 + 0x20 * p
def FAB_EDROP_RESET_COUNT (p : Nat) : Fld := ⟨FAB_EDROP_RESET p, 31, 0⟩
def RSQ_CTL : Nat := 0x40300000
def RSQ_CTL_GAP : Fld := ⟨RSQ_CTL, 15, 0⟩
def RSQ_STS : Nat := 0x40300004
def RSQ_STS_LOST : Fld := ⟨RSQ_STS, 0, 0⟩
def RSQ_STS_LATE : Fld := ⟨RSQ_STS, 1, 1⟩
def RSQ_STS_WINDOW_FULL : Fld := ⟨RSQ_STS, 2, 2⟩
def RSQ_INT_EN : Nat := 0x40300008
def RSQ_INT_EN_LOST : Fld := ⟨RSQ_INT_EN, 0, 0⟩
def RSQ_INT_EN_LATE : Fld := ⟨RSQ_INT_EN, 1, 1⟩
def RSQ_LOST_CNT (p : Nat) : Nat := 0x40300100 + 0x10 * p
def RSQ_LOST_CNT_COUNT (p : Nat) : Fld := ⟨RSQ_LOST_CNT p, 31, 0⟩
def RSQ_LATE_CNT (p : Nat) : Nat := 0x40300104 + 0x10 * p
def RSQ_LATE_CNT_COUNT (p : Nat) : Fld := ⟨RSQ_LATE_CNT p, 31, 0⟩
def RSQ_GAP_CNT (p : Nat) : Nat := 0x40300108 + 0x10 * p
def RSQ_GAP_CNT_COUNT (p : Nat) : Fld := ⟨RSQ_GAP_CNT p, 31, 0⟩
def RSQ_OCC (p : Nat) : Nat := 0x4030010C + 0x10 * p
def RSQ_OCC_NOW (p : Nat) : Fld := ⟨RSQ_OCC p, 9, 0⟩
def RSQ_OCC_MAX (p : Nat) : Fld := ⟨RSQ_OCC p, 25, 16⟩

/-! ### Registers of spec/07_outrider_and_tow_mirror.md -/

def OUTR_STS : Nat := 0x40310000
def OUTR_STS_DROP : Fld := ⟨OUTR_STS, 3, 0⟩
def OUTR_STS_OVF : Fld := ⟨OUTR_STS, 7, 4⟩
def OUTR_INT_EN : Nat := 0x40310004
def OUTR_INT_EN_DROP : Fld := ⟨OUTR_INT_EN, 0, 0⟩
def OUTR_DEST_CFG (d : Nat) : Nat := 0x40310010 + 0x10 * d
def OUTR_DEST_CFG_QUEUE (d : Nat) : Fld := ⟨OUTR_DEST_CFG d, 9, 0⟩
def OUTR_DEST_CFG_EN (d : Nat) : Fld := ⟨OUTR_DEST_CFG d, 15, 15⟩
def OUTR_DEST_CFG_MAX_PER_STAGE (d : Nat) : Fld := ⟨OUTR_DEST_CFG d, 31, 16⟩
def OUTR_DEST_DROP_CNT (d : Nat) : Nat := 0x40310014 + 0x10 * d
def OUTR_DEST_DROP_CNT_COUNT (d : Nat) : Fld := ⟨OUTR_DEST_DROP_CNT d, 31, 0⟩
def OUTR_DEST_SENT_CNT (d : Nat) : Nat := 0x40310018 + 0x10 * d
def OUTR_DEST_SENT_CNT_COUNT (d : Nat) : Fld := ⟨OUTR_DEST_SENT_CNT d, 31, 0⟩
def OUTR_PORT_CFG (p : Nat) : Nat := 0x40310100 + 0x4 * p
def OUTR_PORT_CFG_DEST (p : Nat) : Fld := ⟨OUTR_PORT_CFG p, 1, 0⟩
def OUTR_PORT_CFG_DEST_EN (p : Nat) : Fld := ⟨OUTR_PORT_CFG p, 2, 2⟩
def OUTR_PORT_CFG_POINT (p : Nat) : Fld := ⟨OUTR_PORT_CFG p, 3, 3⟩
def OUTR_PORT_CFG_LFSR (p : Nat) : Fld := ⟨OUTR_PORT_CFG p, 4, 4⟩
def OUTR_PORT_CFG_TRUNC (p : Nat) : Fld := ⟨OUTR_PORT_CFG p, 6, 5⟩
def OUTR_PORT_N (p k : Nat) : Nat := 0x40310400 + 0x20 * p + 0x4 * k
def OUTR_PORT_N_N (p k : Nat) : Fld := ⟨OUTR_PORT_N p k, 15, 0⟩
def OUTR_PORT_N_CNT (p k : Nat) : Fld := ⟨OUTR_PORT_N p k, 31, 16⟩
def TOW_CFG : Nat := 0x40320000
def TOW_CFG_OWNER : Fld := ⟨TOW_CFG, 3, 0⟩
def TOW_CFG_ALLOWED : Fld := ⟨TOW_CFG, 27, 16⟩
def TOW_STS : Nat := 0x40320004
def TOW_STS_SEALED_OFF : Fld := ⟨TOW_STS, 0, 0⟩
def TOW_STS_STATE : Fld := ⟨TOW_STS, 2, 1⟩
def TOW_STS_DROP : Fld := ⟨TOW_STS, 8, 8⟩
def TOW_INT_EN : Nat := 0x40320008
def TOW_INT_EN_DROP : Fld := ⟨TOW_INT_EN, 0, 0⟩
def TOW_INT_EN_STATE : Fld := ⟨TOW_INT_EN, 1, 1⟩
def TOW_COPY_CNT : Nat := 0x4032000C
def TOW_COPY_CNT_COUNT : Fld := ⟨TOW_COPY_CNT, 31, 0⟩
def TOW_DROP_CNT : Nat := 0x40320010
def TOW_DROP_CNT_COUNT : Fld := ⟨TOW_DROP_CNT, 31, 0⟩
def TOW_EXCL_CNT : Nat := 0x40320014
def TOW_EXCL_CNT_COUNT : Fld := ⟨TOW_EXCL_CNT, 31, 0⟩
def TOW_LEGACY_CTL : Nat := 0x40330000
def TOW_LEGACY_CTL_ARM : Fld := ⟨TOW_LEGACY_CTL, 0, 0⟩
def TOW_LEGACY_CTL_ENABLE : Fld := ⟨TOW_LEGACY_CTL, 1, 1⟩
def TOW_LEGACY_CTL_DISABLE : Fld := ⟨TOW_LEGACY_CTL, 2, 2⟩
def TOW_LEGACY_CTL_ON : Fld := ⟨TOW_LEGACY_CTL, 8, 8⟩
def TOW_LEGACY_CTL_ARMED : Fld := ⟨TOW_LEGACY_CTL, 9, 9⟩
def TOW_L_STS : Nat := 0x40330002
def TOW_L_STS_SEQ_ERR : Fld := ⟨TOW_L_STS, 0, 0⟩
def TOW_L_STS_CFG_ERR : Fld := ⟨TOW_L_STS, 1, 1⟩
def TOW_L_STS_LOCKED_WR : Fld := ⟨TOW_L_STS, 2, 2⟩
def TOW_L_STS_OVERRUN : Fld := ⟨TOW_L_STS, 3, 3⟩
def TOW_L_STS_SEALED_OFF : Fld := ⟨TOW_L_STS, 10, 10⟩
def TOW_L_ING_SRC : Nat := 0x40330004
def TOW_L_ING_SRC_PORTS : Fld := ⟨TOW_L_ING_SRC, 11, 0⟩
def TOW_L_EGR_SRC : Nat := 0x40330006
def TOW_L_EGR_SRC_PORTS : Fld := ⟨TOW_L_EGR_SRC, 11, 0⟩
def TOW_L_ANALYSIS : Nat := 0x40330008
def TOW_L_ANALYSIS_PORT : Fld := ⟨TOW_L_ANALYSIS, 3, 0⟩
def TOW_L_FLOW_EN : Nat := 0x4033000A
def TOW_L_FLOW_EN_EN : Fld := ⟨TOW_L_FLOW_EN, 3, 0⟩
def TOW_L_FLOW (i : Nat) : Nat := 0x4033000C + 0x2 * i
def TOW_L_FLOW_VID (i : Nat) : Fld := ⟨TOW_L_FLOW i, 11, 0⟩
def TOW_L_FLOW_PCP (i : Nat) : Fld := ⟨TOW_L_FLOW i, 14, 12⟩
def TOW_L_FLOW_PCP_EN (i : Nat) : Fld := ⟨TOW_L_FLOW i, 15, 15⟩
def TOW_L_COPY_CNT : Nat := 0x40330014
def TOW_L_COPY_CNT_VALUE : Fld := ⟨TOW_L_COPY_CNT, 15, 0⟩
def TOW_L_DROP_CNT : Nat := 0x40330016
def TOW_L_DROP_CNT_VALUE : Fld := ⟨TOW_L_DROP_CNT, 15, 0⟩
def TOW_L_ID : Nat := 0x40330018
def TOW_L_ID_VALUE : Fld := ⟨TOW_L_ID, 15, 0⟩

/-! ### Registers of spec/08_network_ports.md -/

def PORT_CFG (p : Nat) : Nat := 0x40500000 + 0x1000 * p
def PORT_CFG_OWNER (p : Nat) : Fld := ⟨PORT_CFG p, 3, 0⟩
def PORT_CFG_TRUNK (p : Nat) : Fld := ⟨PORT_CFG p, 4, 4⟩
def PORT_CFG_EN (p : Nat) : Fld := ⟨PORT_CFG p, 5, 5⟩
def PORT_STS (p : Nat) : Nat := 0x40500004 + 0x1000 * p
def PORT_STS_LINK (p : Nat) : Fld := ⟨PORT_STS p, 0, 0⟩
def PORT_STS_CRANK_LIMIT (p : Nat) : Fld := ⟨PORT_STS p, 1, 1⟩
def PORT_STS_LINK_CHG (p : Nat) : Fld := ⟨PORT_STS p, 8, 8⟩
def PORT_STS_RATE_CHG (p : Nat) : Fld := ⟨PORT_STS p, 9, 9⟩
def PORT_STS_ERR (p : Nat) : Fld := ⟨PORT_STS p, 10, 10⟩
def PORT_STS_TRX_FAULT (p : Nat) : Fld := ⟨PORT_STS p, 11, 11⟩
def PORT_STS_CAN_STATE_CHG (p : Nat) : Fld := ⟨PORT_STS p, 12, 12⟩
def PORT_STS_PLCA_CHG (p : Nat) : Fld := ⟨PORT_STS p, 13, 13⟩
def PORT_STS_LIN_EVT (p : Nat) : Fld := ⟨PORT_STS p, 14, 14⟩
def PORT_INT_EN (p : Nat) : Nat := 0x40500008 + 0x1000 * p
def PORT_INT_EN_STATE (p : Nat) : Fld := ⟨PORT_INT_EN p, 0, 0⟩
def PORT_INT_EN_ERR (p : Nat) : Fld := ⟨PORT_INT_EN p, 1, 1⟩
def PORT_CTL (p : Nat) : Nat := 0x4050000C + 0x1000 * p
def PORT_CTL_LINK_RESTART (p : Nat) : Fld := ⟨PORT_CTL p, 0, 0⟩
def PORT_CTL_CAN_RECOVER (p : Nat) : Fld := ⟨PORT_CTL p, 1, 1⟩
def PORT_CTL_CABLE_TEST (p : Nat) : Fld := ⟨PORT_CTL p, 2, 2⟩
def PORT_RX_FRM_LO (p : Nat) : Nat := 0x40500100 + 0x1000 * p
def PORT_RX_FRM_LO_VALUE (p : Nat) : Fld := ⟨PORT_RX_FRM_LO p, 31, 0⟩
def PORT_RX_FRM_HI (p : Nat) : Nat := 0x40500104 + 0x1000 * p
def PORT_RX_FRM_HI_VALUE (p : Nat) : Fld := ⟨PORT_RX_FRM_HI p, 31, 0⟩
def PORT_RX_BYTE_LO (p : Nat) : Nat := 0x40500108 + 0x1000 * p
def PORT_RX_BYTE_LO_VALUE (p : Nat) : Fld := ⟨PORT_RX_BYTE_LO p, 31, 0⟩
def PORT_RX_BYTE_HI (p : Nat) : Nat := 0x4050010C + 0x1000 * p
def PORT_RX_BYTE_HI_VALUE (p : Nat) : Fld := ⟨PORT_RX_BYTE_HI p, 31, 0⟩
def PORT_TX_FRM_LO (p : Nat) : Nat := 0x40500110 + 0x1000 * p
def PORT_TX_FRM_LO_VALUE (p : Nat) : Fld := ⟨PORT_TX_FRM_LO p, 31, 0⟩
def PORT_TX_FRM_HI (p : Nat) : Nat := 0x40500114 + 0x1000 * p
def PORT_TX_FRM_HI_VALUE (p : Nat) : Fld := ⟨PORT_TX_FRM_HI p, 31, 0⟩
def PORT_TX_BYTE_LO (p : Nat) : Nat := 0x40500118 + 0x1000 * p
def PORT_TX_BYTE_LO_VALUE (p : Nat) : Fld := ⟨PORT_TX_BYTE_LO p, 31, 0⟩
def PORT_TX_BYTE_HI (p : Nat) : Nat := 0x4050011C + 0x1000 * p
def PORT_TX_BYTE_HI_VALUE (p : Nat) : Fld := ⟨PORT_TX_BYTE_HI p, 31, 0⟩
def PORT_RX_ERR (p : Nat) : Nat := 0x40500120 + 0x1000 * p
def PORT_RX_ERR_COUNT (p : Nat) : Fld := ⟨PORT_RX_ERR p, 31, 0⟩
def PORT_RX_LEN_ERR (p : Nat) : Nat := 0x40500124 + 0x1000 * p
def PORT_RX_LEN_ERR_COUNT (p : Nat) : Fld := ⟨PORT_RX_LEN_ERR p, 31, 0⟩
def PORT_SYM_ERR (p : Nat) : Nat := 0x40500128 + 0x1000 * p
def PORT_SYM_ERR_COUNT (p : Nat) : Fld := ⟨PORT_SYM_ERR p, 31, 0⟩
def PORT_UNTAG_CNT (p : Nat) : Nat := 0x4050012C + 0x1000 * p
def PORT_UNTAG_CNT_COUNT (p : Nat) : Fld := ⟨PORT_UNTAG_CNT p, 31, 0⟩
def PORT_TAG_DROP_CNT (p : Nat) : Nat := 0x40500130 + 0x1000 * p
def PORT_TAG_DROP_CNT_COUNT (p : Nat) : Fld := ⟨PORT_TAG_DROP_CNT p, 31, 0⟩
def PORT_LINKDN_CNT (p : Nat) : Nat := 0x40500134 + 0x1000 * p
def PORT_LINKDN_CNT_COUNT (p : Nat) : Fld := ⟨PORT_LINKDN_CNT p, 31, 0⟩
def PORT_TX_ABORT_CNT (p : Nat) : Nat := 0x40500138 + 0x1000 * p
def PORT_TX_ABORT_CNT_COUNT (p : Nat) : Fld := ⟨PORT_TX_ABORT_CNT p, 31, 0⟩
def PORT_FMT_CNT (p : Nat) : Nat := 0x4050013C + 0x1000 * p
def PORT_FMT_CNT_COUNT (p : Nat) : Fld := ⟨PORT_FMT_CNT p, 31, 0⟩
def PORT_PHY_CFG (p : Nat) : Nat := 0x40500200 + 0x1000 * p
def PORT_PHY_CFG_MS (p : Nat) : Fld := ⟨PORT_PHY_CFG p, 1, 0⟩
def PORT_PHY_CFG_MAX_RATE (p : Nat) : Fld := ⟨PORT_PHY_CFG p, 3, 2⟩
def PORT_PHY_CFG_FALLBACK (p : Nat) : Fld := ⟨PORT_PHY_CFG p, 4, 4⟩
def PORT_PHY_CFG_UPSHIFT (p : Nat) : Fld := ⟨PORT_PHY_CFG p, 5, 5⟩
def PORT_PHY_CFG_TC10_EN (p : Nat) : Fld := ⟨PORT_PHY_CFG p, 6, 6⟩
def PORT_PHY_STS (p : Nat) : Nat := 0x40500204 + 0x1000 * p
def PORT_PHY_STS_SQI (p : Nat) : Fld := ⟨PORT_PHY_STS p, 2, 0⟩
def PORT_PHY_STS_MASTER (p : Nat) : Fld := ⟨PORT_PHY_STS p, 3, 3⟩
def PORT_PHY_STS_TRAIN (p : Nat) : Fld := ⟨PORT_PHY_STS p, 6, 4⟩
def PORT_PHY_STS_CABLE (p : Nat) : Fld := ⟨PORT_PHY_STS p, 9, 8⟩
def PORT_PHY_STS_CABLE_DIST (p : Nat) : Fld := ⟨PORT_PHY_STS p, 23, 16⟩
def PORT_PLCA_CFG (p : Nat) : Nat := 0x40500208 + 0x1000 * p
def PORT_PLCA_CFG_EN (p : Nat) : Fld := ⟨PORT_PLCA_CFG p, 0, 0⟩
def PORT_PLCA_CFG_NODE_ID (p : Nat) : Fld := ⟨PORT_PLCA_CFG p, 3, 1⟩
def PORT_PLCA_CFG_NODE_CNT (p : Nat) : Fld := ⟨PORT_PLCA_CFG p, 7, 4⟩
def PORT_PLCA_CFG_TO_TIMER (p : Nat) : Fld := ⟨PORT_PLCA_CFG p, 15, 8⟩
def PORT_PLCA_CFG_BURST_CNT (p : Nat) : Fld := ⟨PORT_PLCA_CFG p, 23, 16⟩
def PORT_PLCA_CFG_BURST_TMR (p : Nat) : Fld := ⟨PORT_PLCA_CFG p, 31, 24⟩
def PORT_PLCA_STS (p : Nat) : Nat := 0x4050020C + 0x1000 * p
def PORT_PLCA_STS_STATUS (p : Nat) : Fld := ⟨PORT_PLCA_STS p, 0, 0⟩
def PORT_PLCA_STS_BEACON_LOSS (p : Nat) : Fld := ⟨PORT_PLCA_STS p, 31, 16⟩
def PORT_CAN_CFG (p : Nat) : Nat := 0x40500300 + 0x1000 * p
def PORT_CAN_CFG_FD_EN (p : Nat) : Fld := ⟨PORT_CAN_CFG p, 0, 0⟩
def PORT_CAN_CFG_XL_EN (p : Nat) : Fld := ⟨PORT_CAN_CFG p, 1, 1⟩
def PORT_CAN_CFG_TRX (p : Nat) : Fld := ⟨PORT_CAN_CFG p, 3, 2⟩
def PORT_CAN_CFG_AUTO_RECOVER (p : Nat) : Fld := ⟨PORT_CAN_CFG p, 4, 4⟩
def PORT_CAN_CFG_RETX_LIMIT (p : Nat) : Fld := ⟨PORT_CAN_CFG p, 11, 8⟩
def PORT_LIN_CFG (p : Nat) : Nat := 0x40500300 + 0x1000 * p
def PORT_LIN_CFG_ROLE (p : Nat) : Fld := ⟨PORT_LIN_CFG p, 0, 0⟩
def PORT_LIN_CFG_PULLUP (p : Nat) : Fld := ⟨PORT_LIN_CFG p, 1, 1⟩
def PORT_LIN_CFG_RATE (p : Nat) : Fld := ⟨PORT_LIN_CFG p, 31, 16⟩
def PORT_CAN_NBT (p : Nat) : Nat := 0x40500304 + 0x1000 * p
def PORT_CAN_NBT_BRP (p : Nat) : Fld := ⟨PORT_CAN_NBT p, 4, 0⟩
def PORT_CAN_NBT_TSEG1 (p : Nat) : Fld := ⟨PORT_CAN_NBT p, 12, 5⟩
def PORT_CAN_NBT_TSEG2 (p : Nat) : Fld := ⟨PORT_CAN_NBT p, 19, 13⟩
def PORT_CAN_NBT_SJW (p : Nat) : Fld := ⟨PORT_CAN_NBT p, 26, 20⟩
def PORT_LIN_SCHED (p : Nat) : Nat := 0x40500304 + 0x1000 * p
def PORT_LIN_SCHED_CUR (p : Nat) : Fld := ⟨PORT_LIN_SCHED p, 0, 0⟩
def PORT_LIN_SCHED_SWITCH (p : Nat) : Fld := ⟨PORT_LIN_SCHED p, 1, 1⟩
def PORT_LIN_SCHED_PENDING (p : Nat) : Fld := ⟨PORT_LIN_SCHED p, 2, 2⟩
def PORT_LIN_SCHED_RUN (p : Nat) : Fld := ⟨PORT_LIN_SCHED p, 8, 8⟩
def PORT_CAN_DBT (p : Nat) : Nat := 0x40500308 + 0x1000 * p
def PORT_CAN_DBT_BRP (p : Nat) : Fld := ⟨PORT_CAN_DBT p, 4, 0⟩
def PORT_CAN_DBT_TSEG1 (p : Nat) : Fld := ⟨PORT_CAN_DBT p, 10, 5⟩
def PORT_CAN_DBT_TSEG2 (p : Nat) : Fld := ⟨PORT_CAN_DBT p, 15, 11⟩
def PORT_CAN_DBT_SJW (p : Nat) : Fld := ⟨PORT_CAN_DBT p, 20, 16⟩
def PORT_LIN_STS (p : Nat) : Nat := 0x40500308 + 0x1000 * p
def PORT_LIN_STS_ENTRY (p : Nat) : Fld := ⟨PORT_LIN_STS p, 4, 0⟩
def PORT_LIN_STS_HDR_LATE (p : Nat) : Fld := ⟨PORT_LIN_STS p, 8, 8⟩
def PORT_LIN_STS_CHK_ERR (p : Nat) : Fld := ⟨PORT_LIN_STS p, 9, 9⟩
def PORT_LIN_STS_NO_RESP (p : Nat) : Fld := ⟨PORT_LIN_STS p, 10, 10⟩
def PORT_LIN_STS_COLLISION (p : Nat) : Fld := ⟨PORT_LIN_STS p, 11, 11⟩
def PORT_LIN_STS_PID_ERR (p : Nat) : Fld := ⟨PORT_LIN_STS p, 12, 12⟩
def PORT_LIN_STS_SYNC_ERR (p : Nat) : Fld := ⟨PORT_LIN_STS p, 13, 13⟩
def PORT_CAN_XBT (p : Nat) : Nat := 0x4050030C + 0x1000 * p
def PORT_CAN_XBT_BRP (p : Nat) : Fld := ⟨PORT_CAN_XBT p, 4, 0⟩
def PORT_CAN_XBT_TSEG1 (p : Nat) : Fld := ⟨PORT_CAN_XBT p, 10, 5⟩
def PORT_CAN_XBT_TSEG2 (p : Nat) : Fld := ⟨PORT_CAN_XBT p, 15, 11⟩
def PORT_CAN_XBT_SJW (p : Nat) : Fld := ⟨PORT_CAN_XBT p, 20, 16⟩
def PORT_CAN_TDC (p : Nat) : Nat := 0x40500310 + 0x1000 * p
def PORT_CAN_TDC_EN (p : Nat) : Fld := ⟨PORT_CAN_TDC p, 0, 0⟩
def PORT_CAN_TDC_SSP_OFS (p : Nat) : Fld := ⟨PORT_CAN_TDC p, 7, 1⟩
def PORT_CAN_STS (p : Nat) : Nat := 0x40500314 + 0x1000 * p
def PORT_CAN_STS_STATE (p : Nat) : Fld := ⟨PORT_CAN_STS p, 1, 0⟩
def PORT_CAN_STS_LEC (p : Nat) : Fld := ⟨PORT_CAN_STS p, 6, 4⟩
def PORT_CAN_STS_REC (p : Nat) : Fld := ⟨PORT_CAN_STS p, 15, 8⟩
def PORT_CAN_STS_TEC (p : Nat) : Fld := ⟨PORT_CAN_STS p, 24, 16⟩
def PORT_TRX_STS (p : Nat) : Nat := 0x40500318 + 0x1000 * p
def PORT_TRX_STS_DOM_TMO (p : Nat) : Fld := ⟨PORT_TRX_STS p, 0, 0⟩
def PORT_TRX_STS_SHORT_BAT (p : Nat) : Fld := ⟨PORT_TRX_STS p, 1, 1⟩
def PORT_TRX_STS_SHORT_GND (p : Nat) : Fld := ⟨PORT_TRX_STS p, 2, 2⟩
def PORT_TRX_STS_THERMAL (p : Nat) : Fld := ⟨PORT_TRX_STS p, 3, 3⟩
def PORT_TRX_STS_UV (p : Nat) : Fld := ⟨PORT_TRX_STS p, 4, 4⟩
def PORT_MSEC_CFG (p : Nat) : Nat := 0x40500400 + 0x1000 * p
def PORT_MSEC_CFG_EN (p : Nat) : Fld := ⟨PORT_MSEC_CFG p, 0, 0⟩
def PORT_MSEC_CFG_XPN (p : Nat) : Fld := ⟨PORT_MSEC_CFG p, 1, 1⟩
def PORT_MSEC_CFG_VALIDATE (p : Nat) : Fld := ⟨PORT_MSEC_CFG p, 3, 2⟩
def PORT_MSEC_CFG_CONF (p : Nat) : Fld := ⟨PORT_MSEC_CFG p, 5, 4⟩
def PORT_MSEC_CFG_INCLUDE_SCI (p : Nat) : Fld := ⟨PORT_MSEC_CFG p, 6, 6⟩
def PORT_MSEC_CFG_ES (p : Nat) : Fld := ⟨PORT_MSEC_CFG p, 7, 7⟩
def PORT_MSEC_CFG_REPLAY_PROTECT (p : Nat) : Fld := ⟨PORT_MSEC_CFG p, 8, 8⟩
def PORT_MSEC_CFG_PROTECT (p : Nat) : Fld := ⟨PORT_MSEC_CFG p, 9, 9⟩
def PORT_MSEC_WIN (p : Nat) : Nat := 0x40500404 + 0x1000 * p
def PORT_MSEC_WIN_VALUE (p : Nat) : Fld := ⟨PORT_MSEC_WIN p, 31, 0⟩
def PORT_MSEC_BYPASS (p : Nat) : Nat := 0x40500408 + 0x1000 * p
def PORT_MSEC_BYPASS_VALUE (p : Nat) : Fld := ⟨PORT_MSEC_BYPASS p, 31, 0⟩
def PORT_MSEC_TXSA (p : Nat) : Nat := 0x4050040C + 0x1000 * p
def PORT_MSEC_TXSA_AN (p : Nat) : Fld := ⟨PORT_MSEC_TXSA p, 1, 0⟩
def PORT_MSEC_STS (p : Nat) : Nat := 0x40500410 + 0x1000 * p
def PORT_MSEC_STS_PN_THR (p : Nat) : Fld := ⟨PORT_MSEC_STS p, 0, 0⟩
def PORT_MSEC_STS_EXHAUSTED (p : Nat) : Fld := ⟨PORT_MSEC_STS p, 1, 1⟩
def PORT_MSEC_PN_THR (p : Nat) : Nat := 0x40500414 + 0x1000 * p
def PORT_MSEC_PN_THR_VALUE (p : Nat) : Fld := ⟨PORT_MSEC_PN_THR p, 31, 0⟩
def PORT_MSEC_RXSCI_LO (p s : Nat) : Nat := 0x40500440 + 0x1000 * p + 0x8 * s
def PORT_MSEC_RXSCI_LO_SCI (p s : Nat) : Fld := ⟨PORT_MSEC_RXSCI_LO p s, 31, 0⟩
def PORT_MSEC_RXSCI_HI (p s : Nat) : Nat := 0x40500444 + 0x1000 * p + 0x8 * s
def PORT_MSEC_RXSCI_HI_SCI (p s : Nat) : Fld := ⟨PORT_MSEC_RXSCI_HI p s, 31, 0⟩
def PORT_MSEC_RXSA (p s a : Nat) : Nat := 0x40500480 + 0x1000 * p + 0x10 * s + 0x4 * a
def PORT_MSEC_RXSA_IN_USE (p s a : Nat) : Fld := ⟨PORT_MSEC_RXSA p s a, 0, 0⟩
def PORT_MSEC_RXSA_KEYED (p s a : Nat) : Fld := ⟨PORT_MSEC_RXSA p s a, 1, 1⟩
def PORT_MSEC_CNT (p k : Nat) : Nat := 0x40500500 + 0x1000 * p + 0x4 * k
def PORT_MSEC_CNT_COUNT (p k : Nat) : Fld := ⟨PORT_MSEC_CNT p k, 31, 0⟩
def PORT_LIN_ID (p i : Nat) : Nat := 0x40500400 + 0x1000 * p + 0x4 * i
def PORT_LIN_ID_DIR (p i : Nat) : Fld := ⟨PORT_LIN_ID p i, 1, 0⟩
def PORT_LIN_ID_LEN (p i : Nat) : Fld := ⟨PORT_LIN_ID p i, 5, 2⟩
def PORT_LIN_ID_ENHANCED (p i : Nat) : Fld := ⟨PORT_LIN_ID p i, 6, 6⟩
def PORT_LIN_ID_REPORT_NO_RESP (p i : Nat) : Fld := ⟨PORT_LIN_ID p i, 7, 7⟩
def PORT_LIN_SA (p e : Nat) : Nat := 0x40500500 + 0x1000 * p + 0x4 * e
def PORT_LIN_SA_ID (p e : Nat) : Fld := ⟨PORT_LIN_SA p e, 5, 0⟩
def PORT_LIN_SA_TYPE (p e : Nat) : Fld := ⟨PORT_LIN_SA p e, 7, 6⟩
def PORT_LIN_SA_SLOT (p e : Nat) : Fld := ⟨PORT_LIN_SA p e, 23, 8⟩
def PORT_LIN_SB (p e : Nat) : Nat := 0x40500580 + 0x1000 * p + 0x4 * e
def PORT_LIN_SB_ID (p e : Nat) : Fld := ⟨PORT_LIN_SB p e, 5, 0⟩
def PORT_LIN_SB_TYPE (p e : Nat) : Fld := ⟨PORT_LIN_SB p e, 7, 6⟩
def PORT_LIN_SB_SLOT (p e : Nat) : Fld := ⟨PORT_LIN_SB p e, 23, 8⟩

/-! ### Registers of spec/09_siding_sleep_wake.md -/

def SID_SLEEP_CFG : Nat := 0x40600000
def SID_SLEEP_CFG_PRE_TMO_MS : Fld := ⟨SID_SLEEP_CFG, 15, 0⟩
def SID_SLEEP_CFG_TMO_ABORT : Fld := ⟨SID_SLEEP_CFG, 16, 16⟩
def SID_STS : Nat := 0x40600004
def SID_STS_STATE : Fld := ⟨SID_STS, 2, 0⟩
def SID_STS_TARGET : Fld := ⟨SID_STS, 4, 3⟩
def SID_STS_SLEEP_ABORTED : Fld := ⟨SID_STS, 8, 8⟩
def SID_STS_LATE_WAKE : Fld := ⟨SID_STS, 9, 9⟩
def SID_STS_PRE_TMO : Fld := ⟨SID_STS, 10, 10⟩
def SID_STS_FALSE_WAKE : Fld := ⟨SID_STS, 11, 11⟩
def SID_STS_LOCKOUT : Fld := ⟨SID_STS, 12, 12⟩
def SID_STS_FS_SLEEP : Fld := ⟨SID_STS, 13, 13⟩
def SID_INT_EN : Nat := 0x40600008
def SID_INT_EN_SLEEP : Fld := ⟨SID_INT_EN, 0, 0⟩
def SID_INT_EN_PORT : Fld := ⟨SID_INT_EN, 1, 1⟩
def SID_INT_EN_WAKE : Fld := ⟨SID_INT_EN, 2, 2⟩
def SID_INT_EN_FW : Fld := ⟨SID_INT_EN, 3, 3⟩
def SID_INT_EN_FS : Fld := ⟨SID_INT_EN, 4, 4⟩
def SID_WAKE_CAUSE : Nat := 0x4060000C
def SID_WAKE_CAUSE_CAUSE : Fld := ⟨SID_WAKE_CAUSE, 3, 0⟩
def SID_WAKE_CAUSE_LATE_WAKE : Fld := ⟨SID_WAKE_CAUSE, 4, 4⟩
def SID_WAKE_CAUSE_SOURCE : Fld := ⟨SID_WAKE_CAUSE, 13, 8⟩
def SID_WAKE_CAUSE_FROM : Fld := ⟨SID_WAKE_CAUSE, 17, 16⟩
def SID_WAKE_TIME_LO : Nat := 0x40600010
def SID_WAKE_TIME_LO_VALUE : Fld := ⟨SID_WAKE_TIME_LO, 31, 0⟩
def SID_WAKE_TIME_HI : Nat := 0x40600014
def SID_WAKE_TIME_HI_VALUE : Fld := ⟨SID_WAKE_TIME_HI, 31, 0⟩
def SID_WAKE_ALL_LO : Nat := 0x40600018
def SID_WAKE_ALL_LO_VALUE : Fld := ⟨SID_WAKE_ALL_LO, 31, 0⟩
def SID_WAKE_ALL_HI : Nat := 0x4060001C
def SID_WAKE_ALL_HI_VALUE : Fld := ⟨SID_WAKE_ALL_HI, 31, 0⟩
def SID_CONFIRM_MS : Nat := 0x40600020
def SID_CONFIRM_MS_MS : Fld := ⟨SID_CONFIRM_MS, 15, 0⟩
def SID_FW_CFG : Nat := 0x40600024
def SID_FW_CFG_FW_LIMIT : Fld := ⟨SID_FW_CFG, 3, 0⟩
def SID_FW_CFG_LOCKOUT_S : Fld := ⟨SID_FW_CFG, 31, 16⟩
def SID_FS_CFG : Nat := 0x40600028
def SID_FS_CFG_T_FS_MS : Fld := ⟨SID_FS_CFG, 15, 0⟩
def SID_CONFIRM : Nat := 0x40600080
def SID_CONFIRM_SOURCE : Fld := ⟨SID_CONFIRM, 5, 0⟩
def SID_SRC_CFG (s : Nat) : Nat := 0x40600100 + 0x4 * s
def SID_SRC_CFG_ARM (s : Nat) : Fld := ⟨SID_SRC_CFG s, 0, 0⟩
def SID_SRC_CFG_MODE (s : Nat) : Fld := ⟨SID_SRC_CFG s, 2, 1⟩
def SID_SRC_CFG_CONFIRM_N (s : Nat) : Fld := ⟨SID_SRC_CFG s, 15, 8⟩
def SID_SRC_CFG_FILT (s : Nat) : Fld := ⟨SID_SRC_CFG s, 23, 16⟩
def SID_SRC_STS (s : Nat) : Nat := 0x40600200 + 0x4 * s
def SID_SRC_STS_FW_CNT (s : Nat) : Fld := ⟨SID_SRC_STS s, 3, 0⟩
def SID_SRC_STS_STATE (s : Nat) : Fld := ⟨SID_SRC_STS s, 5, 4⟩
def SID_SRC_STS_LOCK_LEFT (s : Nat) : Fld := ⟨SID_SRC_STS s, 31, 16⟩
def SID_PORT_CFG (p : Nat) : Nat := 0x40600400 + 0x10 * p
def SID_PORT_CFG_PEER_SLEEP (p : Nat) : Fld := ⟨SID_PORT_CFG p, 0, 0⟩
def SID_PORT_CFG_LIN_GTS (p : Nat) : Fld := ⟨SID_PORT_CFG p, 1, 1⟩
def SID_PORT_CFG_BOOT_IGNORE (p : Nat) : Fld := ⟨SID_PORT_CFG p, 2, 2⟩
def SID_PORT_CFG_KEEP_PTP (p : Nat) : Fld := ⟨SID_PORT_CFG p, 3, 3⟩
def SID_PORT_CTL (p : Nat) : Nat := 0x40600404 + 0x10 * p
def SID_PORT_CTL_REQ (p : Nat) : Fld := ⟨SID_PORT_CTL p, 1, 0⟩
def SID_PORT_CTL_AT_TICK (p : Nat) : Fld := ⟨SID_PORT_CTL p, 2, 2⟩
def SID_PORT_STS (p : Nat) : Nat := 0x40600408 + 0x10 * p
def SID_PORT_STS_STATE (p : Nat) : Fld := ⟨SID_PORT_STS p, 1, 0⟩
def SID_PORT_STS_FROZEN (p : Nat) : Fld := ⟨SID_PORT_STS p, 2, 2⟩
def SID_PORT_STS_CHG (p : Nat) : Fld := ⟨SID_PORT_STS p, 8, 8⟩
def SID_PORT_STS_FS_SLEEP (p : Nat) : Fld := ⟨SID_PORT_STS p, 9, 9⟩
def SID_PORT_IGN_CNT (p : Nat) : Nat := 0x4060040C + 0x10 * p
def SID_PORT_IGN_CNT_COUNT (p : Nat) : Fld := ⟨SID_PORT_IGN_CNT p, 31, 0⟩
def SID_CAN_WUF_CFG (k : Nat) : Nat := 0x40600800 + 0x20 * k
def SID_CAN_WUF_CFG_RATE (k : Nat) : Fld := ⟨SID_CAN_WUF_CFG k, 1, 0⟩
def SID_CAN_WUF_CFG_IDE (k : Nat) : Fld := ⟨SID_CAN_WUF_CFG k, 2, 2⟩
def SID_CAN_WUF_CFG_FD_PASSIVE (k : Nat) : Fld := ⟨SID_CAN_WUF_CFG k, 3, 3⟩
def SID_CAN_WUF_CFG_DLC (k : Nat) : Fld := ⟨SID_CAN_WUF_CFG k, 7, 4⟩
def SID_CAN_WUF_CFG_DLC_EN (k : Nat) : Fld := ⟨SID_CAN_WUF_CFG k, 8, 8⟩
def SID_CAN_WUF_CFG_WUP_TMO (k : Nat) : Fld := ⟨SID_CAN_WUF_CFG k, 22, 16⟩
def SID_CAN_WUF_ID (k : Nat) : Nat := 0x40600804 + 0x20 * k
def SID_CAN_WUF_ID_ID (k : Nat) : Fld := ⟨SID_CAN_WUF_ID k, 28, 0⟩
def SID_CAN_WUF_MASK (k : Nat) : Nat := 0x40600808 + 0x20 * k
def SID_CAN_WUF_MASK_ID (k : Nat) : Fld := ⟨SID_CAN_WUF_MASK k, 28, 0⟩
def SID_CAN_WUF_DATA_LO (k : Nat) : Nat := 0x4060080C + 0x20 * k
def SID_CAN_WUF_DATA_LO_BYTES (k : Nat) : Fld := ⟨SID_CAN_WUF_DATA_LO k, 31, 0⟩
def SID_CAN_WUF_DATA_HI (k : Nat) : Nat := 0x40600810 + 0x20 * k
def SID_CAN_WUF_DATA_HI_BYTES (k : Nat) : Fld := ⟨SID_CAN_WUF_DATA_HI k, 31, 0⟩
def SID_CAN_WUF_DMASK_LO (k : Nat) : Nat := 0x40600814 + 0x20 * k
def SID_CAN_WUF_DMASK_LO_BYTES (k : Nat) : Fld := ⟨SID_CAN_WUF_DMASK_LO k, 31, 0⟩
def SID_CAN_WUF_DMASK_HI (k : Nat) : Nat := 0x40600818 + 0x20 * k
def SID_CAN_WUF_DMASK_HI_BYTES (k : Nat) : Fld := ⟨SID_CAN_WUF_DMASK_HI k, 31, 0⟩

/-! ### Registers of spec/10_power_channels.md -/

def CHAN_CFG (i : Nat) : Nat := 0x40810000 + 0x100 * i
def CHAN_CFG_OWNER (i : Nat) : Fld := ⟨CHAN_CFG i, 3, 0⟩
def CHAN_CFG_MODE (i : Nat) : Fld := ⟨CHAN_CFG i, 5, 4⟩
def CHAN_CFG_RANGE (i : Nat) : Fld := ⟨CHAN_CFG i, 7, 6⟩
def CHAN_CFG_PROFILE (i : Nat) : Fld := ⟨CHAN_CFG i, 11, 8⟩
def CHAN_CFG_SNAP_MODE (i : Nat) : Fld := ⟨CHAN_CFG i, 12, 12⟩
def CHAN_CFG_KEEP_IN_SENTINEL (i : Nat) : Fld := ⟨CHAN_CFG i, 13, 13⟩
def CHAN_CFG_I_NOM (i : Nat) : Fld := ⟨CHAN_CFG i, 31, 16⟩
def CHAN_GD_CFG (i : Nat) : Nat := 0x40810004 + 0x100 * i
def CHAN_GD_CFG_R_SHUNT (i : Nat) : Fld := ⟨CHAN_GD_CFG i, 9, 0⟩
def CHAN_GD_CFG_PAIR (i : Nat) : Fld := ⟨CHAN_GD_CFG i, 10, 10⟩
def CHAN_PWM (i : Nat) : Nat := 0x40810008 + 0x100 * i
def CHAN_PWM_CADENCE (i : Nat) : Fld := ⟨CHAN_PWM i, 2, 0⟩
def CHAN_PWM_EN (i : Nat) : Fld := ⟨CHAN_PWM i, 3, 3⟩
def CHAN_PWM_PHASE_AUTO (i : Nat) : Fld := ⟨CHAN_PWM i, 4, 4⟩
def CHAN_PWM_PHASE (i : Nat) : Fld := ⟨CHAN_PWM i, 31, 16⟩
def CHAN_CMD (i : Nat) : Nat := 0x4081000C + 0x100 * i
def CHAN_CMD_OP (i : Nat) : Fld := ⟨CHAN_CMD i, 2, 0⟩
def CHAN_CMD_MODE (i : Nat) : Fld := ⟨CHAN_CMD i, 4, 3⟩
def CHAN_CMD_DUTY (i : Nat) : Fld := ⟨CHAN_CMD i, 31, 16⟩
def CHAN_STS (i : Nat) : Nat := 0x40810010 + 0x100 * i
def CHAN_STS_CMD (i : Nat) : Fld := ⟨CHAN_STS i, 2, 0⟩
def CHAN_STS_OUT (i : Nat) : Fld := ⟨CHAN_STS i, 3, 3⟩
def CHAN_STS_LEVEL (i : Nat) : Fld := ⟨CHAN_STS i, 4, 4⟩
def CHAN_STS_RANGE_FINE (i : Nat) : Fld := ⟨CHAN_STS i, 5, 5⟩
def CHAN_STS_SAT (i : Nat) : Fld := ⟨CHAN_STS i, 6, 6⟩
def CHAN_STS_INRUSH (i : Nat) : Fld := ⟨CHAN_STS i, 7, 7⟩
def CHAN_STS_SC (i : Nat) : Fld := ⟨CHAN_STS i, 8, 8⟩
def CHAN_STS_OC (i : Nat) : Fld := ⟨CHAN_STS i, 9, 9⟩
def CHAN_STS_HARNESS (i : Nat) : Fld := ⟨CHAN_STS i, 10, 10⟩
def CHAN_STS_THERMAL (i : Nat) : Fld := ⟨CHAN_STS i, 11, 11⟩
def CHAN_STS_LATCHED (i : Nat) : Fld := ⟨CHAN_STS i, 12, 12⟩
def CHAN_STS_RETRY (i : Nat) : Fld := ⟨CHAN_STS i, 13, 13⟩
def CHAN_STS_SHED (i : Nat) : Fld := ⟨CHAN_STS i, 14, 14⟩
def CHAN_STS_DRAGSHOE (i : Nat) : Fld := ⟨CHAN_STS i, 15, 15⟩
def CHAN_STS_COAST (i : Nat) : Fld := ⟨CHAN_STS i, 16, 16⟩
def CHAN_STS_OPEN_ON (i : Nat) : Fld := ⟨CHAN_STS i, 17, 17⟩
def CHAN_STS_OPEN_OFF (i : Nat) : Fld := ⟨CHAN_STS i, 18, 18⟩
def CHAN_STS_SHORT_BAT (i : Nat) : Fld := ⟨CHAN_STS i, 19, 19⟩
def CHAN_STS_REVERSE (i : Nat) : Fld := ⟨CHAN_STS i, 20, 20⟩
def CHAN_STS_CRANK (i : Nat) : Fld := ⟨CHAN_STS i, 21, 21⟩
def CHAN_STS_RETRY_CNT (i : Nat) : Fld := ⟨CHAN_STS i, 27, 24⟩
def CHAN_EVT (i : Nat) : Nat := 0x40810014 + 0x100 * i
def CHAN_EVT_CMD_REF (i : Nat) : Fld := ⟨CHAN_EVT i, 0, 0⟩
def CHAN_EVT_SAT (i : Nat) : Fld := ⟨CHAN_EVT i, 1, 1⟩
def CHAN_EVT_EDGE (i : Nat) : Fld := ⟨CHAN_EVT i, 2, 2⟩
def CHAN_EVT_CRANK (i : Nat) : Fld := ⟨CHAN_EVT i, 3, 3⟩
def CHAN_INT_EN (i : Nat) : Nat := 0x40810018 + 0x100 * i
def CHAN_INT_EN_CMD_REF (i : Nat) : Fld := ⟨CHAN_INT_EN i, 0, 0⟩
def CHAN_INT_EN_SAT (i : Nat) : Fld := ⟨CHAN_INT_EN i, 1, 1⟩
def CHAN_INT_EN_EDGE (i : Nat) : Fld := ⟨CHAN_INT_EN i, 2, 2⟩
def CHAN_INT_EN_CRANK (i : Nat) : Fld := ⟨CHAN_INT_EN i, 3, 3⟩
def CHAN_CTL (i : Nat) : Nat := 0x4081001C + 0x100 * i
def CHAN_CTL_Q_CLR (i : Nat) : Fld := ⟨CHAN_CTL i, 0, 0⟩
def CHAN_CTL_CNT_CLR (i : Nat) : Fld := ⟨CHAN_CTL i, 1, 1⟩
def CHAN_I (i : Nat) : Nat := 0x40810020 + 0x100 * i
def CHAN_I_VALUE (i : Nat) : Fld := ⟨CHAN_I i, 31, 0⟩
def CHAN_I_AVG (i : Nat) : Nat := 0x40810024 + 0x100 * i
def CHAN_I_AVG_VALUE (i : Nat) : Fld := ⟨CHAN_I_AVG i, 31, 0⟩
def CHAN_V (i : Nat) : Nat := 0x40810028 + 0x100 * i
def CHAN_V_VALUE (i : Nat) : Fld := ⟨CHAN_V i, 31, 0⟩
def CHAN_TJ (i : Nat) : Nat := 0x4081002C + 0x100 * i
def CHAN_TJ_TEMP (i : Nat) : Fld := ⟨CHAN_TJ i, 15, 0⟩
def CHAN_TJ_DUTY (i : Nat) : Fld := ⟨CHAN_TJ i, 31, 16⟩
def CHAN_AVG_CFG (i : Nat) : Nat := 0x40810030 + 0x100 * i
def CHAN_AVG_CFG_WIN (i : Nat) : Fld := ⟨CHAN_AVG_CFG i, 1, 0⟩
def CHAN_CMD_STS (i : Nat) : Nat := 0x40810034 + 0x100 * i
def CHAN_CMD_STS_PENDING (i : Nat) : Fld := ⟨CHAN_CMD_STS i, 0, 0⟩
def CHAN_CMD_STS_OP (i : Nat) : Fld := ⟨CHAN_CMD_STS i, 3, 1⟩
def CHAN_CMD_STS_DUTY (i : Nat) : Fld := ⟨CHAN_CMD_STS i, 31, 16⟩
def CHAN_IN_CFG (i : Nat) : Nat := 0x40810038 + 0x100 * i
def CHAN_IN_CFG_THR_HI (i : Nat) : Fld := ⟨CHAN_IN_CFG i, 9, 0⟩
def CHAN_IN_CFG_THR_LO (i : Nat) : Fld := ⟨CHAN_IN_CFG i, 25, 16⟩
def CHAN_IN_CFG_DEB (i : Nat) : Fld := ⟨CHAN_IN_CFG i, 29, 26⟩
def CHAN_ON_CNT (i : Nat) : Nat := 0x4081003C + 0x100 * i
def CHAN_ON_CNT_COUNT (i : Nat) : Fld := ⟨CHAN_ON_CNT i, 31, 0⟩
def CHAN_Q_LO (i : Nat) : Nat := 0x40810040 + 0x100 * i
def CHAN_Q_LO_VALUE (i : Nat) : Fld := ⟨CHAN_Q_LO i, 31, 0⟩
def CHAN_Q_HI (i : Nat) : Nat := 0x40810044 + 0x100 * i
def CHAN_Q_HI_VALUE (i : Nat) : Fld := ⟨CHAN_Q_HI i, 31, 0⟩
def CHAN_EDGE_T_LO (i : Nat) : Nat := 0x40810048 + 0x100 * i
def CHAN_EDGE_T_LO_VALUE (i : Nat) : Fld := ⟨CHAN_EDGE_T_LO i, 31, 0⟩
def CHAN_EDGE_T_HI (i : Nat) : Nat := 0x4081004C + 0x100 * i
def CHAN_EDGE_T_HI_VALUE (i : Nat) : Fld := ⟨CHAN_EDGE_T_HI i, 31, 0⟩
def CHAN_CAD_CFG (c : Nat) : Nat := 0x40814000 + 0x4 * c
def CHAN_CAD_CFG_PERIOD (c : Nat) : Fld := ⟨CHAN_CAD_CFG c, 20, 0⟩
def CHAN_CAD_CFG_SPREAD (c : Nat) : Fld := ⟨CHAN_CAD_CFG c, 31, 31⟩
def CHAN_GSTS : Nat := 0x40814020
def CHAN_GSTS_CRANK : Fld := ⟨CHAN_GSTS, 0, 0⟩
def CHAN_GSTS_P3_REV : Fld := ⟨CHAN_GSTS, 1, 1⟩
def CHAN_AGG_I : Nat := 0x40814024
def CHAN_AGG_I_MA : Fld := ⟨CHAN_AGG_I, 31, 0⟩
def CHAN_PROF_W (k w : Nat) : Nat := 0x40814400 + 0x40 * k + 0x4 * w
def CHAN_PROF_W_VALUE (k w : Nat) : Fld := ⟨CHAN_PROF_W k w, 31, 0⟩

/-! ### Registers of spec/11_channel_protection.md -/

def CHAN_TRIP_CFG (i : Nat) : Nat := 0x40810080 + 0x100 * i
def CHAN_TRIP_CFG_SC_THR (i : Nat) : Fld := ⟨CHAN_TRIP_CFG i, 1, 0⟩
def CHAN_TRIP_CFG_VDS_THR (i : Nat) : Fld := ⟨CHAN_TRIP_CFG i, 5, 2⟩
def CHAN_TRIP_CFG_VDS_BLANK (i : Nat) : Fld := ⟨CHAN_TRIP_CFG i, 11, 6⟩
def CHAN_TRIP_CFG_OC_FILT (i : Nat) : Fld := ⟨CHAN_TRIP_CFG i, 15, 12⟩
def CHAN_HARN_CFG (i : Nat) : Nat := 0x40810084 + 0x100 * i
def CHAN_HARN_CFG_WIRE (i : Nat) : Fld := ⟨CHAN_HARN_CFG i, 3, 0⟩
def CHAN_HARN_CFG_DERATE (i : Nat) : Fld := ⟨CHAN_HARN_CFG i, 10, 4⟩
def CHAN_HARN_CFG_TAU (i : Nat) : Fld := ⟨CHAN_HARN_CFG i, 31, 16⟩
def CHAN_HARN_LIM (i : Nat) : Nat := 0x40810088 + 0x100 * i
def CHAN_HARN_LIM_T_MAX (i : Nat) : Fld := ⟨CHAN_HARN_LIM i, 7, 0⟩
def CHAN_HARN_LIM_T_RESTART (i : Nat) : Fld := ⟨CHAN_HARN_LIM i, 15, 8⟩
def CHAN_HARN_LIM_T_WARN (i : Nat) : Fld := ⟨CHAN_HARN_LIM i, 23, 16⟩
def CHAN_RETRY_CFG (i : Nat) : Nat := 0x4081008C + 0x100 * i
def CHAN_RETRY_CFG_REACT (i : Nat) : Fld := ⟨CHAN_RETRY_CFG i, 0, 0⟩
def CHAN_RETRY_CFG_RETRY_MAX (i : Nat) : Fld := ⟨CHAN_RETRY_CFG i, 4, 1⟩
def CHAN_RETRY_CFG_DELTA_T (i : Nat) : Fld := ⟨CHAN_RETRY_CFG i, 10, 5⟩
def CHAN_RETRY_CFG_DELAY_MS (i : Nat) : Fld := ⟨CHAN_RETRY_CFG i, 31, 16⟩
def CHAN_GOOD_S (i : Nat) : Nat := 0x40810090 + 0x100 * i
def CHAN_GOOD_S_GOOD_S (i : Nat) : Fld := ⟨CHAN_GOOD_S i, 7, 0⟩
def CHAN_SHED_CFG (i : Nat) : Nat := 0x40810094 + 0x100 * i
def CHAN_SHED_CFG_SHED_PRIO (i : Nat) : Fld := ⟨CHAN_SHED_CFG i, 3, 0⟩
def CHAN_DIAG_CFG (i : Nat) : Nat := 0x40810098 + 0x100 * i
def CHAN_DIAG_CFG_OL_OFF_EN (i : Nat) : Fld := ⟨CHAN_DIAG_CFG i, 0, 0⟩
def CHAN_DIAG_CFG_OL_OFF_INT (i : Nat) : Fld := ⟨CHAN_DIAG_CFG i, 7, 1⟩
def CHAN_DIAG_CFG_SB_FRAC (i : Nat) : Fld := ⟨CHAN_DIAG_CFG i, 11, 8⟩
def CHAN_DIAG_CFG_REV_THR (i : Nat) : Fld := ⟨CHAN_DIAG_CFG i, 27, 16⟩
def CHAN_DIAG_CFG_REV_BLOCK (i : Nat) : Fld := ⟨CHAN_DIAG_CFG i, 28, 28⟩
def CHAN_DS_CFG (i : Nat) : Nat := 0x4081009C + 0x100 * i
def CHAN_DS_CFG_STATE (i : Nat) : Fld := ⟨CHAN_DS_CFG i, 1, 0⟩
def CHAN_DS_CFG_CADENCE (i : Nat) : Fld := ⟨CHAN_DS_CFG i, 4, 2⟩
def CHAN_DS_CFG_DUTY (i : Nat) : Fld := ⟨CHAN_DS_CFG i, 31, 16⟩
def CHAN_GDJ_CFG (i : Nat) : Nat := 0x408100A0 + 0x100 * i
def CHAN_GDJ_CFG_RDS (i : Nat) : Fld := ⟨CHAN_GDJ_CFG i, 15, 0⟩
def CHAN_GDJ_CFG_RTH (i : Nat) : Fld := ⟨CHAN_GDJ_CFG i, 31, 16⟩
def CHAN_GDJ_TAU (i : Nat) : Nat := 0x408100A4 + 0x100 * i
def CHAN_GDJ_TAU_TAU_MS (i : Nat) : Fld := ⟨CHAN_GDJ_TAU i, 15, 0⟩
def CHAN_GDJ_TAU_TJ_MAX (i : Nat) : Fld := ⟨CHAN_GDJ_TAU i, 23, 16⟩
def CHAN_MODEL_T (i : Nat) : Nat := 0x408100A8 + 0x100 * i
def CHAN_MODEL_T_WIRE_T (i : Nat) : Fld := ⟨CHAN_MODEL_T i, 15, 0⟩
def CHAN_MODEL_T_JUNC_T (i : Nat) : Fld := ⟨CHAN_MODEL_T i, 31, 16⟩
def CHAN_PEVT (i : Nat) : Nat := 0x408100AC + 0x100 * i
def CHAN_PEVT_SC (i : Nat) : Fld := ⟨CHAN_PEVT i, 0, 0⟩
def CHAN_PEVT_OC (i : Nat) : Fld := ⟨CHAN_PEVT i, 1, 1⟩
def CHAN_PEVT_HARNESS (i : Nat) : Fld := ⟨CHAN_PEVT i, 2, 2⟩
def CHAN_PEVT_THERMAL (i : Nat) : Fld := ⟨CHAN_PEVT i, 3, 3⟩
def CHAN_PEVT_LATCH (i : Nat) : Fld := ⟨CHAN_PEVT i, 4, 4⟩
def CHAN_PEVT_RESTART (i : Nat) : Fld := ⟨CHAN_PEVT i, 5, 5⟩
def CHAN_PEVT_OPEN_ON (i : Nat) : Fld := ⟨CHAN_PEVT i, 6, 6⟩
def CHAN_PEVT_OPEN_OFF (i : Nat) : Fld := ⟨CHAN_PEVT i, 7, 7⟩
def CHAN_PEVT_SHORT_BAT (i : Nat) : Fld := ⟨CHAN_PEVT i, 8, 8⟩
def CHAN_PEVT_REVERSE (i : Nat) : Fld := ⟨CHAN_PEVT i, 9, 9⟩
def CHAN_PEVT_HARN_WARN (i : Nat) : Fld := ⟨CHAN_PEVT i, 10, 10⟩
def CHAN_PEVT_SHED (i : Nat) : Fld := ⟨CHAN_PEVT i, 11, 11⟩
def CHAN_PEVT_DRAGSHOE (i : Nat) : Fld := ⟨CHAN_PEVT i, 12, 12⟩
def CHAN_PEVT_UNLATCH_REF (i : Nat) : Fld := ⟨CHAN_PEVT i, 13, 13⟩
def CHAN_PINT_EN (i : Nat) : Nat := 0x408100B0 + 0x100 * i
def CHAN_PINT_EN_SC (i : Nat) : Fld := ⟨CHAN_PINT_EN i, 0, 0⟩
def CHAN_PINT_EN_OC (i : Nat) : Fld := ⟨CHAN_PINT_EN i, 1, 1⟩
def CHAN_PINT_EN_HARNESS (i : Nat) : Fld := ⟨CHAN_PINT_EN i, 2, 2⟩
def CHAN_PINT_EN_THERMAL (i : Nat) : Fld := ⟨CHAN_PINT_EN i, 3, 3⟩
def CHAN_PINT_EN_LATCH (i : Nat) : Fld := ⟨CHAN_PINT_EN i, 4, 4⟩
def CHAN_PINT_EN_RESTART (i : Nat) : Fld := ⟨CHAN_PINT_EN i, 5, 5⟩
def CHAN_PINT_EN_OPEN_ON (i : Nat) : Fld := ⟨CHAN_PINT_EN i, 6, 6⟩
def CHAN_PINT_EN_OPEN_OFF (i : Nat) : Fld := ⟨CHAN_PINT_EN i, 7, 7⟩
def CHAN_PINT_EN_SHORT_BAT (i : Nat) : Fld := ⟨CHAN_PINT_EN i, 8, 8⟩
def CHAN_PINT_EN_REVERSE (i : Nat) : Fld := ⟨CHAN_PINT_EN i, 9, 9⟩
def CHAN_PINT_EN_HARN_WARN (i : Nat) : Fld := ⟨CHAN_PINT_EN i, 10, 10⟩
def CHAN_PINT_EN_SHED (i : Nat) : Fld := ⟨CHAN_PINT_EN i, 11, 11⟩
def CHAN_PINT_EN_DRAGSHOE (i : Nat) : Fld := ⟨CHAN_PINT_EN i, 12, 12⟩
def CHAN_PINT_EN_UNLATCH_REF (i : Nat) : Fld := ⟨CHAN_PINT_EN i, 13, 13⟩
def CHAN_PCTL (i : Nat) : Nat := 0x408100B4 + 0x100 * i
def CHAN_PCTL_UNLATCH (i : Nat) : Fld := ⟨CHAN_PCTL i, 0, 0⟩
def CHAN_TRIP_CNT (i : Nat) : Nat := 0x408100B8 + 0x100 * i
def CHAN_TRIP_CNT_COUNT (i : Nat) : Fld := ⟨CHAN_TRIP_CNT i, 31, 0⟩
def HLK_STS : Nat := 0x40800000
def HLK_STS_UP : Fld := ⟨HLK_STS, 0, 0⟩
def HLK_STS_LANES : Fld := ⟨HLK_STS, 4, 1⟩
def HLK_STS_LANE_DROP : Fld := ⟨HLK_STS, 8, 8⟩
def HLK_STS_DOWN : Fld := ⟨HLK_STS, 9, 9⟩
def HLK_STS_DISCARD : Fld := ⟨HLK_STS, 10, 10⟩
def HLK_INT_EN : Nat := 0x40800004
def HLK_INT_EN_EN : Fld := ⟨HLK_INT_EN, 0, 0⟩
def HLK_RETRY_CNT : Nat := 0x40800008
def HLK_RETRY_CNT_COUNT : Fld := ⟨HLK_RETRY_CNT, 31, 0⟩
def HLK_DISCARD_CNT : Nat := 0x4080000C
def HLK_DISCARD_CNT_COUNT : Fld := ⟨HLK_DISCARD_CNT, 31, 0⟩
def HLK_CW_CFG : Nat := 0x40800040
def HLK_CW_CFG_UNIT : Fld := ⟨HLK_CW_CFG, 0, 0⟩
def HLK_CW_CFG_EARLY : Fld := ⟨HLK_CW_CFG, 1, 1⟩
def HLK_CW_CFG_KEY : Fld := ⟨HLK_CW_CFG, 15, 8⟩
def HLK_CW_CFG_WIN : Fld := ⟨HLK_CW_CFG, 31, 16⟩
def HLK_CW_SEED : Nat := 0x40800044
def HLK_CW_SEED_SEED : Fld := ⟨HLK_CW_SEED, 7, 0⟩
def HLK_CW_SEED_SEQ : Fld := ⟨HLK_CW_SEED, 15, 8⟩
def HLK_CW_WORD : Nat := 0x40800048
def HLK_CW_WORD_WORD : Fld := ⟨HLK_CW_WORD, 31, 0⟩
def HLK_CW_STS : Nat := 0x4080004C
def HLK_CW_STS_ARMED : Fld := ⟨HLK_CW_STS, 0, 0⟩
def HLK_CW_STS_WRONG : Fld := ⟨HLK_CW_STS, 8, 8⟩
def HLK_CW_STS_MISS : Fld := ⟨HLK_CW_STS, 9, 9⟩
def HLK_CW_STS_RESUMED : Fld := ⟨HLK_CW_STS, 10, 10⟩
def HLK_CW_ERR_CNT : Nat := 0x40800050
def HLK_CW_ERR_CNT_COUNT : Fld := ⟨HLK_CW_ERR_CNT, 31, 0⟩
def HLK_CW_MISS_CNT : Nat := 0x40800054
def HLK_CW_MISS_CNT_COUNT : Fld := ⟨HLK_CW_MISS_CNT, 31, 0⟩
def HLK_CW_INT_EN : Nat := 0x40800058
def HLK_CW_INT_EN_EN : Fld := ⟨HLK_CW_INT_EN, 0, 0⟩
def HLK_COAST_CFG : Nat := 0x40800060
def HLK_COAST_CFG_COAST_MS : Fld := ⟨HLK_COAST_CFG, 10, 0⟩
def HLK_DS_STS : Nat := 0x40800064
def HLK_DS_STS_APPLIED : Fld := ⟨HLK_DS_STS, 0, 0⟩
def HLK_DS_STS_COAST : Fld := ⟨HLK_DS_STS, 1, 1⟩
def HLK_DS_STS_CAUSE : Fld := ⟨HLK_DS_STS, 3, 2⟩
def HLK_DS_STS_COAST_LEFT : Fld := ⟨HLK_DS_STS, 31, 16⟩
def HLK_DS_CTL : Nat := 0x40800068
def HLK_DS_CTL_RELEASE : Fld := ⟨HLK_DS_CTL, 0, 0⟩
def HLK_DS_CTL_KEY : Fld := ⟨HLK_DS_CTL, 31, 16⟩
def HLK_DS_INT_EN : Nat := 0x4080006C
def HLK_DS_INT_EN_EN : Fld := ⟨HLK_DS_INT_EN, 0, 0⟩
def HPS_BUD_CFG : Nat := 0x40830000
def HPS_BUD_CFG_P_SHED : Fld := ⟨HPS_BUD_CFG, 5, 0⟩
def HPS_BUD_CFG_P_REL : Fld := ⟨HPS_BUD_CFG, 13, 8⟩
def HPS_BUD_CFG_I_SHED : Fld := ⟨HPS_BUD_CFG, 23, 16⟩
def HPS_BUD_CFG_I_REL : Fld := ⟨HPS_BUD_CFG, 31, 24⟩
def HPS_BUD_GRP : Nat := 0x40830004
def HPS_BUD_GRP_G_SHED : Fld := ⟨HPS_BUD_GRP, 5, 0⟩
def HPS_BUD_GRP_G_REL : Fld := ⟨HPS_BUD_GRP, 13, 8⟩
def HPS_BUD_GRP_REL_MS : Fld := ⟨HPS_BUD_GRP, 29, 16⟩
def HPS_AMB_CFG : Nat := 0x40830008
def HPS_AMB_CFG_T_AMB : Fld := ⟨HPS_AMB_CFG, 7, 0⟩
def HPS_BUD_STS : Nat := 0x4083000C
def HPS_BUD_STS_OVER : Fld := ⟨HPS_BUD_STS, 0, 0⟩
def HPS_BUD_STS_SHED : Fld := ⟨HPS_BUD_STS, 8, 8⟩
def HPS_BUD_STS_EXHAUSTED : Fld := ⟨HPS_BUD_STS, 9, 9⟩
def HPS_BUD_P : Nat := 0x40830010
def HPS_BUD_P_VALUE : Fld := ⟨HPS_BUD_P, 31, 0⟩
def HPS_BUD_I : Nat := 0x40830014
def HPS_BUD_I_VALUE : Fld := ⟨HPS_BUD_I, 31, 0⟩
def HPS_GRP_I : Nat := 0x40830018
def HPS_GRP_I_VALUE : Fld := ⟨HPS_GRP_I, 31, 0⟩
def HPS_SHED_LO : Nat := 0x4083001C
def HPS_SHED_LO_VALUE : Fld := ⟨HPS_SHED_LO, 31, 0⟩
def HPS_SHED_HI : Nat := 0x40830020
def HPS_SHED_HI_VALUE : Fld := ⟨HPS_SHED_HI, 31, 0⟩
def HPS_INT_EN : Nat := 0x40830024
def HPS_INT_EN_BUD : Fld := ⟨HPS_INT_EN, 0, 0⟩
def HPS_INT_EN_SUPPLY : Fld := ⟨HPS_INT_EN, 1, 1⟩
def HPS_VBAT : Nat := 0x40830028
def HPS_VBAT_VALUE : Fld := ⟨HPS_VBAT, 31, 0⟩

/-! ### Registers of spec/12_low_power_inputs.md -/

def LIO_CFG (n : Nat) : Nat := 0x40820000 + 0x40 * n
def LIO_CFG_OWNER (n : Nat) : Fld := ⟨LIO_CFG n, 3, 0⟩
def LIO_CFG_MODE (n : Nat) : Fld := ⟨LIO_CFG n, 5, 4⟩
def LIO_CFG_WET_DIR (n : Nat) : Fld := ⟨LIO_CFG n, 6, 6⟩
def LIO_CFG_WET_MA (n : Nat) : Fld := ⟨LIO_CFG n, 11, 8⟩
def LIO_CFG_WAKE_EN (n : Nat) : Fld := ⟨LIO_CFG n, 12, 12⟩
def LIO_CFG_WAKE_EDGE (n : Nat) : Fld := ⟨LIO_CFG n, 14, 13⟩
def LIO_THR (n : Nat) : Nat := 0x40820004 + 0x40 * n
def LIO_THR_THR_HI (n : Nat) : Fld := ⟨LIO_THR n, 13, 0⟩
def LIO_THR_THR_LO (n : Nat) : Fld := ⟨LIO_THR n, 29, 16⟩
def LIO_TIM (n : Nat) : Nat := 0x40820008 + 0x40 * n
def LIO_TIM_DEB (n : Nat) : Fld := ⟨LIO_TIM n, 3, 0⟩
def LIO_TIM_FAST (n : Nat) : Fld := ⟨LIO_TIM n, 15, 6⟩
def LIO_TIM_WAKE_FILT (n : Nat) : Fld := ⟨LIO_TIM n, 27, 16⟩
def LIO_STS (n : Nat) : Nat := 0x4082000C + 0x40 * n
def LIO_STS_VALUE (n : Nat) : Fld := ⟨LIO_STS n, 13, 0⟩
def LIO_STS_LEVEL (n : Nat) : Fld := ⟨LIO_STS n, 16, 16⟩
def LIO_STS_SAT (n : Nat) : Fld := ⟨LIO_STS n, 17, 17⟩
def LIO_STS_WET_FAULT (n : Nat) : Fld := ⟨LIO_STS n, 18, 18⟩
def LIO_EVT (n : Nat) : Nat := 0x40820010 + 0x40 * n
def LIO_EVT_EDGE (n : Nat) : Fld := ⟨LIO_EVT n, 0, 0⟩
def LIO_EVT_EDGE_OVF (n : Nat) : Fld := ⟨LIO_EVT n, 1, 1⟩
def LIO_EVT_FAST_OVF (n : Nat) : Fld := ⟨LIO_EVT n, 2, 2⟩
def LIO_EVT_SAT (n : Nat) : Fld := ⟨LIO_EVT n, 3, 3⟩
def LIO_INT_EN (n : Nat) : Nat := 0x40820014 + 0x40 * n
def LIO_INT_EN_EDGE (n : Nat) : Fld := ⟨LIO_INT_EN n, 0, 0⟩
def LIO_INT_EN_EDGE_OVF (n : Nat) : Fld := ⟨LIO_INT_EN n, 1, 1⟩
def LIO_INT_EN_FAST_OVF (n : Nat) : Fld := ⟨LIO_INT_EN n, 2, 2⟩
def LIO_INT_EN_SAT (n : Nat) : Fld := ⟨LIO_INT_EN n, 3, 3⟩
def LIO_EDGE_LO (n : Nat) : Nat := 0x40820018 + 0x40 * n
def LIO_EDGE_LO_NS (n : Nat) : Fld := ⟨LIO_EDGE_LO n, 31, 0⟩
def LIO_EDGE_HI (n : Nat) : Nat := 0x4082001C + 0x40 * n
def LIO_EDGE_HI_NS (n : Nat) : Fld := ⟨LIO_EDGE_HI n, 31, 0⟩
def LIO_EDGE_INFO (n : Nat) : Nat := 0x40820020 + 0x40 * n
def LIO_EDGE_INFO_FRAC (n : Nat) : Fld := ⟨LIO_EDGE_INFO n, 7, 0⟩
def LIO_EDGE_INFO_FALLING (n : Nat) : Fld := ⟨LIO_EDGE_INFO n, 8, 8⟩
def LIO_EDGE_INFO_VALID (n : Nat) : Fld := ⟨LIO_EDGE_INFO n, 9, 9⟩
def LIO_EDGE_INFO_FILL (n : Nat) : Fld := ⟨LIO_EDGE_INFO n, 19, 16⟩
def LIO_EDGE_INFO_OVF_CNT (n : Nat) : Fld := ⟨LIO_EDGE_INFO n, 31, 24⟩
def LIO_FAST (n : Nat) : Nat := 0x40820024 + 0x40 * n
def LIO_FAST_VALUE (n : Nat) : Fld := ⟨LIO_FAST n, 13, 0⟩
def LIO_FAST_LEVEL (n : Nat) : Fld := ⟨LIO_FAST n, 16, 16⟩
def LIO_FAST_K (n : Nat) : Fld := ⟨LIO_FAST n, 29, 20⟩
def LIO_FAST_VALID (n : Nat) : Fld := ⟨LIO_FAST n, 30, 30⟩
def LIO_FAST_STAGE_LSB (n : Nat) : Fld := ⟨LIO_FAST n, 31, 31⟩
def LIO_FAST_STS (n : Nat) : Nat := 0x40820028 + 0x40 * n
def LIO_FAST_STS_FILL (n : Nat) : Fld := ⟨LIO_FAST_STS n, 5, 0⟩
def LIO_FAST_STS_OVF_CNT (n : Nat) : Fld := ⟨LIO_FAST_STS n, 31, 16⟩
def LIO_LEVEL : Nat := 0x40821000
def LIO_LEVEL_LEVEL : Fld := ⟨LIO_LEVEL, 31, 0⟩

/-! ### Registers of spec/13_coaches_and_worlds.md -/

def MAN_STS : Nat := 0x40040000
def MAN_STS_REFUSED : Fld := ⟨MAN_STS, 0, 0⟩
def MAN_STS_EDIT_DONE : Fld := ⟨MAN_STS, 1, 1⟩
def MAN_STS_GLIMIT : Fld := ⟨MAN_STS, 2, 2⟩
def MAN_STS_NOT_QUIESCED : Fld := ⟨MAN_STS, 3, 3⟩
def MAN_INT_EN : Nat := 0x40040004
def MAN_INT_EN_REFUSED : Fld := ⟨MAN_INT_EN, 0, 0⟩
def MAN_INT_EN_EDIT_DONE : Fld := ⟨MAN_INT_EN, 1, 1⟩
def MAN_INT_EN_GLIMIT : Fld := ⟨MAN_INT_EN, 2, 2⟩
def MAN_INT_EN_NOT_QUIESCED : Fld := ⟨MAN_INT_EN, 3, 3⟩
def MAN_REFUSE_CNT : Nat := 0x40040008
def MAN_REFUSE_CNT_VALUE : Fld := ⟨MAN_REFUSE_CNT, 31, 0⟩
def MAN_LAST_ADDR_LO : Nat := 0x4004000C
def MAN_LAST_ADDR_LO_VALUE : Fld := ⟨MAN_LAST_ADDR_LO, 31, 0⟩
def MAN_LAST_ADDR_HI : Nat := 0x40040010
def MAN_LAST_ADDR_HI_VALUE : Fld := ⟨MAN_LAST_ADDR_HI, 31, 0⟩
def MAN_LAST_INFO : Nat := 0x40040014
def MAN_LAST_INFO_OWNER : Fld := ⟨MAN_LAST_INFO, 3, 0⟩
def MAN_LAST_INFO_WORLD : Fld := ⟨MAN_LAST_INFO, 4, 4⟩
def MAN_LAST_INFO_KIND : Fld := ⟨MAN_LAST_INFO, 6, 5⟩
def MAN_LAST_INFO_CORE : Fld := ⟨MAN_LAST_INFO, 11, 8⟩
def MAN_EDIT_IDX : Nat := 0x40040020
def MAN_EDIT_IDX_IDX : Fld := ⟨MAN_EDIT_IDX, 17, 0⟩
def MAN_EDIT_VAL : Nat := 0x40040024
def MAN_EDIT_VAL_VALUE : Fld := ⟨MAN_EDIT_VAL, 31, 0⟩
def MAN_EDIT_CMD : Nat := 0x40040028
def MAN_EDIT_CMD_GO : Fld := ⟨MAN_EDIT_CMD, 0, 0⟩
def MAN_EDIT_CMD_KEY : Fld := ⟨MAN_EDIT_CMD, 31, 16⟩
def MAN_EDIT_STS : Nat := 0x4004002C
def MAN_EDIT_STS_BUSY : Fld := ⟨MAN_EDIT_STS, 0, 0⟩
def MAN_EDIT_STS_RESULT : Fld := ⟨MAN_EDIT_STS, 2, 1⟩
def MAN_GLIMIT : Nat := 0x40040030
def MAN_GLIMIT_US : Fld := ⟨MAN_GLIMIT, 13, 0⟩
def MAN_GQHOME (m : Nat) : Nat := 0x40040034 + 0x4 * m
def MAN_GQHOME_HOME0 (m : Nat) : Fld := ⟨MAN_GQHOME m, 3, 0⟩
def MAN_GQHOME_HOME1 (m : Nat) : Fld := ⟨MAN_GQHOME m, 7, 4⟩
def MAN_GQHOME_HOME2 (m : Nat) : Fld := ⟨MAN_GQHOME m, 11, 8⟩
def MAN_GQHOME_HOME3 (m : Nat) : Fld := ⟨MAN_GQHOME m, 15, 12⟩
def MAN_GQHOME_HOME4 (m : Nat) : Fld := ⟨MAN_GQHOME m, 19, 16⟩
def MAN_GQHOME_HOME5 (m : Nat) : Fld := ⟨MAN_GQHOME m, 23, 20⟩
def MAN_GQHOME_HOME6 (m : Nat) : Fld := ⟨MAN_GQHOME m, 27, 24⟩
def MAN_GQHOME_HOME7 (m : Nat) : Fld := ⟨MAN_GQHOME m, 31, 28⟩
def MAN_DBG_STS : Nat := 0x4004003C
def MAN_DBG_STS_OPEN_NINV : Fld := ⟨MAN_DBG_STS, 0, 0⟩
def MAN_DBG_STS_OPEN_INV : Fld := ⟨MAN_DBG_STS, 1, 1⟩
def MAN_DBG_STS_GUARD_NINV : Fld := ⟨MAN_DBG_STS, 2, 2⟩
def MAN_DBG_STS_GUARD_INV : Fld := ⟨MAN_DBG_STS, 3, 3⟩
def MAN_DBG_STS_COACHES : Fld := ⟨MAN_DBG_STS, 15, 8⟩
def MAN_CORE_GINFO (k : Nat) : Nat := 0x40040100 + 0x4 * k
def MAN_CORE_GINFO_IMM (k : Nat) : Fld := ⟨MAN_CORE_GINFO k, 15, 0⟩
def MAN_CORE_GINFO_CALLER (k : Nat) : Fld := ⟨MAN_CORE_GINFO k, 19, 16⟩
def MAN_CORE_GINFO_IN_GUARD (k : Nat) : Fld := ⟨MAN_CORE_GINFO k, 20, 20⟩
def MAN_CORE_GINFO_RESTARTED (k : Nat) : Fld := ⟨MAN_CORE_GINFO k, 21, 21⟩
def MAN_CORE_GINFO_NOT_QUIESCED (k : Nat) : Fld := ⟨MAN_CORE_GINFO k, 22, 22⟩
def MAN_CORE_GINFO_REMEASURING (k : Nat) : Fld := ⟨MAN_CORE_GINFO k, 23, 23⟩
def MAN_CORE_GINFO_RESTART_CNT (k : Nat) : Fld := ⟨MAN_CORE_GINFO k, 31, 24⟩
def MAN_CORE_CFG (k : Nat) : Nat := 0x40041000 + 0x4 * k
def MAN_CORE_CFG_OWNER (k : Nat) : Fld := ⟨MAN_CORE_CFG k, 3, 0⟩
def MAN_CORE_CFG_WHEELER (k : Nat) : Fld := ⟨MAN_CORE_CFG k, 4, 4⟩
def MAN_COACH_CFG (c : Nat) : Nat := 0x40041040 + 0x4 * c
def MAN_COACH_CFG_EN (c : Nat) : Fld := ⟨MAN_COACH_CFG c, 0, 0⟩
def MAN_COACH_CFG_CRIT (c : Nat) : Fld := ⟨MAN_COACH_CFG c, 2, 1⟩
def MAN_COACH_CFG_DISP_PRIO (c : Nat) : Fld := ⟨MAN_COACH_CFG c, 12, 8⟩
def MAN_COACH_CFG_CORES (c : Nat) : Fld := ⟨MAN_COACH_CFG c, 27, 16⟩
def IRQ_ROUTE (s : Nat) : Nat := 0x40050000 + 0x4 * s
def IRQ_ROUTE_OWNER (s : Nat) : Fld := ⟨IRQ_ROUTE s, 3, 0⟩
def IRQ_ROUTE_CORE (s : Nat) : Fld := ⟨IRQ_ROUTE s, 7, 4⟩
def IRQ_ROUTE_PRIO (s : Nat) : Fld := ⟨IRQ_ROUTE s, 12, 8⟩
def IRQ_MASK (w : Nat) : Nat := 0x40050800 + 0x4 * w
def IRQ_MASK_BITS (w : Nat) : Fld := ⟨IRQ_MASK w, 31, 0⟩
def IRQ_PEND (w : Nat) : Nat := 0x40050840 + 0x4 * w
def IRQ_PEND_BITS (w : Nat) : Fld := ⟨IRQ_PEND w, 31, 0⟩
def IRQ_LC_CLAIM (k w : Nat) : Nat := 0x40051000 + 0x1000 * k + 0x800 * w
def IRQ_LC_CLAIM_SOURCE (k w : Nat) : Fld := ⟨IRQ_LC_CLAIM k w, 9, 0⟩
def IRQ_LC_EOI (k w : Nat) : Nat := 0x40051004 + 0x1000 * k + 0x800 * w
def IRQ_LC_EOI_SOURCE (k w : Nat) : Fld := ⟨IRQ_LC_EOI k w, 9, 0⟩
def IRQ_LC_PMR (k w : Nat) : Nat := 0x40051008 + 0x1000 * k + 0x800 * w
def IRQ_LC_PMR_PMR (k w : Nat) : Fld := ⟨IRQ_LC_PMR k w, 5, 0⟩
def IRQ_LC_STS (k w : Nat) : Nat := 0x4005100C + 0x1000 * k + 0x800 * w
def IRQ_LC_STS_ACTIVE_PRIO (k w : Nat) : Fld := ⟨IRQ_LC_STS k w, 5, 0⟩
def IRQ_LC_STS_EOI_ERR (k w : Nat) : Fld := ⟨IRQ_LC_STS k w, 8, 8⟩
def CA_IDENT (c : Nat) : Nat := 0x48050000 + 0x100000 * c
def CA_IDENT_COACH (c : Nat) : Fld := ⟨CA_IDENT c, 2, 0⟩
def CA_IDENT_CRIT (c : Nat) : Fld := ⟨CA_IDENT c, 4, 3⟩
def CA_IDENT_CORES (c : Nat) : Fld := ⟨CA_IDENT c, 27, 16⟩
def CA_RST_INFO (c : Nat) : Nat := 0x48050004 + 0x100000 * c
def CA_RST_INFO_COUNT (c : Nat) : Fld := ⟨CA_RST_INFO c, 15, 0⟩
def CA_RST_INFO_CAUSE (c : Nat) : Fld := ⟨CA_RST_INFO c, 23, 16⟩
def CA_RESET_REQ (c : Nat) : Nat := 0x48050008 + 0x100000 * c
def CA_RESET_REQ_KEY (c : Nat) : Fld := ⟨CA_RESET_REQ c, 31, 16⟩

/-! ### Registers of spec/14_tandem_pairs.md -/

def TAN_PAIR_CFG (p : Nat) : Nat := 0x40060000 + 0x40 * p
def TAN_PAIR_CFG_MODE (p : Nat) : Fld := ⟨TAN_PAIR_CFG p, 0, 0⟩
def TAN_PAIR_CFG_DEG_DS (p : Nat) : Fld := ⟨TAN_PAIR_CFG p, 1, 1⟩
def TAN_PAIR_CFG_FOLD_INTERVAL (p : Nat) : Fld := ⟨TAN_PAIR_CFG p, 24, 8⟩
def TAN_PAIR_STS (p : Nat) : Nat := 0x40060004 + 0x40 * p
def TAN_PAIR_STS_STATE (p : Nat) : Fld := ⟨TAN_PAIR_STS p, 1, 0⟩
def TAN_PAIR_STS_LATENT_PEND (p : Nat) : Fld := ⟨TAN_PAIR_STS p, 2, 2⟩
def TAN_PAIR_STS_BMIS (p : Nat) : Fld := ⟨TAN_PAIR_STS p, 8, 8⟩
def TAN_PAIR_STS_LATENT (p : Nat) : Fld := ⟨TAN_PAIR_STS p, 9, 9⟩
def TAN_PAIR_STS_STEST_FAIL (p : Nat) : Fld := ⟨TAN_PAIR_STS p, 10, 10⟩
def TAN_PAIR_STS_PARITY (p : Nat) : Fld := ⟨TAN_PAIR_STS p, 11, 11⟩
def TAN_PAIR_INT_EN (p : Nat) : Nat := 0x40060008 + 0x40 * p
def TAN_PAIR_INT_EN_EN (p : Nat) : Fld := ⟨TAN_PAIR_INT_EN p, 0, 0⟩
def TAN_PAIR_BMIS_CNT (p : Nat) : Nat := 0x4006000C + 0x40 * p
def TAN_PAIR_BMIS_CNT_COUNT (p : Nat) : Fld := ⟨TAN_PAIR_BMIS_CNT p, 31, 0⟩
def TAN_PAIR_LATENT_CNT (p : Nat) : Nat := 0x40060010 + 0x40 * p
def TAN_PAIR_LATENT_CNT_COUNT (p : Nat) : Fld := ⟨TAN_PAIR_LATENT_CNT p, 31, 0⟩
def TAN_PAIR_FOLD_CNT (p : Nat) : Nat := 0x40060014 + 0x40 * p
def TAN_PAIR_FOLD_CNT_COUNT (p : Nat) : Fld := ⟨TAN_PAIR_FOLD_CNT p, 31, 0⟩
def TAN_PAIR_STEST_CNT (p : Nat) : Nat := 0x40060018 + 0x40 * p
def TAN_PAIR_STEST_CNT_COUNT (p : Nat) : Fld := ⟨TAN_PAIR_STEST_CNT p, 31, 0⟩
def TAN_PAIR_FIRST_INFO (p : Nat) : Nat := 0x4006001C + 0x40 * p
def TAN_PAIR_FIRST_INFO_KIND (p : Nat) : Fld := ⟨TAN_PAIR_FIRST_INFO p, 1, 0⟩
def TAN_PAIR_FIRST_INFO_ADDR (p : Nat) : Fld := ⟨TAN_PAIR_FIRST_INFO p, 2, 2⟩
def TAN_PAIR_FIRST_INFO_DATA (p : Nat) : Fld := ⟨TAN_PAIR_FIRST_INFO p, 3, 3⟩
def TAN_PAIR_FIRST_INFO_ATTR (p : Nat) : Fld := ⟨TAN_PAIR_FIRST_INFO p, 4, 4⟩
def TAN_PAIR_FIRST_INFO_WORLD (p : Nat) : Fld := ⟨TAN_PAIR_FIRST_INFO p, 5, 5⟩
def TAN_PAIR_FIRST_ADDR_LO (p : Nat) : Nat := 0x40060020 + 0x40 * p
def TAN_PAIR_FIRST_ADDR_LO_VALUE (p : Nat) : Fld := ⟨TAN_PAIR_FIRST_ADDR_LO p, 31, 0⟩
def TAN_PAIR_FIRST_ADDR_HI (p : Nat) : Nat := 0x40060024 + 0x40 * p
def TAN_PAIR_FIRST_ADDR_HI_VALUE (p : Nat) : Fld := ⟨TAN_PAIR_FIRST_ADDR_HI p, 31, 0⟩
def TAN_PAIR_FOLD_L_LO (p : Nat) : Nat := 0x40060028 + 0x40 * p
def TAN_PAIR_FOLD_L_LO_VALUE (p : Nat) : Fld := ⟨TAN_PAIR_FOLD_L_LO p, 31, 0⟩
def TAN_PAIR_FOLD_L_HI (p : Nat) : Nat := 0x4006002C + 0x40 * p
def TAN_PAIR_FOLD_L_HI_VALUE (p : Nat) : Fld := ⟨TAN_PAIR_FOLD_L_HI p, 31, 0⟩
def TAN_PAIR_FOLD_W_LO (p : Nat) : Nat := 0x40060030 + 0x40 * p
def TAN_PAIR_FOLD_W_LO_VALUE (p : Nat) : Fld := ⟨TAN_PAIR_FOLD_W_LO p, 31, 0⟩
def TAN_PAIR_FOLD_W_HI (p : Nat) : Nat := 0x40060034 + 0x40 * p
def TAN_PAIR_FOLD_W_HI_VALUE (p : Nat) : Fld := ⟨TAN_PAIR_FOLD_W_HI p, 31, 0⟩
def TAN_INJ : Nat := 0x40060100
def TAN_INJ_PAIR : Fld := ⟨TAN_INJ, 1, 0⟩
def TAN_INJ_KIND : Fld := ⟨TAN_INJ, 3, 2⟩
def TAN_INJ_KEY : Fld := ⟨TAN_INJ, 31, 16⟩

/-! ### Registers of spec/15_strongbox.md -/

def SBX_SUBMIT : Nat := 0x40710000
def SBX_SUBMIT_ADDR : Fld := ⟨SBX_SUBMIT, 31, 0⟩
def SBX_STS : Nat := 0x40710004
def SBX_STS_QFILL : Fld := ⟨SBX_STS, 3, 0⟩
def SBX_STS_BUSY : Fld := ⟨SBX_STS, 4, 4⟩
def SBX_STS_DONE : Fld := ⟨SBX_STS, 8, 8⟩
def SBX_STS_SUBMIT_REF : Fld := ⟨SBX_STS, 9, 9⟩
def SBX_STS_HEALTH : Fld := ⟨SBX_STS, 10, 10⟩
def SBX_STS_ROLLBACK : Fld := ⟨SBX_STS, 11, 11⟩
def SBX_INT_EN : Nat := 0x40710008
def SBX_INT_EN_DONE : Fld := ⟨SBX_INT_EN, 8, 8⟩
def SBX_INT_EN_SUBMIT_REF : Fld := ⟨SBX_INT_EN, 9, 9⟩
def SBX_INT_EN_HEALTH : Fld := ⟨SBX_INT_EN, 10, 10⟩
def SBX_INT_EN_ROLLBACK : Fld := ⟨SBX_INT_EN, 11, 11⟩
def SBX_ROOT : Nat := 0x4071000C
def SBX_ROOT_TEST : Fld := ⟨SBX_ROOT, 0, 0⟩
def SBX_ROOT_IMAGE_OK : Fld := ⟨SBX_ROOT, 1, 1⟩
def SBX_ROOT_SLEEP_OK : Fld := ⟨SBX_ROOT, 2, 2⟩
def SBX_ROOT_CERT : Fld := ⟨SBX_ROOT, 3, 3⟩
def SBX_ROOT_SIGNER : Fld := ⟨SBX_ROOT, 7, 4⟩
def SBX_TAMPER : Nat := 0x40710010
def SBX_TAMPER_SOURCES : Fld := ⟨SBX_TAMPER, 4, 0⟩
def SBX_TAMPER_PENDING : Fld := ⟨SBX_TAMPER, 8, 8⟩
def SBX_TAMPER_COUNT : Fld := ⟨SBX_TAMPER, 31, 16⟩
def SBX_ROLLBACK : Nat := 0x40710014
def SBX_ROLLBACK_CONSIST : Fld := ⟨SBX_ROLLBACK, 7, 0⟩
def SBX_DRBG : Nat := 0x40710018
def SBX_DRBG_VALUE : Fld := ⟨SBX_DRBG, 31, 0⟩
def SBX_ODO_LO (n : Nat) : Nat := 0x40710100 + 0x8 * n
def SBX_ODO_LO_VALUE (n : Nat) : Fld := ⟨SBX_ODO_LO n, 31, 0⟩
def SBX_ODO_HI (n : Nat) : Nat := 0x40710104 + 0x8 * n
def SBX_ODO_HI_VALUE (n : Nat) : Fld := ⟨SBX_ODO_HI n, 31, 0⟩
def SBX_SLOT_ATTR (s : Nat) : Nat := 0x40710400 + 0x10 * s
def SBX_SLOT_ATTR_TYPE (s : Nat) : Fld := ⟨SBX_SLOT_ATTR s, 3, 0⟩
def SBX_SLOT_ATTR_USAGE (s : Nat) : Fld := ⟨SBX_SLOT_ATTR s, 9, 4⟩
def SBX_SLOT_ATTR_OWNER (s : Nat) : Fld := ⟨SBX_SLOT_ATTR s, 13, 10⟩
def SBX_SLOT_ATTR_EXPIRY (s : Nat) : Fld := ⟨SBX_SLOT_ATTR s, 15, 14⟩
def SBX_SLOT_ATTR_HW_NONCE (s : Nat) : Fld := ⟨SBX_SLOT_ATTR s, 16, 16⟩
def SBX_SLOT_ATTR_PROVISIONAL_OK (s : Nat) : Fld := ⟨SBX_SLOT_ATTR s, 17, 17⟩
def SBX_SLOT_ATTR_EXPORTABLE (s : Nat) : Fld := ⟨SBX_SLOT_ATTR s, 18, 18⟩
def SBX_SLOT_ATTR_STAGED (s : Nat) : Fld := ⟨SBX_SLOT_ATTR s, 19, 19⟩
def SBX_SLOT_ATTR_STATE (s : Nat) : Fld := ⟨SBX_SLOT_ATTR s, 22, 20⟩
def SBX_SLOT_ATTR_LEN (s : Nat) : Fld := ⟨SBX_SLOT_ATTR s, 26, 23⟩
def SBX_SLOT_LINK (s : Nat) : Nat := 0x40710404 + 0x10 * s
def SBX_SLOT_LINK_PARENT (s : Nat) : Fld := ⟨SBX_SLOT_LINK s, 7, 0⟩
def SBX_SLOT_LINK_ROOTED (s : Nat) : Fld := ⟨SBX_SLOT_LINK s, 8, 8⟩
def SBX_SLOT_LINK_GEN (s : Nat) : Fld := ⟨SBX_SLOT_LINK s, 31, 16⟩
def SBX_SLOT_USE (s : Nat) : Nat := 0x40710408 + 0x10 * s
def SBX_SLOT_USE_USE (s : Nat) : Fld := ⟨SBX_SLOT_USE s, 31, 0⟩

/-! ### Registers of spec/16_cipher_engine.md -/

def CE_STS : Nat := 0x40700000
def CE_STS_LANE_UP : Fld := ⟨CE_STS, 3, 0⟩
def CE_STS_DONE : Fld := ⟨CE_STS, 8, 8⟩
def CE_STS_TAG_FAIL : Fld := ⟨CE_STS, 9, 9⟩
def CE_STS_REVOKE : Fld := ⟨CE_STS, 10, 10⟩
def CE_STS_LANE_FAULT : Fld := ⟨CE_STS, 11, 11⟩
def CE_STS_KEYS_ERASED : Fld := ⟨CE_STS, 12, 12⟩
def CE_STS_STALL : Fld := ⟨CE_STS, 13, 13⟩
def CE_INT_EN : Nat := 0x40700004
def CE_INT_EN_DONE : Fld := ⟨CE_INT_EN, 0, 0⟩
def CE_INT_EN_FAULT : Fld := ⟨CE_INT_EN, 1, 1⟩
def CE_INT_EN_REVOKE : Fld := ⟨CE_INT_EN, 2, 2⟩
def CE_LANE_CTL : Nat := 0x40700008
def CE_LANE_CTL_READMIT : Fld := ⟨CE_LANE_CTL, 3, 0⟩
def CE_CFG : Nat := 0x4070000C
def CE_CFG_STALL_MS : Fld := ⟨CE_CFG, 15, 0⟩
def CE_TAGFAIL_CNT : Nat := 0x40700010
def CE_TAGFAIL_CNT_COUNT : Fld := ⟨CE_TAGFAIL_CNT, 31, 0⟩
def CE_REVOKE_CNT : Nat := 0x40700014
def CE_REVOKE_CNT_COUNT : Fld := ⟨CE_REVOKE_CNT, 31, 0⟩
def CE_MSEC_TXKEYED : Nat := 0x40700018
def CE_MSEC_TXKEYED_KEYED : Fld := ⟨CE_MSEC_TXKEYED, 23, 0⟩
def CE_SUBMIT (l : Nat) : Nat := 0x40700020 + 0x4 * l
def CE_SUBMIT_ADDR (l : Nat) : Fld := ⟨CE_SUBMIT l, 31, 0⟩
def CE_LSTS (l : Nat) : Nat := 0x40700030 + 0x4 * l
def CE_LSTS_QFILL (l : Nat) : Fld := ⟨CE_LSTS l, 3, 0⟩
def CE_LSTS_BUSY (l : Nat) : Fld := ⟨CE_LSTS l, 4, 4⟩
def CE_LSTS_WAIT_NONCE (l : Nat) : Fld := ⟨CE_LSTS l, 5, 5⟩
def CE_LSTS_WAIT_OUT (l : Nat) : Fld := ⟨CE_LSTS l, 6, 6⟩
def CE_LSTS_SUBMIT_REF (l : Nat) : Fld := ⟨CE_LSTS l, 8, 8⟩
def CE_KEYIN (i : Nat) : Nat := 0x40700040 + 0x4 * i
def CE_KEYIN_WORD (i : Nat) : Fld := ⟨CE_KEYIN i, 31, 0⟩
def CE_KEYLOAD : Nat := 0x40700080
def CE_KEYLOAD_LANE : Fld := ⟨CE_KEYLOAD, 1, 0⟩
def CE_KEYLOAD_TKR : Fld := ⟨CE_KEYLOAD, 5, 2⟩
def CE_KEYLOAD_TYPE : Fld := ⟨CE_KEYLOAD, 9, 6⟩
def CE_KEYLOAD_LEN : Fld := ⟨CE_KEYLOAD, 13, 10⟩
def CE_KEYLOAD_OWNER : Fld := ⟨CE_KEYLOAD, 17, 14⟩
def CE_KEYLOAD_PROV_OK : Fld := ⟨CE_KEYLOAD, 18, 18⟩
def CE_KEYLOAD_CLR : Fld := ⟨CE_KEYLOAD, 19, 19⟩

/-! ### Registers of spec/17_consist_and_boot.md -/

def SYS_ID : Nat := 0x40000000
def SYS_ID_PART : Fld := ⟨SYS_ID, 15, 0⟩
def SYS_ID_GRADE : Fld := ⟨SYS_ID, 19, 16⟩
def SYS_ID_STEP : Fld := ⟨SYS_ID, 23, 20⟩
def SYS_SERIAL (i : Nat) : Nat := 0x40000004 + 0x4 * i
def SYS_SERIAL_VALUE (i : Nat) : Fld := ⟨SYS_SERIAL i, 31, 0⟩
def SYS_BOOT_STS : Nat := 0x40000014
def SYS_BOOT_STS_HALF : Fld := ⟨SYS_BOOT_STS, 0, 0⟩
def SYS_BOOT_STS_SERVICE : Fld := ⟨SYS_BOOT_STS, 1, 1⟩
def SYS_BOOT_STS_BOOTSEL : Fld := ⟨SYS_BOOT_STS, 3, 2⟩
def SYS_BOOT_STS_FALLBACK : Fld := ⟨SYS_BOOT_STS, 4, 4⟩
def SYS_BOOT_STS_ERR_A : Fld := ⟨SYS_BOOT_STS, 15, 8⟩
def SYS_BOOT_STS_ERR_B : Fld := ⟨SYS_BOOT_STS, 23, 16⟩
def SYS_BOOT_STS_RETRY : Fld := ⟨SYS_BOOT_STS, 25, 24⟩
def SYS_IMAGE_VER : Nat := 0x40000018
def SYS_IMAGE_VER_VALUE : Fld := ⟨SYS_IMAGE_VER, 31, 0⟩
def SYS_READY : Nat := 0x4000001C
def SYS_READY_BLOCKS : Fld := ⟨SYS_READY, 19, 0⟩
def SYS_READY_SEALED : Fld := ⟨SYS_READY, 31, 31⟩
def SYS_READY_PORTS_LO : Nat := 0x40000020
def SYS_READY_PORTS_LO_PORTS : Fld := ⟨SYS_READY_PORTS_LO, 31, 20⟩
def SYS_READY_PORTS_HI : Nat := 0x40000024
def SYS_READY_PORTS_HI_PORTS : Fld := ⟨SYS_READY_PORTS_HI, 3, 0⟩
def SYS_SEAL : Nat := 0x40000028
def SYS_SEAL_SEAL : Fld := ⟨SYS_SEAL, 0, 0⟩
def SYS_SEAL_KEY : Fld := ⟨SYS_SEAL, 31, 16⟩
def SYS_CTL : Nat := 0x4000002C
def SYS_CTL_GUARD_GO : Fld := ⟨SYS_CTL, 0, 0⟩
def SYS_ROLLBACK_CMT : Nat := 0x40000030
def SYS_ROLLBACK_CMT_KEY : Fld := ⟨SYS_ROLLBACK_CMT, 31, 16⟩
def SYS_INT_EN : Nat := 0x40000034
def SYS_INT_EN_FLASH : Fld := ⟨SYS_INT_EN, 0, 0⟩
def SYS_INT_EN_START : Fld := ⟨SYS_INT_EN, 1, 1⟩
def SYS_STS : Nat := 0x40000038
def SYS_STS_RB_DONE : Fld := ⟨SYS_STS, 0, 0⟩
def SYS_STS_TMO_START : Fld := ⟨SYS_STS, 1, 1⟩
def SYS_READY_T (n : Nat) : Nat := 0x40000040 + 0x4 * n
def SYS_READY_T_VALUE (n : Nat) : Fld := ⟨SYS_READY_T n, 31, 0⟩
def SYS_CORE_ENTRY (k : Nat) : Nat := 0x40000100 + 0x4 * k
def SYS_CORE_ENTRY_VALUE (k : Nat) : Fld := ⟨SYS_CORE_ENTRY k, 31, 0⟩
def SYS_COACH_START (c : Nat) : Nat := 0x40000140 + 0x8 * c
def SYS_COACH_START_NEED (c : Nat) : Fld := ⟨SYS_COACH_START c, 19, 0⟩
def SYS_COACH_START_GUARD (c : Nat) : Fld := ⟨SYS_COACH_START c, 20, 20⟩
def SYS_COACH_START_TMO (c : Nat) : Fld := ⟨SYS_COACH_START c, 31, 24⟩
def SYS_COACH_PWAIT (c : Nat) : Nat := 0x40000144 + 0x8 * c
def SYS_COACH_PWAIT_PWAIT (c : Nat) : Fld := ⟨SYS_COACH_PWAIT c, 15, 0⟩
def SYS_COACH_STS (c : Nat) : Nat := 0x40000180 + 0x4 * c
def SYS_COACH_STS_STARTED (c : Nat) : Fld := ⟨SYS_COACH_STS c, 0, 0⟩
def SYS_COACH_STS_TMO_START (c : Nat) : Fld := ⟨SYS_COACH_STS c, 1, 1⟩
def SYS_COACH_STS_START (c : Nat) : Fld := ⟨SYS_COACH_STS c, 31, 8⟩
def SYS_MEAS_CONSIST (i : Nat) : Nat := 0x40000200 + 0x4 * i
def SYS_MEAS_CONSIST_VALUE (i : Nat) : Fld := ⟨SYS_MEAS_CONSIST i, 31, 0⟩
def SYS_MEAS_GUARD (i : Nat) : Nat := 0x40000240 + 0x4 * i
def SYS_MEAS_GUARD_VALUE (i : Nat) : Fld := ⟨SYS_MEAS_GUARD i, 31, 0⟩
def SYS_FLASH_ADDR : Nat := 0x40000300
def SYS_FLASH_ADDR_VALUE : Fld := ⟨SYS_FLASH_ADDR, 31, 0⟩
def SYS_FLASH_SRC : Nat := 0x40000304
def SYS_FLASH_SRC_VALUE : Fld := ⟨SYS_FLASH_SRC, 31, 0⟩
def SYS_FLASH_LEN : Nat := 0x40000308
def SYS_FLASH_LEN_LEN : Fld := ⟨SYS_FLASH_LEN, 12, 0⟩
def SYS_FLASH_CMD : Nat := 0x4000030C
def SYS_FLASH_CMD_OP : Fld := ⟨SYS_FLASH_CMD, 1, 0⟩
def SYS_FLASH_CMD_KEY : Fld := ⟨SYS_FLASH_CMD, 31, 16⟩
def SYS_FLASH_STS : Nat := 0x40000310
def SYS_FLASH_STS_BUSY : Fld := ⟨SYS_FLASH_STS, 0, 0⟩
def SYS_FLASH_STS_DONE : Fld := ⟨SYS_FLASH_STS, 1, 1⟩
def SYS_FLASH_STS_REFUSED : Fld := ⟨SYS_FLASH_STS, 2, 2⟩
def SYS_FLASH_STS_ERROR : Fld := ⟨SYS_FLASH_STS, 3, 3⟩
def DBG_STS : Nat := 0x40090000
def DBG_STS_ENABLES : Fld := ⟨DBG_STS, 3, 0⟩
def DBG_STS_CERT : Fld := ⟨DBG_STS, 4, 4⟩
def DBG_STS_HALTED : Fld := ⟨DBG_STS, 5, 5⟩
def DBG_STS_COACHES : Fld := ⟨DBG_STS, 15, 8⟩
def DBG_STS_REFUSED : Fld := ⟨DBG_STS, 16, 16⟩
def DBG_STS_JTAG : Fld := ⟨DBG_STS, 17, 17⟩
def DBG_STS_PORT : Fld := ⟨DBG_STS, 18, 18⟩
def DBG_ACC_CNT : Nat := 0x40090004
def DBG_ACC_CNT_VALUE : Fld := ⟨DBG_ACC_CNT, 31, 0⟩
def DBG_REF_CNT : Nat := 0x40090008
def DBG_REF_CNT_VALUE : Fld := ⟨DBG_REF_CNT, 31, 0⟩
def DBG_LAST : Nat := 0x4009000C
def DBG_LAST_OP : Fld := ⟨DBG_LAST, 7, 0⟩
def DBG_LAST_CORE : Fld := ⟨DBG_LAST, 11, 8⟩
def DBG_LAST_STATUS : Fld := ⟨DBG_LAST, 13, 12⟩
def DBG_LAST_PATH : Fld := ⟨DBG_LAST, 14, 14⟩
def DBG_LAST_ADDR_LO : Nat := 0x40090010
def DBG_LAST_ADDR_LO_VALUE : Fld := ⟨DBG_LAST_ADDR_LO, 31, 0⟩
def DBG_LAST_ADDR_HI : Nat := 0x40090014
def DBG_LAST_ADDR_HI_VALUE : Fld := ⟨DBG_LAST_ADDR_HI, 31, 0⟩

/-! ### Registers of spec/18_power_states_and_supply.md -/

def PWRM_STATE : Nat := 0x40020000
def PWRM_STATE_STATE : Fld := ⟨PWRM_STATE, 1, 0⟩
def PWRM_STATE_TARGET : Fld := ⟨PWRM_STATE, 3, 2⟩
def PWRM_STATE_PARKED_OK : Fld := ⟨PWRM_STATE, 4, 4⟩
def PWRM_STATE_REQ : Fld := ⟨PWRM_STATE, 15, 8⟩
def PWRM_STATE_GREQ : Fld := ⟨PWRM_STATE, 16, 16⟩
def PWRM_POLICY : Nat := 0x40020004
def PWRM_POLICY_NO_PARKED : Fld := ⟨PWRM_POLICY, 0, 0⟩
def PWRM_STS : Nat := 0x40020008
def PWRM_STS_CHG : Fld := ⟨PWRM_STS, 0, 0⟩
def PWRM_INT_EN : Nat := 0x4002000C
def PWRM_INT_EN_CHG : Fld := ⟨PWRM_INT_EN, 0, 0⟩
def PWRM_GUARD_QUIESCED : Nat := 0x40020010
def PWRM_GUARD_QUIESCED_KEY : Fld := ⟨PWRM_GUARD_QUIESCED, 31, 16⟩
def PWRM_WAKE_TMR : Nat := 0x40020014
def PWRM_WAKE_TMR_SECONDS : Fld := ⟨PWRM_WAKE_TMR, 23, 0⟩
def PWRM_MIN_TOL : Nat := 0x40020018
def PWRM_MIN_TOL_US : Fld := ⟨PWRM_MIN_TOL, 31, 0⟩
def PWRM_WAKE_INFO : Nat := 0x4002001C
def PWRM_WAKE_INFO_TIMER : Fld := ⟨PWRM_WAKE_INFO, 0, 0⟩
def PWRM_WAKE_INFO_SUPPLY : Fld := ⟨PWRM_WAKE_INFO, 1, 1⟩
def PWRM_PGATE (u : Nat) : Nat := 0x40020000 + 0x1000 * u
def PWRM_PGATE_OFF (u : Nat) : Fld := ⟨PWRM_PGATE u, 3, 0⟩
def PWRM_PGATE_GATED (u : Nat) : Fld := ⟨PWRM_PGATE u, 11, 8⟩
def PWRM_SLEEP_REQ (o : Nat) : Nat := 0x40020000 + ownerPage o
def PWRM_SLEEP_REQ_REQ (o : Nat) : Fld := ⟨PWRM_SLEEP_REQ o, 0, 0⟩
def PWRM_TOL_US (o : Nat) : Nat := 0x40020004 + ownerPage o
def PWRM_TOL_US_US (o : Nat) : Fld := ⟨PWRM_TOL_US o, 31, 0⟩
def CLK_STS : Nat := 0x40030000
def CLK_STS_REF : Fld := ⟨CLK_STS, 0, 0⟩
def CLK_STS_PRESENT : Fld := ⟨CLK_STS, 1, 1⟩
def CLK_STS_REFCLK_CHG : Fld := ⟨CLK_STS, 8, 8⟩
def CLK_STS_PLL_UNLOCK : Fld := ⟨CLK_STS, 9, 9⟩
def CLK_INT_EN : Nat := 0x40030004
def CLK_INT_EN_EN : Fld := ⟨CLK_INT_EN, 0, 0⟩
def CLK_REFCLK_PPM : Nat := 0x40030008
def CLK_REFCLK_PPM_PPM : Fld := ⟨CLK_REFCLK_PPM, 31, 0⟩
def CLK_GATE (u : Nat) : Nat := 0x40030000 + 0x1000 * u
def CLK_GATE_OFF (u : Nat) : Fld := ⟨CLK_GATE u, 3, 0⟩
def CLK_GATE_GATED (u : Nat) : Fld := ⟨CLK_GATE u, 11, 8⟩
def HPS_SUP_STS : Nat := 0x40830040
def HPS_SUP_STS_RANGE : Fld := ⟨HPS_SUP_STS, 2, 0⟩
def HPS_SUP_STS_CHG : Fld := ⟨HPS_SUP_STS, 8, 8⟩
def HPS_SUP_OV_MS : Nat := 0x40830044
def HPS_SUP_OV_MS_MS : Fld := ⟨HPS_SUP_OV_MS, 31, 0⟩

/-! ### Registers of spec/19_faults_and_resets.md -/

def FRM_CFG : Nat := 0x40010000
def FRM_CFG_FAULTN_SEV : Fld := ⟨FRM_CFG, 1, 0⟩
def FRM_CFG_GHOME : Fld := ⟨FRM_CFG, 7, 4⟩
def FRM_CTL : Nat := 0x40010004
def FRM_CTL_LOCK : Fld := ⟨FRM_CTL, 0, 0⟩
def FRM_STS : Nat := 0x40010008
def FRM_STS_PEND : Fld := ⟨FRM_STS, 0, 0⟩
def FRM_STS_FAULT_N : Fld := ⟨FRM_STS, 1, 1⟩
def FRM_STS_SAFE_N : Fld := ⟨FRM_STS, 2, 2⟩
def FRM_STS_SEV3_SEEN : Fld := ⟨FRM_STS, 8, 8⟩
def FRM_INT_EN : Nat := 0x4001000C
def FRM_INT_EN_FAULT : Fld := ⟨FRM_INT_EN, 0, 0⟩
def FRM_INT_EN_COACH : Fld := ⟨FRM_INT_EN, 1, 1⟩
def FRM_INT_EN_PIN : Fld := ⟨FRM_INT_EN, 2, 2⟩
def FRM_ACK : Nat := 0x40010010
def FRM_ACK_KEY : Fld := ⟨FRM_ACK, 31, 16⟩
def FRM_SAFE_CTL : Nat := 0x40010014
def FRM_SAFE_CTL_RELEASE : Fld := ⟨FRM_SAFE_CTL, 0, 0⟩
def FRM_SAFE_CTL_KEY : Fld := ⟨FRM_SAFE_CTL, 31, 16⟩
def FRM_RESET_CMD : Nat := 0x40010018
def FRM_RESET_CMD_KIND : Fld := ⟨FRM_RESET_CMD, 1, 0⟩
def FRM_RESET_CMD_KEY : Fld := ⟨FRM_RESET_CMD, 31, 16⟩
def FRM_BLK_RST : Nat := 0x4001001C
def FRM_BLK_RST_UNIT : Fld := ⟨FRM_BLK_RST, 2, 0⟩
def FRM_BLK_RST_INDEX : Fld := ⟨FRM_BLK_RST, 8, 3⟩
def FRM_BLK_RST_KEY : Fld := ⟨FRM_BLK_RST, 31, 16⟩
def FRM_BOOT_CAUSE : Nat := 0x40010020
def FRM_BOOT_CAUSE_CAUSE : Fld := ⟨FRM_BOOT_CAUSE, 3, 0⟩
def FRM_BOOT_CAUSE_BLOCK : Fld := ⟨FRM_BOOT_CAUSE, 15, 8⟩
def FRM_BOOT_CAUSE_CODE : Fld := ⟨FRM_BOOT_CAUSE, 31, 16⟩
def FRM_CNT (s : Nat) : Nat := 0x40010024 + 0x4 * s
def FRM_CNT_COUNT (s : Nat) : Fld := ⟨FRM_CNT s, 31, 0⟩
def FRM_COACH_CFG (c : Nat) : Nat := 0x40010040 + 0x4 * c
def FRM_COACH_CFG_AUTO (c : Nat) : Fld := ⟨FRM_COACH_CFG c, 0, 0⟩
def FRM_COACH_CFG_CHAN_POLICY (c : Nat) : Fld := ⟨FRM_COACH_CFG c, 2, 1⟩
def FRM_COACH_CFG_SAFE_EN (c : Nat) : Fld := ⟨FRM_COACH_CFG c, 4, 4⟩
def FRM_COACH_CFG_ESC_MAX (c : Nat) : Fld := ⟨FRM_COACH_CFG c, 11, 8⟩
def FRM_COACH_CFG_ESC_WIN (c : Nat) : Fld := ⟨FRM_COACH_CFG c, 19, 12⟩
def FRM_COACH_CFG_ESC_ACT (c : Nat) : Fld := ⟨FRM_COACH_CFG c, 20, 20⟩
def FRM_COACH_CTL (c : Nat) : Nat := 0x40010060 + 0x4 * c
def FRM_COACH_CTL_RESET (c : Nat) : Fld := ⟨FRM_COACH_CTL c, 0, 0⟩
def FRM_COACH_CTL_RESTART (c : Nat) : Fld := ⟨FRM_COACH_CTL c, 1, 1⟩
def FRM_COACH_CTL_DS_REL (c : Nat) : Fld := ⟨FRM_COACH_CTL c, 2, 2⟩
def FRM_COACH_CTL_KEY (c : Nat) : Fld := ⟨FRM_COACH_CTL c, 31, 16⟩
def FRM_SWFAULT (o : Nat) : Nat := 0x40010000 + ownerPage o
def FRM_SWFAULT_SEV (o : Nat) : Fld := ⟨FRM_SWFAULT o, 1, 0⟩
def FRM_SWFAULT_OWNER (o : Nat) : Fld := ⟨FRM_SWFAULT o, 7, 4⟩
def FRM_SWFAULT_CODE (o : Nat) : Fld := ⟨FRM_SWFAULT o, 31, 16⟩
def FRM_CFAULT (c : Nat) : Nat := 0x40018004 + 0x1000 * c
def FRM_CFAULT_COUNT (c : Nat) : Fld := ⟨FRM_CFAULT c, 15, 0⟩
def FRM_CFAULT_BLOCK (c : Nat) : Fld := ⟨FRM_CFAULT c, 23, 16⟩

/-! ### Registers of spec/20_tally_counters.md -/

def TALLY_C_CTL (k n : Nat) : Nat := 0x40070000 + 0x1000 * k + 0x10 * n
def TALLY_C_CTL_EN (k n : Nat) : Fld := ⟨TALLY_C_CTL k n, 0, 0⟩
def TALLY_C_CTL_MODE (k n : Nat) : Fld := ⟨TALLY_C_CTL k n, 1, 1⟩
def TALLY_C_CTL_OVF_IRQ_EN (k n : Nat) : Fld := ⟨TALLY_C_CTL k n, 5, 5⟩
def TALLY_C_CTL_BAD_EVT (k n : Nat) : Fld := ⟨TALLY_C_CTL k n, 6, 6⟩
def TALLY_C_CTL_EVENT (k n : Nat) : Fld := ⟨TALLY_C_CTL k n, 15, 8⟩
def TALLY_C_CNT_LO (k n : Nat) : Nat := 0x40070004 + 0x1000 * k + 0x10 * n
def TALLY_C_CNT_LO_VALUE (k n : Nat) : Fld := ⟨TALLY_C_CNT_LO k n, 31, 0⟩
def TALLY_C_CNT_HI (k n : Nat) : Nat := 0x40070008 + 0x1000 * k + 0x10 * n
def TALLY_C_CNT_HI_VALUE (k n : Nat) : Fld := ⟨TALLY_C_CNT_HI k n, 31, 0⟩
def TALLY_C_STS (k : Nat) : Nat := 0x40070080 + 0x1000 * k
def TALLY_C_STS_OVF (k : Nat) : Fld := ⟨TALLY_C_STS k, 7, 0⟩
def TALLY_C_FREEZE (k : Nat) : Nat := 0x40070084 + 0x1000 * k
def TALLY_C_FREEZE_FREEZE (k : Nat) : Fld := ⟨TALLY_C_FREEZE k, 0, 0⟩
def TALLY_C_SMP_CFG (k : Nat) : Nat := 0x40070088 + 0x1000 * k
def TALLY_C_SMP_CFG_EN (k : Nat) : Fld := ⟨TALLY_C_SMP_CFG k, 0, 0⟩
def TALLY_C_SMP_CFG_TRIG (k : Nat) : Fld := ⟨TALLY_C_SMP_CFG k, 1, 1⟩
def TALLY_C_SMP_CFG_WRAP (k : Nat) : Fld := ⟨TALLY_C_SMP_CFG k, 2, 2⟩
def TALLY_C_SMP_CFG_EVT (k : Nat) : Fld := ⟨TALLY_C_SMP_CFG k, 15, 8⟩
def TALLY_C_SMP_CFG_N (k : Nat) : Fld := ⟨TALLY_C_SMP_CFG k, 31, 16⟩
def TALLY_C_SMP_WR (k : Nat) : Nat := 0x4007008C + 0x1000 * k
def TALLY_C_SMP_WR_COUNT (k : Nat) : Fld := ⟨TALLY_C_SMP_WR k, 31, 0⟩
def TALLY_C_SMP_RD (k : Nat) : Nat := 0x40070090 + 0x1000 * k
def TALLY_C_SMP_RD_COUNT (k : Nat) : Fld := ⟨TALLY_C_SMP_RD k, 31, 0⟩
def TALLY_C_SMP_DROP (k : Nat) : Nat := 0x40070094 + 0x1000 * k
def TALLY_C_SMP_DROP_COUNT (k : Nat) : Fld := ⟨TALLY_C_SMP_DROP k, 31, 0⟩
def TALLY_C_SMP_STS (k : Nat) : Nat := 0x40070098 + 0x1000 * k
def TALLY_C_SMP_STS_FILL (k : Nat) : Fld := ⟨TALLY_C_SMP_STS k, 9, 0⟩
def TALLY_C_SMP_STS_FULL (k : Nat) : Fld := ⟨TALLY_C_SMP_STS k, 16, 16⟩
def TALLY_C_SMP_STS_OVW (k : Nat) : Fld := ⟨TALLY_C_SMP_STS k, 17, 17⟩
def TALLY_C_SMP_THR (k : Nat) : Nat := 0x4007009C + 0x1000 * k
def TALLY_C_SMP_THR_THRESH (k : Nat) : Fld := ⟨TALLY_C_SMP_THR k, 9, 0⟩
def TALLY_D_CTL (n : Nat) : Nat := 0x4007C000 + 0x10 * n
def TALLY_D_CTL_EN (n : Nat) : Fld := ⟨TALLY_D_CTL n, 0, 0⟩
def TALLY_D_CTL_MODE (n : Nat) : Fld := ⟨TALLY_D_CTL n, 1, 1⟩
def TALLY_D_CTL_OVF_IRQ_EN (n : Nat) : Fld := ⟨TALLY_D_CTL n, 5, 5⟩
def TALLY_D_CTL_BAD_EVT (n : Nat) : Fld := ⟨TALLY_D_CTL n, 6, 6⟩
def TALLY_D_CTL_EVENT (n : Nat) : Fld := ⟨TALLY_D_CTL n, 15, 8⟩
def TALLY_D_CNT_LO (n : Nat) : Nat := 0x4007C004 + 0x10 * n
def TALLY_D_CNT_LO_VALUE (n : Nat) : Fld := ⟨TALLY_D_CNT_LO n, 31, 0⟩
def TALLY_D_CNT_HI (n : Nat) : Nat := 0x4007C008 + 0x10 * n
def TALLY_D_CNT_HI_VALUE (n : Nat) : Fld := ⟨TALLY_D_CNT_HI n, 31, 0⟩
def TALLY_D_STS : Nat := 0x4007C100
def TALLY_D_STS_OVF : Fld := ⟨TALLY_D_STS, 15, 0⟩
def TALLY_P_CTL (p m : Nat) : Nat := 0x4007D000 + 0x40 * p + 0x10 * m
def TALLY_P_CTL_EN (p m : Nat) : Fld := ⟨TALLY_P_CTL p m, 0, 0⟩
def TALLY_P_CTL_MODE (p m : Nat) : Fld := ⟨TALLY_P_CTL p m, 1, 1⟩
def TALLY_P_CTL_OVF_IRQ_EN (p m : Nat) : Fld := ⟨TALLY_P_CTL p m, 5, 5⟩
def TALLY_P_CTL_BAD_EVT (p m : Nat) : Fld := ⟨TALLY_P_CTL p m, 6, 6⟩
def TALLY_P_CTL_EVENT (p m : Nat) : Fld := ⟨TALLY_P_CTL p m, 15, 8⟩
def TALLY_P_CNT_LO (p m : Nat) : Nat := 0x4007D004 + 0x40 * p + 0x10 * m
def TALLY_P_CNT_LO_VALUE (p m : Nat) : Fld := ⟨TALLY_P_CNT_LO p m, 31, 0⟩
def TALLY_P_CNT_HI (p m : Nat) : Nat := 0x4007D008 + 0x40 * p + 0x10 * m
def TALLY_P_CNT_HI_VALUE (p m : Nat) : Fld := ⟨TALLY_P_CNT_HI p m, 31, 0⟩
def TALLY_P_STS (w : Nat) : Nat := 0x4007DC00 + 0x4 * w
def TALLY_P_STS_OVF (w : Nat) : Fld := ⟨TALLY_P_STS w, 31, 0⟩
def TALLY_BW_CFG : Nat := 0x4007E000
def TALLY_BW_CFG_EN : Fld := ⟨TALLY_BW_CFG, 0, 0⟩
def TALLY_BW_CFG_IRQ : Fld := ⟨TALLY_BW_CFG, 1, 1⟩
def TALLY_BW_CFG_N_STAGES : Fld := ⟨TALLY_BW_CFG, 31, 16⟩
def TALLY_BW_IN_LO (p : Nat) : Nat := 0x4007E100 + 0x20 * p
def TALLY_BW_IN_LO_VALUE (p : Nat) : Fld := ⟨TALLY_BW_IN_LO p, 31, 0⟩
def TALLY_BW_IN_HI (p : Nat) : Nat := 0x4007E104 + 0x20 * p
def TALLY_BW_IN_HI_VALUE (p : Nat) : Fld := ⟨TALLY_BW_IN_HI p, 31, 0⟩
def TALLY_BW_OUT_LO (p : Nat) : Nat := 0x4007E108 + 0x20 * p
def TALLY_BW_OUT_LO_VALUE (p : Nat) : Fld := ⟨TALLY_BW_OUT_LO p, 31, 0⟩
def TALLY_BW_OUT_HI (p : Nat) : Nat := 0x4007E10C + 0x20 * p
def TALLY_BW_OUT_HI_VALUE (p : Nat) : Fld := ⟨TALLY_BW_OUT_HI p, 31, 0⟩
def TALLY_BW_RATE_IN (p : Nat) : Nat := 0x4007E110 + 0x20 * p
def TALLY_BW_RATE_IN_VALUE (p : Nat) : Fld := ⟨TALLY_BW_RATE_IN p, 31, 0⟩
def TALLY_BW_RATE_OUT (p : Nat) : Nat := 0x4007E114 + 0x20 * p
def TALLY_BW_RATE_OUT_VALUE (p : Nat) : Fld := ⟨TALLY_BW_RATE_OUT p, 31, 0⟩
def TALLY_BW_WIN_NS (p : Nat) : Nat := 0x4007E118 + 0x20 * p
def TALLY_BW_WIN_NS_VALUE (p : Nat) : Fld := ⟨TALLY_BW_WIN_NS p, 31, 0⟩

end Sys2Proof.Machine.R
end

