-- ==== Sys2Proof/Machine/RegTable.lean ====
section
/-! DEFINITION. The access types of the registers (R11, R12): per block window of R496 the list of its
registers, each with its base address, its index strides and counts, and its fields with their type, as the
field tables of spec/02 to spec/20 give them. The Reset column's non-zero values are `resetWord`. -/

namespace Sys2Proof.Machine

/-- Access types of R11; GO (R12) is a separate mark of a field. -/
inductive Access where
  | ro | rw | wo | w1c | w1s | rws | lk
deriving DecidableEq, Repr

/-- One field of a register: bits [hi:lo], its type, and whether it is GO. -/
structure FieldDesc where
  hi : Nat
  lo : Nat
  acc : Access
  go : Bool
deriving DecidableEq, Repr

/-- One register (or array of registers) of a window. -/
structure RegDesc where
  base : Nat
  dims : List (Nat × Nat)
  fields : List FieldDesc
deriving DecidableEq, Repr

namespace RegTable

def stg : List RegDesc :=
  [ /- STG_CTL -/ ⟨0x40410000, [], [⟨1, 0, .lk, false⟩, ⟨6, 4, .lk, false⟩]⟩,
    /- STG_PERIOD_NS -/ ⟨0x40410004, [], [⟨23, 0, .lk, false⟩]⟩,
    /- STG_CMD_CUTOFF_NS -/ ⟨0x40410008, [], [⟨23, 0, .lk, false⟩]⟩,
    /- STG_QUIET_CLASSES -/ ⟨0x4041000C, [], [⟨7, 0, .lk, false⟩]⟩,
    /- STG_OUT_CFG -/ ⟨0x40410010, [], [⟨0, 0, .lk, false⟩, ⟨15, 8, .lk, false⟩]⟩,
    /- STG_NUM -/ ⟨0x40410020, [], [⟨31, 0, .ro, false⟩]⟩,
    /- STG_TICK_LO -/ ⟨0x40410024, [], [⟨31, 0, .ro, false⟩]⟩,
    /- STG_TICK_HI -/ ⟨0x40410028, [], [⟨31, 0, .ro, false⟩]⟩,
    /- STG_STS -/ ⟨0x4041002C, [], [⟨0, 0, .ro, false⟩, ⟨1, 1, .ro, false⟩, ⟨2, 2, .ro, false⟩, ⟨8, 8, .w1c, false⟩, ⟨9, 9, .w1c, false⟩, ⟨10, 10, .w1c, false⟩, ⟨11, 11, .w1c, false⟩, ⟨12, 12, .w1c, false⟩]⟩,
    /- STG_INT_EN -/ ⟨0x40410030, [], [⟨0, 0, .rw, false⟩, ⟨1, 1, .rw, false⟩, ⟨2, 2, .rw, false⟩, ⟨3, 3, .rw, false⟩]⟩,
    /- STG_OVR_CNT -/ ⟨0x40410034, [], [⟨31, 0, .ro, false⟩]⟩,
    /- STG_LATE_CMD_CNT -/ ⟨0x40410038, [], [⟨31, 0, .ro, false⟩]⟩,
    /- STG_COACH_CFG -/ ⟨0x40410040, [(0x4, 8)], [⟨1, 0, .lk, false⟩, ⟨2, 2, .lk, false⟩]⟩,
    /- STG_SNAP_BASE -/ ⟨0x40410060, [(0x4, 8)], [⟨31, 12, .lk, false⟩]⟩,
    /- STG_TT_START -/ ⟨0x40411000, [(0x10, 256)], [⟨23, 0, .lk, false⟩]⟩,
    /- STG_TT_LEN -/ ⟨0x40411004, [(0x10, 256)], [⟨23, 0, .lk, false⟩]⟩,
    /- STG_TT_CTL -/ ⟨0x40411008, [(0x10, 256)], [⟨2, 0, .lk, false⟩, ⟨7, 4, .lk, false⟩, ⟨11, 8, .lk, false⟩, ⟨15, 12, .lk, false⟩, ⟨23, 16, .lk, false⟩, ⟨27, 24, .lk, false⟩, ⟨31, 31, .lk, false⟩]⟩,
    /- STG_TT_GATE -/ ⟨0x4041100C, [(0x10, 256)], [⟨7, 0, .lk, false⟩]⟩,
    /- STG_GDONE -/ ⟨0x40417000, [], [⟨0, 0, .wo, true⟩]⟩,
    /- STG_GSTS -/ ⟨0x40417004, [], [⟨0, 0, .ro, false⟩, ⟨1, 1, .ro, false⟩, ⟨2, 2, .ro, false⟩, ⟨3, 3, .ro, false⟩, ⟨4, 4, .ro, false⟩, ⟨15, 8, .ro, false⟩, ⟨31, 16, .ro, false⟩]⟩,
    /- STG_DONE -/ ⟨0x40418000, [(0x1000, 8)], [⟨0, 0, .wo, false⟩]⟩,
    /- STG_CSTS -/ ⟨0x40418004, [(0x1000, 8)], [⟨0, 0, .ro, false⟩, ⟨1, 1, .ro, false⟩, ⟨2, 2, .ro, false⟩, ⟨3, 3, .ro, false⟩, ⟨4, 4, .ro, false⟩, ⟨15, 8, .ro, false⟩, ⟨31, 16, .ro, false⟩]⟩ ]

def time : List RegDesc :=
  [ /- TIME_CTL -/ ⟨0x40400000, [], [⟨1, 0, .lk, false⟩, ⟨8, 8, .lk, false⟩]⟩,
    /- TIME_JUMP_LIMIT_NS -/ ⟨0x40400004, [], [⟨19, 0, .lk, false⟩]⟩,
    /- TIME_SLEW_PPM -/ ⟨0x40400008, [], [⟨19, 0, .lk, false⟩]⟩,
    /- TIME_SERVO_CFG -/ ⟨0x4040000C, [], [⟨1, 0, .lk, false⟩, ⟨15, 8, .lk, false⟩, ⟨19, 16, .lk, false⟩]⟩,
    /- TIME_NOW_LO -/ ⟨0x40400010, [], [⟨31, 0, .ro, false⟩]⟩,
    /- TIME_NOW_HI -/ ⟨0x40400014, [], [⟨31, 0, .ro, false⟩]⟩,
    /- TIME_NOW_FRAC -/ ⟨0x40400018, [], [⟨15, 0, .ro, false⟩]⟩,
    /- TIME_STS -/ ⟨0x4040001C, [], [⟨2, 0, .ro, false⟩, ⟨3, 3, .ro, false⟩, ⟨4, 4, .ro, false⟩, ⟨5, 5, .ro, false⟩, ⟨6, 6, .ro, false⟩, ⟨7, 7, .ro, false⟩, ⟨8, 8, .w1c, false⟩, ⟨9, 9, .w1c, false⟩, ⟨10, 10, .w1c, false⟩, ⟨11, 11, .w1c, false⟩, ⟨12, 12, .w1c, false⟩, ⟨13, 13, .w1c, false⟩]⟩,
    /- TIME_INT_EN -/ ⟨0x40400020, [], [⟨0, 0, .rw, false⟩, ⟨1, 1, .rw, false⟩, ⟨2, 2, .rw, false⟩]⟩,
    /- TIME_OFFSET -/ ⟨0x40400024, [], [⟨31, 0, .ro, false⟩]⟩,
    /- TIME_FREQ -/ ⟨0x40400028, [], [⟨31, 0, .ro, false⟩]⟩,
    /- TIME_LOCK_SECS -/ ⟨0x4040002C, [], [⟨31, 0, .ro, false⟩]⟩,
    /- TIME_ACCEPT -/ ⟨0x40400030, [], [⟨15, 0, .wo, true⟩, ⟨31, 16, .wo, true⟩]⟩,
    /- TIME_PEND_SEQ -/ ⟨0x40400034, [], [⟨31, 0, .ro, false⟩]⟩,
    /- TIME_PEND_OFS_LO -/ ⟨0x40400038, [], [⟨31, 0, .ro, false⟩]⟩,
    /- TIME_PEND_OFS_HI -/ ⟨0x4040003C, [], [⟨31, 0, .ro, false⟩]⟩,
    /- TIME_GMID_LO -/ ⟨0x40400040, [], [⟨31, 0, .ro, false⟩]⟩,
    /- TIME_GMID_HI -/ ⟨0x40400044, [], [⟨31, 0, .ro, false⟩]⟩,
    /- TIME_PEND_GMID_LO -/ ⟨0x40400048, [], [⟨31, 0, .ro, false⟩]⟩,
    /- TIME_PEND_GMID_HI -/ ⟨0x4040004C, [], [⟨31, 0, .ro, false⟩]⟩,
    /- TIME_STEP_PRE_LO -/ ⟨0x40400050, [], [⟨31, 0, .ro, false⟩]⟩,
    /- TIME_STEP_PRE_HI -/ ⟨0x40400054, [], [⟨31, 0, .ro, false⟩]⟩,
    /- TIME_STEP_SIZE_LO -/ ⟨0x40400058, [], [⟨31, 0, .ro, false⟩]⟩,
    /- TIME_STEP_SIZE_HI -/ ⟨0x4040005C, [], [⟨31, 0, .ro, false⟩]⟩,
    /- TIME_DOM_CFG -/ ⟨0x40400080, [(0x20, 4)], [⟨0, 0, .lk, false⟩, ⟨1, 1, .lk, false⟩, ⟨2, 2, .lk, false⟩, ⟨7, 4, .lk, false⟩, ⟨8, 8, .lk, false⟩, ⟨23, 16, .lk, false⟩, ⟨27, 24, .lk, false⟩]⟩,
    /- TIME_DOM_MPORTS -/ ⟨0x40400084, [(0x20, 4)], [⟨15, 0, .lk, false⟩, ⟨23, 16, .lk, false⟩, ⟨31, 24, .lk, false⟩]⟩,
    /- TIME_DOM_OFS_LO -/ ⟨0x40400088, [(0x20, 4)], [⟨31, 0, .ro, false⟩]⟩,
    /- TIME_DOM_OFS_HI -/ ⟨0x4040008C, [(0x20, 4)], [⟨31, 0, .ro, false⟩]⟩,
    /- TIME_DOM_STS -/ ⟨0x40400090, [(0x20, 4)], [⟨2, 0, .ro, false⟩, ⟨3, 3, .w1c, false⟩]⟩,
    /- TIME_PORT_CFG -/ ⟨0x40400100, [(0x10, 16)], [⟨0, 0, .lk, false⟩, ⟨1, 1, .lk, false⟩, ⟨7, 4, .lk, false⟩, ⟨8, 8, .ro, false⟩, ⟨9, 9, .ro, false⟩, ⟨23, 16, .lk, false⟩]⟩,
    /- TIME_PORT_ASYM -/ ⟨0x40400104, [(0x10, 16)], [⟨31, 0, .lk, false⟩]⟩,
    /- TIME_PORT_CAL -/ ⟨0x40400108, [(0x10, 16)], [⟨31, 0, .ro, false⟩]⟩,
    /- TIME_PORT_DELAY -/ ⟨0x4040010C, [(0x10, 14)], [⟨31, 0, .ro, false⟩]⟩,
    /- TIME_PORT_DELAY, ports 14 and 15 -/ ⟨0x404001EC, [(0x10, 2)], [⟨31, 0, .lk, false⟩]⟩ ]

def tta : List RegDesc :=
  [ /- TTA_TOUT_CFG -/ ⟨0x40420100, [(0x4, 8)], [⟨3, 0, .lk, false⟩, ⟨4, 4, .lk, false⟩, ⟨8, 8, .lk, false⟩]⟩,
    /- TTA_TOUT_LEVEL -/ ⟨0x40420120, [], [⟨7, 0, .ro, false⟩]⟩,
    /- TTA_TCAP_CFG -/ ⟨0x40420200, [(0x10, 8)], [⟨3, 0, .lk, false⟩, ⟨5, 4, .rw, false⟩, ⟨10, 8, .rw, false⟩, ⟨11, 11, .rw, false⟩]⟩,
    /- TTA_TCAP_TS_LO -/ ⟨0x40420204, [(0x10, 8)], [⟨31, 0, .ro, false⟩]⟩,
    /- TTA_TCAP_TS_HI -/ ⟨0x40420208, [(0x10, 8)], [⟨31, 0, .ro, false⟩]⟩,
    /- TTA_TCAP_INFO -/ ⟨0x4042020C, [(0x10, 8)], [⟨7, 0, .ro, false⟩, ⟨8, 8, .ro, false⟩, ⟨9, 9, .ro, false⟩, ⟨20, 16, .ro, false⟩, ⟨31, 24, .ro, false⟩]⟩,
    /- TTA_SLOT_CFG -/ ⟨0x40421000, [(0x20, 64)], [⟨2, 0, .rw, false⟩, ⟨5, 4, .rw, false⟩, ⟨6, 6, .rw, false⟩, ⟨7, 7, .rw, false⟩, ⟨10, 8, .rw, false⟩, ⟨24, 16, .rw, false⟩, ⟨31, 28, .lk, false⟩]⟩,
    /- TTA_SLOT_TIME_LO -/ ⟨0x40421004, [(0x20, 64)], [⟨31, 0, .rw, false⟩]⟩,
    /- TTA_SLOT_TIME_HI -/ ⟨0x40421008, [(0x20, 64)], [⟨31, 0, .rw, false⟩]⟩,
    /- TTA_SLOT_FRAC -/ ⟨0x4042100C, [(0x20, 64)], [⟨7, 0, .rw, false⟩]⟩,
    /- TTA_SLOT_PERIOD -/ ⟨0x40421010, [(0x20, 64)], [⟨31, 0, .rw, false⟩]⟩,
    /- TTA_SLOT_COUNT -/ ⟨0x40421014, [(0x20, 64)], [⟨15, 0, .rw, false⟩]⟩,
    /- TTA_SLOT_ARG -/ ⟨0x40421018, [(0x20, 64)], [⟨31, 0, .rw, false⟩]⟩,
    /- TTA_SLOT_CMD -/ ⟨0x4042101C, [(0x20, 64)], [⟨0, 0, .w1s, false⟩, ⟨1, 1, .w1s, false⟩, ⟨8, 8, .ro, false⟩, ⟨9, 9, .w1c, false⟩, ⟨10, 10, .w1c, false⟩, ⟨11, 11, .w1c, false⟩, ⟨31, 16, .ro, false⟩]⟩ ]

def logb : List RegDesc :=
  [ /- LOGB_CTL -/ ⟨0x40080000, [], [⟨16, 0, .rw, true⟩]⟩,
    /- LOGB_WR_CNT -/ ⟨0x40080004, [], [⟨31, 0, .ro, true⟩]⟩,
    /- LOGB_RD_CNT -/ ⟨0x40080008, [], [⟨31, 0, .rw, true⟩]⟩,
    /- LOGB_OVW_CNT -/ ⟨0x4008000C, [], [⟨31, 0, .ro, true⟩]⟩,
    /- LOGB_DROP_CNT -/ ⟨0x40080010, [], [⟨31, 0, .ro, true⟩]⟩,
    /- LOGB_STS -/ ⟨0x40080014, [], [⟨0, 0, .w1c, true⟩, ⟨1, 1, .w1c, true⟩, ⟨2, 2, .w1c, true⟩, ⟨3, 3, .w1c, true⟩]⟩,
    /- LOGB_INT_EN -/ ⟨0x40080018, [], [⟨0, 0, .rw, true⟩, ⟨1, 1, .rw, true⟩, ⟨2, 2, .rw, true⟩, ⟨3, 3, .rw, true⟩]⟩,
    /- LOGB_AO_CFG -/ ⟨0x40080040, [], [⟨1, 0, .lk, true⟩]⟩,
    /- LOGB_AO_STS -/ ⟨0x40080044, [], [⟨5, 0, .ro, true⟩, ⟨15, 8, .ro, true⟩, ⟨31, 16, .ro, true⟩]⟩,
    /- LOGB_AO_IDX -/ ⟨0x40080048, [], [⟨7, 0, .rw, true⟩]⟩,
    /- LOGB_AO_ESTS -/ ⟨0x4008004C, [], [⟨0, 0, .ro, true⟩, ⟨1, 1, .ro, true⟩, ⟨2, 2, .ro, true⟩]⟩,
    /- LOGB_AO_DATA -/ ⟨0x40080050, [(0x4, 8)], [⟨31, 0, .ro, true⟩]⟩,
    /- LOGB_AO_CLR -/ ⟨0x40080070, [], [⟨15, 0, .wo, true⟩, ⟨21, 16, .wo, true⟩, ⟨23, 22, .wo, true⟩]⟩,
    /- LOGB_SPOST_CODE -/ ⟨0x40087000, [], [⟨31, 16, .wo, false⟩, ⟨15, 0, .wo, false⟩]⟩,
    /- LOGB_SPOST_CODE -/ ⟨0x40088000, [(0x1000, 8)], [⟨31, 16, .wo, false⟩, ⟨15, 0, .wo, false⟩]⟩,
    /- LOGB_SPOST_D -/ ⟨0x40087004, [(0x4, 4)], [⟨31, 0, .wo, false⟩]⟩,
    /- LOGB_SPOST_D -/ ⟨0x40088004, [(0x1000, 8), (0x4, 4)], [⟨31, 0, .wo, false⟩]⟩,
    /- LOGB_SPOST_GO -/ ⟨0x40087014, [], [⟨1, 0, .wo, false⟩]⟩,
    /- LOGB_SPOST_GO -/ ⟨0x40088014, [(0x1000, 8)], [⟨1, 0, .wo, false⟩]⟩ ]

def fab : List RegDesc :=
  [ /- FAB_CTL -/ ⟨0x40100000, [], [⟨0, 0, .rw, true⟩]⟩,
    /- FAB_MODE -/ ⟨0x40100004, [], [⟨0, 0, .ro, false⟩, ⟨4, 4, .ro, false⟩, ⟨5, 5, .ro, false⟩, ⟨6, 6, .ro, false⟩, ⟨7, 7, .ro, false⟩, ⟨25, 16, .ro, false⟩]⟩,
    /- FAB_STS -/ ⟨0x40100008, [], [⟨1, 0, .ro, true⟩, ⟨8, 8, .w1c, true⟩, ⟨9, 9, .w1c, true⟩, ⟨10, 10, .w1c, true⟩, ⟨11, 11, .w1c, true⟩, ⟨12, 12, .w1c, true⟩]⟩,
    /- FAB_INT_EN -/ ⟨0x4010000C, [], [⟨0, 0, .rw, true⟩, ⟨1, 1, .rw, true⟩, ⟨2, 2, .rw, true⟩]⟩,
    /- FAB_PLANE_CTL -/ ⟨0x40100010, [], [⟨1, 0, .w1s, true⟩]⟩,
    /- FAB_BUF_FREE -/ ⟨0x40100014, [], [⟨16, 0, .ro, true⟩]⟩,
    /- FAB_BUF_LOW -/ ⟨0x40100018, [], [⟨16, 0, .ro, true⟩]⟩,
    /- FAB_STOMP_CNT -/ ⟨0x4010001C, [], [⟨31, 0, .ro, true⟩]⟩,
    /- FAB_ECC_CE_CNT -/ ⟨0x40100020, [], [⟨31, 0, .ro, true⟩]⟩,
    /- FAB_ECC_UE_CNT -/ ⟨0x40100024, [], [⟨31, 0, .ro, true⟩]⟩,
    /- FAB_FAULT_CNT -/ ⟨0x40100028, [], [⟨31, 0, .ro, true⟩]⟩,
    /- FAB_KIND_DROP_CNT -/ ⟨0x4010002C, [], [⟨31, 0, .ro, true⟩]⟩,
    /- FAB_PORT_CFG -/ ⟨0x40100100, [(0x4, 48)], [⟨0, 0, .lk, false⟩, ⟨7, 4, .ro, false⟩]⟩,
    /- FAB_EQ_INT_EN -/ ⟨0x40100030, [], [⟨0, 0, .rw, true⟩]⟩,
    /- FAB_EQ_THR -/ ⟨0x40140000, [(0x100, 48), (0x10, 8)], [⟨16, 0, .lk, false⟩]⟩,
    /- FAB_EQ_DE -/ ⟨0x40140004, [(0x100, 48), (0x10, 8)], [⟨16, 0, .lk, false⟩]⟩,
    /- FAB_EQ_CBS -/ ⟨0x40140008, [(0x100, 48), (0x10, 8)], [⟨31, 0, .lk, false⟩]⟩,
    /- FAB_EQ_DEPTH -/ ⟨0x4014000C, [(0x100, 48), (0x10, 8)], [⟨16, 0, .ro, true⟩]⟩,
    /- FAB_EDROP_FULL -/ ⟨0x40180000, [(0x20, 48)], [⟨31, 0, .ro, true⟩]⟩,
    /- FAB_EDROP_DOWN -/ ⟨0x40180004, [(0x20, 48)], [⟨31, 0, .ro, true⟩]⟩,
    /- FAB_EDROP_SIDING -/ ⟨0x40180008, [(0x20, 48)], [⟨31, 0, .ro, true⟩]⟩,
    /- FAB_EDROP_GATE -/ ⟨0x4018000C, [(0x20, 48)], [⟨31, 0, .ro, true⟩]⟩,
    /- FAB_EDROP_RESET -/ ⟨0x40180010, [(0x20, 48)], [⟨31, 0, .ro, true⟩]⟩ ]

def lkp : List RegDesc :=
  [ /- LKP_CTL -/ ⟨0x40200000, [], [⟨7, 0, .lk, true⟩]⟩,
    /- LKP_STS -/ ⟨0x40200004, [], [⟨7, 0, .ro, true⟩, ⟨9, 8, .ro, true⟩, ⟨11, 10, .ro, true⟩, ⟨13, 12, .ro, true⟩, ⟨16, 16, .ro, true⟩, ⟨17, 17, .ro, true⟩, ⟨18, 18, .ro, true⟩, ⟨24, 24, .w1c, true⟩, ⟨25, 25, .w1c, true⟩, ⟨26, 26, .w1c, true⟩]⟩,
    /- LKP_FLIP -/ ⟨0x40200008, [], [⟨1, 0, .wo, true⟩, ⟨31, 16, .wo, true⟩]⟩,
    /- LKP_DRAIN_OLD -/ ⟨0x4020000C, [], [⟨23, 0, .ro, true⟩, ⟨31, 24, .ro, true⟩]⟩,
    /- LKP_DRAIN_CUR -/ ⟨0x40200010, [], [⟨23, 0, .ro, true⟩, ⟨31, 24, .ro, true⟩]⟩,
    /- LKP_INT_EN -/ ⟨0x40200014, [], [⟨0, 0, .rw, true⟩, ⟨1, 1, .rw, true⟩]⟩,
    /- LKP_DRAIN_DROP_CNT -/ ⟨0x40200018, [], [⟨31, 0, .ro, true⟩]⟩,
    /- LKP_VLAN_DROP_CNT -/ ⟨0x4020001C, [], [⟨31, 0, .ro, true⟩]⟩,
    /- LKP_CAN_MISS_CNT -/ ⟨0x40200020, [], [⟨31, 0, .ro, true⟩]⟩,
    /- LKP_CLS_DROP_CNT -/ ⟨0x40200024, [], [⟨31, 0, .ro, true⟩]⟩,
    /- LKP_ACF_SKIP_CNT -/ ⟨0x40200028, [], [⟨31, 0, .ro, true⟩]⟩,
    /- LKP_FRER_RST -/ ⟨0x4020002C, [], [⟨7, 0, .wo, true⟩, ⟨31, 16, .wo, true⟩]⟩,
    /- LKP_CLS_HIT -/ ⟨0x40200400, [(0x4, 512)], [⟨31, 0, .ro, true⟩]⟩,
    /- LKP_FRER_CNT -/ ⟨0x40202000, [(0x20, 256), (0x4, 8)], [⟨31, 0, .ro, true⟩]⟩,
    /- LKP_QCI_CNT -/ ⟨0x40208000, [(0x10, 2048), (0x4, 4)], [⟨31, 0, .ro, true⟩]⟩ ]

def apertures : List RegDesc :=
  [ /- CQ_CFG -/ ⟨0x48000000, [(0x100000, 9), (0x1000, 64)], [⟨2, 0, .lk, false⟩, ⟨7, 4, .lk, false⟩, ⟨10, 8, .lk, false⟩, ⟨21, 16, .lk, false⟩]⟩,
    /- CQ_BASE_LO -/ ⟨0x48000004, [(0x100000, 9), (0x1000, 64)], [⟨31, 0, .lk, false⟩]⟩,
    /- CQ_BASE_HI -/ ⟨0x48000008, [(0x100000, 9), (0x1000, 64)], [⟨1, 0, .lk, false⟩]⟩,
    /- CQ_BUDGET -/ ⟨0x4800000C, [(0x100000, 9), (0x1000, 64)], [⟨23, 0, .lk, false⟩]⟩,
    /- CQ_THR -/ ⟨0x48000010, [(0x100000, 9), (0x1000, 64)], [⟨15, 0, .lk, false⟩, ⟨31, 16, .lk, false⟩]⟩,
    /- CQ_ALLOW -/ ⟨0x48000014, [(0x100000, 9), (0x1000, 64)], [⟨7, 0, .lk, false⟩, ⟨8, 8, .lk, false⟩]⟩,
    /- CQ_DB -/ ⟨0x48000020, [(0x100000, 9), (0x1000, 64)], [⟨15, 0, .wo, false⟩]⟩,
    /- CQ_HEAD -/ ⟨0x48000024, [(0x100000, 9), (0x1000, 64)], [⟨15, 0, .ro, false⟩]⟩,
    /- CQ_TAIL -/ ⟨0x48000028, [(0x100000, 9), (0x1000, 64)], [⟨15, 0, .ro, false⟩]⟩,
    /- CQ_STS -/ ⟨0x4800002C, [(0x100000, 9), (0x1000, 64)], [⟨0, 0, .ro, false⟩, ⟨1, 1, .ro, false⟩, ⟨8, 8, .w1c, false⟩, ⟨9, 9, .w1c, false⟩, ⟨10, 10, .w1c, false⟩, ⟨11, 11, .w1c, false⟩, ⟨12, 12, .w1c, false⟩]⟩,
    /- CQ_INT_EN -/ ⟨0x48000030, [(0x100000, 9), (0x1000, 64)], [⟨0, 0, .rw, false⟩, ⟨1, 1, .rw, false⟩]⟩,
    /- CQ_DROP_CNT -/ ⟨0x48000034, [(0x100000, 9), (0x1000, 64)], [⟨31, 0, .ro, false⟩]⟩,
    /- CQ_BUDGET_LEFT -/ ⟨0x48000038, [(0x100000, 9), (0x1000, 64)], [⟨23, 0, .ro, false⟩]⟩,
    /- CQ_RCPT_DROP_CNT -/ ⟨0x4800003C, [(0x100000, 9), (0x1000, 64)], [⟨31, 0, .ro, false⟩]⟩,
    /- CQ_RXMAP0 -/ ⟨0x48040000, [(0x100000, 9)], [⟨5, 0, .lk, false⟩, ⟨13, 8, .lk, false⟩, ⟨21, 16, .lk, false⟩, ⟨29, 24, .lk, false⟩]⟩,
    /- CQ_RXMAP1 -/ ⟨0x48040004, [(0x100000, 9)], [⟨5, 0, .lk, false⟩, ⟨13, 8, .lk, false⟩, ⟨21, 16, .lk, false⟩, ⟨29, 24, .lk, false⟩]⟩,
    /- CQ_GRP_STS -/ ⟨0x48040010, [(0x100000, 9), (0x4, 8)], [⟨7, 0, .ro, false⟩]⟩,
    /- CA_IDENT -/ ⟨0x48050000, [(0x100000, 8)], [⟨2, 0, .ro, false⟩, ⟨4, 3, .ro, false⟩, ⟨27, 16, .ro, false⟩]⟩,
    /- CA_RST_INFO -/ ⟨0x48050004, [(0x100000, 8)], [⟨15, 0, .ro, false⟩, ⟨23, 16, .ro, false⟩]⟩,
    /- CA_RESET_REQ -/ ⟨0x48050008, [(0x100000, 8)], [⟨31, 16, .wo, false⟩]⟩ ]

def rsq : List RegDesc :=
  [ /- RSQ_CTL -/ ⟨0x40300000, [], [⟨15, 0, .lk, true⟩]⟩,
    /- RSQ_STS -/ ⟨0x40300004, [], [⟨0, 0, .w1c, true⟩, ⟨1, 1, .w1c, true⟩, ⟨2, 2, .w1c, true⟩]⟩,
    /- RSQ_INT_EN -/ ⟨0x40300008, [], [⟨0, 0, .rw, true⟩, ⟨1, 1, .rw, true⟩]⟩,
    /- RSQ_LOST_CNT -/ ⟨0x40300100, [(0x10, 48)], [⟨31, 0, .ro, true⟩]⟩,
    /- RSQ_LATE_CNT -/ ⟨0x40300104, [(0x10, 48)], [⟨31, 0, .ro, true⟩]⟩,
    /- RSQ_GAP_CNT -/ ⟨0x40300108, [(0x10, 48)], [⟨31, 0, .ro, true⟩]⟩,
    /- RSQ_OCC -/ ⟨0x4030010C, [(0x10, 48)], [⟨9, 0, .ro, true⟩, ⟨25, 16, .ro, true⟩]⟩ ]

def outr : List RegDesc :=
  [ /- OUTR_STS -/ ⟨0x40310000, [], [⟨3, 0, .w1c, true⟩, ⟨7, 4, .rws, true⟩]⟩,
    /- OUTR_INT_EN -/ ⟨0x40310004, [], [⟨0, 0, .rw, true⟩]⟩,
    /- OUTR_DEST_CFG -/ ⟨0x40310010, [(0x10, 4)], [⟨9, 0, .lk, true⟩, ⟨15, 15, .lk, true⟩, ⟨31, 16, .lk, true⟩]⟩,
    /- OUTR_DEST_DROP_CNT -/ ⟨0x40310014, [(0x10, 4)], [⟨31, 0, .ro, true⟩]⟩,
    /- OUTR_DEST_SENT_CNT -/ ⟨0x40310018, [(0x10, 4)], [⟨31, 0, .ro, true⟩]⟩,
    /- OUTR_PORT_CFG -/ ⟨0x40310100, [(0x4, 44)], [⟨1, 0, .lk, true⟩, ⟨2, 2, .lk, true⟩, ⟨3, 3, .rw, true⟩, ⟨4, 4, .rw, true⟩, ⟨6, 5, .rw, true⟩]⟩,
    /- OUTR_PORT_N -/ ⟨0x40310400, [(0x20, 44), (0x4, 8)], [⟨15, 0, .rw, true⟩, ⟨31, 16, .ro, true⟩]⟩ ]

def tow : List RegDesc :=
  [ /- TOW_CFG -/ ⟨0x40320000, [], [⟨3, 0, .lk, true⟩, ⟨27, 16, .lk, true⟩]⟩,
    /- TOW_STS -/ ⟨0x40320004, [], [⟨0, 0, .ro, true⟩, ⟨2, 1, .ro, true⟩, ⟨8, 8, .w1c, true⟩]⟩,
    /- TOW_INT_EN -/ ⟨0x40320008, [], [⟨0, 0, .rw, true⟩, ⟨1, 1, .rw, true⟩]⟩,
    /- TOW_COPY_CNT -/ ⟨0x4032000C, [], [⟨31, 0, .ro, true⟩]⟩,
    /- TOW_DROP_CNT -/ ⟨0x40320010, [], [⟨31, 0, .ro, true⟩]⟩,
    /- TOW_EXCL_CNT -/ ⟨0x40320014, [], [⟨31, 0, .ro, true⟩]⟩ ]

def towLegacy : List RegDesc :=
  [ /- TOW_LEGACY_CTL -/ ⟨0x40330000, [], [⟨0, 0, .w1s, false⟩, ⟨1, 1, .w1s, false⟩, ⟨2, 2, .w1s, false⟩, ⟨8, 8, .ro, false⟩, ⟨9, 9, .ro, false⟩]⟩,
    /- TOW_L_STS -/ ⟨0x40330002, [], [⟨0, 0, .w1c, false⟩, ⟨1, 1, .w1c, false⟩, ⟨2, 2, .w1c, false⟩, ⟨3, 3, .w1c, false⟩, ⟨10, 10, .ro, false⟩]⟩,
    /- TOW_L_ING_SRC -/ ⟨0x40330004, [], [⟨11, 0, .rw, false⟩]⟩,
    /- TOW_L_EGR_SRC -/ ⟨0x40330006, [], [⟨11, 0, .rw, false⟩]⟩,
    /- TOW_L_ANALYSIS -/ ⟨0x40330008, [], [⟨3, 0, .rw, false⟩]⟩,
    /- TOW_L_FLOW_EN -/ ⟨0x4033000A, [], [⟨3, 0, .rw, false⟩]⟩,
    /- TOW_L_FLOW -/ ⟨0x4033000C, [(0x2, 4)], [⟨11, 0, .rw, false⟩, ⟨14, 12, .rw, false⟩, ⟨15, 15, .rw, false⟩]⟩,
    /- TOW_L_COPY_CNT -/ ⟨0x40330014, [], [⟨15, 0, .ro, false⟩]⟩,
    /- TOW_L_DROP_CNT -/ ⟨0x40330016, [], [⟨15, 0, .ro, false⟩]⟩,
    /- TOW_L_ID -/ ⟨0x40330018, [], [⟨15, 0, .ro, false⟩]⟩ ]

def portHead : List RegDesc :=
  [ /- PORT_CFG -/ ⟨0x40500000, [(0x1000, 48)], [⟨3, 0, .lk, false⟩, ⟨4, 4, .lk, false⟩, ⟨5, 5, .lk, false⟩]⟩,
    /- PORT_STS -/ ⟨0x40500004, [(0x1000, 48)], [⟨0, 0, .ro, false⟩, ⟨1, 1, .ro, false⟩, ⟨8, 8, .w1c, false⟩, ⟨9, 9, .w1c, false⟩, ⟨10, 10, .w1c, false⟩, ⟨11, 11, .w1c, false⟩, ⟨12, 12, .w1c, false⟩, ⟨13, 13, .w1c, false⟩, ⟨14, 14, .w1c, false⟩]⟩,
    /- PORT_INT_EN -/ ⟨0x40500008, [(0x1000, 48)], [⟨0, 0, .rw, false⟩, ⟨1, 1, .rw, false⟩]⟩,
    /- PORT_CTL -/ ⟨0x4050000C, [(0x1000, 48)], [⟨0, 0, .w1s, false⟩, ⟨1, 1, .w1s, false⟩, ⟨2, 2, .w1s, false⟩]⟩ ]

def port : List RegDesc :=
  [ /- PORT_RX_FRM_LO -/ ⟨0x40500100, [(0x1000, 48)], [⟨31, 0, .ro, false⟩]⟩,
    /- PORT_RX_FRM_HI -/ ⟨0x40500104, [(0x1000, 48)], [⟨31, 0, .ro, false⟩]⟩,
    /- PORT_RX_BYTE_LO -/ ⟨0x40500108, [(0x1000, 48)], [⟨31, 0, .ro, false⟩]⟩,
    /- PORT_RX_BYTE_HI -/ ⟨0x4050010C, [(0x1000, 48)], [⟨31, 0, .ro, false⟩]⟩,
    /- PORT_TX_FRM_LO -/ ⟨0x40500110, [(0x1000, 48)], [⟨31, 0, .ro, false⟩]⟩,
    /- PORT_TX_FRM_HI -/ ⟨0x40500114, [(0x1000, 48)], [⟨31, 0, .ro, false⟩]⟩,
    /- PORT_TX_BYTE_LO -/ ⟨0x40500118, [(0x1000, 48)], [⟨31, 0, .ro, false⟩]⟩,
    /- PORT_TX_BYTE_HI -/ ⟨0x4050011C, [(0x1000, 48)], [⟨31, 0, .ro, false⟩]⟩,
    /- PORT_RX_ERR -/ ⟨0x40500120, [(0x1000, 48)], [⟨31, 0, .ro, false⟩]⟩,
    /- PORT_RX_LEN_ERR -/ ⟨0x40500124, [(0x1000, 48)], [⟨31, 0, .ro, false⟩]⟩,
    /- PORT_SYM_ERR -/ ⟨0x40500128, [(0x1000, 48)], [⟨31, 0, .ro, false⟩]⟩,
    /- PORT_UNTAG_CNT -/ ⟨0x4050012C, [(0x1000, 48)], [⟨31, 0, .ro, false⟩]⟩,
    /- PORT_TAG_DROP_CNT -/ ⟨0x40500130, [(0x1000, 48)], [⟨31, 0, .ro, false⟩]⟩,
    /- PORT_LINKDN_CNT -/ ⟨0x40500134, [(0x1000, 48)], [⟨31, 0, .ro, false⟩]⟩,
    /- PORT_TX_ABORT_CNT -/ ⟨0x40500138, [(0x1000, 48)], [⟨31, 0, .ro, false⟩]⟩,
    /- PORT_FMT_CNT -/ ⟨0x4050013C, [(0x1000, 48)], [⟨31, 0, .ro, false⟩]⟩ ]

def portLin : List RegDesc :=
  [ /- PORT_LIN_CFG -/ ⟨0x40500300, [(0x1000, 48)], [⟨0, 0, .lk, false⟩, ⟨1, 1, .lk, false⟩, ⟨31, 16, .lk, false⟩]⟩,
    /- PORT_LIN_SCHED -/ ⟨0x40500304, [(0x1000, 48)], [⟨0, 0, .ro, false⟩, ⟨1, 1, .w1s, false⟩, ⟨2, 2, .ro, false⟩, ⟨8, 8, .rw, false⟩]⟩,
    /- PORT_LIN_STS -/ ⟨0x40500308, [(0x1000, 48)], [⟨4, 0, .ro, false⟩, ⟨8, 8, .w1c, false⟩, ⟨9, 9, .w1c, false⟩, ⟨10, 10, .w1c, false⟩, ⟨11, 11, .w1c, false⟩, ⟨12, 12, .w1c, false⟩, ⟨13, 13, .w1c, false⟩]⟩,
    /- PORT_LIN_ID -/ ⟨0x40500400, [(0x1000, 48), (0x4, 64)], [⟨1, 0, .lk, false⟩, ⟨5, 2, .lk, false⟩, ⟨6, 6, .lk, false⟩, ⟨7, 7, .lk, false⟩]⟩,
    /- PORT_LIN_SA -/ ⟨0x40500500, [(0x1000, 48), (0x4, 32)], [⟨5, 0, .lk, false⟩, ⟨7, 6, .lk, false⟩, ⟨23, 8, .lk, false⟩]⟩,
    /- PORT_LIN_SB -/ ⟨0x40500580, [(0x1000, 48), (0x4, 32)], [⟨5, 0, .lk, false⟩, ⟨7, 6, .lk, false⟩, ⟨23, 8, .lk, false⟩]⟩ ]

def portEth : List RegDesc :=
  [ /- PORT_PHY_CFG -/ ⟨0x40500200, [(0x1000, 48)], [⟨1, 0, .lk, false⟩, ⟨3, 2, .lk, false⟩, ⟨4, 4, .lk, false⟩, ⟨5, 5, .lk, false⟩, ⟨6, 6, .lk, false⟩]⟩,
    /- PORT_PHY_STS -/ ⟨0x40500204, [(0x1000, 48)], [⟨2, 0, .ro, false⟩, ⟨3, 3, .ro, false⟩, ⟨6, 4, .ro, false⟩, ⟨9, 8, .ro, false⟩, ⟨23, 16, .ro, false⟩]⟩,
    /- PORT_PLCA_CFG -/ ⟨0x40500208, [(0x1000, 48)], [⟨0, 0, .lk, false⟩, ⟨3, 1, .lk, false⟩, ⟨7, 4, .lk, false⟩, ⟨15, 8, .lk, false⟩, ⟨23, 16, .lk, false⟩, ⟨31, 24, .lk, false⟩]⟩,
    /- PORT_PLCA_STS -/ ⟨0x4050020C, [(0x1000, 48)], [⟨0, 0, .ro, false⟩, ⟨31, 16, .ro, false⟩]⟩ ]

def portCan : List RegDesc :=
  [ /- PORT_CAN_CFG -/ ⟨0x40500300, [(0x1000, 48)], [⟨0, 0, .lk, false⟩, ⟨1, 1, .lk, false⟩, ⟨3, 2, .lk, false⟩, ⟨4, 4, .lk, false⟩, ⟨11, 8, .lk, false⟩]⟩,
    /- PORT_CAN_NBT -/ ⟨0x40500304, [(0x1000, 48)], [⟨4, 0, .lk, false⟩, ⟨12, 5, .lk, false⟩, ⟨19, 13, .lk, false⟩, ⟨26, 20, .lk, false⟩]⟩,
    /- PORT_CAN_DBT -/ ⟨0x40500308, [(0x1000, 48)], [⟨4, 0, .lk, false⟩, ⟨10, 5, .lk, false⟩, ⟨15, 11, .lk, false⟩, ⟨20, 16, .lk, false⟩]⟩,
    /- PORT_CAN_XBT -/ ⟨0x4050030C, [(0x1000, 48)], [⟨4, 0, .lk, false⟩, ⟨10, 5, .lk, false⟩, ⟨15, 11, .lk, false⟩, ⟨20, 16, .lk, false⟩]⟩,
    /- PORT_CAN_TDC -/ ⟨0x40500310, [(0x1000, 48)], [⟨0, 0, .lk, false⟩, ⟨7, 1, .lk, false⟩]⟩,
    /- PORT_CAN_STS -/ ⟨0x40500314, [(0x1000, 48)], [⟨1, 0, .ro, false⟩, ⟨6, 4, .ro, false⟩, ⟨15, 8, .ro, false⟩, ⟨24, 16, .ro, false⟩]⟩ ]

def portTrx : List RegDesc :=
  [ /- PORT_TRX_STS -/ ⟨0x40500318, [(0x1000, 48)], [⟨0, 0, .w1c, false⟩, ⟨1, 1, .w1c, false⟩, ⟨2, 2, .w1c, false⟩, ⟨3, 3, .w1c, false⟩, ⟨4, 4, .ro, false⟩]⟩ ]

def portMsec : List RegDesc :=
  [ /- PORT_MSEC_CFG -/ ⟨0x40500400, [(0x1000, 48)], [⟨0, 0, .lk, true⟩, ⟨1, 1, .lk, true⟩, ⟨3, 2, .lk, true⟩, ⟨5, 4, .lk, true⟩, ⟨6, 6, .lk, true⟩, ⟨7, 7, .lk, true⟩, ⟨8, 8, .lk, true⟩, ⟨9, 9, .lk, true⟩]⟩,
    /- PORT_MSEC_WIN -/ ⟨0x40500404, [(0x1000, 48)], [⟨31, 0, .lk, true⟩]⟩,
    /- PORT_MSEC_BYPASS -/ ⟨0x40500408, [(0x1000, 48)], [⟨31, 0, .lk, true⟩]⟩,
    /- PORT_MSEC_TXSA -/ ⟨0x4050040C, [(0x1000, 48)], [⟨1, 0, .rw, true⟩]⟩,
    /- PORT_MSEC_STS -/ ⟨0x40500410, [(0x1000, 48)], [⟨0, 0, .w1c, true⟩, ⟨1, 1, .w1c, true⟩]⟩,
    /- PORT_MSEC_PN_THR -/ ⟨0x40500414, [(0x1000, 48)], [⟨31, 0, .lk, true⟩]⟩,
    /- PORT_MSEC_RXSCI_LO -/ ⟨0x40500440, [(0x1000, 48), (0x8, 8)], [⟨31, 0, .rw, true⟩]⟩,
    /- PORT_MSEC_RXSCI_HI -/ ⟨0x40500444, [(0x1000, 48), (0x8, 8)], [⟨31, 0, .rw, true⟩]⟩,
    /- PORT_MSEC_RXSA -/ ⟨0x40500480, [(0x1000, 48), (0x10, 8), (0x4, 4)], [⟨0, 0, .rw, true⟩, ⟨1, 1, .ro, true⟩]⟩,
    /- PORT_MSEC_CNT -/ ⟨0x40500500, [(0x1000, 48), (0x4, 12)], [⟨31, 0, .ro, true⟩]⟩ ]

def sid : List RegDesc :=
  [ /- SID_SLEEP_CFG -/ ⟨0x40600000, [], [⟨15, 0, .lk, true⟩, ⟨16, 16, .lk, true⟩]⟩,
    /- SID_STS -/ ⟨0x40600004, [], [⟨2, 0, .ro, true⟩, ⟨4, 3, .ro, true⟩, ⟨8, 8, .w1c, true⟩, ⟨9, 9, .w1c, true⟩, ⟨10, 10, .w1c, true⟩, ⟨11, 11, .w1c, true⟩, ⟨12, 12, .w1c, true⟩, ⟨13, 13, .w1c, true⟩]⟩,
    /- SID_INT_EN -/ ⟨0x40600008, [], [⟨0, 0, .rw, true⟩, ⟨1, 1, .rw, true⟩, ⟨2, 2, .rw, true⟩, ⟨3, 3, .rw, true⟩, ⟨4, 4, .rw, true⟩]⟩,
    /- SID_WAKE_CAUSE -/ ⟨0x4060000C, [], [⟨3, 0, .ro, true⟩, ⟨4, 4, .ro, true⟩, ⟨13, 8, .ro, true⟩, ⟨17, 16, .ro, true⟩]⟩,
    /- SID_WAKE_TIME_LO -/ ⟨0x40600010, [], [⟨31, 0, .ro, true⟩]⟩,
    /- SID_WAKE_TIME_HI -/ ⟨0x40600014, [], [⟨31, 0, .ro, true⟩]⟩,
    /- SID_WAKE_ALL_LO -/ ⟨0x40600018, [], [⟨31, 0, .w1c, true⟩]⟩,
    /- SID_WAKE_ALL_HI -/ ⟨0x4060001C, [], [⟨31, 0, .w1c, true⟩]⟩,
    /- SID_CONFIRM_MS -/ ⟨0x40600020, [], [⟨15, 0, .lk, true⟩]⟩,
    /- SID_FW_CFG -/ ⟨0x40600024, [], [⟨3, 0, .lk, true⟩, ⟨31, 16, .lk, true⟩]⟩,
    /- SID_FS_CFG -/ ⟨0x40600028, [], [⟨15, 0, .lk, true⟩]⟩,
    /- SID_CONFIRM -/ ⟨0x40600080, [], [⟨5, 0, .wo, false⟩]⟩,
    /- SID_SRC_CFG -/ ⟨0x40600100, [(0x4, 44)], [⟨0, 0, .rw, false⟩, ⟨2, 1, .lk, false⟩, ⟨15, 8, .lk, false⟩, ⟨23, 16, .lk, false⟩]⟩,
    /- SID_SRC_STS -/ ⟨0x40600200, [(0x4, 44)], [⟨3, 0, .ro, false⟩, ⟨5, 4, .ro, false⟩, ⟨31, 16, .ro, false⟩]⟩,
    /- SID_PORT_CFG -/ ⟨0x40600400, [(0x10, 36)], [⟨0, 0, .lk, false⟩, ⟨1, 1, .lk, false⟩, ⟨2, 2, .lk, false⟩, ⟨3, 3, .lk, false⟩]⟩,
    /- SID_PORT_CTL -/ ⟨0x40600404, [(0x10, 36)], [⟨1, 0, .rw, false⟩, ⟨2, 2, .rw, false⟩]⟩,
    /- SID_PORT_STS -/ ⟨0x40600408, [(0x10, 36)], [⟨1, 0, .ro, false⟩, ⟨2, 2, .ro, false⟩, ⟨8, 8, .w1c, false⟩, ⟨9, 9, .w1c, false⟩]⟩,
    /- SID_PORT_IGN_CNT -/ ⟨0x4060040C, [(0x10, 36)], [⟨31, 0, .ro, false⟩]⟩,
    /- SID_CAN_WUF_CFG -/ ⟨0x40600800, [(0x20, 12)], [⟨1, 0, .lk, false⟩, ⟨2, 2, .lk, false⟩, ⟨3, 3, .lk, false⟩, ⟨7, 4, .lk, false⟩, ⟨8, 8, .lk, false⟩, ⟨22, 16, .lk, false⟩]⟩,
    /- SID_CAN_WUF_ID -/ ⟨0x40600804, [(0x20, 12)], [⟨28, 0, .lk, false⟩]⟩,
    /- SID_CAN_WUF_MASK -/ ⟨0x40600808, [(0x20, 12)], [⟨28, 0, .lk, false⟩]⟩,
    /- SID_CAN_WUF_DATA_LO -/ ⟨0x4060080C, [(0x20, 12)], [⟨31, 0, .lk, false⟩]⟩,
    /- SID_CAN_WUF_DATA_HI -/ ⟨0x40600810, [(0x20, 12)], [⟨31, 0, .lk, false⟩]⟩,
    /- SID_CAN_WUF_DMASK_LO -/ ⟨0x40600814, [(0x20, 12)], [⟨31, 0, .lk, false⟩]⟩,
    /- SID_CAN_WUF_DMASK_HI -/ ⟨0x40600818, [(0x20, 12)], [⟨31, 0, .lk, false⟩]⟩ ]

def chan : List RegDesc :=
  [ /- CHAN_CFG -/ ⟨0x40810000, [(0x100, 40)], [⟨3, 0, .lk, false⟩, ⟨5, 4, .lk, false⟩, ⟨7, 6, .lk, false⟩, ⟨11, 8, .lk, false⟩, ⟨12, 12, .lk, false⟩, ⟨13, 13, .lk, false⟩, ⟨31, 16, .lk, false⟩]⟩,
    /- CHAN_GD_CFG -/ ⟨0x40810004, [(0x100, 40)], [⟨9, 0, .lk, false⟩, ⟨10, 10, .lk, false⟩]⟩,
    /- CHAN_PWM -/ ⟨0x40810008, [(0x100, 40)], [⟨2, 0, .lk, false⟩, ⟨3, 3, .lk, false⟩, ⟨4, 4, .lk, false⟩, ⟨31, 16, .lk, false⟩]⟩,
    /- CHAN_CMD -/ ⟨0x4081000C, [(0x100, 40)], [⟨2, 0, .wo, false⟩, ⟨4, 3, .wo, false⟩, ⟨31, 16, .wo, false⟩]⟩,
    /- CHAN_STS -/ ⟨0x40810010, [(0x100, 40)], [⟨2, 0, .ro, false⟩, ⟨3, 3, .ro, false⟩, ⟨4, 4, .ro, false⟩, ⟨5, 5, .ro, false⟩, ⟨6, 6, .ro, false⟩, ⟨7, 7, .ro, false⟩, ⟨8, 8, .ro, false⟩, ⟨9, 9, .ro, false⟩, ⟨10, 10, .ro, false⟩, ⟨11, 11, .ro, false⟩, ⟨12, 12, .ro, false⟩, ⟨13, 13, .ro, false⟩, ⟨14, 14, .ro, false⟩, ⟨15, 15, .ro, false⟩, ⟨16, 16, .ro, false⟩, ⟨17, 17, .ro, false⟩, ⟨18, 18, .ro, false⟩, ⟨19, 19, .ro, false⟩, ⟨20, 20, .ro, false⟩, ⟨21, 21, .ro, false⟩, ⟨27, 24, .ro, false⟩]⟩,
    /- CHAN_EVT -/ ⟨0x40810014, [(0x100, 40)], [⟨0, 0, .w1c, false⟩, ⟨1, 1, .w1c, false⟩, ⟨2, 2, .w1c, false⟩, ⟨3, 3, .w1c, false⟩]⟩,
    /- CHAN_INT_EN -/ ⟨0x40810018, [(0x100, 40)], [⟨0, 0, .rw, false⟩, ⟨1, 1, .rw, false⟩, ⟨2, 2, .rw, false⟩, ⟨3, 3, .rw, false⟩]⟩,
    /- CHAN_CTL -/ ⟨0x4081001C, [(0x100, 40)], [⟨0, 0, .w1s, false⟩, ⟨1, 1, .w1s, false⟩]⟩,
    /- CHAN_I -/ ⟨0x40810020, [(0x100, 40)], [⟨31, 0, .ro, false⟩]⟩,
    /- CHAN_I_AVG -/ ⟨0x40810024, [(0x100, 40)], [⟨31, 0, .ro, false⟩]⟩,
    /- CHAN_V -/ ⟨0x40810028, [(0x100, 40)], [⟨31, 0, .ro, false⟩]⟩,
    /- CHAN_TJ -/ ⟨0x4081002C, [(0x100, 40)], [⟨15, 0, .ro, false⟩, ⟨31, 16, .ro, false⟩]⟩,
    /- CHAN_AVG_CFG -/ ⟨0x40810030, [(0x100, 40)], [⟨1, 0, .rw, false⟩]⟩,
    /- CHAN_CMD_STS -/ ⟨0x40810034, [(0x100, 40)], [⟨0, 0, .ro, false⟩, ⟨3, 1, .ro, false⟩, ⟨31, 16, .ro, false⟩]⟩,
    /- CHAN_IN_CFG -/ ⟨0x40810038, [(0x100, 40)], [⟨9, 0, .lk, false⟩, ⟨25, 16, .lk, false⟩, ⟨29, 26, .lk, false⟩]⟩,
    /- CHAN_ON_CNT -/ ⟨0x4081003C, [(0x100, 40)], [⟨31, 0, .ro, false⟩]⟩,
    /- CHAN_Q_LO -/ ⟨0x40810040, [(0x100, 40)], [⟨31, 0, .ro, false⟩]⟩,
    /- CHAN_Q_HI -/ ⟨0x40810044, [(0x100, 40)], [⟨31, 0, .ro, false⟩]⟩,
    /- CHAN_EDGE_T_LO -/ ⟨0x40810048, [(0x100, 40)], [⟨31, 0, .ro, false⟩]⟩,
    /- CHAN_EDGE_T_HI -/ ⟨0x4081004C, [(0x100, 40)], [⟨31, 0, .ro, false⟩]⟩,
    /- CHAN_CAD_CFG -/ ⟨0x40814000, [(0x4, 8)], [⟨20, 0, .lk, false⟩, ⟨31, 31, .lk, false⟩]⟩,
    /- CHAN_GSTS -/ ⟨0x40814020, [], [⟨0, 0, .ro, false⟩, ⟨1, 1, .ro, false⟩]⟩,
    /- CHAN_AGG_I -/ ⟨0x40814024, [], [⟨31, 0, .ro, false⟩]⟩,
    /- CHAN_PROF_W 0–5 -/ ⟨0x40814400, [(0x40, 6), (0x4, 16)], [⟨31, 0, .ro, false⟩]⟩,
    /- CHAN_PROF_W 6–15 -/ ⟨0x40814580, [(0x40, 10), (0x4, 16)], [⟨31, 0, .lk, false⟩]⟩,
    /- CHAN_TRIP_CFG -/ ⟨0x40810080, [(0x100, 40)], [⟨1, 0, .lk, false⟩, ⟨5, 2, .lk, false⟩, ⟨11, 6, .lk, false⟩, ⟨15, 12, .lk, false⟩]⟩,
    /- CHAN_HARN_CFG -/ ⟨0x40810084, [(0x100, 40)], [⟨3, 0, .lk, false⟩, ⟨10, 4, .lk, false⟩, ⟨31, 16, .lk, false⟩]⟩,
    /- CHAN_HARN_LIM -/ ⟨0x40810088, [(0x100, 40)], [⟨7, 0, .lk, false⟩, ⟨15, 8, .lk, false⟩, ⟨23, 16, .lk, false⟩]⟩,
    /- CHAN_RETRY_CFG -/ ⟨0x4081008C, [(0x100, 40)], [⟨0, 0, .lk, false⟩, ⟨4, 1, .lk, false⟩, ⟨10, 5, .lk, false⟩, ⟨31, 16, .lk, false⟩]⟩,
    /- CHAN_GOOD_S -/ ⟨0x40810090, [(0x100, 40)], [⟨7, 0, .lk, false⟩]⟩,
    /- CHAN_SHED_CFG -/ ⟨0x40810094, [(0x100, 40)], [⟨3, 0, .lk, false⟩]⟩,
    /- CHAN_DIAG_CFG -/ ⟨0x40810098, [(0x100, 40)], [⟨0, 0, .lk, false⟩, ⟨7, 1, .lk, false⟩, ⟨11, 8, .lk, false⟩, ⟨27, 16, .lk, false⟩, ⟨28, 28, .lk, false⟩]⟩,
    /- CHAN_DS_CFG -/ ⟨0x4081009C, [(0x100, 40)], [⟨1, 0, .lk, false⟩, ⟨4, 2, .lk, false⟩, ⟨31, 16, .lk, false⟩]⟩,
    /- CHAN_GDJ_CFG -/ ⟨0x408100A0, [(0x100, 40)], [⟨15, 0, .lk, false⟩, ⟨31, 16, .lk, false⟩]⟩,
    /- CHAN_GDJ_TAU -/ ⟨0x408100A4, [(0x100, 40)], [⟨15, 0, .lk, false⟩, ⟨23, 16, .lk, false⟩]⟩,
    /- CHAN_MODEL_T -/ ⟨0x408100A8, [(0x100, 40)], [⟨15, 0, .ro, false⟩, ⟨31, 16, .ro, false⟩]⟩,
    /- CHAN_PEVT -/ ⟨0x408100AC, [(0x100, 40)], [⟨0, 0, .w1c, false⟩, ⟨1, 1, .w1c, false⟩, ⟨2, 2, .w1c, false⟩, ⟨3, 3, .w1c, false⟩, ⟨4, 4, .w1c, false⟩, ⟨5, 5, .w1c, false⟩, ⟨6, 6, .w1c, false⟩, ⟨7, 7, .w1c, false⟩, ⟨8, 8, .w1c, false⟩, ⟨9, 9, .w1c, false⟩, ⟨10, 10, .w1c, false⟩, ⟨11, 11, .w1c, false⟩, ⟨12, 12, .w1c, false⟩, ⟨13, 13, .w1c, false⟩]⟩,
    /- CHAN_PINT_EN -/ ⟨0x408100B0, [(0x100, 40)], [⟨0, 0, .rw, false⟩, ⟨1, 1, .rw, false⟩, ⟨2, 2, .rw, false⟩, ⟨3, 3, .rw, false⟩, ⟨4, 4, .rw, false⟩, ⟨5, 5, .rw, false⟩, ⟨6, 6, .rw, false⟩, ⟨7, 7, .rw, false⟩, ⟨8, 8, .rw, false⟩, ⟨9, 9, .rw, false⟩, ⟨10, 10, .rw, false⟩, ⟨11, 11, .rw, false⟩, ⟨12, 12, .rw, false⟩, ⟨13, 13, .rw, false⟩]⟩,
    /- CHAN_PCTL -/ ⟨0x408100B4, [(0x100, 40)], [⟨0, 0, .w1s, false⟩]⟩,
    /- CHAN_TRIP_CNT -/ ⟨0x408100B8, [(0x100, 40)], [⟨31, 0, .ro, false⟩]⟩ ]

def hlk : List RegDesc :=
  [ /- HLK_STS -/ ⟨0x40800000, [], [⟨0, 0, .ro, true⟩, ⟨4, 1, .ro, true⟩, ⟨8, 8, .w1c, true⟩, ⟨9, 9, .w1c, true⟩, ⟨10, 10, .w1c, true⟩]⟩,
    /- HLK_INT_EN -/ ⟨0x40800004, [], [⟨0, 0, .rw, true⟩]⟩,
    /- HLK_RETRY_CNT -/ ⟨0x40800008, [], [⟨31, 0, .ro, true⟩]⟩,
    /- HLK_DISCARD_CNT -/ ⟨0x4080000C, [], [⟨31, 0, .ro, true⟩]⟩,
    /- HLK_CW_CFG -/ ⟨0x40800040, [], [⟨0, 0, .lk, true⟩, ⟨1, 1, .lk, true⟩, ⟨15, 8, .lk, true⟩, ⟨31, 16, .lk, true⟩]⟩,
    /- HLK_CW_SEED -/ ⟨0x40800044, [], [⟨7, 0, .ro, true⟩, ⟨15, 8, .ro, true⟩]⟩,
    /- HLK_CW_WORD -/ ⟨0x40800048, [], [⟨31, 0, .wo, true⟩]⟩,
    /- HLK_CW_STS -/ ⟨0x4080004C, [], [⟨0, 0, .ro, true⟩, ⟨8, 8, .w1c, true⟩, ⟨9, 9, .w1c, true⟩, ⟨10, 10, .w1c, true⟩]⟩,
    /- HLK_CW_ERR_CNT -/ ⟨0x40800050, [], [⟨31, 0, .ro, true⟩]⟩,
    /- HLK_CW_MISS_CNT -/ ⟨0x40800054, [], [⟨31, 0, .ro, true⟩]⟩,
    /- HLK_CW_INT_EN -/ ⟨0x40800058, [], [⟨0, 0, .rw, true⟩]⟩,
    /- HLK_COAST_CFG -/ ⟨0x40800060, [], [⟨10, 0, .lk, true⟩]⟩,
    /- HLK_DS_STS -/ ⟨0x40800064, [], [⟨0, 0, .ro, true⟩, ⟨1, 1, .ro, true⟩, ⟨3, 2, .ro, true⟩, ⟨31, 16, .ro, true⟩]⟩,
    /- HLK_DS_CTL -/ ⟨0x40800068, [], [⟨0, 0, .wo, true⟩, ⟨31, 16, .wo, true⟩]⟩,
    /- HLK_DS_INT_EN -/ ⟨0x4080006C, [], [⟨0, 0, .rw, true⟩]⟩ ]

def hps : List RegDesc :=
  [ /- HPS_BUD_CFG -/ ⟨0x40830000, [], [⟨5, 0, .lk, true⟩, ⟨13, 8, .lk, true⟩, ⟨23, 16, .lk, true⟩, ⟨31, 24, .lk, true⟩]⟩,
    /- HPS_BUD_GRP -/ ⟨0x40830004, [], [⟨5, 0, .lk, true⟩, ⟨13, 8, .lk, true⟩, ⟨29, 16, .lk, true⟩]⟩,
    /- HPS_AMB_CFG -/ ⟨0x40830008, [], [⟨7, 0, .lk, true⟩]⟩,
    /- HPS_BUD_STS -/ ⟨0x4083000C, [], [⟨0, 0, .ro, true⟩, ⟨8, 8, .w1c, true⟩, ⟨9, 9, .w1c, true⟩]⟩,
    /- HPS_BUD_P -/ ⟨0x40830010, [], [⟨31, 0, .ro, true⟩]⟩,
    /- HPS_BUD_I -/ ⟨0x40830014, [], [⟨31, 0, .ro, true⟩]⟩,
    /- HPS_GRP_I -/ ⟨0x40830018, [], [⟨31, 0, .ro, true⟩]⟩,
    /- HPS_SHED_LO -/ ⟨0x4083001C, [], [⟨31, 0, .ro, true⟩]⟩,
    /- HPS_SHED_HI -/ ⟨0x40830020, [], [⟨31, 0, .ro, true⟩]⟩,
    /- HPS_INT_EN -/ ⟨0x40830024, [], [⟨0, 0, .rw, true⟩, ⟨1, 1, .rw, true⟩]⟩,
    /- HPS_VBAT -/ ⟨0x40830028, [], [⟨31, 0, .ro, true⟩]⟩,
    /- HPS_SUP_STS -/ ⟨0x40830040, [], [⟨2, 0, .ro, true⟩, ⟨8, 8, .w1c, true⟩]⟩,
    /- HPS_SUP_OV_MS -/ ⟨0x40830044, [], [⟨31, 0, .ro, true⟩]⟩ ]

def lio : List RegDesc :=
  [ /- LIO_CFG -/ ⟨0x40820000, [(0x40, 32)], [⟨3, 0, .lk, false⟩, ⟨5, 4, .lk, false⟩, ⟨6, 6, .lk, false⟩, ⟨11, 8, .lk, false⟩, ⟨12, 12, .lk, false⟩, ⟨14, 13, .lk, false⟩]⟩,
    /- LIO_THR -/ ⟨0x40820004, [(0x40, 32)], [⟨13, 0, .lk, false⟩, ⟨29, 16, .lk, false⟩]⟩,
    /- LIO_TIM -/ ⟨0x40820008, [(0x40, 32)], [⟨3, 0, .lk, false⟩, ⟨15, 6, .lk, false⟩, ⟨27, 16, .lk, false⟩]⟩,
    /- LIO_STS -/ ⟨0x4082000C, [(0x40, 32)], [⟨13, 0, .ro, false⟩, ⟨16, 16, .ro, false⟩, ⟨17, 17, .ro, false⟩, ⟨18, 18, .ro, false⟩]⟩,
    /- LIO_EVT -/ ⟨0x40820010, [(0x40, 32)], [⟨0, 0, .w1c, false⟩, ⟨1, 1, .w1c, false⟩, ⟨2, 2, .w1c, false⟩, ⟨3, 3, .w1c, false⟩]⟩,
    /- LIO_INT_EN -/ ⟨0x40820014, [(0x40, 32)], [⟨0, 0, .rw, false⟩, ⟨1, 1, .rw, false⟩, ⟨2, 2, .rw, false⟩, ⟨3, 3, .rw, false⟩]⟩,
    /- LIO_EDGE_LO -/ ⟨0x40820018, [(0x40, 32)], [⟨31, 0, .ro, false⟩]⟩,
    /- LIO_EDGE_HI -/ ⟨0x4082001C, [(0x40, 32)], [⟨31, 0, .ro, false⟩]⟩,
    /- LIO_EDGE_INFO -/ ⟨0x40820020, [(0x40, 32)], [⟨7, 0, .ro, false⟩, ⟨8, 8, .ro, false⟩, ⟨9, 9, .ro, false⟩, ⟨19, 16, .ro, false⟩, ⟨31, 24, .ro, false⟩]⟩,
    /- LIO_FAST -/ ⟨0x40820024, [(0x40, 32)], [⟨13, 0, .ro, false⟩, ⟨16, 16, .ro, false⟩, ⟨29, 20, .ro, false⟩, ⟨30, 30, .ro, false⟩, ⟨31, 31, .ro, false⟩]⟩,
    /- LIO_FAST_STS -/ ⟨0x40820028, [(0x40, 32)], [⟨5, 0, .ro, false⟩, ⟨31, 16, .ro, false⟩]⟩,
    /- LIO_LEVEL -/ ⟨0x40821000, [], [⟨31, 0, .ro, false⟩]⟩ ]

def man : List RegDesc :=
  [ /- MAN_STS -/ ⟨0x40040000, [], [⟨0, 0, .w1c, true⟩, ⟨1, 1, .w1c, true⟩, ⟨2, 2, .w1c, true⟩, ⟨3, 3, .w1c, true⟩]⟩,
    /- MAN_INT_EN -/ ⟨0x40040004, [], [⟨0, 0, .rw, true⟩, ⟨1, 1, .rw, true⟩, ⟨2, 2, .rw, true⟩, ⟨3, 3, .rw, true⟩]⟩,
    /- MAN_REFUSE_CNT -/ ⟨0x40040008, [], [⟨31, 0, .ro, true⟩]⟩,
    /- MAN_LAST_ADDR_LO -/ ⟨0x4004000C, [], [⟨31, 0, .ro, true⟩]⟩,
    /- MAN_LAST_ADDR_HI -/ ⟨0x40040010, [], [⟨31, 0, .ro, true⟩]⟩,
    /- MAN_LAST_INFO -/ ⟨0x40040014, [], [⟨3, 0, .ro, true⟩, ⟨4, 4, .ro, true⟩, ⟨6, 5, .ro, true⟩, ⟨11, 8, .ro, true⟩]⟩,
    /- MAN_EDIT_IDX -/ ⟨0x40040020, [], [⟨17, 0, .rw, true⟩]⟩,
    /- MAN_EDIT_VAL -/ ⟨0x40040024, [], [⟨31, 0, .rw, true⟩]⟩,
    /- MAN_EDIT_CMD -/ ⟨0x40040028, [], [⟨0, 0, .wo, true⟩, ⟨31, 16, .wo, true⟩]⟩,
    /- MAN_EDIT_STS -/ ⟨0x4004002C, [], [⟨0, 0, .ro, true⟩, ⟨2, 1, .ro, true⟩]⟩,
    /- MAN_GLIMIT -/ ⟨0x40040030, [], [⟨13, 0, .lk, true⟩]⟩,
    /- MAN_GQHOME -/ ⟨0x40040034, [(0x4, 2)], [⟨3, 0, .lk, true⟩, ⟨7, 4, .lk, true⟩, ⟨11, 8, .lk, true⟩, ⟨15, 12, .lk, true⟩, ⟨19, 16, .lk, true⟩, ⟨23, 20, .lk, true⟩, ⟨27, 24, .lk, true⟩, ⟨31, 28, .lk, true⟩]⟩,
    /- MAN_DBG_STS -/ ⟨0x4004003C, [], [⟨0, 0, .ro, true⟩, ⟨1, 1, .ro, true⟩, ⟨2, 2, .ro, true⟩, ⟨3, 3, .ro, true⟩, ⟨15, 8, .ro, true⟩]⟩,
    /- MAN_CORE_GINFO -/ ⟨0x40040100, [(0x4, 12)], [⟨15, 0, .ro, true⟩, ⟨19, 16, .ro, true⟩, ⟨20, 20, .ro, true⟩, ⟨21, 21, .ro, true⟩, ⟨22, 22, .ro, true⟩, ⟨23, 23, .ro, true⟩, ⟨31, 24, .ro, true⟩]⟩,
    /- MAN_CORE_CFG -/ ⟨0x40041000, [(0x4, 12)], [⟨3, 0, .lk, false⟩, ⟨4, 4, .ro, false⟩]⟩,
    /- MAN_COACH_CFG -/ ⟨0x40041040, [(0x4, 8)], [⟨0, 0, .lk, false⟩, ⟨2, 1, .lk, false⟩, ⟨12, 8, .lk, false⟩, ⟨27, 16, .ro, false⟩]⟩ ]

def irq : List RegDesc :=
  [ /- IRQ_ROUTE -/ ⟨0x40050000, [(0x4, 512)], [⟨3, 0, .lk, true⟩, ⟨7, 4, .lk, true⟩, ⟨12, 8, .lk, true⟩]⟩,
    /- IRQ_MASK -/ ⟨0x40050800, [(0x4, 16)], [⟨31, 0, .rw, false⟩]⟩,
    /- IRQ_PEND -/ ⟨0x40050840, [(0x4, 16)], [⟨31, 0, .ro, false⟩]⟩,
    /- IRQ_LC_CLAIM -/ ⟨0x40051000, [(0x1000, 12), (0x800, 2)], [⟨9, 0, .ro, false⟩]⟩,
    /- IRQ_LC_EOI -/ ⟨0x40051004, [(0x1000, 12), (0x800, 2)], [⟨9, 0, .wo, false⟩]⟩,
    /- IRQ_LC_PMR -/ ⟨0x40051008, [(0x1000, 12), (0x800, 2)], [⟨5, 0, .rw, false⟩]⟩,
    /- IRQ_LC_STS -/ ⟨0x4005100C, [(0x1000, 12), (0x800, 2)], [⟨5, 0, .ro, false⟩, ⟨8, 8, .w1c, false⟩]⟩ ]

def tan : List RegDesc :=
  [ /- TAN_PAIR_CFG -/ ⟨0x40060000, [(0x40, 4)], [⟨0, 0, .lk, true⟩, ⟨1, 1, .lk, true⟩, ⟨24, 8, .lk, true⟩]⟩,
    /- TAN_PAIR_STS -/ ⟨0x40060004, [(0x40, 4)], [⟨1, 0, .ro, true⟩, ⟨2, 2, .ro, true⟩, ⟨8, 8, .w1c, true⟩, ⟨9, 9, .w1c, true⟩, ⟨10, 10, .w1c, true⟩, ⟨11, 11, .w1c, true⟩]⟩,
    /- TAN_PAIR_INT_EN -/ ⟨0x40060008, [(0x40, 4)], [⟨0, 0, .rw, true⟩]⟩,
    /- TAN_PAIR_BMIS_CNT -/ ⟨0x4006000C, [(0x40, 4)], [⟨31, 0, .ro, true⟩]⟩,
    /- TAN_PAIR_LATENT_CNT -/ ⟨0x40060010, [(0x40, 4)], [⟨31, 0, .ro, true⟩]⟩,
    /- TAN_PAIR_FOLD_CNT -/ ⟨0x40060014, [(0x40, 4)], [⟨31, 0, .ro, true⟩]⟩,
    /- TAN_PAIR_STEST_CNT -/ ⟨0x40060018, [(0x40, 4)], [⟨31, 0, .ro, true⟩]⟩,
    /- TAN_PAIR_FIRST_INFO -/ ⟨0x4006001C, [(0x40, 4)], [⟨1, 0, .ro, true⟩, ⟨2, 2, .ro, true⟩, ⟨3, 3, .ro, true⟩, ⟨4, 4, .ro, true⟩, ⟨5, 5, .ro, true⟩]⟩,
    /- TAN_PAIR_FIRST_ADDR_LO -/ ⟨0x40060020, [(0x40, 4)], [⟨31, 0, .ro, true⟩]⟩,
    /- TAN_PAIR_FIRST_ADDR_HI -/ ⟨0x40060024, [(0x40, 4)], [⟨31, 0, .ro, true⟩]⟩,
    /- TAN_PAIR_FOLD_L_LO -/ ⟨0x40060028, [(0x40, 4)], [⟨31, 0, .ro, true⟩]⟩,
    /- TAN_PAIR_FOLD_L_HI -/ ⟨0x4006002C, [(0x40, 4)], [⟨31, 0, .ro, true⟩]⟩,
    /- TAN_PAIR_FOLD_W_LO -/ ⟨0x40060030, [(0x40, 4)], [⟨31, 0, .ro, true⟩]⟩,
    /- TAN_PAIR_FOLD_W_HI -/ ⟨0x40060034, [(0x40, 4)], [⟨31, 0, .ro, true⟩]⟩,
    /- TAN_INJ -/ ⟨0x40060100, [], [⟨1, 0, .wo, true⟩, ⟨3, 2, .wo, true⟩, ⟨31, 16, .wo, true⟩]⟩ ]

def sbx : List RegDesc :=
  [ /- SBX_SUBMIT -/ ⟨0x40710000, [], [⟨31, 0, .wo, true⟩]⟩,
    /- SBX_STS -/ ⟨0x40710004, [], [⟨3, 0, .ro, true⟩, ⟨4, 4, .ro, true⟩, ⟨8, 8, .w1c, true⟩, ⟨9, 9, .w1c, true⟩, ⟨10, 10, .w1c, true⟩, ⟨11, 11, .w1c, true⟩]⟩,
    /- SBX_INT_EN -/ ⟨0x40710008, [], [⟨8, 8, .rw, true⟩, ⟨9, 9, .rw, true⟩, ⟨10, 10, .rw, true⟩, ⟨11, 11, .rw, true⟩]⟩,
    /- SBX_ROOT -/ ⟨0x4071000C, [], [⟨0, 0, .ro, true⟩, ⟨1, 1, .ro, true⟩, ⟨2, 2, .ro, true⟩, ⟨3, 3, .ro, true⟩, ⟨7, 4, .ro, true⟩]⟩,
    /- SBX_TAMPER -/ ⟨0x40710010, [], [⟨4, 0, .ro, true⟩, ⟨8, 8, .ro, true⟩, ⟨31, 16, .ro, true⟩]⟩,
    /- SBX_ROLLBACK -/ ⟨0x40710014, [], [⟨7, 0, .ro, true⟩]⟩,
    /- SBX_DRBG -/ ⟨0x40710018, [], [⟨31, 0, .ro, true⟩]⟩,
    /- SBX_ODO_LO -/ ⟨0x40710100, [(0x8, 16)], [⟨31, 0, .ro, true⟩]⟩,
    /- SBX_ODO_HI -/ ⟨0x40710104, [(0x8, 16)], [⟨31, 0, .ro, true⟩]⟩,
    /- SBX_SLOT_ATTR -/ ⟨0x40710400, [(0x10, 256)], [⟨3, 0, .ro, true⟩, ⟨9, 4, .ro, true⟩, ⟨13, 10, .ro, true⟩, ⟨15, 14, .ro, true⟩, ⟨16, 16, .ro, true⟩, ⟨17, 17, .ro, true⟩, ⟨18, 18, .ro, true⟩, ⟨19, 19, .ro, true⟩, ⟨22, 20, .ro, true⟩, ⟨26, 23, .ro, true⟩]⟩,
    /- SBX_SLOT_LINK -/ ⟨0x40710404, [(0x10, 256)], [⟨7, 0, .ro, true⟩, ⟨8, 8, .ro, true⟩, ⟨31, 16, .ro, true⟩]⟩,
    /- SBX_SLOT_USE -/ ⟨0x40710408, [(0x10, 256)], [⟨31, 0, .ro, true⟩]⟩ ]

def ce : List RegDesc :=
  [ /- CE_STS -/ ⟨0x40700000, [], [⟨3, 0, .ro, true⟩, ⟨8, 8, .w1c, true⟩, ⟨9, 9, .w1c, true⟩, ⟨10, 10, .w1c, true⟩, ⟨11, 11, .w1c, true⟩, ⟨12, 12, .w1c, true⟩, ⟨13, 13, .w1c, true⟩]⟩,
    /- CE_INT_EN -/ ⟨0x40700004, [], [⟨0, 0, .rw, true⟩, ⟨1, 1, .rw, true⟩, ⟨2, 2, .rw, true⟩]⟩,
    /- CE_LANE_CTL -/ ⟨0x40700008, [], [⟨3, 0, .w1s, true⟩]⟩,
    /- CE_CFG -/ ⟨0x4070000C, [], [⟨15, 0, .lk, true⟩]⟩,
    /- CE_TAGFAIL_CNT -/ ⟨0x40700010, [], [⟨31, 0, .ro, true⟩]⟩,
    /- CE_REVOKE_CNT -/ ⟨0x40700014, [], [⟨31, 0, .ro, true⟩]⟩,
    /- CE_MSEC_TXKEYED -/ ⟨0x40700018, [], [⟨23, 0, .ro, true⟩]⟩,
    /- CE_SUBMIT -/ ⟨0x40700020, [(0x4, 4)], [⟨31, 0, .wo, true⟩]⟩,
    /- CE_LSTS -/ ⟨0x40700030, [(0x4, 4)], [⟨3, 0, .ro, true⟩, ⟨4, 4, .ro, true⟩, ⟨5, 5, .ro, true⟩, ⟨6, 6, .ro, true⟩, ⟨8, 8, .w1c, true⟩]⟩,
    /- CE_KEYIN -/ ⟨0x40700040, [(0x4, 16)], [⟨31, 0, .wo, true⟩]⟩,
    /- CE_KEYLOAD -/ ⟨0x40700080, [], [⟨1, 0, .wo, true⟩, ⟨5, 2, .wo, true⟩, ⟨9, 6, .wo, true⟩, ⟨13, 10, .wo, true⟩, ⟨17, 14, .wo, true⟩, ⟨18, 18, .wo, true⟩, ⟨19, 19, .wo, true⟩]⟩ ]

def sys : List RegDesc :=
  [ /- SYS_ID -/ ⟨0x40000000, [], [⟨15, 0, .ro, false⟩, ⟨19, 16, .ro, false⟩, ⟨23, 20, .ro, false⟩]⟩,
    /- SYS_SERIAL -/ ⟨0x40000004, [(0x4, 4)], [⟨31, 0, .ro, false⟩]⟩,
    /- SYS_BOOT_STS -/ ⟨0x40000014, [], [⟨0, 0, .ro, false⟩, ⟨1, 1, .ro, false⟩, ⟨3, 2, .ro, false⟩, ⟨4, 4, .ro, false⟩, ⟨15, 8, .ro, false⟩, ⟨23, 16, .ro, false⟩, ⟨25, 24, .ro, false⟩]⟩,
    /- SYS_IMAGE_VER -/ ⟨0x40000018, [], [⟨31, 0, .ro, false⟩]⟩,
    /- SYS_READY -/ ⟨0x4000001C, [], [⟨19, 0, .ro, false⟩, ⟨31, 31, .ro, false⟩]⟩,
    /- SYS_READY_PORTS_LO -/ ⟨0x40000020, [], [⟨31, 20, .ro, false⟩]⟩,
    /- SYS_READY_PORTS_HI -/ ⟨0x40000024, [], [⟨3, 0, .ro, false⟩]⟩,
    /- SYS_SEAL -/ ⟨0x40000028, [], [⟨0, 0, .lk, false⟩, ⟨31, 16, .lk, false⟩]⟩,
    /- SYS_CTL -/ ⟨0x4000002C, [], [⟨0, 0, .w1s, true⟩]⟩,
    /- SYS_ROLLBACK_CMT -/ ⟨0x40000030, [], [⟨31, 16, .wo, true⟩]⟩,
    /- SYS_INT_EN -/ ⟨0x40000034, [], [⟨0, 0, .rw, true⟩, ⟨1, 1, .rw, true⟩]⟩,
    /- SYS_STS -/ ⟨0x40000038, [], [⟨0, 0, .w1c, true⟩, ⟨1, 1, .w1c, true⟩]⟩,
    /- SYS_READY_T -/ ⟨0x40000040, [(0x4, 21)], [⟨31, 0, .ro, true⟩]⟩,
    /- SYS_CORE_ENTRY -/ ⟨0x40000100, [(0x4, 12)], [⟨31, 0, .lk, false⟩]⟩,
    /- SYS_COACH_START -/ ⟨0x40000140, [(0x8, 8)], [⟨19, 0, .lk, false⟩, ⟨20, 20, .lk, false⟩, ⟨31, 24, .lk, false⟩]⟩,
    /- SYS_COACH_PWAIT -/ ⟨0x40000144, [(0x8, 8)], [⟨15, 0, .lk, false⟩]⟩,
    /- SYS_COACH_STS -/ ⟨0x40000180, [(0x4, 8)], [⟨0, 0, .ro, false⟩, ⟨1, 1, .ro, false⟩, ⟨31, 8, .ro, false⟩]⟩,
    /- SYS_MEAS_CONSIST -/ ⟨0x40000200, [(0x4, 12)], [⟨31, 0, .ro, true⟩]⟩,
    /- SYS_MEAS_GUARD -/ ⟨0x40000240, [(0x4, 12)], [⟨31, 0, .ro, true⟩]⟩,
    /- SYS_FLASH_ADDR -/ ⟨0x40000300, [], [⟨31, 0, .rw, true⟩]⟩,
    /- SYS_FLASH_SRC -/ ⟨0x40000304, [], [⟨31, 0, .rw, true⟩]⟩,
    /- SYS_FLASH_LEN -/ ⟨0x40000308, [], [⟨12, 0, .rw, true⟩]⟩,
    /- SYS_FLASH_CMD -/ ⟨0x4000030C, [], [⟨1, 0, .wo, true⟩, ⟨31, 16, .wo, true⟩]⟩,
    /- SYS_FLASH_STS -/ ⟨0x40000310, [], [⟨0, 0, .ro, true⟩, ⟨1, 1, .w1c, true⟩, ⟨2, 2, .w1c, true⟩, ⟨3, 3, .w1c, true⟩]⟩ ]

def dbg : List RegDesc :=
  [ /- DBG_STS -/ ⟨0x40090000, [], [⟨3, 0, .ro, true⟩, ⟨4, 4, .ro, true⟩, ⟨5, 5, .ro, true⟩, ⟨15, 8, .ro, true⟩, ⟨16, 16, .w1c, true⟩, ⟨17, 17, .w1c, true⟩, ⟨18, 18, .w1c, true⟩]⟩,
    /- DBG_ACC_CNT -/ ⟨0x40090004, [], [⟨31, 0, .ro, true⟩]⟩,
    /- DBG_REF_CNT -/ ⟨0x40090008, [], [⟨31, 0, .ro, true⟩]⟩,
    /- DBG_LAST -/ ⟨0x4009000C, [], [⟨7, 0, .ro, true⟩, ⟨11, 8, .ro, true⟩, ⟨13, 12, .ro, true⟩, ⟨14, 14, .ro, true⟩]⟩,
    /- DBG_LAST_ADDR_LO -/ ⟨0x40090010, [], [⟨31, 0, .ro, true⟩]⟩,
    /- DBG_LAST_ADDR_HI -/ ⟨0x40090014, [], [⟨31, 0, .ro, true⟩]⟩ ]

def pwrm : List RegDesc :=
  [ /- PWRM_STATE -/ ⟨0x40020000, [], [⟨1, 0, .ro, true⟩, ⟨3, 2, .ro, true⟩, ⟨4, 4, .ro, true⟩, ⟨15, 8, .ro, true⟩, ⟨16, 16, .ro, true⟩]⟩,
    /- PWRM_POLICY -/ ⟨0x40020004, [], [⟨0, 0, .rw, true⟩]⟩,
    /- PWRM_STS -/ ⟨0x40020008, [], [⟨0, 0, .w1c, true⟩]⟩,
    /- PWRM_INT_EN -/ ⟨0x4002000C, [], [⟨0, 0, .rw, true⟩]⟩,
    /- PWRM_GUARD_QUIESCED -/ ⟨0x40020010, [], [⟨31, 16, .wo, true⟩]⟩,
    /- PWRM_WAKE_TMR -/ ⟨0x40020014, [], [⟨23, 0, .rw, true⟩]⟩,
    /- PWRM_MIN_TOL -/ ⟨0x40020018, [], [⟨31, 0, .ro, true⟩]⟩,
    /- PWRM_WAKE_INFO -/ ⟨0x4002001C, [], [⟨0, 0, .ro, true⟩, ⟨1, 1, .ro, true⟩]⟩,
    /- PWRM_PGATE -/ ⟨0x40021000, [(0x1000, 6)], [⟨3, 0, .rw, false⟩, ⟨11, 8, .ro, false⟩]⟩,
    /- PWRM_SLEEP_REQ -/ ⟨0x40027000, [], [⟨0, 0, .rw, false⟩]⟩,
    /- PWRM_SLEEP_REQ -/ ⟨0x40028000, [(0x1000, 8)], [⟨0, 0, .rw, false⟩]⟩,
    /- PWRM_TOL_US -/ ⟨0x40027004, [], [⟨31, 0, .rw, false⟩]⟩,
    /- PWRM_TOL_US -/ ⟨0x40028004, [(0x1000, 8)], [⟨31, 0, .rw, false⟩]⟩ ]

def clk : List RegDesc :=
  [ /- CLK_STS -/ ⟨0x40030000, [], [⟨0, 0, .ro, true⟩, ⟨1, 1, .ro, true⟩, ⟨8, 8, .w1c, true⟩, ⟨9, 9, .w1c, true⟩]⟩,
    /- CLK_INT_EN -/ ⟨0x40030004, [], [⟨0, 0, .rw, true⟩]⟩,
    /- CLK_REFCLK_PPM -/ ⟨0x40030008, [], [⟨31, 0, .ro, true⟩]⟩,
    /- CLK_GATE -/ ⟨0x40031000, [(0x1000, 6)], [⟨3, 0, .rw, false⟩, ⟨11, 8, .ro, false⟩]⟩ ]

def frm : List RegDesc :=
  [ /- FRM_CFG -/ ⟨0x40010000, [], [⟨1, 0, .rw, true⟩, ⟨7, 4, .rw, true⟩]⟩,
    /- FRM_CTL -/ ⟨0x40010004, [], [⟨0, 0, .w1s, true⟩]⟩,
    /- FRM_STS -/ ⟨0x40010008, [], [⟨0, 0, .ro, true⟩, ⟨1, 1, .ro, true⟩, ⟨2, 2, .ro, true⟩, ⟨8, 8, .w1c, true⟩]⟩,
    /- FRM_INT_EN -/ ⟨0x4001000C, [], [⟨0, 0, .rw, true⟩, ⟨1, 1, .rw, true⟩, ⟨2, 2, .rw, true⟩]⟩,
    /- FRM_ACK -/ ⟨0x40010010, [], [⟨31, 16, .wo, true⟩]⟩,
    /- FRM_SAFE_CTL -/ ⟨0x40010014, [], [⟨0, 0, .wo, true⟩, ⟨31, 16, .wo, true⟩]⟩,
    /- FRM_RESET_CMD -/ ⟨0x40010018, [], [⟨1, 0, .wo, true⟩, ⟨31, 16, .wo, true⟩]⟩,
    /- FRM_BLK_RST -/ ⟨0x4001001C, [], [⟨2, 0, .wo, true⟩, ⟨8, 3, .wo, true⟩, ⟨31, 16, .wo, true⟩]⟩,
    /- FRM_BOOT_CAUSE -/ ⟨0x40010020, [], [⟨3, 0, .ro, true⟩, ⟨15, 8, .ro, true⟩, ⟨31, 16, .ro, true⟩]⟩,
    /- FRM_CNT -/ ⟨0x40010024, [(0x4, 4)], [⟨31, 0, .ro, true⟩]⟩,
    /- FRM_COACH_CFG -/ ⟨0x40010040, [(0x4, 8)], [⟨0, 0, .rw, true⟩, ⟨2, 1, .rw, true⟩, ⟨4, 4, .rw, true⟩, ⟨11, 8, .rw, true⟩, ⟨19, 12, .rw, true⟩, ⟨20, 20, .rw, true⟩]⟩,
    /- FRM_COACH_CTL -/ ⟨0x40010060, [(0x4, 8)], [⟨0, 0, .wo, true⟩, ⟨1, 1, .wo, true⟩, ⟨2, 2, .wo, true⟩, ⟨31, 16, .wo, true⟩]⟩,
    /- FRM_SWFAULT -/ ⟨0x40017000, [], [⟨1, 0, .wo, false⟩, ⟨7, 4, .wo, true⟩, ⟨31, 16, .wo, false⟩]⟩,
    /- FRM_SWFAULT -/ ⟨0x40018000, [(0x1000, 8)], [⟨1, 0, .wo, false⟩, ⟨7, 4, .wo, true⟩, ⟨31, 16, .wo, false⟩]⟩,
    /- FRM_CFAULT -/ ⟨0x40018004, [(0x1000, 8)], [⟨15, 0, .ro, false⟩, ⟨23, 16, .ro, false⟩]⟩ ]

def tally : List RegDesc :=
  [ /- TALLY_C_CTL -/ ⟨0x40070000, [(0x1000, 12), (0x10, 8)], [⟨0, 0, .rw, false⟩, ⟨1, 1, .rw, false⟩, ⟨5, 5, .rw, false⟩, ⟨6, 6, .ro, false⟩, ⟨15, 8, .rw, false⟩]⟩,
    /- TALLY_C_CNT_LO -/ ⟨0x40070004, [(0x1000, 12), (0x10, 8)], [⟨31, 0, .rw, false⟩]⟩,
    /- TALLY_C_CNT_HI -/ ⟨0x40070008, [(0x1000, 12), (0x10, 8)], [⟨31, 0, .rw, false⟩]⟩,
    /- TALLY_C_STS -/ ⟨0x40070080, [(0x1000, 12)], [⟨7, 0, .rws, false⟩]⟩,
    /- TALLY_C_FREEZE -/ ⟨0x40070084, [(0x1000, 12)], [⟨0, 0, .rw, false⟩]⟩,
    /- TALLY_C_SMP_CFG -/ ⟨0x40070088, [(0x1000, 12)], [⟨0, 0, .rw, false⟩, ⟨1, 1, .rw, false⟩, ⟨2, 2, .rw, false⟩, ⟨15, 8, .rw, false⟩, ⟨31, 16, .rw, false⟩]⟩,
    /- TALLY_C_SMP_WR -/ ⟨0x4007008C, [(0x1000, 12)], [⟨31, 0, .ro, false⟩]⟩,
    /- TALLY_C_SMP_RD -/ ⟨0x40070090, [(0x1000, 12)], [⟨31, 0, .rw, false⟩]⟩,
    /- TALLY_C_SMP_DROP -/ ⟨0x40070094, [(0x1000, 12)], [⟨31, 0, .ro, false⟩]⟩,
    /- TALLY_C_SMP_STS -/ ⟨0x40070098, [(0x1000, 12)], [⟨9, 0, .ro, false⟩, ⟨16, 16, .w1c, false⟩, ⟨17, 17, .w1c, false⟩]⟩,
    /- TALLY_C_SMP_THR -/ ⟨0x4007009C, [(0x1000, 12)], [⟨9, 0, .rw, false⟩]⟩,
    /- TALLY_D_CTL -/ ⟨0x4007C000, [(0x10, 16)], [⟨0, 0, .rw, true⟩, ⟨1, 1, .rw, true⟩, ⟨5, 5, .rw, true⟩, ⟨6, 6, .ro, true⟩, ⟨15, 8, .rw, true⟩]⟩,
    /- TALLY_D_CNT_LO -/ ⟨0x4007C004, [(0x10, 16)], [⟨31, 0, .rw, true⟩]⟩,
    /- TALLY_D_CNT_HI -/ ⟨0x4007C008, [(0x10, 16)], [⟨31, 0, .rw, true⟩]⟩,
    /- TALLY_D_STS -/ ⟨0x4007C100, [], [⟨15, 0, .rws, true⟩]⟩,
    /- TALLY_P_CTL -/ ⟨0x4007D000, [(0x40, 48), (0x10, 4)], [⟨0, 0, .rw, true⟩, ⟨1, 1, .rw, true⟩, ⟨5, 5, .rw, true⟩, ⟨6, 6, .ro, true⟩, ⟨15, 8, .rw, true⟩]⟩,
    /- TALLY_P_CNT_LO -/ ⟨0x4007D004, [(0x40, 48), (0x10, 4)], [⟨31, 0, .rw, true⟩]⟩,
    /- TALLY_P_CNT_HI -/ ⟨0x4007D008, [(0x40, 48), (0x10, 4)], [⟨31, 0, .rw, true⟩]⟩,
    /- TALLY_P_STS -/ ⟨0x4007DC00, [(0x4, 6)], [⟨31, 0, .rws, true⟩]⟩,
    /- TALLY_BW_CFG -/ ⟨0x4007E000, [], [⟨0, 0, .rw, true⟩, ⟨1, 1, .rw, true⟩, ⟨31, 16, .rw, true⟩]⟩,
    /- TALLY_BW_IN_LO -/ ⟨0x4007E100, [(0x20, 48)], [⟨31, 0, .ro, true⟩]⟩,
    /- TALLY_BW_IN_HI -/ ⟨0x4007E104, [(0x20, 48)], [⟨31, 0, .ro, true⟩]⟩,
    /- TALLY_BW_OUT_LO -/ ⟨0x4007E108, [(0x20, 48)], [⟨31, 0, .ro, true⟩]⟩,
    /- TALLY_BW_OUT_HI -/ ⟨0x4007E10C, [(0x20, 48)], [⟨31, 0, .ro, true⟩]⟩,
    /- TALLY_BW_RATE_IN -/ ⟨0x4007E110, [(0x20, 48)], [⟨31, 0, .ro, true⟩]⟩,
    /- TALLY_BW_RATE_OUT -/ ⟨0x4007E114, [(0x20, 48)], [⟨31, 0, .ro, true⟩]⟩,
    /- TALLY_BW_WIN_NS -/ ⟨0x4007E118, [(0x20, 48)], [⟨31, 0, .ro, true⟩]⟩ ]

end RegTable

end Sys2Proof.Machine
end

