-- ==== Sys2Proof/Machine/Parts.lean ====
section
/-! DEFINITION. The parts of the state that the spec gives the block beside its registers: the event log, the
fault manager, the worlds and the local interrupt controllers, the stage engine, the time base and the
timed-action unit. -/

namespace Sys2Proof.Machine

/-! ### The logbook (spec/04) -/

/-- A logbook record, in the layout of R115. -/
structure Rec where
  time : Nat
  frac : Nat
  block : Nat
  owner : Nat
  sev : Nat
  flags : Nat
  code : Nat
  inst : Nat
  data : List Nat
  /-- The Heavia die wrote it while the Beyvo die was in reset or off (R128); no word of the record shows it. -/
  down : Bool := false
deriving DecidableEq, Repr

/-- A record posted once per stage that waits for the tick (R502); `countAt` is the data word that holds the
stage's count, when one does. -/
structure StageRec where
  record : Rec
  countAt : Option Nat
deriving DecidableEq, Repr

/-- An entry of the always-on log (R124, R126): none when empty, else the record and whether its CRC is bad. -/
abbrev AoEntry := Option (Rec × Bool)

/-- The logbook beside its registers (R120–R128, R502). -/
structure LogSt where
  /-- The post queue of R122, oldest first, at most 64. -/
  queue : List Rec
  /-- Records dropped since the last code 0x0002 (R122). -/
  dropped : Nat
  /-- An overwrite since Guard's last write to LOGB_RD_CNT has been reported (R121). -/
  ovwPosted : Bool
  /-- Records posted once per stage that wait for the tick (R502), first event first. -/
  stage : List StageRec
  /-- The Heavia die's copy of MIN_SEV (R124). -/
  aoMinSev : Nat
  /-- Records waiting in retention SRAM for the always-on log, oldest first, at most 16 (R126). -/
  aoQueue : List Rec
  /-- The 256 always-on entries (R124), sparse. -/
  ao : List (Nat × AoEntry)
  /-- Entries written since the last copy of R128, oldest first. -/
  aoNew : List Nat
deriving DecidableEq, Repr

/-! ### Faults and resets (spec/19) -/

/-- A reset of a die that has been started and waits to be carried out: its cause of R452, and for cause 3 the
block and code of the fault. -/
structure ResetReq where
  cause : Nat
  block : Nat
  code : Nat
deriving DecidableEq, Repr

/-- The resets that R455 counts for one coach: how many without a gap, and when the last was (ns). -/
structure Escal where
  count : Nat
  last : Nat
deriving DecidableEq, Repr

structure FrmSt where
  /-- The Beyvo die runs: it is in no reset and no sleep state (R504). -/
  beyvoUp : Bool
  /-- FAULT_N is held low by a reset or a boot (R445). -/
  bootLow : Bool
  /-- Boot hold (R421). -/
  bootHold : Bool
  /-- Tamper hold (R377). -/
  tamperHold : Bool
  /-- A device reset that has been started (R448). -/
  devReset : Option ResetReq
  /-- A Beyvo reset that has been started (R448). -/
  bvReset : Option ResetReq
  /-- Coach resets that have been started, with their cause of R453. -/
  coachReset : List (Nat × Nat)
  /-- Coaches whose pending reset waits for no GRET (R356). -/
  noWait : List Nat
  /-- Coaches held in reset (R453 step 2 until their release). -/
  inReset : List Nat
  /-- Coaches held until Guard writes RESTART (R455). -/
  held : List Nat
  /-- Escalation counts of R455, sparse. -/
  escal : List (Nat × Escal)
  /-- Coaches to whose channels the drag-shoe states apply under R454. -/
  dsPolicy : List Nat
  /-- RESET_N stands low (R451). -/
  resetNLow : Bool
  /-- A start of the Beyvo die that waits until VBAT_L has left the brown-out range (R439). -/
  startWait : Option ResetReq
  /-- RESET_N has woken the module from PARKED, and the lid mesh is still to be checked (R376). -/
  meshDue : Bool
  /-- VBAT_L has fallen into lockout and not risen out of it (R31, R439). -/
  lockedOut : Bool
deriving DecidableEq, Repr

/-! ### Worlds and local interrupt controllers (spec/13) -/

structure WorldSt where
  /-- Cores whose Guard time limit runs, with the instant it expires (R341), sparse; 0 = stopped. -/
  glimit : List (Nat × Nat)
  /-- Result register of a core as a Guard call wrote it: 0xFFFF_0001 or 0xFFFF_0002 (R342, R344). -/
  result : List (Nat × Nat)
  /-- Cores whose Open address and status a Guard entry saved (R340). -/
  saved : List Nat
  /-- Cores that a rule has given an exception: 1 undefined instruction (R340), 2 bus error (R335). -/
  exc : List (Nat × Nat)
  /-- A manifest edit in progress: index and value (R337). -/
  edit : Option (Nat × Nat)
  /-- The instant the quiesce timer of R346 runs out. -/
  quiesceAt : Option Nat
  /-- Guard counts as quiesced in this handshake (R346). -/
  quiesced : Bool
  /-- NOT_QUIESCED as the always-on domain holds it (R346). -/
  notQuiesced : Bool
  /-- Active sources: core, Guard half, source (R349). -/
  active : List (Nat × Bool × Nat)
  /-- Pending dispatch lines: core and world, true for the Guard monitor (R47, R50). -/
  dispatch : List (Nat × Bool)
  /-- Cores running: out of reset and started (R422). -/
  running : List Nat
  /-- Cores that execute the wait instruction; in DROWSE their rails are in retention (R429, R430). -/
  waiting : List Nat
deriving DecidableEq, Repr

/-! ### The stage engine (spec/02) -/

/-- A window that is open or still awaits its DONE (R48). -/
structure Win where
  entry : Nat
  owner : Nat
  core : Nat
  endAt : Nat
  isOpen : Bool
  awaits : Bool
deriving DecidableEq, Repr

/-- What the Heavia die latches of one channel at a tick (R51). -/
structure ChanLatch where
  cur : Nat
  volt : Nat
  sts : Nat
  tjDuty : Nat
deriving DecidableEq, Repr

/-- What the Heavia die latches of one low-power input at a tick (R51). -/
structure LioLatch where
  reading : Nat
  level : Nat
  edges : Nat
deriving DecidableEq, Repr

structure StgSt where
  /-- Domain time of the next tick (R36, R60). -/
  nextTick : Nat
  /-- Domain time of the last tick; none before the first. -/
  lastTick : Option Nat
  /-- Nanoseconds that forward steps have added since the last tick (R60). -/
  stepped : Nat
  /-- Windows, newest first. -/
  wins : List Win
  /-- Level of STAGE_OUT (R40). -/
  outHigh : Bool
  /-- Gate masks of the ports, bit k = class k open, sparse with default all open (R63). -/
  gates : List (Nat × Nat)
  /-- The quiet entries that run, with the domain time of their end (R64). -/
  quiet : List (Nat × Nat)
  /-- The next snapshot is the first on a new grid (R60). -/
  realigned : Bool
  /-- The snapshot latched at the last tick (R51). -/
  chanLatch : List (Nat × ChanLatch)
  lioLatch : List (Nat × LioLatch)
  /-- Flags of that snapshot's header (R54). -/
  latchFlags : Nat
deriving DecidableEq, Repr

/-! ### Device time (spec/03) -/

/-- How the device time runs (R68). -/
inductive TimeMode where
  | stopped     -- before the start of R68
  | servo       -- RUN and DROWSE
  | heavia      -- Beyvo reset and SENTINEL (R82)
  | frozen      -- PARKED (R84), and tamper hold, where the time is lost (R31)
deriving DecidableEq, Repr

/-- The cause of a refused offset (R77). -/
inductive RefCause where
  | jump | gmChange | backward
deriving DecidableEq, Repr

structure TimSt where
  mode : TimeMode
  /-- Device time in units of 1/65,536 ns (R66). -/
  dev : Nat
  /-- Remainder of the servo's rate, in units of 10^-10 of 1/65,536 ns. -/
  rem : Nat
  /-- `dev` and `up` where the Heavia die took the time over (R82). -/
  baseDev : Nat
  baseUp : Nat
  /-- Nanoseconds left until the device time starts (R68). -/
  startIn : Nat
  /-- `up` at the entry into LOCKED (R73). -/
  lockUp : Nat
  /-- Consecutive Syncs within LOCK_THR, and above 4 LOCK_THR (R72). -/
  good : Nat
  bad : Nat
  /-- The refusal series in progress: cause and master (R77). -/
  series : Option (RefCause × Nat)
  /-- The grandmaster the device holds (R76); the Heavia die retains it (R81). -/
  held : Option Nat
  /-- Present grandmaster of each domain, sparse (R85). -/
  domGm : List (Nat × Nat)
  /-- High words latched by reads of _LO registers, by the address of the high word (R71). -/
  latched : List (Nat × Nat)
  /-- Failing peer-delay exchanges in a row, per port (R85). -/
  pdFails : List (Nat × Nat)
  /-- The frequency that the servo estimated last in lock (R73), in units of TIME_FREQ, and the drift of the time clock
  against it while no correction comes (R25, R92). -/
  lockFreq : Int
  drift : Int
  /-- The Announce that holds at each port, by 16 d + p (R85). -/
  ann : List (Nat × Announce)
  /-- The rate ratio of each tracked secondary domain (R70). -/
  ratio : List (Nat × Nat)
deriving DecidableEq, Repr

/-! ### Timed actions (spec/03) -/

/-- A timed-action slot as captured at its arm (R98). -/
structure Slot where
  armed : Bool
  cfg : Nat
  first : Nat        -- first fire instant, 1/256 ns
  period : Nat       -- ns
  count : Nat
  arg : Nat
  next : Nat         -- index of the next instant
  left : Nat         -- firings left, 0 with count 0 = unbounded
deriving DecidableEq, Repr

/-- One captured edge: time in 1/256 ns and direction (R105). -/
structure Edge where
  time256 : Nat
  falling : Bool
deriving DecidableEq, Repr

/-- A TCAP pin (R105). -/
structure Tcap where
  fifo : List Edge
  lastEdge : Option Nat
  burst : Bool
  ovf : Nat
deriving DecidableEq, Repr

structure TtaSt where
  /-- The fire instant in 1/256 ns and the slot of the last slot action on each TOUT pin (R102). -/
  last : List (Nat × Nat × Nat)
  slots : List (Nat × Slot)
  /-- Actions of slots disarmed since that the Heavia die holds and will still carry out (R97), oldest first. -/
  passed : List (Nat × Slot)
  /-- TOUT pins: bit k of the level (R97). -/
  tout : Nat
  /-- `up` at the end of the pulse that runs on a TOUT pin (R97), by pin; 0 = none. -/
  pulse : List (Nat × Nat)
  tcap : List (Nat × Tcap)
deriving DecidableEq, Repr

def Slot.unarmed : Slot :=
  { armed := false, cfg := 0, first := 0, period := 0, count := 0, arg := 0, next := 0, left := 0 }

def Tcap.empty : Tcap := { fifo := [], lastEdge := none, burst := false, ovf := 0 }

/-! ### Power channels and their protection (spec/10, spec/11) -/

/-- What a channel is asked to do (R287): 0 = off, 1 = on, 2 = PWM, 3 = FWD, 4 = REV, as CHAN_STS.CMD; for PWM the
duty and the cadence. -/
structure Req where
  kind : Nat
  duty : Nat
  cad : Nat
deriving DecidableEq, Repr

/-- A deferred command (R56): how many ticks it waits beyond the next one, its OP and its DUTY. -/
structure Deferred where
  wait : Nat
  op : Nat
  duty : Nat
deriving DecidableEq, Repr

/-- A command that has taken effect: its class of R102 (0 deferred, 1 timed, 2 immediate), OP and DUTY. -/
structure CmdDone where
  cls : Nat
  op : Nat
  duty : Nat
deriving DecidableEq, Repr

/-- The commands of one 10 ns cycle, in the order of R102, with what CMD, the stored duty and CHAN_ON_CNT held before
the first of them. -/
structure CmdCycle where
  cycle : Nat
  cmd : Nat
  duty : Nat
  onCnt : Nat
  done : List CmdDone
deriving DecidableEq, Repr

/-- A channel beside its registers. -/
structure Chan where
  /-- The duty that PWM and DUTY commands stored (R270). -/
  duty : Nat
  /-- The deferred commands (R56, R57): at most one due at each of the next two ticks. -/
  pend : List Deferred
  /-- The commands that took effect in the last 10 ns cycle in which one did (R102). -/
  cyc : Option CmdCycle
  /-- Global drag-shoe state and that of R362 or R454, while applied (R314). -/
  ds : Option Req
  dsCoach : Option Req
  /-- The state held for the coast (R316). -/
  coast : Option Req
  /-- Level that PWM drives at this instant, the duty of the present period (none before the first), and the
  instants of its pulse in device ns (R273). -/
  pwmLvl : Bool
  pwmDuty : Option Nat
  onAt : Option Nat
  offAt : Option Nat
  /-- Level and off-edge of the pulse that ran when the present period started (R270). -/
  carry : Bool × Option Nat
  /-- `up` at the last switch-on, at the start of the envelope, and at the last on-edge (R282). -/
  onSince : Nat
  envStart : Option Nat
  outSince : Nat
  /-- `up` since when the even and the odd MOSFET of a pair are on (R267, R288). -/
  evenAt : Option Nat
  oddAt : Option Nat
  /-- Time in ns for which the output has conducted in the pulses that have ended since the last switch-on (R297). -/
  condNs : Nat
  /-- `up` at the last trip (R296). -/
  tripAt : Nat
  /-- A blocking pair's odd MOSFET is off (R304). -/
  blocking : Bool
  /-- Consecutive readings: within ±200 mA, over the envelope, below and above OL_THR, at and below the battery
  level, reverse and not reverse, above THR_HI and below THR_LO (R277, R289, R301, R303, R304, R286). -/
  fineRun : Nat
  ocRun : Nat
  olLow : Nat
  olHigh : Nat
  sbHigh : Nat
  sbLow : Nat
  revRun : Nat
  fwdRun : Nat
  hiRun : Nat
  loRun : Nat
  /-- The last 256 readings, newest first; sums of the stage and of the cadence period, the mean of the last stage and
  of the last complete period, and whether the present period began at its instant (R275, R278). -/
  hist : List Int
  stSum : Int
  stCnt : Nat
  stMean : Int
  cadSum : Int
  cadCnt : Nat
  cadLast : Int
  cadWhole : Bool
  /-- Charge below 1 nC, in pC (R280). -/
  qRem : Int
  /-- Readings of the millisecond for the models and for the budgeter: count, sum (µA), sum of squares (µA²). -/
  mCnt : Nat
  mSq : Nat
  bCnt : Nat
  bSum : Int
  bSq : Nat
  /-- θ and φ in 10^-12 K (R290, R294). -/
  theta : Nat
  phi : Nat
  /-- HARN_WARN has been given since T_w was last 5 K below T_WARN (R292). -/
  warned : Bool
  /-- A pull-up test runs, and `up` at the start of the last one; readings in a row with the even DRN 50 mV or more above
  the odd DRN of a pair (R302, R304). -/
  testing : Bool
  testAt : Option Nat
  fwdV : Nat
  /-- Timed actions that fire up to this device time have been discarded (R314, R316, R454). -/
  dropTill : Nat
  /-- `up`, plus 1, at the last end of HARNESS, THERMAL or SHED (R300). -/
  freed : Nat
deriving DecidableEq, Repr

def Chan.zero : Chan :=
  { duty := 0, pend := [], cyc := none, ds := none, dsCoach := none, coast := none, pwmLvl := false,
    pwmDuty := none, onAt := none, offAt := none, carry := (false, none), onSince := 0, envStart := none, outSince := 0,
    evenAt := none, oddAt := none, condNs := 0, tripAt := 0,
    blocking := false, fineRun := 0, ocRun := 0, olLow := 0, olHigh := 0, sbHigh := 0, sbLow := 0, revRun := 0,
    fwdRun := 0, hiRun := 0, loRun := 0, hist := [], stSum := 0, stCnt := 0, stMean := 0, cadSum := 0,
    cadCnt := 0, cadLast := 0, cadWhole := false, qRem := 0, mCnt := 0, mSq := 0, bCnt := 0, bSum := 0, bSq := 0, theta := 0, phi := 0,
    warned := false, testing := false, testAt := none, fwdV := 0, dropTill := 0, freed := 0 }

/-- A low-power input beside its registers (spec/12): the edge FIFO (oldest first, at most 8) with its discarded
edges, the fast FIFO (at most 32) as LIO_FAST reads, edges since the last snapshot, and the runs of conversions
without and with the wetting current. -/
structure Lio where
  edges : List Edge
  edgeOvf : Nat
  fast : List Nat
  count : Nat
  /-- The time-stamp of the last edge in 1/256 ns (R320, R322). -/
  lastEdge : Option Nat
  /-- The instant of the tick and k of the last fast sample (R323). -/
  fastAt : Option (Nat × Nat)
  /-- `up`, plus 1, at the first conversion of a run without, and with, the wetting current (R319); 0 = no run. -/
  wetBad : Nat
  wetGood : Nat
  /-- `up` at the last conversion (R318). -/
  convAt : Option Nat
deriving DecidableEq, Repr

def Lio.empty : Lio :=
  { edges := [], edgeOvf := 0, fast := [], count := 0, lastEdge := none, fastAt := none, wetBad := 0, wetGood := 0, convAt := none }

/-- The copy of a channel's models in retention memory (R308). -/
structure Retained where
  theta : Nat
  phi : Nat
  retryCnt : Nat
deriving DecidableEq, Repr

/-- The Heavia die beside its registers: the coachman watchdog, drag-shoe states, coast and budgeter. -/
structure HeaviaSt where
  /-- The LK registers of the CHAN, LIO, HPS and HLK windows are read-only: from the first seal until a reset of both
  dies (R11, R450). -/
  locked : Bool
  /-- `up` at the start of the watchdog's window, and the wrong words in it (R312). -/
  cwStart : Nat
  cwWrong : Nat
  /-- Consecutive windows that ended with a correct word since the watchdog last armed (R315). -/
  cwGood : Nat
  /-- A miss has come and no correct word since (R313). -/
  cwMissed : Bool
  /-- An accepted release waits for the tick (R315). -/
  dsRelease : Bool
  /-- `up` at the start of the coast (R316). -/
  coastAt : Nat
  /-- 10 ns cycle, plus 1, of the last period start of each cadence (R270). -/
  cadAt : List (Nat × Nat)
  /-- Estimates at or above their thresholds, and of those the ones without a candidate (R306, R307). -/
  budOver : List Nat
  budExh : List Nat
  /-- Every estimate stands below its release threshold, and for how many ms (R306). -/
  budBelow : Bool
  budRelMs : Nat
  /-- Retained state (R308) and `up` at its stamp, without the time spent in PARKED. -/
  retained : List (Nat × Retained)
  retainedAt : Option Nat
  /-- The CRC errors of the block that the H-link sends, and of each lane in a row; the link has gone down and not come up
  since (R309, R310). -/
  blockErr : Nat
  laneErr : List (Nat × Nat)
  linkLost : Bool
  /-- `up` at the start of the overvoltage event (R439). -/
  ovAt : Nat
  /-- The earliest device time in ns at which the next period of a cadence may start: after the instant of its last start,
  and after a step of the device time (R272, R275). -/
  cadNext : List (Nat × Nat)
  /-- STG_PERIOD_NS as the Heavia die knows it while the Beyvo die is down (R301, R312). -/
  periodNs : Nat
  /-- VBAT_L is below 7 V (R230). -/
  linLow : Bool
deriving DecidableEq, Repr

/-! ### The fabric (spec/04 to spec/07) -/

/-- A waybill (R106). -/
structure Waybill where
  time : Nat
  frac : Nat
  port : Nat
  cls : Nat
  len : Nat
  fseq : Nat
  epoch : Nat
  origin : Nat
  flags : Nat
deriving DecidableEq, Repr

/-- What an IEEE 1722 encapsulation takes from the CAN filter entry (R135). -/
structure Acf where
  da : Nat
  vid : Nat
  pcp : Nat
  uid : Nat
  bus : Nat
deriving DecidableEq, Repr

/-- What becomes of an R-TAG at egress (R149). -/
inductive RTag where
  | keep
  | strip
  | put (seq : Nat)
deriving DecidableEq, Repr

/-- One copy of a frame (R152, R160, R184, R187, R192). -/
structure Copy where
  port : Nat
  cls : Nat
  /-- Drop-eligible (R147). -/
  de : Bool
  /-- The endpoint queue 64 c + n of a copy to port 36–44 (R177). -/
  queue : Option Nat
  /-- Fabric sequence number of cell 0, and cells that the resequencer has passed (R187, R188). -/
  start : Nat
  passed : Nat
  /-- Cut through (R152), and the bytes that must have arrived before it starts (R153). -/
  cut : Bool
  thresh : Nat
  /-- Written to memory as its cells arrive (R152), and `up` when it became ready for writing (R182). -/
  early : Bool
  readyAt : Nat
  /-- In transmission. -/
  sending : Bool
  /-- The copy was found bad after its start, or truncated (R155, R156, R189). -/
  bad : Bool
  /-- The bytes of the frame that a truncated copy keeps (R155, R189). -/
  kept : Option Nat
  /-- The copy's own waybill flags (R107). -/
  flags : Nat
  untag : Bool
  rtag : RTag
  acf : Option Acf
  /-- A tow mirror copy (R207). -/
  mirror : Bool
  /-- Truncated by a lost cell of its own (R189). -/
  gapCut : Bool := false
deriving DecidableEq, Repr

/-- A frame in the fabric. -/
structure Frame where
  id : Nat
  /-- 0 = Ethernet, 1 = carriage, 2 = message (R133, R170). -/
  kind : Nat
  wb : Waybill
  /-- The bytes of R109: for Ethernet from the destination address to the FCS. -/
  bytes : List Nat
  /-- Source of its fabric flows: an ingress port, or 48 + l for lane l of the cipher engine (R187). -/
  src : Nat
  /-- VID and PCP of R140 step 1. -/
  vid : Nat
  pcp : Nat
  /-- Its stream handle of R146. -/
  stream : Option Nat
  /-- FRER instance and sequence number of a frame under recovery (R150, R151). -/
  rcv : Option (Nat × Nat)
  /-- The frame waits as a duplicate (R151). -/
  heldDup : Bool
  /-- Its copies count in the drain counter of its epoch (R160). -/
  drains : Bool
  /-- Looked up, tail checked, and what the tail check will find (R156). -/
  looked : Bool
  tail : Bool
  fcsOk : Bool
  icvOk : Bool
  maxSdu : Nat
  /-- Bytes on the wire at ingress (R212). -/
  wire : Nat
  /-- The length of the Ethernet frame that it arrived as, from the destination address to the FCS (R133); 0 = none. -/
  eth : Nat
  /-- MDI time-stamp at this device's ingress, 1/256 ns (R89). -/
  inTs : Nat
  /-- TIME, FRAC and FSEQ came from a trunk's waybill tag (R114). -/
  tagged : Bool
  /-- The sending queue (R194) and the sets of the receipt (R195). -/
  sendQ : Option Nat
  attempted : List Nat
  delivered : List Nat
  /-- The flows in which its copies were admitted, with their start numbers (R187). -/
  flows : List (Nat × Nat)
  /-- The bytes of its ingress mirror copy, where one is owed (R207). -/
  mir : Option (List Nat)
  /-- The Ethernet frame of the ACF messages behind the first, without FCS (R136). -/
  rest : Option (List Nat)
  copies : List Copy
deriving DecidableEq, Repr

/-- A cell that the resequencer holds (R188): its flow key and number. -/
structure HeldCell where
  flow : Nat
  num : Nat
deriving DecidableEq, Repr

/-- A flow with a gap timer running: its key and `up` at its start (R189). -/
structure GapTimer where
  flow : Nat
  since : Nat
deriving DecidableEq, Repr

/-- Buckets of a flow meter in 10^-6 bits, and `up` at their last update (R147). -/
structure Meter where
  c : Nat
  e : Nat
  at_ : Nat
deriving DecidableEq, Repr

/-- Sequence recovery of a FRER instance (R150): history bits, newest first; last number; first number is
accepted; `up` at the last passed frame. -/
structure FrerRec where
  hist : List Bool
  last : Nat
  takeAny : Bool
  at_ : Nat
deriving DecidableEq, Repr

/-- Credit of a shaped class in 10^-6 bits, and `up` at its last update (R186). -/
structure Credit where
  val : Int
  at_ : Nat
deriving DecidableEq, Repr

/-- What an external port put on the wire last: the bytes without MACsec protection, the SA that protects them,
and whether the stomp code stands in place of the FCS (R156). -/
structure Wire where
  bytes : List Nat
  /-- The bytes of POINT 1 (R198). -/
  body : List Nat
  an : Option Nat
  stomped : Bool
deriving DecidableEq, Repr

/-- A delivery receipt that waits (R194). -/
structure Receipt where
  sendQ : Nat
  attempted : List Nat
  delivered : List Nat
  wb : Waybill
deriving DecidableEq, Repr

/-- An outrider sample (R198, R199): its destination, sampler class, bytes, waybill; the frame it was taken of and
at which port; whether that frame's tail has been checked; BAD; and whether it waits for a descriptor. -/
structure Sample where
  dest : Nat
  cls : Nat
  bytes : List Nat
  wb : Waybill
  frame : Nat
  port : Option Nat
  ready : Bool
  bad : Bool
  waiting : Bool
deriving DecidableEq, Repr

/-- A MACsec SA (R220–R223, R403): the key with its salt as a byte string, the next or lowest PN, the short SCI, and
the strongbox slot that it was installed from. -/
structure MsecSa where
  key : List Nat
  pn : Nat
  ssci : Nat
  slot : Nat
deriving DecidableEq, Repr

structure FabSt where
  /-- Handle of the next frame: the model's own. -/
  next : Nat
  frames : List Frame
  /-- Flow sequence counters (R110): of streams, and of pairs 8 p + class. -/
  fseqStream : List (Nat × Nat)
  fseqPort : List (Nat × Nat)
  /-- Fabric sequence counters and expected numbers + 1 (0 = none), by flow key (R187, R191). -/
  seq : List (Nat × Nat)
  expect : List (Nat × Nat)
  held : List HeldCell
  gaps : List GapTimer
  /-- Flows whose next frame carries RESEQ_GAP (R189). -/
  gapNext : List Nat
  /-- The plane next in turn at each ingress port (R130), and planes in self-test (R131). -/
  turn : List (Nat × Nat)
  selfTest : List Nat
  /-- The three banks: words by offset in the shadow window (R159, R166). -/
  banks : List (Nat × List (Nat × Word))
  /-- The bank in SYNC (R161), the mode of a waiting flip (R162) and the ticks of the drain timeout (R164). -/
  sync : Option Nat
  flip : Option Nat
  /-- A flip at the tick took effect within 2 ns before its tick (R161, R164). -/
  flipEarly : Bool
  drainTicks : Nat
  meters : List (Nat × Meter)
  frerGen : List (Nat × Nat)
  frer : List (Nat × FrerRec)
  /-- Present list entry of each stream gate (R148). -/
  sgate : List (Nat × Nat)
  credit : List (Nat × Credit)
  wire : List (Nat × Wire)
  /-- ACF sequence numbers by stream_id (R135). -/
  acfSeq : List (Nat × Nat)
  receipts : List Receipt
  /-- Round-robin position of R173, by 8 c + class. -/
  rr : List (Nat × Nat)
  /-- What is left of the budgets of endpoint queues (R174, R180): the register shows the low 24 bits. -/
  budget : List (Nat × Int)
  /-- Queues with a completion that no doorbell has followed (R182). -/
  donePend : List Nat
  /-- Counters of the samplers, by 8 p + class (R197): the register shows the low 16 bits. -/
  count : List (Nat × Nat)
  /-- LFSRs of the samplers by port (R197), samples, and samples delivered in this stage by destination. -/
  lfsr : List (Nat × Nat)
  samples : List Sample
  sent : List (Nat × Nat)
  /-- `up` at the start of the arm window of the tow mirror (R205). -/
  towArm : Nat
deriving DecidableEq, Repr

def FrerRec.reset : FrerRec := { hist := [], last := 0, takeAny := true, at_ := 0 }

/-- The fabric after power-on, device reset and Beyvo reset (R110, R191). -/
def FabSt.reset : FabSt :=
  { next := 0, frames := [], fseqStream := [], fseqPort := [], seq := [], expect := [], held := [], gaps := [],
    gapNext := [], turn := [], selfTest := [], banks := [], sync := none, flip := none, flipEarly := false, drainTicks := 0,
    meters := [], frerGen := [], frer := [], sgate := [], credit := [], wire := [], acfSeq := [], receipts := [],
    rr := [], budget := [], donePend := [], count := [], lfsr := [], samples := [], sent := [], towArm := 0 }

/-! ### Siding (spec/09) -/

/-- What a wake source is set to (R244, R250–R252): its MODE and FILT, and for a CAN port the registers of its wake-up
frame pattern. -/
structure WakeCfg where
  mode : Nat
  filt : Nat
  wuf : Nat
  id : Nat
  mask : Nat
  data : Nat
  dmask : Nat
deriving DecidableEq, Repr

/-- A wake that the device drives onto a bus (R248). -/
inductive WakeDrive where
  | canPattern | linPulse | tc10 | idle
deriving DecidableEq, Repr

/-- SID_CONFIRM_MS, SID_FW_CFG and SID_FS_CFG as the always-on domain and the transceivers hold them while the Beyvo die is
down or has not yet applied its SIDING section (R255, R256, R258, R259). -/
structure SidKept where
  confirm : Nat
  fw : Nat
  fs : Nat
deriving DecidableEq, Repr

structure SidSt where
  /-- The state a port in WAKING will enter: 1 = IGNORE, else ACTIVE (R240). -/
  want : List (Nat × Nat)
  /-- Requests that wait for the tick: REQ + 1 by port (R240). -/
  atTick : List (Nat × Nat)
  /-- The state, plus 1, that a port which went ASLEEP in this PRE_SLEEP held before it (R246). -/
  before : List (Nat × Nat)
  /-- Ports whose sleep action runs (R243). -/
  acting : List Nat
  /-- Sources of a confirmation window: `up` at its opening, plus 1, and frames counted in it (R255). -/
  confAt : List (Nat × Nat)
  confN : List (Nat × Nat)
  /-- `up`, plus 1, since when a CAN or LIN transceiver stands in standby (R259). -/
  standby : List (Nat × Nat)
  /-- Ports whose transceiver fell to sleep while the siding controller did not run (R259). -/
  fsPend : List Nat
  /-- Late wakes in order: source and cause (R247). -/
  late : List (Nat × Nat)
  /-- A wake since the last entry into a sleep state has been recorded (R254). -/
  noted : Bool
  /-- The 10 ns cycle, plus 1, in which the recorded source detected its wake (R254). -/
  notedAt : Nat
  /-- The always-on copy of the armed sources, with their filters and wake-up frame patterns (R244). -/
  armed : List (Nat × WakeCfg)
  /-- The frame error counter of a wake-up frame decoder, by source (R251). -/
  frameErr : List (Nat × Nat)
  /-- The always-on copy of the ports on which the exit drives a wake, and which (R247). -/
  peers : List (Nat × WakeDrive)
  /-- The wakes driven since the last exit or abort, by port (R248). -/
  driven : List (Nat × WakeDrive)
  /-- `up` at the end of a lockout (R256), as the always-on second count gives it, by source; 0 = none. -/
  lockEnd : List (Nat × Nat)
  /-- The sleep state the module is in: 0 = none, 1 = SENTINEL, 2 = PARKED (R242). -/
  asleep : Nat
  /-- PWRM_WAKE_TMR as copied into the always-on domain at COMMIT (R435). -/
  timer : Nat
  /-- `up` at the start of PRE_SLEEP, then at ENTRY (R242, R436). -/
  enteredAt : Nat
  /-- The sleep state that a brown-out has interrupted; 0 = none (R439). -/
  cut : Nat
  kept : SidKept
deriving DecidableEq, Repr

def SidSt.reset : SidSt :=
  { want := [], atTick := [], before := [], acting := [], confAt := [], confN := [], standby := [], fsPend := [],
    late := [], noted := false, notedAt := 0, armed := [], frameErr := [], peers := [], driven := [], lockEnd := [], asleep := 0,
    timer := 0, enteredAt := 0, cut := 0, kept := { confirm := 0, fw := 0, fs := 0 } }

/-! ### Tandem pairs (spec/14) -/

structure TanSt where
  /-- Cycles that the leader of a pair has executed since the last capture up to its last stop, and the cycle since which it
  executes (R357). -/
  foldAcc : List (Nat × Nat)
  foldSince : List (Nat × Nat)
  /-- Pairs held in reset until their re-measurement ends (R356), and `up`, plus 1, at their last reset (R362). -/
  held : List Nat
  resetAt : List (Nat × Nat)
  /-- Both CRCs of a fold that has been captured and not yet compared, by pair (R357, R358). -/
  fold : List (Nat × Nat × Nat)
  /-- Pairs whose leader's next bus request, next fold or next self-test TAN_INJ falsifies (R364). -/
  injBound : List Nat
  injFold : List Nat
  injSelf : List Nat
  /-- The timetable entry at whose window's end the deferred reset of a pair takes place (R359), and `up`, plus 1, at the
  mismatch that deferred it (R362, R444). -/
  latent : List (Nat × Nat)
  latentAt : List (Nat × Nat)
  /-- Pairs that are DEGRADED until the next device reset (R361). -/
  degraded : List Nat
deriving DecidableEq, Repr

def TanSt.reset : TanSt :=
  { foldAcc := [], foldSince := [], held := [], resetAt := [], fold := [], injBound := [], injFold := [], injSelf := [], latent := [], latentAt := [], degraded := [] }

/-! ### Tally counters (spec/20) -/

structure TalSt where
  /-- Bytes of the present bandwidth window, by port (R466), its latch points and the device time of its start. -/
  bwIn : List (Nat × Nat)
  bwOut : List (Nat × Nat)
  bwPoints : Nat
  bwStart : Nat
  /-- Conditions that held when time last passed, for EDGE (R459): 64 times the event plus the port or core. -/
  asserted : List Nat
  /-- Occurrences counted towards the next sample, by core, and the cores whose stop at a full buffer has been posted
  (R463, R465). -/
  smp : List (Nat × Nat)
  smpFull : List Nat
  /-- The cycle, plus 2, of the counter's clock in which each counter, by its control register, last saw its event, and in which
  it was last written (R459, R460). -/
  pulse : List (Nat × Nat)
  wrote : List (Nat × Nat)
deriving DecidableEq, Repr

def TalSt.reset : TalSt :=
  { bwIn := [], bwOut := [], bwPoints := 0, bwStart := 0, asserted := [], smp := [], smpFull := [], pulse := [], wrote := [] }

/-! ### Ports (spec/08) -/

/-- A loaded CAN transmit buffer (R227): the frame's handle, its worst-case duration in ns, and failed attempts. -/
structure CanBuf where
  frame : Nat
  dur : Nat
  attempts : Nat
deriving DecidableEq, Repr

/-- A LIN publish buffer (R232): its bytes, and whether it has been replaced since its identifier was last sent. -/
structure LinPub where
  data : List Nat
  fresh : Bool
deriving DecidableEq, Repr

/-- A LIN frame on the bus: its identifier, entry type (0 for a responder), time-stamp of the break in 1/256 ns,
whether this port sends the response, and whether it is the go-to-sleep frame of R243. -/
structure LinNow where
  id : Nat
  type : Nat
  ts256 : Nat
  pub : Bool
  gts : Bool
  /-- The bytes of the response that this port sends (R231, R243). -/
  resp : List Nat := []
  /-- The siding state of the port as the frame began (R240). -/
  st : Nat := 0
deriving DecidableEq, Repr

structure PortSt where
  /-- Training failures in a row, the rate code in training, and the last rate in use, of T10 ports (R215). -/
  fails : List (Nat × Nat)
  /-- T10 ports that stay at 2.5 Gb/s after a crank limit until LINK_RESTART (R216). -/
  crankHeld : List Nat
  tryRate : List (Nat × Nat)
  lastRate : List (Nat × Nat)
  canBuf : List (Nat × List CanBuf)
  /-- CAN ports whose bus-off recovery runs (R228). -/
  recovering : List Nat
  /-- Publish buffers that have received a carriage since seal, by 64 p + i (R232). -/
  linPub : List (Nat × LinPub)
  /-- Slots left of the current entry, plus 1 (0 = the schedule has not begun), and ports with a deferred header
  (R233, R234). -/
  linLeft : List (Nat × Nat)
  linDue : List Nat
  linNow : List (Nat × LinNow)
  /-- The siding states that a port has left, and the device time of each change in 1/256 ns, newest first: a frame under way
  ends in the state it began in (R240). -/
  sidWas : List (Nat × Nat × Nat)
deriving DecidableEq, Repr

def PortSt.reset : PortSt :=
  { fails := [], crankHeld := [], tryRate := [], lastRate := [], canBuf := [], recovering := [], linPub := [], linLeft := [],
    linDue := [], linNow := [], sidWas := [] }

/-! ### The strongbox (spec/15) -/

/-- A key and its attributes (R366): TYPE, USAGE, OWNER, EXPIRY, flags and LEN at their places in SBX_SLOTs_ATTR; uses
left; the slot it was derived from; its material; its nonce salt (R371). -/
structure SbKey where
  attr : Nat
  use : Nat
  parent : Option Nat
  key : List Nat
  salt : List Nat
deriving DecidableEq, Repr

/-- A slot (R366): its key, GEN, STATE, the shadow with the result of VERIFY_STAGED (R372), and the lane whose command
is the use that took USE to 0, while it runs (R367). -/
structure SbSlot where
  k : SbKey
  gen : Nat
  state : Nat
  shadow : Option (SbKey × Bool)
  last : Option Nat
deriving DecidableEq, Repr

def SbKey.none : SbKey := { attr := 0, use := 0, parent := Option.none, key := [], salt := [] }

def SbSlot.empty : SbSlot := { k := SbKey.none, gen := 0, state := 0, shadow := none, last := none }

structure SbxSt where
  /-- Addresses of the descriptors that wait, oldest first (R385). -/
  queue : List Nat
  slots : List (Nat × SbSlot)
  /-- The odometers' records in flash and their blown fuses (R382, R383). -/
  odo : List (Nat × Nat)
  fuses : List (Nat × Nat)
  /-- The odometer records of the two store copies, oldest first: odometer and value; and the copy that takes the next
  (R414, R471). -/
  store : List (Nat × List (Nat × Nat))
  storeNext : Nat
  /-- The persistent image and the value of odometer 15 that it is bound to (R369). -/
  image : List (Nat × SbSlot)
  imageOdo : Nat
  /-- The image of the other store copy with its odometer value, none where that copy holds none; the copy that takes the next
  image; `up`, plus 1, at the last write of an image (R414). -/
  imageOld : Option (List (Nat × SbSlot) × Nat)
  imageNext : Nat
  imageAt : Nat
  /-- The sleep image, and whether the Heavia die holds its token (R369). -/
  sleepImage : List (Nat × SbSlot)
  token : Bool
  /-- Words that the CTR_DRBG has given (R381). -/
  drbg : Nat
  /-- RANDOM, GENERATE and KEM_ENC are refused until a reseed passes (R381). -/
  refused : Bool
deriving DecidableEq, Repr

def SbxSt.reset : SbxSt :=
  { queue := [], slots := [], odo := [], fuses := [], store := [], storeNext := 0, image := [], imageOdo := 0, imageOld := none, imageNext := 0, imageAt := 0,
    sleepImage := [], token := false,
    drbg := 0, refused := false }

/-! ### The cipher engine (spec/16) -/

/-- A temporary key register that is loaded (R394). -/
structure TempKey where
  type : Nat
  owner : Nat
  key : List Nat
  prov : Bool
deriving DecidableEq, Repr

/-- Why a running command waits: for a block of counter values (R396), for room in its destination queue (R389), or for
its revocation, before the purge instant and after it (R399). -/
inductive CeWait where
  | nonce | output | purge | notice
deriving DecidableEq, Repr

/-- A command as its descriptor gives it (R390); `w1` also holds the fields of the MACsec operations. -/
structure CeCmd where
  op : Nat
  alg : Nat
  owner : Nat
  key : Nat
  tkr : Bool
  pad : Bool
  w1 : Nat
  addr : Nat
  len : Nat
  aad : Nat
  iv : List Nat
deriving DecidableEq, Repr

/-- A command that runs on a lane and waits. -/
structure CeRun where
  desc : Nat
  cmd : CeCmd
  why : CeWait
  /-- The strongbox slot whose key it took, its generation, and whether the key has been revoked since (R374, R375). -/
  slot : Option Nat
  key : List Nat
  salt : List Nat
  gen : Nat
  revoked : Bool
  /-- Output not yet delivered: the bytes of each chunk, and whether it carries PROVISIONAL (R388, R398). -/
  chunks : List (List Nat × Bool)
  /-- The output lies in escrow until the tag has been checked (R397). -/
  escrow : Bool
  /-- A provisional message, and whether its tag matches (R398). -/
  prov : Bool
  tagOk : Bool
  /-- STATUS at the normal end. -/
  status : Nat
  nonce : List Nat
  result : List Nat
  /-- Delivered chunks: the HEAD counts of their descriptors, their bytes in all, and of the first one the TAG and the
  waybill words. For the chunks whose queue has been cleared since (R183), `was` says which were consumed. -/
  was : List Bool
  sent : List Nat
  /-- Chunks released, the frame of the first one, and the frames of those that still cross the fabric (R388, R399). -/
  released : Nat
  first : Option Nat
  out : List Nat
  outLen : Nat
  firstTag : Nat
  firstWb : List Nat
  /-- SEG_CONS, DESC_CONS and purged chunks at the purge instant. -/
  segCons : Nat
  descCons : Nat
  purged : Nat
  /-- The queue has been cleared since the purge instant: the revoke notice is dropped with it (R183, R399). -/
  noNotice : Bool
  /-- `up` since when the lane has been unable to deliver. -/
  since : Nat
deriving DecidableEq, Repr

/-- A lane: waiting descriptors (R387), the running command, counter values [ctr, ctrEnd) of its present block, the
next block when reserved, and whether a reservation is in progress (R396). -/
structure Lane where
  queue : List Nat
  run : Option CeRun
  ctr : Nat
  ctrEnd : Nat
  spare : Option Nat
  want : Bool
deriving DecidableEq, Repr

def Lane.reset : Lane := { queue := [], run := none, ctr := 0, ctrEnd := 0, spare := none, want := false }

structure CeSt where
  lanes : List (Nat × Lane)
  /-- CE_KEYIN0–15 (R394). -/
  keyin : List (Nat × Nat)
  /-- Temporary key registers by 16 l + r. -/
  temp : List (Nat × TempKey)
  /-- Lanes in self-test (R402). -/
  testing : List Nat
deriving DecidableEq, Repr

def CeSt.reset : CeSt := { lanes := [], keyin := [], temp := [], testing := [] }

/-! ### Start-up and the debug port (spec/17) -/

/-- Where the start-up stands: the Beyvo die is off; the boot ROM runs and has not begun step 4 of R417; an image is
applied; sealed; boot hold (R421). -/
inductive BootPhase where
  | off | rom | applied | sealed | hold
deriving DecidableEq, Repr

/-- A flash command that runs (R416): the bytes that it gives the flash from an address on; none to erase the sector. -/
structure FlashCmd where
  addr : Nat
  data : Option (List Nat)
deriving DecidableEq, Repr

structure BootSt where
  phase : BootPhase
  /-- `up` at the release of Beyvo reset, at the instant from which the boot timer has run without a pause (R421), and at
  seal. -/
  releasedAt : Nat
  timerFrom : Nat
  sealedAt : Nat
  /-- ROLLBACK of the booted image, and the last blowing of fuses: the old number and `up` at its begin (R415). -/
  rollback : Nat
  blow : Option (Nat × Nat)
  /-- Bytes of the service image received in order, and whether a DATA frame has come (R424). -/
  received : Nat
  answered : Bool
  /-- `up` at the last HELLO. -/
  helloAt : Option Nat
  /-- Certificate bytes of the CERT frames so far, and a certificate that came after step 4 and waits (R425). -/
  cert : List Nat
  lateCert : Option (List Nat)
  /-- What CERT_STS returns (R426). -/
  certSts : Nat
  /-- The last frame that the device sent on T100-0 for service boot or debug, without its FCS (R424). -/
  sent : List Nat
  /-- Records that wait in the boot ROM for SYS_READY bit 18 (R417). -/
  recs : List Rec
  /-- ENTRYk of the Guard image, by core (R412). -/
  entry : List (Nat × Nat)
  /-- The last error of R427. -/
  lastErr : Nat
  flash : Option FlashCmd
deriving DecidableEq, Repr

def BootSt.reset : BootSt :=
  { phase := .off, releasedAt := 0, timerFrom := 0, sealedAt := 0, rollback := 0, blow := none, received := 0, answered := false,
    helloAt := none, cert := [],
    lateCert := none, certSts := 0, sent := [], recs := [], entry := [], lastErr := 0, flash := none }

structure DbgSt where
  /-- No access word has come since the last grant (R428). -/
  first : Bool
  /-- Cores that are halted by debug. -/
  halted : List Nat
  /-- The last response word, 16 bytes (R426). -/
  response : List Nat
deriving DecidableEq, Repr

def DbgSt.reset : DbgSt := { first := false, halted := [], response := [] }

/-! ### The parts right after power-on reset -/

def LogSt.reset : LogSt :=
  { queue := [], dropped := 0, ovwPosted := false, stage := [], aoMinSev := 2, aoQueue := [], ao := [], aoNew := [] }

def FrmSt.reset : FrmSt :=
  { beyvoUp := false, bootLow := true, bootHold := false, tamperHold := false, devReset := none, bvReset := none,
    coachReset := [], inReset := [], held := [], escal := [], dsPolicy := [], resetNLow := false,
    noWait := [], startWait := none, meshDue := false, lockedOut := false }

def WorldSt.reset : WorldSt :=
  { glimit := [], result := [], saved := [], exc := [], edit := none, quiesceAt := none,
    quiesced := false, notQuiesced := false, active := [], dispatch := [], running := [], waiting := [] }

def StgSt.reset : StgSt :=
  { nextTick := 0, lastTick := none, stepped := 0, wins := [], outHigh := false, gates := [], quiet := [],
    realigned := false, chanLatch := [], lioLatch := [], latchFlags := 0 }

/-- The device time reads 0 and starts 20 ms after VBAT_L is valid (R68). -/
def TimSt.reset : TimSt :=
  { mode := .stopped, dev := 0, rem := 0, baseDev := 0, baseUp := 0, startIn := 20000000, lockUp := 0, good := 0,
    bad := 0, series := none, held := none, domGm := [], latched := [], pdFails := [], lockFreq := 0, drift := 0, ann := [],
    ratio := [] }

def TtaSt.reset : TtaSt := { last := [], slots := [], passed := [], tout := 0, pulse := [], tcap := [] }

def HeaviaSt.reset : HeaviaSt :=
  { locked := false, cwStart := 0, cwWrong := 0, cwGood := 0, cwMissed := false, dsRelease := false, coastAt := 0, cadAt := [],
    budOver := [], budExh := [], budBelow := false, budRelMs := 0, retained := [], retainedAt := none,
    blockErr := 0, laneErr := [], linkLost := false, ovAt := 0, cadNext := [], periodNs := 0, linLow := false }

end Sys2Proof.Machine
end

