-- ==== Sys2Proof/Machine/State.lean ====
section
/-! DEFINITION. The state of the block: its registers, the parts of Parts.lean, its memory, and the queue of
waiting commands; why a step can stop; and the state right after power-on reset. -/

namespace Sys2Proof.Machine

/-- The reasons a meaning can stop. -/
inductive Fault where
  /-- Raised by a meaning whose operand names a resource that the device does not have (channel 40, core 12, a
  doorbell of queue 600). Safe: the spec gives such a command no meaning, and nothing can be proved of it. -/
  | noSuchResource
deriving DecidableEq, Repr

/-- The reasons a command is refused. -/
inductive Refusal where
  /-- A command whose meaning is not written yet. Safe: nothing can be proved of it. -/
  | notModelled (mnemonic : String)
deriving DecidableEq, Repr

/-- What the last access returned to its core or bus master: the data, and whether it ended in a bus error. -/
structure Bus where
  data : Nat
  err : Bool
deriving DecidableEq, Repr

/-- The block without its memory and its queue. -/
structure Dev where
  /-- The registers that differ from their reset value, by address (`resetWord`). -/
  regs : List (Nat × Word)
  /-- Nanoseconds since the first power-on, by the commands' `dt`. -/
  up : Nat
  /-- How many free values have been drawn: the model's own field (assumption 3). -/
  drawn : Nat
  /-- What the last access returned. -/
  bus : Bus
  /-- Endpoint queues (64 c + n) that a reset of their owner cleared and whose doorbell has not rung since (R183). -/
  dead : List Nat
  log : LogSt
  frm : FrmSt
  wld : WorldSt
  stg : StgSt
  tim : TimSt
  tta : TtaSt
  chans : List (Nat × Chan)
  hv : HeaviaSt
  lios : List (Nat × Lio)
  fab : FabSt
  /-- MACsec SAs (R220): transmit SA a of port p at 64 p + a, receive SA a of SC s at 64 p + 8 + 4 s + a. -/
  msec : List (Nat × MsecSa)
  sid : SidSt
  prt : PortSt
  tan : TanSt
  sbx : SbxSt
  ce : CeSt
  boot : BootSt
  dbg : DbgSt
  tal : TalSt
deriving DecidableEq, Repr

/-- The state of the block. -/
structure State where
  dev : Dev
  /-- Memory: SRAM, flash and DRAM bytes that differ from `memByte`, by address. -/
  mem : List Host.Cell
  /-- The commands that wait, first in, first out. -/
  pending : List Instr
deriving DecidableEq, Repr

/-- The first word of a profile slot (R284). -/
def profW0 (slewOn slewOff soft last fine blank : Nat) : Nat :=
  slewOn + 4 * slewOff + 48 * soft + 64 * last + 512 * fine + 65536 * blank

/-- A profile slot: W0, the open-load threshold and filter, the segments (TIME, MULT), the steady multiple. -/
def profWords (w0 olThr olFilt : Nat) (segs : List (Nat × Nat)) (steady : Nat) : List Nat :=
  [w0, olThr + 65536 * olFilt] ++ ((List.range 8).map fun j =>
    let s := segs.getD j (0, 0)
    s.1 + 2 ^ 24 * s.2) ++ [steady]

/-- The factory profiles (R285): lamp, LED driver, heater, motor, valve, capacitive. -/
def factoryProfile : Nat → List Nat
  | 0 => profWords (profW0 2 2 0 3 0 50000) 5000 10 [(2000, 96), (10000, 64), (50000, 32), (200000, 16)] 12
  | 1 => profWords (profW0 1 1 0 1 1 10000) 500 10 [(1000, 32), (10000, 16)] 12
  | 2 => profWords (profW0 0 0 0 0 0 50000) 10000 50 [(100000, 16)] 10
  | 3 => profWords (profW0 1 1 0 1 0 65535) 10000 100 [(200000, 48), (2000000, 24)] 12
  | 4 => profWords (profW0 2 2 0 0 0 20000) 2000 20 [(5000, 12)] 10
  | 5 => profWords (profW0 0 0 1 1 0 10000) 2000 10 [(1000, 80), (5000, 32)] 12
  | _ => []

/-- The non-zero entries of the Reset columns (R15): owner fields read 0xF until the consist sets them, and
the registers whose table gives another value, timetable entry 0 (R42) and the factory profiles (R285). -/
def resetWord (a : Nat) : Word :=
  if a / 0x10000 = 0x4041 then
    (if a = R.STG_TT_LEN 0 then 6000
     else if a = R.STG_TT_CTL 0 then 0x80000093
     else if R.STG_TT_CTL 1 ≤ a ∧ a < R.STG_TT_CTL 256 ∧ a % 16 = R.STG_TT_CTL 0 % 16 then 0xF0
     else 0)
  else if a / 0x10000 = 0x4040 then (if a = R.TIME_STS then 0x20 else 0)
  else if a / 0x10000 = 0x4042 then
    (if 0x40421000 ≤ a ∧ a < 0x40421800 ∧ a % 0x20 = 0 then 0xF0000000
     else if R.TTA_TOUT_CFG 0 ≤ a ∧ a < R.TTA_TOUT_CFG 8 then 0xF
     else if R.TTA_TCAP_CFG 0 ≤ a ∧ a < R.TTA_TCAP_CFG 8 ∧ a % 0x10 = 0 then 0xF else 0)
  else if a / 0x100000 = 0x405 then
    (if 0x40500000 ≤ a ∧ a < 0x40524000 ∧ a % 0x1000 = 0 then 0xF else 0)
  else if a / 0x10000 = 0x4081 then
    (if a < 0x40812800 ∧ a % 0x100 = 0 then 0xF
     else if R.CHAN_PROF_W 0 0 ≤ a ∧ a < R.CHAN_PROF_W 6 0 ∧ a % 4 = 0 then
       BitVec.ofNat 32 ((factoryProfile ((a - R.CHAN_PROF_W 0 0) / 0x40)).getD (a % 0x40 / 4) 0)
     else 0)
  else if a / 0x10000 = 0x4082 then (if a < 0x40820800 ∧ a % 0x40 = 0 then 0xF else 0)
  else if a / 0x10000 = 0x4005 then
    (if a < 0x40050800 ∧ a % 4 = 0 then 0xF
     else if a < 0x40050840 ∧ a % 4 = 0 then 0xFFFFFFFF
     else if 0x40051000 ≤ a ∧ a < 0x4005D000 then
       (if a % 0x800 = 0 then 0x3FF else if a % 0x800 = 8 then 32 else if a % 0x800 = 0xC then 32 else 0)
     else 0)
  else if a / 0x10000 = 0x4004 then
    (if R.MAN_CORE_CFG 0 ≤ a ∧ a < R.MAN_CORE_CFG 12 ∧ a % 4 = 0 then 0xF else 0)
  else if a / 0x8000000 = 9 then (if a % 0x1000 = 0x2C ∧ a % 0x100000 < 0x40000 then 1 else 0)
  else if a / 0x10000 = 0x4001 then
    (if a = R.FRM_CFG then 2 else if R.FRM_COACH_CFG 0 ≤ a ∧ a < R.FRM_COACH_CFG 8 ∧ a % 4 = 0 then 0x11 else 0)
  else if a / 0x10000 = 0x4002 then
    (if a = R.PWRM_MIN_TOL then 0xFFFFFFFF
     else if 0x40027000 ≤ a ∧ a % 0x1000 = 4 then 0xFFFFFFFF else 0)
  else if a = R.FAB_MODE then 0x21
  else if a = R.FAB_STS then 3
  else if a = R.FAB_BUF_FREE then 98304
  else if a = R.FAB_BUF_LOW then 98304
  else if a = R.LKP_STS then 0x3100
  else if a = R.HLK_STS then 0x1F
  else if a = R.CE_STS then 0xF
  else if a = R.LOGB_AO_STS then 0x2000
  else if a = R.TOW_CFG then 0xF
  else if a = R.TOW_L_ID then 0x5120
  else if a = R.SYS_ID then (if Config.gradeE0 then 0x19640 else 0x9640)
  else 0

/-- What a byte of memory reads as that no entry lists: the manifest's fixed and unnamed entries as the boot ROM
fills them (R119, R331, R332, R494; assumption 6), and 0 everywhere else (assumption 5). -/
def memByte (a : Nat) : Byte :=
  if 0x11560000 ≤ a ∧ a < 0x115EA000 then
    let i := (a - 0x11560000) / 4
    let e : Nat :=
      if 0x1560 ≤ i ∧ i < 0x15EA then 0x80000039
      else if 0x15EA ≤ i ∧ i < 0x1600 then 0x80000009
      else if 0x1600 ≤ i ∧ i < 0x1800 then 0x80000039
      else 0x8000000F
    BitVec.ofNat 8 (e / 2 ^ (8 * (a % 4)))
  else 0

/-- The record of the start of the Beyvo die (R452), which waits to be written to the always-on log at reset. -/
def resetRec : Rec :=
  { time := 0, frac := 0, block := 2, owner := 9, sev := 0, flags := 3, code := 1, inst := 0, data := [], down := true }

/-- The block without memory and queue, right after power-on reset with both dice supplied and BOOTSEL 00 (R417, R450):
the Beyvo die has come up, and the boot ROM runs with its memory already tested. -/
def Dev.reset : Dev :=
  { regs := [(R.SYS_READY, 3), (R.TAN_PAIR_STS 0, 1), (R.TAN_PAIR_STS 1, 1), (R.TAN_PAIR_STS 2, 1), (R.TAN_PAIR_STS 3, 1)]
    up := 0
    drawn := 0
    bus := ⟨0, false⟩
    dead := []
    log := { LogSt.reset with aoQueue := [resetRec] }
    frm := { FrmSt.reset with beyvoUp := true }
    wld := WorldSt.reset
    stg := StgSt.reset
    tim := TimSt.reset
    tta := TtaSt.reset
    chans := []
    hv := HeaviaSt.reset
    lios := []
    fab := FabSt.reset
    msec := []
    sid := SidSt.reset
    prt := PortSt.reset
    tan := { TanSt.reset with foldSince := [(0, 0)] }
    sbx := SbxSt.reset
    ce := CeSt.reset
    boot := { BootSt.reset with phase := .rom }
    dbg := DbgSt.reset
    tal := TalSt.reset }

/-- The machine right after reset: memory lists nothing and no command waits. -/
def State.reset : State := { dev := Dev.reset, mem := [], pending := [] }

end Sys2Proof.Machine
end

