-- ==== Sys2Proof/Machine/Ops.lean ====
section
/-! DEFINITION. The operations that the whole block shares: registers and fields, device time, interrupts,
logbook records, faults, and the check of an access against the manifest. -/

namespace Sys2Proof.Machine

open R

/-- A SHA-384 digest as 48 bytes. -/
def shaBytes (l : List Nat) : List Nat := beBytes 48 (Config.sha384 l)

/-! ### Registers and fields -/

/-- The value a register holds. -/
def Dev.reg (d : Dev) (a : Nat) : Word := tget (resetWord a) d.regs a

/-- The value a register holds, as a number. -/
def Dev.rn (d : Dev) (a : Nat) : Nat := (d.reg a).toNat

/-- A register with a new value. -/
def Dev.wr (d : Dev) (a v : Nat) : Dev :=
  { d with regs := tset (resetWord a) (BitVec.ofNat 32 v) a d.regs }

/-- The value of a field. -/
def Dev.fld (d : Dev) (f : Fld) : Nat := bits f.hi f.lo (d.rn f.addr)

/-- A one-bit field as a truth value. -/
def Dev.on (d : Dev) (f : Fld) : Bool := d.fld f == 1

/-- A field with a new value, the register's other bits kept. -/
def Dev.put (d : Dev) (f : Fld) (v : Nat) : Dev := d.wr f.addr (putBits f.hi f.lo (d.rn f.addr) v)

/-- A field set to all ones. -/
def Dev.set (d : Dev) (f : Fld) : Dev := d.put f (2 ^ (f.hi + 1 - f.lo) - 1)

/-- A field set to 0. -/
def Dev.clr (d : Dev) (f : Fld) : Dev := d.put f 0

/-- A 32-bit counter incremented, wrapping to 0. -/
def Dev.bump (d : Dev) (a : Nat) : Dev := d.wr a (d.rn a + 1)

/-- A field incremented, wrapping to 0. -/
def Dev.bumpF (d : Dev) (f : Fld) : Dev := d.put f (d.fld f + 1)

/-- A 64-bit register pair. -/
def Dev.pair (d : Dev) (lo hi : Nat) : Nat := d.rn lo + 2 ^ 32 * d.rn hi

/-- A 64-bit register pair with a new value. -/
def Dev.wrPair (d : Dev) (lo hi v : Nat) : Dev := (d.wr lo v).wr hi (v / 2 ^ 32)

/-- `f` applied where `c` holds. -/
def Dev.when (d : Dev) (c : Bool) (f : Dev → Dev) : Dev := if c then f d else d

/-- `f` applied for every element of a list, in order. -/
def Dev.each {α : Type} (d : Dev) (l : List α) (f : α → Dev → Dev) : Dev := l.foldl (fun d x => f x d) d

/-- A free value of `w` bits (assumption 3), drawn afresh. -/
def Dev.fresh (d : Dev) (w : Nat) : Nat × Dev :=
  ((Config.freeBits w d.drawn).toNat, { d with drawn := d.drawn + 1 })

/-- The value an access returns. -/
def Dev.returns (d : Dev) (v : Nat) : Dev := { d with bus := { data := v, err := false } }

/-- An access that ends in a bus error. -/
def Dev.busError (d : Dev) : Dev := { d with bus := { data := 0, err := true } }

/-! ### Running a command -/

/-- A SYS_READY bit sets, with its time (R408). -/
def Dev.ready (d : Dev) (n : Nat) : Dev :=
  if bit n (d.rn SYS_READY) then d
  else (d.set ⟨SYS_READY, n, n⟩).wr (SYS_READY_T (if n = 31 then 20 else n)) ((d.up - d.boot.releasedAt) / 1000)

/-- One unit of the servo's rate: the device time's advance in `dt` ns at frequency word `f` (2.5 ppb units,
R67), in 10^-10 of 1/65,536 ns. -/
def servoStep (dt : Nat) (f : Int) : Nat :=
  (dt : Int) * 65536 * (10000000000 + 25 * f) |>.toNat

/-- Device time after `e` ns on the 32.768 kHz oscillator: whole cycles, each the nominal period less 20 ppm
(R82, R83). DESIGN CHOICE: the oscillator, which R82 allows an error of ±20 ppm, runs at its nominal frequency here
(assumption 74). -/
def heaviaAdvance (e : Nat) : Nat := e * 32768 / 1000000000 * 3051696764844 * 65536 / 100000000

/-- Time passes: `dt` ns, the device time under its mode (R67, R68, R82, R84). -/
def Dev.advance (d : Dev) (dt : Nat) : Dev :=
  let u := d.up + dt
  let t := d.tim
  match t.mode with
  | .stopped =>
    if dt < t.startIn then { d with up := u, tim := { t with startIn := t.startIn - dt } }
    else
      -- READY bit 6 of an image whose TIME section was applied before the start
      let started := d.boot.phase == .applied || d.boot.phase == .sealed
      let d : Dev := { d with up := d.up + t.startIn }
      let d := if started then d.ready 6 else d
      let dev := 65536 * (dt - t.startIn)
      { d with up := u, tim := { t with startIn := 0, mode := (if d.frm.beyvoUp then .servo else .heavia), dev := dev,
                                        baseDev := dev, baseUp := u } }
  | .servo =>
    let n := t.rem + servoStep dt (sgn 32 (d.rn TIME_FREQ) + t.drift)
    { d with up := u, tim := { t with dev := t.dev + n / 10000000000, rem := n % 10000000000 } }
  | .heavia => { d with up := u, tim := { t with dev := t.baseDev + heaviaAdvance (u - t.baseUp) } }
  | .frozen => { d with up := u }

/-! ### Memory -/

abbrev Mem := List Host.Cell

/-- The byte of memory at an address. -/
def Mem.byte (m : Mem) (a : Nat) : Byte := tget (memByte a) m a

/-- Memory with one byte written. -/
def Mem.setByte (m : Mem) (a : Nat) (b : Byte) : Mem := tset (memByte a) b a m

/-- The canonical form of memory. -/
def Mem.wf (m : Mem) : Bool := twf memByte m

/-- `n` bytes from an address on. -/
def Mem.bytes (m : Mem) (a : Nat) : Nat → List Nat
  | 0 => []
  | n + 1 => (Mem.byte m a).toNat :: Mem.bytes m (a + 1) n

/-- Memory with a byte string written from an address on. -/
def Mem.setBytes (m : Mem) (a : Nat) : List Nat → Mem
  | [] => m
  | b :: r => Mem.setBytes (Mem.setByte m a (BitVec.ofNat 8 b)) (a + 1) r

/-- The little-endian word at an address. -/
def Mem.word (m : Mem) (a : Nat) : Nat := leNat (Mem.bytes m a 4)

/-- Memory with a little-endian word written. -/
def Mem.setWord (m : Mem) (a v : Nat) : Mem := Mem.setBytes m a (leBytes 4 v)

/-- Memory with words written from an address on. -/
def Mem.setWords (m : Mem) (a : Nat) (ws : List Nat) : Mem := Mem.setBytes m a (ws.flatMap (leBytes 4))

/-- Memory with the listed entries of a range set to 0 (zeroise, R338, R339): a byte whose default is 0 loses its
entry, and no manifest byte lies in a range that a rule zeroises. -/
def Mem.zero (m : Mem) (a n : Nat) : Mem := m.filter (fun c => !(a ≤ c.1 && c.1 < a + n))

/-! ### Device time -/

/-- The device time in ns (R66). -/
def Dev.ns (d : Dev) : Nat := d.tim.dev / 65536

/-- The fraction of a time-stamp, 1/256 ns (R66). -/
def Dev.frac8 (d : Dev) : Nat := d.tim.dev / 256 % 256

/-- The Heavia die runs: RESET_N does not hold it in reset, and VBAT_L is not in lockout (R451, R439; assumption 43). -/
def Dev.hvRuns (d : Dev) : Bool := !d.frm.resetNLow && !d.frm.lockedOut

/-- `ns` nanoseconds have passed since `up` was `t`. -/
def Dev.passed (d : Dev) (t ns : Nat) : Bool := decide (t + ns ≤ d.up)

/-- The time of the domain that STG_CTL selects, in ns (R36, R70): device time for the primary domain, else device
time and the domain's offset. -/
def Dev.domNs (d : Dev) : Nat :=
  let k := d.fld STG_CTL_DOMAIN
  if k = d.fld TIME_CTL_PRIMARY then d.ns
  else ((d.ns : Int) + sgn 64 (d.pair (TIME_DOM_OFS_LO k) (TIME_DOM_OFS_HI k))).toNat

/-- A stage runs, and its instant `off` ns after the tick has come. -/
def Dev.inStage (d : Dev) (off : Nat) : Bool := d.stg.lastTick.any (fun t => decide (t + off ≤ d.domNs))

/-- Device time in units of 1/256 ns. -/
def Dev.ns256 (d : Dev) : Nat := d.tim.dev / 256

/-- The time is that which the Heavia die continues (R82, R116): not the frozen time of PARKED. -/
def Dev.heaviaTime (d : Dev) : Bool := d.tim.mode == .heavia

/-- A time-stamp taken now carries TIME_UNSYNC (R68, R74), and in tamper hold, where the time is lost (R31; assumption 66). -/
def Dev.unsync (d : Dev) : Bool :=
  d.tim.mode == .stopped || d.frm.tamperHold || d.fld TIME_STS_STATE == 0 || d.fld TIME_STS_STATE == 2

/-! ### Interrupts (R347–R350) -/

/-- A source event: the pending bit of the source at the local controller of its route (R348); a source without
a route is inert (R347). -/
def Dev.raise (d : Dev) (src : Nat) : Dev :=
  if d.fld (IRQ_ROUTE_OWNER src) = 15 then d
  else d.set ⟨IRQ_PEND (src / 32), src % 32, src % 32⟩

/-- A source event under its enable. -/
def Dev.raiseIf (d : Dev) (en : Fld) (src : Nat) : Dev := if d.on en then d.raise src else d

/-- The dispatch line of a core is raised: one pending dispatch per core and world (R47, R50). -/
def Dev.dispatch (d : Dev) (core : Nat) (guard : Bool) : Dev :=
  if d.wld.dispatch.contains (core, guard) then d
  else { d with wld := { d.wld with dispatch := d.wld.dispatch ++ [(core, guard)] } }

/-! ### Tally counters (R457–R462) -/

/-- Sub-unit `j` of unit `u` is clock-gated or powered off (R442). -/
def Dev.gated (d : Dev) (u j : Nat) : Bool := bit j (d.fld (CLK_GATE_GATED u)) || bit j (d.fld (PWRM_PGATE_GATED u))

/-- A record posted once per stage is put into the stage's list (R502), with the effects of `postOnce` below. -/
def Dev.stageAdd (d : Dev) (r : Rec) : Dev :=
  if d.log.stage.any (fun s => s.record.block == r.block && s.record.code == r.code && s.record.owner == r.owner
      && s.record.inst == r.inst) then d
  else { d with log := { d.log with stage := d.log.stage ++ [{ record := r, countAt := none }] } }

/-- One 48-bit counter counts `k` cycles of its event (R459, R460): `ctl` is its control register, which its two halves follow,
`ovf` its sticky bit. -/
def Dev.tallyAdd (d : Dev) (ctl ev k : Nat) (ovf : Fld) (src owner inst : Nat) : Dev :=
  let c := d.rn ctl
  if k = 0 ∨ !bit 0 c ∨ bits 15 8 c ≠ ev ∨ d.gated 5 0 then d
  else
    let v := d.pair (ctl + 4) (ctl + 8) + k
    let d := d.wrPair (ctl + 4) (ctl + 8) (v % 2 ^ 48)
    if v < 2 ^ 48 then d
    else
      let d := d.set ovf
      let d := if bit 5 c then d.raise src else d
      d.stageAdd
        { time := d.ns, frac := d.frac8, block := 0x08, owner := owner, sev := 0,
          flags := b2n d.unsync + 4 * b2n d.heaviaTime, code := 1, inst := inst, data := [] }

/-- The present cycle, plus 2, of a counter's clock (R457). -/
def Dev.tallyCycle (d : Dev) (ctl : Nat) : Nat := (if 0x40078000 ≤ ctl ∧ ctl < 0x4007C000 then 2 * d.up else d.up * 6 / 5) + 2

/-- One counter counts `k` occurrences of a pulse event, each of a cycle of its own. In EDGE one in the cycle after another
counts none; an event that adds does so in either mode (R459). An increment of the cycle of a write is lost (R460). -/
def Dev.tallyCount (d : Dev) (ctl ev k : Nat) (ovf : Fld) (src owner inst : Nat) (adds : Bool := false) : Dev :=
  if k = 0 ∨ !bit 0 (d.rn ctl) ∨ bits 15 8 (d.rn ctl) ≠ ev ∨ d.gated 5 0 then d
  else
    let now := d.tallyCycle ctl
    let last := tget 0 d.tal.pulse ctl
    let n := if bit 1 (d.rn ctl) || adds || (last + 1 < now) then k else k - 1
    let lost : Bool := tget 0 d.tal.wrote ctl == now
    let d : Dev := { d with tal := { d.tal with pulse := tset 0 now ctl d.tal.pulse } }
    if lost then d else d.tallyAdd ctl ev n ovf src owner inst

/-- An event of a fabric port (R462). -/
def Dev.tallyP (d : Dev) (p ev k : Nat) : Dev :=
  d.each [0, 1, 2, 3] (fun m d => d.tallyCount (TALLY_P_CTL p m) ev k
    ⟨TALLY_P_STS (p / 8), 4 * (p % 8) + m, 4 * (p % 8) + m⟩ 348 8 (0x200 + 4 * p + m))

/-- An event of the device (R462). -/
def Dev.tallyD (d : Dev) (ev k : Nat) : Dev :=
  d.each (List.range 16) (fun n d => d.tallyCount (TALLY_D_CTL n) ev k ⟨TALLY_D_STS, n, n⟩ 349 8 (0x100 + n) (ev == 0x86))

/-- The port is in use: enabled, and not inert for want of an owner (R18); an internal port always is. -/
def Dev.portUsed (d : Dev) (p : Nat) : Bool := 36 ≤ p || (d.on (PORT_CFG_EN p) && d.fld (PORT_CFG_OWNER p) != 0xF)

/-- Core `k` samples in its present world (R458, R463). -/
def Dev.smpOn (d : Dev) (k : Nat) : Bool :=
  d.on (TALLY_C_SMP_CFG_EN k) && d.fld (TALLY_C_SMP_CFG_N k) != 0 && !d.on (MAN_CORE_CFG_WHEELER k) && !d.gated 5 0 &&
    (!d.on (TALLY_C_SMP_CFG_TRIG k) || d.fld (TALLY_C_SMP_CFG_EVT k) ≤ 0x0E) &&
    (d.fld (MAN_CORE_CFG_OWNER k) == 8 || !d.on (MAN_CORE_GINFO_IN_GUARD k))

/-- The core events that this block itself sees; of 0x01–0x09, PRECISE_SAMPLE tells (R462). -/
def ownEvent (ev : Nat) : Bool := ev == 0 || (0x0A ≤ ev && ev ≤ 0x0E)

/-- An event of the block's own counts towards the next sample of the core (R463). -/
def Dev.smpCount (d : Dev) (k ev n : Nat) : Dev :=
  if n ≠ 0 ∧ ownEvent ev ∧ d.smpOn k ∧ d.on (TALLY_C_SMP_CFG_TRIG k) ∧ d.fld (TALLY_C_SMP_CFG_EVT k) = ev then
    { d with tal := { d.tal with smp := tset 0 (tget 0 d.tal.smp k + n) k d.tal.smp } }
  else d

/-- An event of a core in the world that owns its page (R458, R462). -/
def Dev.tallyC (d : Dev) (core ev k : Nat) : Dev :=
  let o := d.fld (MAN_CORE_CFG_OWNER core)
  let d := d.smpCount core ev k
  if d.on (TALLY_C_FREEZE_FREEZE core) ∨ d.on (MAN_CORE_CFG_WHEELER core) ∨ (o ≠ 8 ∧ d.on (MAN_CORE_GINFO_IN_GUARD core)) then d
  else d.each (List.range 8) (fun n d => d.tallyCount (TALLY_C_CTL core n) ev k ⟨TALLY_C_STS core, n, n⟩
    (336 + core) o (16 * core + n))

/-- Bandwidth windows run; N_STAGES = 0 turns them off (R466). -/
def Dev.bwOn (d : Dev) : Bool := d.on TALLY_BW_CFG_EN && d.fld TALLY_BW_CFG_N_STAGES != 0 && !d.gated 5 0

/-- Bytes into and out of a port, for its bandwidth window (R466). -/
def Dev.bwIn (d : Dev) (p k : Nat) : Dev :=
  if d.bwOn then
    { d with tal := { d.tal with bwIn := tset 0 (tget 0 d.tal.bwIn p + k) p d.tal.bwIn } } else d

def Dev.bwOut (d : Dev) (p k : Nat) : Dev :=
  if d.bwOn then
    { d with tal := { d.tal with bwOut := tset 0 (tget 0 d.tal.bwOut p + k) p d.tal.bwOut } } else d

/-! ### Logbook records (R115–R117, R121–R126, R445, R446, R502) -/

/-- The record flags as the machine sets them (R116): TIME_UNSYNC, HEAVIA, and those the rule gives. -/
def Dev.recFlags (d : Dev) (extra : Nat) : Nat :=
  extra + b2n d.unsync + 4 * b2n d.heaviaTime

/-- A record of this instant. DESIGN CHOICE: no record carries a waybill (WB), since no chapter names one that does (R112;
assumption 79). -/
def Dev.mkRec (d : Dev) (block code sev owner inst : Nat) (data : List Nat) (flags : Nat := 0) : Rec :=
  { time := d.ns, frac := d.frac8, block := block, owner := owner, sev := sev, flags := d.recFlags flags,
    code := code, inst := inst % 65536, data := data, down := !d.frm.beyvoUp }

/-- The records that enter the always-on log whatever their severity (R124): tamper alarms, reset causes,
drag-shoe applications, losses of the coachman word and wake causes. -/
def Rec.alwaysOn (r : Rec) : Bool :=
  (r.block == 0x41 && r.code == 1) || (r.block == 0x02 && r.code == 1) || (r.block == 0x50 && r.code == 8)
    || (r.block == 0x50 && r.code == 6) || (r.block == 0x31 && r.code == 5)

/-- R124 selects a record, and it finds a place among those that wait (R126). -/
def Dev.aoSelects (d : Dev) (r : Rec) : Bool := (d.log.aoMinSev ≤ r.sev || r.alwaysOn) && d.log.aoQueue.length < 16

/-- Such a record waits in retention SRAM. -/
def Dev.aoSelect (d : Dev) (r : Rec) : Dev :=
  if d.aoSelects r then { d with log := { d.log with aoQueue := d.log.aoQueue ++ [r] } } else d

/-- A record enters the post queue of the main logbook, or is dropped (R122); before LOGB reports READY it waits in the
boot ROM (R417). -/
def Dev.enqueue (d : Dev) (r : Rec) : Dev :=
  if !bit 18 (d.rn SYS_READY) then { d with boot := { d.boot with recs := d.boot.recs ++ [r] } }
  else if d.log.queue.length < 64 then { d with log := { d.log with queue := d.log.queue ++ [r] } }
  else
    (((({ d with log := { d.log with dropped := d.log.dropped + 1 } } : Dev).bump LOGB_DROP_CNT).set
      LOGB_STS_DROP).raiseIf LOGB_INT_EN_DROP 354)

/-- A record is posted, without its effect on the pins: to the always-on log when R124 selects it, and to the
main logbook while the Beyvo die runs (R504). -/
def Dev.postRaw (d : Dev) (r : Rec) : Dev :=
  let r := if d.aoSelects r then { r with flags := r.flags + 2 } else r
  let d := d.aoSelect r
  if d.frm.beyvoUp then (d.enqueue r).tallyD 0x84 1 else d

/-- FAULT_N or SAFE_N takes a level: a change raises source 4 and posts code 0x0003 (R446). -/
def Dev.pinTo (d : Dev) (f : Fld) (which : Nat) (high : Bool) : Dev :=
  if d.on f = high then d
  else
    let d := d.put f (b2n high)
    let d := d.raiseIf FRM_INT_EN_PIN 4
    d.postRaw (d.mkRec 0x02 0x0003 0 9 which [b2n high])

/-- The same, where FRM_CFG.FAULTN_SEV = 0 lets the change's own record, of severity 0, set PEND (R445). -/
def Dev.pin (d : Dev) (f : Fld) (which : Nat) (high : Bool) : Dev :=
  if d.on f = high ∨ !d.frm.beyvoUp ∨ d.fld FRM_CFG_FAULTN_SEV ≠ 0 then d.pinTo f which high
  else ((d.pinTo f which high).set FRM_STS_PEND).pinTo FRM_STS_FAULT_N 0 false

/-- FAULT_N follows R445. -/
def Dev.updFaultN (d : Dev) : Dev :=
  d.pin FRM_STS_FAULT_N 0
    (!(d.on FRM_STS_PEND || d.frm.bootLow || d.frm.bootHold || d.frm.tamperHold || d.frm.resetNLow))

/-- A fault or a record of this severity sets PEND (R445). -/
def Dev.pend (d : Dev) (sev : Nat) : Dev :=
  if d.fld FRM_CFG_FAULTN_SEV ≤ sev && d.frm.beyvoUp then (d.set FRM_STS_PEND).updFaultN else d

/-- A record is posted (R115, R445). -/
def Dev.postRec (d : Dev) (r : Rec) : Dev := (d.postRaw r).pend r.sev

/-- A record of this instant is posted. -/
def Dev.post (d : Dev) (block code sev owner inst : Nat) (data : List Nat := []) : Dev :=
  d.postRec (d.mkRec block code sev owner inst data)

/-- Add `k` to the data word that holds a stage's count. -/
def StageRec.add (s : StageRec) (k : Nat) : StageRec :=
  match s.countAt with
  | none => s
  | some i => { s with record := { s.record with data := s.record.data.set i (s.record.data.getD i 0 + k) } }

/-- A record posted once per stage (R502): the first event of the stage fixes its time and data, later ones
add to the count word. -/
def Dev.postOnce (d : Dev) (block code sev owner inst : Nat) (data : List Nat) (countAt : Option Nat := none) :
    Dev :=
  let same (s : StageRec) : Bool :=
    s.record.block == block && s.record.code == code && s.record.owner == owner && s.record.inst == inst % 65536
  if d.log.stage.any same then
    { d with log := { d.log with stage := modifyFirst same (·.add 1) d.log.stage } }
  else
    { d with log := { d.log with
        stage := d.log.stage ++ [{ record := d.mkRec block code sev owner inst data, countAt := countAt }] } }

/-- A record posted once per stage whose data words hold several counts: `upd` counts an event into them. -/
def Dev.postStage (d : Dev) (block code sev owner inst : Nat) (upd : List Nat → List Nat) : Dev :=
  let same (s : StageRec) : Bool :=
    s.record.block == block && s.record.code == code && s.record.owner == owner && s.record.inst == inst % 65536
  if d.log.stage.any same then
    { d with log := { d.log with
        stage := modifyFirst same (fun s => { s with record := { s.record with data := upd s.record.data } }) d.log.stage } }
  else
    { d with log := { d.log with
        stage := d.log.stage ++
          [{ record := d.mkRec block code sev owner inst (upd [0, 0, 0, 0]), countAt := none }] } }

/-- The records of the stage are posted (R502). -/
def Dev.flushStage (d : Dev) : Dev :=
  let l := d.log.stage
  ({ d with log := { d.log with stage := [] } } : Dev).each l (fun s d => d.postRec s.record)

/-! ### Guard restart (R343) and faults (R443, R444, R504) -/

/-- The local controllers' claim registers of a core's Guard half return to their reset state: pending Guard
interrupts stay pending (R344), active ones end. -/
def Dev.clearGuardHalf (d : Dev) (k : Nat) : Dev :=
  let d := { d with wld := { d.wld with active := d.wld.active.filter (fun x => !(x.1 == k && x.2.1)) } }
  ((d.wr (IRQ_LC_CLAIM k 1) 0x3FF).wr (IRQ_LC_PMR k 1) 32).wr (IRQ_LC_STS k 1) 32

/-- The registers of an endpoint queue that R183 clears: HEAD, TAIL, CQ_STS with its bit of CQ_GRP_STS, and
CQ_BUDGET_LEFT. -/
def Dev.clearQueueRegs (d : Dev) (c n : Nat) : Dev :=
  ((((d.wr (CQ_HEAD c n) 0).wr (CQ_TAIL c n) 0).wr (CQ_STS c n) 1).wr (CQ_BUDGET_LEFT c n) 0).clr
    ⟨CQ_GRP_STS c (n / 8), n % 8, n % 8⟩

/-- A sample of destination `k` is dropped (R201); while OUTR is gated no drop counts (R442). -/
def Dev.sampleDrop (d : Dev) (k : Nat) : Dev :=
  if d.gated 3 0 then d
  else
  let d := if d.rn (OUTR_DEST_DROP_CNT k) = 2 ^ 32 - 1 then d.set ⟨OUTR_STS, 4 + k, 4 + k⟩ else d
  let d := (d.bump (OUTR_DEST_DROP_CNT k)).set ⟨OUTR_STS, k, k⟩
  (d.raiseIf OUTR_INT_EN_DROP 136).postOnce 0x13 0x0001 0 9 k [1] (some 0)

def Dev.removeSample (d : Dev) (s : Sample) : Dev :=
  { d with fab := { d.fab with samples := d.fab.samples.erase s } }

/-- Samples that wait for a queue whose owner resets are dropped (R201). -/
def Dev.dropWaiting (d : Dev) (gone : Option Nat → Bool) : Dev :=
  d.each (d.fab.samples.filter (fun s => s.waiting && gone (some (d.fld (OUTR_DEST_CFG_QUEUE s.dest))))) (fun s d =>
    (d.removeSample s).sampleDrop s.dest)

/-- The Guard queues whose home core in MAN_GQHOMEj is `k` (R343). -/
def Dev.homeQueues (d : Dev) (k : Nat) : List Nat :=
  (List.range 16).filter (fun n => bits (4 * (n % 8) + 3) (4 * (n % 8)) (d.rn (MAN_GQHOME (n / 8))) == k)

/-- Software has consumed the descriptor that completed at this HEAD count (R181): TAIL has passed it again. -/
def Dev.consumed (d : Dev) (q pos : Nat) : Bool :=
  decide (2 ^ d.fld (CQ_CFG_SIZE_LOG2 (q / 64) (q % 64)) < (d.fld (CQ_TAIL_COUNT (q / 64) (q % 64)) + 65536 - pos) % 65536)

/-- A cipher command's released chunks, and its revoke notice, leave a queue that is cleared (R183). -/
def CeRun.cleared (d : Dev) (r : CeRun) : CeRun :=
  { r with was := r.was ++ r.sent.map (d.consumed (bits 9 0 r.cmd.w1)), sent := [], noNotice := r.noNotice || r.why == .notice }

/-- The queues of a list are cleared under R183: the registers, and until the next doorbell copies for them are
dropped at admission. A copy that was being written has no descriptor any more. -/
def Dev.clearQueues (d : Dev) (c : Nat) (ns : List Nat) : Dev :=
  let gone (q : Option Nat) : Bool := ns.any (fun n => q == some (64 * c + n))
  let d : Dev := { d with ce := { d.ce with
    lanes := d.ce.lanes.map (fun l => (l.1, { l.2 with run := l.2.run.map (fun r =>
      if gone (some (bits 9 0 r.cmd.w1)) then r.cleared d else r) })) } }
  let d := d.each ns (fun n d => d.clearQueueRegs c n)
  let d := d.dropWaiting gone
  { d with
    dead := ns.foldl (fun l n => insertNat (64 * c + n) l) d.dead
    fab := { d.fab with
      receipts := d.fab.receipts.filter (fun r => !gone (some r.sendQ))
      budget := d.fab.budget.filter (fun x => !gone (some x.1))
      donePend := d.fab.donePend.filter (fun q => !gone (some q))
      frames := d.fab.frames.map (fun f => { f with
        sendQ := if f.drains && gone f.sendQ then none else f.sendQ
        copies := f.copies.map (fun c => if gone c.queue then { c with sending := false } else c) }) } }

/-- IN_WINDOW of an owner's status follows its open windows (R48). -/
def Dev.updInWindow (d : Dev) (o : Nat) : Dev :=
  d.put (if o < 8 then STG_CSTS_IN_WINDOW o else STG_GSTS_IN_WINDOW)
    (b2n (d.stg.wins.any (fun w => w.owner == o && w.isOpen)))

/-- Windows that meet `p` close without an overrun and await no DONE (R48, R50). -/
def Dev.dropWins (d : Dev) (o : Nat) (p : Win → Bool) : Dev :=
  ({ d with stg := { d.stg with wins := d.stg.wins.filter (fun w => !p w) } } : Dev).updInWindow o

/-- The coach is in reset, or its reset has been started (R453). -/
def Dev.coachDown (d : Dev) (c : Nat) : Bool := d.frm.inReset.contains c || d.frm.coachReset.any (·.1 == c)

/-- The tow mirror takes a state (R205): 0 = OFF, 1 = ARMED, 2 = ON. -/
def Dev.setTow (d : Dev) (st : Nat) : Dev :=
  if d.fld TOW_STS_STATE = st then d
  else
    (((d.put TOW_STS_STATE st).put TOW_LEGACY_CTL_ON (b2n (st == 2))).put TOW_LEGACY_CTL_ARMED (b2n (st == 1))).raiseIf
      TOW_INT_EN_STATE 138

/-- A reset of its owner turns the mirror off (R205). -/
def Dev.towOwnerReset (d : Dev) (o : Nat) : Dev :=
  if d.fld TOW_STS_STATE = 2 ∧ d.fld TOW_CFG_OWNER = o then (d.setTow 0).post 0x14 0x0002 0 9 1 else d

/-- A Guard restart on core `k` (R343): the Guard-world registers and the Guard queues at home there clear, and
re-measurement begins (R344). The Guard windows of the core close as a coach's windows do at its reset (R50,
assumption 12). -/
def Dev.guardRestart (d : Dev) (k : Nat) : Dev :=
  let d := { d with wld := { d.wld with
    glimit := tset 0 0 k d.wld.glimit, saved := d.wld.saved.filter (· ≠ k) } }
  let d := (d.clearGuardHalf k).dropWins 8 (fun w => w.owner == 8 && w.core == k)
  let d := d.clr STG_GSTS_OVR_CNT_OVF
  let d := (d.clearQueues 8 (d.homeQueues k)).towOwnerReset 8
  let d := if d.fld (MAN_CORE_CFG_OWNER k) = 8 then d else d.clr (MAN_CORE_GINFO_IN_GUARD k)
  d.set (MAN_CORE_GINFO_REMEASURING k)

/-- The coach is of class D and its severity-2 faults reach SAFE_N (R329, R446). -/
def Dev.safeCoach (d : Dev) (c : Nat) : Bool :=
  c < 8 && d.fld (MAN_COACH_CFG_CRIT c) == 2 && d.on (FRM_COACH_CFG_SAFE_EN c)

/-- A coach reset is started: one reset for all the faults that arrive while it is pending or in progress, with the cause
of the first (R444, R453). -/
def Dev.startCoachReset (d : Dev) (c cause : Nat) : Dev :=
  if d.coachDown c then d
  else { d with frm := { d.frm with coachReset := d.frm.coachReset ++ [(c, cause)] } }

/-- A device reset is started; the first cause stands (R444, R448). -/
def Dev.startDeviceReset (d : Dev) (cause block code : Nat) : Dev :=
  if d.frm.devReset.isSome then d
  else { d with frm := { d.frm with devReset := some { cause := cause, block := block, code := code } } }

/-- A Beyvo reset is started (R448). -/
def Dev.startBeyvoReset (d : Dev) (cause : Nat) : Dev :=
  if d.frm.bvReset.isSome then d
  else { d with frm := { d.frm with bvReset := some { cause := cause, block := 0, code := 0 } } }

/-- What a fault names beside its severity: the core for a Guard fault (R444), the cause for a coach reset
(R453), and whether a rule defers the coach reset (R49, R359). -/
structure FaultOpt where
  core : Option Nat := none
  cause : Nat := 7
  deferred : Bool := false
deriving DecidableEq, Repr

/-- Severity 1 (R444). -/
def Dev.fault1 (d : Dev) (block owner : Nat) : Dev :=
  let d := d.bump (FRM_CNT 1)
  let d := if owner < 8 then
      (d.bumpF (FRM_CFAULT_COUNT owner)).put (FRM_CFAULT_BLOCK owner) block else d
  d.raiseIf FRM_INT_EN_FAULT 2

/-- The owner of a pair: its leader's. -/
def Dev.pairOwner (d : Dev) (p : Nat) : Nat := d.fld (MAN_CORE_CFG_OWNER (2 * p))

/-- A fault starts its coach's reset, unless one waits for the end of the coach's window already (R359, R444). -/
def Dev.faultReset (d : Dev) (owner cause : Nat) : Dev :=
  if d.tan.latent.any (fun x => d.pairOwner x.1 == owner) then d else d.startCoachReset owner cause

/-- Severity 2 (R444, R446). -/
def Dev.fault2 (d : Dev) (owner : Nat) (o : FaultOpt) : Dev :=
  let d := d.bump (FRM_CNT 2)
  let d := d.raiseIf FRM_INT_EN_FAULT 2
  let d := if d.safeCoach owner then d.pin FRM_STS_SAFE_N 1 false else d
  if o.deferred then d
  else if owner < 8 then d.faultReset owner o.cause
  else d.guardRestart (o.core.getD (d.fld FRM_CFG_GHOME))

/-- Severity 3 (R444, R446). -/
def Dev.fault3 (d : Dev) (block code : Nat) : Dev :=
  let d := d.bump (FRM_CNT 3)
  let d := d.pin FRM_STS_SAFE_N 1 false
  d.startDeviceReset 3 block code

/-- A fault is reported to the fault and reset manager (R443, R444), which drives FAULT_N (R445); while the Beyvo
die is down it acts only through the Heavia die (R504). -/
def Dev.fault (d : Dev) (sev block code owner : Nat) (o : FaultOpt := {}) : Dev :=
  if d.frm.beyvoUp then
    let d := (d.pend sev).when (1 ≤ sev) (·.tallyD 0x89 1)
    match sev with
    | 0 => d.bump (FRM_CNT 0)
    | 1 => d.fault1 block owner
    | 2 => d.fault2 owner o
    | _ => d.fault3 block code
  else
    let safe : Bool := decide (3 ≤ sev) || (sev == 2 && d.safeCoach owner)
    let d := (d.when (2 ≤ sev) (·.pin FRM_STS_FAULT_N 0 false)).when safe (·.pin FRM_STS_SAFE_N 1 false)
    if 3 ≤ sev then (d.bump (FRM_CNT 3)).startDeviceReset 3 block code else d

/-- A fault that is also posted as a logbook record. -/
def Dev.faultPost (d : Dev) (sev block code owner inst : Nat) (data : List Nat := []) (o : FaultOpt := {}) :
    Dev :=
  (d.post block code sev owner inst data).fault sev block code owner o

/-- Service boot runs (R424): until the image is applied, and until seal. -/
def Dev.inService (d : Dev) : Bool := d.boot.phase == .rom && d.fld SYS_BOOT_STS_BOOTSEL == 1
def Dev.toolOpen (d : Dev) : Bool := d.inService || (d.boot.phase == .applied && d.on SYS_BOOT_STS_SERVICE)

/-! ### Pair resets and boundary mismatches (R355, R356) -/

/-- Core `k` runs in the Guard world: always on a Guard core (R328), by GINFO.IN_GUARD elsewhere. -/
def Dev.inGuard (d : Dev) (k : Nat) : Bool := d.fld (MAN_CORE_CFG_OWNER k) == 8 || d.on (MAN_CORE_GINFO_IN_GUARD k)

/-- Cycles of the RT cores' clock since the count began: 1.2 GHz (R457). -/
def Dev.rtCycle (d : Dev) : Nat := d.up * 6 / 5

/-- The leader of a pair executes from now on (R357). -/
def Dev.foldGo (d : Dev) (p : Nat) : Dev :=
  { d with tan := { d.tan with foldSince := tput p d.rtCycle (terase p d.tan.foldSince) } }

/-- The cycles that the leader has executed since the last capture (R357). -/
def Dev.foldRun (d : Dev) (p : Nat) : Nat :=
  tget 0 d.tan.foldAcc p + (match d.tan.foldSince.find? (fun x => x.1 == p) with
    | some x => d.rtCycle - x.2
    | none => 0)

/-- The leader of a pair stops executing: halted, or waiting (R357). -/
def Dev.foldStop (d : Dev) (p : Nat) : Dev :=
  { d with tan := { d.tan with foldAcc := tset 0 (d.foldRun p) p d.tan.foldAcc, foldSince := terase p d.tan.foldSince } }

/-- The pair is in TANDEM, or has entered its reset in this very cycle, so that a further failure of the cycle is still
recorded (R362). -/
def Dev.pairSees (d : Dev) (p : Nat) : Bool :=
  d.fld (TAN_PAIR_STS_STATE p) == 1 || tget 0 d.tan.resetAt p == d.up + 1

def Dev.pairPost (d : Dev) (p code sev : Nat) (data : List Nat := []) : Dev :=
  d.post 0x07 code sev (d.pairOwner p) p data

/-- An event bit of TAN_PAIRp_STS with its source. -/
def Dev.pairEvt (d : Dev) (p : Nat) (f : Fld) : Dev := (d.set f).raiseIf (TAN_PAIR_INT_EN_EN p) (248 + p)

/-- The reset of a pair (R356): its coach's reset with a cause of R453, and Guard's restart on the leader, both cores
held in reset; a deferred reset is thereby performed (R359), and one that an earlier cycle deferred keeps its cause (R444). -/
def Dev.pairReset (d : Dev) (p cause : Nat) : Dev :=
  let pend : Bool := d.on (TAN_PAIR_STS_LATENT_PEND p)
  let cause := if pend ∧ tget 0 d.tan.latentAt p ≠ d.up + 1 then 3 else cause
  let d := d.clr (TAN_PAIR_STS_LATENT_PEND p)
  let d := d.put (TAN_PAIR_STS_STATE p) (if d.tan.degraded.contains p then 2 else 3)
  let d : Dev := { d with
    tan := { d.tan with latent := terase p d.tan.latent, latentAt := terase p d.tan.latentAt, held := insertNat p d.tan.held, foldAcc := terase p d.tan.foldAcc,
                        foldSince := terase p d.tan.foldSince, resetAt := tset 0 (d.up + 1) p d.tan.resetAt },
    wld := { d.wld with running := d.wld.running.filter (fun k => k / 2 ≠ p) } }
  let o := d.pairOwner p
  let d := if o < 8 then
      ({ d with frm := { d.frm with
        noWait := if d.frm.inReset.contains o then d.frm.noWait else insertNat o d.frm.noWait } } : Dev).startCoachReset o cause
    else d
  let d := d.guardRestart (2 * p)
  if pend then d.pairPost p 0x0003 0 else d

/-- A failure that ranks higher comes in the cycle in which the pair has been reset for a lower one: the coach reset takes its
cause (R362). -/
def Dev.recause (d : Dev) (p cause : Nat) : Dev :=
  if tget 0 d.tan.resetAt p = d.up + 1 then
    { d with frm := { d.frm with coachReset := d.frm.coachReset.map (fun x =>
        if x.1 = d.pairOwner p ∧ (x.2 = 3 ∨ (x.2 = 2 ∧ cause = 4)) then (x.1, cause) else x) } }
  else d

/-- A coach reset that is no fault's acts at once; a deferred one is thereby performed (R359, R453; DEDUCED, assumption
134). -/
def Dev.requestReset (d : Dev) (c cause : Nat) : Dev :=
  match d.tan.latent.find? (fun x => d.pairOwner x.1 == c) with
  | some x => d.pairReset x.1 3
  | none => d.startCoachReset c cause



/-- A leader output and the wheeler's output of the same step differ (R355). Where another failure of the same cycle has reset
the pair, the mismatch is recorded with that one reset (R362). -/
def Dev.boundary (d : Dev) (p kind : Nat) (addrDiff dataDiff attrDiff inGuard : Bool) (addr : Nat) : Dev :=
  if !d.pairSees p then d
  else
    let info := kind + 4 * b2n addrDiff + 8 * b2n dataDiff + 16 * b2n attrDiff + 32 * b2n inGuard
    let d := if d.on (TAN_PAIR_STS_BMIS p) then d
      else (d.wr (TAN_PAIR_FIRST_INFO p) info).wrPair (TAN_PAIR_FIRST_ADDR_LO p) (TAN_PAIR_FIRST_ADDR_HI p)
        (addr % 2 ^ 34)
    let d := (d.bump (TAN_PAIR_BMIS_CNT p)).pairEvt p (TAN_PAIR_STS_BMIS p)
    let d : Dev := { d with tan := { d.tan with injBound := d.tan.injBound.filter (· ≠ p) } }
    let owner := if inGuard then 8 else d.pairOwner p
    let d := d.faultPost 2 0x07 0x0001 owner p [d.rn (TAN_PAIR_FIRST_INFO p), addr % 2 ^ 32]
      { core := some (2 * p), cause := 2, deferred := true }
    if d.fld (TAN_PAIR_STS_STATE p) = 1 then d.pairReset p 2 else d.recause p 2

/-! ### The check of an access (R9, R12, R13, R333–R335, R495, R503) -/

/-- What the check of an access answers. -/
inductive Verdict where
  | pass
  | refuse (busErr : Bool)   -- R335
  | notOwner                 -- the block's own owner rules: R96, R241, R263, R326, R204
  | openGo                   -- an Open access to a register whose every field is GO (R12)
  | linkDown                 -- a Heavia register while the H-link is down (R310)
  | nobody                   -- no such access leaves a core: another owner or world than the core's, a wheeler (R333, R354)
  | falsified                -- the bus request that TAN_INJ falsifies (R364)
deriving DecidableEq, Repr

/-- The registers of the block window an address lies in, and the window's block ID (R496, R500). -/
def window (a : Nat) : Option (Nat × List RegDesc) :=
  let w := a / 0x10000
  if w = 0x4000 then some (0x01, RegTable.sys)
  else if w = 0x4001 then some (0x02, RegTable.frm)
  else if w = 0x4002 then some (0x03, RegTable.pwrm)
  else if w = 0x4003 then some (0x04, RegTable.clk)
  else if w = 0x4004 then some (0x05, RegTable.man)
  else if w = 0x4005 then some (0x06, RegTable.irq)
  else if w = 0x4006 then some (0x07, RegTable.tan)
  else if w = 0x4007 then some (0x08, RegTable.tally)
  else if w = 0x4008 then some (0x60, RegTable.logb)
  else if w = 0x4009 then some (0x70, RegTable.dbg)
  else if w / 16 = 0x401 then some (0x10, RegTable.fab)
  else if w / 16 = 0x402 then some (0x11, RegTable.lkp)
  else if w = 0x4030 then some (0x12, RegTable.rsq)
  else if w = 0x4031 then some (0x13, RegTable.outr)
  else if w = 0x4032 then some (0x14, RegTable.tow)
  else if w = 0x4033 then some (0x14, RegTable.towLegacy)
  else if w = 0x4040 then some (0x20, RegTable.time)
  else if w = 0x4041 then some (0x21, RegTable.stg)
  else if w = 0x4042 then some (0x22, RegTable.tta)
  else if 0x40500000 ≤ a ∧ a < 0x40530000 then some (0x30, RegTable.port)
  else if w = 0x4060 then some (0x31, RegTable.sid)
  else if w = 0x4070 then some (0x40, RegTable.ce)
  else if w = 0x4071 then some (0x41, RegTable.sbx)
  else if w = 0x4080 then some (0x50, RegTable.hlk)
  else if w = 0x4081 ∧ (a < 0x40812800 ∨ (0x40814000 ≤ a ∧ a < 0x40818000)) then some (0x51, RegTable.chan)
  else if w = 0x4082 then some (0x52, RegTable.lio)
  else if w = 0x4083 then some (0x53, RegTable.hps)
  else if 0x48000000 ≤ a ∧ a < 0x48900000 then some (0x10, RegTable.apertures)
  else none

/-- The offset of an address inside an array of registers, dimension by dimension. -/
def dimsMatch : List (Nat × Nat) → Nat → Bool
  | [], off => off == 0
  | (st, n) :: r, off => if off / st < n then dimsMatch r (off % st) else false

/-- Whether a descriptor names the register at an address. -/
def RegDesc.has (r : RegDesc) (a : Nat) : Bool := r.base ≤ a && dimsMatch r.dims (a - r.base)

/-- The registers of the window of fabric port `p`: every port has the counters, the external ports the common
registers, and each kind of port its own (R211). -/
def portRegs (p : Nat) : List RegDesc :=
  if 36 ≤ p then RegTable.port
  else RegTable.portHead ++ RegTable.port ++
    (if p < 6 then RegTable.portEth ++ RegTable.portMsec
     else if p < 16 then RegTable.portEth
     else if p < 28 then RegTable.portCan ++ RegTable.portTrx
     else RegTable.portLin ++ RegTable.portTrx)

/-- Guard has 16 queues and two groups (R497, R498): the rest of its aperture is reserved. -/
def guardReserved (a : Nat) : Bool :=
  0x48810000 ≤ a && (a < 0x48840000 || (0x48840018 ≤ a && a < 0x48900000))

/-- The descriptor of the register at an address. -/
def descOf (a : Nat) : Option RegDesc :=
  if guardReserved a then none else
  match window a with
  | none => none
  | some (_, l) =>
    if 0x40500000 ≤ a ∧ a < 0x40530000 then (portRegs ((a - 0x40500000) / 0x1000)).find? (·.has a)
    else l.find? (·.has a)

/-- The manifest index of a page (R331). -/
def pageIndex (a : Nat) : Option Nat :=
  if 0x10000000 ≤ a ∧ a < 0x11800000 then some ((a - 0x10000000) / 4096)
  else if 0x100000000 ≤ a ∧ a < 0x300000000 then some (6144 + (a - 0x100000000) / 65536)
  else if 0x40000000 ≤ a ∧ a < 0x41000000 then some (137216 + (a - 0x40000000) / 4096)
  else none

/-- The manifest entry of a page (R331, R332). -/
def Mem.entry (m : Mem) (i : Nat) : Nat := Mem.word m (0x11560000 + 4 * i)

def entryOwner (e : Nat) : Nat := bits 3 0 e
def entryGuard (e : Nat) : Bool := bit 4 e
def entryR (e : Nat) : Bool := bit 5 e
def entryW (e : Nat) : Bool := bit 6 e
def entryX (e : Nat) : Bool := bit 7 e
def entryShared (e : Nat) : Bool := bit 8 e
def entryDma (e : Nat) : Bool := bit 9 e
def entryScrub (e : Nat) : Bool := bit 10 e
def entryLocked (e : Nat) : Bool := bit 31 e

/-- A value that R332 allows. -/
def entryOk (e : Nat) : Bool :=
  !(entryW e && entryX e) && bits 30 11 e == 0 &&
  !(entryShared e && (entryOwner e == 8 || entryOwner e == 9 || entryOwner e == 0xE)) &&
  !(0xA ≤ entryOwner e && entryOwner e ≤ 0xD)

/-- The outcome of an edit (R337). -/
def editResult (m : Mem) (i v : Nat) : Nat :=
  if 141311 < i then 3 else if entryLocked (Mem.entry m i) then 1 else if entryOk v then 0 else 2

/-- An edit gives the page to another owner or world (R338). -/
def editMoves (m : Mem) (i v : Nat) : Bool :=
  entryOwner (Mem.entry m i) != entryOwner v || entryGuard (Mem.entry m i) != entryGuard v

/-- The entry that an access is checked against (R338): an accepted edit that moves the page has marked it unassigned, and
it stays so until the edit completes; any other accepted edit applies at once. -/
def Dev.pageEntry (d : Dev) (m : Mem) (i : Nat) : Nat :=
  match d.wld.edit with
  | some (j, v) => if j = i ∧ editResult m i v = 0 then (if editMoves m i v then 0xF else v) else Mem.entry m i
  | none => Mem.entry m i

/-- The entry's R, W or X for a kind of access. -/
def entryRWX (e : Nat) : AccKind → Bool
  | .read => entryR e
  | .write => entryW e
  | .fetch => entryX e
  | .dma => entryR e

/-- The table of R333. -/
def pageAllows (e : Nat) (a : Acc) (k : AccKind) : Bool :=
  let o := entryOwner e
  if a.guard then
    if o < 8 then (if entryGuard e then entryRWX e k else k ≠ .fetch && entryRWX e k)
    else if o = 8 then entryGuard e && entryRWX e k
    else if o = 0xE then k ≠ .fetch && entryRWX e k
    else if o = 9 ∧ entryGuard e then k == .read && entryR e
    else false
  else
    if o < 8 ∧ !entryGuard e then
      (if o = a.owner then entryRWX e k else k == .read && entryR e && entryShared e)
    else if o = 0xE then k == .read && entryR e
    else false

/-- The owner of the owner page an address lies in (R503). -/
def ownerOfPage (a : Nat) : Option Nat :=
  let w := a / 0x10000
  let p := a / 0x1000 % 16
  if w = 0x4041 ∨ w = 0x4008 ∨ w = 0x4002 ∨ w = 0x4001 then
    (if p = 7 then some 8 else if 8 ≤ p then some (p - 8) else none)
  else none

/-- The owner that a block's own rule lets reach a register beside Guard (R96, R241, R263, R326, R204), with
whether the rule binds reads too. -/
def Dev.ruleOwner (d : Dev) (a : Nat) : Option (Nat × Bool) :=
  let w := a / 0x10000
  if w = 0x4042 ∧ 0x40421000 ≤ a ∧ a < 0x40421800 then
    some (d.fld (TTA_SLOT_CFG_OWNER ((a - 0x40421000) / 0x20)), true)
  else if w = 0x4042 ∧ 0x40420200 ≤ a ∧ a < 0x40420280 then
    some (d.fld (TTA_TCAP_CFG_OWNER ((a - 0x40420200) / 0x10)), true)
  else if w = 0x4081 ∧ a < 0x40812800 then some (d.fld (CHAN_CFG_OWNER ((a - 0x40810000) / 0x100)), true)
  else if w = 0x4082 ∧ a < 0x40820800 then some (d.fld (LIO_CFG_OWNER ((a - 0x40820000) / 0x40)), true)
  else if w = 0x4033 then some (d.fld TOW_CFG_OWNER, true)
  else if w = 0x4005 ∧ 0x40051000 ≤ a ∧ a < 0x4005D000 then
    (if a % 0x1000 < 0x800 then some (d.fld (MAN_CORE_CFG_OWNER ((a - 0x40051000) / 0x1000)), true)
     else some (8, true))
  else if 0x40600100 ≤ a ∧ a < 0x40600300 then
    let s := a % 0x100 / 4
    some (if s < 36 then d.fld (PORT_CFG_OWNER s) else d.fld (LIO_CFG_OWNER (s - 36)), true)
  else if 0x40600400 ≤ a ∧ a < 0x40600640 then some (d.fld (PORT_CFG_OWNER ((a - 0x40600400) / 0x10)), true)
  else if 0x40600800 ≤ a ∧ a < 0x40600980 then some (d.fld (PORT_CFG_OWNER (16 + (a - 0x40600800) / 0x20)), true)
  else none

/-- The register lives on the Heavia die, behind the H-link (R268, R310, R501). -/
def onHeavia (a : Nat) : Bool := 0x4080 ≤ a / 0x10000 && a / 0x10000 ≤ 0x4083

/-- The link controller's own registers, on the Beyvo die (R27). -/
def linkSide (a : Nat) : Bool := HLK_STS ≤ a && a ≤ HLK_DISCARD_CNT + 3

/-- The H-link is down, and the register lies behind it (R310). -/
def Dev.cutOff (d : Dev) (addr : Nat) : Bool := onHeavia addr && !linkSide addr && !d.on HLK_STS_UP

/-- The owner of the core whose page of the TALLY window this is (R457); a wheeler follows its leader (R328). -/
def Dev.tallyOwner (d : Dev) (a : Nat) : Option Nat :=
  let k := a / 0x1000 % 16
  if a / 0x10000 = 0x4007 ∧ k < 12 then
    some (d.fld (MAN_CORE_CFG_OWNER (if d.on (MAN_CORE_CFG_WHEELER k) then k - 1 else k)))
  else none

/-- The page of the wheeler of a TANDEM pair in the TALLY window is inert (R458). -/
def Dev.inertPage (d : Dev) (addr : Nat) : Bool :=
  addr / 0x10000 == 0x4007 && addr / 0x1000 % 16 < 12 && d.on (MAN_CORE_CFG_WHEELER (addr / 0x1000 % 16))

/-- A write that an inert page ignores. -/
def Dev.unlessInert (d : Dev) (addr : Nat) (f : Dev → Dev) : Dev := if d.inertPage addr then d else f d

/-- Every field of the register is GO (R12). -/
def RegDesc.allGo (r : RegDesc) : Bool := r.fields.all (·.go)

/-- The checks of the block itself, once the page is open to the accessor. -/
def Dev.blockCheck (d : Dev) (a : Acc) (k : AccKind) (addr : Nat) : Verdict :=
  match ownerOfPage addr with
  | some o =>
    if (if a.guard then 8 else a.owner) = o then .pass
    else if a.guard ∧ k = .read then .pass else .refuse false
  | none =>
    match d.tallyOwner addr with
    | some o => if a.guard ∨ a.owner = o then .pass else .refuse false
    | none =>
      match d.ruleOwner addr with
      | some (o, reads) => if a.guard ∨ a.owner = o ∨ (!reads ∧ k = .read) then .pass else .notOwner
      | none =>
        match descOf addr with
        | some r => if r.allGo ∧ !a.guard ∧ r.fields ≠ [] then .openGo else .pass
        | none => .pass

/-- The access is the boot ROM's: before seal only the boot ROM executes, on RT0 and in the Guard world, and the
manifest does not check it (R336, R495). -/
def Dev.bootRom (d : Dev) (a : Acc) : Bool := d.boot.phase != .sealed && a.core == 0 && a.guard

/-- The core lies in a pair that is in reset (R356). -/
def Dev.coreHeld (d : Dev) (k : Nat) : Bool := k < 8 && (d.tan.held.contains (k / 2) || d.fld (TAN_PAIR_STS_STATE (k / 2)) == 3)

/-- A core makes the access (R328, R333, R354): before seal the boot ROM's alone; from then on a core that is no wheeler, on
behalf of Guard in the Guard world and of its owner in the Open world, and of no coach in reset or not yet started (R422,
R453); no core of a pair in reset (R356), and none while the Beyvo die is down. A core number from 12 up names no core. -/
def Dev.actsAs (d : Dev) (a : Acc) : Bool :=
  12 ≤ a.core || (d.frm.beyvoUp && (d.bootRom a ||
    (d.boot.phase == .sealed && !d.on (MAN_CORE_CFG_WHEELER a.core) && a.guard == d.inGuard a.core &&
      !d.coreHeld a.core && (a.guard || (a.owner == d.fld (MAN_CORE_CFG_OWNER a.core) && !d.frm.inReset.contains a.owner)))))

/-- A claim or an EOI at a local controller, which R354 lists apart from the bus requests. -/
def claimReg (addr : Nat) : Bool :=
  (List.range 24).any (fun k => addr == IRQ_LC_CLAIM (k / 2) (k % 2) || addr == IRQ_LC_EOI (k / 2) (k % 2))

/-- The access is the bus request of a leader that TAN_INJ falsifies (R364). -/
def Dev.injected (d : Dev) (a : Acc) (addr : Nat) : Bool :=
  a.core < 8 && !claimReg addr && a.core % 2 == 0 && d.tan.injBound.contains (a.core / 2) && d.fld (TAN_PAIR_STS_STATE (a.core / 2)) == 1

/-- The strongbox's store in the flash, which only the strongbox reads or writes (R414). -/
def flashStore (addr : Nat) : Bool :=
  (0x27F00000 ≤ addr && addr < 0x28000000) || (0x2FF00000 ≤ addr && addr < 0x30000000)

/-- What stops the boot ROM: an address that no region or window holds, the flash for writing, a down H-link. -/
def Dev.romCheck (d : Dev) (k : AccKind) (addr : Nat) : Verdict :=
  if (window addr).isSome then (if d.cutOff addr then .linkDown else .pass)
  else if 0x40000000 ≤ addr ∧ addr < 0x41000000 then .refuse false
  else if addr < 0x40000 ∨ (0x20000000 ≤ addr ∧ addr < 0x30000000 ∧ !flashStore addr) then
    (if k = .write then .refuse true else .pass)
  else if (pageIndex addr).isSome then .pass
  else .refuse true

/-- The check of a core's access to an address (R333–R335, R495, R497). -/
def checkAccess (m : Mem) (d : Dev) (a : Acc) (k : AccKind) (addr : Nat) : Verdict :=
  if !d.actsAs a then .nobody
  else if d.injected a addr then .falsified
  else if d.bootRom a then d.romCheck k addr
  else if 0x48000000 ≤ addr ∧ addr < 0x48900000 then
    let c := (addr - 0x48000000) / 0x100000
    if a.guard ∨ (c < 8 ∧ a.owner = c) then .pass else .refuse false
  else if 0x40000000 ≤ addr ∧ addr < 0x41000000 then
    match window addr with
    | none => .refuse false
    | some _ =>
      let e := d.pageEntry m (137216 + (addr - 0x40000000) / 4096)
      let v := if entryOwner e = 9 ∧ !entryGuard e then d.blockCheck a k addr
        else if pageAllows e a k then
          (match d.ruleOwner addr with
            | some _ => d.blockCheck a k addr
            | none => (match descOf addr with
              | some r => if r.allGo ∧ !a.guard ∧ r.fields ≠ [] then .openGo else .pass
              | none => .pass))
        else .refuse false
      if v = .pass ∧ d.cutOff addr then .linkDown else v
  else if 0x20000000 ≤ addr ∧ addr < 0x30000000 then
    (if a.guard ∧ k ≠ .write ∧ !flashStore addr then .pass else .refuse true)
  else
    match pageIndex addr with
    | some i => if pageAllows (d.pageEntry m i) a k then .pass else .refuse true
    | none => .refuse true

/-- The owner that stands in the record of an access: Guard for the Guard world. -/
def accWho (a : Acc) : Nat := if a.guard then 8 else a.owner

/-- The block ID of the register at an address, or MAN's where none is. -/
def blockId (addr : Nat) : Nat := ((window addr).map (·.1)).getD 0x05

/-- MAN_LAST_INFO.KIND (R335). -/
def kindCode : AccKind → Nat
  | .read => 0
  | .write => 1
  | .fetch => 2
  | .dma => 3

/-- What every refused access counts, latches, raises, reports and posts (R335). -/
def Dev.refused (d : Dev) (a : Acc) (k : AccKind) (addr : Nat) : Dev :=
  let d := (d.bump MAN_REFUSE_CNT).when (a.core < 12) (·.tallyC a.core 0x0D 1)
  let d := if d.on MAN_STS_REFUSED then d else
    (d.wrPair MAN_LAST_ADDR_LO MAN_LAST_ADDR_HI addr).wr MAN_LAST_INFO
      ((accWho a) + 16 * b2n a.guard + 32 * (kindCode k) + 256 * (a.core % 16))
  let d := (d.set MAN_STS_REFUSED).raiseIf MAN_INT_EN_REFUSED 360
  let d := d.fault 1 0x05 0x0001 (accWho a)
  d.postOnce 0x05 0x0001 1 (accWho a) (accWho a) [addr % 2 ^ 32, addr / 2 ^ 32, 1, 0] (some 2)

/-- A refused access of the fabric or of the cipher engine on behalf of an owner (R175, R335, R336). -/
def Dev.refuseDma (d : Dev) (o addr : Nat) : Dev := d.refused { owner := o, guard := o == 8, core := 15 } .dma addr

/-- A coach core enters the Guard world: the Open address and status are saved and the time limit starts
(R340, R341). -/
def Dev.enterGuard (d : Dev) (k : Nat) : Dev :=
  { (d.set (MAN_CORE_GINFO_IN_GUARD k)) with
    wld := { d.wld with
      saved := insertNat k d.wld.saved,
      glimit := tset 0 (d.up + 1000 * d.fld MAN_GLIMIT_US) k d.wld.glimit } }

/-- A core that runs the Open world of a coach and neither waits nor follows a leader. -/
def Dev.openCore (d : Dev) (k : Nat) : Bool :=
  d.fld (MAN_CORE_CFG_OWNER k) < 8 && !d.inGuard k && !d.on (MAN_CORE_CFG_WHEELER k) && !d.wld.waiting.contains k

/-- A synchronous exception of a core at an access; one that the Core Reference routes to the monitor takes a core in the
Open world into the Guard world (R335, R341; assumption 140). -/
def Dev.raiseExc (d : Dev) (k e : Nat) : Dev :=
  let open' := k < 12 && d.openCore k
  let d : Dev := { d with wld := { d.wld with exc := tset 0 e k d.wld.exc } }
  if open' && Config.toMonitor e then d.enterGuard k else d

/-- A refused access of a core (R335). -/
def Dev.refuse (d : Dev) (a : Acc) (k : AccKind) (addr : Nat) (busErr : Bool) : Dev :=
  let d := d.refused a k addr
  if busErr then
    d.busError.raiseExc a.core 2
  else d.returns 0

/-- The block whose clock or power an address gates (R345, R442). -/
def gatedBlock (addr : Nat) : Option Nat :=
  let p := addr / 0x1000
  let u := p % 16
  if (p / 16 = 0x4002 ∨ p / 16 = 0x4003) ∧ 1 ≤ u ∧ u ≤ 6 then some ([0x40, 0x41, 0x13, 0x14, 0x08, 0x70].getD (u - 1) 0) else none

/-- A posted write to the Heavia die is discarded while the H-link is down (R310). -/
def Dev.discarded (d : Dev) : Dev :=
  (((d.bump HLK_DISCARD_CNT).set HLK_STS_DISCARD).raiseIf HLK_INT_EN_EN 299).postOnce 0x50 0x0004 1 8 0 []

/-- What an access that the check does not pass does. -/
def Dev.turnedAway (d : Dev) (a : Acc) (k : AccKind) (addr : Nat) : Verdict → Dev
  | .pass => d
  | .refuse b =>
    let d := d.refuse a k addr b
    -- an Open-world write to a gate register also posts code 0x0007 with the gated block (R345)
    match gatedBlock addr with
    | some b => if k = .write ∧ !a.guard then d.post 0x05 0x0007 1 (accWho a) b else d
    | none => d
  | .notOwner => (d.fault 1 (blockId addr) 0 (accWho a)).returns 0
  | .openGo => (d.fault 1 (blockId addr) 0 (accWho a)).returns 0
  | .linkDown =>
    match k with
    | .write => d.discarded
    | _ => (d.fault 1 0x50 0 (accWho a)).busError.raiseExc a.core 2
  | .nobody => d
  | .falsified => d.boundary (a.core / 2) 0 true false false a.guard addr

/-- A write to a register that has a row of its own, as far as the check; `f` is the row's effect. -/
def Dev.regWrite (d : Dev) (m : Mem) (a : Acc) (addr : Nat) (f : Dev → Dev) : Dev :=
  match checkAccess m d a .write addr with
  | .pass => f d
  | v => d.turnedAway a .write addr v

/-- A read of a register that has a row of its own, as far as the check. -/
def Dev.regRead (d : Dev) (m : Mem) (a : Acc) (addr : Nat) (f : Dev → Dev) : Dev :=
  match checkAccess m d a .read addr with
  | .pass => f d
  | v => d.turnedAway a .read addr v

end Sys2Proof.Machine
end

