-- ==== Sys2Proof/Machine/FabBase.lean ====
section
/-! DEFINITION. What the fabric's parts share: port rates, depths, the buffer, the drain counters, the credit of
shaped classes, and the two forms of the CRC-32 (spec/05, spec/06). -/

namespace Sys2Proof.Machine

open R

/-! ### CRC-32 (R141, R156) -/

/-- One bit of the reflected CRC-32 of IEEE 802.3. -/
def crc32Bit (c : Nat) : Nat := if c % 2 = 1 then (c / 2) ^^^ 0xEDB88320 else c / 2

/-- One byte into the CRC register. -/
def crc32Byte (c b : Nat) : Nat :=
  crc32Bit (crc32Bit (crc32Bit (crc32Bit (crc32Bit (crc32Bit (crc32Bit (crc32Bit (c ^^^ (b % 256)))))))))

/-- The CRC-32 of a byte string, with its initial value and final inversion. -/
def crc32 (l : List Nat) : Nat := (l.foldl crc32Byte 0xFFFFFFFF) ^^^ 0xFFFFFFFF

/-- The FCS of a byte string as it stands on the wire. -/
def fcs (l : List Nat) : List Nat := leBytes 4 (crc32 l)

/-- The stomp code (R156): the bitwise inverse of the FCS. -/
def stompCode (l : List Nat) : List Nat := leBytes 4 (crc32 l ^^^ 0xFFFFFFFF)

/-! ### Ports (R129) -/

/-- The rates of FAB_PORTp_CFG.RATE in kb/s. -/
def rateOf : Nat → Nat
  | 1 => 10000
  | 2 => 100000
  | 3 => 1000000
  | 4 => 2500000
  | 5 => 5000000
  | 6 => 10000000
  | 7 => 76800000
  | _ => 0

/-- The present rate of a port in kb/s; the internal ports run at 76.8 Gb/s. -/
def Dev.rate (d : Dev) (p : Nat) : Nat := if 36 ≤ p then 76800000 else rateOf (d.fld (FAB_PORT_CFG_RATE p))

/-- A CAN or LIN port. -/
def busPort (p : Nat) : Bool := 16 ≤ p && p < 36

/-- The owner of a port: of an external port by its register, of a coach or Guard port by its kind (R108). -/
def Dev.portOwner (d : Dev) (p : Nat) : Nat :=
  if p < 36 then d.fld (PORT_CFG_OWNER p) else if p < 45 then p - 36 else 9

/-- The analysis port, while the tow mirror is ON (R208). -/
def Dev.towPort (d : Dev) : Option Nat :=
  if d.fld TOW_STS_STATE = 2 then some (d.fld TOW_L_ANALYSIS_PORT + 1) else none

/-- The tow mirror takes copies: it is ON and not clock-gated or powered off (R208, R442). -/
def Dev.towTakes (d : Dev) : Bool := d.towPort.isSome && !d.gated 4 0

/-- Both planes are out of service: the fabric forwards nothing (R131). -/
def Dev.fabDown (d : Dev) : Bool := d.fld FAB_STS_PLANE_UP == 0

/-! ### Cells (R130, R184) -/

def Frame.cells (f : Frame) : Nat := (f.bytes.length + 63) / 64

/-- Copies of one class at one port, in the order of their frames; those of a held duplicate are not admitted (R151). -/
def Dev.copiesAt (d : Dev) (p k : Nat) : List (Frame × Copy) :=
  (d.fab.frames.filter (fun f => !f.heldDup)).flatMap (fun f => (f.copies.filter (fun c => c.port == p && c.cls == k)).map (fun c => (f, c)))

/-- FAB_EQp_DEPTHk. -/
def Dev.depth (d : Dev) (p k : Nat) : Nat := ((d.copiesAt p k).map (fun x => x.1.cells)).sum

/-- FAB_BUF_FREE: a frame is stored once and holds its cells while a copy of it remains, or while it waits as a
duplicate (R151, R192). -/
def Dev.bufFree (d : Dev) : Nat :=
  98304 - ((d.fab.frames.filter (fun f => f.copies ≠ [] || f.heldDup)).map (·.cells)).sum

/-- Cells that wait for an endpoint queue (R178). -/
def Dev.queueCells (d : Dev) (q : Nat) : Nat :=
  (d.fab.frames.map (fun f => if !f.heldDup && f.copies.any (fun c => c.queue == some q) then f.cells else 0)).sum

/-- The drain counter of an epoch (R160). DESIGN CHOICE: the copies of a held duplicate, which are admitted when it is
released (R151), count from its lookup on (assumption 102). -/
def Dev.drainCount (d : Dev) (e : Nat) : Nat :=
  (d.fab.frames.map (fun f => if f.drains && f.wb.epoch == e then f.copies.length else 0)).sum

/-- FAB_BUF_LOW follows the lowest number of free cells. -/
def Dev.bufLow (d : Dev) : Dev :=
  if d.bufFree < d.fld FAB_BUF_LOW_CELLS then d.put FAB_BUF_LOW_CELLS d.bufFree else d

/-! ### Gates and credit (R63, R64, R186) -/

/-- The gate of a class at a port is open (R63, R64, R208). -/
def Dev.gateOpen (d : Dev) (p cls : Nat) : Bool :=
  d.towPort == some p ||
    (bit cls (tget 0xFF d.stg.gates p) &&
      !(d.stg.quiet ≠ [] && p < 16 && bit cls (d.fld STG_QUIET_CLASSES_CLASSES)))

/-- The class that port `p` transmits now. -/
def Dev.sendingClass (d : Dev) (p : Nat) : Option Nat :=
  (d.fab.frames.flatMap (·.copies)).find? (fun c => c.port == p && c.sending) |>.map (·.cls)

/-- The credit of a class now, from its credit at the last update (R186; 10^-6 bits). DESIGN CHOICE: at the analysis port of
a tow mirror that is ON the credits are not updated, and when the mirror turns off a class goes on from its credit at the
last update, with the time since counted (assumption 127). -/
def Dev.creditNow (d : Dev) (p k : Nat) : Int :=
  let c := tget { val := 0, at_ := 0 } d.fab.credit (8 * p + k)
  let dt : Int := (d.up - c.at_ : Nat)
  let idle : Int := d.rn (FAB_EQ_CBS p k)
  let r : Int := d.rate p
  let top : Int := if r = 0 then 0 else 73872000000 * idle / r
  let low : Int := if r = 0 then 0 else 73872000000 * (idle - r) / r
  if d.sendingClass p = some k then clampInt low top (c.val + (idle - r) * dt)
  else if d.depth p k = 0 ∧ 0 ≤ c.val then 0
  else if !d.gateOpen p k then c.val
  else if d.depth p k = 0 then clampInt low 0 (c.val + idle * dt)
  else clampInt low top (c.val + idle * dt)

/-- The credits of a port brought up to this instant: before every change of a gate, a queue or a transmission. -/
def Dev.shaper (d : Dev) (p : Nat) : Dev :=
  if d.towPort = some p then d
  else
    d.each ((List.range 8).filter (fun k => d.rn (FAB_EQ_CBS p k) ≠ 0)) (fun k d =>
      { d with fab := { d.fab with
          credit := tset { val := 0, at_ := 0 } { val := d.creditNow p k, at_ := d.up } (8 * p + k) d.fab.credit } })

end Sys2Proof.Machine
end

