-- ==== Sys2Proof/Machine/Irq.lean ====
section
/-! DEFINITION. Worlds and local interrupt controllers, as far as time passes with them: the Guard world, what a local
controller presents, and the entry that a presented Guard interrupt makes (R340, R341, R347–R349). -/

namespace Sys2Proof.Machine

open R

/-- The core returns to the Open world (R340). -/
def Dev.leaveGuard (d : Dev) (k : Nat) : Dev :=
  { (d.clr (MAN_CORE_GINFO_IN_GUARD k)) with
    wld := { d.wld with
      saved := d.wld.saved.filter (· ≠ k), glimit := tset 0 0 k d.wld.glimit } }

/-- A source pends at its local controller. -/
def Dev.pendingSrc (d : Dev) (src : Nat) : Bool := bit (src % 32) (d.rn (IRQ_PEND (src / 32)))

/-- A source is masked (R350). -/
def Dev.maskedSrc (d : Dev) (src : Nat) : Bool := bit (src % 32) (d.rn (IRQ_MASK (src / 32)))

/-- The source is routed to this core and world (R347). -/
def Dev.routedTo (d : Dev) (src k : Nat) (guard : Bool) : Bool :=
  d.fld (IRQ_ROUTE_CORE src) == k &&
    (if guard then d.fld (IRQ_ROUTE_OWNER src) == 8 else d.fld (IRQ_ROUTE_OWNER src) < 8)

/-- Priority of the dispatch line of a core: DISP_PRIO of its coach (R348); 0 into the Guard monitor
(assumption 7). -/
def Dev.dispPrio (d : Dev) (k : Nat) (guard : Bool) : Nat :=
  if guard then 0 else d.fld (MAN_COACH_CFG_DISP_PRIO (d.fld (MAN_CORE_CFG_OWNER k)))

/-- The priority of a source, 512 = the dispatch line. -/
def Dev.prioOf (d : Dev) (k : Nat) (guard : Bool) (src : Nat) : Nat :=
  if src = 512 then d.dispPrio k guard else d.fld (IRQ_ROUTE_PRIO src)

/-- The highest active priority of a core's world, 32 = none (R348). -/
def Dev.activePrio (d : Dev) (k : Nat) (guard : Bool) : Nat :=
  (d.wld.active.filter (fun x => x.1 == k && x.2.1 == guard)).foldl (fun p x => min p (d.prioOf k guard x.2.2)) 32

/-- The pending, unmasked sources of a core's world, the dispatch line among them. -/
def Dev.candidates (d : Dev) (k : Nat) (guard : Bool) : List Nat :=
  (List.range 376).filter (fun s => d.pendingSrc s && !d.maskedSrc s && d.routedTo s k guard) ++
    (if d.wld.dispatch.contains (k, guard) then [512] else [])

/-- The source that a local controller presents (R348, R349): lowest PRIO, then lowest number, below PMR and below
every active priority; Open sources only in the Open world, Guard sources not while Guard is re-measured (R344). -/
def Dev.presented (d : Dev) (k : Nat) (guard : Bool) : Option Nat :=
  if (guard && d.on (MAN_CORE_GINFO_REMEASURING k)) || (!guard && d.inGuard k) then none
  else
    (d.candidates k guard).foldl (fun b s =>
      if d.prioOf k guard s < d.fld (IRQ_LC_PMR_PMR k (b2n guard)) ∧ d.prioOf k guard s < d.activePrio k guard then
        (match b with
          | none => some s
          | some t => if d.prioOf k guard s < d.prioOf k guard t then some s else some t)
      else b) none

/-- A leader that runs, is not halted and does not wait executes from now on (R357). -/
def Dev.leaderGoes (d : Dev) (k : Nat) : Dev :=
  if k < 8 ∧ k % 2 = 0 ∧ d.wld.running.contains k ∧ !d.dbg.halted.contains k ∧ !d.wld.waiting.contains k then d.foldGo (k / 2)
  else d

/-- A dispatch line or an interrupt routed to the core is pending. -/
def Dev.coreCalled (d : Dev) (k : Nat) : Bool :=
  d.wld.dispatch.any (·.1 == k) ||
    (List.range 376).any (fun s => d.pendingSrc s && (d.routedTo s k true || d.routedTo s k false))

/-- A core no longer waits. -/
def Dev.coreGoes (d : Dev) (k : Nat) : Dev :=
  ({ d with wld := { d.wld with waiting := d.wld.waiting.filter (· ≠ k) } } : Dev).leaderGoes k

/-- Outside DROWSE no rail is in retention, and a core that waits goes on as soon as it is called (R430). -/
def Dev.wakeIdle (d : Dev) : Dev :=
  if d.fld PWRM_STATE_STATE = 1 then d
  else d.each d.wld.waiting (fun k d => if d.coreCalled k then d.coreGoes k else d)

/-- A Guard interrupt that is presented to a core in the Open world takes it into the Guard world (R341, R349). -/
def Dev.present (d : Dev) : Dev :=
  d.each d.wld.running (fun k d => if d.openCore k ∧ (d.presented k true).isSome then d.enterGuard k else d)

end Sys2Proof.Machine
end

