-- ==== Sys2Proof/Machine/Run.lean ====
section
/-! DEFINITION. How a command runs: time passes first, with the counters that count clock cycles (R459, R462), then
the command has its effect. -/

namespace Sys2Proof.Machine

open R

/-- A condition of the fabric clock holds over `n` cycles: LEVEL counters add `n` times `amount`, EDGE counters count
its assertion; an event that adds does so in either mode (R459). The counters run only where `counts` holds. -/
def Dev.tallyCond (d : Dev) (set : Nat → Nat) (cnt : List Nat) (count : Nat → Nat → Dev → Dev) (key n : Nat)
    (holds adds : Bool) (amount : Nat) (counts : Bool := true) : Dev :=
  if n = 0 then d
  else
  let was := d.tal.asserted.contains key
  let d := d.each cnt (fun c d =>
    let k := if !holds || !counts then 0 else if bit 1 (d.rn (set c)) || adds then n * amount else if was then 0 else 1
    count c k d)
  { d with tal := { d.tal with
    asserted := (if holds then insertNat key d.tal.asserted else d.tal.asserted.filter (· ≠ key)) } }

/-- A condition of a port. -/
def Dev.condP (d : Dev) (p ev n : Nat) (holds adds : Bool) (amount : Nat) : Dev :=
  d.tallyCond (TALLY_P_CTL p) [0, 1, 2, 3] (fun m k d => d.tallyAdd (TALLY_P_CTL p m) ev k
    ⟨TALLY_P_STS (p / 8), 4 * (p % 8) + m, 4 * (p % 8) + m⟩ 348 8 (0x200 + 4 * p + m)) (64 * ev + p) n holds adds amount

/-- A condition of the device. -/
def Dev.condD (d : Dev) (ev n : Nat) (holds : Bool) : Dev :=
  d.tallyCond TALLY_D_CTL (List.range 16) (fun m k d => d.tallyAdd (TALLY_D_CTL m) ev k ⟨TALLY_D_STS, m, m⟩ 349 8
    (0x100 + m)) (64 * ev) n holds false 1

/-- A core's clock cycles (R462), counted in the world that owns its page and unless they are frozen (R458, R459). -/
def Dev.condC (d : Dev) (core n : Nat) : Dev :=
  let o := d.fld (MAN_CORE_CFG_OWNER core)
  let runs := d.wld.running.contains core && !d.wld.waiting.contains core
  let counts := !d.on (TALLY_C_FREEZE_FREEZE core) && !d.on (MAN_CORE_CFG_WHEELER core) &&
    !(o != 8 && d.on (MAN_CORE_GINFO_IN_GUARD core))
  let d := d.smpCount core 0 (if runs then n else 0)
  d.tallyCond (TALLY_C_CTL core) (List.range 8) (fun m k d => d.tallyAdd (TALLY_C_CTL core m) 0 k
    ⟨TALLY_C_STS core, m, m⟩ (336 + core) o (16 * core + m)) core n runs false 1 counts

/-- The cycle events of `dt` ns that pass in this state: the fabric clock and the RT cores run at 1.2 GHz, the AP
cores at 2.0 GHz (R457, R462). -/
def Dev.tallyCycles (d : Dev) (dt : Nat) : Dev :=
  if !d.frm.beyvoUp ∨ !d.regs.any (fun r => r.1 / 65536 == 0x4007) then d
  else
    let n := (d.up + dt) * 6 / 5 - d.up * 6 / 5
    let d := d.each (List.range 12) (fun k d => d.condC k (if k < 8 then n else 2 * dt))
    let d := d.each (List.range 48) (fun p d =>
      let d := d.condP p 0x44 n ((List.range 8).any (fun k => !d.gateOpen p k)) false 1
      let d := d.condP p 0x45 n ((List.range 8).any (fun k => d.depth p k != 0)) false 1
      let h := (d.fab.held.filter (fun c => c.flow / 8 % 48 == p)).length
      d.condP p 0x48 n (h != 0) true h)
    (d.condD 0x80 n true).condD 0x82 n (decide (d.bufFree < 9830))

/-- Time passes before a command; a waiting core that is called goes on, and a Guard interrupt that is presented takes its core into the Guard world before it. -/
def Dev.pass (d : Dev) (dt : Nat) : Dev := (d.wakeIdle.present.tallyCycles dt).advance dt

/-- A command that changes neither memory nor the queue. `ok`: its operands name resources the device has. -/
def State.onDev (s : State) (dt : Nat) (ok : Bool) (f : Dev → Dev) : Host.Outcome State Fault Refusal :=
  if ok then .next { s with dev := f (s.dev.pass dt) } else .fault .noSuchResource

/-- The same for a command that reads memory. -/
def State.onDevM (s : State) (dt : Nat) (ok : Bool) (f : List Host.Cell → Dev → Dev) :
    Host.Outcome State Fault Refusal :=
  if ok then .next { s with dev := f s.mem (s.dev.pass dt) } else .fault .noSuchResource

/-- A command that may change memory. -/
def State.onAll (s : State) (dt : Nat) (ok : Bool) (f : List Host.Cell → Dev → Dev × List Host.Cell) :
    Host.Outcome State Fault Refusal :=
  if ok then
    let r := f s.mem (s.dev.pass dt)
    .next { s with dev := r.1, mem := r.2 }
  else .fault .noSuchResource

end Sys2Proof.Machine
end

