-- ==== Sys2Proof/Machine/Logbook.lean ====
section
/-! DEFINITION. The logbook's commands (spec/04, R115–R128). -/

namespace Sys2Proof.Machine

open R

/-- The eight words of a record (R115). -/
def Rec.words (r : Rec) : List Nat :=
  [r.time % 2 ^ 32, r.time / 2 ^ 32 % 2 ^ 32,
   r.frac % 256 * 2 ^ 24 + r.block % 256 * 2 ^ 16 + r.owner % 16 * 2 ^ 12 + r.sev % 4 * 2 ^ 10 + r.flags % 256,
   r.code % 65536 * 65536 + r.inst % 65536,
   r.data.getD 0 0 % 2 ^ 32, r.data.getD 1 0 % 2 ^ 32, r.data.getD 2 0 % 2 ^ 32, r.data.getD 3 0 % 2 ^ 32]

/-- The address of the record numbered `n` in the main logbook's ring (R120). -/
def ringAddr (n : Nat) : Nat := 0x11600000 + 32 * (n % 65536)

/-- A write that meets a full ring overwrites the oldest unread record (R121). DESIGN CHOICE: the first overwrite after a
reset posts code 0x0001 too, with no write of LOGB_RD_CNT before it (assumption 111). -/
def Dev.overwrite (d : Dev) : Dev :=
  if (d.rn LOGB_WR_CNT + 2 ^ 32 - d.rn LOGB_RD_CNT) % 2 ^ 32 = 65536 then
    let d := (((d.bump LOGB_RD_CNT).bump LOGB_OVW_CNT).set LOGB_STS_OVERWRITE).raiseIf LOGB_INT_EN_OVERWRITE 353
    if d.log.ovwPosted then d
    else ({ d with log := { d.log with ovwPosted := true } } : Dev).post 0x60 0x0001 0 9 0
  else d

/-- Source 352 while the unread records number at least THRESH, 0 = never (LOGB_CTL). -/
def Dev.logThresh (d : Dev) : Dev :=
  if d.fld LOGB_CTL_THRESH ≠ 0 ∧ d.fld LOGB_CTL_THRESH ≤ (d.rn LOGB_WR_CNT + 2 ^ 32 - d.rn LOGB_RD_CNT) % 2 ^ 32
  then d.raiseIf LOGB_INT_EN_THRESH 352 else d

/-- The oldest posted record is written in one burst, and LOGB_WR_CNT then increments (R120). -/
def execLogbookRecordWrite (dt : Nat) (s : State) : Host.Outcome State Fault Refusal :=
  s.onAll dt true fun m d =>
    match d.log.queue with
    | [] => (d, m)
    | r :: rest =>
      let m := Mem.setWords m (ringAddr (d.rn LOGB_WR_CNT)) r.words
      let d : Dev := { d with log := { d.log with queue := rest } }
      ((d.overwrite.bump LOGB_WR_CNT).logThresh, m)

/-- Code 0x0002 with the number dropped, once the queue has space (R122). -/
def execDroppedRecordsReport (dt : Nat) (s : State) : Host.Outcome State Fault Refusal :=
  s.onDev dt true fun d =>
    if d.log.dropped ≠ 0 ∧ d.log.queue.length < 64 then
      let n := d.log.dropped
      ({ d with log := { d.log with dropped := 0 } } : Dev).post 0x60 0x0002 1 9 0 [n]
    else d

/-- A software record of block 0x90 (R118). -/
def Dev.spostGo (d : Dev) (page v : Nat) : Dev :=
  let c := d.fld (LOGB_SPOST_CODE_CODE page)
  d.post 0x90 (c % 0x8000 + 0x8000) (min 1 (bits 1 0 v)) page (d.fld (LOGB_SPOST_CODE_INSTANCE page))
    [d.rn (LOGB_SPOST_D page 0), d.rn (LOGB_SPOST_D page 1), d.rn (LOGB_SPOST_D page 2),
     d.rn (LOGB_SPOST_D page 3)]

def execLogbSpostGo (dt : Nat) (a : Acc) (page v : Nat) (s : State) : Host.Outcome State Fault Refusal :=
  s.onDevM dt (page ≤ 8) fun m d => d.regWrite m a (LOGB_SPOST_GO page) (·.spostGo page v)

/-- Guard's consumed count: a count beyond LOGB_WR_CNT is ignored; any other is taken and re-arms code 0x0001 (R121).
DESIGN CHOICE: with counts that wrap, the 2^31 values behind LOGB_WR_CNT are not beyond it (assumption 83). -/
def Dev.logRdCnt (d : Dev) (v : Nat) : Dev :=
  if (d.rn LOGB_WR_CNT + 2 ^ 32 - v % 2 ^ 32) % 2 ^ 32 < 2 ^ 31 then
    ({ d with log := { d.log with ovwPosted := false } } : Dev).wr LOGB_RD_CNT v
  else d

def execLogbRdCntWrite (dt : Nat) (a : Acc) (v : Nat) (s : State) : Host.Outcome State Fault Refusal :=
  s.onDevM dt true fun m d => d.regWrite m a LOGB_RD_CNT (·.logRdCnt v)

/-! ### The always-on log (R124–R127) -/

/-- An always-on entry written; the copy of R128 takes each entry once, in the order of its last write. -/
def Dev.aoPut (d : Dev) (i : Nat) (r : Rec) (cut : Bool) : Dev :=
  { d with log := { d.log with ao := tset none (some (r, cut)) i d.log.ao, aoNew := d.log.aoNew.filter (· ≠ i) ++ [i] } }

/-- A record enters the write-once region while it has room, and the circular region from then on (R125). DESIGN CHOICE:
a fill while the Beyvo die is down is not reported later (assumption 81). -/
def Dev.aoWrite (d : Dev) (r : Rec) (cut : Bool) : Dev :=
  let fill := d.fld LOGB_AO_STS_WO_FILL
  if fill < 32 then
    let d := (d.aoPut fill r cut).put LOGB_AO_STS_WO_FILL (fill + 1)
    if fill + 1 = 32 ∧ d.frm.beyvoUp then
      ((d.set LOGB_STS_AO_WO_FULL).raiseIf LOGB_INT_EN_AO 355).post 0x60 0x0005 0 9 0
    else d
  else
    let i := d.fld LOGB_AO_STS_NEXT
    let d := if (tget none d.log.ao i).isSome then d.bumpF LOGB_AO_STS_OVW_CNT else d
    (d.aoPut i r cut).put LOGB_AO_STS_NEXT (if i = 255 then 32 else i + 1)

/-- The oldest record that waits in retention SRAM is written to the always-on log. -/
def execAlwaysOnWrite (dt : Nat) (cut : Bool) (s : State) : Host.Outcome State Fault Refusal :=
  s.onDev dt true fun d =>
    match d.log.aoQueue with
    | [] => d
    | r :: rest => ({ d with log := { d.log with aoQueue := rest } } : Dev).aoWrite r cut

/-- A write to LOGB_AO_IDX starts a fetch over the H-link (R124). -/
def Dev.aoFetch (d : Dev) (v : Nat) : Dev := (d.put LOGB_AO_IDX_IDX v).set LOGB_AO_ESTS_BUSY

def execAlwaysOnFetch (dt : Nat) (a : Acc) (v : Nat) (s : State) : Host.Outcome State Fault Refusal :=
  s.onDevM dt true fun m d => d.regWrite m a LOGB_AO_IDX (·.aoFetch v)

/-- The fetched entry arrives; a bad CRC sets CRC_ERR and posts code 0x0004 (R126). DESIGN CHOICE: the words of an entry
whose write was cut short read as those of the record it was to hold (assumption 82). -/
def Dev.aoFetched (d : Dev) : Dev :=
  let i := d.fld LOGB_AO_IDX_IDX
  let d := d.clr LOGB_AO_ESTS_BUSY
  match tget none d.log.ao i with
  | none =>
    (((d.clr LOGB_AO_ESTS_VALID).clr LOGB_AO_ESTS_CRC_ERR).each (List.range 8) (fun k d => d.wr (LOGB_AO_DATA k) 0))
  | some (r, cut) =>
    let d := (d.set LOGB_AO_ESTS_VALID).put LOGB_AO_ESTS_CRC_ERR (b2n cut)
    let d := d.each (List.range 8) (fun k d => d.wr (LOGB_AO_DATA k) (r.words.getD k 0))
    if cut then ((d.set LOGB_STS_AO_CRC).raiseIf LOGB_INT_EN_AO 355).post 0x60 0x0004 1 9 i else d

/-- The entry has crossed the H-link (R27); while that is down, the fetch stays BUSY (DESIGN CHOICE, assumption 139). -/
def execAlwaysOnFetchDone (dt : Nat) (s : State) : Host.Outcome State Fault Refusal :=
  s.onDev dt true fun d => if d.on LOGB_AO_ESTS_BUSY ∧ d.on HLK_STS_UP then d.aoFetched else d

/-- The record of a clear is the first after it (R127): it goes to the front of the records that wait. DESIGN CHOICE: where
16 wait already, the newest of them has no place left (R126, assumption 133). -/
def Dev.aoClearRecord (d : Dev) (scope : Nat) : Dev :=
  let r := d.mkRec 0x60 0x0003 0 9 scope [] 2
  let d : Dev := { d with log := { d.log with aoQueue := (r :: d.log.aoQueue).take 16 } }
  (if d.frm.beyvoUp then d.enqueue r else d).pend 0

/-- LOGB_AO_CLR (R127), a posted write to the Heavia die (R27, R310): the key, SEQ equal to WO_FILL and the scope of the command, or the write is ignored. -/
def Dev.aoClear (d : Dev) (v scope : Nat) : Dev :=
  if bits 15 0 v = 0xA0C1 ∧ bits 21 16 v = d.fld LOGB_AO_STS_WO_FILL ∧ bits 23 22 v = scope then
    if !d.on HLK_STS_UP then d.discarded else
    if scope = 0 then
      (({ d with log := { d.log with
          ao := d.log.ao.filter (fun e => 32 ≤ e.1), aoNew := d.log.aoNew.filter (32 ≤ ·) } } : Dev).clr
        LOGB_AO_STS_WO_FILL).aoClearRecord 0
    else
      (({ d with log := { d.log with ao := [], aoNew := [] } } : Dev).wr LOGB_AO_STS 0x2000).aoClearRecord 1
  else d

def execAoClearWriteOnce (dt : Nat) (a : Acc) (v : Nat) (s : State) : Host.Outcome State Fault Refusal :=
  s.onDevM dt true fun m d => d.regWrite m a LOGB_AO_CLR (·.aoClear v 0)

def execAoClearWholeLog (dt : Nat) (a : Acc) (v : Nat) (s : State) : Host.Outcome State Fault Refusal :=
  s.onDevM dt true fun m d => d.regWrite m a LOGB_AO_CLR (·.aoClear v 1)

end Sys2Proof.Machine
end

