-- ==== Sys2Proof/Machine/FabLookup.lean ====
section
/-! DEFINITION. The lookup (spec/05, R139–R148): the banks and their entries, the parser, the tables, and the
decision that they give together. -/

namespace Sys2Proof.Machine

open R

/-! ### Banks (R159, R166) -/

abbrev Bank := List (Nat × Word)

/-- The word of a bank at an offset of the shadow window. -/
def Bank.w (b : Bank) (off : Nat) : Nat := (tget 0 b off).toNat

/-- The indexes of a table, lowest first, whose word at offset `o` of the entry is not 0. -/
def Bank.used (b : Bank) (base size count o : Nat) : List Nat :=
  (b.filter (fun e => base ≤ e.1 && e.1 < base + size * count && (e.1 - base) % size == o)).map
    (fun e => (e.1 - base) / size)

/-- A bank of the device. -/
def Dev.bank (d : Dev) (i : Nat) : Bank := tget [] d.fab.banks i

/-- The bank that new lookups use. -/
def Dev.active (d : Dev) : Bank := d.bank (d.fld LKP_STS_ACTIVE_BANK)

/-- A 48-bit set or number from a low word and a high half. -/
def w48 (lo hi : Nat) : Nat := lo + 2 ^ 32 * (hi % 65536)

/-- The ports of a 48-bit set. -/
def portsOf (m : Nat) : List Nat := (List.range 48).filter (fun p => bit p m)

def Bank.port (b : Bank) (p i : Nat) : Nat := b.w (0x10000 + 16 * p + 4 * i)
def Bank.gate (b : Bank) (g i : Nat) : Nat := b.w (0x11000 + 128 * g + 4 * i)
def Bank.meter (b : Bank) (n i : Nat) : Nat := b.w (0x14000 + 32 * n + 4 * i)
def Bank.frer (b : Bank) (n i : Nat) : Nat := b.w (0x18000 + 16 * n + 4 * i)
def Bank.cls (b : Bank) (n i : Nat) : Nat := b.w (0x20000 + 64 * n + 4 * i)
def Bank.stream (b : Bank) (n i : Nat) : Nat := b.w (0x30000 + 64 * n + 4 * i)
def Bank.vlan (b : Bank) (n i : Nat) : Nat := b.w (0x50000 + 32 * n + 4 * i)
def Bank.can (b : Bank) (n i : Nat) : Nat := b.w (0x70000 + 32 * n + 4 * i)
def Bank.mac (b : Bank) (n i : Nat) : Nat := b.w (0xA0000 + 16 * n + 4 * i)

/-- Ports that carry an R-TAG in a FRER instance. -/
def Bank.rtagPorts (b : Bank) (i : Nat) : Nat := w48 (b.frer i 1) (b.frer i 2)

/-! ### The parser (R139) -/

/-- `n` bytes from `off` on, when they lie wholly within the first `depth` bytes. -/
def fieldAt (l : List Nat) (depth off n : Nat) : Option (List Nat) :=
  if off + n ≤ depth ∧ off + n ≤ l.length then some ((l.drop off).take n) else none

/-- The same as a number, first byte highest. -/
def numAt (l : List Nat) (depth off n : Nat) : Option Nat := (fieldAt l depth off n).map beNat

/-- The fields that the parser recognises. Addresses have octet 0 in their lowest byte, as the entries have. -/
structure Hdr where
  da : Option Nat
  sa : Option Nat
  /-- TPID and TCI of the lookup tag. -/
  tag : Option (Nat × Nat)
  rtag : Option Nat
  etype : Option Nat
  /-- 4, 6, or 0 for another protocol. -/
  ip : Nat
  dscp : Option Nat
  proto : Option Nat
  sip : Option Nat
  dip : Option Nat
  sport : Option Nat
  dport : Option Nat
deriving DecidableEq, Repr

/-- A VLAN tag stands at an offset. -/
def vlanAt (l : List Nat) (depth off : Nat) : Bool :=
  numAt l depth off 2 == some 0x8100 || numAt l depth off 2 == some 0x88A8

/-- The offset behind the VLAN tags: at most two are recognised. -/
def afterTags (l : List Nat) (depth : Nat) : Nat :=
  if vlanAt l depth 12 then (if vlanAt l depth 16 then 20 else 16) else 12

def parse (l : List Nat) (depth : Nat) : Hdr :=
  let t := afterTags l depth
  let hasR := numAt l depth t 2 == some 0xF1C1
  let e := if hasR then t + 6 else t
  let ety := numAt l depth e 2
  let p := e + 2
  let v := (numAt l depth p 1).map (· / 16)
  let ip := if ety = some 0x800 ∧ v = some 4 then 4 else if ety = some 0x86DD ∧ v = some 6 then 6 else 0
  let proto := if ip = 4 then numAt l depth (p + 9) 1 else if ip = 6 then numAt l depth (p + 6) 1 else none
  let l4 := if ip = 4 then p + 4 * ((numAt l depth p 1).getD 0 % 16) else p + 40
  let ports := proto = some 6 ∨ proto = some 17
  { da := (fieldAt l depth 0 6).map leNat
    sa := (fieldAt l depth 6 6).map leNat
    tag := if vlanAt l depth 12 then
        (numAt l depth 12 2).bind (fun a => (numAt l depth 14 2).map (fun b => (a, b))) else none
    rtag := if hasR then numAt l depth (t + 4) 2 else none
    etype := ety
    ip := ip
    dscp := if ip = 4 then (numAt l depth (p + 1) 1).map (· / 4)
      else if ip = 6 then (numAt l depth p 2).map (fun x => x / 64 % 64) else none
    proto := proto
    sip := if ip = 4 then (fieldAt l depth (p + 12) 4).map leNat
      else if ip = 6 then (fieldAt l depth (p + 8) 16).map leNat else none
    dip := if ip = 4 then (fieldAt l depth (p + 16) 4).map leNat
      else if ip = 6 then (fieldAt l depth (p + 24) 16).map leNat else none
    sport := if ports then numAt l depth l4 2 else none
    dport := if ports then numAt l depth (l4 + 2) 2 else none }

/-! ### The tables (R141–R145) -/

/-- The bucket of an address under a FID (R141). -/
def macBucket (da fid : Nat) : Nat := crc32 (leBytes 6 da ++ beBytes 2 fid) % 4096

/-- The index of the MAC entry of an address (R141). -/
def Bank.macFind (b : Bank) (da fid : Nat) : Option Nat :=
  let k := 4 * macBucket da fid
  [k, k + 1, k + 2, k + 3].find? (fun i =>
    bit 31 (b.mac i 1) && bits 27 16 (b.mac i 1) == fid && w48 (b.mac i 0) (b.mac i 1) == da)

/-- A stream identification entry matches (R143). -/
def Bank.streamMatch (b : Bank) (h : Hdr) (vid n : Nat) : Bool :=
  let w0 := b.stream n 0
  let en (k : Nat) : Bool := bit k (b.stream n 11)
  bits 15 4 w0 == vid &&
  (match bits 1 0 w0 with
    | 1 => h.da == some (w48 (b.stream n 1) (b.stream n 2))
    | 2 => h.sa == some (w48 (b.stream n 1) (b.stream n 2))
    | 3 =>
      let addr (k : Nat) : Nat :=
        if bit 21 w0 then b.stream n k + 2 ^ 32 * b.stream n (k + 1) + 2 ^ 64 * b.stream n (k + 2)
          + 2 ^ 96 * b.stream n (k + 3)
        else b.stream n k
      h.ip == (if bit 21 w0 then 6 else 4) && h.dip == some (addr 3) && h.sip == some (addr 7) &&
      (!en 14 || h.dscp == some (bits 13 8 (b.stream n 11))) &&
      (!en 15 || h.proto == some (bits 7 0 (b.stream n 11))) &&
      (!en 16 || h.dport == some (bits 31 16 (b.stream n 12))) &&
      (!en 17 || h.sport == some (bits 15 0 (b.stream n 12)))
    | _ => false)

/-- The lowest stream handle that matches (R143). -/
def Bank.streamFind (b : Bank) (h : Hdr) (vid : Nat) : Option Nat :=
  (b.used 0x30000 64 2048 0).find? (b.streamMatch h vid)

/-- One field of a classifier rule: with a mask bit set, the field must be present and equal under the mask. -/
def keyMatch (f : Option Nat) (key mask : Nat) : Bool :=
  mask == 0 || (match f with
    | some v => ((v ^^^ key) &&& mask) == 0
    | none => false)

/-- A classifier rule matches (R145, R166). -/
def Bank.clsMatch (b : Bank) (h : Hdr) (port vid pcp n : Nat) : Bool :=
  let k (i : Nat) : Nat := b.cls n i
  let m (i : Nat) : Nat := b.cls n (6 + i)
  let fld (f : Option Nat) (i hi lo : Nat) : Bool := keyMatch f (bits hi lo (k i)) (bits hi lo (m i))
  bit 0 (b.cls n 12) &&
  keyMatch h.da (w48 (k 0) (k 1)) (w48 (m 0) (m 1)) &&
  keyMatch h.sa (bits 31 16 (k 1) + 65536 * k 2) (bits 31 16 (m 1) + 65536 * m 2) &&
  fld h.etype 3 15 0 && fld (some vid) 3 27 16 && fld (some pcp) 3 30 28 &&
  fld (some (b2n h.tag.isSome)) 3 31 31 && fld (some port) 4 5 0 && fld h.dscp 4 11 6 && fld h.proto 4 19 12 &&
  fld (some (b2n (h.ip == 4))) 4 20 20 && fld (some (b2n (h.ip == 6))) 4 21 21 &&
  fld h.sport 5 15 0 && fld h.dport 5 31 16

/-- The lowest classifier rule that matches (R145). -/
def Bank.clsFind (b : Bank) (h : Hdr) (port vid pcp : Nat) : Option Nat :=
  (b.used 0x20000 64 512 48).find? (b.clsMatch h port vid pcp)

/-- Fields of a carriage (R134). -/
def carW (l : List Nat) (i : Nat) : Nat := leNat ((l.drop (4 * i)).take 4)
def carKind (l : List Nat) : Nat := carW l 0 % 256
def carDlen (l : List Nat) : Nat := bits 31 16 (carW l 0)
def carId (l : List Nat) : Nat := bits 28 0 (carW l 1)

/-- The payload lengths of R134. -/
def carLenOk (kind dlen : Nat) : Bool :=
  match kind with
  | 1 => dlen ≤ 8
  | 2 => dlen ≤ 64
  | 3 => 1 ≤ dlen && dlen ≤ 2048
  | 0x10 => dlen ≤ 8
  | _ => true

/-- A carriage of a listed KIND whose LEN is 16 plus its DLEN; any other is dropped at ingress (R134). -/
def carOk (l : List Nat) : Bool :=
  [1, 2, 3, 0x10].contains (carKind l) && carLenOk (carKind l) (carDlen l) && l.length == 16 + carDlen l

/-- The lowest CAN filter entry that matches a carriage (R144); a LIN carriage has no IDE. -/
def Bank.canFind (b : Bank) (l : List Nat) (port : Nat) (bus : Option Nat) : Option Nat :=
  (b.used 0x70000 32 4096 0).find? (fun n =>
    let w0 := b.can n 0
    bit 31 w0 && bits 5 0 (b.can n 2) == port &&
    ((bits 28 0 w0 ^^^ carId l) &&& bits 28 0 (b.can n 1)) == 0 &&
    bit 29 w0 == (carKind l != 0x10 && bit 8 (carW l 0)) && bit 30 w0 == (carKind l == 3) &&
    (!bit 11 (b.can n 2) || bus == some (bits 10 6 (b.can n 2))))

/-! ### The decision (R140, R142, R146) -/

/-- Why the lookup drops a frame. -/
inductive LDrop where
  | vlan      -- R140 step 1, R142: LKP_VLAN_DROP_CNT
  | rule      -- classifier DROP: LKP_CLS_DROP_CNT
  | mac       -- MAC entry DROP, or a CAN filter entry's DROP
  | canMiss   -- R144: LKP_CAN_MISS_CNT
deriving DecidableEq, Repr

structure Decision where
  drop : Option LDrop
  /-- The destination set before R140 step 5, and the VLAN whose membership step 5 asks for. -/
  dest : List Nat
  members : Option Nat
  untag : Nat
  cls : Nat
  /-- The stream handle of R146, and the match of the stream table (R110). -/
  stream : Option Nat
  idMatch : Option Nat
  vid : Nat
  pcp : Nat
  noExpress : Bool
  copyGuard : Bool
  rule : Option Nat
  rtag : Option Nat
  acf : Option Acf
deriving DecidableEq, Repr

/-- LOOKUP_DEPTH of a port. -/
def Bank.depth (b : Bank) (p : Nat) : Nat := if bit 20 (b.port p 0) then 128 else 64

/-- VID and PCP of a frame (R140 step 1): without a lookup tag, or with VID 0, the port's PVID. -/
def Bank.vidPcp (b : Bank) (p : Nat) (tag : Option (Nat × Nat)) : Nat × Nat :=
  match tag with
  | some (_, t) => (if t % 4096 = 0 then bits 11 0 (b.port p 0) else t % 4096, t / 8192 % 8)
  | none => (bits 11 0 (b.port p 0), bits 14 12 (b.port p 0))

/-- Step 1 of R140 drops the frame. DESIGN CHOICE: a frame with VID 0 counts as untagged for DROP_UNTAGGED and
DROP_TAGGED (assumption 87). -/
def Bank.vlanDrop (b : Bank) (p vid : Nat) (tag : Option (Nat × Nat)) : Bool :=
  let w := b.port p 0
  let untagged := tag.isNone || (tag.map (fun t => t.2 % 4096)) == some 0
  (bit 16 w && untagged) || (bit 17 w && !untagged) || !bit 12 (b.vlan vid 0) ||
    (bit 18 w && !bit p (w48 (b.vlan vid 1) (b.vlan vid 2)))

/-- The lookup of an Ethernet frame (R140–R146), without the stream functions. -/
def Bank.lookup (b : Bank) (p : Nat) (bytes : List Nat) : Decision :=
  let h := parse bytes (b.depth p)
  let vp := b.vidPcp p h.tag
  let vid := vp.1
  let fid := bits 11 0 (b.vlan vid 0)
  let base : Decision :=
    { drop := none, dest := [], members := some (w48 (b.vlan vid 1) (b.vlan vid 2)),
      untag := w48 (b.vlan vid 3) (b.vlan vid 4), cls := bits (3 * vp.2 + 2) (3 * vp.2) (b.port p 1),
      stream := none, idMatch := none, vid := vid, pcp := vp.2, noExpress := false, copyGuard := false, rule := none,
      rtag := h.rtag, acf := none }
  if b.vlanDrop p vid h.tag then { base with drop := some .vlan }
  else
    let rule := b.clsFind h p vid vp.2
    let a := (rule.map (fun r => b.cls r 12)).getD 0
    let sid := b.streamFind h vid
    let st := if rule.isSome ∧ bit 8 a then some (bits 19 9 a) else sid
    let mac := h.da.bind (fun da => b.macFind da fid)
    let bcast : Bool := h.da == some 0xFFFFFFFFFFFF
    let mcast := (h.da.getD 0) % 2 = 1
    let w0 := b.vlan vid 0
    let miss : Bool := mac.isNone && !bcast && ((bit 13 w0 && !mcast) || (bit 14 w0 && mcast))
    let macCls := match mac with
      | some i => if bit 19 (b.mac i 3) then bits 18 16 (b.mac i 3) else base.cls
      | none => base.cls
    let cls := if bit 3 a then bits 6 4 a else match st with
      | some n => if bit 20 (b.stream n 0) then bits 19 17 (b.stream n 0) else macCls
      | none => macCls
    let r := { base with rule := rule, stream := st, idMatch := sid, cls := cls, noExpress := bit 20 a,
                         copyGuard := bit 2 a }
    if bit 1 a then { r with drop := some .rule }
    else if bit 7 a then { r with dest := portsOf (w48 (b.cls (rule.getD 0) 13) (b.cls (rule.getD 0) 14)) }
    else match (st.filter (fun n => bit 22 (b.stream n 0))) with
      | some n => { r with dest := portsOf (w48 (b.stream n 15) (bits 31 16 (b.stream n 14))) }
      | none =>
        match (if bcast then none else mac) with
        | some i =>
          if bit 30 (b.mac i 1) then { r with drop := some .mac }
          else { r with dest := portsOf (w48 (b.mac i 2) (b.mac i 3)) }
        | none =>
          if miss then { r with drop := some .vlan }
          else { r with dest := portsOf (w48 (b.vlan vid 5) (b.vlan vid 6)) }

/-- The lookup of a carriage (R144): no VLAN, no stream, no classifier. -/
def Bank.lookupCar (b : Bank) (p : Nat) (bytes : List Nat) (bus : Option Nat) : Decision :=
  let base : Decision :=
    { drop := none, dest := [], members := none, untag := 0, cls := 0, stream := none, idMatch := none, vid := 0,
      pcp := 0, noExpress := false, copyGuard := false, rule := none, rtag := none, acf := none }
  match b.canFind bytes p bus with
  | none => { base with drop := some .canMiss }
  | some n =>
    let r := { base with
      cls := bits 14 12 (b.can n 2),
      acf := some { da := w48 (b.can n 5) (b.can n 6), vid := bits 27 16 (b.can n 4),
                    pcp := bits 30 28 (b.can n 4), uid := bits 31 16 (b.can n 6),
                    bus := bits 20 16 (b.can n 2) } }
    if bit 15 (b.can n 2) then { r with drop := some .mac }
    else { r with dest := portsOf (w48 (b.can n 3) (b.can n 4)) }

end Sys2Proof.Machine
end

