-- ==== Sys2Proof/Machine/Rewrite.lean ====
section
/-! DEFINITION. The bytes of a frame as they change at a port: the waybill tag of a trunk (R113, R114), VLAN tags
and R-TAGs (R149, R160), and IEEE 1722 (R135, R136). Frame bytes of this file are without FCS. -/

namespace Sys2Proof.Machine

open R

/-- The four words of a waybill (R106). -/
def Waybill.words (w : Waybill) : List Nat :=
  [w.time % 2 ^ 32,
   w.len % 2 ^ 15 + 2 ^ 15 * (w.cls % 8) + 2 ^ 18 * (w.port % 64) + 2 ^ 24 * (w.frac % 256),
   w.fseq % 2 ^ 32,
   w.flags % 65536 + 2 ^ 20 * (w.origin % 16) + 2 ^ 24 * (w.epoch % 256)]

/-- A waybill with a flag set. -/
def Waybill.flag (w : Waybill) (k : Nat) : Waybill := { w with flags := w.flags ||| 2 ^ k }

/-- The offset behind all VLAN tags of a frame. -/
def tagEnd (l : List Nat) : Nat := afterTags l l.length

/-- The waybill tag of a trunk (R113). -/
def trunkTag (w : Waybill) : List Nat := [0x88, 0xB5] ++ w.words.flatMap (beBytes 4)

/-- A frame with the waybill tag directly behind its VLAN tags (R113). -/
def insertTag (l : List Nat) (w : Waybill) : List Nat :=
  let n := tagEnd l
  l.take n ++ trunkTag w ++ l.drop n

/-- A frame carries a waybill tag behind its VLAN tags (R114). -/
def hasTag (l : List Nat) : Bool := numAt l l.length (tagEnd l) 2 == some 0x88B5 && tagEnd l + 18 ≤ l.length

/-- The 64-bit time nearest to `now` whose low half is `t`. DEDUCED: the TIME of a waybill tag is the low half of a device
time near the frame's arrival (R113, R135; assumption 126). -/
def widen32 (t now : Nat) : Nat :=
  let x := now - now % 2 ^ 32 + t % 2 ^ 32
  if x + 2 ^ 31 ≤ now then x + 2 ^ 32 else if now + 2 ^ 31 < x ∧ 2 ^ 32 ≤ x then x - 2 ^ 32 else x

/-- The words of the waybill tag of a frame. -/
def tagWords (l : List Nat) : List Nat :=
  (List.range 4).map (fun i => beNat ((l.drop (tagEnd l + 2 + 4 * i)).take 4))

/-- A frame without its waybill tag. -/
def removeTag (l : List Nat) : List Nat := l.take (tagEnd l) ++ l.drop (tagEnd l + 18)

/-- A frame with its lookup tag removed, rewritten or put in, as the copy's decision says (R140, R160). -/
def retag (l : List Nat) (untag : Bool) (vid pcp : Nat) : List Nat :=
  if vlanAt l l.length 12 then
    if untag then l.take 12 ++ l.drop 16
    else
      let tci := beNat ((l.drop 14).take 2)
      l.take 14 ++ beBytes 2 (tci / 4096 * 4096 + vid) ++ l.drop 16
  else if untag then l
  else l.take 12 ++ [0x81, 0x00] ++ beBytes 2 (pcp * 8192 + vid) ++ l.drop 12

/-- A frame with its R-TAG kept, removed, or carrying a sequence number (R149). -/
def reRtag (l : List Nat) (r : RTag) : List Nat :=
  let n := tagEnd l
  let bare := if numAt l l.length n 2 == some 0xF1C1 then l.take n ++ l.drop (n + 6) else l
  match r with
  | .keep => l
  | .strip => bare
  | .put s => bare.take n ++ [0xF1, 0xC1, 0, 0] ++ beBytes 2 s ++ bare.drop n

/-! ### PTP event messages (R89, R90) -/

/-- The offset of the PTP header of a PTP event message, with 0 = Ethernet, 4 or 6 for UDP (R89). -/
def ptpAt (l : List Nat) : Option (Nat × Nat) :=
  let h := parse l l.length
  let t := tagEnd l
  let e := if numAt l l.length t 2 == some 0xF1C1 then t + 6 else t
  let udp (k hdr : Nat) : Option (Nat × Nat) :=
    if h.proto = some 17 ∧ (h.dport = some 319 ∨ h.dport = some 320) then some (e + 2 + hdr + 8, k) else none
  let r := if h.etype = some 0x88F7 then some (e + 2, 0)
    else if h.ip = 4 then udp 4 (4 * ((l.getD (e + 2) 0) % 16))
    else if h.ip = 6 then udp 6 40 else none
  r.bind (fun x => if l.getD x.1 0 % 16 < 4 ∧ x.1 + 34 ≤ l.length then some x else none)

/-- The ones' complement sum of the 16-bit words of a byte string. -/
def onesSum : List Nat → Nat
  | a :: b :: r => (256 * a + b + onesSum r) % 65535
  | [a] => 256 * a
  | [] => 0

/-- A PTP event message with the residence time added to its correctionField (R89), or none when it stays as it is
and is counted as uncorrected (R90). `res` is in 2^-16 ns. -/
def ptpCorrect (l : List Nat) (at_ kind res : Nat) : Option (List Nat) :=
  let old := (l.drop (at_ + 8)).take 8
  let new := beBytes 8 (beNat old + res)
  let l1 := l.take (at_ + 8) ++ new ++ l.drop (at_ + 16)
  if kind = 4 then some (l1.take (at_ - 2) ++ [0, 0] ++ l1.drop at_)
  else if kind = 6 then
    let mlen := beNat ((l.drop (at_ + 2)).take 2)
    let ulen := beNat ((l.drop (at_ - 4)).take 2)
    if ulen < mlen + 10 then none
    else
      let tr := beNat ((l.drop (at_ + mlen)).take 2)
      let v := (tr + onesSum old + 65535 - onesSum new) % 65535
      some (l1.take (at_ + mlen) ++ beBytes 2 v ++ l1.drop (at_ + mlen + 2))
  else some l1

/-! ### IEEE 1722 (R135, R136; the ACF layouts of IEEE 1722-2016, assumption 21) -/

/-- `l` with zero bytes up to a multiple of four, and their number. -/
def pad4 (l : List Nat) : List Nat × Nat :=
  let n := (4 - l.length % 4) % 4
  (l ++ List.replicate n 0, n)

/-- The first two bytes of an ACF message: type and length in quadlets, which has 9 bits. -/
def acfHead (type quads : Nat) : List Nat :=
  beBytes 2 (type * 512 + (if quads < 512 then quads else Config.longAcf quads % 512))

/-- ntscf_data_length, of 11 bits. -/
def ntscfLen (n : Nat) : Nat := if n < 2048 then n else Config.longNtscf n % 2048

/-- The ACF message of a carriage (R135); `ts` is the device time of its SOF. -/
def acfMessage (car : List Nat) (bus ts : Nat) : List Nat :=
  let body := (car.drop 16).take (carDlen car)
  let p := pad4 body
  let fl (k : Nat) : Nat := b2n (bit k (carW car 0))
  match carKind car with
  | 3 => let q := pad4 car
         acfHead 0x05 (2 + q.1.length / 4) ++ beBytes 6 0x505248584C00 ++ q.1
  | 0x10 => acfHead 0x03 (3 + p.1.length / 4) ++ [p.2 * 64 + 32 + bus % 32, carW car 3 % 256] ++ beBytes 8 ts ++ p.1
  | k => acfHead 0x01 (4 + p.1.length / 4) ++
      [p.2 * 64 + 32 + 16 * fl 9 + 8 * fl 8 + 4 * fl 10 + 2 * b2n (k == 2) + fl 11, bus % 32] ++ beBytes 8 ts ++
      beBytes 4 (carId car) ++ p.1

/-- The IEEE 1722 frame of a carriage, without FCS (R135). -/
def acfFrame (car : List Nat) (a : Acf) (mac seq ts : Nat) (untag : Bool) : List Nat :=
  let msg := acfMessage car a.bus ts
  let l := leBytes 6 a.da ++ leBytes 6 mac ++ (if untag then [] else [0x81, 0x00] ++ beBytes 2 (a.pcp * 8192 + a.vid)) ++
    [0x22, 0xF0, 0x82] ++ beBytes 2 (0x8000 + ntscfLen msg.length) ++ [seq % 256] ++ leBytes 6 mac ++ beBytes 2 a.uid ++ msg
  l ++ List.replicate (60 - l.length) 0

/-- The number of the ACF messages that follow one another in a byte string; `n` bounds it. -/
def acfCount : Nat → List Nat → Nat
  | 0, _ => 0
  | n + 1, l =>
    let quads := beNat (l.take 2) % 512
    if l.length < 4 ∨ quads = 0 then 0 else 1 + acfCount n (l.drop (4 * quads))

/-- What an NTSCF frame holds (R136): the carriage of its first ACF message and its bus, the number of further messages,
and the Ethernet frame, without FCS, in which these go on. -/
structure AcfParts where
  car : List Nat
  bus : Option Nat
  more : Nat
  rest : List Nat
deriving DecidableEq, Repr

/-- The carriage and the bus of an ACF message that begins a byte string: none when it is of another type. -/
def acfCarriage (l : List Nat) : Option (List Nat × Option Nat) :=
  let at_ (k c : Nat) : Nat := beNat ((l.drop k).take c)
  let type := at_ 0 2 / 512
  let quads := at_ 0 2 % 512
  let f := at_ 2 1
  if type = 1 ∧ 4 ≤ quads then
    let body := (l.drop 16).take (4 * quads - 16 - f / 64)
    let kind := if bit 1 f then 2 else 1
    let flags := b2n (bit 3 f) + 2 * b2n (bit 4 f) + 4 * b2n (bit 2 f) + 8 * b2n (bit 0 f)
    some (leBytes 4 (kind + 256 * flags + 65536 * body.length) ++ leBytes 4 (at_ 12 4 % 2 ^ 29) ++
      leBytes 8 0 ++ body, some (at_ 3 1 % 32))
  else if type = 3 ∧ 3 ≤ quads then
    let body := (l.drop 12).take (4 * quads - 12 - f / 64)
    some (leBytes 4 (0x10 + 65536 * body.length) ++ leBytes 4 (at_ 3 1 % 64) ++ leBytes 4 0 ++
      leBytes 4 (at_ 3 1) ++ body, some (f % 32))
  else if type = 5 ∧ at_ 2 6 = 0x505248584C00 ∧ 6 ≤ quads then
    let car := (l.drop 8).take (4 * quads - 8)
    -- the padding behind the carriage is no part of it; a DLEN that does not fit leaves it as it is (R134)
    some (if car.length < 20 + carDlen car then car.take (16 + carDlen car) else car, none)
  else none

/-- An NTSCF frame taken apart (R136): none when the frame is another, or its first message is of another type. -/
def acfUnpack (l : List Nat) : Option AcfParts :=
  let n := tagEnd l
  let at_ (k c : Nat) : Nat := beNat ((l.drop k).take c)
  if at_ n 2 ≠ 0x22F0 ∨ at_ (n + 2) 1 ≠ 0x82 then none
  else
    let len := at_ (n + 3) 2 % 2048
    let msgs := (l.drop (n + 14)).take len
    match acfCarriage msgs with
    | none => none
    | some (car, bus) =>
      let tail := msgs.drop (4 * (beNat (msgs.take 2) % 512))
      let body := l.take (n + 3) ++ beBytes 2 (at_ (n + 3) 2 / 2048 * 2048 + tail.length) ++ (l.drop (n + 5)).take 9 ++ tail
      some { car := car, bus := bus, more := acfCount 512 tail, rest := body ++ List.replicate (60 - body.length) 0 }

end Sys2Proof.Machine
end

