-- ==== Sys2Proof/Machine/Stage.lean ====
section
/-! DEFINITION. The stage engine: windows, the snapshot, gate lists and STAGE_OUT (spec/02, R36–R65). The tick
itself stands in Tick.lean. -/

namespace Sys2Proof.Machine

open R

/-! ### The timetable (R36–R44) -/

/-- The stage number of the grid at a domain time (R36). -/
def stageNum (t period : Nat) : Nat := t / period % 2 ^ 32

/-- The phase of the present stage (R39). -/
def Dev.phase (d : Dev) : Nat := d.rn STG_NUM % 2 ^ d.fld STG_CTL_CYCLE_LOG2

/-- The kind of a timetable entry; entry 0 is fixed (R42). -/
def Dev.ttKind (d : Dev) (n : Nat) : Nat := if n = 0 then 3 else d.fld (STG_TT_CTL_KIND n)

/-- An entry applies in a phase (R44). -/
def Dev.ttApplies (d : Dev) (n ph : Nat) : Bool :=
  n == 0 || d.on (STG_TT_CTL_ALL_PHASES n) || d.fld (STG_TT_CTL_PHASE n) == ph

/-! ### Windows (R47–R50) -/

/-- The status register of an owner's windows: STG_CSTS of a coach, STG_GSTS of Guard. -/
def winSts (o : Nat) : Nat := if o < 8 then STG_CSTS o else STG_GSTS

/-- A pair whose leader the coach owns is DEGRADED (R50). -/
def Dev.pairDegraded (d : Dev) (c : Nat) : Bool :=
  (List.range 4).any (fun p => d.fld (MAN_CORE_CFG_OWNER (2 * p)) == c && d.fld (TAN_PAIR_STS_STATE p) == 2)

/-- A window is skipped: in the commit window (R244), and a coach's while it has not started (R420), is in reset, or
while its pair is DEGRADED (R50; assumption 11), on whichever core the window is. -/
def Dev.skipped (d : Dev) (o : Nat) : Bool :=
  2 ≤ d.fld SID_STS_STATE ||
    (o < 8 && (d.coachDown o || !d.on (SYS_COACH_STS_STARTED o) || d.pairDegraded o))

/-- A window of entry `n` starts (R47, R50). -/
def Dev.windowStart (d : Dev) (n : Nat) : Dev :=
  let kind := d.ttKind n
  if kind ≠ 1 ∧ kind ≠ 2 ∨ !d.ttApplies n d.phase ∨ d.stg.lastTick.isNone then d
  else
    let o := d.fld (STG_TT_CTL_OWNER n)
    let core := d.fld (STG_TT_CTL_CORE n)
    let sts := winSts o
    if d.skipped o then
      (((d.put ⟨sts, 15, 8⟩ n).set ⟨sts, 4, 4⟩).clr ⟨sts, 1, 1⟩)
    else
      let t := d.stg.lastTick.getD 0 + d.fld (STG_TT_START_NS n) + d.fld (STG_TT_LEN_NS n)
      let w : Win := { entry := n, owner := o, core := core, endAt := t, isOpen := true, awaits := true }
      let d : Dev := { d with stg := { d.stg with wins := w :: d.stg.wins } }
      let d := (((d.put ⟨sts, 15, 8⟩ n).clr ⟨sts, 4, 4⟩).clr ⟨sts, 2, 2⟩).clr ⟨sts, 1, 1⟩
      (d.updInWindow o).dispatch core (kind == 2)

/-- A window whose start offset is not 0 starts; those with start 0 open at the tick (R46). -/
def execWindowStart (dt n : Nat) (s : State) : Host.Outcome State Fault Refusal :=
  s.onDev dt (n < 256) fun d => 
    if d.fld (STG_TT_START_NS n) = 0 ∨ !d.inStage (d.fld (STG_TT_START_NS n)) then d else d.windowStart n

/-- The overrun counter of an owner, with its sticky wrap flag. -/
def Dev.countOverrun (d : Dev) (o : Nat) : Dev :=
  let sts := winSts o
  let d := if d.fld ⟨sts, 31, 16⟩ = 65535 then d.set ⟨sts, 3, 3⟩ else d
  d.bumpF ⟨sts, 31, 16⟩

/-- A stage overrun of a window (R49), or a Guard overrun (R50). -/
def Dev.overrun (d : Dev) (w : Win) : Dev :=
  let sev := if w.owner < 8 then d.fld (STG_COACH_CFG_OVR_SEV w.owner) else 2
  let d := (d.set STG_STS_OVERRUN).raiseIf STG_INT_EN_OVERRUN 21
  let d := (d.bump STG_OVR_CNT).countOverrun w.owner
  d.faultPost sev 0x21 0x0001 w.owner w.entry []
    { core := if w.owner = 8 then some w.core else none, cause := 1 }

/-- The oldest open window of entry `n`, the one that ends first; the list holds the newest first. -/
def Dev.oldestOpen (d : Dev) (n : Nat) : Option Win :=
  (d.stg.wins.filter (fun w => w.entry == n && w.isOpen)).getLast?

/-- The oldest open window of entry `n` ends (R49): a coach in reset raises no overrun. -/
def Dev.windowEnd (d : Dev) (n : Nat) : Dev :=
  match d.oldestOpen n with
  | none => d
  | some w =>
    let close (x : Win) : Win := { x with isOpen := false }
    let ws := modifyFirst (· == w) close d.stg.wins
    let d := ({ d with stg := { d.stg with wins := ws.filter (fun x => x.isOpen || x.awaits) } } : Dev)
    let d := d.updInWindow w.owner
    if w.awaits ∧ !(w.owner < 8 && d.coachDown w.owner) then d.overrun w else d

/-- The owner's windows that are open past their end have ended (R49), before its DONE arrives (R48). -/
def Dev.endPassed (d : Dev) (o : Nat) : Dev :=
  d.each ((d.stg.wins.filter (fun w => w.owner == o && w.isOpen && decide (w.endAt < d.domNs))).map (·.entry))
    (fun n d => d.windowEnd n)

/-- A write of DONE by an owner (R48–R50): it closes the owner's newest window that still awaits one. A window counts as
open until its end instant, also behind its DONE, so that a second write in it leaves no record. -/
def Dev.stgDone (d : Dev) (o v : Nat) : Dev :=
  if !bit 0 v then d
  else
    let d := d.endPassed o
    match d.stg.wins.find? (fun w => w.owner == o && w.awaits) with
    | none => if d.stg.wins.any (fun w => w.owner == o && w.isOpen) then d else d.post 0x21 0x0008 0 o o
    | some w =>
      let sts := winSts o
      let close (x : Win) : Win := { x with awaits := false }
      let ws := modifyFirst (· == w) close d.stg.wins
      let d := ({ d with stg := { d.stg with wins := ws.filter (fun x => x.isOpen || x.awaits) } } : Dev)
      if w.isOpen then (if d.fld ⟨sts, 15, 8⟩ = w.entry then d.set ⟨sts, 1, 1⟩ else d)
      else (d.set ⟨sts, 2, 2⟩).post 0x21 0x0002 0 o w.entry

def execStgDone (dt : Nat) (a : Acc) (c v : Nat) (s : State) : Host.Outcome State Fault Refusal :=
  s.onDevM dt (c < 8) fun m d => d.regWrite m a (STG_DONE c) (·.stgDone c v)

def execStgGdone (dt : Nat) (a : Acc) (v : Nat) (s : State) : Host.Outcome State Fault Refusal :=
  s.onDevM dt true fun m d => d.regWrite m a STG_GDONE (·.stgDone 8 v)

/-! ### Snapshots (R51–R55) -/

/-- The resources with a record in an owner's snapshot: channels, then LIO inputs. -/
def Dev.snapChans (d : Dev) (o : Nat) : List Nat := (List.range 40).filter (fun i => d.fld (CHAN_CFG_OWNER i) == o)
def Dev.snapLios (d : Dev) (o : Nat) : List Nat := (List.range 32).filter (fun i => d.fld (LIO_CFG_OWNER i) == o)

/-- A mask with the bits of a list set. -/
def maskOf (l : List Nat) : Nat := l.foldl (fun m i => m + 2 ^ i) 0

/-- The record of a channel (R54). -/
def ChanLatch.words (c : ChanLatch) : List Nat := [c.cur, c.volt, c.sts, c.tjDuty]

/-- The record of an LIO input (R54). -/
def LioLatch.words (i : Nat) (l : LioLatch) : List Nat :=
  [l.reading % 2 ^ 14 + 2 ^ 16 * (l.level % 2) + 2 ^ 24 * i, l.edges]

/-- The words of a snapshot buffer of an owner (R54). -/
def Dev.snapWords (d : Dev) (o num time flags : Nat) (cl : List (Nat × ChanLatch)) (ll : List (Nat × LioLatch)) :
    List Nat :=
  let cs := d.snapChans o
  let ls := d.snapLios o
  let cm := maskOf cs
  [num, time % 2 ^ 32, time / 2 ^ 32 % 2 ^ 32, flags, cm % 2 ^ 32, cm / 2 ^ 32, maskOf ls, num] ++
    cs.flatMap (fun i => (tget { cur := 0, volt := 0, sts := 0, tjDuty := 0 } cl i).words) ++
    ls.flatMap (fun i => (tget { reading := 0, level := 0, edges := 0 } ll i).words i)

/-- The snapshot of the last tick, written into the buffers of the coaches (R52, R53). -/
def Dev.snapWrite (d : Dev) (m : Mem) : Mem :=
  let num := d.rn STG_NUM
  ((List.range 8).filter (fun c => d.on (STG_COACH_CFG_SNAP_EN c))).foldl (fun m c =>
    Mem.setWords m (4096 * d.fld (STG_SNAP_BASE_PAGE c) + 0x800 * (num % 2))
      (d.snapWords c num (d.stg.lastTick.getD 0) d.stg.latchFlags d.stg.chanLatch d.stg.lioLatch)) m

/-- A snapshot that cannot cross the H-link (R55, R310). -/
def Dev.snapMiss (d : Dev) : Dev :=
  let d := (d.set STG_STS_SNAP_MISS).raiseIf STG_INT_EN_SNAP 23
  d.each ((List.range 8).filter (fun c => d.on (STG_COACH_CFG_SNAP_EN c))) (fun c d => d.post 0x21 0x0003 1 c c)

/-- `crossed`: no block of the snapshot has exhausted its retries. Before the first tick there is no snapshot. -/
def execSnapshotDelivery (dt : Nat) (crossed : Bool) (s : State) : Host.Outcome State Fault Refusal :=
  s.onAll dt true fun m d =>
    if d.stg.lastTick.isNone then (d, m)
    else if crossed ∧ d.on HLK_STS_UP then (d, d.snapWrite m) else (d.snapMiss, m)

/-! ### STAGE_OUT (R40) and gate lists (R62–R64) -/

/-- The falling edge of STAGE_OUT, WIDTH × 100 ns after the grid instant. -/
def execStageOutFall (dt : Nat) (s : State) : Host.Outcome State Fault Refusal :=
  s.onDev dt true fun d =>
    if d.inStage (100 * d.fld STG_OUT_CFG_WIDTH) then { d with stg := { d.stg with outHigh := false } } else d

/-- The ports that a kind 4 entry applies to (R62). -/
def Dev.gatePorts (d : Dev) (n : Nat) : List Nat :=
  if d.fld (STG_TT_CTL_PARAM n) = 0xFF then List.range 36 else [d.fld (STG_TT_CTL_PARAM n)]

/-- The kind 4 entries that apply in a phase and to a port. -/
def Dev.gateList (d : Dev) (p ph : Nat) : List Nat :=
  (List.range 256).filter (fun n => d.ttKind n == 4 && d.ttApplies n ph && (d.gatePorts n).contains p)

/-- An entry for all ports over which another of its start and phase, naming the port, holds (R62). -/
def Dev.overridden (d : Dev) (p ph n : Nat) : Bool :=
  d.fld (STG_TT_CTL_PARAM n) == 0xFF && (d.gateList p ph).any (fun m =>
    d.fld (STG_TT_CTL_PARAM m) == p && d.fld (STG_TT_START_NS m) == d.fld (STG_TT_START_NS n))

/-- Of two entries of one phase, the one that holds later: the higher start, and at equal starts the one that
names the port (R62). -/
def Dev.gateLater (d : Dev) (n n' : Nat) : Nat :=
  if d.fld (STG_TT_START_NS n) < d.fld (STG_TT_START_NS n') then n'
  else if d.fld (STG_TT_START_NS n') < d.fld (STG_TT_START_NS n) then n
  else if d.fld (STG_TT_CTL_PARAM n) = 0xFF then n' else n

/-- The gate mask of a port at an offset of a phase, from the entries of that phase at or before the offset. -/
def Dev.gateIn (d : Dev) (p ph off : Nat) : Option Nat :=
  ((d.gateList p ph).filter (fun n => d.fld (STG_TT_START_NS n) ≤ off)).foldl (fun b n =>
    match b with
    | none => some n
    | some n' => some (d.gateLater n' n)) none

/-- The grid has moved since the last tick (R60): the point of the cycle is then that of the domain time itself (R62). -/
def Dev.gridPhase (d : Dev) : Nat :=
  if d.stg.realigned then d.domNs / d.fld STG_PERIOD_NS_NS % 2 ^ d.fld STG_CTL_CYCLE_LOG2 else d.phase

/-- Nanoseconds since the start of the present phase; none before the first tick. -/
def Dev.gridOff (d : Dev) : Option Nat :=
  d.stg.lastTick.map (fun t => if d.stg.realigned then d.domNs % d.fld STG_PERIOD_NS_NS else d.domNs - t)

/-- The gate mask of a port at an offset of a phase: the last entry at or before that point of the cycle, else the
cycle's last entry; all open where the port has none (R63). -/
def Dev.gateAt (d : Dev) (p ph off : Nat) : Nat :=
  let M := 2 ^ d.fld STG_CTL_CYCLE_LOG2
  let r := (List.range M).foldl (fun (b : Option Nat) k =>
    if b.isSome then b
    else d.gateIn p ((ph + M - (k + 1)) % M) 0xFFFFFF) none
  match d.gateIn p ph off with
  | some n => d.fld (STG_TT_GATE_GATE n)
  | none =>
    match r with
    | some n => d.fld (STG_TT_GATE_GATE n)
    | none => 0xFF

/-- The gates of some ports take the state of their lists at an offset of a phase. -/
def Dev.setGates (d : Dev) (ports : List Nat) (ph off : Nat) : Dev :=
  let d := d.each ports (fun p d => d.shaper p)
  { d with stg := { d.stg with gates := ports.foldl (fun g p => tset 0xFF (d.gateAt p ph off) p g) d.stg.gates } }

/-- The flip of entry `n` (R41, R62). -/
def execGateListFlip (dt n : Nat) (s : State) : Host.Outcome State Fault Refusal :=
  s.onDev dt (n < 256) fun d =>
    match d.gridOff with
    | none => d
    | some off =>
      if d.ttKind n = 4 ∧ d.ttApplies n d.gridPhase ∧ d.fld (STG_TT_START_NS n) ≤ off then
        d.setGates (d.gatePorts n) d.gridPhase off
      else d

/-- A quiet entry starts, and ends after its length (R41, R64). -/
def execQuietStart (dt n : Nat) (s : State) : Host.Outcome State Fault Refusal :=
  s.onDev dt (n < 256) fun d =>
    match d.gridOff with
    | none => d
    | some off =>
      let start := d.fld (STG_TT_START_NS n)
      let stop := start + d.fld (STG_TT_LEN_NS n)
      if d.ttKind n = 5 ∧ d.ttApplies n d.gridPhase ∧ start ≤ off ∧ off < stop then
        let d := d.each (List.range 16) (fun p d => d.shaper p)
        { d with stg := { d.stg with quiet := tput n (d.domNs + (stop - off)) (terase n d.stg.quiet) } }
      else d

def execQuietEnd (dt n : Nat) (s : State) : Host.Outcome State Fault Refusal :=
  s.onDev dt (n < 256) fun d =>
    let d := d.each (List.range 16) (fun p d => d.shaper p)
    { d with stg := { d.stg with quiet := d.stg.quiet.filter (fun x => x.1 ≠ n || decide (d.domNs < x.2)) } }

end Sys2Proof.Machine
end

