-- ==== Sys2Proof/Machine/FabOps.lean ====
section
/-! DEFINITION. The shared operations of the fabric: regime, flips, drops, admission, samplers and mirror copies,
and the resolution of copies (spec/05, spec/06, spec/07). -/

namespace Sys2Proof.Machine

open R

/-! ### Frames -/

def Dev.frame (d : Dev) (id : Nat) : Option Frame := d.fab.frames.find? (·.id == id)

def Dev.modFrame (d : Dev) (id : Nat) (f : Frame → Frame) : Dev :=
  { d with fab := { d.fab with frames := d.fab.frames.map (fun x => if x.id = id then f x else x) } }

/-- The copy of a frame at a port. -/
def Frame.copy (f : Frame) (p : Nat) : Option Copy := f.copies.find? (·.port == p)

def Dev.modCopy (d : Dev) (id p : Nat) (g : Copy → Copy) : Dev :=
  d.modFrame id (fun f => { f with copies := f.copies.map (fun c => if c.port = p then g c else c) })

/-- The copies of all frames with their frames. -/
def Dev.allCopies (d : Dev) : List (Frame × Copy) := d.fab.frames.flatMap (fun f => f.copies.map (fun c => (f, c)))

/-- The copy that a port transmits or writes now. -/
def Dev.inProgress (d : Dev) (p : Nat) : Option (Frame × Copy) := d.allCopies.find? (fun x => x.2.port == p && x.2.sending)

/-- The bytes of a frame without its FCS. -/
def Frame.body (f : Frame) : List Nat := if f.kind = 0 then f.bytes.take (f.bytes.length - 4) else f.bytes

/-- The bytes that a truncated copy keeps of its own (assumption 90). -/
def keptBytes (f : Frame) (c : Copy) (l : List Nat) : List Nat :=
  match c.kept with
  | none => l
  | some n => l.take (l.length - (f.body.length - n))

/-- A copy is found bad, or truncated to `kept` bytes: its waybill says so, and that of a sample taken of it (R156,
R189, R199), and the sample holds no byte that the copy does not keep (R198). -/
def Dev.markBad (d : Dev) (id p : Nat) (kept : Option Nat) : Dev :=
  let d := d.modCopy id p (fun c => { c with
    bad := true, flags := c.flags ||| 1, kept := (match kept with
      | some n => some n
      | none => c.kept) })
  let cut (l : List Nat) : List Nat := match (d.frame id).bind (fun f => (f.copy p).map (fun c => (f, c))) with
    | some (f, c) =>
      let body := if busPort p then f.body else (tget { bytes := [], body := [], an := none, stomped := false } d.fab.wire p).body
      l.take (keptBytes f c body).length
    | none => l
  { d with fab := { d.fab with samples := d.fab.samples.map (fun s =>
      if s.frame = id ∧ s.port = some p ∧ !s.ready then { s with wb := s.wb.flag 0, bytes := cut s.bytes } else s) } }

/-- The key of a fabric flow (R187). -/
def flowKey (src port cls : Nat) : Nat := (src * 48 + port) * 8 + cls

def flowPort (key : Nat) : Nat := key / 8 % 48

/-! ### Regime (R157) and fabric faults (R131, R132) -/

/-- The regime follows its reasons. -/
def Dev.updRegime (d : Dev) : Dev :=
  let strict := d.on FAB_MODE_FORCED || d.on FAB_MODE_UNSYNC || d.on FAB_MODE_TEST || d.on FAB_MODE_RECOVERY
  if d.on FAB_MODE_REGIME = strict then d
  else ((d.put FAB_MODE_REGIME (b2n strict)).raiseIf FAB_INT_EN_MODE 129).post 0x10 0x0006 0 9 (b2n strict)
    [d.rn FAB_MODE / 16 % 16 * 16]

/-- A write of FAB_CTL. -/
def Dev.fabCtl (d : Dev) (v : Nat) : Dev :=
  ((d.put FAB_CTL_FORCE_STRICT v).put FAB_MODE_FORCED v).updRegime

/-- A fabric fault: RECOVERY holds for 1,000 stages from now. -/
def Dev.fabricFault (d : Dev) (code inst : Nat) : Dev :=
  let d := d.bump FAB_FAULT_CNT
  let d := ((d.set FAB_MODE_RECOVERY).put FAB_MODE_RECOVERY_LEFT 1000).updRegime
  (d.raiseIf FAB_INT_EN_FAULT 128).faultPost 1 0x10 code 9 inst

/-- UNSYNC ends at the first LOCKED or GRANDMASTER of a boot (R157). -/
def Dev.fabSynced (d : Dev) : Dev := (d.clr FAB_MODE_UNSYNC).updRegime

/-! ### Drops (R137, R193) -/

/-- The causes of R193. -/
inductive EDrop where
  | full | down | siding | gate | reset
deriving DecidableEq, Repr

def EDrop.idx : EDrop → Nat
  | .full => 0
  | .down => 1
  | .siding => 2
  | .gate => 3
  | .reset => 4

/-- The five counts of a stage in w4 to w6, two to a word, in the order of R193 (assumption 22). -/
def edropCount (k : Nat) (l : List Nat) : List Nat :=
  l.set (k / 2) (l.getD (k / 2) 0 + (if k % 2 = 0 then 1 else 65536))

/-- A failed copy is counted (R193). -/
def Dev.edrop (d : Dev) (p : Nat) (c : EDrop) : Dev :=
  let d := (d.bump (FAB_EDROP_FULL p + 4 * c.idx)).tallyP p 0x46 1
  (d.raiseIf FAB_EQ_INT_EN_DROP 133).postStage 0x10 0x0009 0 9 p (edropCount c.idx)

/-- The kind of a frame does not suit its egress port (R137). -/
def Dev.kindDrop (d : Dev) (f : Frame) (p : Nat) : Bool :=
  if !busPort p then false
  else if f.kind ≠ 1 then true
  else
    let k := carKind f.bytes
    if p < 28 then k = 0x10 || (k = 2 && !d.on (PORT_CAN_CFG_FD_EN p)) || (k = 3 && !d.on (PORT_CAN_CFG_XL_EN p))
    else k ≠ 0x10

/-! ### Endpoint queues: registers and status (R169, R182) -/

/-- The owner of queue q = 64 c + n; 512–527 are Guard's. -/
def qOwner (q : Nat) : Nat := q / 64
def qIdx (q : Nat) : Nat := q % 64

/-- The queues of the device. -/
def qOk (q : Nat) : Bool := q < 528

def Dev.qRole (d : Dev) (q : Nat) : Nat := d.fld (CQ_CFG_ROLE (qOwner q) (qIdx q))
def Dev.qHead (d : Dev) (q : Nat) : Nat := d.fld (CQ_HEAD_COUNT (qOwner q) (qIdx q))
def Dev.qTail (d : Dev) (q : Nat) : Nat := d.fld (CQ_TAIL_COUNT (qOwner q) (qIdx q))

/-- Posted descriptors of a queue. -/
def Dev.qPosted (d : Dev) (q : Nat) : Nat := (d.qTail q + 65536 - d.qHead q) % 65536

/-- The source of a queue's group: 144 + 8 c + g, and 134 or 135 for Guard (R182). -/
def qSource (q : Nat) : Nat :=
  if q < 512 then 144 + 8 * qOwner q + qIdx q / 8 else 134 + qIdx q / 8

/-- The bit of a queue in CQ_GRP_STS: an enabled condition of it is pending (R182). A completion stays pending until the
owner's next doorbell (assumption 91). -/
def Dev.qGroup (d : Dev) (q : Nat) : Dev :=
  let o := qOwner q
  let n := qIdx q
  d.put ⟨CQ_GRP_STS o (n / 8), n % 8, n % 8⟩
    (b2n ((d.on (CQ_INT_EN_STATUS o n) && d.rn (CQ_STS o n) / 256 != 0) ||
      (d.on (CQ_INT_EN_DONE o n) && d.fab.donePend.contains q)))

/-- A W1C bit of CQ_STS sets. -/
def Dev.qStatus (d : Dev) (q : Nat) (f : Nat → Nat → Fld) : Dev :=
  ((d.set (f (qOwner q) (qIdx q))).qGroup q).raiseIf (CQ_INT_EN_STATUS (qOwner q) (qIdx q)) (qSource q)

/-- A descriptor of a queue completes. -/
def Dev.qDone (d : Dev) (q : Nat) : Dev :=
  (({ d with fab := { d.fab with donePend := insertNat q d.fab.donePend } } : Dev).qGroup q).raiseIf
    (CQ_INT_EN_DONE (qOwner q) (qIdx q)) (qSource q)

/-- What is left of a queue's budget (R174, R180). -/
def Dev.budgetLeft (d : Dev) (q : Nat) : Int := tget 0 d.fab.budget q

/-- CQ_BUDGET_LEFT reads the remainder, signed 24-bit. -/
def Dev.setBudget (d : Dev) (q : Nat) (v : Int) : Dev :=
  ({ d with fab := { d.fab with budget := tset 0 v q d.fab.budget } } : Dev).put
    (CQ_BUDGET_LEFT_BYTES (qOwner q) (qIdx q)) (unsgn 24 v)

/-- Bytes are taken from a queue's budget, where it has one. -/
def Dev.budgetTake (d : Dev) (q len : Nat) : Dev :=
  if d.fld (CQ_BUDGET_BYTES (qOwner q) (qIdx q)) = 0 then d else d.setBudget q (d.budgetLeft q - len)

/-- A copy is being written into the descriptor at HEAD of a queue, which it has taken (R178). -/
def Dev.headTaken (d : Dev) (q : Nat) : Bool := d.allCopies.any (fun x => x.2.queue == some q && x.2.sending)

/-- EMPTY follows HEAD and TAIL. -/
def Dev.qEmpty (d : Dev) (q : Nat) : Dev := d.put (CQ_STS_EMPTY (qOwner q) (qIdx q)) (b2n (d.qHead q == d.qTail q))

/-- A copy is dropped at a queue (R178, R180). -/
def Dev.qDrop (d : Dev) (q : Nat) : Dev := (d.bump (CQ_DROP_CNT (qOwner q) (qIdx q))).qStatus q CQ_STS_DROP

/-- Budget exhausted in this stage (R174, R180). -/
def Dev.qBudgetPost (d : Dev) (q : Nat) : Dev := d.postOnce 0x10 0x000E 0 (qOwner q) q []

/-! ### Admission (R178, R180, R183, R184) -/

/-- The gate list of a port opens a class at some point of its cycle (R184). -/
def Dev.gateEverOpen (d : Dev) (p k : Nat) : Bool :=
  let l := (List.range (2 ^ d.fld STG_CTL_CYCLE_LOG2)).flatMap (fun ph =>
    (d.gateList p ph).filter (fun n => !d.overridden p ph n))
  d.towPort == some p || l.isEmpty || l.any (fun n => bit k (d.fld (STG_TT_GATE_GATE n)))

/-- Why a copy is not admitted, or none (R193 names exactly one cause). DESIGN CHOICE: where several hold, the order is
RESET, SIDING, DOWN, GATE, FULL (assumption 103). -/
def Dev.refuses (d : Dev) (c : Copy) : Option EDrop :=
  if (c.queue.map (fun q => d.dead.contains q || d.coachDown (qOwner q))).getD false then some .reset
  else if c.port < 36 ∧ d.fld (SID_PORT_STS_STATE c.port) ≠ 0 then some .siding
  else if c.port < 36 ∧ !d.on (PORT_STS_LINK c.port) then some .down
  else if !d.gateEverOpen c.port c.cls then some .gate
  else if d.bufFree < 145 ∨
      d.depth c.port c.cls ≥
        (if c.de then d.fld (FAB_EQ_DE_CELLS c.port c.cls) else d.fld (FAB_EQ_THR_CELLS c.port c.cls)) then some .full
  else none

/-- The cells that wait for a queue exceed the hold threshold of a copy (R178). -/
def Dev.qOverfull (d : Dev) (q : Nat) (de : Bool) : Bool :=
  decide ((if de then d.fld (CQ_THR_HOLD_DE (qOwner q) (qIdx q)) else d.fld (CQ_THR_HOLD (qOwner q) (qIdx q))) < d.queueCells q)

/-- A queue's budget is spent (R180). -/
def Dev.qSpent (d : Dev) (q : Nat) : Bool :=
  d.fld (CQ_BUDGET_BYTES (qOwner q) (qIdx q)) != 0 && decide (d.budgetLeft q ≤ 0)

/-- An endpoint queue refuses a copy: its cells exceed the hold threshold, its budget is spent, or it takes no
frames (R177, R178, R180). -/
def Dev.qRefuses (d : Dev) (c : Copy) : Option Bool :=
  match c.queue with
  | none => none
  | some q =>
    if d.qRole q ≠ 3 then some false
    else if d.qOverfull q c.de then some false
    else if d.qSpent q then some true
    else none

/-- A PTP event message of another device that the transparent clock serves: where its header lies (R89). -/
def Dev.tcEvent (d : Dev) (f : Frame) (l : List Nat) : Option (Nat × Nat) :=
  if d.on TIME_CTL_TC_EN ∧ f.kind = 0 ∧ f.wb.port < 16 then ptpAt l else none

/-- A PTP event message goes on uncorrected (R90). -/
def Dev.tcUncorrected (d : Dev) (p : Nat) : Dev := (d.set TIME_STS_TC_UNCORRECTED).post 0x20 0x000A 0 9 p

/-- A copy of frame `id` is admitted with the start number of its flow, or dropped and counted (R184, R187). -/
def Dev.admitCopy (d : Dev) (id : Nat) (c : Copy) : Dev :=
  match d.frame id with
  | none => d
  | some f =>
    if d.kindDrop f c.port then
      ((d.bump FAB_KIND_DROP_CNT).postOnce 0x10 0x0008 0 9 c.port [1] (some 0)).when (d.tcEvent f f.body).isSome
        (·.tcUncorrected c.port)
    else match d.refuses c with
      | some r => d.edrop c.port r
      | none =>
        match d.qRefuses c with
        | some budget =>
          let q := c.queue.getD 0
          let d := d.qDrop q
          (d.when budget (·.qBudgetPost q)).edrop c.port .full
        | none =>
          let d := ((d.shaper c.port).tallyP c.port 0x40 f.cells).tallyP c.port (if c.cut then 0x42 else 0x43) 1
          let k := flowKey f.src c.port c.cls
          let s := tget 0 d.fab.seq k
          (d.modFrame id (fun f => { f with
            copies := f.copies ++ [{ c with start := s }], flows := f.flows ++ [(k, s)] })).bufLow

/-- The counter of a flow advances by a number of cells (R187). -/
def Dev.advanceFlow (d : Dev) (k cells : Nat) : Dev :=
  { d with fab := { d.fab with seq := tset 0 ((tget 0 d.fab.seq k + cells) % 4096) k d.fab.seq } }

/-- At a frame's tail the counters of the flows advance in which its copies were admitted (R187). -/
def Dev.advanceFlows (d : Dev) (id : Nat) : Dev :=
  match d.frame id with
  | none => d
  | some f => d.each f.flows (fun x d => d.advanceFlow x.1 f.cells)

/-! ### Flips (R161–R165) -/

/-- A flip can take effect: no bank drains and the shadow is in place (R162, R163). DESIGN CHOICE: a flip requested in SYNC
with no bank draining waits for the shadow with PENDING = 1, BUSY = 0 and no code 0x0002 (assumption 125). -/
def Dev.canFlip (d : Dev) : Bool := d.fld LKP_STS_DRAIN_BANK == 3 && d.fld LKP_STS_SHADOW_BANK != 3

/-- The epoch that drains. -/
def Dev.oldEpoch (d : Dev) : Nat := (d.fld LKP_STS_EPOCH + 255) % 256

/-- The flip instant (R161, R165). -/
def Dev.doFlip (d : Dev) : Dev :=
  let a := d.fld LKP_STS_ACTIVE_BANK
  let s := d.fld LKP_STS_SHADOW_BANK
  let e := d.fld LKP_STS_EPOCH
  let n := d.drainCount e
  let d := (((d.put LKP_STS_ACTIVE_BANK s).put LKP_STS_EPOCH (e + 1)).put LKP_STS_DRAIN_BANK
    (if n = 0 then 3 else a)).put LKP_STS_SHADOW_BANK 3
  let d : Dev := { ((((d.set LKP_STS_SYNC).clr LKP_STS_PENDING).clr LKP_STS_BUSY).set LKP_STS_FLIP_DONE) with
    fab := { d.fab with sync := some (3 - a - s), flip := none, drainTicks := 0 } }
  let d := d.when (d.on FAB_MODE_RECOVERY) (·.put FAB_MODE_RECOVERY_LEFT 1000)
  (d.raiseIf LKP_INT_EN_FLIP 131).post 0x11 0x0001 0 9 ((e + 1) % 256) [e, n]

/-- A DRAINING bank whose counter has reached 0 becomes free, and a waiting immediate flip takes effect (R162,
R163). -/
def Dev.drained (d : Dev) : Dev :=
  if d.fld LKP_STS_DRAIN_BANK ≠ 3 ∧ d.drainCount d.oldEpoch = 0 then
    let d := (d.put LKP_STS_DRAIN_BANK 3).clr LKP_STS_BUSY
    if d.fab.flip = some 2 ∧ d.canFlip then d.doFlip else d
  else d

/-- A write to LKP_FLIP (R161, R162). -/
def Dev.flipWrite (d : Dev) (v : Nat) : Dev :=
  let mode := bits 1 0 v
  if bits 31 16 v ≠ 0xE90C ∨ mode = 0 ∨ mode = 3 then d
  else if d.on LKP_STS_PENDING then d.set LKP_STS_FLIP_REJ
  else if mode = 2 ∧ d.canFlip then d.doFlip
  else
    let d : Dev := { (d.set LKP_STS_PENDING) with fab := { d.fab with flip := some mode } }
    if d.fld LKP_STS_DRAIN_BANK ≠ 3 then (d.set LKP_STS_BUSY).post 0x11 0x0002 0 9 d.oldEpoch else d

/-- A flip at the tick takes effect (R161, R162). -/
def Dev.flipAtTick (d : Dev) : Dev := if d.fab.flip = some 1 ∧ d.canFlip then d.doFlip else d

/-! ### Samplers (R196–R199) -/

/-- The next value of a 32-bit LFSR with the polynomial of R197 (assumption 23). -/
def lfsrNext (l : Nat) : Nat :=
  l * 2 % 2 ^ 32 + (b2n (bit 31 l) + b2n (bit 21 l) + b2n (bit 1 l) + b2n (bit 0 l)) % 2

/-- The counter of a sampler takes a value; CNT shows its low 16 bits (assumption 92). -/
def Dev.setCount (d : Dev) (p k v : Nat) : Dev :=
  ({ d with fab := { d.fab with count := tset 0 v (8 * p + k) d.fab.count } } : Dev).put (OUTR_PORT_N_CNT p k) v

/-- The counter of a sampler is loaded (R197). -/
def Dev.reload (d : Dev) (p k : Nat) : Dev :=
  let n := d.fld (OUTR_PORT_N_N p k)
  if n = 0 then d.setCount p k 0
  else if !d.on (OUTR_PORT_CFG_LFSR p) then d.setCount p k n
  else
    let l := lfsrNext (tget 0 d.fab.lfsr p)
    let d : Dev := { d with fab := { d.fab with lfsr := tset 0 l p d.fab.lfsr } }
    d.setCount p k (1 + l * (2 * n - 1) / 2 ^ 32)

/-- The bytes that TRUNC lets a sample hold (R198). -/
def Dev.truncLen (d : Dev) (p : Nat) : Nat :=
  match d.fld (OUTR_PORT_CFG_TRUNC p) with
  | 0 => 64
  | 1 => 128
  | _ => 256

/-- The sampler of a class at a port counts a frame; the frame that takes it to 0 is selected (R196, R197). -/
def Dev.sample (d : Dev) (p k point : Nat) (egress : Option Nat) (id : Nat) (bytes : List Nat) (wb : Waybill) : Dev :=
  if 44 ≤ p ∨ d.fld (OUTR_PORT_CFG_POINT p) ≠ point ∨ d.fld (OUTR_PORT_N_N p k) = 0 ∨ d.towPort = some p ∨
      d.gated 3 0 then d
  else if tget 0 d.fab.count (8 * p + k) ≤ 1 then
    let s : Sample :=
      { dest := if d.on (OUTR_PORT_CFG_DEST_EN p) then d.fld (OUTR_PORT_CFG_DEST p) else 4 + d.fld (OUTR_PORT_CFG_DEST p),
        cls := k, bytes := bytes.take (d.truncLen p), wb := wb.flag 4, frame := id, port := egress, ready := false,
        bad := false, waiting := false }
    ({ d with fab := { d.fab with samples := d.fab.samples ++ [s] } } : Dev).reload p k
  else d.setCount p k (tget 0 d.fab.count (8 * p + k) - 1)

/-! ### Buffers in memory (R175) -/

/-- The fabric or the cipher engine may use a page for an owner: it is the owner's, or for a read is marked shared-read, with
R or W and fabric-DMA set (R175). -/
def dmaPage (e o : Nat) (write : Bool) : Bool :=
  entryDma e &&
    (if write then entryOwner e == o && entryW e
     else (entryOwner e == o || entryShared e || entryOwner e == 0xE) && entryR e)

/-- The first address of a buffer that an owner may not use (R175); each page is checked. -/
def Dev.dmaFault (d : Dev) (m : Mem) (o addr len : Nat) (write : Bool) : Option Nat :=
  (List.range (((addr + len - 1) / 4096 + 1) - addr / 4096)).findSome? (fun i =>
    let a := (addr / 4096 + i) * 4096
    if (pageIndex a).any (fun k => dmaPage (d.pageEntry m k) o write) then none else some (max addr a))

/-- An owner may use a buffer (R175). -/
def Dev.dmaOk (d : Dev) (m : Mem) (o addr len : Nat) (write : Bool) : Bool := (d.dmaFault m o addr len write).isNone

/-! ### Bytes at egress (R135, R160, R198) -/

/-- A copy as it is handed to its MAC, without FCS; `seq` is the sequence_num of R135. -/
def egressBytes (f : Frame) (c : Copy) (seq : Nat) : List Nat :=
  if c.mirror then f.body
  else match f.kind with
    | 0 => if c.queue.isSome ∧ !f.drains then f.body else reRtag (retag f.body c.untag f.vid f.pcp) c.rtag
    | 1 =>
      match c.acf with
      | some a => if c.port < 16 then acfFrame f.bytes a (Config.portMac c.port) seq f.wb.time c.untag else f.bytes
      | none => f.bytes
    | _ => f.bytes

/-! ### Descriptors in memory (R168, R170, R175) -/

def Dev.ringSize (d : Dev) (q : Nat) : Nat := 2 ^ d.fld (CQ_CFG_SIZE_LOG2 (qOwner q) (qIdx q))

/-- The address of the descriptor that a count names. -/
def Dev.descAddr (d : Dev) (q k : Nat) : Nat :=
  d.pair (CQ_BASE_LO (qOwner q) (qIdx q)) (CQ_BASE_HI (qOwner q) (qIdx q)) % 2 ^ 34 + 32 * (k % d.ringSize q)

/-- The word of the descriptor at HEAD. -/
def Dev.headWord (d : Dev) (m : Mem) (q i : Nat) : Nat := Mem.word m (d.descAddr q (d.qHead q) + 4 * i)

/-- The buffer of a descriptor. -/
def descBuf (d0 d1 : Nat) : Nat := d0 + 2 ^ 32 * (d1 % 4)

/-- The bytes of a copy that have arrived are written into the buffer at HEAD, which it has taken (R152, R178). -/
def Dev.partWrite (d : Dev) (m : Mem) (f : Frame) (c : Copy) (q : Nat) : Mem :=
  let d1 := d.headWord m q 1
  Mem.setBytes m (descBuf (d.headWord m q 0) d1) ((egressBytes f c 0).take (min (64 * c.passed) (bits 29 16 d1)))

/-! ### Mirror copies (R207–R210) -/

/-- The legacy bit of a port (R202). -/
def legacyBit (p : Nat) (m : Nat) : Bool := 2 ≤ p && p < 14 && bit (p - 2) m

/-- The flow entries select a frame (R207). -/
def Dev.towFlow (d : Dev) (vid pcp : Nat) : Bool :=
  d.fld TOW_L_FLOW_EN_EN == 0 ||
    (List.range 4).any (fun i => bit i (d.fld TOW_L_FLOW_EN_EN) && d.fld (TOW_L_FLOW_VID i) == vid &&
      (!d.on (TOW_L_FLOW_PCP_EN i) || d.fld (TOW_L_FLOW_PCP i) == pcp))

/-- A mirror copy is admitted at the analysis port, or dropped (R208–R210). `body` is without FCS. -/
def Dev.mirror (d : Dev) (body : List Nat) (bad : Bool) (src : Nat) : Dev :=
  match (if d.towTakes then d.towPort else none) with
  | none => d
  | some p =>
    let f : Frame :=
      { id := d.fab.next, kind := 0,
        wb := { time := 0, frac := 0, port := src, cls := 7, len := body.length + 4, fseq := 0, epoch := 0,
                origin := 9, flags := 0 },
        bytes := body ++ [0, 0, 0, 0], src := src, vid := 0, pcp := 0, stream := none, rcv := none, heldDup := false,
        drains := false, looked := true, tail := true, fcsOk := true, icvOk := true, maxSdu := 0, wire := 0,
        eth := 0, inTs := 0, tagged := false, sendQ := none, attempted := [], delivered := [], flows := [], mir := none,
        rest := none, copies := [] }
    let full : Bool := d.fld (SID_PORT_STS_STATE p) != 0 || !d.on (PORT_STS_LINK p) || decide (d.bufFree < 145) ||
      decide (d.fld (FAB_EQ_THR_CELLS p 7) ≤ d.depth p 7)
    if full then
      let d := ((d.bump TOW_DROP_CNT).put TOW_L_DROP_CNT_VALUE (d.fld TOW_L_DROP_CNT_VALUE + 1)).set TOW_STS_DROP
      ((d.set TOW_L_STS_OVERRUN).raiseIf TOW_INT_EN_DROP 139).postOnce 0x14 0x0004 0 9 (d.fld TOW_L_ANALYSIS_PORT) [1]
        (some 0)
    else
      let c : Copy :=
        { port := p, cls := 7, de := false, queue := none, start := 0, passed := f.cells, cut := false,
          thresh := 0, early := false, readyAt := d.up, sending := false, bad := bad, kept := none, flags := 0, untag := true, rtag := .keep, acf := none,
          mirror := true }
      (({ d with fab := { d.fab with next := d.fab.next + 1, frames := d.fab.frames ++ [{ f with copies := [c] }] } } :
        Dev).bufLow).tallyP p 0x40 f.cells

/-! ### Resolution of copies (R160, R192, R194) -/

/-- A frame with no copy left is gone; one that was replicated from an endpoint queue owes a receipt (R194). -/
def Dev.settle (d : Dev) (id : Nat) : Dev :=
  match d.frame id with
  | none => d
  | some f =>
    if f.looked ∧ f.tail ∧ !f.heldDup ∧ f.copies = [] then
      let d : Dev := { d with fab := { d.fab with frames := d.fab.frames.filter (·.id ≠ id) } }
      match f.sendQ with
      | some q =>
        if 2 ≤ f.attempted.length then
          { d with fab := { d.fab with receipts := d.fab.receipts ++
              [{ sendQ := q, attempted := f.attempted, delivered := f.delivered, wb := f.wb }] } }
        else d
      | none => d
    else d

/-- The tail of a sampled frame or copy has been checked (R199). -/
def Dev.sampleTail (d : Dev) (id : Nat) (egress : Option Nat) (bad : Bool) : Dev :=
  { d with fab := { d.fab with samples := d.fab.samples.map (fun s =>
      if s.frame = id ∧ s.port = egress ∧ !s.ready then { s with ready := true, bad := bad } else s) } }

/-- The egress mirror copy of a copy that a source was transmitting (R207); its bytes are those of POINT 1. -/
def Dev.egressMirror (d : Dev) (id p : Nat) (bad : Bool) : Dev :=
  match (d.frame id).bind (fun f => (f.copy p).map (fun c => (f, c))) with
  | some (f, c) =>
    if c.sending ∧ bit 5 c.flags then
      d.mirror (keptBytes f c (tget { bytes := [], body := [], an := none, stomped := false } d.fab.wire p).body) bad f.wb.port
    else d
  | none => d

/-- A CAN transmit buffer that holds a frame is free again (R227). -/
def Dev.unload (d : Dev) (id p : Nat) : Dev :=
  { d with prt := { d.prt with canBuf := tset [] ((tget [] d.prt.canBuf p).filter (·.frame ≠ id)) p d.prt.canBuf } }

/-- The copy of a frame at a port leaves or is dropped; a sample or a mirror copy of a copy that is dropped in
transmission is bad (R199, R209). -/
def Dev.resolve (d : Dev) (id p : Nat) (delivered : Bool) : Dev :=
  let d := ((d.shaper p).sampleTail id (some p) (!delivered)).egressMirror id p (!delivered)
  let d := d.modFrame id (fun f => { f with
    copies := f.copies.filter (·.port ≠ p),
    delivered := if delivered then insertNat p f.delivered else f.delivered })
  ((d.unload id p).settle id).drained

/-- Every copy that meets `pr` is dropped with a cause of R193. -/
def Dev.flush (d : Dev) (pr : Frame → Copy → Bool) (c : EDrop) : Dev :=
  d.each (d.fab.frames.filter (fun f => !f.heldDup)) (fun f d => d.each (f.copies.filter (pr f)) (fun x d => (d.edrop x.port c).resolve f.id x.port false))

/-- The egress queues of a port are flushed, with the copy in transmission (R186). -/
def Dev.flushPort (d : Dev) (p : Nat) (c : EDrop) : Dev := d.flush (fun _ x => x.port == p) c

end Sys2Proof.Machine
end

