-- ==== Sys2Proof/Machine/Fabric.lean ====
section
/-! DEFINITION. The commands of the fabric and the lookup (spec/05), and of the resequencer (spec/06, R187–R191). -/

namespace Sys2Proof.Machine

open R

/-! ### Ingress (R108, R112, R114, R130, R212, R220, R221, R237, R238) -/

/-- The siding state that governs a frame which began at a time-stamp: a change takes effect at the next frame boundary
(R240). It is the state that the first change behind the time-stamp has left. -/
def Dev.sidAt (d : Dev) (p ts256 : Nat) : Nat :=
  match (d.prt.sidWas.filter (fun x => x.1 == p && decide (ts256 < x.2.2))).getLast? with
  | some (_, was, _) => was
  | none => d.fld (SID_PORT_STS_STATE p)

/-- An error counter of a port, frozen outside ACTIVE (R239). -/
def Dev.portErr (d : Dev) (p reg : Nat) : Dev :=
  if d.on (SID_PORT_STS_FROZEN p) then d
  else ((d.bump reg).set (PORT_STS_ERR p)).raiseIf (PORT_INT_EN_ERR p) (33 + 2 * p)

/-- A 48-bit or 64-bit counter of a port, by its _LO and _HI registers. -/
def Dev.addPair (d : Dev) (lo hi w k : Nat) : Dev := d.wrPair lo hi ((d.pair lo hi + k) % 2 ^ w)

/-- A received frame is counted (PORT_RX_FRM, PORT_RX_BYTE). -/
def Dev.statRx (d : Dev) (p bytes : Nat) : Dev :=
  (d.addPair (PORT_RX_FRM_LO p) (PORT_RX_FRM_HI p) 48 1).addPair (PORT_RX_BYTE_LO p) (PORT_RX_BYTE_HI p) 64 bytes

/-- The same, with its bytes in the bandwidth window in which its last one passes (R466). -/
def Dev.countRx (d : Dev) (p bytes : Nat) : Dev := (d.bwIn p bytes).statRx p bytes

/-- A transmitted frame is counted; the bandwidth window sums the waybill's LEN on an internal port (R466). -/
def Dev.countTx (d : Dev) (p bytes len : Nat) : Dev :=
  ((d.bwOut p (if p < 36 then bytes else len)).addPair (PORT_TX_FRM_LO p) (PORT_TX_FRM_HI p) 48 1).addPair (PORT_TX_BYTE_LO p) (PORT_TX_BYTE_HI p) 64 bytes

/-- The EtherType behind the VLAN tags. -/
def etherType (l : List Nat) : Nat := beNat ((l.drop (tagEnd l)).take 2)

/-- A frame, without its waybill tag, that passes a MACsec port unprotected (R221); the time base's own messages do not
come here. -/
def Dev.msecBypass (d : Dev) (p : Nat) (l : List Nat) : Bool :=
  let e := etherType l
  let b := d.rn (PORT_MSEC_BYPASS p)
  e == 0x888E || (e != 0 && (e == b % 65536 || e == b / 65536))

/-- The port runs a SecY (R220). -/
def Dev.msecOn (d : Dev) (p : Nat) : Bool := p < 6 && d.on (PORT_MSEC_CFG_EN p)

/-- The receive SC of an SCI: `sci` has octet 0 in its lowest byte. -/
def Dev.rxSc (d : Dev) (p sci : Nat) : Option Nat :=
  (List.range 8).find? (fun s =>
    let v := d.pair (PORT_MSEC_RXSCI_LO p s) (PORT_MSEC_RXSCI_HI p s)
    v != 0 && v == sci)

def Dev.msecCnt (d : Dev) (p k : Nat) : Dev := d.bump (PORT_MSEC_CNT p k)

/-- The bytes of a SecTAG and an ICV: 32 with the SCI in the SecTAG, 24 without (R212, R220). -/
def Dev.secBytes (d : Dev) (p : Nat) : Nat := if d.on (PORT_MSEC_CFG_INCLUDE_SCI p) then 32 else 24

/-- What the SecY makes of a received frame: pass with or without CRYPT, bad at its tail, or discard (R220–R222). A
frame outside the replay window is discarded whatever VALIDATE is (DEDUCED, assumption 93). PRESUMED: as IEEE 802.1AE-2018
has it, so is a frame whose SecTAG is malformed, and an encrypted frame (C bit) that cannot be decrypted or whose ICV is
wrong (assumption 93). -/
inductive SecVerdict where
  | pass (crypt : Bool)
  | bad
  | discard
deriving DecidableEq, Repr

def Dev.secVerify (d : Dev) (p : Nat) (l : List Nat) (sec : Option SecTag) : SecVerdict × Dev :=
  let v := d.fld (PORT_MSEC_CFG_VALIDATE p)
  let strict (enc : Bool) : SecVerdict := if v = 2 ∨ enc then .discard else .pass false
  if !d.msecOn p ∨ (sec.isNone ∧ d.msecBypass p l) then (.pass false, d)
  else match sec with
    | none => (strict false, d.msecCnt p 10)
    | some t =>
      if t.badTag then (.discard, d.msecCnt p 11)
      else match d.rxSc p t.sci with
        | none => if v = 0 ∧ !t.enc then (.pass false, d.msecCnt p 5) else (strict t.enc, d.msecCnt p 9)
        | some s =>
          let key := 64 * p + 8 + 4 * s + t.an
          if !d.on (PORT_MSEC_RXSA_IN_USE p s t.an) ∨ !d.on (PORT_MSEC_RXSA_KEYED p s t.an) then
            (strict t.enc, d.msecCnt p 9)
          else
            let sa := tget { key := [], pn := 1, ssci := 0, slot := 0 } d.msec key
            let late : Bool := d.on (PORT_MSEC_CFG_REPLAY_PROTECT p) &&
              decide (t.pn + d.rn (PORT_MSEC_WIN p) < sa.pn)
            if late then (.discard, d.msecCnt p 6)
            else if !t.icvOk ∧ (v = 2 ∨ t.enc) then (.bad, d.msecCnt p 8)
            else if v = 0 then (.pass false, d.msecCnt p 5)
            else if !t.icvOk then (.pass false, d.msecCnt p 7)
            else
              let sa' := { sa with pn := max sa.pn (t.pn + 1) }
              (.pass true, ({ d with msec := tset { key := [], pn := 1, ssci := 0, slot := 0 } sa' key d.msec } : Dev).msecCnt p 4)

/-- The waybill flags that a trunk tag may bring (R114). -/
def trunkFlags : Nat := 0b111101000011

/-- The plane next in turn at an ingress port after a number of cells: they alternate while both planes are in service, and
else all take the remaining one (R130, R131). -/
def Dev.nextTurn (d : Dev) (t cells : Nat) : Nat :=
  match d.fld FAB_STS_PLANE_UP with
  | 1 => 0
  | 2 => 1
  | 3 => (t + cells) % 2
  | _ => t

/-- A frame enters the fabric: it gets its waybill and its handle (R108, R114, R130). -/
def Dev.enter (d : Dev) (f : Frame) : Dev :=
  let f := { f with id := d.fab.next }
  let p := f.wb.port
  let d := d.when (36 ≤ p) (·.bwIn p f.wb.len)
  { d with fab := { d.fab with
      next := d.fab.next + 1
      frames := d.fab.frames ++ [f]
      turn := tset 0 (d.nextTurn (tget 0 d.fab.turn p) f.cells) p d.fab.turn } }

/-- A plain frame of this instant that enters at a port (R108). -/
def Dev.newFrame (d : Dev) (p src kind owner ts256 : Nat) (bytes : List Nat) : Frame :=
  { id := 0, kind := kind,
    wb := { time := ts256 / 256, frac := ts256 % 256, port := p, cls := 0, len := bytes.length, fseq := 0,
            epoch := d.fld LKP_STS_EPOCH, origin := owner, flags := 512 * b2n d.unsync },
    bytes := bytes, src := src, vid := 0, pcp := 0, stream := none, rcv := none, heldDup := false, drains := true, looked := false,
    tail := false, fcsOk := true, icvOk := true, maxSdu := 0, wire := bytes.length,
    eth := (if kind = 0 then bytes.length else 0), inTs := ts256, tagged := false, sendQ := none,
    attempted := [], delivered := [], flows := [], mir := none, rest := none, copies := [] }

/-- 802.1AS messages belong to the time base: a PTP message over Ethernet of an enabled domain (R85, R89). DESIGN CHOICE: the
domainNumber alone says that a message belongs to the domain, whatever its majorSdoId (assumption 122). -/
def Dev.isPtp (d : Dev) (l : List Nat) : Bool :=
  etherType l == 0x88F7 &&
    (List.range 4).any (fun k => d.on (TIME_DOM_CFG_EN k) && d.fld (TIME_DOM_CFG_NUMBER k) == l.getD (tagEnd l + 6) 0)

/-- The FCS of a frame that the MAC received is right. -/
def fcsRight (bytes : List Nat) (sec : Option SecTag) : Bool :=
  match sec with
  | none => bytes.drop (bytes.length - 4) == fcs (bytes.take (bytes.length - 4))
  | some t => t.fcsOk

/-- An ingress copy of the tow mirror is owed for a frame, without its waybill tag, that arrives at a source (R207). -/
def Dev.ingressMirrored (d : Dev) (p : Nat) (l : List Nat) : Bool :=
  let tag := (parse l 128).tag
  d.towTakes && legacyBit p (d.fld TOW_L_ING_SRC_PORTS) &&
    d.towFlow ((tag.map (fun t => t.2 % 4096)).getD 0) ((tag.map (fun t => t.2 / 8192 % 8)).getD 0)

/-- A frame at the MAC of an Ethernet port. One that ends here is mirrored at once, any other at its tail (R207). The
analysis port discards and counts whatever it receives (R208). DESIGN CHOICE: an untagged frame at a trunk counts in
PORT_UNTAG_CNT when it enters the fabric, so not one that the time base takes, that MACsec discards or that arrives in IGNORE
(assumption 123). -/
def Dev.frameIngress (d : Dev) (p ts256 : Nat) (bytes : List Nat) (sec : Option SecTag) : Dev :=
  let wire := bytes.length + (match sec with
    | none => 0
    | some _ => d.secBytes p)
  let st := d.sidAt p ts256
  let trunk : Bool := d.on (PORT_CFG_TRUNK p) && d.towPort != some p
  let tagged := trunk && hasTag bytes
  let inner := if tagged then removeTag bytes else bytes
  let body := inner.take (inner.length - 4)
  let fcsOk := fcsRight bytes sec
  let m := d.ingressMirrored p inner
  let isTow : Bool := d.towPort == some p
  if !d.on (PORT_STS_LINK p) ∨ d.portOwner p = 15 ∨ 2 ≤ st ∨ 2 ≤ d.fld (SID_PORT_STS_STATE p) then d
  else
    let d := d.when isTow (·.bump TOW_EXCL_CNT)
    if wire < 64 then (d.portErr p (PORT_RX_LEN_ERR p)).when m (·.mirror body true p)
    else if st = 1 then
      let d := (d.countRx p wire).when m (·.mirror body (!fcsOk) p)
      (if d.isPtp bytes ∧ d.on (SID_PORT_CFG_KEEP_PTP p) ∧ !isTow then d else d.bump (SID_PORT_IGN_CNT p))
    else if isTow then d.countRx p wire
    else if sec.isNone ∧ d.isPtp bytes then (d.countRx p wire).when m (·.mirror body (!fcsOk) p)
    else
      let r := (d.statRx p wire).secVerify p inner sec
      let d := r.2
      match r.1 with
      | .discard => (d.bwIn p wire).when m (·.mirror body (!fcsOk) p)
      | v =>
        if d.isPtp bytes then (d.bwIn p wire).when m (·.mirror body (!fcsOk || v == .bad) p) else
        let d := d.when (trunk && !tagged) (·.bump (PORT_UNTAG_CNT p))
        let f := d.newFrame p p 0 (d.portOwner p) ts256 inner
        let tw := tagWords bytes
        let wb := if tagged then
            { f.wb with time := widen32 (tw.getD 0 0) (ts256 / 256), frac := tw.getD 1 0 / 2 ^ 24, fseq := tw.getD 2 0,
                        flags := f.wb.flags ||| (tw.getD 3 0 % 65536 &&& trunkFlags) }
          else f.wb
        let wb := if v = .pass true then wb.flag 10 else wb
        let wb := if m then wb.flag 5 else wb
        d.enter { f with wb := wb, fcsOk := fcsOk, icvOk := v ≠ .bad, wire := wire, tagged := tagged,
                         mir := if m then some body else none }

/-! ### Stream functions and FRER (R147–R151) -/

/-- The buckets of a meter, filled up to this instant: full at first use (R147, assumption 24). -/
def Dev.meterNow (d : Dev) (b : Bank) (n : Nat) : Meter :=
  let capC := 8000000 * bits 23 0 (b.meter n 1)
  let capE := 8000000 * bits 23 0 (b.meter n 3)
  match (d.fab.meters.find? (fun x => x.1 == n)) with
  | none => { c := capC, e := capE, at_ := d.up }
  | some (_, m) =>
    let dt := d.up - m.at_
    let c := m.c + dt * b.meter n 0
    let spill := if bit 1 (b.meter n 4) then c - capC else 0
    { c := min capC c, e := min capE (m.e + dt * b.meter n 2 + spill), at_ := d.up }

/-- The colour of a frame: 0 = green, 1 = yellow, 2 = red, and the buckets after it (R147). -/
def Meter.mark (m : Meter) (len : Nat) : Nat × Meter :=
  let n := 8000000 * len
  if n ≤ m.c then (0, { m with c := m.c - n })
  else if n ≤ m.e then (1, { m with e := m.e - n })
  else (2, m)

/-- The list entries of a stream gate that hold: those up to LAST whose offset is above that of the one before (R148). -/
def Bank.gateEntries (b : Bank) (g : Nat) : List Nat :=
  let off (k : Nat) : Nat := bits 27 0 (b.gate g (2 + 2 * k))
  (List.range (bits 3 1 (b.gate g 0) + 1)).filter (fun i => i == 0 || decide (off (i - 1) < off i))

/-- The length of the timetable cycle and the place in it (R39, R148). -/
def Dev.cycleLen (d : Dev) : Nat := 2 ^ d.fld STG_CTL_CYCLE_LOG2 * d.fld STG_PERIOD_NS_NS

/-- The list entry of a stream gate at a place of the cycle: the last whose offset it has reached (R148). -/
def Bank.gateAt (b : Bank) (g pos : Nat) : Nat :=
  ((b.gateEntries g).filter (fun i => decide (bits 27 0 (b.gate g (2 + 2 * i)) ≤ pos))).getLast?.getD 0

/-- The list entries of a stream gate 4 ns ago and in 4 ns: within that of a grid instant the change comes with its
command, and else at the instant (R148). -/
def Dev.gateRange (d : Dev) (b : Bank) (g : Nat) : Nat × Nat :=
  let n := d.cycleLen
  (b.gateAt g ((d.domNs + n - 4) % n), b.gateAt g ((d.domNs + 4) % n))

/-- A stream gate's present list entry (R148): its state word and its class word. -/
def Dev.gateEntry (d : Dev) (b : Bank) (g : Nat) : Nat × Nat :=
  let r := d.gateRange b g
  let i := if tget 0 d.fab.sgate g = r.2 then r.2 else r.1
  (b.gate g (2 + 2 * i), b.gate g (3 + 2 * i))

def Dev.qci (d : Dev) (s k : Nat) : Dev := d.bump (LKP_QCI_CNT s k)

/-- The stream filter, gate and meter of a frame (R147): whether it is dropped, its class and whether it is
drop-eligible. `cut`: a copy of it would be cut through, so its length falls under R156. -/
def Dev.streamFilter (d : Dev) (b : Bank) (s len cls : Nat) (cut : Bool) : Bool × Nat × Bool × Dev :=
  let w13 := b.stream s 13
  let sdu := bits 31 18 w13
  if sdu ≠ 0 ∧ sdu < len ∧ !cut then (true, cls, false, d.qci s 1)
  else
    let g := bits 14 9 w13
    let run : Bool := bit 16 w13 && bit 0 (b.gate g 0)
    let e := d.gateEntry b g
    if run ∧ !bit 28 e.1 then (true, cls, false, d.qci s 2)
    else
      let cls := if run ∧ bit 3 e.2 then bits 2 0 e.2 else cls
      let n := bits 8 0 w13
      if bit 17 w13 ∧ bit 0 (b.meter n 4) then
        let r := (d.meterNow b n).mark len
        let d : Dev := { d with fab := { d.fab with
          meters := tput n r.2 (terase n d.fab.meters) } }
        if r.1 = 2 ∨ (r.1 = 1 ∧ bit 2 (b.meter n 4)) then (true, cls, false, d.qci s 3)
        else (false, cls, r.1 == 1, d.qci s 0)
      else (false, cls, false, d.qci s 0)

/-- What sequence recovery answers for a frame (R150, R151). -/
inductive RecVerdict where
  | pass
  | discard
  | duplicate
deriving DecidableEq, Repr

def Dev.frerCnt (d : Dev) (i k : Nat) : Dev := d.bump (LKP_FRER_CNT i k)

def Dev.setFrer (d : Dev) (i : Nat) (r : FrerRec) : Dev :=
  { d with fab := { d.fab with frer := tset FrerRec.reset r i d.fab.frer } }

/-- Shift a history of `h` bits once: lost counts a bit that leaves unset (R150). -/
def shiftHist (h : Nat) (new : Bool) (x : List Bool × Nat) : List Bool × Nat :=
  ((new :: x.1).take h, if (h ≤ x.1.length) ∧ x.1.getD (h - 1) true = false then x.2 + 1 else x.2)

/-- The vector recovery algorithm (R150); a duplicate is counted as discarded when it is (R151). -/
def Dev.recover (d : Dev) (b : Bank) (i : Nat) (seq : Option Nat) : RecVerdict × Dev :=
  let w := b.frer i 0
  match seq with
  | none => if bit 2 w then
      (.pass, (d.setFrer i { tget FrerRec.reset d.fab.frer i with at_ := d.up }).frerCnt i 0) else (.discard, d.frerCnt i 5)
  | some s =>
    let r := tget FrerRec.reset d.fab.frer i
    let h := bits 13 8 w
    if r.takeAny then
      (.pass, (d.setFrer i { hist := true :: List.replicate (h - 1) false, last := s, takeAny := false, at_ := d.up }).frerCnt i 0)
    else
      let delta : Int := sgn 16 ((s + 65536 - r.last) % 65536)
      if (h : Int) ≤ delta ∨ delta ≤ -(h : Int) then (.discard, (d.frerCnt i 2).frerCnt i 1)
      else if delta ≤ 0 then
        let k := delta.natAbs
        if r.hist.getD k false then (.duplicate, d)
        else (.pass, ((d.setFrer i { r with hist := r.hist.set k true, at_ := d.up }).frerCnt i 4).frerCnt i 0)
      else
        let x := (List.range (delta.toNat - 1)).foldl (fun x _ => shiftHist h false x) (r.hist, 0)
        let x := shiftHist h true x
        let d := d.setFrer i { r with hist := x.1, last := s, at_ := d.up }
        let d := d.wr (LKP_FRER_CNT i 3) (d.rn (LKP_FRER_CNT i 3) + x.2)
        (.pass, (d.when (delta ≠ 1) (·.frerCnt i 4)).frerCnt i 0)

/-- A sequence number is marked unseen again (R151). -/
def Dev.unsee (d : Dev) (i s : Nat) : Dev :=
  let r := tget FrerRec.reset d.fab.frer i
  let k := (r.last + 65536 - s) % 65536
  d.setFrer i { r with hist := r.hist.set k false }

/-! ### The lookup of a frame (R110, R140, R146, R152, R153) -/

/-- The endpoint queue of a copy that reaches an internal port by lookup (R177). -/
def Dev.rxQueue (d : Dev) (p k : Nat) : Option Nat :=
  if 36 ≤ p ∧ p < 45 then
    let c := p - 36
    let w := d.rn (if k < 4 then CQ_RXMAP0 c else CQ_RXMAP1 c)
    some (64 * c + (bits (8 * (k % 4) + 5) (8 * (k % 4)) w) % (if c = 8 then 16 else 64))
  else none

/-- A copy is stored whatever the regime: the first two rows of R152. -/
def Dev.stored (d : Dev) (inP outP : Nat) (noExpress : Bool) : Bool :=
  busPort inP || busPort outP || noExpress || !d.on (FAB_PORT_CFG_EXPRESS_EN inP)

/-- The decision of R152 for a copy, with the start threshold of R153. -/
def Dev.cutDecision (d : Dev) (inP outP : Nat) (noExpress : Bool) : Bool × Nat :=
  let express := !d.on FAB_MODE_REGIME
  if d.stored inP outP noExpress then (false, 0)
  else if 36 ≤ outP then (express, 0)
  else
    let ri := d.rate inP
    let ro := d.rate outP
    if ro ≤ ri then
      let idle : Bool := (d.sendingClass outP).isNone && (List.range 8).all (fun k => d.depth outP k == 0)
      (express || idle, 0)
    else if express then (true, (9216 * (ro - ri) + ro - 1) / ro)
    else (false, 0)

/-- The next flow sequence number (R110), from the stream's counter or that of port and class. -/
def Dev.takeFseq (d : Dev) (st : Option Nat) (p k : Nat) : Nat × Dev :=
  match st with
  | some s =>
    let n := tget 0 d.fab.fseqStream s
    (n, { d with fab := { d.fab with fseqStream := tset 0 ((n + 1) % 2 ^ 32) s d.fab.fseqStream } })
  | none =>
    let n := tget 0 d.fab.fseqPort (8 * p + k)
    (n, { d with fab := { d.fab with fseqPort := tset 0 ((n + 1) % 2 ^ 32) (8 * p + k) d.fab.fseqPort } })

/-- A frame that lookup does not drop counts towards the confirmation of its port's wake (R255, R256). -/
def Dev.sidFrame (d : Dev) (p : Nat) : Dev :=
  if p < 36 ∧ d.fld (SID_SRC_STS_STATE p) = 1 ∧ d.fld (SID_PORT_STS_STATE p) = 0
      ∧ d.fld (SID_SRC_CFG_CONFIRM_N p) ≠ 0 then
    let n := tget 0 d.sid.confN p + 1
    if d.fld (SID_SRC_CFG_CONFIRM_N p) ≤ n then
      let d : Dev := { d with sid := { d.sid with
        confN := terase p d.sid.confN, confAt := terase p d.sid.confAt } }
      (d.put (SID_SRC_STS_STATE p) 0).put (SID_SRC_STS_FW_CNT p) 0
    else { d with sid := { d.sid with confN := tset 0 n p d.sid.confN } }
  else d

/-- The copies of a frame are admitted in the order of their ports. -/
def Dev.admitAll (d : Dev) (id : Nat) (cs : List Copy) : Dev := d.each cs (fun c d => d.admitCopy id c)

/-- Lookup of frame `id` under the ACTIVE bank; `decap`: an NTSCF frame may become the carriage of its first ACF message
(R136). DESIGN CHOICE: the frames of other types that LKP_ACF_SKIP_CNT counts are those of EtherType 0x22F0 that hold no
such message first (assumption 105); the bus of a carriage that neither a local CAN port nor an ACF message brought is its
port's number less 28 (assumption 106); a frame that DROP names goes without a copy to Guard (assumption 107); a held
duplicate counts at a POINT 0 sampler at its lookup (assumption 108). -/
def Dev.lookupAs (decap : Bool) (d : Dev) (id : Nat) (f0 : Frame) : Dev :=
  let b := d.active
  let d := d.tallyD 0x81 1
  let p := f0.wb.port
  let decap : Bool := decap && f0.kind == 0 && decide (p < 16) && bit 19 (b.port p 0)
  let acf := if decap then acfUnpack f0.body else none
  let skipped := match acf with
    | some x => x.more
    | none => b2n (decap && etherType f0.body == 0x22F0)
  let d := d.when (skipped != 0) (fun d => d.wr LKP_ACF_SKIP_CNT (d.rn LKP_ACF_SKIP_CNT + skipped))
  let f := match acf with
    | some x => { f0 with kind := 1, bytes := x.car, wb := { f0.wb with len := x.car.length },
                          rest := if x.more = 0 then none else some x.rest }
    | none => f0
  let bus : Option Nat := match acf with
    | some x => x.bus
    | none => some (if p < 28 then p - 16 else p - 28)
  let q := if f.kind = 1 then b.lookupCar p f.bytes bus else b.lookup p f.body
  let d := match q.rule with
    | some r => d.bump (LKP_CLS_HIT r)
    | none => d
  let epoch := d.fld LKP_STS_EPOCH
  let gone (d : Dev) (cls : Nat) : Dev :=
    let n := if f.tagged then (f.wb.fseq, d) else d.takeFseq q.idMatch p cls
    let wb := { f.wb with cls := cls, epoch := epoch, fseq := n.1 }
    (n.2.modFrame id (fun _ => { f with looked := true, drains := false, wb := wb })).settle id
  if acf.isSome ∧ !carOk f.bytes then
    -- R134: the carriage is dropped at ingress
    (d.modFrame id (fun _ => { f with looked := true, drains := false })).settle id
  else match q.drop with
  | some .vlan => gone (d.bump LKP_VLAN_DROP_CNT) q.cls
  | some .rule => gone (d.bump LKP_CLS_DROP_CNT) q.cls
  | some .canMiss => gone (d.bump LKP_CAN_MISS_CNT) q.cls
  | some .mac => gone d q.cls
  | none =>
    -- R140 step 5 and R146: for an Ethernet frame members only, never the ingress port; COPY_GUARD adds port 44
    let dests := (q.dest.filter (fun t => match q.members with
      | some m => t ≠ p && bit t m
      | none => true))
    let dests := if q.copyGuard then insertNat 44 dests else dests
    -- R208: the analysis port leaves every destination set
    let excl : Bool := dests.any (fun t => d.towPort == some t)
    let dests := dests.filter (fun t => d.towPort ≠ some t)
    let cut := dests.any (fun t => (d.cutDecision p t q.noExpress).1)
    let sf := match q.stream with
      | some s => d.streamFilter b s f.wb.len q.cls cut
      | none => (false, q.cls, false, d)
    let d := sf.2.2.2
    let cls := sf.2.1
    if sf.1 then gone d cls
    else
      let w14 := (q.stream.map (fun s => b.stream s 14)).getD 0
      let inst := bits 7 0 w14
      let hasRec : Bool := bit 8 w14 && bit 1 (b.frer inst 0)
      let hasGen : Bool := bit 9 w14 && bit 0 (b.frer inst 0)
      let rv := if hasRec then d.recover b inst q.rtag else (RecVerdict.pass, d)
      let d := rv.2
      let seq := q.rtag.getD 0
      let first := d.fab.frames.any (fun x => x.id ≠ id && x.rcv == some (inst, seq) && !x.tail && !x.heldDup)
      let holding := d.fab.frames.any (fun x => x.heldDup && (x.rcv.map (·.1)) == some inst)
      let hold : Bool := rv.1 == .duplicate && first && !holding
      if rv.1 = .discard then gone d cls
      else if rv.1 = .duplicate ∧ !hold then gone (d.frerCnt inst 1) cls
      else
        let d := d.when excl (·.bump TOW_EXCL_CNT)
        let g := if hasGen then tget 0 d.fab.frerGen inst else 0
        let d : Dev := if hasGen then { d with fab := { d.fab with
            frerGen := tset 0 ((g + 1) % 65536) inst d.fab.frerGen } } else d
        let n := if f.tagged then (f.wb.fseq, d) else d.takeFseq q.idMatch p cls
        let d := n.2
        let wb := { f.wb with cls := cls, epoch := epoch, fseq := n.1 }
        let wb := if hasRec then wb.flag 11 else wb
        let sdu := (q.stream.map (fun s => bits 31 18 (b.stream s 13))).getD 0
        let f := { f with looked := true, wb := wb, vid := q.vid, pcp := q.pcp, stream := q.stream,
                          maxSdu := sdu,
                          rcv := if hasRec ∧ q.rtag.isSome then some (inst, seq) else none, heldDup := hold,
                          attempted := dests }
        let rports := b.rtagPorts inst
        let mk (t : Nat) : Copy :=
          let cd := if hold then (false, 0) else d.cutDecision p t q.noExpress
          { port := t, cls := cls, de := sf.2.2.1, queue := d.rxQueue t cls, start := 0, passed := 0, cut := cd.1,
            thresh := cd.2, early := !hold && decide (36 ≤ t) && !d.stored p t q.noExpress, readyAt := 0, sending := false,
            bad := false, kept := none, flags := if cd.1 then 128 else 0, untag := bit t q.untag,
            rtag := (if hasGen then (if bit t rports then .put g else .strip)
                    else if hasRec then (if bit t rports then (match q.rtag with
                      | some s => .put s
                      | none => .keep) else .strip)
                    else .keep),
            acf := q.acf, mirror := false }
        let cs := dests.map mk
        let d := d.modFrame id (fun _ => if hold then { f with copies := cs } else f)
        let d := d.when (dests ≠ []) (fun d => (d.sample p cls 0 none id f.body wb).sidFrame p)
        if hold then d else (d.admitAll id cs).settle id

/-- Lookup of a frame that comes from a port or a queue. -/
def Dev.lookup (d : Dev) (id : Nat) (f0 : Frame) : Dev := Dev.lookupAs true d id f0

def execFrameLookup (dt id : Nat) (s : State) : Host.Outcome State Fault Refusal :=
  s.onDev dt true fun d =>
    match d.frame id with
    | some f => if f.looked then d else d.lookup id f
    | none => d

/-! ### The tail check (R132, R151, R155, R156, R207, R209) -/

/-- Copies stomped in this stage. -/
def Dev.stomp (d : Dev) (p : Nat) : Dev :=
  ((((d.bump FAB_STOMP_CNT).tallyP p 0x47 1).set FAB_STS_STOMPED).raiseIf FAB_INT_EN_STOMP 130).postOnce 0x10 0x0007 0 9 p [1] (some 0)

/-- ECC errors of a frame's cells (R132). -/
def Dev.eccErrors (d : Dev) (ce : Nat) (ue : Option Nat) : Dev :=
  let d := if ce = 0 then d
    else (((d.wr FAB_ECC_CE_CNT (d.rn FAB_ECC_CE_CNT + ce)).set FAB_STS_ECC_CE).raiseIf FAB_INT_EN_FAULT 128).postStage
      0x10 0x0003 1 9 0 (fun l => l.set 0 (l.getD 0 0 + ce))
  match ue with
  | none => d
  | some p => ((d.bump FAB_ECC_UE_CNT).set FAB_STS_ECC_UE).fabricFault 0x0004 p

/-- A duplicate that waited for this frame is discarded, or forwarded when this frame is bad (R151); once forwarded it
takes no further part in recovery. DESIGN CHOICE: the recovery algorithm of the ACTIVE bank counts it anew at its release, as
passed, out of order, rogue or discarded, and it is forwarded in every case (assumption 124). -/
def Dev.releaseDup (d : Dev) (f : Frame) (bad : Bool) : Dev :=
  match f.rcv with
  | none => d
  | some is =>
    if f.heldDup then d
    else
      let d := d.when bad (·.unsee is.1 is.2)
      match d.fab.frames.find? (fun x => x.heldDup && x.rcv == some is) with
      | none => d
      | some x =>
        if bad then
          let r := d.recover d.active is.1 (some is.2)
          let d := r.2.modFrame x.id (fun y => { y with heldDup := false, rcv := none, copies := [] })
          let d := d.admitAll x.id x.copies
          let d := d.when x.tail (·.advanceFlows x.id)
          d.settle x.id
        else
          ((d.frerCnt is.1 1).modFrame x.id (fun y => { y with heldDup := false, rcv := none, copies := [], attempted := [] })).settle x.id

/-- The length of an Ethernet frame is outside R133, also where a carriage has replaced it (R136). -/
def Frame.lenBad (f : Frame) : Bool := f.eth != 0 && (decide (f.eth < 64) || decide (9216 < f.eth))

/-- A frame is longer than its stream allows (R156). -/
def Frame.tooLong (f : Frame) : Bool := f.maxSdu != 0 && decide (f.maxSdu < f.wb.len)

/-- A frame is found bad at its tail (R156); `trunc`: it was truncated (R155), `ue`: a cell holds an uncorrected ECC
error. -/
def Frame.bad (f : Frame) (trunc ue : Bool) : Bool := !f.fcsOk || !f.icvOk || f.lenBad || trunc || ue || f.tooLong

/-- A bad frame's copies (R156): one on an external port is stomped, one cut through to an internal port is marked, any other
is dropped; `kept`: the bytes that a truncated one keeps. -/
def Dev.badCopies (d : Dev) (f : Frame) (kept : Copy → Option Nat) : Dev :=
  d.each f.copies (fun c d =>
    if c.sending ∧ c.port < 36 then (d.markBad f.id c.port (kept c)).stomp c.port
    else if 36 ≤ c.port ∧ c.cut then d.markBad f.id c.port (kept c)
    else d.resolve f.id c.port false)

/-- What the tail check makes of a frame's copies (R151, R156, R187, R199, R207, R209). A truncated copy keeps the cells
that have arrived (assumption 90). -/
def Dev.tailFrame (d : Dev) (f : Frame) (bad trunc : Bool) : Dev :=
  let kept (c : Copy) : Option Nat := if trunc then some (64 * c.passed) else none
  let d := d.advanceFlows f.id
  let d := d.modFrame f.id (fun x => { x with tail := true })
  let d := d.sampleTail f.id none bad
  let d := match f.mir with
    | some body => d.mirror body bad f.wb.port
    | none => d
  let d := if !bad ∨ f.heldDup then d else d.badCopies f kept
  let d := d.releaseDup f bad
  let d := if bad ∧ f.heldDup then
      (d.modFrame f.id (fun x => { x with heldDup := false, rcv := none, copies := [], attempted := [] })) else d
  (d.settle f.id).drained

/-- The ACF messages behind the first go on as an Ethernet frame of the same port, once the frame's tail is good (R136,
assumption 89). -/
def Dev.acfRest (d : Dev) (f : Frame) (body : List Nat) : Dev :=
  let bytes := body ++ fcs body
  let id := d.fab.next
  let g := d.newFrame f.wb.port f.src 0 f.wb.origin 0 bytes
  let g := { g with id := id, eth := 0, tagged := f.tagged, inTs := f.inTs, wb := { f.wb with len := bytes.length } }
  let d := Dev.lookupAs false (d.enter g) id g
  match d.frame id with
  | some x => d.tailFrame x false false
  | none => d

def Dev.tailCheck (d : Dev) (f : Frame) (trunc : Bool) (ce : Nat) (ue : Option Nat) : Dev :=
  let d := d.eccErrors ce ue
  let p := f.wb.port
  let d := d.when (p < 36 && f.eth != 0) (·.bwIn p f.wire)
  let d := d.when (p < 36 && !f.fcsOk) (·.portErr p (PORT_RX_ERR p))
  let d := d.when (p < 36 && f.lenBad) (·.portErr p (PORT_RX_LEN_ERR p))
  let bad := f.bad trunc ue.isSome
  let d := d.when f.tooLong (fun d =>
    match f.stream with
    | some s => d.qci s 1
    | none => d)
  let d := d.tailFrame f bad trunc
  match (if bad then none else f.rest) with
  | some body => d.acfRest f body
  | none => d

/-- In Strict a copy to an endpoint queue is written as its cells arrive; one that proves bad leaves its bytes in
the buffer of the descriptor at HEAD, which is taken again (R152, R178, ch. 6). -/
def Dev.strictTrace (d : Dev) (m : Mem) (f : Frame) : Mem :=
  f.copies.foldl (fun m c =>
    match c.queue with
    | some q => if c.sending ∧ !c.cut then d.partWrite m f c q else m
    | none => m) m

/-- ECC errors that show in the cells of a frame whose tail has been checked, such as one sent from a queue: those of its
copies that are still in the buffer are bad (R132, R156). -/
def Dev.lateEcc (d : Dev) (f : Frame) (ce : Nat) (ue : Option Nat) : Dev :=
  let d := d.eccErrors ce ue
  if ue.isSome then (d.badCopies f (fun _ => none)).drained else d

/-- A frame whose tail comes before the command of its lookup is looked up first, since the lookup takes its header once
it has arrived or the frame has ended (R139). -/
def execFrameTailCheck (dt id : Nat) (trunc : Bool) (ce : Nat) (ue : Option Nat) (s : State) :
    Host.Outcome State Fault Refusal :=
  s.onAll dt true fun m d =>
    match d.frame id with
    | some f0 =>
      if f0.tail then (d.lateEcc f0 ce ue, if ue.isSome then d.strictTrace m f0 else m)
      else
        let d := if f0.looked then d else d.lookup id f0
        let f := (d.frame id).getD f0
        (d.tailCheck f trunc ce ue, if f.bad trunc ue.isSome then d.strictTrace m f else m)
    | none => (d, m)

/-! ### Egress (R65, R154, R185, R113) -/

/-- An entry closes a class's gate at a port (R62). -/
def Dev.closes (d : Dev) (p k n ph : Nat) : Bool := !bit k (d.fld (STG_TT_GATE_GATE n)) && !d.overridden p ph n

/-- Nanoseconds until the gate of a class closes next at a port, when it does (R65). -/
def Dev.nextClose (d : Dev) (p k : Nat) : Option Nat :=
  if d.towPort = some p then none
  else
    let P := d.fld STG_PERIOD_NS_NS
    let M := 2 ^ d.fld STG_CTL_CYCLE_LOG2
    -- before the first tick the gates stand open, and take their lists' state at it
    let base := if d.stg.lastTick.isSome then d.gridPhase else d.stg.nextTick / P % M
    let until_ (t : Nat) : Option Nat := match d.gridOff with
      | some off => if off < t then some (t - off) else none
      | none => some (d.stg.nextTick - d.domNs + t)
    let ts := (List.range (M + 1)).flatMap (fun j =>
      let ph := (base + j) % M
      ((d.gateList p ph).filter (fun n => d.closes p k n ph) ++
        (if p < 16 ∧ bit k (d.fld STG_QUIET_CLASSES_CLASSES) then
          (List.range 256).filter (fun n => d.ttKind n == 5 && d.ttApplies n ph) else [])).map
        (fun n => j * P + d.fld (STG_TT_START_NS n)))
    let ts := if d.stg.lastTick.isNone ∧ !bit k (d.gateAt p base 0) then 0 :: ts else ts
    (ts.filterMap until_).foldl (fun b t =>
      match b with
      | none => some t
      | some x => some (min x t)) none

/-- A frame of `len` bytes on the wire, with preamble and inter-frame gap, ends before the gate closes (R65). -/
def Dev.fits (d : Dev) (p k len : Nat) : Bool :=
  match d.nextClose p k with
  | none => true
  | some t => (len + 20) * 8000000 ≤ t * d.rate p

/-- The SA that protects a frame at a port (R221–R223): none where the frame, here without its waybill tag, leaves
unprotected. -/
def Dev.txSa (d : Dev) (p : Nat) (l : List Nat) : Option Nat :=
  if d.msecOn p ∧ d.on (PORT_MSEC_CFG_PROTECT p) ∧ !d.msecBypass p l then some (d.fld (PORT_MSEC_TXSA_AN p)) else none

/-- The port puts a waybill tag into a copy (R113, R208). -/
def Dev.putsTag (d : Dev) (c : Copy) : Bool :=
  decide (c.port < 16) && d.on (PORT_CFG_TRUNK c.port) && !c.mirror && d.towPort != some c.port

/-- The length of a copy on the wire, from the destination address to the FCS, after every rewrite (R65, R154). -/
def Dev.wireLen (d : Dev) (f : Frame) (c : Copy) : Nat :=
  let l := egressBytes f c 0
  let sec := d.txSa c.port l
  max 60 (l.length + (if d.putsTag c then 18 else 0)) + 4 + (if sec.isSome then d.secBytes c.port else 0)

/-- A copy is ready: stored, its tail is good and every cell has passed the resequencer; cut through, its start
threshold has arrived; for an endpoint queue, its first cell is ready for writing and a descriptor is posted (R152, R153,
R178, R185). -/
def Dev.copyReady (d : Dev) (f : Frame) (c : Copy) : Bool :=
  let whole : Bool := f.tail && decide (f.cells ≤ c.passed)
  !c.sending && !f.heldDup && (match c.queue with
    | some q => d.qPosted q != 0 && decide (0 < c.passed) && (c.early || whole)
    | none => whole ||
        (c.cut && decide (0 < c.passed) && decide (min c.thresh f.bytes.length ≤ 64 * c.passed)))

/-- The first ready copy of a class at a port, when it may start now (R154, R185); while both planes are out the fabric
forwards nothing (R131). -/
def Dev.eligible (d : Dev) (p k : Nat) : Option (Frame × Copy) :=
  match (d.copiesAt p k).find? (fun x => d.copyReady x.1 x.2) with
  | none => none
  | some (f, c) =>
    let len := if f.tail then d.wireLen f c else if f.maxSdu ≠ 0 then f.maxSdu else 9234
    if !d.fabDown && d.gateOpen p k && d.fits p k len &&
        (d.rn (FAB_EQ_CBS p k) == 0 || d.towPort == some p || decide (0 ≤ d.creditNow p k)) then some (f, c)
    else none

/-- The next copy of a port: of the highest class that has one (R185). -/
def Dev.nextCopy (d : Dev) (p : Nat) : Option (Frame × Copy) := [7, 6, 5, 4, 3, 2, 1, 0].findSome? (d.eligible p)

/-- The transparent clock on a frame that leaves a port (R89, R90). -/
def Dev.transparent (d : Dev) (f : Frame) (p : Nat) (l : List Nat) (prot : Bool) : List Nat × Dev :=
  match d.tcEvent f l with
  | none => (l, d)
  | some (a, k) =>
    match (if prot then none else ptpCorrect l a k (256 * (d.ns256 - f.inTs))) with
    | some l' => (l', d)
    | none => (l, d.tcUncorrected p)

/-- The SA takes a PN (R223): none when it is without a key or exhausted. -/
def Dev.takePn (d : Dev) (p an : Nat) : Option Dev :=
  let key := 64 * p + an
  match d.msec.find? (fun x => x.1 == key) with
  | none => none
  | some (_, sa) =>
    let xpn := d.on (PORT_MSEC_CFG_XPN p)
    let last := if xpn then 2 ^ 64 - 1 else 2 ^ 32 - 1
    if last < sa.pn then none
    else
      let pn := sa.pn + 1
      let d : Dev := { d with msec := tput key { sa with pn := pn } (terase key d.msec) }
      let hit := if xpn then pn / 2 ^ 32 = d.rn (PORT_MSEC_PN_THR p) ∧ pn % 2 ^ 32 = 0
        else pn = d.rn (PORT_MSEC_PN_THR p)
      let d := if hit then (d.set (PORT_MSEC_STS_PN_THR p)).post 0x30 0x0009 0 8 p else d
      let d := if last < pn then (d.set (PORT_MSEC_STS_EXHAUSTED p)).post 0x30 0x000A 1 8 p else d
      some (d.msecCnt p (if d.fld (PORT_MSEC_CFG_CONF p) = 0 then 0 else 1))

/-- An egress mirror copy is owed for a copy (R207). DESIGN CHOICE: the copy of a carriage, which has no VID of R140
step 1, is matched with VID 0 and the PCP of its CAN filter entry (assumption 104). -/
def Dev.egressMirrored (d : Dev) (f : Frame) (c : Copy) : Bool :=
  d.towTakes && !c.mirror && legacyBit c.port (d.fld TOW_L_EGR_SRC_PORTS) &&
    d.towFlow f.vid (match c.acf with
      | some a => a.pcp
      | none => f.pcp)

/-- A copy starts at an external Ethernet port (R113, R135, R185, R196). -/
def Dev.startCopy (d : Dev) (f : Frame) (c : Copy) : Dev :=
  let p := c.port
  let d := d.shaper p
  let gapped := d.fab.gapNext.contains (flowKey f.src p c.cls)
  let fl := c.flags ||| (if gapped then 256 else 0) ||| (if d.egressMirrored f c then 32 else 0)
  let sid := (Config.portMac p) + 2 ^ 48 * ((c.acf.map (·.uid)).getD 0)
  let isAcf : Bool := f.kind == 1 && c.acf.isSome
  let seq := tget 0 d.fab.acfSeq sid
  let d : Dev := if isAcf then { d with fab := { d.fab with acfSeq := tset 0 ((seq + 1) % 256) sid d.fab.acfSeq } } else d
  let body := egressBytes f c seq
  let wb := { f.wb with flags := f.wb.flags ||| fl }
  let trunk := d.putsTag c
  let sa := d.txSa p body
  let len := max 60 (body.length + (if trunk then 18 else 0)) + 4
  if trunk ∧ 9234 < len then (d.bump (PORT_TAG_DROP_CNT p)).resolve f.id p false
  else if sa.isSome ∧ 9266 < len + d.secBytes p then (d.msecCnt p 2).resolve f.id p false
  else
    match (match sa with
      | none => some d
      | some an => d.takePn p an) with
    | none => (d.msecCnt p 3).resolve f.id p false
    | some d =>
      let tc := if c.mirror then (body, d) else d.transparent f p body sa.isSome
      let d := tc.2
      let l := if trunk then insertTag tc.1 wb else tc.1
      let l := l ++ List.replicate (60 - l.length) 0
      let d := d.modCopy f.id p (fun c => { c with sending := true, flags := fl })
      let d := { d with fab := { d.fab with
        gapNext := d.fab.gapNext.filter (· ≠ flowKey f.src p c.cls)
        wire := tput p { bytes := l ++ fcs l, body := body, an := sa, stomped := false } (terase p d.fab.wire) } }
      if c.mirror then d else d.sample p c.cls 1 (some p) f.id body wb

/-- An egress port selects and starts its next ready frame (R185). -/
def execEgressFrameStart (dt p : Nat) (s : State) : Host.Outcome State Fault Refusal :=
  s.onDev dt (p < 16 || (45 ≤ p && p < 48)) fun d =>
    if (d.sendingClass p).isSome ∨ (p < 36 ∧ (!d.on (PORT_STS_LINK p) ∨ d.fld (SID_PORT_STS_STATE p) ≠ 0)) then d
    else match d.nextCopy p with
      | some (f, c) => d.startCopy f c
      | none => d

/-- The last cell of a copy leaves its port (R156, R160, R194, R209). -/
def Dev.copyDone (d : Dev) (f : Frame) (c : Copy) : Dev :=
  let p := c.port
  let w := tget { bytes := [], body := [], an := none, stomped := false } d.fab.wire p
  let w := if !c.bad then w
    else
      let l := keptBytes f c (w.bytes.take (w.bytes.length - 4))
      { w with bytes := l ++ stompCode l, stomped := true }
  let d : Dev := { d with fab := { d.fab with wire := tput p w (terase p d.fab.wire) } }
  let d := (d.tallyP p 0x41 f.cells).countTx p (w.bytes.length + (if w.an.isSome then d.secBytes p else 0)) f.wb.len
  let d := d.sampleTail f.id (some p) c.bad
  let d := if c.mirror then (d.bump TOW_COPY_CNT).put TOW_L_COPY_CNT_VALUE (d.fld TOW_L_COPY_CNT_VALUE + 1) else d
  -- R194: a copy that leaves an internal port other than an endpoint queue's is not delivered
  d.resolve f.id p (!c.bad && decide (p < 36))

def execEgressCopyDone (dt p : Nat) (s : State) : Host.Outcome State Fault Refusal :=
  s.onDev dt (p < 16 || (45 ≤ p && p < 48)) fun d =>
    match d.inProgress p with
    | some (f, c) => if f.tail then d.copyDone f c else d
    | none => d

/-! ### Resequencing (R187–R191) -/

/-- The copy that a cell belongs to. -/
def Dev.cellCopy (d : Dev) (src p cls num : Nat) : Option (Frame × Copy) :=
  (d.copiesAt p cls).find? (fun x => x.1.src == src && decide ((num + 4096 - x.2.start) % 4096 < x.1.cells))

/-- The expected number of a flow. -/
def Dev.expected (d : Dev) (key : Nat) : Option Nat :=
  match tget 0 d.fab.expect key with
  | 0 => none
  | n + 1 => some n

def Dev.setExpected (d : Dev) (key n : Nat) : Dev :=
  { d with fab := { d.fab with expect := tset 0 (n % 4096 + 1) key d.fab.expect } }

/-- Cells that a port holds (R188). -/
def Dev.heldAt (d : Dev) (p : Nat) : Nat := (d.fab.held.filter (fun c => flowPort c.flow == p)).length

/-- One cell is passed to its port. -/
def Dev.passCell (d : Dev) (key num : Nat) : Dev :=
  let d := d.setExpected key (num + 1)
  match d.cellCopy (key / 384) (key / 8 % 48) (key % 8) num with
  | some (f, c) => d.modCopy f.id c.port (fun c => { c with
      passed := c.passed + 1, readyAt := if c.early ∧ c.passed ≠ 0 then c.readyAt else d.up })
  | none => d

/-- Held cells that have become next are passed; `k` bounds their number. -/
def Dev.passHeld (key : Nat) : Nat → Dev → Dev
  | 0, d => d
  | k + 1, d =>
    match d.expected key with
    | none => d
    | some e =>
      if d.fab.held.any (fun c => c.flow == key && c.num == e) then
        let d : Dev := { d with fab := { d.fab with
          held := d.fab.held.filter (fun c => !(c.flow == key && c.num == e)) } }
        Dev.passHeld key k (d.passCell key e)
      else d

/-- The gap timer of a flow runs while it holds a cell; `fresh`: it starts anew for a new missing cell (R189). -/
def Dev.gapTimer (d : Dev) (key : Nat) (fresh : Bool) : Dev :=
  let waits := d.fab.held.any (·.flow == key)
  let runs := d.fab.gaps.any (·.flow == key)
  if !waits then { d with fab := { d.fab with gaps := d.fab.gaps.filter (·.flow ≠ key) } }
  else if runs ∧ !fresh then d
  else { d with fab := { d.fab with
    gaps := d.fab.gaps.filter (·.flow ≠ key) ++ [{ flow := key, since := d.up }] } }

/-- The first cell of the flow's next frame, as seen from a missing cell whose copy is gone: the next number at which a frame
in the fabric starts or ends, or the flow's counter (R187, R189). -/
def Dev.nextStart (d : Dev) (key e : Nat) : Nat :=
  let ahead (n : Nat) : Nat := (n + 4096 - e) % 4096
  let marks := d.fab.frames.flatMap (fun f => (f.flows.filter (fun x => x.1 == key)).flatMap (fun x =>
    [x.2, (x.2 + f.cells) % 4096]))
  match (marks ++ [tget 0 d.fab.seq key]).filter (fun n => decide (0 < ahead n) && decide (ahead n < 2048)) with
  | [] => (e + 1) % 4096
  | n :: r => r.foldl (fun b n => if ahead n < ahead b then n else b) n

/-- The missing cell of a flow is declared lost (R189). -/
def Dev.declareLost (d : Dev) (key : Nat) : Dev :=
  match d.expected key with
  | none => d
  | some e =>
    let p := flowPort key
    let x := d.cellCopy (key / 384) p (key % 8) e
    let next := match x with
      | some (f, c) => (c.start + f.cells) % 4096
      | none => d.nextStart key e
    let d := match x with
      | some (f, c) =>
        let kept := some (64 * ((e + 4096 - c.start) % 4096))
        if c.sending ∧ p < 36 then (d.markBad f.id p kept).stomp p
        else if c.sending ∧ c.cut then (d.markBad f.id p kept).modCopy f.id p (fun c => { c with gapCut := true })
        else if c.sending then d.resolve f.id p false
        else (d.bump (RSQ_LOST_CNT p)).resolve f.id p false
      | none => d
    let gone (n : Nat) : Bool := (n + 4096 - e) % 4096 < (next + 4096 - e) % 4096
    let d : Dev := { d with fab := { d.fab with
      held := d.fab.held.filter (fun c => !(c.flow == key && gone c.num)),
      gapNext := insertNat key d.fab.gapNext } }
    let d := (d.setExpected key next)
    let d := ((d.bump (RSQ_GAP_CNT p)).set RSQ_STS_LOST).raiseIf RSQ_INT_EN_LOST 132
    let d := d.postOnce 0x12 0x0001 0 9 p [1] (some 0)
    (Dev.passHeld key 512 d).gapTimer key true

/-- A cell ahead of the expected number is held, with losses forced until the window takes it; `k` bounds their
number (R190). -/
def Dev.holdCell (key num : Nat) : Nat → Dev → Dev
  | 0, d => d
  | k + 1, d =>
    let p := flowPort key
    match d.expected key with
    | none => d
    | some e =>
      let ahead := (num + 4096 - e) % 4096
      if ahead = 0 then ((Dev.passHeld key 512 (d.passCell key num))).gapTimer key true
      else if 2048 ≤ ahead then d
      else if 512 ≤ ahead ∨ 512 ≤ d.heldAt p then
        let old := match d.fab.gaps.find? (fun g => flowPort g.flow == p) with
          | some g => g.flow
          | none => key
        let d := ((d.set RSQ_STS_WINDOW_FULL).raiseIf RSQ_INT_EN_LOST 132).post 0x12 0x0003 1 9 p
        Dev.holdCell key num k (d.declareLost old)
      else
        let d : Dev := { d with fab := { d.fab with held := d.fab.held ++ [{ flow := key, num := num }] } }
        let d := d.gapTimer key false
        if d.fld (RSQ_OCC_MAX p) < d.heldAt p then d.put (RSQ_OCC_MAX p) (d.heldAt p) else d

/-- A cell reaches the resequencer of its egress port (R188–R191). -/
def Dev.cellArrival (d : Dev) (p src cls num idx : Nat) : Dev :=
  if d.fabDown then d else
  let key := flowKey src p cls
  let d := if (d.expected key).isNone then d.setExpected key ((num + 4096 - idx) % 4096) else d
  let e := (d.expected key).getD 0
  let ahead := (num + 4096 - e) % 4096
  if ahead = 0 then (Dev.passHeld key 512 (d.passCell key num)).gapTimer key true
  else if 2048 ≤ ahead then
    (((d.bump (RSQ_LATE_CNT p)).set RSQ_STS_LATE).raiseIf RSQ_INT_EN_LATE 132).postOnce 0x12 0x0002 0 9 p [1] (some 0)
  else Dev.holdCell key num 4096 d

def execCellArrival (dt p src cls num idx : Nat) (_last : Bool) (s : State) : Host.Outcome State Fault Refusal :=
  s.onDev dt (p < 48 && src < 52 && cls < 8 && num < 4096) fun d =>
    if d.frm.beyvoUp then d.cellArrival p src cls num idx else d

/-- The gap timer of a flow runs out (R189). -/
def execGapTimeout (dt p src cls : Nat) (s : State) : Host.Outcome State Fault Refusal :=
  s.onDev dt (p < 48 && src < 52 && cls < 8) fun d =>
    let key := flowKey src p cls
    if d.fab.gaps.any (fun g => g.flow == key && d.passed g.since (10 * d.fld RSQ_CTL_GAP)) then d.declareLost key else d

/-! ### Planes (R131) -/

/-- A plane reports a fault: 0 = link CRC, 1 = crossbar parity, 2 = self-check. DESIGN CHOICE: a crossbar parity error is one
fabric fault, with both of its records (assumption 86). -/
def execPlaneFault (dt i kind : Nat) (s : State) : Host.Outcome State Fault Refusal :=
  s.onDev dt (i < 2) fun d =>
    if !bit i (d.fld FAB_STS_PLANE_UP) ∨ !d.frm.beyvoUp then d
    else
      let d := (d.put FAB_STS_PLANE_UP (d.fld FAB_STS_PLANE_UP - 2 ^ i)).set FAB_STS_PLANE_FAULT
      let d := d.fabricFault 0x0001 i
      let d := if kind = 1 then (d.set FAB_STS_XBAR_PARITY).post 0x10 0x0005 1 9 i else d
      if d.fld FAB_STS_PLANE_UP = 0 then d.fault 3 0x10 0x0001 9 else d

/-- A write of READMIT: ignored for a plane in service (R131). -/
def Dev.planeReadmit (d : Dev) (v : Nat) : Dev :=
  d.each [0, 1] (fun i d =>
    if bit i v ∧ !bit i (d.fld FAB_STS_PLANE_UP) then
      { d with fab := { d.fab with selfTest := insertNat i d.fab.selfTest } }
    else d)

def execPlaneReadmit (dt : Nat) (a : Acc) (v : Nat) (s : State) : Host.Outcome State Fault Refusal :=
  s.onDevM dt true fun m d => d.regWrite m a FAB_PLANE_CTL (·.planeReadmit v)

def execPlaneSelfTestDone (dt i : Nat) (pass : Bool) (s : State) : Host.Outcome State Fault Refusal :=
  s.onDev dt (i < 2) fun d =>
    if !d.fab.selfTest.contains i then d
    else
      let d : Dev := { d with fab := { d.fab with selfTest := d.fab.selfTest.filter (· ≠ i) } }
      if pass then (d.put FAB_STS_PLANE_UP (d.fld FAB_STS_PLANE_UP + 2 ^ i)).post 0x10 0x0002 0 9 i
      else d.post 0x10 0x0001 1 9 i

/-- RECOVERY_LEFT has counted down to 0: the reason ends (R157). -/
def execRecoveryExpired (dt : Nat) (s : State) : Host.Outcome State Fault Refusal :=
  s.onDev dt true fun d =>
    if d.on FAB_MODE_RECOVERY ∧ d.fld FAB_MODE_RECOVERY_LEFT = 0 then (d.clr FAB_MODE_RECOVERY).updRegime else d

/-! ### Banks (R161–R165) -/

def execLkpFlipAtTick (dt : Nat) (a : Acc) (v : Nat) (s : State) : Host.Outcome State Fault Refusal :=
  s.onDevM dt true fun m d => d.regWrite m a LKP_FLIP (·.flipWrite v)

def execLkpFlipImmediate (dt : Nat) (a : Acc) (v : Nat) (s : State) : Host.Outcome State Fault Refusal :=
  s.onDevM dt true fun m d => d.regWrite m a LKP_FLIP (·.flipWrite v)

/-- A waiting flip takes effect, once a bank is free: one at the tick within 2 ns before it, else at the tick itself
(R161, R162). -/
def execFlipInstant (dt : Nat) (s : State) : Host.Outcome State Fault Refusal :=
  s.onDev dt true fun d =>
    let soon : Bool := decide (d.stg.nextTick ≤ d.domNs + 2) && d.boot.phase == .sealed
    if d.on LKP_STS_PENDING ∧ d.canFlip ∧ (d.fab.flip = some 2 ∨ soon) then
      let early := d.fab.flip == some 1
      let d := d.doFlip
      { d with fab := { d.fab with flipEarly := early } }
    else d

/-- The SYNC copy is complete and the bank becomes SHADOW (R163). -/
def Dev.syncDone (d : Dev) : Dev :=
  match d.fab.sync with
  | none => d
  | some i =>
    let d : Dev := { d with fab := { d.fab with
      sync := none, banks := tset [] d.active i d.fab.banks } }
    let d := (d.put LKP_STS_SHADOW_BANK i).clr LKP_STS_SYNC
    if d.fab.flip = some 2 ∧ d.canFlip then d.doFlip else d

/-- An access to the shadow window waits until no copy is in progress (R163): a flip that waited for the first copy takes
effect at its end and starts a second one. -/
def Dev.syncAll (d : Dev) : Dev := d.syncDone.syncDone

def execSyncCopyDone (dt : Nat) (s : State) : Host.Outcome State Fault Refusal := s.onDev dt true (·.syncDone)

/-- Every copy that is still counted against the old epoch is dropped and counted (R164). -/
def Dev.drainExpired (d : Dev) : Dev :=
  let e := d.oldEpoch
  let n := d.drainCount e
  let d := ((d.wr LKP_DRAIN_DROP_CNT (d.rn LKP_DRAIN_DROP_CNT + n)).set LKP_STS_DRAIN_TMO).raiseIf
    LKP_INT_EN_DRAIN_TMO 131
  let d := d.post 0x11 0x0003 1 9 e [n]
  d.each (d.fab.frames.filter (fun f => f.drains && f.wb.epoch == e)) (fun f d =>
    if f.heldDup then
      ((d.modFrame f.id (fun x => { x with heldDup := false, rcv := none, copies := [] })).settle f.id).drained
    else
      d.each f.copies (fun c d => d.resolve f.id c.port false))

/-- The drain timeout (R164). -/
def execDrainTimeout (dt : Nat) (s : State) : Host.Outcome State Fault Refusal :=
  s.onDev dt true fun d =>
    if d.fld LKP_STS_DRAIN_BANK = 3 ∨ d.fab.drainTicks < d.fld LKP_CTL_DRAIN_TMO then d else d.drainExpired

/-- A FRER instance resets (R150). -/
def Dev.frerReset (d : Dev) (i : Nat) : Dev := (d.setFrer i FrerRec.reset).frerCnt i 6

/-- A write to LKP_FRER_RST (R165): the recovery history and the generation counter start anew. -/
def Dev.frerRst (d : Dev) (v : Nat) : Dev :=
  let i := bits 7 0 v
  if bits 31 16 v ≠ 0xF2E5 then d
  else
    let d : Dev := { d with fab := { d.fab with frerGen := terase i d.fab.frerGen } }
    (d.frerReset i).post 0x11 0x0004 0 9 i

def execLkpFrerRst (dt : Nat) (a : Acc) (v : Nat) (s : State) : Host.Outcome State Fault Refusal :=
  s.onDevM dt true fun m d => d.regWrite m a LKP_FRER_RST (·.frerRst v)

/-- No frame has passed for RESET_MS (R150). -/
def execFrerResetTimeout (dt i : Nat) (s : State) : Host.Outcome State Fault Refusal :=
  s.onDev dt (i < 256) fun d =>
    if (tget FrerRec.reset d.fab.frer i).takeAny ∨
        !d.passed (tget FrerRec.reset d.fab.frer i).at_ (1000000 * bits 31 16 (d.active.frer i 0)) then d
    else d.frerReset i

/-- A stream gate reaches list entry `i` (R148): another entry than that of this grid instant is ignored. -/
def execStreamGateChange (dt g i : Nat) (s : State) : Host.Outcome State Fault Refusal :=
  s.onDev dt (g < 64 && i < 8) fun d =>
    let r := d.gateRange d.active g
    if i = r.1 ∨ i = r.2 then { d with fab := { d.fab with sgate := tset 0 i g d.fab.sgate } } else d

end Sys2Proof.Machine
end

