-- ==== Sys2Proof/Machine/Queues.lean ====
section
/-! DEFINITION. Endpoint queues: doorbells, transmission, delivery and receipts (spec/06, R167–R183, R194, R195),
and the outrider and the tow mirror (spec/07). -/

namespace Sys2Proof.Machine

open R

/-! ### Doorbells (R169) -/

/-- A doorbell write (R169, R183): refused when it moves TAIL back or beyond the ring; ignored by an unused queue
(R18). -/
def Dev.doorbell (d : Dev) (q v : Nat) : Dev :=
  let t := v % 65536
  let back : Bool := decide (32768 ≤ (t + 65536 - d.qTail q) % 65536)
  if d.qRole q = 0 then d
  else if back ∨ d.ringSize q < (t + 65536 - d.qHead q) % 65536 then
    (d.qStatus q CQ_STS_DB_REFUSED).post 0x10 0x000B 1 (qOwner q) q
  else
    let d : Dev := { (d.put (CQ_TAIL_COUNT (qOwner q) (qIdx q)) t) with
      dead := d.dead.filter (· ≠ q)
      fab := { d.fab with donePend := d.fab.donePend.filter (· ≠ q) } }
    (d.qGroup q).qEmpty q

def execCqDb (dt : Nat) (a : Acc) (q v : Nat) (s : State) : Host.Outcome State Fault Refusal :=
  s.onDevM dt (qOk q) fun m d => d.regWrite m a (CQ_DB (qOwner q) (qIdx q)) (·.doorbell q v)

/-! ### Descriptors (R168, R170, R171, R175) -/

/-- The descriptor at HEAD completes with eight words, HEAD advances (R169, R170, R182). -/
def Dev.complete (d : Dev) (m : Mem) (q : Nat) (ws : List Nat) : Dev × Mem :=
  let m := Mem.setWords m (d.descAddr q (d.qHead q)) ws
  (((d.put (CQ_HEAD_COUNT (qOwner q) (qIdx q)) (d.qHead q + 1)).qEmpty q).qDone q, m)

/-- A buffer that fails R175, a refused access of R335. -/
def Dev.memDenied (d : Dev) (m : Mem) (q addr len : Nat) (write : Bool) : Dev :=
  let d := d.refuseDma (qOwner q) ((d.dmaFault m (qOwner q) addr len write).getD addr)
  (d.qStatus q CQ_STS_DENIED).post 0x10 0x000C 1 (qOwner q) q

/-! ### Transmission (R138, R172–R176, R179) -/

/-- STATUS of the transmit descriptor at HEAD (R171, R172, R175, R179). DESIGN CHOICE: where several errors hold, the order is
BAD_KIND, BAD_LEN by the table, DENIED_MEM, BAD_LEN by the carriage's header, DENIED_DQ (assumption 128). -/
def Dev.txStatus (d : Dev) (m : Mem) (q : Nat) : Nat :=
  let d1 := d.headWord m q 1
  let d2 := d.headWord m q 2
  let buf := descBuf (d.headWord m q 0) d1
  let len := bits 29 16 d1
  let kind := bits 7 4 d2
  let direct := bit 1 d2
  let dq := bits 21 12 d2
  if 2 < kind ∨ (kind = 2 ∧ !direct) then 4
  else if (kind = 0 ∧ (len < 12 ∨ 9212 < len)) ∨ (kind = 1 ∧ len < 16) ∨ (kind = 2 ∧ (len < 1 ∨ 9216 < len)) then 3
  else if !d.dmaOk m (qOwner q) buf len false then 1
  else if kind = 1 ∧ (len ≠ 16 + carDlen (Mem.bytes m buf 4) ∨
      !carLenOk (carKind (Mem.bytes m buf 4)) (carDlen (Mem.bytes m buf 4))) then 3
  else if direct ∧ (!qOk dq ∨ (d.qRole dq ≠ 3 ∧ d.qRole dq ≠ 4) ∨ !bit (qOwner q) (d.rn (CQ_ALLOW (qOwner dq) (qIdx dq)))) then 2
  else 0

/-- The words of a completed transmit descriptor. -/
def Dev.txWords (d : Dev) (m : Mem) (q st : Nat) (wb : List Nat) : List Nat :=
  [d.headWord m q 0, d.headWord m q 1,
   1 + (d.headWord m q 2 % 2 ^ 24 / 2 * 2) + 2 ^ 24 * st, d.headWord m q 3] ++ wb

/-- A direct message enters the fabric for a receive queue, with its copy at the owner's port (R138, R152, R184, R187): it
is written as its cells arrive, and in Express delivered with BAD where it proves bad. -/
def Dev.sendDirect (d : Dev) (f : Frame) (q : Nat) : Dev :=
  let p := f.wb.port
  let t := 36 + qOwner q
  let id := d.fab.next
  let cut := (d.cutDecision p t false).1
  let d := d.enter { f with drains := false, looked := true, tail := true }
  let d := d.admitCopy id
    { port := t, cls := f.wb.cls, de := false, queue := some q, start := 0, passed := 0, cut := cut, thresh := 0,
      early := !d.stored p t false, readyAt := 0, sending := false, bad := false, kept := none,
      flags := (if cut then 128 else 0), untag := true, rtag := .keep, acf := none, mirror := false }
  (d.advanceFlows id).settle id

/-- The head frame of a transmit queue enters the fabric, or its descriptor completes with an error, or it waits for
the budget of the next stage (R171–R174, R179). `late`: launched under RUN_NOW (R100). DESIGN CHOICE: d4 to d7 of a refused
descriptor, which has no waybill, are written 0 (assumption 129). -/
def Dev.sendHead (d : Dev) (m : Mem) (q : Nat) (late : Bool) : Dev × Mem :=
  let o := qOwner q
  let n := qIdx q
  let p := 36 + o
  let st := d.txStatus m q
  let d1 := d.headWord m q 1
  let d2 := d.headWord m q 2
  let len := bits 29 16 d1
  if st = 1 then (d.memDenied m q (descBuf (d.headWord m q 0) d1) len false).complete m q (d.txWords m q 1 [0, 0, 0, 0])
  else if st = 2 then
    ((d.qStatus q CQ_STS_DENIED).post 0x10 0x000D 0 o (bits 21 12 d2)).complete m q (d.txWords m q 2 [0, 0, 0, 0])
  else if st ≠ 0 then d.complete m q (d.txWords m q st [0, 0, 0, 0])
  else if d.fld (CQ_BUDGET_BYTES o n) ≠ 0 ∧ d.budgetLeft q < len then
    ((d.set (CQ_STS_BUDGET_HOLD o n)).qBudgetPost q, m)
  else
    let d := d.budgetTake q len
    let raw := Mem.bytes m (descBuf (d.headWord m q 0) d1) len
    let kind := bits 7 4 d2
    let padded := raw ++ List.replicate (60 - raw.length) 0
    let bytes := if kind = 0 then padded ++ fcs padded else raw
    let f := d.newFrame p p kind o d.ns256 bytes
    let f := { f with sendQ := some q, wb := (if late then f.wb.flag 6 else f.wb) }
    let id := d.fab.next
    if kind = 1 ∧ !carOk raw then d.complete m q (d.txWords m q 0 f.wb.words)
    else if bit 1 d2 then
      let cls := bits 10 8 d2
      let dq := bits 21 12 d2
      let r := d.takeFseq none p cls
      let wb := { f.wb with cls := cls, fseq := r.1 }
      let d := r.2.sendDirect { f with wb := wb } dq
      d.complete m q (d.txWords m q 0 wb.words)
    else
      let d := d.enter f
      let d := d.lookup id { f with id := id }
      let wb := ((d.frame id).map (·.wb)).getD f.wb
      let d := match d.frame id with
        | some x => d.tailCheck x false 0 none
        | none => d
      d.complete m q (d.txWords m q 0 wb.words)

/-- The transmit queues of an owner that have a frame to send, in the order of R173: CLASS 7 first, and among equals
from the one after the last served. -/
def Dev.txOrder (d : Dev) (o : Nat) : List Nat :=
  let size := if o = 8 then 16 else 64
  let l := (List.range size).filter (fun n =>
    d.qRole (64 * o + n) == 1 && d.qPosted (64 * o + n) != 0 && !d.on (CQ_STS_BUDGET_HOLD o n))
  [7, 6, 5, 4, 3, 2, 1, 0].flatMap (fun k =>
    let r := tget 0 d.fab.rr (8 * o + k)
    let lk := l.filter (fun n => d.fld (CQ_CFG_CLASS o n) == k)
    lk.filter (fun n => r ≤ n) ++ lk.filter (fun n => n < r))

/-- The first queue of a list whose head frame is not held for its budget sends (R173, R174). -/
def Dev.sendFirst (o : Nat) : List Nat → Dev → Mem → Dev × Mem
  | [], d, m => (d, m)
  | n :: r, d, m =>
    let q := 64 * o + n
    let x := d.sendHead m q false
    if x.1.on (CQ_STS_BUDGET_HOLD o n) then Dev.sendFirst o r x.1 x.2
    else
      let k := d.fld (CQ_CFG_CLASS o n)
      ({ x.1 with fab := { x.1.fab with rr := tset 0 (n + 1) (8 * o + k) x.1.fab.rr } }, x.2)

/-- The port of coach or Guard `o` sends the next frame of its transmit queues (R173). -/
def execTransmitDescriptorSend (dt o : Nat) (s : State) : Host.Outcome State Fault Refusal :=
  s.onAll dt (o < 9) fun m d => Dev.sendFirst o (d.txOrder o) d m

/-! ### Delivery (R170–R172, R175, R178, R180) -/

/-- The descriptor at HEAD of a receive queue is taken; buffers that fail R175 are skipped. Answers whether the ring holds
one. `k` bounds the skips. -/
def Dev.takeHead (q : Nat) : Nat → Dev → Mem → Dev × Mem × Bool
  | 0, d, m => (d, m, false)
  | k + 1, d, m =>
    let d0 := d.headWord m q 0
    let d1 := d.headWord m q 1
    if d.qPosted q = 0 then (d, m, false)
    else if d.dmaOk m (qOwner q) (descBuf d0 d1) (bits 29 16 d1) true then (d, m, true)
    else
      let d2 := 1 + 2 * b2n (bit 1 (d.headWord m q 2)) + 4096 * 0x3FF + 2 ^ 24
      let r := (d.memDenied m q (descBuf d0 d1) (bits 29 16 d1) true).complete m q [d0, d1 % 4, d2, d.headWord m q 3, 0, 0, 0, 0]
      Dev.takeHead q k r.1 r.2

/-- Bytes are written into the buffer at HEAD of a receive queue, and the descriptor completes (R170, R171). Answers
STATUS, or none while the ring holds no descriptor. -/
def Dev.receive (q : Nat) (bytes : List Nat) (kind cls dq : Nat) (bad : Bool) (wb : List Nat) (d : Dev) (m : Mem) :
    Dev × Mem × Option Nat :=
  let r := Dev.takeHead q (d.qPosted q) d m
  let d := r.1
  let m := r.2.1
  if !r.2.2 then (d, m, none)
  else
    let d0 := d.headWord m q 0
    let d1 := d.headWord m q 1
    let size := bits 29 16 d1
    let st := if size < bytes.length then 0x10 else 0
    let d2 := 1 + 2 * b2n (bit 1 (d.headWord m q 2)) + 4 * b2n bad + 16 * kind + 256 * cls + 4096 * dq + 2 ^ 24 * st
    let m' := Mem.setBytes m (descBuf d0 d1) (bytes.take size)
    let x := d.complete m' q ([d0, d1 % 4 + 65536 * min bytes.length size, d2, d.headWord m q 3] ++ wb)
    (x.1, x.2, some st)

/-- A chunk of a cipher command has taken the descriptor before HEAD: the lane notes it (R388, R399, R400). -/
def Dev.chunkWritten (d : Dev) (m : Mem) (f : Frame) (q : Nat) : Dev :=
  let l := f.src - 48
  let x := tget Lane.reset d.ce.lanes l
  match (if f.src < 48 then none else x.run) with
  | none => d
  | some r =>
    if !r.out.contains f.id then d
    else
      let pos := (d.qHead q + 65535) % 65536
      let r := { r with
        sent := r.sent ++ [pos], out := r.out.filter (· ≠ f.id),
        firstTag := if r.first = some f.id then Mem.word m (d.descAddr q pos + 12) else r.firstTag }
      { d with ce := { d.ce with lanes := tset Lane.reset { x with run := some r } l d.ce.lanes } }

/-- A copy whose tail has been written completes its receive descriptor (R178, R180, R189, R194). The flag RESEQ_GAP is that
of the frame after the gap, not of one that the gap has truncated. -/
def Dev.deliver (d : Dev) (m : Mem) (f : Frame) (c : Copy) (q : Nat) : Dev × Mem :=
  let key := flowKey f.src c.port c.cls
  let gapped := d.fab.gapNext.contains key && !c.gapCut
  let wb := { f.wb with flags := f.wb.flags ||| c.flags ||| (if gapped then 256 else 0) }
  let direct := !f.drains
  let bytes := keptBytes f c (egressBytes f c 0)
  let dq := if direct then f.sendQ.getD 0x3FF else 0x3FF
  let r := Dev.receive q bytes f.kind c.cls dq c.bad wb.words d m
  match r.2.2 with
  | none => (r.1.modCopy f.id c.port (fun c => { c with sending := false }), r.2.1)
  | some st =>
    let d := ((r.1.chunkWritten r.2.1 f q).tallyP c.port 0x41 f.cells).bwOut c.port f.wb.len
    let d : Dev := { d with fab := { d.fab with gapNext := if gapped then d.fab.gapNext.filter (· ≠ key) else d.fab.gapNext } }
    let d := d.budgetTake q f.wb.len
    let d := if direct then d
      else (d.sample c.port c.cls 1 (some c.port) f.id bytes wb).sampleTail f.id (some c.port) c.bad
    (d.resolve f.id c.port (st == 0 && !c.bad), r.2.1)

/-- The copy that an endpoint port takes next (R185). Of two for one queue that became ready in the same cycle, the one of
the lower class goes first, and then the one from the lower ingress port (R182). -/
def Dev.nextDelivery (d : Dev) (p : Nat) : Option (Frame × Copy) :=
  match d.nextCopy p with
  | none => none
  | some x =>
    let l := ((List.range 8).filter (fun k => (d.eligible p k).isSome)).flatMap (fun k =>
      (d.copiesAt p k).filter (fun y =>
        y.2.queue == x.2.queue && y.2.readyAt == x.2.readyAt && d.copyReady y.1 y.2))
    let best := l.find? (fun y => l.all (fun z =>
      decide (y.2.cls < z.2.cls) || (y.2.cls == z.2.cls && decide (y.1.wb.port ≤ z.1.wb.port))))
    match best with
    | some y => some y
    | none => some x

/-- A copy that has taken its descriptor is written on, and completed once its tail has been checked and its cells are
there. -/
def Dev.writeCopy (d : Dev) (m : Mem) (f : Frame) (c : Copy) (q : Nat) : Dev × Mem :=
  if f.tail ∧ (f.cells ≤ c.passed ∨ c.kept.isSome) then d.deliver m f c q else (d, d.partWrite m f c q)

/-- An endpoint port writes frame `id`: the copy that it is writing, or the one that it takes next (R178, R185). -/
def Dev.delivery (d : Dev) (m : Mem) (id p : Nat) : Dev × Mem :=
  match d.inProgress p with
  | some (f, c) =>
    (match c.queue with
    | some q => if f.id = id then d.writeCopy m f c q else (d, m)
    | none => (d, m))
  | none =>
    match d.nextDelivery p with
    | none => (d, m)
    | some (f, c) =>
      match c.queue with
      | none => (d, m)
      | some q =>
        if f.id ≠ id then (d, m)
        else
          let r := Dev.takeHead q (d.qPosted q) d m
          if r.2.2 then (r.1.modCopy id p (fun c => { c with sending := true })).writeCopy r.2.1 f { c with sending := true } q
          else (r.1, r.2.1)

/-- A copy takes the receive descriptor at HEAD and its cells are written (R178). -/
def execReceiveDelivery (dt id p : Nat) (s : State) : Host.Outcome State Fault Refusal :=
  s.onAll dt (36 ≤ p && p < 45) fun m d => d.delivery m id p

/-! ### Delivery receipts (R183, R194, R195) -/

/-- A set of ports as a 48-bit number. -/
def portMask (l : List Nat) : Nat := maskOf l

/-- The oldest receipt that waits is written, lost, or discarded with its sender's reset. -/
def execDeliveryReceipt (dt : Nat) (s : State) : Host.Outcome State Fault Refusal :=
  s.onAll dt true fun m d =>
    match d.fab.receipts with
    | [] => (d, m)
    | r :: rest =>
      let d : Dev := { d with fab := { d.fab with receipts := rest } }
      let o := qOwner r.sendQ
      let e := 64 * o + d.fld (CQ_CFG_RCPT o (qIdx r.sendQ)) % (if o = 8 then 16 else 64)
      if d.coachDown o ∨ d.dead.contains r.sendQ then (d, m)
      else if d.qRole e ≠ 4 ∨ d.qPosted e = 0 then
        let d := (d.bump (CQ_RCPT_DROP_CNT o (qIdx r.sendQ))).qStatus r.sendQ CQ_STS_RCPT_LOST
        (d.post 0x10 0x000A 0 o r.sendQ, m)
      else
        let del := portMask r.delivered
        let att := portMask r.attempted
        let wb := if del ≠ att then r.wb.flag 3 else r.wb
        let d2 := 1 + 2 * b2n (bit 1 (d.headWord m e 2)) + 16 * 3 + 4096 * r.sendQ
        d.complete m e ([del % 2 ^ 32, del / 2 ^ 32 + 65536 * (att / 2 ^ 32), d2, att % 2 ^ 32] ++ wb.words)

/-! ### Outrider (R197, R199, R201) -/

/-- A sample is written into its destination's queue (R199). -/
def Dev.sampleWrite (d : Dev) (m : Mem) (k q : Nat) (s : Sample) : Dev × Mem :=
  let r := Dev.receive q s.bytes 5 s.cls 0x3FF s.bad s.wb.words d m
  match r.2.2 with
  | none => (r.1, r.2.1)
  | some _ =>
    let d := (r.1.removeSample s).bump (OUTR_DEST_SENT_CNT k)
    ({ d with fab := { d.fab with sent := tset 0 (tget 0 d.fab.sent k + 1) k d.fab.sent } }, r.2.1)

/-- A sample is dropped rather than delivered (R201); `n` samples already wait for the queue. DESIGN CHOICE: so is one whose
destination has EN = 0 at delivery (assumption 109). -/
def Dev.sampleRefused (d : Dev) (k q n : Nat) (x : Sample) : Bool :=
  let max := d.fld (OUTR_DEST_CFG_MAX_PER_STAGE k)
  decide (4 ≤ x.dest) || !d.on (OUTR_DEST_CFG_EN k) || (!x.waiting && d.qPosted q == 0 && decide (32 ≤ n)) ||
    (max != 0 && decide (max ≤ tget 0 d.fab.sent k)) || decide (d.bufFree < 145) || d.coachDown (qOwner q) || d.dead.contains q

/-- The oldest sample of destination `k` whose frame's tail has been checked is delivered, waits, or is dropped; those that
wait go first once a descriptor is posted. -/
def execSampleDelivery (dt k : Nat) (s : State) : Host.Outcome State Fault Refusal :=
  s.onAll dt (k < 4) fun m d =>
    let q := d.fld (OUTR_DEST_CFG_QUEUE k)
    let waiting := d.fab.samples.filter (fun x => x.waiting && x.dest == k)
    -- R201 counts the samples that wait for the queue, whichever destinations name it
    let n := (d.fab.samples.filter (fun x => x.waiting && decide (x.dest < 4) && d.fld (OUTR_DEST_CFG_QUEUE x.dest) == q)).length
    let fresh := d.fab.samples.find? (fun x => x.ready && !x.waiting && x.dest % 4 == k)
    match (if d.fabDown then none else if d.qPosted q ≠ 0 ∧ waiting ≠ [] then waiting.head? else fresh) with
    | none => (d, m)
    | some x =>
      if d.sampleRefused k q n x then ((d.removeSample x).sampleDrop k, m)
      else if d.qPosted q = 0 then
        ({ d with fab := { d.fab with
            samples := modifyFirst (· == x) (fun y => { y with waiting := true }) d.fab.samples } }, m)
      else d.sampleWrite m k q x

/-- A write of a sampler's N (R197). -/
def Dev.samplerWrite (d : Dev) (p k v : Nat) : Dev := (d.put (OUTR_PORT_N_N p k) v).reload p k

def execOutrPortNWrite (dt : Nat) (a : Acc) (p k v : Nat) (s : State) : Host.Outcome State Fault Refusal :=
  s.onDevM dt (p < 44 && k < 8) fun m d => d.regWrite m a (OUTR_PORT_N p k) (·.samplerWrite p k v)

/-! ### The tow mirror (R203–R206) -/

/-- An enable refused, or an arm expired (R205). -/
def Dev.towErr (d : Dev) (cfg : Bool) : Dev :=
  ((d.set (if cfg then TOW_L_STS_CFG_ERR else TOW_L_STS_SEQ_ERR)).setTow 0).post 0x14 0x0003 0 9 (b2n cfg)

/-- The checks of R206. -/
def Dev.towChecks (d : Dev) : Bool :=
  let a := d.fld TOW_L_ANALYSIS_PORT
  let ok := d.fld TOW_CFG_ALLOWED
  let src := d.fld TOW_L_ING_SRC_PORTS ||| d.fld TOW_L_EGR_SRC_PORTS
  1 ≤ a && a ≤ 12 && bit (a - 1) ok && (src &&& (ok ^^^ 0xFFF)) == 0 && !bit (a - 1) src && src != 0

/-- A 16-bit write to TOW_LEGACY_CTL (R205). DESIGN CHOICE: DISABLE together with ARM or ENABLE alone counts as DISABLE
(assumption 110). -/
def Dev.towCtl (d : Dev) (v : Nat) : Dev :=
  let arm := bit 0 v
  let en := bit 1 v
  let st := d.fld TOW_STS_STATE
  if d.on TOW_STS_SEALED_OFF ∨ d.gated 4 0 then d
  else if arm ∧ en then d.towErr false
  else if bit 2 v then (if st = 2 then (d.setTow 0).post 0x14 0x0002 0 9 0 else d.setTow 0)
  else if arm ∧ st ≠ 2 then
    ({ d with fab := { d.fab with towArm := d.up } } : Dev).setTow 1
  else if en ∧ st = 0 then d.towErr false
  else if en ∧ st = 1 then
    (if d.towChecks then (d.setTow 2).post 0x14 0x0001 0 9 (d.fld TOW_L_ANALYSIS_PORT) else d.towErr true)
  else d

def execTowArm (dt : Nat) (a : Acc) (v : Nat) (s : State) : Host.Outcome State Fault Refusal :=
  s.onDevM dt true fun m d => d.regWrite m a TOW_LEGACY_CTL (·.towCtl v)

def execTowEnable (dt : Nat) (a : Acc) (v : Nat) (s : State) : Host.Outcome State Fault Refusal :=
  s.onDevM dt true fun m d => d.regWrite m a TOW_LEGACY_CTL (·.towCtl v)

def execTowDisable (dt : Nat) (a : Acc) (v : Nat) (s : State) : Host.Outcome State Fault Refusal :=
  s.onDevM dt true fun m d => d.regWrite m a TOW_LEGACY_CTL (·.towCtl v)

/-- The 1 ms arm window elapses (R205). -/
def execTowArmExpiry (dt : Nat) (s : State) : Host.Outcome State Fault Refusal :=
  s.onDev dt true fun d => 
    if d.fld TOW_STS_STATE = 1 ∧ !d.gated 4 0 ∧ d.passed d.fab.towArm 1000000 then d.towErr false else d

end Sys2Proof.Machine
end

