-- ==== Sys2Proof/Machine/Strongbox.lean ====
section
/-! DEFINITION. The strongbox (spec/15, R365–R385): slots, derivation, replacement, invalidation, odometers, debug
certificates and its commands. The tamper alarm is in Reset.lean. -/

namespace Sys2Proof.Machine

open R

/-! ### Slots (R366–R368) -/

def Dev.keySlot (d : Dev) (s : Nat) : SbSlot := tget SbSlot.empty d.sbx.slots s

def SbKey.type (k : SbKey) : Nat := bits 3 0 k.attr
def SbKey.usage (k : SbKey) (b : Nat) : Bool := bit b k.attr
def SbKey.owner (k : SbKey) : Nat := bits 13 10 k.attr
def SbKey.expiry (k : SbKey) : Nat := bits 15 14 k.attr
def SbKey.hwNonce (k : SbKey) : Bool := bit 16 k.attr

/-- The test root is in use (R370). -/
def Dev.testRoot (d : Dev) : Bool := d.on SBX_ROOT_TEST

/-- The persistent image is written at each change of a slot of EXPIRY 0 (R369, R370), into the two store copies alternately
(R414). -/
def Dev.writeImage (d : Dev) : Dev :=
  if d.testRoot then d
  else { d with sbx := { d.sbx with
      image := d.sbx.slots.filter (fun x => x.1 ≠ 0 && x.2.k.expiry == 0), imageOdo := tget 0 d.sbx.odo 15,
      imageOld := some (d.sbx.image, d.sbx.imageOdo), imageNext := 1 - d.sbx.imageNext, imageAt := d.up + 1 } }

/-- A slot takes a new content. -/
def Dev.setKeySlot (d : Dev) (s : Nat) (x : SbSlot) : Dev :=
  ({ d with sbx := { d.sbx with slots := tset SbSlot.empty x s d.sbx.slots } } : Dev).writeImage

/-- Key bytes by TYPE (R366); a TYPE 8 key brings its salt of 12 bytes with it. -/
def keyLen (attr : Nat) : Nat :=
  match bits 3 0 attr with
  | 1 => 16
  | 2 => 32
  | 3 => 8 * bits 26 23 attr
  | 4 => 32
  | 5 => 48
  | 6 => 64
  | 7 => 32
  | 8 => 44
  | _ => 48

/-- The attributes that a descriptor gives (R366): STAGED, STATE and reserved bits ignored, LEN fixed by type but for
TYPE 3; that of a SAK counts its 256-bit key. -/
def attrOf (w : Nat) : Nat :=
  w % 2 ^ 19 + 2 ^ 23 * (match bits 3 0 w with
    | 3 => bits 26 23 w
    | 8 => 4
    | _ => keyLen w / 8)

/-- TYPE, EXPIRY and LEN are none that the spec refuses. -/
def attrOk (attr : Nat) : Bool :=
  1 ≤ bits 3 0 attr && bits 3 0 attr ≤ 9 && bits 15 14 attr != 3 &&
    (bits 3 0 attr != 3 || (2 ≤ bits 26 23 attr && bits 26 23 attr ≤ 8))

/-- STATUS of a refusal whose value the spec does not state. -/
def stOpen : Nat := 0x100

/-- STATUS of a slot that is not ACTIVE (R367, R375), 0 for an ACTIVE one. -/
def SbSlot.stateStatus (x : SbSlot) : Nat :=
  match x.state with
  | 0 => 0x03
  | 1 => 0
  | 2 => 0x07
  | 3 => 0x06
  | _ => 0x10

/-- STATUS of a use on behalf of an owner (R367); `b` is the USAGE bit that it needs. -/
def SbSlot.useStatus (x : SbSlot) (b : Option Nat) (owner : Nat) : Nat :=
  if x.stateStatus ≠ 0 then x.stateStatus
  else if x.k.use = 0 then 0x06
  else
    let lacks := match b with
      | none => false
      | some b => !x.k.usage b
    if lacks then 0x04 else if x.k.owner ≠ owner then 0x05 else 0

/-- A record of the strongbox. -/
def Dev.sbxPost (d : Dev) (code sev owner inst : Nat) (data : List Nat := []) : Dev := d.post 0x41 code sev owner inst data

/-- A cipher command in flight uses the slot's key. -/
def Dev.slotBusy (d : Dev) (s : Nat) : Bool :=
  d.ce.lanes.any (fun l => match l.2.run with
    | some r => r.slot == some s
    | none => false)

/-- A slot whose last operation has ended becomes EMPTY when it has been revoked or erased (R375), and loses its key
when it has retired (R367). -/
def Dev.settleSlot (d : Dev) (s : Nat) : Dev :=
  let x := d.keySlot s
  if d.slotBusy s then d
  else if x.state = 2 then d.setKeySlot s SbSlot.empty
  else if x.state = 3 ∧ (x.k.key ≠ [] ∨ x.k.salt ≠ []) then d.setKeySlot s { x with k := { x.k with key := [], salt := [] } }
  else if x.state = 4 then (d.setKeySlot s SbSlot.empty).sbxPost 0x0003 0 x.k.owner s
  else d

/-- The use that took USE to 0 has run to its end: the slot becomes RETIRED (R367). -/
def Dev.retireSlot (d : Dev) (s : Nat) : Dev :=
  let x := d.keySlot s
  ((d.setKeySlot s { x with state := 3, last := none }).sbxPost 0x0005 0 x.k.owner s).settleSlot s

/-- A use starts (R367), of a command of a lane or, without a lane, one that ends in the same step. -/
def Dev.takeUse (d : Dev) (s : Nat) (lane : Option Nat := none) : Dev :=
  let x := d.keySlot s
  if x.k.use = 0xFFFFFFFF then d
  else
    let y := { x with k := { x.k with use := x.k.use - 1 } }
    if x.k.use ≠ 1 then d.setKeySlot s y
    else if lane.isSome then d.setKeySlot s { y with last := lane }
    else (d.setKeySlot s y).retireSlot s

/-- A cipher command that used a slot's key has ended on a lane (R367, R375). -/
def Dev.useEnds (d : Dev) (s l : Nat) : Dev :=
  if (d.keySlot s).last = some l then d.retireSlot s else d.settleSlot s

/-- What a Beyvo reset left unfinished is brought to its end when a slot has been restored (R367, R369, R375). -/
def Dev.settleRestored (d : Dev) (s : Nat) : Dev :=
  if (d.keySlot s).last.isSome then d.retireSlot s else d.settleSlot s

/-- The MACsec SAs installed from a slot lose their key (R375, R403). -/
def Dev.removeSa (d : Dev) (key : Nat) : Dev :=
  let p := key / 64
  let i := key % 64
  let dir := b2n (8 ≤ i)
  let sc := if 8 ≤ i then (i - 8) / 4 else 0
  let an := i % 4
  let d : Dev := { d with msec := terase key d.msec }
  let d := if 8 ≤ i then d.clr (PORT_MSEC_RXSA_KEYED p sc an) else d.clr ⟨CE_MSEC_TXKEYED, 4 * p + an, 4 * p + an⟩
  d.post 0x40 0x0007 0 8 p [8 * dir + 16 * sc + 128 * an, 1]

def Dev.removeSas (d : Dev) (s : Nat) : Dev :=
  d.each (d.msec.filter (fun x => x.2.slot = s)) (fun x d => d.removeSa x.1)

/-- A slot is REVOKED, its shadow discarded (R375): the commands in flight under its key learn it. -/
def Dev.revokeSlot (d : Dev) (s : Nat) : Dev :=
  let x := d.keySlot s
  let d : Dev := { d with ce := { d.ce with
    lanes := d.ce.lanes.map (fun l => (l.1, { l.2 with run := l.2.run.map (fun r =>
      if r.slot = some s then { r with revoked := true } else r) })) } }
  let d := d.removeSas s
  (d.setKeySlot s { x with state := 2, shadow := none, last := none, k := { x.k with key := [], salt := [] } }).settleSlot s

/-- The slots derived from those of a list, at every depth (R375); `n` bounds the depth. -/
def descend (slots : List (Nat × SbSlot)) (l : List Nat) : Nat → List Nat
  | 0 => l
  | n + 1 =>
    descend slots (slots.foldl (fun l x =>
      match x.2.k.parent with
      | some p => if l.contains p && x.2.state != 0 then insertNat x.1 l else l
      | none => l) l) n

/-- The descendants of a slot. -/
def Dev.descendants (d : Dev) (s : Nat) : List Nat :=
  (descend d.sbx.slots [s] d.sbx.slots.length).filter (· ≠ s)

/-! ### Random numbers (R381) -/

/-- `n` bytes of the CTR_DRBG. -/
def Dev.drbgBytes (d : Dev) (n : Nat) : List Nat × Dev :=
  let ws := (List.range ((n + 3) / 4)).flatMap (fun i => leBytes 4 (Config.drbgWord (d.sbx.drbg + i)))
  (ws.take n, { d with sbx := { d.sbx with drbg := d.sbx.drbg + (n + 3) / 4 } })

/-- A TRNG health test fails (R381). -/
def Dev.healthFail (d : Dev) : Dev :=
  (({ d with sbx := { d.sbx with refused := true } } : Dev).set SBX_STS_HEALTH).raiseIf SBX_INT_EN_HEALTH 241
    |>.sbxPost 0x0009 2 8 0

def execTrngHealthFailure (dt : Nat) (s : State) : Host.Outcome State Fault Refusal := 
  s.onDev dt true fun d => if d.frm.beyvoUp then d.healthFail else d

/-- The reseed is retried; `ok`: it passes its tests (R381). -/
def execDrbgReseedRetry (dt : Nat) (ok : Bool) (s : State) : Host.Outcome State Fault Refusal :=
  s.onDev dt true fun d => if ok ∧ d.frm.beyvoUp then { d with sbx := { d.sbx with refused := false } } else d

/-- A read of SBX_DRBG (R381). -/
def Dev.drbgRead (d : Dev) : Dev :=
  if d.sbx.refused then d.returns 0
  else
    ({ d with sbx := { d.sbx with drbg := d.sbx.drbg + 1 } } : Dev).returns (Config.drbgWord d.sbx.drbg % 2 ^ 32)

def execSbxDrbgRead (dt : Nat) (a : Acc) (s : State) : Host.Outcome State Fault Refusal :=
  s.onDevM dt true fun m d => d.regRead m a SBX_DRBG (·.drbgRead)

/-! ### Derivation (R370, R371) -/

/-- The counter-mode KDF: PRF outputs for counters 1, 2, … over the fixed input data, `len` bytes of them. -/
def kdf (hmac : Bool) (key fixed : List Nat) (len : Nat) : List Nat :=
  ((List.range ((len + 15) / 16)).flatMap (fun i => Config.prf hmac key (beBytes 4 (i + 1) ++ fixed))).take len

/-- An ASCII string as bytes. -/
def ascii (s : String) : List Nat := s.toList.map Char.toNat

/-- The test root (R370). -/
def testRootKey : List Nat := kdf false Config.pufRoot (ascii "TCHZ TEST ROOT" ++ [0] ++ beBytes 4 256) 32

/-- Slot 0 (R368, R370). -/
def rootSlot (test : Bool) : SbSlot :=
  { k := { attr := attrOf (4 + 2 ^ 8 + 8 * 2 ^ 10), use := 0xFFFFFFFF, parent := none,
           key := if test then testRootKey else Config.pufRoot, salt := [] },
    gen := 1, state := 1, shadow := none, last := none }

/-! ### Odometers (R382, R383) -/

def Dev.odo (d : Dev) (n : Nat) : Nat := tget 0 d.sbx.odo n

/-- Fuse k is blown once the value first reaches 4^(k+1). -/
def blownAt (v : Nat) : Nat := ((List.range 32).filter (fun k => decide (4 ^ (k + 1) ≤ v))).length

/-- The newest record of an odometer in a store copy: the highest value. -/
def newestRec (l : List (Nat × Nat)) (n : Nat) : Option Nat :=
  l.foldl (fun b x => if x.1 = n then some (max x.2 (b.getD 0)) else b) none

/-- What an erased store copy begins with: the newest records that the other copy does not hold (assumption 94). -/
def carried (own other : List (Nat × Nat)) : List (Nat × Nat) :=
  (List.range 16).filterMap (fun k =>
    match newestRec own k, newestRec other k with
    | some v, some w => if w < v then some (k, v) else none
    | some v, none => some (k, v)
    | none, _ => none)

/-- A record is appended to the two store copies alternately; a copy of 32,768 records is erased first (R414, R471). -/
def Dev.odoAppend (d : Dev) (n v : Nat) : Dev :=
  let c := d.sbx.storeNext
  let own := tget [] d.sbx.store c
  let kept := if own.length < 32768 then own else carried own (tget [] d.sbx.store (1 - c))
  { d with sbx := { d.sbx with store := tset [] (kept ++ [(n, v)]) c d.sbx.store, storeNext := 1 - c } }

/-- An odometer takes a value and its record is written (R382, R471). -/
def Dev.odoSet (d : Dev) (n v : Nat) : Dev :=
  ({ d with sbx := { d.sbx with odo := tset 0 v n d.sbx.odo } } : Dev).odoAppend n v

/-- An odometer advances. -/
def Dev.odoAdvance (d : Dev) (n k : Nat) : Dev :=
  let v := (d.odo n + k) % 2 ^ 64
  let b := max (tget 0 d.sbx.fuses n) (blownAt v)
  ({ d with sbx := { d.sbx with fuses := tset 0 b n d.sbx.fuses } } : Dev).odoSet n v

/-- The record of an odometer is read from flash (R383): `found` is its value, or none when it fails its
authentication. -/
def Dev.odoCheck (d : Dev) (n : Nat) (found : Option Nat) : Dev :=
  let b := tget 0 d.sbx.fuses n
  let ok : Bool := match found with
    | some v => decide (b = 0 ∨ 4 ^ b ≤ v)
    | none => false
  if ok then { d with sbx := { d.sbx with odo := tset 0 ((found.getD 0) % 2 ^ 64) n d.sbx.odo } }
  else
    let d := d.odoSet n (4 ^ b)
    ((d.set SBX_STS_ROLLBACK).raiseIf SBX_INT_EN_ROLLBACK 241).sbxPost 0x0008 2 8 n

/-- At a boot every odometer is taken from the newest of its records (R382, R383, R414). `found` lists odometers whose
record reads otherwise than it was written: an older value, or none when it fails its authentication. -/
def Dev.odoBoot (d : Dev) (found : List (Nat × Option Nat)) : Dev :=
  d.each (List.range 16) (fun n d =>
    match found.find? (fun x => x.1 == n), newestRec (tget [] d.sbx.store 0 ++ tget [] d.sbx.store 1) n with
    | some x, _ => d.odoCheck n x.2
    | none, some v => d.odoCheck n (some v)
    | none, none => d)

/-! ### Signatures and certificates (R379, R384, R413) -/

/-- Both signatures of a hybrid pair over a digest: public keys (97 and 1,952 bytes), signatures (96 and 3,309). -/
def hybridOk (digest keys sigs : List Nat) : Bool :=
  Config.ecdsaOk (keys.take 97) digest (sigs.take 96) && Config.mldsaOk (keys.drop 97) digest (sigs.drop 96)

/-- `n` bytes at an offset are zero. -/
def fieldZero (b : List Nat) (off n : Nat) : Bool := ((b.drop off).take n).all (· == 0)

/-- The check of a signature block (R413) over a digest, with the errors of R427: 0 = verified, 6 = root absent or
revoked, 7 = signature failed, 8 = malformed. -/
def sigBlock (b digest : List Nat) : Nat :=
  let root := b.getD 8 0
  let depth := b.getD 9 0
  let len := if depth = 1 then 10941 else 5477
  let rootKeys := (b.drop 0x10).take 2049
  let keys := if depth = 1 then (b.drop 0x818).take 2049 else rootKeys
  let sigs := (b.drop (if depth = 1 then 0x1D70 else 0x818)).take 3405
  let zero (off n : Nat) : Bool := fieldZero b off n
  if b.take 8 ≠ ascii "TCHZSIG1" ∨ 1 < depth ∨ b.length ≠ len ∨ !zero 10 6 ∨ !zero 0x811 7 ∨
      (depth = 1 ∧ (!zero 0x1019 7 ∨ !zero 0x1D6D 3)) ∨ (3 < root ∧ root ≠ 15) then 8
  else if Config.fusedHash root ≠ some (Config.sha384 rootKeys) then 6
  else if depth = 1 ∧ !hybridOk (shaBytes (ascii "TCHZSKEY" ++ keys)) rootKeys ((b.drop 0x1020).take 3405) then 7
  else if hybridOk digest keys sigs then 0 else 7

/-- The device's serial number, 16 bytes. -/
def Dev.serial (d : Dev) : List Nat := (List.range 4).flatMap (fun i => leBytes 4 (d.rn (SYS_SERIAL i)))

/-- A debug certificate is acceptable (R384). -/
def Dev.certOk (d : Dev) (c : List Nat) : Bool :=
  let signer := c.getD 0x1A 0
  c.take 8 == ascii "TCHZDBG1" && (c.drop 8).take 16 == d.serial && (signer < 4 || (signer == 15 && d.fld SYS_ID_GRADE == 1)) &&
    (c.drop 0x1C).getD 8 0 == signer && sigBlock (c.drop 0x1C) (shaBytes (c.take 0x1C)) == 0

/-- A certificate is presented (R351, R384): after seal only one that holds OPEN_NINV alone is accepted. -/
def Dev.cert (d : Dev) (c : List Nat) : Bool × Dev :=
  let en := c.getD 0x18 0 % 16
  let signer := c.getD 0x1A 0
  if d.certOk c ∧ (!d.on SYS_READY_SEALED ∨ en = 1) then
    let old := d.fld MAN_DBG_STS_COACHES
    let d := d.wr MAN_DBG_STS ((d.rn MAN_DBG_STS % 16) ||| en ||| 256 * (old ||| c.getD 0x19 0 % 256))
    let d := (d.put DBG_STS_ENABLES (d.rn MAN_DBG_STS % 16)).put DBG_STS_COACHES (d.fld MAN_DBG_STS_COACHES)
    let d := ((d.set SBX_ROOT_CERT).put SBX_ROOT_SIGNER signer).set DBG_STS_CERT
    (true, ({ d with dbg := { d.dbg with first := true } } : Dev).sbxPost 0x0006 0 8 en)
  else (false, d.sbxPost 0x0007 1 8 signer)

/-! ### Commands (R385) -/

/-- A command as its descriptor gives it. -/
structure SbxCmd where
  op : Nat
  shadow : Bool
  prf : Bool
  owner : Nat
  slot : Nat
  slot2 : Nat
  attr : Nat
  use : Nat
  inAddr : Nat
  inLen : Nat
  outAddr : Nat
  outCap : Nat
deriving DecidableEq, Repr

def sbxCmd (m : Mem) (a : Nat) : SbxCmd :=
  let w (i : Nat) := Mem.word m (a + 4 * i)
  { op := w 0 % 256, shadow := bit 8 (w 0), prf := bit 9 (w 0), owner := bits 15 12 (w 0), slot := bits 23 16 (w 0),
    slot2 := bits 31 24 (w 0), attr := attrOf (w 1), use := w 2, inAddr := w 3, inLen := w 4 % 65536, outAddr := w 5,
    outCap := w 6 % 65536 }

/-- The accesses of the strongbox, which acts as Guard (R385). -/
def sbxAcc : Acc := { owner := 8, guard := true, core := 15 }

/-- The first address of a buffer that fails R333 for Guard: every page of it must be memory that Guard may read or
write, or flash outside the strongbox's store (R414) for a read. -/
def Dev.guardFault (d : Dev) (m : Mem) (addr len : Nat) (k : AccKind) : Option Nat :=
  if len = 0 then none
  else
    (((List.range ((addr + len - 1) / 4096 + 1 - addr / 4096)).map (fun i => (addr / 4096 + i) * 4096)).find? (fun a =>
      if 0x20000000 ≤ a ∧ a < 0x30000000 then k != .read || flashStore a
      else
        match pageIndex a with
        | none => true
        | some e => 137216 ≤ e || !pageAllows (d.pageEntry m e) sbxAcc k)).map (max addr)

def Dev.guardMem (d : Dev) (m : Mem) (addr len : Nat) (k : AccKind) : Bool := (d.guardFault m addr len k).isNone

/-- A refused access of the strongbox (R335, R385). -/
def Dev.guardDenied (d : Dev) (m : Mem) (addr len : Nat) (k : AccKind) : Dev :=
  d.refused sbxAcc k ((d.guardFault m addr len k).getD addr)

/-- What a command comes to: STATUS, the output, GEN used or created, and the state. -/
structure SbxRes where
  st : Nat
  out : List Nat
  gen : Option Nat
  dev : Dev
deriving DecidableEq, Repr

def Dev.sbxNo (d : Dev) (st : Nat) : SbxRes := { st := st, out := [], gen := none, dev := d }

/-- STATUS of a slot, or its shadow, that a new key is to enter (R368, R372, R385). -/
def Dev.slotStatus (d : Dev) (c : SbxCmd) : Nat :=
  let x := d.keySlot c.slot
  if c.slot = 0 then 0x03
  else if c.shadow then (if x.state = 3 then 0 else x.stateStatus)
  else if x.state ≠ 0 then 0x0D else 0

/-- STATUS of a new key with these attributes. -/
def Dev.placeStatus (d : Dev) (c : SbxCmd) (attr : Nat) : Nat :=
  if c.slot ≠ 0 ∧ !attrOk attr then stOpen else d.slotStatus c

/-- A new key enters its slot, or the shadow. -/
def Dev.place (d : Dev) (c : SbxCmd) (k : SbKey) : Dev :=
  let x := d.keySlot c.slot
  if c.shadow then d.setKeySlot c.slot { x with shadow := some (k, false) }
  else d.setKeySlot c.slot { k := k, gen := 1, state := 1, shadow := none, last := none }

/-- A key was created, with this output: GEN is that of the new key, or for a shadow that of the key used, if any. -/
def Dev.sbxNew (d : Dev) (c : SbxCmd) (k : SbKey) (out : List Nat) (used : Option Nat := none) : SbxRes :=
  { st := 0, out := out, gen := if c.shadow then used else some 1, dev := d.place c k }

/-- A command fails after it has used a key of this generation (R374). -/
def SbxRes.using (r : SbxRes) (gen : Nat) : SbxRes := { r with gen := some gen }

/-- GENERATE (R366, R371, R381). -/
def sbxGenerate (c : SbxCmd) (_input : List Nat) (d : Dev) : SbxRes :=
  let st := d.placeStatus c c.attr
  if st ≠ 0 then d.sbxNo st
  else if d.sbx.refused then d.sbxNo 0x0E
  else
    let r := d.drbgBytes (keyLen c.attr)
    let r2 := if bit 16 c.attr then r.2.drbgBytes 4 else ([], r.2)
    let t := bits 3 0 c.attr
    r2.2.sbxNew c { attr := c.attr, use := c.use, parent := none, key := r.1, salt := r2.1 }
      (if t = 5 ∨ t = 6 then Config.publicOf t r.1 else [])

/-- DERIVE (R371). -/
def sbxDerive (c : SbxCmd) (input : List Nat) (d : Dev) : SbxRes :=
  let p := d.keySlot c.slot2
  let st := d.placeStatus c c.attr
  let u := p.useStatus (some 8) c.owner
  let own := bits 13 10 c.attr
  if st ≠ 0 then d.sbxNo st
  else if u ≠ 0 then d.sbxNo u
  else if p.k.owner ≠ own ∧ p.k.owner ≠ 8 then d.sbxNo 0x05
  else if p.k.type ≠ 4 ∧ (!c.prf ∨ p.k.type ≠ 3) then d.sbxNo stOpen
  else if 128 < input.length then d.sbxNo 0x12
  else
    let n := keyLen c.attr + (if bit 16 c.attr then 4 else 0)
    let k := kdf c.prf p.k.key (input ++ [own, bits 3 0 c.attr] ++ beBytes 4 (8 * n)) n
    (d.takeUse c.slot2).sbxNew c
      { attr := c.attr, use := c.use, parent := some c.slot2, key := k.take (keyLen c.attr), salt := k.drop (keyLen c.attr) } []
      (some p.gen)

/-- UNWRAP (R385): the blob holds the attribute word and the key material. -/
def sbxUnwrap (c : SbxCmd) (input : List Nat) (d : Dev) : SbxRes :=
  let x := d.keySlot c.slot2
  let u := x.useStatus (some 9) c.owner
  let st := d.slotStatus c
  if st ≠ 0 then d.sbxNo st
  else if u ≠ 0 then d.sbxNo u
  else if x.k.type ≠ 2 then d.sbxNo stOpen
  else
    let d := d.takeUse c.slot2
    match Config.unwrap x.k.key input with
    | none => (d.sbxNo stOpen).using x.gen
    | some plain =>
      let attr := attrOf (leNat (plain.take 4))
      if !attrOk attr then (d.sbxNo stOpen).using x.gen
      else if plain.length ≠ 4 + keyLen attr + (if bit 16 attr then 4 else 0) then (d.sbxNo 0x12).using x.gen
      else
        d.sbxNew c
          { attr := attr, use := c.use, parent := none, key := (plain.drop 4).take (keyLen attr),
            salt := plain.drop (4 + keyLen attr) } [] (some x.gen)

/-- WRAP (R385). -/
def sbxWrap (c : SbxCmd) (_input : List Nat) (d : Dev) : SbxRes :=
  let k := d.keySlot c.slot
  let x := d.keySlot c.slot2
  let u := x.useStatus (some 9) c.owner
  if k.stateStatus ≠ 0 then d.sbxNo k.stateStatus
  else if !k.k.usage 18 then d.sbxNo stOpen
  else if u ≠ 0 then d.sbxNo u
  else if x.k.type ≠ 2 then d.sbxNo stOpen
  else
    { st := 0, out := Config.wrap x.k.key (leBytes 4 k.k.attr ++ k.k.key ++ k.k.salt), gen := some x.gen,
      dev := d.takeUse c.slot2 }

/-- PUBLIC (R380). -/
def sbxPublic (c : SbxCmd) (_input : List Nat) (d : Dev) : SbxRes :=
  let x := d.keySlot c.slot
  let u := x.useStatus none c.owner
  if u ≠ 0 then d.sbxNo u
  else if x.k.type ≠ 5 ∧ x.k.type ≠ 6 then d.sbxNo stOpen
  else { st := 0, out := Config.publicOf x.k.type x.k.key, gen := some x.gen, dev := d.takeUse c.slot }

/-- The salt of a key that a key agreement makes with HW_NONCE = 1: the spec gives it no source. -/
def Dev.agreedSalt (d : Dev) (attr : Nat) : List Nat × Dev :=
  if bit 16 attr then
    let f := d.fresh 32
    (leBytes 4 f.1, f.2)
  else ([], d)

/-- ECDH (R380): the shared secret becomes a TYPE 3 key of 384 bits. -/
def sbxEcdh (c : SbxCmd) (input : List Nat) (d : Dev) : SbxRes :=
  let attr := attrOf (putBits 26 23 (putBits 3 0 c.attr 3) 6)
  let x := d.keySlot c.slot2
  let st := d.placeStatus c attr
  let u := x.useStatus (some 8) c.owner
  if st ≠ 0 then d.sbxNo st
  else if u ≠ 0 then d.sbxNo u
  else if x.k.type ≠ 5 then d.sbxNo stOpen
  else if input.length ≠ 97 then d.sbxNo 0x12
  else
    match Config.ecdh x.k.key input with
    | none => ((d.takeUse c.slot2).sbxNo 0x0A).using x.gen
    | some k =>
      let r := (d.takeUse c.slot2).agreedSalt attr
      r.2.sbxNew c { attr := attr, use := c.use, parent := none, key := k, salt := r.1 } [] (some x.gen)

/-- KEM_ENC (R380): the shared secret becomes a TYPE 4 key. -/
def sbxKemEnc (c : SbxCmd) (input : List Nat) (d : Dev) : SbxRes :=
  let attr := attrOf (putBits 3 0 c.attr 4)
  let st := d.placeStatus c attr
  if st ≠ 0 then d.sbxNo st
  else if d.sbx.refused then d.sbxNo 0x0E
  else if input.length ≠ 1184 then d.sbxNo 0x12
  else
    let e := Config.kemEnc input d.sbx.drbg
    let d : Dev := { d with sbx := { d.sbx with drbg := d.sbx.drbg + 8 } }
    let r := d.agreedSalt attr
    r.2.sbxNew c { attr := attr, use := c.use, parent := none, key := e.2, salt := r.1 } e.1

/-- KEM_DEC (R380). -/
def sbxKemDec (c : SbxCmd) (input : List Nat) (d : Dev) : SbxRes :=
  let attr := attrOf (putBits 3 0 c.attr 4)
  let x := d.keySlot c.slot2
  let st := d.placeStatus c attr
  let u := x.useStatus (some 8) c.owner
  if st ≠ 0 then d.sbxNo st
  else if u ≠ 0 then d.sbxNo u
  else if x.k.type ≠ 6 then d.sbxNo stOpen
  else if input.length ≠ 1088 then d.sbxNo 0x12
  else
    let r := (d.takeUse c.slot2).agreedSalt attr
    r.2.sbxNew c { attr := attr, use := c.use, parent := none, key := Config.kemDec x.k.key input, salt := r.1 } []
      (some x.gen)

/-- A verification (R379): the TYPE 9 slot holds the hash of the public keys; `len` bytes of keys, `sigOk` the signatures
over the digest. -/
def sbxVerify (slot keys total : Nat) (mgmt : Bool) (c : SbxCmd) (input : List Nat)
    (sigOk : List Nat → List Nat → List Nat → Bool) (d : Dev) : SbxRes :=
  let x := d.keySlot slot
  let u := x.useStatus (some 7) (if mgmt then x.k.owner else c.owner)
  if input.length ≠ total then d.sbxNo 0x12
  else if u ≠ 0 then d.sbxNo u
  else if x.k.type ≠ 9 then d.sbxNo stOpen
  else
    let dig := input.take 48
    let ks := (input.drop 48).take keys
    let ok := x.k.key == shaBytes ks && sigOk dig ks (input.drop (48 + keys))
    { st := if ok then 0 else 0x0A, out := [], gen := some x.gen, dev := d.takeUse slot }

def sbxVerifyEcdsa (c : SbxCmd) (input : List Nat) (d : Dev) : SbxRes :=
  sbxVerify c.slot 97 241 false c input (fun h k s => Config.ecdsaOk k h s) d

def sbxVerifyMldsa (c : SbxCmd) (input : List Nat) (d : Dev) : SbxRes :=
  sbxVerify c.slot 1952 5309 false c input (fun h k s => Config.mldsaOk k h s) d

def sbxVerifyHybrid (c : SbxCmd) (input : List Nat) (d : Dev) : SbxRes :=
  sbxVerify c.slot 2049 5502 false c input hybridOk d

/-- RANDOM (R381). -/
def sbxRandom (c : SbxCmd) (_input : List Nat) (d : Dev) : SbxRes :=
  if d.sbx.refused then d.sbxNo 0x0E
  else
    let r := d.drbgBytes c.outCap
    { st := 0, out := r.1, gen := none, dev := r.2 }

/-- VERIFY_STAGED (R373): with SLOT2 = 0xFF the input is a key-check value, else a signature layout under SLOT2. -/
def sbxVerifyStaged (c : SbxCmd) (input : List Nat) (d : Dev) : SbxRes :=
  let x := d.keySlot c.slot
  if c.slot = 0 then d.sbxNo 0x03
  else
  match x.shadow with
  | none => d.sbxNo 0x0B
  | some (k, _) =>
    let kcv := (Config.prf true k.key (ascii "TCHZKCV")).take 8
    let mark (d : Dev) (ok : Bool) : Dev :=
      d.setKeySlot c.slot { d.keySlot c.slot with shadow := some (k, ok) }
    if c.slot2 = 0xFF then
      if input.length ≠ 8 then d.sbxNo 0x12
      else
        let ok := input == kcv
        { st := if ok then 0 else 0x0A, out := [], gen := some x.gen, dev := mark d ok }
    else
      let r := sbxVerify c.slot2 2049 5502 true c input hybridOk d
      let ok := r.st == 0 && input.take 48 == shaBytes (ascii "TCHZKEY" ++ leBytes 4 k.attr ++ kcv)
      if r.st ≠ 0 ∧ r.st ≠ 0x0A then r
      else { r with st := if ok then 0 else 0x0A, dev := mark r.dev ok }

/-- COMMIT (R372, R374). -/
def sbxCommit (c : SbxCmd) (_input : List Nat) (d : Dev) : SbxRes :=
  let x := d.keySlot c.slot
  if c.slot = 0 then d.sbxNo 0x03
  else if x.state = 2 ∨ x.state = 4 then d.sbxNo x.stateStatus
  else
    match x.shadow with
    | some (k, true) =>
      let gen := if x.gen = 65535 then 1 else x.gen + 1
      let l := d.descendants c.slot
      let d := d.setKeySlot c.slot { k := k, gen := gen, state := 1, shadow := none, last := none }
      let d := d.each l (fun t d => d.revokeSlot t)
      { st := 0, out := [], gen := some gen, dev := d.sbxPost 0x0004 0 k.owner c.slot [gen] }
    | _ => d.sbxNo 0x0B

/-- DISCARD (R372). -/
def sbxDiscard (c : SbxCmd) (_input : List Nat) (d : Dev) : SbxRes :=
  if c.slot = 0 then d.sbxNo 0x03
  else
    let x := d.keySlot c.slot
    { st := 0, out := [], gen := some x.gen, dev := d.setKeySlot c.slot { x with shadow := none } }

/-- INVALIDATE (R375). -/
def sbxInvalidate (c : SbxCmd) (_input : List Nat) (d : Dev) : SbxRes :=
  let x := d.keySlot c.slot
  if c.slot = 0 then d.sbxNo 0x03
  else if x.state = 0 ∨ x.state = 2 ∨ x.state = 4 then d.sbxNo x.stateStatus
  else
    let l := c.slot :: d.descendants c.slot
    let d := d.each l (fun t d => d.revokeSlot t)
    { st := 0, out := [], gen := some x.gen, dev := d.sbxPost 0x0002 0 x.k.owner c.slot [l.length] }

/-- ERASE (R375). -/
def sbxErase (c : SbxCmd) (_input : List Nat) (d : Dev) : SbxRes :=
  let x := d.keySlot c.slot
  if c.slot = 0 then d.sbxNo 0x03
  else if x.state = 0 ∨ x.state = 2 ∨ x.state = 4 then d.sbxNo x.stateStatus
  else if d.descendants c.slot ≠ [] then d.sbxNo 0x0C
  else
    let d := d.removeSas c.slot
    let d := d.setKeySlot c.slot { x with state := 4, shadow := none, last := none, k := { x.k with key := [], salt := [] } }
    { st := 0, out := [], gen := some x.gen, dev := d.settleSlot c.slot }

/-- ODO_READ (R382). -/
def sbxOdoRead (c : SbxCmd) (_input : List Nat) (d : Dev) : SbxRes :=
  if 15 < c.slot then d.sbxNo 0x03 else { st := 0, out := leBytes 8 (d.odo c.slot), gen := none, dev := d }

/-- ODO_ADVANCE (R382). -/
def sbxOdoAdvance (c : SbxCmd) (input : List Nat) (d : Dev) : SbxRes :=
  if c.slot = 0 ∨ 14 < c.slot then d.sbxNo 0x03
  else if input.length ≠ 8 then d.sbxNo 0x12
  else if leNat input = 0 ∨ 2 ^ 32 < leNat input then d.sbxNo stOpen
  else { st := 0, out := [], gen := none, dev := d.odoAdvance c.slot (leNat input) }

/-- DEBUG_CERT (R384). -/
def sbxDebugCert (_c : SbxCmd) (input : List Nat) (d : Dev) : SbxRes :=
  let r := d.cert input
  { st := if r.1 then 0 else 0x0F, out := [], gen := none, dev := r.2 }

/-- The operations that read the input buffer. -/
def sbxReads (op : Nat) : Bool :=
  [0x02, 0x03, 0x06, 0x07, 0x08, 0x10, 0x11, 0x12, 0x20, 0x29, 0x30].contains op

/-- The operations of R385. -/
def sbxOps : List Nat :=
  [1, 2, 3, 4, 5, 6, 7, 8, 0x10, 0x11, 0x12, 0x18, 0x20, 0x21, 0x22, 0x23, 0x24, 0x28, 0x29, 0x30]

/-- A public-key command, which waits while the engine is gated (R442). -/
def SbxCmd.publicKey (c : SbxCmd) : Bool :=
  [5, 6, 7, 8, 0x10, 0x11, 0x12, 0x30].contains c.op || (c.op == 1 && (bits 3 0 c.attr == 5 || bits 3 0 c.attr == 6)) ||
    (c.op == 0x20 && c.slot2 != 0xFF)

/-- A command completes (R385); a descriptor that Guard may no longer write (R333) stays as it is. -/
def Dev.sbxDone (d : Dev) (m : Mem) (a st gen : Nat) (out : List Nat) : Dev × Mem :=
  let ok := d.guardMem m (a + 24) 8 .write
  let d := if ok then d else d.guardDenied m (a + 24) 8 .write
  let m := if ok then Mem.setWords m (a + 24) [out.length, st + 256 + 65536 * gen] else m
  (((d.set SBX_STS_DONE).raiseIf SBX_INT_EN_DONE 240).tallyD 0x85 1, m)

/-- STATUS and GEN as the descriptor gets them: where the spec states none, a free value. -/
def SbxRes.close (r : SbxRes) (m : Mem) (a : Nat) : Dev × Mem :=
  let d := r.dev
  let s := if r.st = stOpen then (let f := d.fresh 8; (1 + f.1 % 0x12, f.2)) else (r.st, d)
  let g := match r.gen with
    | some g => (g, s.2)
    | none => s.2.fresh 16
  g.2.sbxDone m a s.1 g.1 r.out

/-- The descriptor at the head of the queue runs. -/
def Dev.sbxRun (d : Dev) (m : Mem) (a : Nat) (f : SbxCmd → List Nat → Dev → SbxRes) : Dev × Mem :=
  let c := sbxCmd m a
  let d : Dev := { d with sbx := { d.sbx with queue := d.sbx.queue.drop 1 } }
  let d := d.put SBX_STS_QFILL d.sbx.queue.length
  if !d.guardMem m a 32 .read then ((d.guardDenied m a 32 .read).sbxNo 0x01).close m a
  else if !sbxOps.contains c.op then (d.sbxNo 0x02).close m a
  else if sbxReads c.op ∧ !d.guardMem m c.inAddr c.inLen .read then
    ((d.guardDenied m c.inAddr c.inLen .read).sbxNo 0x01).close m a
  else
    let r := f c (if sbxReads c.op then Mem.bytes m c.inAddr c.inLen else []) d
    if r.st ≠ 0 then r.close m a
    else if c.outCap < r.out.length then (d.sbxNo 0x12).close m a
    else if !d.guardMem m c.outAddr r.out.length .write then
      ((d.guardDenied m c.outAddr r.out.length .write).sbxNo 0x01).close m a
    else r.close (Mem.setBytes m c.outAddr r.out) a

/-- A row of the strongbox: the command at the head of the queue runs when it is of this operation; one of no
operation of R385, or whose descriptor Guard may not read (R333), ends at any row. -/
def State.sbxRow (s : State) (dt op : Nat) (f : SbxCmd → List Nat → Dev → SbxRes) : Host.Outcome State Fault Refusal :=
  s.onAll dt true fun m d =>
    match d.sbx.queue with
    | [] => (d, m)
    | a :: _ =>
      let c := sbxCmd m a
      if (c.op = op ∨ !sbxOps.contains c.op ∨ !d.guardMem m a 32 .read) ∧ !(c.publicKey && d.gated 2 0) then
        d.sbxRun m a f
      else (d, m)

/-- A write of SBX_SUBMIT (R385). -/
def Dev.sbxSubmit (d : Dev) (m : Mem) (v : Nat) : Dev :=
  let e := (pageIndex v).map (Mem.entry m)
  let ok : Bool := match e with
    | none => false
    | some e => 0x10000000 ≤ v && v < 0x11800000 && entryOwner e == 8 && entryR e && entryW e
  if ok ∧ v % 32 = 0 ∧ d.sbx.queue.length < 8 then
    let d : Dev := { d with sbx := { d.sbx with queue := d.sbx.queue ++ [v] } }
    d.put SBX_STS_QFILL d.sbx.queue.length
  else (d.set SBX_STS_SUBMIT_REF).raiseIf SBX_INT_EN_SUBMIT_REF 241

def execSbxSubmit (dt : Nat) (a : Acc) (v : Nat) (s : State) : Host.Outcome State Fault Refusal :=
  s.onDevM dt true fun m d => d.regWrite m a SBX_SUBMIT (·.sbxSubmit m (v % 2 ^ 32))

def execGenerate (dt : Nat) (s : State) : Host.Outcome State Fault Refusal := s.sbxRow dt 0x01 sbxGenerate

def execDerive (dt : Nat) (s : State) : Host.Outcome State Fault Refusal := s.sbxRow dt 0x02 sbxDerive

def execUnwrap (dt : Nat) (s : State) : Host.Outcome State Fault Refusal := s.sbxRow dt 0x03 sbxUnwrap

def execWrap (dt : Nat) (s : State) : Host.Outcome State Fault Refusal := s.sbxRow dt 0x04 sbxWrap

def execPublicKey (dt : Nat) (s : State) : Host.Outcome State Fault Refusal := s.sbxRow dt 0x05 sbxPublic

def execEcdh (dt : Nat) (s : State) : Host.Outcome State Fault Refusal := s.sbxRow dt 0x06 sbxEcdh

def execKemEnc (dt : Nat) (s : State) : Host.Outcome State Fault Refusal := s.sbxRow dt 0x07 sbxKemEnc

def execKemDec (dt : Nat) (s : State) : Host.Outcome State Fault Refusal := s.sbxRow dt 0x08 sbxKemDec

def execVerifyEcdsa (dt : Nat) (s : State) : Host.Outcome State Fault Refusal := s.sbxRow dt 0x10 sbxVerifyEcdsa

def execVerifyMldsa (dt : Nat) (s : State) : Host.Outcome State Fault Refusal := s.sbxRow dt 0x11 sbxVerifyMldsa

def execVerifyHybrid (dt : Nat) (s : State) : Host.Outcome State Fault Refusal := s.sbxRow dt 0x12 sbxVerifyHybrid

def execRandom (dt : Nat) (s : State) : Host.Outcome State Fault Refusal := s.sbxRow dt 0x18 sbxRandom

def execVerifyStaged (dt : Nat) (s : State) : Host.Outcome State Fault Refusal := s.sbxRow dt 0x20 sbxVerifyStaged

def execCommit (dt : Nat) (s : State) : Host.Outcome State Fault Refusal := s.sbxRow dt 0x21 sbxCommit

def execDiscard (dt : Nat) (s : State) : Host.Outcome State Fault Refusal := s.sbxRow dt 0x22 sbxDiscard

def execInvalidate (dt : Nat) (s : State) : Host.Outcome State Fault Refusal := s.sbxRow dt 0x23 sbxInvalidate

def execErase (dt : Nat) (s : State) : Host.Outcome State Fault Refusal := s.sbxRow dt 0x24 sbxErase

def execOdoRead (dt : Nat) (s : State) : Host.Outcome State Fault Refusal := s.sbxRow dt 0x28 sbxOdoRead

def execOdoAdvance (dt : Nat) (s : State) : Host.Outcome State Fault Refusal := s.sbxRow dt 0x29 sbxOdoAdvance

def execDebugCert (dt : Nat) (s : State) : Host.Outcome State Fault Refusal := s.sbxRow dt 0x30 sbxDebugCert

end Sys2Proof.Machine
end

