-- ==== Sys2Proof/Machine/Cipher.lean ====
section
/-! DEFINITION. The cipher engine (spec/16, R386–R404): lanes, algorithms, temporary keys, counter values, escrow and
provisional release, lane faults, and MACsec keying. -/

namespace Sys2Proof.Machine

open R

/-! ### Lanes and descriptors (R387, R390) -/

def Dev.lane (d : Dev) (l : Nat) : Lane := tget Lane.reset d.ce.lanes l

/-- A lane takes a new state; CE_LSTSl follows it. -/
def Dev.setLane (d : Dev) (l : Nat) (x : Lane) : Dev :=
  let d : Dev := { d with ce := { d.ce with lanes := tset Lane.reset x l d.ce.lanes } }
  let why := x.run.map (·.why)
  (((d.put (CE_LSTS_QFILL l) x.queue.length).put (CE_LSTS_BUSY l) (b2n x.run.isSome)).put (CE_LSTS_WAIT_NONCE l)
    (b2n (why == some .nonce))).put (CE_LSTS_WAIT_OUT l) (b2n (why == some .output))

def Dev.laneUp (d : Dev) (l : Nat) : Bool := bit l (d.fld CE_STS_LANE_UP)

def ceCmd (m : Mem) (a : Nat) : CeCmd :=
  let w (i : Nat) := Mem.word m (a + 4 * i)
  { op := w 0 % 256, alg := bits 11 8 (w 0), owner := bits 15 12 (w 0), key := bits 23 16 (w 0), tkr := bit 24 (w 0),
    pad := bit 25 (w 0), w1 := w 1, addr := w 2 + 2 ^ 32 * (w 3 % 4), len := w 4 + 2 ^ 32 * bits 15 8 (w 3), aad := w 5,
    iv := Mem.bytes m (a + 24) 16 }

def CeCmd.dq (c : CeCmd) : Nat := bits 9 0 c.w1
def CeCmd.cls (c : CeCmd) : Nat := bits 12 10 c.w1

/-- A record of the cipher engine. -/
def Dev.cePost (d : Dev) (code sev owner inst : Nat) (data : List Nat := []) : Dev := d.post 0x40 code sev owner inst data

/-! ### Algorithms and lengths (R391) -/

/-- The full tag, MAC or digest. -/
def fullTag (alg : Nat) : Nat :=
  match alg with
  | 3 => 0
  | 4 => 0
  | 5 => 0
  | 8 => 32
  | 9 => 48
  | 10 => 64
  | 11 => 32
  | 12 => 48
  | 13 => 32
  | 14 => 48
  | 15 => 64
  | _ => 16

/-- TAG_LEN, 0 standing for the full tag; the modes without a tag have none. -/
def CeCmd.tag (c : CeCmd) : Nat :=
  if fullTag c.alg = 0 ∨ bits 22 16 c.w1 = 0 then fullTag c.alg else bits 22 16 c.w1

def CeCmd.tagOk (c : CeCmd) : Bool :=
  let n := c.tag
  match c.alg with
  | 0 => 12 ≤ n && n ≤ 16
  | 1 => 12 ≤ n && n ≤ 16
  | 2 => 4 ≤ n && n ≤ 16 && n % 2 == 0
  | 6 => 4 ≤ n && n ≤ 16
  | 13 => 4 ≤ n && n ≤ 32
  | 14 => 4 ≤ n && n ≤ 48
  | 15 => 4 ≤ n && n ≤ 64
  | _ => n == fullTag c.alg

/-- The combinations of OP and ALG. -/
def CeCmd.opOk (c : CeCmd) : Bool :=
  match c.op with
  | 1 => [0, 2, 3, 4, 5, 7].contains c.alg
  | 2 => [0, 2, 3, 4, 5, 7].contains c.alg
  | 3 => [1, 6, 13, 14, 15].contains c.alg
  | 4 => [1, 6, 13, 14, 15].contains c.alg
  | 5 => 8 ≤ c.alg && c.alg ≤ 12
  | 0x10 => true
  | 0x11 => true
  | _ => false

/-- The algorithms that an escrow serves (R397). -/
def CeCmd.aead (c : CeCmd) : Bool := [0, 2, 7].contains c.alg

/-- The tag that the input brings. -/
def CeCmd.inTag (c : CeCmd) : Nat := if (c.op = 2 ∧ c.aead) ∨ c.op = 4 then c.tag else 0

/-- The bytes of the message: the input without its AAD and its tag. -/
def CeCmd.msgLen (c : CeCmd) : Nat := c.len - (if c.alg = 1 then c.len - c.inTag else c.aad) - c.inTag

/-- The limits of R391 hold. -/
def CeCmd.lenOk (c : CeCmd) : Bool :=
  let n := c.msgLen
  let fits : Bool := match c.alg with
    | 0 => n ≤ 2 ^ 36 - 32
    | 2 => n ≤ 2 ^ 24 - 1
    | 4 =>
      if !c.pad then n % 16 == 0
      else if c.op = 2 then 16 ≤ n && n % 16 == 0 else n ≤ 2 ^ 40 - 17
    | 5 => 16 ≤ n && n ≤ 2 ^ 24
    | 7 => n ≤ 2 ^ 38 - 64
    | _ => true
  c.aad ≤ c.len && (c.aad == 0 || [0, 1, 2, 7].contains c.alg) && c.tagOk &&
    (if c.alg = 1 then c.inTag ≤ c.len else c.aad + c.inTag ≤ c.len) && fits

/-- A key of this TYPE serves the algorithm. -/
def CeCmd.typeOk (c : CeCmd) (type : Nat) : Bool :=
  match c.alg with
  | 5 => type == 2 || (c.tkr && type == 0xA)
  | 7 => type == 7
  | a => if 13 ≤ a then type == 3 else type == 1 || type == 2

/-! ### Keys (R393, R394) -/

/-- The USAGE bit of an operation. -/
def ceUsage (op : Nat) : Nat := 3 + op

/-- A key as a command takes it. -/
structure CeKey where
  type : Nat
  key : List Nat
  salt : List Nat
  hwNonce : Bool
  prov : Bool
  gen : Nat
  slot : Option Nat
deriving DecidableEq, Repr

/-- No key: the operation has none. -/
def CeKey.none : CeKey :=
  { type := 0, key := [], salt := [], hwNonce := false, prov := false, gen := 0, slot := Option.none }

/-- The key that a command names, or the STATUS of its refusal. The strongbox's ERASING has no value in R404. -/
def Dev.ceKey (d : Dev) (l : Nat) (c : CeCmd) : Except Nat CeKey :=
  if c.op = 5 then .ok CeKey.none
  else if c.tkr then
    match d.ce.temp.find? (fun x => c.key < 16 && x.1 == 16 * l + c.key) with
    | none => .error 0x03
    | some (_, t) =>
      if t.owner ≠ c.owner then .error 0x05
      else .ok { type := t.type, key := t.key, salt := [], hwNonce := false, prov := t.prov, gen := 0, slot := none }
  else
    let x := d.keySlot c.key
    let u := x.useStatus (some (ceUsage c.op)) c.owner
    if u ≠ 0 then .error (if u = 0x10 then stOpen else u)
    else
      .ok { type := x.k.type, key := x.k.key, salt := x.k.salt, hwNonce := x.k.hwNonce, prov := x.k.usage 17,
            gen := x.gen, slot := some c.key }

/-- The engine generates the nonce (R395). -/
def ceGenerates (c : CeCmd) (k : CeKey) : Bool :=
  k.hwNonce && ((c.op == 1 && c.aead) || (c.op == 3 && c.alg == 1))

/-- What a lane finds before a command starts: the key, or the STATUS of its refusal (R391–R398). DESIGN CHOICE: a receive
queue that serves an outrider destination may be a command's DQ: R200 bars it to senders by CQ_ALLOW, which R388 does not
apply to chunks (assumption 132). -/
def Dev.ceCheck (d : Dev) (m : Mem) (l : Nat) (c : CeCmd) : Except Nat CeKey :=
  if !c.opOk then .error 0x02
  else if !c.lenOk then .error 0x0C
  else if c.op ≤ 2 ∧ (!qOk c.dq ∨ d.qRole c.dq ≠ 3 ∨ (qOwner c.dq ≠ c.owner ∧ qOwner c.dq ≠ 8)) then .error 0x10
  else
    match d.ceKey l c with
    | .error e => .error e
    | .ok k =>
      if c.op ≠ 5 ∧ (!c.typeOk k.type ∨ (k.hwNonce ∧ !([0, 1, 2, 7].contains c.alg))) then .error 0x0B
      else if c.op = 2 ∧ c.aead ∧ 65536 < c.msgLen ∧ !k.prov then .error 0x0E
      else if ceGenerates c k ∧ c.iv.any (· ≠ 0) then .error 0x0D
      else if c.len ≠ 0 ∧ !d.dmaOk m c.owner c.addr c.len false then .error 0x01
      else .ok k

/-! ### Completion (R390) -/

/-- The completion record is written, DONE last. -/
def Dev.ceRecord (d : Dev) (m : Mem) (l desc st gen : Nat) (prov revoked : Bool) (nonce result : List Nat) : Dev × Mem :=
  let s := if st = stOpen then (let f := d.fresh 8; (1 + f.1 % 0x16, f.2)) else (st, d)
  let pad (n : Nat) (x : List Nat) := (x ++ List.replicate n 0).take n
  let m := Mem.setBytes m (desc + 52) (pad 12 nonce ++ pad 64 result)
  let m := Mem.setWord m (desc + 48) (s.1 + 256 + 512 * b2n prov + 1024 * b2n revoked + 65536 * gen)
  ((s.2.set CE_STS_DONE).raiseIf CE_INT_EN_DONE (224 + l), m)

/-- Segments released: 65,536 bytes in eight chunks each (R398). -/
def CeRun.segRel (r : CeRun) : Nat := if r.prov then r.outLen / 65536 else 0

/-- RESULT (R390): OUT_LEN, SEG_REL, SEG_CONS, DESC_CONS and CHUNKS, or the digest or tag. SEG_CONS and DESC_CONS count
at the purge instant; without one the spec states no value for them. -/
def CeRun.words (r : CeRun) (d : Dev) (revoked : Bool) : List Nat × Dev :=
  if 2 < r.cmd.op then (r.result, d)
  else
    let a := if revoked then (r.segCons, d) else d.fresh 16
    let b := if revoked then (r.descCons, a.2) else a.2.fresh 16
    ([r.outLen % 2 ^ 32, r.outLen / 2 ^ 32, r.segRel % 65536 + 65536 * a.1, b.1 % 65536 + 65536 * r.released].flatMap
      (leBytes 4), b.2)

/-- A running command ends. -/
def Dev.ceEnd (d : Dev) (m : Mem) (l : Nat) (r : CeRun) (revoked : Bool) : Dev × Mem :=
  let st := if r.revoked ∧ r.status ∈ [0, 0x0A, 0x0F] then 0x08 else r.status
  let w := r.words d revoked
  let x := w.2.ceRecord m l r.desc st r.gen (r.prov && r.released ≠ 0) revoked r.nonce w.1
  let d := x.1.setLane l { x.1.lane l with run := none }
  (match r.slot with
    | some s => d.useEnds s l
    | none => d, x.2)

/-- A tag does not match (R397). -/
def Dev.tagFail (d : Dev) (l owner : Nat) : Dev :=
  ((((d.bump CE_TAGFAIL_CNT).set CE_STS_TAG_FAIL).raiseIf CE_INT_EN_REVOKE 229)).cePost 0x0001 1 owner l

/-- The command has no more output: the tag is judged, and it ends or is revoked first (R397–R399). DEDUCED: so is a
provisional message that SLEEP_ABORT ends after its first release (R401; assumption 117). -/
def Dev.ceFinish (d : Dev) (m : Mem) (l : Nat) (r : CeRun) : Dev × Mem :=
  let d := d.when (!r.tagOk && r.status == 0x0A) (·.tagFail l r.cmd.owner)
  if r.prov ∧ r.released ≠ 0 ∧ r.status ∈ [0x0A, 0x11, 0x12, 0x13, 0x14, 0x15] then
    (d.setLane l { d.lane l with run := some { r with why := .purge, chunks := [] } }, m)
  else d.ceEnd m l r false

/-- A running command is aborted (R389, R401, R402). -/
def Dev.ceAbort (d : Dev) (m : Mem) (l st : Nat) : Dev × Mem :=
  match (d.lane l).run with
  | none => (d, m)
  | some r =>
    if r.why = .purge ∨ r.why = .notice then (d, m)
    else d.ceFinish m l { r with chunks := [], status := st, revoked := false }

/-! ### Output (R388, R389, R398) -/

/-- A byte string in pieces of 8,192 bytes; `n` bounds their number. -/
def pieces (l : List Nat) : Nat → List (List Nat)
  | 0 => []
  | n + 1 => if l = [] then [] else l.take 8192 :: pieces (l.drop 8192) n

/-- A byte string as chunks. -/
def chunksOf (l : List Nat) (prov : Bool) : List (List Nat × Bool) := (pieces l (l.length / 8192 + 1)).map (fun c => (c, prov))

/-- One chunk enters the fabric as a direct message in the lane's own flow (R138, R187, R388), where admission may drop it
(R183, R184); none while the lane holds it for the hold threshold or the budget of its queue (R389). -/
def Dev.ceChunk (d : Dev) (l : Nat) (r : CeRun) (c : List Nat × Bool) : Dev × Option CeRun :=
  let q := r.cmd.dq
  let p := 45 + l / 2
  if d.fabDown ∨ d.qOverfull q false ∨ d.qSpent q then (d, none)
  else
    let t := d.takeFseq none p r.cmd.cls
    let f := d.newFrame p (48 + l) 2 r.cmd.owner d.ns256 c.1
    let wb := { f.wb with cls := r.cmd.cls, fseq := t.1 }
    let wb := (if c.2 then wb.flag 1 else wb).flag 10
    let id := t.2.fab.next
    let d := t.2.sendDirect { f with wb := wb } q
    (d, some { r with
      released := r.released + 1
      first := some (r.first.getD id)
      out := r.out ++ (if (d.frame id).isSome then [id] else [])
      outLen := r.outLen + c.1.length
      firstWb := (if r.released = 0 then wb.words else r.firstWb) })

/-- Chunks are released until one must wait. DEDUCED: the command ends when its last chunk has entered the fabric, as a
transmit descriptor completes (R171; assumption 64). -/
def Dev.ceDeliver (l : Nat) (r : CeRun) : List (List Nat × Bool) → Dev → Mem → Dev × Mem
  | [], d, m => d.ceFinish m l { r with chunks := [] }
  | c :: rest, d, m =>
    let x := d.ceChunk l r c
    match x.2 with
    | none =>
      let since := if r.why = .output ∧ r.chunks.length = rest.length + 1 then r.since else d.up
      (x.1.setLane l { x.1.lane l with run := some { r with why := .output, chunks := c :: rest, since := since } }, m)
    | some r' => Dev.ceDeliver l r' rest x.1 m

/-- The held output is tried again: plaintext in escrow of a revoked key is zeroised (R375, R401). -/
def Dev.ceRetry (d : Dev) (m : Mem) (l : Nat) : Dev × Mem :=
  match (d.lane l).run with
  | none => (d, m)
  | some r =>
    if r.why = .output then Dev.ceDeliver l r (if r.revoked ∧ r.escrow then [] else r.chunks) d m else (d, m)

def execChunkDeliveryRetry (dt l : Nat) (s : State) : Host.Outcome State Fault Refusal :=
  s.onAll dt (l < 4) fun m d => d.ceRetry m l

/-- The lane has been unable to deliver for STALL_MS (R389). -/
def execOutputStallTimeout (dt l : Nat) (s : State) : Host.Outcome State Fault Refusal :=
  s.onAll dt (l < 4) fun m d =>
    match (d.lane l).run with
    | none => (d, m)
    | some r =>
      if r.why = .output ∧ !(r.revoked ∧ r.escrow) ∧ 1000000 * d.fld CE_CFG_STALL_MS ≤ d.up - r.since then
        let d := ((d.set CE_STS_STALL).raiseIf CE_INT_EN_FAULT 228).cePost 0x0006 1 r.cmd.owner l
        d.ceAbort m l 0x15
      else (d, m)

/-! ### The computation (R391, R392, R395, R397, R398) -/

/-- PKCS #7 padding of CBC. -/
def padTo16 (l : List Nat) : List Nat := l ++ List.replicate (16 - l.length % 16) (16 - l.length % 16)

/-- The bytes of valid PKCS #7 padding at the end of a byte string. -/
def padding (l : List Nat) : Option Nat :=
  let n := l.getLast?.getD 0
  if 1 ≤ n ∧ n ≤ 16 ∧ n ≤ l.length ∧ (l.drop (l.length - n)).all (· = n) then some n else none

/-- The engine computes a command with its nonce or IV, and its output begins to leave. -/
def Dev.ceCompute (d : Dev) (m : Mem) (l : Nat) (r : CeRun) (iv : List Nat) : Dev × Mem :=
  let c := r.cmd
  let d := d.tallyD 0x86 c.len
  let input := Mem.bytes m c.addr c.len
  let body := input.take (c.len - c.inTag)
  let got := input.drop (c.len - c.inTag)
  let aad := if c.alg = 1 then body else body.take c.aad
  let msg := if c.alg = 1 then [] else body.drop c.aad
  let r := { r with nonce := (if [0, 1, 2, 7, 3, 4, 5].contains c.alg then iv.take 12 else []) }
  match c.op with
  | 1 =>
    let text := Config.cipher c.alg false r.key iv aad (if c.alg = 4 ∧ c.pad then padTo16 msg else msg)
    let t := if c.aead then (Config.tag c.alg r.key iv aad msg c.tag).take c.tag else []
    Dev.ceDeliver l r (chunksOf (text ++ t) false) d m
  | 2 =>
    let text := Config.cipher c.alg true r.key iv aad msg
    if c.aead then
      let ok := (Config.tag c.alg r.key iv aad text c.tag).take c.tag == got
      let prov : Bool := decide (65536 < c.msgLen)
      let k := if prov then (text.length - 1) / 65536 * 65536 else 0
      Dev.ceDeliver l { r with escrow := true, prov := prov, tagOk := ok, status := (if ok then 0 else 0x0A) }
        (chunksOf (text.take k) true ++ (if ok then chunksOf (text.drop k) false else [])) d m
    else if c.alg = 4 ∧ c.pad then
      match padding text with
      | some n => Dev.ceDeliver l r (chunksOf (text.take (text.length - n)) false) d m
      | none => Dev.ceDeliver l { r with status := 0x0F } (chunksOf (text.take (text.length - 16)) false) d m
    else Dev.ceDeliver l r (chunksOf text false) d m
  | 5 => d.ceFinish m l { r with result := Config.digest c.alg msg }
  | 3 => d.ceFinish m l { r with result := (Config.tag c.alg r.key (if c.alg = 1 then iv else []) aad msg c.tag).take c.tag }
  | _ =>
    if (Config.tag c.alg r.key (if c.alg = 1 then iv else []) aad msg c.tag).take c.tag == got then d.ceFinish m l r
    else d.ceFinish m l { r with status := 0x0A, tagOk := false }

/-- The lane's next counter value (R396): none while its reservation is incomplete. The next block is requested when
3/4 of the present one are used. -/
def Lane.take (x : Lane) : Option Nat × Lane :=
  let x := if x.ctr = x.ctrEnd then
      (match x.spare with
        | some v => { x with ctr := v, ctrEnd := v + 2 ^ 20, spare := none }
        | none => x)
    else x
  if x.ctr = x.ctrEnd then (none, { x with want := true })
  else
    let y := { x with ctr := x.ctr + 1 }
    (some x.ctr, if y.ctrEnd - y.ctr ≤ 2 ^ 18 ∧ y.spare.isNone then { y with want := true } else y)

/-- A command that has been checked starts or waits for its counter value (R395, R396). -/
def Dev.ceGo (d : Dev) (m : Mem) (l : Nat) (r : CeRun) (gen : Bool) : Dev × Mem :=
  if gen then
    let t := (d.lane l).take
    match t.1 with
    | none => (d.setLane l { t.2 with run := some { r with why := .nonce } }, m)
    | some v => (d.setLane l { t.2 with run := some r }).ceCompute m l r (r.salt ++ beBytes 8 v)
  else (d.setLane l { d.lane l with run := some r }).ceCompute m l r (if r.cmd.aead ∨ r.cmd.alg = 1 then r.cmd.iv.take 12 else r.cmd.iv)

/-- A reservation completes (R396): odometer 0 has advanced by 2^20, and a command that waits takes its value. -/
def Dev.reserved (d : Dev) (m : Mem) (l : Nat) : Dev × Mem :=
  let x := d.lane l
  if !x.want then (d, m)
  else
    let v := d.odo 0
    let d := d.odoAdvance 0 (2 ^ 20)
    let x := { x with spare := some v, want := false }
    match x.run with
    | some r => if r.why = .nonce then (d.setLane l x).ceGo m l { r with why := .output } true else (d.setLane l x, m)
    | none => (d.setLane l x, m)

def execNonceBlockReserved (dt l : Nat) (s : State) : Host.Outcome State Fault Refusal :=
  s.onAll dt (l < 4) fun m d => d.reserved m l

/-! ### MACsec keying (R403) -/

/-- The SA that w1 names: PORT, DIR, SC, AN, and its key in `Dev.msec`. -/
def saKey (w1 : Nat) : Nat :=
  if bit 3 w1 then 64 * (w1 % 8) + 8 + 4 * bits 6 4 w1 + bits 8 7 w1 else 64 * (w1 % 8) + bits 8 7 w1

/-- The SA is in use. -/
def Dev.saBusy (d : Dev) (w1 : Nat) : Bool :=
  let p := w1 % 8
  let an := bits 8 7 w1
  if bit 3 w1 then d.on (PORT_MSEC_RXSA_IN_USE p (bits 6 4 w1) an)
  else d.on (PORT_MSEC_CFG_PROTECT p) && an == d.fld (PORT_MSEC_TXSA_AN p)

/-- STATUS of MSEC_INSTALL before it starts. -/
def Dev.msecStatus (d : Dev) (c : CeCmd) : Nat :=
  let x := d.keySlot c.key
  let u := x.useStatus (some (if bit 3 c.w1 then 5 else 4)) 8
  if c.tkr then 0x03
  else if 5 < c.w1 % 8 then stOpen
  else if c.owner ≠ 8 then 0x05
  else if u ≠ 0 then (if u = 0x10 then stOpen else u)
  else if x.k.type ≠ 8 then 0x0B
  else if leNat (c.iv.take 8) = 0 then 0x0C
  else if d.saBusy c.w1 then 0x16 else 0

/-- MSEC_INSTALL. -/
def Dev.msecInstall (d : Dev) (c : CeCmd) : Nat × Nat × Dev :=
  let st := d.msecStatus c
  let x := d.keySlot c.key
  if st ≠ 0 then (st, 0, d)
  else
    let p := c.w1 % 8
    let an := bits 8 7 c.w1
    let k := saKey c.w1
    let sa : MsecSa := { key := x.k.key, pn := leNat (c.iv.take 8), ssci := leNat ((c.iv.drop 8).take 4), slot := c.key }
    let d := d.takeUse c.key
    let d : Dev := { d with msec := tput k sa (terase k d.msec) }
    let d := if bit 3 c.w1 then d.set (PORT_MSEC_RXSA_KEYED p (bits 6 4 c.w1) an)
      else d.set ⟨CE_MSEC_TXKEYED, 4 * p + an, 4 * p + an⟩
    (0, x.gen, d.cePost 0x0007 0 8 p [c.w1 % 512 / 8 * 8, 0])

/-- MSEC_REMOVE. -/
def Dev.msecRemove (d : Dev) (c : CeCmd) : Nat × Nat × Dev :=
  if 5 < c.w1 % 8 then (stOpen, 0, d)
  else if d.saBusy c.w1 then (0x16, 0, d)
  else (0, 0, d.removeSa (saKey c.w1))

/-! ### Rows (R387, R390, R442) -/

/-- The command at the head of a lane's queue starts. -/
def Dev.ceStart (d : Dev) (m : Mem) (l a : Nat) : Dev × Mem :=
  let c := ceCmd m a
  let x := d.lane l
  let d := d.setLane l { x with queue := x.queue.drop 1 }
  if c.op = 0x10 ∨ c.op = 0x11 then
    let r := if c.op = 0x10 then d.msecInstall c else d.msecRemove c
    r.2.2.ceRecord m l a r.1 r.2.1 false false [] []
  else
    match d.ceCheck m l c with
    | .error st =>
      let d := if st = 0x01 then d.refuseDma c.owner ((d.dmaFault m c.owner c.addr c.len false).getD c.addr) else d
      d.ceRecord m l a st 0 false false [] []
    | .ok k =>
      let d := match k.slot with
        | some s => d.takeUse s (some l)
        | none => d
      d.ceGo m l
        { desc := a, cmd := c, why := .output, slot := k.slot, key := k.key, salt := k.salt, gen := k.gen, revoked := false,
          chunks := [], escrow := false, prov := false, tagOk := true, status := 0, nonce := [], result := [], was := [], sent := [],
          outLen := 0, released := 0, first := none, out := [], firstTag := 0, firstWb := [], segCons := 0, descCons := 0, purged := 0, noNotice := false, since := d.up }
        (ceGenerates c k)

/-- A row of the cipher engine: an idle lane in service starts the command at the head of its queue when it is of this
operation; one of no operation ends at any row. -/
def State.ceRow (s : State) (dt l op : Nat) : Host.Outcome State Fault Refusal :=
  s.onAll dt (l < 4) fun m d =>
    match (d.lane l).queue with
    | [] => (d, m)
    | a :: _ =>
      let c := ceCmd m a
      if (d.lane l).run.isNone ∧ d.laneUp l ∧ !d.gated 1 l ∧
          (c.op = op ∨ c.op ∉ [1, 2, 3, 4, 5, 0x10, 0x11]) then d.ceStart m l a
      else (d, m)

def execEncrypt (dt l : Nat) (s : State) : Host.Outcome State Fault Refusal := s.ceRow dt l 1

def execDecrypt (dt l : Nat) (s : State) : Host.Outcome State Fault Refusal := s.ceRow dt l 2

def execMacGen (dt l : Nat) (s : State) : Host.Outcome State Fault Refusal := s.ceRow dt l 3

def execMacVerify (dt l : Nat) (s : State) : Host.Outcome State Fault Refusal := s.ceRow dt l 4

def execHashMsg (dt l : Nat) (s : State) : Host.Outcome State Fault Refusal := s.ceRow dt l 5

def execMsecInstall (dt l : Nat) (s : State) : Host.Outcome State Fault Refusal := s.ceRow dt l 0x10

def execMsecRemove (dt l : Nat) (s : State) : Host.Outcome State Fault Refusal := s.ceRow dt l 0x11

/-- A write of CE_SUBMITl (R387). -/
def Dev.ceSubmit (d : Dev) (m : Mem) (l v : Nat) : Dev :=
  let x := d.lane l
  let ok : Bool := match pageIndex v with
    | none => false
    | some i => 0x10000000 ≤ v && v < 0x11800000 && entryOwner (Mem.entry m i) == 8 && entryR (Mem.entry m i) &&
        entryW (Mem.entry m i)
  if ok ∧ v % 128 = 0 ∧ x.queue.length < 8 ∧ d.laneUp l then d.setLane l { x with queue := x.queue ++ [v] }
  else d.set (CE_LSTS_SUBMIT_REF l)

def execCeSubmit (dt : Nat) (a : Acc) (l v : Nat) (s : State) : Host.Outcome State Fault Refusal :=
  s.onDevM dt (l < 4) fun m d => d.regWrite m a (CE_SUBMIT l) (·.ceSubmit m l (v % 2 ^ 32))

/-! ### Revocation (R181, R399, R400) -/

/-- A completed descriptor is purged (R181). -/
def Dev.purge (d : Dev) (m : Mem) (q pos : Nat) : Mem :=
  let a := d.descAddr q pos
  let d1 := Mem.word m (a + 4)
  let m := Mem.setBytes m (descBuf (Mem.word m a) d1) (List.replicate (bits 29 16 d1) 0)
  let m := Mem.setWord m (a + 8) (putBits 31 24 (Mem.word m (a + 8)) 0x12)
  Mem.setWord m (a + 28) (Mem.word m (a + 28) ||| 4)

/-- The purge instant (R399). -/
def Dev.cePurge (d : Dev) (m : Mem) (r : CeRun) : CeRun × Dev × Mem :=
  let q := r.cmd.dq
  let cons := r.was ++ r.sent.map (d.consumed q)
  let l := if d.dead.contains q then [] else r.sent.filter (fun p => !d.consumed q p)
  let n := (cons.filter id).length
  let segs := (List.range r.segRel).filter (fun k => decide (8 * k + 8 ≤ cons.length) && ((cons.drop (8 * k)).take 8).all id)
  let r := { r with why := .notice, descCons := n, segCons := segs.length, purged := l.length }
  (r, if l = [] then d else d.qStatus q CQ_STS_REVOKED, l.foldl (fun m p => d.purge m q p) m)

/-- The revoke notice is placed, then the command ends (R399, R400). -/
def Dev.ceNotice (d : Dev) (m : Mem) (l : Nat) (r : CeRun) : Dev × Mem :=
  let q := r.cmd.dq
  let fin (d : Dev) (m : Mem) : Dev × Mem :=
    let d := (((d.bump CE_REVOKE_CNT).set CE_STS_REVOKE).raiseIf CE_INT_EN_REVOKE 229)
    (d.cePost 0x0002 1 r.cmd.owner l [r.purged]).ceEnd m l r true
  if d.dead.contains q ∨ r.noNotice then fin d m
  else if d.qPosted q = 0 ∨ d.headTaken q then (d.setLane l { d.lane l with run := some r }, m)
  else
    let wb := r.firstWb.take 3 ++ [r.firstWb.getD 3 0 ||| 4]
    let x := d.complete m q ([r.released % 65536 + 65536 * r.descCons, r.segCons % 65536 + 65536 * r.segRel,
      1 + 2 * b2n (bit 1 (d.headWord m q 2)) + 16 * 4 + 4096 * 0x3FF, r.firstTag] ++ wb)
    fin x.1 x.2

/-- Every released chunk has been written to its queue, or dropped on its way (R399 step 1). -/
def Dev.ceArrived (d : Dev) (r : CeRun) : Bool := r.out.all (fun i => (d.frame i).isNone)

def execProvisionalRevoke (dt l : Nat) (s : State) : Host.Outcome State Fault Refusal :=
  s.onAll dt (l < 4) fun m d =>
    match (d.lane l).run with
    | none => (d, m)
    | some r =>
      if r.why = .purge ∧ !d.ceArrived r then (d, m)
      else if r.why = .purge then
        let x := d.cePurge m r
        x.2.1.ceNotice x.2.2 l x.1
      else if r.why = .notice then d.ceNotice m l r else (d, m)

/-! ### Temporary keys (R394) -/

/-- A write of a key word. -/
def Dev.keyIn (d : Dev) (i v : Nat) : Dev := { d with ce := { d.ce with keyin := tset 0 (v % 2 ^ 32) i d.ce.keyin } }

/-- A write of CE_KEYLOAD. -/
def Dev.keyLoad (d : Dev) (v : Nat) : Dev :=
  let k := 16 * bits 1 0 v + bits 5 2 v
  let type := bits 9 6 v
  let n := match type with
    | 1 => 16
    | 2 => 32
    | 3 => 8 * bits 13 10 v
    | 7 => 32
    | 0xA => 64
    | _ => 0
  if bit 19 v then { d with ce := { d.ce with temp := terase k d.ce.temp } }
  else if n = 0 ∨ (type = 3 ∧ (n < 16 ∨ 64 < n)) then d
  else
    let key := ((List.range 16).flatMap (fun i => leBytes 4 (tget 0 d.ce.keyin i))).take n
    let t : TempKey := { type := type, owner := bits 17 14 v, key := key, prov := bit 18 v }
    { d with ce := { d.ce with keyin := [], temp := tput k t (terase k d.ce.temp) } }

def execCeKeyload (dt : Nat) (a : Acc) (v : Nat) (s : State) : Host.Outcome State Fault Refusal :=
  s.onDevM dt true fun m d => d.regWrite m a CE_KEYLOAD (·.keyLoad v)

def execCeKeyloadClr (dt : Nat) (a : Acc) (v : Nat) (s : State) : Host.Outcome State Fault Refusal :=
  s.onDevM dt true fun m d => d.regWrite m a CE_KEYLOAD (·.keyLoad v)

/-! ### Lane faults (R402) -/

/-- Every temporary key is lost. -/
def Dev.loseTemp (d : Dev) : Dev := { d with ce := { d.ce with temp := [] } }

/-- The running commands of a list of lanes are aborted. -/
def Dev.ceAbortAll (st : Nat) : List Nat → Dev → Mem → Dev × Mem
  | [], d, m => (d, m)
  | l :: rest, d, m =>
    let x := d.ceAbort m l st
    Dev.ceAbortAll st rest x.1 x.2

/-- Waiting commands end without starting. -/
def Dev.ceRefuseAll (l st : Nat) : List Nat → Dev → Mem → Dev × Mem
  | [], d, m => (d, m)
  | a :: rest, d, m =>
    let x := d.ceRecord m l a st 0 false false [] []
    Dev.ceRefuseAll l st rest x.1 x.2

def Dev.laneFault (d : Dev) (m : Mem) (l : Nat) : Dev × Mem :=
  let d := d.clr ⟨CE_STS, l, l⟩
  let d := ((d.loseTemp.set CE_STS_LANE_FAULT).set CE_STS_KEYS_ERASED).raiseIf CE_INT_EN_FAULT 228
  let d := ((d.cePost 0x0003 1 8 l).cePost 0x0005 0 8 0).fault 1 0x40 0x0003 8
  let x := d.ceAbort m l 0x12
  let y := Dev.ceAbortAll 0x13 ((List.range 4).filter (· ≠ l)) x.1 x.2
  let q := (y.1.lane l).queue
  Dev.ceRefuseAll l 0x12 q (y.1.setLane l { y.1.lane l with queue := [] }) y.2

def execLaneFault (dt l : Nat) (s : State) : Host.Outcome State Fault Refusal :=
  s.onAll dt (l < 4) fun m d => if d.laneUp l ∧ d.frm.beyvoUp then d.laneFault m l else (d, m)

/-- A write of CE_LANE_CTL: ignored for a lane in service. -/
def Dev.laneCtl (d : Dev) (v : Nat) : Dev :=
  { d with ce := { d.ce with
      testing := ((List.range 4).filter (fun l => bit l v && !d.laneUp l)).foldl (fun t l => insertNat l t) d.ce.testing } }

def execCeLaneReadmit (dt : Nat) (a : Acc) (v : Nat) (s : State) : Host.Outcome State Fault Refusal :=
  s.onDevM dt true fun m d => d.regWrite m a CE_LANE_CTL (·.laneCtl v)

/-- The lane's known-answer tests end. -/
def execLaneSelfTestDone (dt l : Nat) (pass : Bool) (s : State) : Host.Outcome State Fault Refusal :=
  s.onDev dt (l < 4) fun d =>
    if d.ce.testing.contains l then
      let d : Dev := { d with ce := { d.ce with testing := d.ce.testing.filter (· ≠ l) } }
      if pass then (d.set ⟨CE_STS, l, l⟩).cePost 0x0004 0 8 l else d.cePost 0x0003 1 8 l
    else d

end Sys2Proof.Machine
end

