-- ==== Sys2Proof/Machine/Channels.lean ====
section
/-! DEFINITION. The power channels: commands, the output stage, cadences and PWM (spec/10, R261–R286), trips and
the drag-shoe states that the output follows (spec/11, R287–R300, R314). -/

namespace Sys2Proof.Machine

open R

/-- A channel's state beside its registers. -/
def Dev.chan (d : Dev) (i : Nat) : Chan := tget Chan.zero d.chans i

/-- A channel's state changed. -/
def Dev.modChan (d : Dev) (i : Nat) (f : Chan → Chan) : Dev :=
  { d with chans := tset Chan.zero (f (d.chan i)) i d.chans }

/-- The even channel of a back-to-back pair, and the odd one (R267). -/
def Dev.pairEven (d : Dev) (i : Nat) : Bool := 24 ≤ i && i % 2 == 0 && d.on (CHAN_GD_CFG_PAIR i)
def Dev.pairOdd (d : Dev) (i : Nat) : Bool := 25 ≤ i && i % 2 == 1 && d.on (CHAN_GD_CFG_PAIR (i - 1))

/-- The channel acts as an output: MODE 0, an owner (R18, R263), and not the odd channel of a pair. -/
def Dev.isOutput (d : Dev) (i : Nat) : Bool :=
  d.fld (CHAN_CFG_MODE i) == 0 && d.fld (CHAN_CFG_OWNER i) ≤ 8 && !d.pairOdd i

/-- The owner that stands in a channel's records. -/
def Dev.chanOwner (d : Dev) (i : Nat) : Nat := d.fld (CHAN_CFG_OWNER i)

/-- An event of a channel with its source 256 + i under an enable bit. -/
def Dev.chanEvt (d : Dev) (ev en : Fld) (i : Nat) : Dev := (d.set ev).raiseIf en (256 + i)

/-- A record of a channel under block 0x51. -/
def Dev.chanPost (d : Dev) (i code sev : Nat) (data : List Nat := []) : Dev :=
  d.post 0x51 code sev (d.chanOwner i) i data

/-! ### The requested state (R287) and the output -/

/-- The state that CHAN_STS.CMD names. -/
def Dev.cmdReq (d : Dev) (i : Nat) : Req :=
  { kind := d.fld (CHAN_STS_CMD i), duty := (d.chan i).duty, cad := d.fld (CHAN_PWM_CADENCE i) }

/-- The requested state (R287). -/
def Dev.requested (d : Dev) (i : Nat) : Req :=
  let c := d.chan i
  match c.ds with
  | some r => r
  | none =>
    match c.dsCoach with
    | some r => r
    | none =>
      match c.coast with
      | some r => r
      | none => d.cmdReq i

/-- A protection layer or the budgeter holds the output off (R300). -/
def Dev.held (d : Dev) (i : Nat) : Bool :=
  d.on (CHAN_STS_LATCHED i) || d.on (CHAN_STS_SHED i) || d.on (CHAN_STS_HARNESS i) ||
    d.on (CHAN_STS_THERMAL i) || d.on (CHAN_STS_RETRY i)

/-- A sleep state keeps the channel off (R429, R431). -/
def Dev.sleepOff (d : Dev) (i : Nat) : Bool :=
  let t := if d.fld SID_STS_STATE = 3 then d.fld SID_STS_TARGET else d.sid.asleep
  t == 2 || (t == 1 && !d.on (CHAN_CFG_KEEP_IN_SENTINEL i))

/-- The output may conduct: an output channel whose requested state is not OFF, held off by nothing; a gate driver holds
GATE at SRC while VBAT_P3 is reversed (R262), and every channel is off in boot hold
(R421). -/
def Dev.mayOut (d : Dev) (i : Nat) : Bool :=
  !d.sleepOff i && d.isOutput i && (d.requested i).kind != 0 && !d.held i &&
    !(24 ≤ i && d.on CHAN_GSTS_P3_REV) && !d.frm.bootHold

/-- The output is to conduct: it may, and in PWM a pulse runs. -/
def Dev.wantOut (d : Dev) (i : Nat) : Bool :=
  d.mayOut i && ((d.requested i).kind != 2 || (d.chan i).pwmLvl)

/-- The output conducts. -/
def Dev.out (d : Dev) (i : Nat) : Bool := d.on (CHAN_STS_OUT i)

/-- A word of the channel's profile (R281). -/
def Dev.prof (d : Dev) (i w : Nat) : Nat := d.rn (CHAN_PROF_W (d.fld (CHAN_CFG_PROFILE i)) w)

/-- LAST of the channel's profile. -/
def Dev.profLast (d : Dev) (i : Nat) : Nat := bits 8 6 (d.prof i 0)

/-- The output turns on: SC and OC clear and the envelope starts at a switch-on, and at a PWM on-edge with ENV_PWM
(R282, R295). -/
def Dev.turnOn (d : Dev) (i : Nat) (edge : Bool) : Dev :=
  let c := d.chan i
  let fresh := !edge || c.envStart.isNone
  let env := fresh || bit 5 (d.prof i 0)
  let d := d.set (CHAN_STS_OUT i)
  let d := if fresh then (d.clr (CHAN_STS_SC i)).clr (CHAN_STS_OC i) else d
  let d := if env ∧ bits 23 0 (d.prof i (2 + d.profLast i)) ≠ 0 then d.set (CHAN_STS_INRUSH i) else d
  d.modChan i fun c =>
    { c with outSince := d.up, onSince := if fresh then d.up else c.onSince, condNs := if fresh then 0 else c.condNs,
             envStart := if env then some d.up else c.envStart, testing := false, ocRun := 0,
             olLow := if fresh then 0 else c.olLow, olHigh := if fresh then 0 else c.olHigh }

/-- The time in ns for which the output has conducted since the last switch-on (R297). -/
def Dev.conducted (d : Dev) (i : Nat) : Nat := (d.chan i).condNs + (if d.out i then d.up - (d.chan i).outSince else 0)

/-- The output turns off; the envelope ends unless this is a PWM edge. -/
def Dev.turnOff (d : Dev) (i : Nat) (edge : Bool) : Dev :=
  let t := d.conducted i
  let d := d.clr (CHAN_STS_OUT i)
  let d := if edge then d else d.clr (CHAN_STS_INRUSH i)
  d.modChan i fun c => { c with ocRun := 0, condNs := t, envStart := if edge then c.envStart else none }

/-- The gates of a pair follow its output and its requested state (R267); a blocking pair keeps its odd MOSFET off
(R304). -/
def Dev.gates (d : Dev) (i : Nat) : Dev :=
  if !d.pairEven i then d
  else
    let k := (d.requested i).kind
    let even := d.out i && k != 4
    let odd := d.out i && k != 3 && !(d.chan i).blocking
    d.modChan i fun c =>
      { c with evenAt := if even then some (c.evenAt.getD d.up) else none,
               oddAt := if odd then some (c.oddAt.getD d.up) else none }

/-- The output follows what is requested of it (R271); `edge`: the change is a PWM edge. The envelope of a channel that
is held off between two pulses ends (R282). -/
def Dev.updOut (d : Dev) (i : Nat) (edge : Bool := false) : Dev :=
  let d :=
    if d.wantOut i ≠ d.out i then (if d.wantOut i then d.turnOn i edge else d.turnOff i edge)
    else if !d.mayOut i && (d.chan i).envStart.isSome then d.turnOff i false
    else d
  d.gates i

/-- HARNESS or THERMAL of the channel has ended in this cycle (R300). -/
def Dev.freed (d : Dev) (i : Nat) : Dev := d.modChan i fun c => { c with freed := d.up + 1 }

/-- A requested state of OFF clears RETRY and SHED (R299). -/
def Dev.requestedOff (d : Dev) (i : Nat) : Dev :=
  let d := (d.clr (CHAN_STS_RETRY i)).clr (CHAN_STS_SHED i)
  if i < 32 then d.clr ⟨HPS_SHED_LO, i, i⟩ else d.clr ⟨HPS_SHED_HI, i - 32, i - 32⟩

/-- PWM stops: no pulse runs and no period has begun. -/
def Chan.stopPwm (c : Chan) : Chan := { c with pwmLvl := false, pwmDuty := none, onAt := none, offAt := none }

/-- The requested state has changed from `old`: PWM that is newly requested holds the level it found until the next
period start (R270), and a pair that is no longer ON blocks no more (R304). -/
def Dev.reqChanged (d : Dev) (i : Nat) (old : Req) : Dev :=
  let r := d.requested i
  let d :=
    if r.kind = 2 ∧ (old.kind ≠ 2 ∨ old.cad ≠ r.cad) then
      let lvl := if old.kind = 2 then (d.chan i).pwmLvl else old.kind ≠ 0
      d.modChan i fun c => { c.stopPwm with pwmLvl := lvl }
    else if r.kind ≠ 2 ∧ old.kind = 2 then d.modChan i Chan.stopPwm
    else d
  let d := if r.kind = 1 then d else d.modChan i fun c => { c with blocking := false }
  let d := if r.kind = 0 ∧ old.kind ≠ 0 then d.requestedOff i else d
  -- an ON that ends PWM cuts no pulse and restarts no envelope (R270)
  d.updOut i (old.kind = 2 && r.kind ≠ 0)

/-! ### Cadences and PWM (R272–R275) -/

/-- Period of a cadence in ns (R272). -/
def Dev.cadPeriod (d : Dev) (c : Nat) : Nat := 10 * d.fld (CHAN_CAD_CFG_PERIOD c)

/-- T_on for a duty, to the nearest 10 ns (R273). -/
def tOn (duty p : Nat) : Nat := (2 * duty * (p / 10) + 65535) / (2 * 65535) * 10

/-- The device time in ns by which the cadences run. While the Heavia die continues it, and in tamper hold, the die's own count
carries them on evenly between two cycles of the oscillator (R33, R82; DESIGN CHOICE, assumption 136). -/
def Dev.cadNs (d : Dev) : Nat :=
  if d.tim.mode = .heavia ∨ d.frm.tamperHold then
    d.tim.baseDev / 65536 + (d.up - d.tim.baseUp) * 32768 * 3051696764844 / (1000000000 * 100000000)
  else d.ns

/-- The last period instant of a cadence (R272). -/
def Dev.cadInst (d : Dev) (c : Nat) : Nat := d.cadNs - d.cadNs % d.cadPeriod c

/-- A period of channel `i` starts at its instant with the requested duty (R273). -/
def Dev.pwmPulse (d : Dev) (i : Nat) : Dev :=
  let r := d.requested i
  let p := d.cadPeriod r.cad
  let t := tOn r.duty p
  let start := d.cadInst r.cad + d.fld (CHAN_PWM_PHASE i) * p / 65536 / 10 * 10
  if r.duty = 0 ∨ t < 1000 then
    -- no pulse starts in this period; one that runs over from the last period ends at its own instant
    (d.modChan i fun c =>
      { c with pwmDuty := some r.duty, onAt := none, pwmLvl := c.pwmLvl && c.offAt.isSome }).updOut i true
  else if r.duty = 65535 ∨ p < t + 1000 then
    (d.modChan i fun c =>
      { c with pwmDuty := some r.duty, onAt := none, offAt := none, pwmLvl := true }).updOut i true
  else if start ≤ d.cadNs then
    (d.modChan i fun c =>
      { c with pwmDuty := some r.duty, onAt := none, offAt := some (start + t), pwmLvl := true }).updOut i true
  else
    (d.modChan i fun c =>
      { c with pwmDuty := some r.duty, onAt := some start, pwmLvl := c.pwmLvl && c.offAt.isSome }).updOut i true

/-- The same, with the pulse that runs over from the last period noted. -/
def Dev.pwmPeriod (d : Dev) (i : Nat) : Dev :=
  (d.modChan i fun c => { c with carry := (c.pwmLvl, c.offAt) }).pwmPulse i

/-- The period that has started in this 10 ns cycle starts again under a command that counts as before it (R270). -/
def Dev.pwmAgain (d : Dev) (i : Nat) : Dev :=
  (d.modChan i fun c => { c with pwmLvl := c.carry.1, offAt := c.carry.2 }).pwmPulse i

/-- The on-edge of channel `i`, when its phase has come. -/
def Dev.pwmOn (d : Dev) (i : Nat) : Dev :=
  match (d.chan i).onAt.filter (· ≤ d.cadNs) with
  | none => d
  | some start =>
    let t := tOn ((d.chan i).pwmDuty.getD 0) (d.cadPeriod (d.requested i).cad)
    (d.modChan i fun c => { c with onAt := none, offAt := some (start + t), pwmLvl := true }).updOut i true

/-- The channels in PWM on a cadence. -/
def Dev.pwmOf (d : Dev) (c : Nat) : List Nat :=
  (List.range 40).filter (fun i => (d.requested i).kind == 2 && (d.requested i).cad == c)

/-- Mean of a sum, rounded down (assumption 13); 0 of no readings. -/
def meanOf (sum : Int) (n : Nat) : Int := if n = 0 then 0 else sum / n

/-- A period of the channel's cadence ends, and its mean is that of the last complete one (R278). -/
def Chan.cadMean (c : Chan) : Chan :=
  { c with cadLast := if c.cadWhole then meanOf c.cadSum c.cadCnt else c.cadLast, cadSum := 0, cadCnt := 0, cadWhole := true }

/-- The mean of the last `n` readings (R278). -/
def Chan.lastMean (c : Chan) (n : Nat) : Int := meanOf ((c.hist.take n).foldl (· + ·) 0) (c.hist.take n).length

/-- CHAN_I_AVG as it reads (R278). -/
def Dev.chanAvg (d : Dev) (i : Nat) : Nat :=
  let c := d.chan i
  unsgn 32 (match d.fld (CHAN_AVG_CFG_WIN i) with
    | 0 => c.lastMean 16
    | 1 => c.lastMean 256
    | 2 => c.stMean
    | _ => if d.on (CHAN_PWM_EN i) then c.cadLast else c.lastMean 256)

/-- A period of cadence `c` starts: the primary domain's time has come to a multiple of PERIOD that has started none and that
no step has passed over (R272, R275). The Beyvo die's clock finds it in its 10 ns cycle, the 32.768 kHz count within the
period. -/
def Dev.cadDue (d : Dev) (c : Nat) : Bool :=
  decide (0 < d.cadPeriod c) && decide (tget 0 d.hv.cadNext c ≤ d.cadInst c) &&
    (d.tim.mode == .heavia || d.frm.tamperHold || decide (d.cadNs % d.cadPeriod c < 10))

/-- A period of cadence `c` starts at its instant (R272); with an edge, the on-edge of one channel at its phase (R273). -/
def execCadencePeriodStart (dt c : Nat) (edge : Option Nat) (s : State) : Host.Outcome State Fault Refusal :=
  s.onDev dt (c < 8 && edge.getD 0 < 40) fun d =>
    match edge with
    | some i => d.pwmOn i
    | none =>
      if !d.cadDue c then d else
      let d : Dev := { d with hv := { d.hv with
        cadAt := tset 0 (d.cadNs / 10 + 1) c d.hv.cadAt, cadNext := tset 0 (d.cadInst c + 1) c d.hv.cadNext } }
      let d := d.each ((List.range 40).filter (fun i => d.on (CHAN_PWM_EN i) && d.fld (CHAN_PWM_CADENCE i) == c))
        (fun i d => d.modChan i Chan.cadMean)
      d.each (d.pwmOf c) (fun i d => d.pwmPeriod i)

/-- The off-edge of a pulse (R273). -/
def execPwmOffEdge (dt i : Nat) (s : State) : Host.Outcome State Fault Refusal :=
  s.onDev dt (i < 40) fun d =>
    if (d.chan i).offAt.any (· ≤ d.cadNs) then
      (d.modChan i fun c => { c with offAt := none, pwmLvl := false }).updOut i true
    else d

/-- A forward step of the device time ends every period in progress, and the pulse in progress with it (R275); a channel
that its duty or its last state holds on until the next period start runs no pulse. The next period starts after the new
time. -/
def Dev.cadStep (d : Dev) : Dev :=
  let d : Dev := { d with hv := { d.hv with cadNext := (List.range 8).map (fun c => (c, d.ns + 1)) } }
  let d := d.each ((List.range 40).filter (fun i => d.on (CHAN_PWM_EN i))) (fun i d =>
    d.modChan i fun c => { c with cadSum := 0, cadCnt := 0, cadWhole := false })
  d.each ((List.range 40).filter (fun i => (d.chan i).offAt.isSome || (d.chan i).onAt.isSome)) (fun i d =>
    (d.modChan i fun c => { c with onAt := none, offAt := none, pwmLvl := false }).updOut i true)

/-! ### Commands (R269, R270, R56, R57, R102) -/

/-- CHAN_CMD_STS follows the pending deferred commands: the one due first. -/
def Dev.updPend (d : Dev) (i : Nat) : Dev :=
  match (d.chan i).pend with
  | [] => d.wr (CHAN_CMD_STS i) 0
  | p :: _ => d.wr (CHAN_CMD_STS i) (1 + 2 * (p.op % 8) + 65536 * (p.duty % 65536))

/-- The reason of R269 for which a command is refused; 0 = accepted. -/
def Dev.cmdRefusal (d : Dev) (i op mode : Nat) : Nat :=
  if d.fld (CHAN_CFG_MODE i) ≠ 0 then 1
  else if d.pairOdd i then 2
  else if (op = 5 ∨ op = 6) ∧ !d.pairEven i then 3
  else if (op = 3 ∨ op = 4) ∧ (d.pairEven i ∨ !d.on (CHAN_PWM_EN i)) then 4
  else if op = 7 ∨ 2 ≤ mode then 5 else 0

/-- A refused command (R269). -/
def Dev.cmdRefuse (d : Dev) (i reason : Nat) : Dev :=
  (d.chanEvt (CHAN_EVT_CMD_REF i) (CHAN_INT_EN_CMD_REF i) i).chanPost i 0x0001 1 [reason]

/-- The new CMD and duty of an OP (R270). -/
def opResult (op duty cmd oldDuty : Nat) : Nat × Nat :=
  match op with
  | 1 => (0, oldDuty)
  | 2 => (1, oldDuty)
  | 3 => (2, duty)
  | 4 => (cmd, duty)
  | 5 => (3, oldDuty)
  | 6 => (4, oldDuty)
  | _ => (cmd, oldDuty)

/-- The command switches a channel on whose CMD is OFF (R280). -/
def switchesOn (cmd op : Nat) : Bool := cmd == 0 && (op == 2 || op == 3 || op == 5 || op == 6)

/-- A command acts on the channel (R270); while drag-shoe states are applied it updates CMD only (R314). A period
start in the same 10 ns cycle counts as the next one. -/
def Dev.cmdAct (d : Dev) (i op duty : Nat) : Dev :=
  let old := d.requested i
  let cmd := d.fld (CHAN_STS_CMD i)
  let r := opResult op (duty % 65536) cmd (d.chan i).duty
  let d := (d.put (CHAN_STS_CMD i) r.1).modChan i fun c => { c with duty := r.2 }
  if (d.chan i).ds.isSome ∨ (d.chan i).dsCoach.isSome then d
  else
    let d := if switchesOn cmd op then d.bump (CHAN_ON_CNT i) else d
    let d := if op = 1 then d.requestedOff i else d
    let d := d.reqChanged i old
    let q := d.requested i
    if q.kind = 2 ∧ op ≠ 1 ∧ op ≠ 2 ∧ tget 0 d.hv.cadAt q.cad = d.cadNs / 10 + 1 then
      (if old.kind = 2 ∧ old.cad = q.cad then d.pwmAgain i else d.pwmPeriod i)
    else d

/-- What this 10 ns cycle has seen so far. -/
def Dev.cmdCycle (d : Dev) (i : Nat) : CmdCycle :=
  let new : CmdCycle := { cycle := d.cadNs / 10, cmd := d.fld (CHAN_STS_CMD i), duty := (d.chan i).duty, onCnt := d.rn (CHAN_ON_CNT i),
                          done := [] }
  match (d.chan i).cyc with
  | some k => if k.cycle = new.cycle then k else new
  | none => new

/-- A command takes effect, in the order of R102 within one 10 ns cycle: deferred, timed, immediate. Where one that goes
before others of its cycle comes after them, they act again behind it. -/
def Dev.cmdEffect (d : Dev) (i op duty cls : Nat) : Dev :=
  let k := d.cmdCycle i
  let first := k.done.filter (fun x => x.cls ≤ cls)
  let later := k.done.filter (fun x => cls < x.cls)
  let all := first ++ { cls := cls, op := op, duty := duty } :: later
  let d :=
    if later.isEmpty then d.cmdAct i op duty
    else
      let d := ((d.put (CHAN_STS_CMD i) k.cmd).wr (CHAN_ON_CNT i) k.onCnt).modChan i fun c => { c with duty := k.duty }
      d.each all (fun x d => d.cmdAct i x.op x.duty)
  d.modChan i fun c => { c with cyc := some { k with done := all } }

/-- A late deferred command (R56). -/
def Dev.lateCmd (d : Dev) (i : Nat) : Dev :=
  (((d.bump STG_LATE_CMD_CNT).set STG_STS_CMD_LATE).raiseIf STG_INT_EN_SNAP 23).post 0x21 0x0007 1 (d.chanOwner i) i

/-- A deferred command put among the pending ones: a later one for the same tick replaces it (R57). -/
def putPend (p : Deferred) (l : List Deferred) : List Deferred :=
  if p.wait = 0 then p :: l.filter (fun q => q.wait != 0) else l.filter (fun q => q.wait == 0) ++ [p]

/-- A deferred command reaches the latch: due at the next tick, or late at the one after (R56). -/
def Dev.cmdDefer (d : Dev) (i op duty : Nat) : Dev :=
  let late := d.boot.phase == .sealed && decide (d.stg.nextTick < d.domNs + d.fld STG_CMD_CUTOFF_NS_NS)
  let d := if late then d.lateCmd i else d
  (d.modChan i fun c => { c with pend := putPend { wait := b2n late, op := op, duty := duty } c.pend }).updPend i

/-- Pending deferred commands and timed actions held in the Heavia die are discarded (R314). -/
def Dev.dropPending (d : Dev) (i : Nat) : Dev :=
  (d.modChan i fun c => { c with pend := [], dropTill := d.ns + 2000 }).updPend i

/-- A write of CHAN_CMD with this OP (R269): the row's command. A channel without an owner is inert (R18). -/
def Dev.chanCmd (d : Dev) (i op v : Nat) : Dev :=
  if op = 0 ∨ d.chanOwner i = 15 then d
  else
    let mode := bits 4 3 v
    let duty := bits 31 16 v
    let reason := d.cmdRefusal i op mode
    if reason ≠ 0 then d.cmdRefuse i reason
    else if mode = 1 then
      -- an immediate command discards a pending deferred one (R57)
      ((d.modChan i fun c => { c with pend := [] }).updPend i).cmdEffect i op duty 2
    else d.cmdDefer i op duty

/-- A write of CHAN_CMD whose OP field is the row's. -/
def State.chanCmdRow (s : State) (dt op : Nat) (a : Acc) (i v : Nat) : Host.Outcome State Fault Refusal :=
  s.onDevM dt (i < 40) fun m d => d.regWrite m a (CHAN_CMD i) (·.chanCmd i op v)

def execChannelCmdOff (dt : Nat) (a : Acc) (i v : Nat) (s : State) : Host.Outcome State Fault Refusal :=
  s.chanCmdRow dt 1 a i v
def execChannelCmdOn (dt : Nat) (a : Acc) (i v : Nat) (s : State) : Host.Outcome State Fault Refusal :=
  s.chanCmdRow dt 2 a i v
def execChannelCmdPwm (dt : Nat) (a : Acc) (i v : Nat) (s : State) : Host.Outcome State Fault Refusal :=
  s.chanCmdRow dt 3 a i v
def execChannelCmdDuty (dt : Nat) (a : Acc) (i v : Nat) (s : State) : Host.Outcome State Fault Refusal :=
  s.chanCmdRow dt 4 a i v
def execChannelCmdFwd (dt : Nat) (a : Acc) (i v : Nat) (s : State) : Host.Outcome State Fault Refusal :=
  s.chanCmdRow dt 5 a i v
def execChannelCmdRev (dt : Nat) (a : Acc) (i v : Nat) (s : State) : Host.Outcome State Fault Refusal :=
  s.chanCmdRow dt 6 a i v

/-- The deferred commands that are due at this tick apply (R46 step 2). -/
def Dev.applyDeferred (d : Dev) : Dev :=
  d.each ((List.range 40).filter (fun i => (d.chan i).pend ≠ [])) (fun i d =>
    let due := (d.chan i).pend.filter (fun p => p.wait == 0)
    let rest := ((d.chan i).pend.filter (fun p => p.wait != 0)).map (fun p => { p with wait := p.wait - 1 })
    let d := (d.modChan i fun c => { c with pend := rest }).updPend i
    d.each due (fun p d => d.cmdEffect i p.op p.duty 0))

/-- A timed channel action fires for a slot (R97, R102): refused as a command is, dropped when the Heavia die has
discarded it, and reported when protection blocks it. -/
def Dev.chanTimed (d : Dev) (i op duty slot fireAt : Nat) : Dev :=
  if fireAt ≤ (d.chan i).dropTill ∧ (d.chan i).dropTill ≠ 0 then d
  else
    let reason := d.cmdRefusal i op 1
    if reason ≠ 0 then d.cmdRefuse i reason
    else
      let d := d.cmdEffect i op duty 1
      if d.held i ∧ (d.requested i).kind ≠ 0 then d.post 0x22 0x0006 0 9 slot else d

/-! ### CHAN_CTL (R280) -/

def execQClr (dt : Nat) (a : Acc) (i : Nat) (s : State) : Host.Outcome State Fault Refusal :=
  s.onDevM dt (i < 40) fun m d => d.regWrite m a (CHAN_CTL i) fun d =>
    (d.wrPair (CHAN_Q_LO i) (CHAN_Q_HI i) 0).modChan i fun c => { c with qRem := 0 }

def execCntClr (dt : Nat) (a : Acc) (i : Nat) (s : State) : Host.Outcome State Fault Refusal :=
  s.onDevM dt (i < 40) fun m d => d.regWrite m a (CHAN_CTL i) fun d => d.wr (CHAN_ON_CNT i) 0

/-! ### Live status -/

/-- The effective duty (R273): 0 while off, 0xFFFF while on, and in PWM that of the present period. -/
def Dev.effDuty (d : Dev) (i : Nat) : Nat :=
  let r := d.requested i
  if !d.mayOut i then 0
  else if r.kind ≠ 2 then 0xFFFF
  else match (d.chan i).pwmDuty with
    | some x => x
    | none => if (d.chan i).pwmLvl then 0xFFFF else 0

/-- The time in µs since the switch-on from which the envelope counts (R282). -/
def Dev.envTime (d : Dev) (i : Nat) : Nat := (d.up - (d.chan i).envStart.getD d.up) / 1000

/-- The envelope's last segment is over (R282). -/
def Dev.envOver (d : Dev) (i : Nat) : Bool := decide (bits 23 0 (d.prof i (2 + d.profLast i)) ≤ d.envTime i)

/-- CHAN_STS as it reads: INRUSH while t < TIME_LAST (R282); the odd channel of a pair mirrors the even one (R267); CMD reads 7 on an input or an unused
channel. -/
def Dev.chanSts (d : Dev) (i : Nat) : Nat :=
  let k := if d.pairOdd i then i - 1 else i
  let v := d.rn (CHAN_STS k)
  let v := if d.envOver k then putBits (CHAN_STS_INRUSH k).hi (CHAN_STS_INRUSH k).lo v 0 else v
  if d.fld (CHAN_CFG_MODE i) = 0 then v else putBits 2 0 v 7

/-- CHAN_TJ as it reads. -/
def Dev.chanTj (d : Dev) (i : Nat) : Nat := d.fld (CHAN_TJ_TEMP i) + 65536 * d.effDuty i

/-- What the Heavia die latches of a channel (R51, R54, R278). -/
def Dev.latchChan (d : Dev) (i : Nat) : ChanLatch :=
  let c := d.chan i
  { cur := if d.on (CHAN_CFG_SNAP_MODE i) then unsgn 32 (meanOf c.stSum c.stCnt) else d.rn (CHAN_I i),
    volt := d.rn (CHAN_V i), sts := d.chanSts i, tjDuty := d.chanTj i }

/-! ### Trips and drag-shoe states (R295, R314) -/

/-- A trip of a conducting output (R288–R295): cause 0 = SC, 1 = OC, 2 = HARNESS, 3 = THERMAL. -/
def Dev.trip (d : Dev) (i cause : Nat) (data : List Nat := []) : Dev :=
  let d := d.set ⟨CHAN_STS i, 8 + cause, 8 + cause⟩
  let d := d.chanEvt ⟨CHAN_PEVT i, cause, cause⟩ ⟨CHAN_PINT_EN i, cause, cause⟩ i
  let d := (d.bump (CHAN_TRIP_CNT i)).chanPost i (5 + cause) 1 data
  let d :=
    if d.on (CHAN_RETRY_CFG_REACT i) ∧ d.fld (CHAN_STS_RETRY_CNT i) < d.fld (CHAN_RETRY_CFG_RETRY_MAX i) then
      ((d.bumpF (CHAN_STS_RETRY_CNT i)).set (CHAN_STS_RETRY i)).modChan i fun c => { c with tripAt := d.up }
    else
      (((d.set (CHAN_STS_LATCHED i)).clr (CHAN_STS_RETRY i)).chanEvt (CHAN_PEVT_LATCH i) (CHAN_PINT_EN_LATCH i)
        i).chanPost i 0x000A 1
  d.updOut i

/-- The drag-shoe state of a channel by its CHAN_DS_CFG (R314). -/
def Dev.dsState (d : Dev) (i : Nat) : Req :=
  match d.fld (CHAN_DS_CFG_STATE i) with
  | 0 => { kind := 0, duty := 0, cad := 0 }
  | 1 => { kind := 1, duty := 0, cad := 0 }
  | 2 =>
    let r := d.requested i
    if r.kind = 2 then { r with duty := (d.chan i).pwmDuty.getD r.duty } else r
  | _ => { kind := 2, duty := d.fld (CHAN_DS_CFG_DUTY i), cad := d.fld (CHAN_DS_CFG_CADENCE i) }

/-- The drag-shoe state is applied to one channel; `coach`: under R362 or R454. -/
def Dev.dsChan (d : Dev) (i : Nat) (coach : Bool) : Dev :=
  let r := d.dsState i
  let old := d.requested i
  let d := d.dropPending i
  let d := (d.set (CHAN_STS_DRAGSHOE i)).chanEvt (CHAN_PEVT_DRAGSHOE i) (CHAN_PINT_EN_DRAGSHOE i) i
  let d := if coach then d.modChan i fun c => { c with dsCoach := some r }
    else (d.clr (CHAN_STS_COAST i)).modChan i fun c => { c with ds := some r, coast := none }
  let d := if r.kind = 0 then d.requestedOff i else d
  d.reqChanged i old

/-- The output channels. -/
def Dev.outputs (d : Dev) : List Nat := (List.range 40).filter (fun i => d.isOutput i)

/-- The output channels of a coach. -/
def Dev.coachChans (d : Dev) (c : Nat) : List Nat := d.outputs.filter (fun i => d.chanOwner i == c)

/-- The drag-shoe states are applied to every output channel (R313, R316, R317). -/
def Dev.applyDs (d : Dev) (cause : Nat) : Dev :=
  let chg := !d.on HLK_DS_STS_APPLIED || d.on HLK_DS_STS_COAST
  let d := d.each d.outputs (fun i d => d.dsChan i false)
  let d := (d.set HLK_DS_STS_APPLIED).put HLK_DS_STS_CAUSE cause
  let d := ((d.clr HLK_DS_STS_COAST).clr HLK_DS_STS_COAST_LEFT).when chg (·.raiseIf HLK_DS_INT_EN_EN 300)
  d.post 0x50 0x0008 1 8 cause

/-- The drag-shoe states are applied to the channels of one coach (R362: instance 4, R454: instance 5). -/
def Dev.applyDsCoach (d : Dev) (c inst : Nat) : Dev :=
  (d.each (d.coachChans c) (fun i d => d.dsChan i true)).post 0x50 0x0008 1 8 inst [c]

/-- DRAGSHOE clears on a channel where neither application remains, and the channel follows its CMD. -/
def Dev.dsRelease (d : Dev) (i : Nat) (coach : Bool) : Dev :=
  let old := d.requested i
  let d := d.modChan i fun c => if coach then { c with dsCoach := none } else { c with ds := none }
  let d := if (d.chan i).ds.isNone ∧ (d.chan i).dsCoach.isNone then d.clr (CHAN_STS_DRAGSHOE i) else d
  d.reqChanged i old

/-- An accepted release takes effect at the tick (R315). -/
def Dev.dsReleaseAll (d : Dev) : Dev :=
  if d.hv.dsRelease then
    let d : Dev := { d with hv := { d.hv with dsRelease := false } }
    let d := d.each (d.outputs.filter (fun i => (d.chan i).ds.isSome)) (fun i d => d.dsRelease i false)
    let d := ((d.clr HLK_DS_STS_APPLIED).clr HLK_DS_STS_CAUSE).raiseIf HLK_DS_INT_EN_EN 300
    d.post 0x50 0x0009 0 8 0
  else d

/-- The channels of a coach switch to OFF (R454 policy 1). -/
def Dev.chanOff (d : Dev) (i : Nat) : Dev := (d.dropPending i).cmdAct i 1 0

/-- The coach-only drag-shoe states are released (R454). -/
def Dev.dsReleaseCoach (d : Dev) (c : Nat) : Dev :=
  d.each ((d.coachChans c).filter (fun i => (d.chan i).dsCoach.isSome)) (fun i d => d.dsRelease i true)

end Sys2Proof.Machine
end

