-- ==== Sys2Proof/Machine/Protect.lean ====
section
/-! DEFINITION. Readings, the protection layers, diagnostics, the thermal budgeter, the H-link and the coachman
watchdog (spec/10 R276–R286, spec/11 R288–R317). -/

namespace Sys2Proof.Machine

open R

/-! ### Readings (R276–R280) -/

/-- Full scale of a channel's current in µA (R261). -/
def Dev.fullScale (d : Dev) (i : Nat) : Int :=
  if i < 12 then 100000000
  else if i < 24 then 30000000
  else (50000000000 / d.fld (CHAN_GD_CFG_R_SHUNT i) : Nat)

/-- The reading uses the fine range (R277): `run` counts the readings within ±200 mA in a row, this one included. -/
def Dev.fineRange (d : Dev) (i : Nat) (cur : Int) (run : Nat) : Bool :=
  if 24 ≤ i then false
  else match d.fld (CHAN_CFG_RANGE i) with
    | 2 => true
    | 1 => false
    | _ => if d.on (CHAN_STS_RANGE_FINE i) then cur.natAbs ≤ 240000 else 100 ≤ run

/-- The reading that a range delivers, and whether it is saturated. -/
def Dev.clipCur (d : Dev) (i : Nat) (fine : Bool) (cur : Int) : Int × Bool :=
  let fs := if fine ∧ d.fld (CHAN_CFG_RANGE i) = 2 then 262000 else d.fullScale i
  if fs < cur then (fs, true) else if cur < -fs then (-fs, true) else (cur, false)

/-- The signed sum of the latest readings of channels 0–23, in mA. -/
def Dev.updAgg (d : Dev) : Dev :=
  d.wr CHAN_AGG_I (unsgn 32 (((List.range 24).map (fun i => sgn 32 (d.rn (CHAN_I i)))).foldl (· + ·) 0 / 1000))

/-- The charge counter takes one reading of 1 µs (R280). -/
def Dev.addCharge (d : Dev) (i : Nat) (cur : Int) : Dev :=
  let t := (d.chan i).qRem + cur
  let q := sgn 64 (d.pair (CHAN_Q_LO i) (CHAN_Q_HI i)) + t / 1000
  (d.wrPair (CHAN_Q_LO i) (CHAN_Q_HI i) (unsgn 64 q)).modChan i fun c => { c with qRem := t % 1000 }

/-- The reading joins the means (R278) and the sums of the models and the budgeter. -/
def Dev.addMeans (d : Dev) (i : Nat) (cur : Int) : Dev :=
  let sq := cur.natAbs * cur.natAbs
  d.modChan i fun c =>
    { c with hist := (cur :: c.hist).take 256, stSum := c.stSum + cur, stCnt := c.stCnt + 1,
             cadSum := c.cadSum + cur, cadCnt := c.cadCnt + 1, mCnt := c.mCnt + 1, mSq := c.mSq + sq,
             bCnt := c.bCnt + 1, bSum := c.bSum + cur, bSq := c.bSq + sq }

/-- The stage's mean ends at a tick (R278). -/
def Dev.stageMean (d : Dev) (i : Nat) : Dev :=
  d.modChan i fun c => { c with stSum := 0, stCnt := 0, stMean := meanOf c.stSum c.stCnt }

/-! ### Envelope and diagnostics of one reading -/

/-- The multiple in force `t` µs after the switch-on (R282), from the first segment that `t` lies in. -/
def Dev.envMult (d : Dev) (i t : Nat) : Nat :=
  ((List.range (d.profLast i + 1)).find? (fun j => t < bits 23 0 (d.prof i (2 + j)))).elim
    (bits 7 0 (d.prof i 10)) (fun j => bits 31 24 (d.prof i (2 + j)))

/-- The envelope's limit in µA (R282). -/
def Dev.envLimit (d : Dev) (i t : Nat) : Int :=
  min ((d.fld (CHAN_CFG_I_NOM i) * 10000 * d.envMult i t / 8 : Nat) : Int) (d.fullScale i)

/-- The whole 1 µs window of a reading that ends now fell while the output conducted. -/
def Dev.wholeOn (d : Dev) (i : Nat) : Bool := d.out i && (d.chan i).outSince + 1000 ≤ d.up

/-- INRUSH ends with the envelope's last segment, whether a pulse runs or not (R282). -/
def Dev.endInrush (d : Dev) (i : Nat) : Dev :=
  if d.envOver i then d.clr (CHAN_STS_INRUSH i) else d

/-- The envelope check of a reading (R289). -/
def Dev.checkEnvelope (d : Dev) (i : Nat) (cur : Int) : Dev :=
  let d := d.endInrush i
  if !d.wholeOn i then d
  else
    let t := d.envTime i
    let n := if d.envLimit i t < cur then (d.chan i).ocRun + 1 else 0
    let d := d.modChan i fun c => { c with ocRun := n }
    if n ≠ 0 ∧ d.fld (CHAN_TRIP_CFG_OC_FILT i) ≤ n then d.trip i 1 else d

/-- STG_PERIOD_NS as the Heavia die knows it: while the Beyvo die is down, by its copy. -/
def Dev.stagePeriod (d : Dev) : Nat := if d.fld STG_PERIOD_NS_NS = 0 then d.hv.periodNs else d.fld STG_PERIOD_NS_NS

/-- Open load in the on state (R301, R283). -/
def Dev.checkOpenOn (d : Dev) (i : Nat) (cur : Int) : Dev :=
  let c := d.chan i
  let pwm := (d.requested i).kind = 2
  let counts := d.wholeOn i && (!pwm || c.outSince + 21000 ≤ d.up) &&
    c.onSince + 1000 * bits 31 16 (d.prof i 0) ≤ d.up && c.onSince + d.stagePeriod ≤ d.up
  if !counts then d
  else
    let w1 := d.prof i 1
    let low := decide (cur < ((bits 15 0 w1 * 10 : Nat) : Int))
    let filt := 1000 * bits 23 16 w1
    let d := d.modChan i fun c =>
      { c with olLow := if low then c.olLow + 1 else 0, olHigh := if low then 0 else c.olHigh + 1 }
    if filt ≤ (d.chan i).olLow ∧ !d.on (CHAN_STS_OPEN_ON i) then
      ((d.set (CHAN_STS_OPEN_ON i)).chanEvt (CHAN_PEVT_OPEN_ON i) (CHAN_PINT_EN_OPEN_ON i) i).chanPost i 0x000D 0
    else if filt ≤ (d.chan i).olHigh then d.clr (CHAN_STS_OPEN_ON i) else d

/-- Short to battery in the off state (R303). -/
def Dev.checkShortBat (d : Dev) (i : Nat) (volt supply : Int) : Dev :=
  let high := decide (((d.fld (CHAN_DIAG_CFG_SB_FRAC i) : Nat) : Int) * supply ≤ 16 * volt)
  let d := d.modChan i fun c =>
    { c with sbHigh := if high ∧ !d.out i then c.sbHigh + 1 else 0, sbLow := if high then 0 else c.sbLow + 1 }
  if 1000 ≤ (d.chan i).sbHigh ∧ !d.on (CHAN_STS_SHORT_BAT i) then
    ((d.set (CHAN_STS_SHORT_BAT i)).chanEvt (CHAN_PEVT_SHORT_BAT i) (CHAN_PINT_EN_SHORT_BAT i) i).chanPost i 0x000F 1
  else if 1000 ≤ (d.chan i).sbLow then d.clr (CHAN_STS_SHORT_BAT i) else d

/-- Reverse current (R304): a blocking pair turns its odd MOSFET off, also where the request becomes ON while the reverse
current stands. -/
def Dev.checkReverse (d : Dev) (i : Nat) (cur : Int) : Dev :=
  let thr : Int := (d.fld (CHAN_DIAG_CFG_REV_THR i) * (if i < 24 then 10000 else 100000) : Nat)
  let d := d.modChan i fun c =>
    { c with revRun := if cur < -thr then c.revRun + 1 else 0, fwdRun := if -thr < 2 * cur then c.fwdRun + 1 else 0 }
  if 100 ≤ (d.chan i).revRun then
    let d := if d.on (CHAN_STS_REVERSE i) then d
      else ((d.set (CHAN_STS_REVERSE i)).chanEvt (CHAN_PEVT_REVERSE i) (CHAN_PINT_EN_REVERSE i) i).chanPost i 0x0010 0
    if d.pairEven i ∧ d.on (CHAN_DIAG_CFG_REV_BLOCK i) ∧ (d.requested i).kind = 1 ∧ !(d.chan i).blocking then
      (d.modChan i fun c => { c with blocking := true }).gates i else d
  else if 100 ≤ (d.chan i).fwdRun then d.clr (CHAN_STS_REVERSE i) else d

/-- The drain voltages of a pair, of one reading of 1 µs (R304). -/
def Dev.pairVolts (d : Dev) (i : Nat) (even odd : Int) : Dev :=
  d.modChan i fun c => { c with fwdV := if odd + 50000 ≤ even then c.fwdV + 1 else 0 }

/-- The ideal diode's odd MOSFET turns on again once the forward voltage has stood for 1 ms (R304). -/
def execReverseBlockEnd (dt i : Nat) (s : State) : Host.Outcome State Fault Refusal :=
  s.onDev dt (i < 40) fun d =>
    if (d.chan i).blocking ∧ 1000 ≤ (d.chan i).fwdV then (d.modChan i fun c => { c with blocking := false }).gates i
    else d

/-- The digital level of an input channel (R286). -/
def Dev.checkLevel (d : Dev) (i : Nat) (volt : Int) : Dev :=
  let deb := d.fld (CHAN_IN_CFG_DEB i)
  let need := if deb = 0 then 1 else 2 ^ deb
  let hi := decide (((d.fld (CHAN_IN_CFG_THR_HI i) * 100000 : Nat) : Int) < volt)
  let lo := decide (volt < ((d.fld (CHAN_IN_CFG_THR_LO i) * 100000 : Nat) : Int))
  let d := d.modChan i fun c =>
    { c with hiRun := if hi then c.hiRun + 1 else 0, loRun := if lo then c.loRun + 1 else 0 }
  let edge (d : Dev) : Dev :=
    (d.wrPair (CHAN_EDGE_T_LO i) (CHAN_EDGE_T_HI i) d.ns).chanEvt (CHAN_EVT_EDGE i) (CHAN_INT_EN_EDGE i) i
  if need ≤ (d.chan i).hiRun ∧ !d.on (CHAN_STS_LEVEL i) then edge (d.set (CHAN_STS_LEVEL i))
  else if need ≤ (d.chan i).loRun ∧ d.on (CHAN_STS_LEVEL i) then edge (d.clr (CHAN_STS_LEVEL i))
  else d

/-! ### Harness and junction (R290–R294) -/

/-- I_REF in A for a wire size (R291). -/
def wireRef (w : Nat) : Nat :=
  [8, 10, 13, 16, 20, 28, 37, 48, 66, 90, 120, 150, 185, 230, 280, 320].getD w 0

/-- One kelvin in the models' unit. -/
def kelvin : Nat := 1000000000000

/-- T_AMB in the models' unit, as a signed number. -/
def Dev.tAmb (d : Dev) : Int := sgn 8 (d.fld HPS_AMB_CFG_T_AMB) * (kelvin : Int)

/-- T_w (R290) and the modelled junction (R294). -/
def Dev.wireT (d : Dev) (i : Nat) : Int := d.tAmb + ((d.chan i).theta : Int)
def Dev.juncT (d : Dev) (i : Nat) : Int := d.tAmb + ((d.chan i).phi : Int)

/-- x ← x + (drive − x) / n, in the models' unit, rounded down (R290, R294; assumption 13). -/
def relax (x drive n : Nat) : Nat := ((x : Int) + ((drive : Int) - (x : Int)) / (n : Int)).toNat

/-- K × I² of R290 in the models' unit, for a mean square in µA². -/
def Dev.wireDrive (d : Dev) (i meanSq : Nat) : Nat :=
  let r := wireRef (d.fld (CHAN_HARN_CFG_WIRE i)) * d.fld (CHAN_HARN_CFG_DERATE i)
  500000 * meanSq / (r * r)

/-- I² × R_DS × R_TH of R294 in the models' unit. -/
def Dev.juncDrive (d : Dev) (i meanSq : Nat) : Nat :=
  meanSq * d.fld (CHAN_GDJ_CFG_RDS i) * d.fld (CHAN_GDJ_CFG_RTH i) / 100000000

/-- The measured temperature of the channel's cells (R279): the hotter gate-driver cell of a pair. -/
def Dev.juncTemp (d : Dev) (i : Nat) : Int :=
  let t := sgn 16 (d.fld (CHAN_TJ_TEMP i))
  if d.pairEven i then max t (sgn 16 (d.fld (CHAN_TJ_TEMP (i + 1)))) else t

/-- The junction, measured or modelled, has reached its shutdown (R293, R294): 1 = measured, 2 = by the model. -/
def Dev.juncHot (d : Dev) (i : Nat) : Nat :=
  if 1750 ≤ d.juncTemp i then 1
  else if 24 ≤ i ∧ d.fld (CHAN_GDJ_TAU_TJ_MAX i) ≠ 0 ∧
      ((d.fld (CHAN_GDJ_TAU_TJ_MAX i) * kelvin : Nat) : Int) ≤ d.juncT i then 2
  else 0

/-- The junction has cooled by ΔT (R293, R294). -/
def Dev.juncCool (d : Dev) (i : Nat) : Bool :=
  let dT := d.fld (CHAN_RETRY_CFG_DELTA_T i)
  decide (d.juncTemp i ≤ 1750 - 10 * (dT : Int)) &&
    (i < 24 || decide (d.juncT i ≤ ((d.fld (CHAN_GDJ_TAU_TJ_MAX i) : Int) - (dT : Int)) * (kelvin : Int)))

/-- Junction protection (R293, R294). -/
def Dev.checkJunction (d : Dev) (i : Nat) : Dev :=
  let h := d.juncHot i
  if h ≠ 0 ∧ !d.on (CHAN_STS_THERMAL i) then
    (if d.out i then d.trip i 3 [b2n (h == 2)] else (d.set (CHAN_STS_THERMAL i)).updOut i)
  else if h = 0 ∧ d.on (CHAN_STS_THERMAL i) ∧ d.juncCool i then ((d.clr (CHAN_STS_THERMAL i)).freed i).updOut i
  else d

/-- The harness limits (R292). -/
def Dev.checkHarness (d : Dev) (i : Nat) : Dev :=
  let tw := d.wireT i
  let at_ (f : Fld) : Int := ((d.fld f * kelvin : Nat) : Int)
  let warn := d.fld (CHAN_HARN_LIM_T_WARN i)
  let d :=
    if warn ≠ 0 ∧ at_ (CHAN_HARN_LIM_T_WARN i) ≤ tw ∧ !(d.chan i).warned then
      ((d.modChan i fun c => { c with warned := true }).chanEvt (CHAN_PEVT_HARN_WARN i) (CHAN_PINT_EN_HARN_WARN i)
        i).chanPost i 0x0011 0
    else if tw ≤ at_ (CHAN_HARN_LIM_T_WARN i) - 5 * (kelvin : Int) then
      d.modChan i fun c => { c with warned := false }
    else d
  if at_ (CHAN_HARN_LIM_T_MAX i) ≤ tw ∧ !d.on (CHAN_STS_HARNESS i) then
    (if d.out i then d.trip i 2 else (d.set (CHAN_STS_HARNESS i)).updOut i)
  else if d.on (CHAN_STS_HARNESS i) ∧ tw ≤ at_ (CHAN_HARN_LIM_T_RESTART i) then
    ((d.clr (CHAN_STS_HARNESS i)).freed i).updOut i
  else d

/-- CHAN_MODEL_T follows the models, in 0.1 °C. -/
def Dev.updModelT (d : Dev) (i : Nat) : Dev :=
  let tenth (t : Int) : Nat := unsgn 16 (t / 100000000000)
  d.wr (CHAN_MODEL_T i) (tenth (d.wireT i) + 65536 * (if i < 24 then 0 else tenth (d.juncT i)))

/-- One channel's models after a millisecond (R290, R294). -/
def Dev.modelStep (d : Dev) (i : Nat) : Dev :=
  let c := d.chan i
  let ms := if c.mCnt = 0 then 0 else c.mSq / c.mCnt
  let th := relax c.theta (d.wireDrive i ms) (100 * d.fld (CHAN_HARN_CFG_TAU i))
  let ph := if i < 24 then 0 else relax c.phi (d.juncDrive i ms) (d.fld (CHAN_GDJ_TAU_TAU_MS i))
  let d := d.modChan i fun c => { c with theta := th, phi := ph, mCnt := 0, mSq := 0 }
  ((d.updModelT i).checkHarness i).checkJunction i

def execModelUpdate (dt : Nat) (s : State) : Host.Outcome State Fault Refusal :=
  s.onDev dt true fun d => d.each d.outputs (fun i d => d.modelStep i)

/-! ### The reading itself -/

/-- The channel is inert: without an owner, or of MODE 2 (R18, R263). -/
def Dev.chanInert (d : Dev) (i : Nat) : Bool := d.chanOwner i == 15 || d.fld (CHAN_CFG_MODE i) == 2

/-- The reading's effect on registers and means (R267, R276–R280). -/
def Dev.takeReading (d : Dev) (i : Nat) (cur volt voltOdd tj : Int) : Dev :=
  let run := if cur.natAbs ≤ 200000 then (d.chan i).fineRun + 1 else 0
  let fine := d.fineRange i cur run
  let r := d.clipCur i fine cur
  let d := (d.modChan i fun c => { c with fineRun := run }).put (CHAN_STS_RANGE_FINE i) (b2n fine)
  let d := d.put (CHAN_STS_SAT i) (b2n r.2)
  let d := if r.2 ∧ !d.chanInert i then
      (d.chanEvt (CHAN_EVT_SAT i) (CHAN_INT_EN_SAT i) i).postOnce 0x51 0x0002 0 (d.chanOwner i) i []
    else d
  let d := (d.wr (CHAN_I i) (unsgn 32 r.1)).wr (CHAN_V i) (unsgn 32 volt)
  let d := if d.pairEven i then d.wr (CHAN_V (i + 1)) (unsgn 32 voltOdd) else d
  let d := d.put (CHAN_TJ_TEMP i) (unsgn 16 tj)
  ((if i < 24 then d.updAgg else d).addCharge i r.1).addMeans i r.1

/-- A reading of channel `i` (R276): `cur` in µA, `volt` in µV (of a pair: its even DRN), `voltOdd` the odd DRN of a
pair, `supply` the channel's supply in µV, `tj` in 0.1 °C. The odd channel of a pair reads no current (R267), and gives
the temperature of its own gate-driver cell (R279, R294). -/
def Dev.sense (d : Dev) (i : Nat) (cur volt voltOdd supply tj : Int) : Dev :=
  if d.pairOdd i then
    let d := d.put (CHAN_TJ_TEMP i) (unsgn 16 tj)
    if d.isOutput (i - 1) then d.checkJunction (i - 1) else d
  else
    let d := d.takeReading i cur volt voltOdd tj
    let r := sgn 32 (d.rn (CHAN_I i))
    if d.fld (CHAN_CFG_MODE i) = 1 then (if d.chanInert i then d else d.checkLevel i volt)
    else if d.isOutput i then
      let d := ((d.checkEnvelope i r).checkOpenOn i r).checkReverse i r
      let d := if d.pairEven i then (d.checkShortBat i voltOdd volt).pairVolts i volt voltOdd
        else d.checkShortBat i volt supply
      d.checkJunction i
    else d

def execSenseReading (dt i : Nat) (cur volt voltOdd supply tj : Int) (s : State) :
    Host.Outcome State Fault Refusal :=
  s.onDev dt (i < 40) fun d => if d.hvRuns then d.sense i cur volt voltOdd supply tj else d

/-! ### Trips, restart and latch (R288, R295–R298) -/

/-- The threshold of the short-circuit comparator in µA (R288): of a GD channel, the shunt voltage over R_SHUNT. -/
def Dev.scThreshold (d : Dev) (i : Nat) : Nat :=
  let k := d.fld (CHAN_TRIP_CFG_SC_THR i)
  if i < 12 then 60000000 + 20000000 * k
  else if i < 24 then 18000000 + 6000000 * k
  else (25000000000 + 12500000000 * k) / d.fld (CHAN_GD_CFG_R_SHUNT i)

/-- The voltage check of a MOSFET of a GD channel has its blanking time behind it (R288): `odd` names the odd MOSFET of a
pair. -/
def Dev.vdsArmed (d : Dev) (i : Nat) (odd : Bool) : Bool :=
  let c := d.chan i
  let since : Option Nat := if d.pairEven i then (if odd then c.oddAt else c.evenAt) else if odd then none else some c.outSince
  24 ≤ i && d.fld (CHAN_TRIP_CFG_VDS_THR i) != 0 &&
    since.any (fun t => t + 1000 * d.fld (CHAN_TRIP_CFG_VDS_BLANK i) ≤ d.up)

/-- Whether a value that a short-circuit comparator of a channel sees lies above its threshold (R288). -/
def Dev.scCrossed (d : Dev) (i : Nat) : ScInput → Bool
  | .current ua => decide (((d.scThreshold i : Nat) : Int) < ua)
  | .vds odd uv => d.vdsArmed i odd && decide (((d.fld (CHAN_TRIP_CFG_VDS_THR i) * 100000 : Nat) : Int) < uv)

/-- The detail word of the record of R288's trip: 0 for the current comparator, 1 for the VDS check. -/
def scDetail : ScInput → Nat
  | .current _ => 0
  | .vds _ _ => 1

/-- A short-circuit comparator sees a value; one above its threshold trips a conducting output (R288). -/
def execShortCircuitTrip (dt i : Nat) (seen : ScInput) (s : State) : Host.Outcome State Fault Refusal :=
  s.onDev dt (i < 40) fun d =>
    if d.isOutput i ∧ d.out i ∧ d.scCrossed i seen then d.trip i 0 [scDetail seen] else d

/-- A channel in RETRY restarts once every condition of R296 holds. A restart whose delay, or whose last other condition, ends in
the present 10 ns cycle waits for the end of the cycle, so that the commands of the cycle apply first and the restart acts on their result
(R300; DEDUCED, assumption 112). -/
def execRetryRestart (dt i : Nat) (s : State) : Host.Outcome State Fault Refusal :=
  s.onDev dt (i < 40) fun d =>
    if d.on (CHAN_STS_RETRY i) ∧ ((d.chan i).tripAt + 1000000 * d.fld (CHAN_RETRY_CFG_DELAY_MS i)) / 10 < d.up / 10 ∧
        (d.chan i).freed ≤ d.up / 10 * 10 ∧ !d.on (CHAN_STS_LATCHED i) ∧ !d.on (CHAN_STS_SHED i) ∧ !d.on (CHAN_STS_HARNESS i) ∧
        !d.on (CHAN_STS_THERMAL i) ∧ (d.requested i).kind ≠ 0 then
      let d := ((d.clr (CHAN_STS_RETRY i)).modChan i fun c => { c with envStart := none }).updOut i
      (d.chanEvt (CHAN_PEVT_RESTART i) (CHAN_PINT_EN_RESTART i) i).chanPost i 0x0009 0
    else d

/-- GOOD_S seconds of conduction without a trip (R297). -/
def execRetryCountClear (dt i : Nat) (s : State) : Host.Outcome State Fault Refusal :=
  s.onDev dt (i < 40) fun d =>
    if (d.chan i).envStart.isSome ∧ !d.held i ∧ 1000000000 * d.fld (CHAN_GOOD_S_GOOD_S i) ≤ d.conducted i then d.clr (CHAN_STS_RETRY_CNT i) else d

/-- CHAN_PCTL.UNLATCH (R298). -/
def Dev.unlatch (d : Dev) (i : Nat) : Dev :=
  if !d.on (CHAN_STS_LATCHED i) then d
  else if d.on (CHAN_STS_HARNESS i) ∨ d.on (CHAN_STS_THERMAL i) then
    (d.chanEvt (CHAN_PEVT_UNLATCH_REF i) (CHAN_PINT_EN_UNLATCH_REF i) i).chanPost i 0x000C 0
  else
    let old := d.requested i
    let d := (((d.clr (CHAN_STS_LATCHED i)).clr (CHAN_STS_RETRY_CNT i)).clr (CHAN_STS_SC i)).clr (CHAN_STS_OC i)
    ((d.clr (CHAN_STS_CMD i)).reqChanged i old).chanPost i 0x000B 0

def execUnlatch (dt : Nat) (a : Acc) (i : Nat) (s : State) : Host.Outcome State Fault Refusal :=
  s.onDevM dt (i < 40) fun m d => d.regWrite m a (CHAN_PCTL i) (·.unlatch i)

/-- A pull-up test is due: 1 µs or more after a stage tick, and OL_OFF_INT × 100 ms or more after the last test (R302). -/
def Dev.testDue (d : Dev) (i : Nat) : Bool :=
  d.stg.lastTick.any (fun t => t + 1000 ≤ d.domNs) &&
    (d.chan i).testAt.all (fun t => t + 100000000 * d.fld (CHAN_DIAG_CFG_OL_OFF_INT i) ≤ d.up)

/-- How long a pull-up test lasts, in ns (R302). -/
def Dev.testLen (d : Dev) : Nat := min 400000 (d.stagePeriod - 4000)

/-- A PWM channel's duty keeps it off in this period: no pulse runs and none is to come (R273). -/
def Dev.pwmRests (d : Dev) (i : Nat) : Bool :=
  let c := d.chan i
  (d.requested i).kind == 2 && !c.pwmLvl && c.onAt.isNone && c.offAt.isNone

/-- The pull-up test starts on a channel that is off, by its requested state, held off or by its duty, unless its supply is below
12 V (R302). -/
def execPullUpTest (dt i : Nat) (supplyLow : Bool) (s : State) : Host.Outcome State Fault Refusal :=
  s.onDev dt (i < 40) fun d =>
    if d.isOutput i ∧ d.on (CHAN_DIAG_CFG_OL_OFF_EN i) ∧ !d.out i ∧ (!d.mayOut i ∨ d.pwmRests i) ∧ !supplyLow ∧ d.testDue i
    then d.modChan i fun c => { c with testing := true, testAt := some d.up } else d

/-- The pull-up test ends with a terminal voltage in µV (R302). -/
def execPullUpTestEnd (dt i : Nat) (volt : Int) (s : State) : Host.Outcome State Fault Refusal :=
  s.onDev dt (i < 40) fun d =>
    if (d.chan i).testing ∧ (d.chan i).testAt.all (fun t => t + d.testLen ≤ d.up) then
      let d := d.modChan i fun c => { c with testing := false }
      if 2500000 < volt then
        ((d.set (CHAN_STS_OPEN_OFF i)).chanEvt (CHAN_PEVT_OPEN_OFF i) (CHAN_PINT_EN_OPEN_OFF i) i).chanPost i 0x000E 0
      else d.clr (CHAN_STS_OPEN_OFF i)
    else d

/-! ### The thermal budgeter (R305–R307) -/

/-- HPS_SHED's bit of a channel. -/
def shedFld (i : Nat) : Fld := if i < 32 then ⟨HPS_SHED_LO, i, i⟩ else ⟨HPS_SHED_HI, i - 32, i - 32⟩

/-- The on-resistance in µΩ of a channel at a junction temperature: at most the figures of R482, and linear in temperature
between them (R487); outside 25 °C to 150 °C the spec gives none. -/
def onResistance (chan tj : Nat) : Nat :=
  let lo := min (Config.onRes25 chan) (if chan < 12 then 3000 else 9500)
  let hi := min (Config.onRes150 chan) (if chan < 12 then 4600 else 15000)
  let t := sgn 16 tj
  if 250 ≤ t ∧ t ≤ 1500 then (((lo : Int) * (1500 - t) + (hi : Int) * (t - 250)) / 1250).toNat
  else Config.onResBeyond chan tj

/-- The five estimates of R305: total power in 10 mW, aggregate and group currents in 0.1 A. -/
def Dev.estimates (d : Dev) (logic : Nat) : List Nat :=
  let sq (i : Nat) : Nat := let c := d.chan i; if c.bCnt = 0 then 0 else c.bSq / c.bCnt
  let cur (i : Nat) : Int := let c := d.chan i; meanOf c.bSum c.bCnt
  let loss := ((List.range 24).map (fun i => sq i * onResistance i (d.fld (CHAN_TJ_TEMP i)))).foldl (· + ·) 0
  let grp (l : List Nat) : Nat := ((l.map cur).foldl (· + ·) 0 / 100000).toNat
  [logic + loss / 10000000000000000, grp (List.range 24), grp (List.range 6), grp ((List.range 6).map (· + 6)),
   grp ((List.range 12).map (· + 12))]

/-- The shed and release thresholds of the five estimates, in their units. -/
def Dev.shedThr (d : Dev) : List Nat :=
  [100 * d.fld HPS_BUD_CFG_P_SHED, 10 * d.fld HPS_BUD_CFG_I_SHED, 10 * d.fld HPS_BUD_GRP_G_SHED,
   10 * d.fld HPS_BUD_GRP_G_SHED, 10 * d.fld HPS_BUD_GRP_G_SHED]
def Dev.relThr (d : Dev) : List Nat :=
  [100 * d.fld HPS_BUD_CFG_P_REL, 10 * d.fld HPS_BUD_CFG_I_REL, 10 * d.fld HPS_BUD_GRP_G_REL,
   10 * d.fld HPS_BUD_GRP_G_REL, 10 * d.fld HPS_BUD_GRP_G_REL]

/-- The candidates for shedding under estimate `k` (R306). -/
def Dev.shedCands (d : Dev) (k : Nat) : List Nat :=
  let group : List Nat := match k with
    | 2 => List.range 6
    | 3 => (List.range 6).map (· + 6)
    | 4 => (List.range 12).map (· + 12)
    | _ => List.range 40
  group.filter (fun i => d.isOutput i && d.out i && !d.on (CHAN_STS_LATCHED i) && !d.on (CHAN_STS_SHED i) &&
    d.fld (CHAN_SHED_CFG_SHED_PRIO i) < 15)

/-- The candidate to shed: the lowest SHED_PRIO, among equals the highest index. -/
def Dev.shedPick (d : Dev) (l : List Nat) : Option Nat :=
  l.foldl (fun b i => match b with
    | none => some i
    | some j => if d.fld (CHAN_SHED_CFG_SHED_PRIO i) ≤ d.fld (CHAN_SHED_CFG_SHED_PRIO j) then some i else some j) none

/-- The channel to release: the highest SHED_PRIO, among equals the lowest index. -/
def Dev.releasePick (d : Dev) : Option Nat :=
  ((List.range 40).filter (fun i => d.on (CHAN_STS_SHED i))).foldl (fun b i => match b with
    | none => some i
    | some j => if d.fld (CHAN_SHED_CFG_SHED_PRIO j) < d.fld (CHAN_SHED_CFG_SHED_PRIO i) then some i else some j) none

/-- A channel is shed (R306). -/
def Dev.shed (d : Dev) (i : Nat) : Dev :=
  let d := ((d.set (CHAN_STS_SHED i)).set (shedFld i)).chanEvt (CHAN_PEVT_SHED i) (CHAN_PINT_EN_SHED i) i
  let d := ((d.chanPost i 0x0012 0).set HPS_BUD_STS_SHED).raiseIf HPS_INT_EN_BUD 296
  d.updOut i

/-- The estimates that a list of thresholds is reached by. -/
def reached (est thr : List Nat) : List Nat :=
  (List.range 5).filter (fun k => 0 < thr.getD k 0 && thr.getD k 0 ≤ est.getD k 0)

/-- The registers of R305. -/
def Dev.budRegs (d : Dev) (logic : Nat) (est : List Nat) : Dev :=
  let e (k lim : Nat) : Nat := min (est.getD k 0) lim
  let d := d.wr HPS_BUD_P (e 0 65535 + 65536 * min logic 65535)
  (d.wr HPS_BUD_I (e 1 4095)).wr HPS_GRP_I (e 2 1023 + 1024 * e 3 1023 + 1048576 * e 4 1023)

/-- Estimates that stand at their thresholds without a candidate (R307), each reported when it comes to that. -/
def Dev.exhausted (d : Dev) (high : List Nat) : Dev :=
  let now := high.filter (fun k => (d.shedCands k).isEmpty)
  let new := now.filter (fun k => !d.hv.budExh.contains k)
  let d : Dev := { d with hv := { d.hv with budExh := now } }
  d.each new (fun k d => ((d.set HPS_BUD_STS_EXHAUSTED).raiseIf HPS_INT_EN_BUD 296).post 0x53 0x0002 2 8 k)

/-- The budgeter's millisecond (R305, R306, R307). Of several estimates at their thresholds the first, in the order P,
aggregate, groups, that has a candidate names the candidates (DESIGN CHOICE, assumption 95). -/
def Dev.budget (d : Dev) (logic : Nat) : Dev :=
  let est := d.estimates logic
  let high := reached est d.shedThr
  let d := d.budRegs logic est
  let d := d.each (List.range 40) (fun i d => d.modChan i fun c => { c with bCnt := 0, bSum := 0, bSq := 0 })
  let d := d.put HPS_BUD_STS_OVER (b2n (high ≠ []))
  let d := d.each (high.filter (fun k => !d.hv.budOver.contains k)) (fun k d => d.post 0x53 0x0001 0 8 k)
  let below := (List.range 5).all (fun k => est.getD k 0 < d.relThr.getD k 0)
  let was := d.hv.budBelow
  let d := if below ∧ !was then d.post 0x53 0x0003 0 8 0 else d
  let d : Dev := { d with hv := { d.hv with
    budOver := high, budBelow := below, budRelMs := if below ∧ was then d.hv.budRelMs + 1 else 0 } }
  let d := d.exhausted high
  match high.find? (fun k => !(d.shedCands k).isEmpty) with
  | none => d
  | some k =>
    match d.shedPick (d.shedCands k) with
    | some i => d.shed i
    | none => d

def execBudgeterUpdate (dt logic : Nat) (s : State) : Host.Outcome State Fault Refusal :=
  s.onDev dt true fun d => if d.hvRuns then d.budget logic else d

/-- After REL_MS below every release threshold one shed channel is released (R306). -/
def execBudgetRelease (dt : Nat) (s : State) : Host.Outcome State Fault Refusal :=
  s.onDev dt true fun d =>
    if d.hv.budBelow ∧ d.fld HPS_BUD_GRP_REL_MS ≤ d.hv.budRelMs then
      match d.releasePick with
      | none => d
      | some i =>
        let d : Dev := { d with hv := { d.hv with budRelMs := 0 } }
        let d := (((d.clr (CHAN_STS_SHED i)).clr (shedFld i)).modChan i fun c => { c with envStart := none, freed := d.up + 1 }).updOut i
        d.chanPost i 0x0013 0
    else d

/-- θ, φ and RETRY_CNT are written to retention memory (R308). -/
def execRetainedStateWrite (dt : Nat) (s : State) : Host.Outcome State Fault Refusal :=
  s.onDev dt true fun d =>
    if !d.hvRuns then d else
    let l := (List.range 40).map (fun i =>
      (i, ({ theta := (d.chan i).theta, phi := (d.chan i).phi, retryCnt := d.fld (CHAN_STS_RETRY_CNT i) } : Retained)))
    { d with hv := { d.hv with retained := l, retainedAt := some d.up } }

/-! ### The H-link (R309, R310) -/

/-- Lanes are dropped, in ascending order (R309). -/
def Dev.dropLanes (d : Dev) (lanes : Nat) : Dev :=
  d.each ((List.range 4).filter (fun l => bit l lanes && bit (1 + l) (d.rn HLK_STS))) (fun l d =>
    ((d.clr ⟨HLK_STS, 1 + l, 1 + l⟩).set HLK_STS_LANE_DROP |>.raiseIf HLK_INT_EN_EN 299).post 0x50 0x0001 1 8 l)

/-- The link goes down (R310). -/
def Dev.hlinkDown (d : Dev) : Dev :=
  if d.on HLK_STS_UP then
    let d := (((d.clr HLK_STS_UP).set HLK_STS_DOWN).raiseIf HLK_INT_EN_EN 299).post 0x50 0x0002 1 8 0
    { d with hv := { d.hv with blockErr := 0, laneErr := [], linkLost := true } }
  else d

/-- The errors of the lanes in a row after a CRC error on the lanes of `bad`; those of `good` have carried blocks without
error since their last one (R309). -/
def Dev.laneErrs (d : Dev) (bad good : Nat) : List (Nat × Nat) :=
  (List.range 4).foldl (fun t l =>
    let n := if bit l good then 0 else tget 0 t l
    tset 0 (if bit l bad then n + 1 else n) l t) d.hv.laneErr

/-- A block arrives with a CRC error on some lanes (R309), sent for the first time or `again`: its eighth exhausts its
retries, and the eighth in a row of a lane drops the lane. -/
def execHlinkCrcError (dt bad good : Nat) (again : Bool) (s : State) : Host.Outcome State Fault Refusal :=
  s.onDev dt true fun d =>
    if !d.on HLK_STS_UP ∨ !d.frm.beyvoUp then d
    else
      let errs := d.laneErrs bad good
      let n := if again then d.hv.blockErr + 1 else 1
      let d : Dev := { d with hv := { d.hv with blockErr := n, laneErr := errs } }
      let d := ((d.bump HLK_RETRY_CNT).tallyD 0x83 1).dropLanes (maskOf ((List.range 4).filter (fun l => 8 ≤ tget 0 errs l)))
      if 8 ≤ n ∨ d.fld HLK_STS_LANES = 0 then d.hlinkDown else d

/-- The trained link is up (R309, R310); code 0x0003 where it comes back. -/
def Dev.linkTrained (d : Dev) : Dev :=
  let lost := d.hv.linkLost
  let d : Dev := { (d.set HLK_STS_UP) with hv := { d.hv with blockErr := 0, laneErr := [], linkLost := false } }
  d.when lost (·.post 0x50 0x0003 0 8 0)

/-- Training ends with a mask of lanes (R309, R310): that of a link that is down, or while the boot ROM runs that of the start
of the Beyvo die, which step 1 of R417 trains (DEDUCED, assumption 113). -/
def execHlinkUp (dt lanes : Nat) (s : State) : Host.Outcome State Fault Refusal :=
  s.onDev dt true fun d =>
    let failed := 15 - lanes % 16
    if !d.frm.beyvoUp then d
    else if d.on HLK_STS_UP then
      if d.boot.phase = .rom then
        let d := d.dropLanes failed
        if d.fld HLK_STS_LANES = 0 then d.hlinkDown else d
      else d
    else
      let d := (d.put HLK_STS_LANES 15).dropLanes failed
      if lanes % 16 = 0 then d else d.linkTrained

/-! ### The coachman watchdog (R311–R313) -/

/-- An 8-bit rotation to the left. -/
def rol8 (x n : Nat) : Nat := (x * 2 ^ n + x / 2 ^ (8 - n)) % 256

/-- One byte into the CRC-16 of R311. -/
def crc16Byte (c b : Nat) : Nat :=
  (List.range 8).foldl (fun c _ => if 32768 ≤ c then (c * 2 % 65536) ^^^ 0x1021 else c * 2) (c ^^^ (b * 256))

/-- The correct coachman word (R311). -/
def coachmanWord (seed seq key : Nat) : Nat :=
  let resp := rol8 seed (seq % 8) ^^^ key
  crc16Byte (crc16Byte 0xFFFF seq) resp * 65536 + resp * 256 + seq

/-- The window length W in ns (R312). -/
def Dev.cwWindow (d : Dev) : Nat :=
  d.fld HLK_CW_CFG_WIN * (if d.on HLK_CW_CFG_UNIT then 10000 else d.stagePeriod)

/-- A new SEED, never 0, SEQ + 1 and a new window (R312). -/
def Dev.cwNext (d : Dev) : Dev :=
  let f := d.fresh 8
  let d := f.2
  let d := (d.put HLK_CW_SEED_SEED (f.1 % 255 + 1)).bumpF HLK_CW_SEED_SEQ
  { d with hv := { d.hv with cwStart := d.up, cwWrong := 0 } }

/-- A miss (R313). -/
def Dev.cwMiss (d : Dev) (standby : Dev → Dev) : Dev :=
  let d := ((d.bump HLK_CW_MISS_CNT).set HLK_CW_STS_MISS).raiseIf HLK_CW_INT_EN_EN 297
  let d := d.post 0x50 0x0006 2 8 (d.fld HLK_CW_SEED_SEQ)
  let d : Dev := { d with hv := { d.hv with cwGood := 0, cwMissed := true, dsRelease := false } }
  let d := if d.on HLK_DS_STS_APPLIED ∨ d.on HLK_DS_STS_COAST then d else d.applyDs 1
  (standby d).cwNext

/-- A correct word before COAST_LEFT reaches 0 ends a coast (R316). -/
def Dev.coastEnd (d : Dev) : Dev :=
  if d.on HLK_DS_STS_COAST then
    let ms := (d.up - d.hv.coastAt) / 1000000
    let d := d.each ((List.range 40).filter (fun i => (d.chan i).coast.isSome)) (fun i d =>
      let old := d.requested i
      ((d.clr (CHAN_STS_COAST i)).modChan i fun c => { c with coast := none }).reqChanged i old)
    let d := ((d.clr HLK_DS_STS_COAST).clr HLK_DS_STS_COAST_LEFT).raiseIf HLK_DS_INT_EN_EN 300
    d.post 0x50 0x000B 0 8 ms
  else d

/-- A correct word (R312, R313). -/
def Dev.cwCorrect (d : Dev) : Dev :=
  let d := if d.hv.cwMissed then
      (((d.set HLK_CW_STS_RESUMED).raiseIf HLK_CW_INT_EN_EN 297).post 0x50 0x0007 0 8 (d.fld HLK_CW_SEED_SEQ))
    else d
  let d : Dev := { d with hv := { d.hv with cwMissed := false, cwGood := d.hv.cwGood + 1 } }
  d.coastEnd.cwNext

/-- A coachman word arrives (R312). -/
def Dev.cwWord (d : Dev) (v : Nat) (standby : Dev → Dev) : Dev :=
  if !d.on HLK_CW_STS_ARMED then d
  else
    let seq := d.fld HLK_CW_SEED_SEQ
    let early := d.on HLK_CW_CFG_EARLY && decide (4 * (d.up - d.hv.cwStart) < d.cwWindow)
    if v = coachmanWord (d.fld HLK_CW_SEED_SEED) seq (d.fld HLK_CW_CFG_KEY) ∧ !early then d.cwCorrect
    else
      let d := ((d.bump HLK_CW_ERR_CNT).set HLK_CW_STS_WRONG).raiseIf HLK_CW_INT_EN_EN 297
      let d := d.post 0x50 0x0005 1 8 seq
      if d.hv.cwWrong = 0 then { d with hv := { d.hv with cwWrong := 1 } } else d.cwMiss standby

/-- HLK_DS_CTL (R315, R317). -/
def Dev.dsCtl (d : Dev) (v : Nat) : Dev :=
  if bits 31 16 v ≠ 0xD5A0 ∨ !bit 0 v then d
  else if (d.fld HLK_DS_STS_CAUSE = 1 ∨ d.fld HLK_DS_STS_CAUSE = 2) ∧ 2 ≤ d.hv.cwGood then
    { d with hv := { d.hv with dsRelease := true } }
  else d.post 0x51 0x000C 0 8 0xFFFF

def execHlkDsRelease (dt : Nat) (a : Acc) (v : Nat) (s : State) : Host.Outcome State Fault Refusal :=
  s.onDevM dt true fun m d => d.regWrite m a HLK_DS_CTL (·.dsCtl v)

/-! ### Coast (R316) -/

/-- No release waits for the tick any more (R315). -/
def Dev.dropRelease (d : Dev) : Dev := { d with hv := { d.hv with dsRelease := false } }

/-- A channel coasts in its requested state; its pending commands are dropped. -/
def Dev.coastChan (d : Dev) (i : Nat) : Dev :=
  let r := d.requested i
  ((d.dropPending i).set (CHAN_STS_COAST i)).modChan i fun c => { c with coast := some r }

/-- Every output channel coasts for COAST_MS. -/
def Dev.coastBegin (d : Dev) : Dev :=
  let d := d.each d.outputs (fun i d => d.coastChan i)
  let d : Dev := { d with hv := { d.hv with coastAt := d.up } }
  let d := (d.set HLK_DS_STS_COAST).put HLK_DS_STS_COAST_LEFT (d.fld HLK_COAST_CFG_COAST_MS)
  (d.raiseIf HLK_DS_INT_EN_EN 300).post 0x50 0x000A 1 8 0

/-- The coast begins, and from its start the watchdog is suspended (R313). With COAST_MS = 0 the states apply at once. -/
def Dev.coastStart (d : Dev) : Dev :=
  let d := d.dropRelease
  if d.on HLK_DS_STS_APPLIED ∨ d.on HLK_DS_STS_COAST then d
  else if d.fld HLK_COAST_CFG_COAST_MS = 0 then (d.clr HLK_CW_STS_ARMED).applyDs 2
  else (d.clr HLK_CW_STS_ARMED).coastBegin

/-- COAST_LEFT reaches 0 (R316). -/
def execCoastExpiry (dt : Nat) (s : State) : Host.Outcome State Fault Refusal :=
  s.onDev dt true fun d =>
    if d.on HLK_DS_STS_COAST ∧ d.passed d.hv.coastAt (1000000 * d.fld HLK_COAST_CFG_COAST_MS) then d.applyDs 2 else d

/-- COAST_LEFT as it reads. -/
def Dev.coastLeft (d : Dev) : Nat :=
  if d.on HLK_DS_STS_COAST then d.fld HLK_COAST_CFG_COAST_MS - (d.up - d.hv.coastAt) / 1000000 else 0

end Sys2Proof.Machine
end

