-- ==== Sys2Proof/Machine/Lio.lean ====
section
/-! DEFINITION. The low-power inputs (spec/12, R318–R326). -/

namespace Sys2Proof.Machine

open R

/-- An input's state beside its registers. -/
def Dev.lio (d : Dev) (n : Nat) : Lio := tget Lio.empty d.lios n

def Dev.modLio (d : Dev) (n : Nat) (f : Lio → Lio) : Dev :=
  { d with lios := tset Lio.empty (f (d.lio n)) n d.lios }

/-- The input is used (MODE 1), and not inert under R18. -/
def Dev.lioUsed (d : Dev) (n : Nat) : Bool := d.fld (LIO_CFG_MODE n) == 1 && d.fld (LIO_CFG_OWNER n) != 15

/-- The input works: in SENTINEL, in PARKED and in Beyvo reset every input is off (R325). -/
def Dev.lioOn (d : Dev) (n : Nat) : Bool := d.lioUsed n && d.frm.beyvoUp

/-- The input's comparator works: that of an armed wake input also where the input is off (R325). -/
def Dev.lioCompares (d : Dev) (n : Nat) : Bool :=
  d.lioUsed n && (d.frm.beyvoUp || (d.on (LIO_CFG_WAKE_EN n) && d.sid.armed.any (fun x => x.1 == 36 + n)))

/-- An event of an input with its source 304 + n. -/
def Dev.lioEvt (d : Dev) (ev en : Fld) (n : Nat) : Dev := (d.set ev).raiseIf en (304 + n)

/-- The current in µA that an input sources (WET_DIR 0) or sinks (WET_DIR 1): its wetting current in RUN and DROWSE (R319);
while the Beyvo die is down the bias of an armed wake input, which flows while the switch conducts, and else none (R325). -/
def Dev.wetUa (d : Dev) (n : Nat) (conducts : Bool) : Nat :=
  if d.lioOn n then 1000 * d.fld (LIO_CFG_WET_MA n) else if d.lioCompares n ∧ conducts then 50 else 0

/-- A conversion instant (R318): every 10 µs from the last stage tick, within the alignment of R51, or before the first tick from
the last conversion. -/
def Dev.lioDue (d : Dev) (n : Nat) : Bool :=
  match d.stg.lastTick with
  | some t =>
    let r := (d.domNs - t) % 10000
    (r ≤ 20 || 9980 ≤ r) && (d.lio n).convAt.all (fun c => c + 1000 ≤ d.up)
  | none => (d.lio n).convAt.all (fun c => c + 10000 ≤ d.up)

/-- A run of conversions goes on, from `up` plus 1 at its first one. -/
def runFrom (now start : Nat) (goes : Bool) : Nat := if !goes then 0 else if start = 0 then now + 1 else start

/-- A run of conversions has lasted 1 ms (R319). -/
def ranMs (now start : Nat) : Bool := start != 0 && decide (start + 999999 ≤ now)

/-- The wetting current's fault (R319), of `ua` µA that are delivered. -/
def Dev.wetCheck (d : Dev) (n ua : Nat) (openSwitch : Bool) : Dev :=
  let want := d.wetUa n (!openSwitch)
  let none_ := want = 0
  let wetOk := decide (9 * want ≤ 10 * ua ∧ 10 * ua ≤ 11 * want)
  let exempt := !d.on (LIO_CFG_WET_DIR n) && openSwitch
  let d := d.modLio n fun l =>
    { l with wetBad := runFrom d.up l.wetBad !(none_ || wetOk || exempt), wetGood := runFrom d.up l.wetGood wetOk }
  if ranMs d.up (d.lio n).wetBad ∧ !d.on (LIO_STS_WET_FAULT n) then
    (d.set (LIO_STS_WET_FAULT n)).post 0x52 0x0003 1 (d.fld (LIO_CFG_OWNER n)) n
  else if ranMs d.up (d.lio n).wetGood then d.clr (LIO_STS_WET_FAULT n) else d

/-- A conversion (R318): `mv` is the land's voltage in mV, `ua` the current in µA that flows in the direction of WET_DIR,
`openSwitch` says that the switch is open. -/
def Dev.lioConvert (d : Dev) (n : Nat) (mv : Int) (ua : Nat) (openSwitch : Bool) : Dev :=
  if !d.lioOn n ∨ !d.lioDue n then d
  else
    let d := d.modLio n fun l => { l with convAt := some d.up }
    let above := decide (65532 < mv)
    let code := if above then 0x3FFF else (mv / 4).toNat
    let d := (d.put (LIO_STS_VALUE n) code).put (LIO_STS_SAT n) (b2n above)
    let d := if above then d.lioEvt (LIO_EVT_SAT n) (LIO_INT_EN_SAT n) n else d
    d.wetCheck n ua openSwitch

def execLioConversion (dt n : Nat) (mv : Int) (ua : Nat) (openSwitch : Bool) (s : State) :
    Host.Outcome State Fault Refusal :=
  s.onDev dt (n < 32) (·.lioConvert n mv ua openSwitch)

/-- LIO_LEVEL follows the inputs' levels. -/
def Dev.updLevel (d : Dev) (n : Nat) (high : Bool) : Dev :=
  (d.put (LIO_STS_LEVEL n) (b2n high)).put ⟨LIO_LEVEL, n, n⟩ (b2n high)

/-- An edge enters the FIFO, or is discarded when it is full (R321). -/
def Dev.lioEdge (d : Dev) (n : Nat) (high : Bool) (crossed256 : Nat) : Dev :=
  if !d.lioCompares n ∨ d.on (LIO_STS_LEVEL n) = high then d
  else
    let d := (d.updLevel n high).lioEvt (LIO_EVT_EDGE n) (LIO_INT_EN_EDGE n) n
    let d := d.modLio n fun l => { l with count := (l.count + 1) % 2 ^ 32, lastEdge := some crossed256 }
    if (d.lio n).edges.length < 8 then
      d.modLio n fun l => { l with edges := l.edges ++ [{ time256 := crossed256, falling := !high }] }
    else
      let d := d.modLio n fun l => { l with edgeOvf := incW 8 l.edgeOvf }
      (d.lioEvt (LIO_EVT_EDGE_OVF n) (LIO_INT_EN_EDGE_OVF n) n).postOnce 0x52 0x0001 1 (d.fld (LIO_CFG_OWNER n)) n []

/-- The level that a voltage in µV gives: above THR_HI, below THR_LO, or none between the two (R320). -/
def Dev.lioSide (d : Dev) (n : Nat) (uv : Int) : Option Bool :=
  if ((d.fld (LIO_THR_THR_HI n) * 4000 : Nat) : Int) < uv then some true
  else if uv < ((d.fld (LIO_THR_THR_LO n) * 4000 : Nat) : Int) then some false
  else none

/-- The debounce time in ns (R320). -/
def Dev.lioDeb (d : Dev) (n : Nat) : Nat := if d.fld (LIO_TIM_DEB n) = 0 then 0 else 1000 * 2 ^ d.fld (LIO_TIM_DEB n)

/-- The land's voltage `uv` in µV has stood on its side of the thresholds for `held256` / 256 ns (R320): an edge once that is
the debounce time. The time-stamp is that of the crossing; a time that stands still in PARKED gives its own (R84). Whether
a crossing within 1 µs of the last edge is resolved the spec leaves open (DESIGN CHOICE, assumption 114). -/
def Dev.lioCross (d : Dev) (n : Nat) (uv : Int) (held256 : Nat) : Dev :=
  match d.lioSide n uv with
  | none => d
  | some high =>
    let at256 := if d.tim.mode = .frozen then d.ns256 else d.ns256 - held256
    if held256 < 256 * d.lioDeb n ∨ !d.lioCompares n ∨ d.on (LIO_STS_LEVEL n) = high then d
    else if (d.lio n).lastEdge.any (fun t => at256 < t + 256000 && t ≤ at256) then
      let f := d.fresh 1
      if f.1 = 1 then f.2.lioEdge n high at256 else f.2
    else d.lioEdge n high at256

def execLioEdge (dt n : Nat) (uv : Int) (held256 : Nat) (s : State) : Host.Outcome State Fault Refusal :=
  s.onDev dt (n < 32) (·.lioCross n uv held256)

/-- A read of LIO_EDGE_LO pops the oldest edge and latches HI and INFO (R321). -/
def Dev.lioEdgePop (d : Dev) (n : Nat) : Dev :=
  let l := d.lio n
  match l.edges with
  | [] =>
    let d := (d.wr (LIO_EDGE_LO n) 0).wr (LIO_EDGE_HI n) 0
    (d.wr (LIO_EDGE_INFO n) (l.edgeOvf * 2 ^ 24)).returns 0
  | e :: rest =>
    let d := d.modLio n fun l => { l with edges := rest }
    let t := e.time256 / 256
    let d := (d.wr (LIO_EDGE_LO n) t).wr (LIO_EDGE_HI n) (t / 2 ^ 32)
    let d := d.wr (LIO_EDGE_INFO n)
      (e.time256 % 256 + 256 * b2n e.falling + 512 + 65536 * rest.length + l.edgeOvf * 2 ^ 24)
    d.returns (t % 2 ^ 32)

def execLioEdgePop (dt : Nat) (a : Acc) (n : Nat) (s : State) : Host.Outcome State Fault Refusal :=
  s.onDevM dt (n < 32) fun m d => d.regRead m a (LIO_EDGE_LO n) (·.lioEdgePop n)

/-- The conversion instant of the fast sample `k` of a stage is the present one, it lies before the next tick (R323), and no
sample of the stage with this k or a higher one has been taken. -/
def Dev.fastDue (d : Dev) (n k : Nat) : Bool :=
  let at_ := k * d.fld (LIO_TIM_FAST n) * 10000
  d.stg.lastTick.any (fun t => decide (t + at_ < d.stg.nextTick ∧ t + at_ ≤ d.domNs ∧ d.domNs < t + at_ + 10000) &&
    (d.lio n).fastAt.all (fun x => x.1 != t || decide (x.2 < k)))

/-- A fast sample is taken (R323). -/
def Dev.lioFast (d : Dev) (n k : Nat) : Dev :=
  if !d.lioOn n ∨ d.fld (LIO_TIM_FAST n) = 0 ∨ !d.fastDue n k then d
  else
    let d := d.modLio n fun l => { l with fastAt := some (d.stg.lastTick.getD 0, k) }
    if (d.lio n).fast.length < 32 then
      let v := d.fld (LIO_STS_VALUE n) + 65536 * d.fld (LIO_STS_LEVEL n) + 2 ^ 20 * (k % 1024) + 2 ^ 30 +
        2 ^ 31 * (d.rn STG_NUM % 2)
      let d := d.modLio n fun l => { l with fast := l.fast ++ [v] }
      d.put (LIO_FAST_STS_FILL n) (d.lio n).fast.length
    else
      (((d.bumpF (LIO_FAST_STS_OVF_CNT n)).lioEvt (LIO_EVT_FAST_OVF n) (LIO_INT_EN_FAST_OVF n) n).postOnce
        0x52 0x0002 1 (d.fld (LIO_CFG_OWNER n)) n [])

def execLioFastSample (dt n k : Nat) (s : State) : Host.Outcome State Fault Refusal :=
  s.onDev dt (n < 32) (·.lioFast n k)

/-- A read of LIO_FAST pops the oldest sample (R323). -/
def Dev.lioFastPop (d : Dev) (n : Nat) : Dev :=
  match (d.lio n).fast with
  | [] => (d.wr (LIO_FAST n) 0).returns 0
  | v :: rest =>
    let d := d.modLio n fun l => { l with fast := rest }
    ((d.put (LIO_FAST_STS_FILL n) rest.length).wr (LIO_FAST n) v).returns v

def execLioFastPop (dt : Nat) (a : Acc) (n : Nat) (s : State) : Host.Outcome State Fault Refusal :=
  s.onDevM dt (n < 32) fun m d => d.regRead m a (LIO_FAST n) (·.lioFastPop n)

/-- The input's last edge is time-stamped in the 10 ns cycle of the instant `t` in ns: a snapshot at `t` leaves it to the
next one (R322). -/
def Dev.edgeAt (d : Dev) (n t : Nat) : Bool := (d.lio n).lastEdge.any (fun x => x / 2560 == t / 10)

/-- What the Heavia die latches of an input at the instant `t` in ns (R51, R322). -/
def Dev.latchLio (d : Dev) (n t : Nat) : LioLatch :=
  let l := d.fld (LIO_STS_LEVEL n)
  let c := (d.lio n).count
  let same := d.edgeAt n t
  { reading := d.fld (LIO_STS_VALUE n), level := if same then 1 - l else l, edges := if same then c - 1 else c }

/-- The edge and fast FIFOs are emptied (R456). -/
def Dev.lioEmpty (d : Dev) (n : Nat) : Dev :=
  (d.modLio n fun l => { l with edges := [], fast := [] }).clr (LIO_FAST_STS_FILL n)

end Sys2Proof.Machine
end

