-- ==== Sys2Proof/Machine/Ports.lean ====
section
/-! DEFINITION. The network ports: links, 10BASE-T1S, MACsec selection, CAN and LIN (spec/08, R211–R235). -/

namespace Sys2Proof.Machine

open R

/-! ### Links (R214) and siding states (R240) -/

/-- A record of a port: its owner, its index as instance. -/
def Dev.portPost (d : Dev) (p code sev : Nat) (data : List Nat := []) : Dev := d.post 0x30 code sev (d.portOwner p) p data

/-- A status bit of a port on source 32 + 2p. -/
def Dev.portState (d : Dev) (p : Nat) (f : Fld) : Dev := (d.set f).raiseIf (PORT_INT_EN_STATE p) (32 + 2 * p)

/-- A status bit of a port on source 33 + 2p. -/
def Dev.portEvent (d : Dev) (p : Nat) (f : Fld) : Dev := (d.set f).raiseIf (PORT_INT_EN_ERR p) (33 + 2 * p)

/-- The copies loaded into the transmit buffers of a CAN port go with its queues. -/
def Dev.clearCan (d : Dev) (p : Nat) : Dev := { d with prt := { d.prt with canBuf := terase p d.prt.canBuf } }

/-- The symbol errors of a PHY since the last look at PORT_SYM_ERR: a free value, which the spec does not give. The counter
stands still outside ACTIVE (R239). -/
def Dev.symErr (d : Dev) (p : Nat) : Dev :=
  if d.on (SID_PORT_STS_FROZEN p) then d
  else
    let f := d.fresh 32
    if f.1 = 0 then f.2
    else (f.2.wr (PORT_SYM_ERR p) ((f.2.rn (PORT_SYM_ERR p) + f.1) % 2 ^ 32)).portEvent p (PORT_STS_ERR p)

/-- A frame that began before a change of state may still be under way: the longest takes under 10 s, of a LIN or CAN port at
1,000 b/s. -/
def Dev.frameUnder (d : Dev) (at256 : Nat) : Bool := decide (d.ns256 ≤ at256 + 256 * 10000000000)

/-- A port takes a siding state: 0 = ACTIVE, 1 = IGNORE, 2 = ASLEEP, 3 = WAKING (R239, R240). -/
def Dev.sidEnter (d : Dev) (p st : Nat) : Dev :=
  let d := if d.fld (SID_PORT_STS_STATE p) = 0 ∧ st ≠ 0 then ((d.symErr p).flushPort p .siding).clearCan p else d
  let d : Dev := { d with prt := { d.prt with
    sidWas := (p, d.fld (SID_PORT_STS_STATE p), d.ns256) :: d.prt.sidWas.filter (fun x => x.1 ≠ p ∨ d.frameUnder x.2.2) } }
  let d := ((d.put (SID_PORT_STS_STATE p) st).put (SID_PORT_STS_FROZEN p) (b2n (st != 0))).set (SID_PORT_STS_CHG p)
  (d.raiseIf SID_INT_EN_PORT 209).post 0x31 0x000C 0 9 p [st]

/-- LINK changes (R214): its bits, its record, the flush of a port that goes down (R186), and the state that a
port in WAKING enters (R240). -/
def Dev.linkSet (d : Dev) (p : Nat) (up : Bool) : Dev :=
  if d.on (PORT_STS_LINK p) = up then d
  else
    let d := (d.put (PORT_STS_LINK p) (b2n up)).portState p (PORT_STS_LINK_CHG p)
    if up then
      let d := d.portPost p 0x0001 0
      let d := if d.boot.phase ≠ .sealed then d
        else if p < 12 then d.set ⟨SYS_READY_PORTS_LO, 20 + p, 20 + p⟩
        else if p < 16 then d.set ⟨SYS_READY_PORTS_HI, p - 12, p - 12⟩ else d
      if d.fld (SID_PORT_STS_STATE p) = 3 then d.sidEnter p (tget 0 d.sid.want p) else d
    else
      let d := (d.bump (PORT_LINKDN_CNT p)).portPost p 0x0002 0
      let d := (d.flushPort p .down).clearCan p
      let d : Dev := { d with prt := { d.prt with linNow := terase p d.prt.linNow } }
      d.put (FAB_PORT_CFG_RATE p) 0

/-- The rate code of a port's kind, for the ports of one rate. -/
def fixedRate (p : Nat) : Nat := if p < 6 then 3 else if p < 14 then 2 else if p < 16 then 1 else 8

/-- The rate code that a T10 port trains at first: PORT_PHY_CFG.MAX_RATE, at most 2.5 Gb/s under a crank limit and, with
UPSHIFT = 0, after one (R215, R216). -/
def Dev.maxRate (d : Dev) (p : Nat) : Nat :=
  if d.on (PORT_STS_CRANK_LIMIT p) || d.prt.crankHeld.contains p then 4 else 6 - d.fld (PORT_PHY_CFG_MAX_RATE p)

/-- The PHY of a T10 port trains at a rate. -/
def Dev.train (d : Dev) (p rate : Nat) : Dev :=
  { (d.put (PORT_PHY_STS_TRAIN p) 1) with prt := { d.prt with
    tryRate := tset 0 rate p d.prt.tryRate, fails := terase p d.prt.fails } }

/-- A port may come up: enabled, not asleep, and its transceiver not in standby. The boot ROM runs T100-0 in service boot
(R424). -/
def Dev.portOn (d : Dev) (p : Nat) : Bool :=
  (d.portUsed p || (p == 6 && d.inService)) && d.fld (SID_PORT_STS_STATE p) != 2 && tget 0 d.sid.standby p == 0

/-- The rate a link comes up at (R215): a T10 port at the rate in training or, under Clause 98, at most at it. -/
def Dev.upRate (d : Dev) (p rate : Nat) : Nat :=
  if 2 ≤ p then fixedRate p
  else
    let cap := tget (d.maxRate p) d.prt.tryRate p
    if d.fld (PORT_PHY_CFG_MS p) = 2 then max 4 (min rate cap) else cap

/-- The role that a PHY takes (R211): forced by MS, resolved by the negotiation of Clause 98, none on a T1S port. -/
def Dev.isMaster (d : Dev) (p : Nat) (negotiated : Bool) : Bool :=
  p < 14 && (match d.fld (PORT_PHY_CFG_MS p) with
    | 0 => false
    | 1 => true
    | _ => negotiated)

/-- A link comes up (R214, R215): `rate` is the highest T10 rate that both partners advertise, `master` the role that Clause
98 resolves. A CAN controller is then integrated, a LIN transceiver powered with UV = 0. DESIGN CHOICE: a change of the rate
in use is one from the last rate that the link had; the 0 of FAB_PORTp_CFG.RATE while it is down counts as none
(assumption 130). -/
def Dev.linkUp (d : Dev) (p rate sqi : Nat) (master : Bool) : Dev :=
  if !d.portOn p ∨ d.on (PORT_STS_LINK p) then d
  else if 16 ≤ p ∧ p < 28 ∧ d.fld (PORT_CAN_STS_STATE p) = 3 then d
  else if 28 ≤ p ∧ d.on (PORT_TRX_STS_UV p) then d
  else
    let r := d.upRate p rate
    let d := d.put (FAB_PORT_CFG_RATE p) r
    let d := if p < 16 then (d.put (PORT_PHY_STS_TRAIN p) 2).put (PORT_PHY_STS_MASTER p) (b2n (d.isMaster p master)) else d
    let d := if p < 14 then d.put (PORT_PHY_STS_SQI p) sqi else d
    let d := if 16 ≤ p ∧ p < 28 ∧ d.fld (PORT_CAN_STS_STATE p) = 0 then
        (d.put (PORT_CAN_STS_STATE p) 1).portState p (PORT_STS_CAN_STATE_CHG p) else d
    let old := tget 0 d.prt.lastRate p
    let d := if p < 2 ∧ old ≠ 0 ∧ old ≠ r then (d.portState p (PORT_STS_RATE_CHG p)).portPost p 0x0003 0 else d
    let d : Dev := { d with prt := { d.prt with
      lastRate := tset 0 r p d.prt.lastRate, fails := terase p d.prt.fails } }
    d.linkSet p true

def execLinkUp (dt p rate sqi : Nat) (master : Bool) (s : State) : Host.Outcome State Fault Refusal :=
  s.onDev dt (p < 36) (·.linkUp p rate sqi master)

/-- A link goes down; an Ethernet PHY trains again (R214), a T10 port from the first rate (R215). -/
def execLinkDown (dt p : Nat) (s : State) : Host.Outcome State Fault Refusal :=
  s.onDev dt (p < 36) fun d =>
    if !d.on (PORT_STS_LINK p) then d
    else
      let d := d.linkSet p false
      if p < 16 then d.train p (if p < 2 then d.maxRate p else 0) else d

/-- A T10 training attempt fails; after three in a row at a rate the next lower one is tried (R215). -/
def execTrainingFailure (dt p : Nat) (s : State) : Host.Outcome State Fault Refusal :=
  s.onDev dt (p < 2) fun d =>
    if d.on (PORT_STS_LINK p) ∨ !d.portOn p then d
    else
      let r := tget (d.maxRate p) d.prt.tryRate p
      let n := tget 0 d.prt.fails p + 1
      if d.on (PORT_PHY_CFG_FALLBACK p) ∧ 3 ≤ n then d.train p (if 4 < r then r - 1 else 4)
      else
        { (d.put (PORT_PHY_STS_TRAIN p) 1) with prt := { d.prt with fails := tset 0 n p d.prt.fails } }

/-- VBAT_L enters crank mode: T10 ports above 2.5 Gb/s drop and retrain at 2.5 Gb/s (R216). -/
def Dev.crankEnter (d : Dev) : Dev :=
  d.each [0, 1] (fun p d =>
    if d.on (PORT_STS_LINK p) ∧ 4 < d.fld (FAB_PORT_CFG_RATE p) then
      (((d.linkSet p false).train p 4).set (PORT_STS_CRANK_LIMIT p)).portPost p 0x0004 0
    else d)

/-- VBAT_L has stayed at or above 9.5 V for 1 s (R216). -/
def execCrankLimitExit (dt : Nat) (s : State) : Host.Outcome State Fault Refusal :=
  s.onDev dt true fun d =>
    if d.fld HPS_SUP_STS_RANGE = 1 ∨ d.fld HPS_SUP_STS_RANGE = 2 then d
    else d.each [0, 1] (fun p d =>
      if !d.on (PORT_STS_CRANK_LIMIT p) then d
      else
        let d := d.clr (PORT_STS_CRANK_LIMIT p)
        if !d.portOn p then d
        else if d.on (PORT_PHY_CFG_UPSHIFT p) then (d.linkSet p false).train p (d.maxRate p)
        else { d with prt := { d.prt with crankHeld := insertNat p d.prt.crankHeld } })

/-! ### PORT_CTL (R217, R228) -/

/-- LINK_RESTART (R216, R217). -/
def Dev.linkRestart (d : Dev) (p : Nat) : Dev :=
  let d : Dev := { d with prt := { d.prt with crankHeld := d.prt.crankHeld.filter (· ≠ p) } }
  (d.linkSet p false).train p (if p < 2 then d.maxRate p else 0)

/-- A write to PORT_CTL. A cable test asks that the link is down at the write, and a PHY that is not held off or asleep
(R217, R218). -/
def Dev.portCtl (d : Dev) (p v : Nat) : Dev :=
  let up := d.on (PORT_STS_LINK p)
  let d := if bit 0 v ∧ p < 16 ∧ d.portOn p then d.linkRestart p else d
  let d := if bit 1 v ∧ 16 ≤ p ∧ p < 28 ∧ d.fld (PORT_CAN_STS_STATE p) = 3 then
      { d with prt := { d.prt with recovering := insertNat p d.prt.recovering } } else d
  if bit 2 v ∧ p < 16 ∧ !up ∧ d.portOn p then d.put (PORT_PHY_STS_TRAIN p) 4 else d

def execLinkRestart (dt : Nat) (a : Acc) (p v : Nat) (s : State) : Host.Outcome State Fault Refusal :=
  s.onDevM dt (p < 36) fun m d => d.regWrite m a (PORT_CTL p) (·.portCtl p v)

def execCanRecover (dt : Nat) (a : Acc) (p v : Nat) (s : State) : Host.Outcome State Fault Refusal :=
  s.onDevM dt (p < 36) fun m d => d.regWrite m a (PORT_CTL p) (·.portCtl p v)

def execCableTest (dt : Nat) (a : Acc) (p v : Nat) (s : State) : Host.Outcome State Fault Refusal :=
  s.onDevM dt (p < 36) fun m d => d.regWrite m a (PORT_CTL p) (·.portCtl p v)

/-- The cable test ends; the PHY trains again (R217). -/
def execCableTestDone (dt p cable dist : Nat) (s : State) : Host.Outcome State Fault Refusal :=
  s.onDev dt (p < 16) fun d =>
    if d.fld (PORT_PHY_STS_TRAIN p) ≠ 4 then d
    else ((d.put (PORT_PHY_STS_CABLE p) cable).put (PORT_PHY_STS_CABLE_DIST p) dist).put (PORT_PHY_STS_TRAIN p) 1

/-! ### PLCA (R219) -/

/-- A follower sees no BEACON for four PLCA cycles. -/
def execPlcaBeaconLoss (dt p : Nat) (s : State) : Host.Outcome State Fault Refusal :=
  s.onDev dt (p == 14 || p == 15) fun d =>
    if d.on (PORT_PLCA_CFG_EN p) ∧ d.fld (PORT_PLCA_CFG_NODE_ID p) ≠ 0 ∧ d.on (PORT_PLCA_STS_STATUS p) then
      (((d.clr (PORT_PLCA_STS_STATUS p)).bumpF (PORT_PLCA_STS_BEACON_LOSS p)).portState p
        (PORT_STS_PLCA_CHG p)).portPost p 0x000B 1
    else d

/-- A follower receives BEACONs. -/
def execPlcaBeaconReturn (dt p : Nat) (s : State) : Host.Outcome State Fault Refusal :=
  s.onDev dt (p == 14 || p == 15) fun d =>
    if d.on (PORT_PLCA_CFG_EN p) ∧ d.fld (PORT_PLCA_CFG_NODE_ID p) ≠ 0 ∧ d.portOn p then d.set (PORT_PLCA_STS_STATUS p)
    else d

/-! ### MACsec (R223) -/

/-- The transmit AN: frames take it as they start, so a write takes effect at the next frame boundary. -/
def execMsecTxsaSwitch (dt : Nat) (a : Acc) (p v : Nat) (s : State) : Host.Outcome State Fault Refusal :=
  s.onDevM dt (p < 6) fun m d => d.regWrite m a (PORT_MSEC_TXSA p) (·.put (PORT_MSEC_TXSA_AN p) v)

/-! ### CAN (R225–R228) -/

/-- The bit time in minimum time quanta of 12.5 ns, from BRP, TSEG1 and TSEG2 as the fields hold them (R225). -/
def bitTime (brp t1 t2 : Nat) : Nat := (brp + 1) * (3 + t1 + t2)

/-- A change of the fault confinement state: 1 = error-active, 2 = error-passive, 3 = bus-off (R228). -/
def Dev.canState (d : Dev) (p st : Nat) : Dev :=
  if d.fld (PORT_CAN_STS_STATE p) = st then d
  else
    let d := (d.put (PORT_CAN_STS_STATE p) st).portState p (PORT_STS_CAN_STATE_CHG p)
    match st with
    | 1 => d.portPost p 0x0007 0
    | 2 => d.portPost p 0x0005 0
    | _ =>
      let d := (d.portPost p 0x0006 1).linkSet p false
      if d.on (PORT_CAN_CFG_AUTO_RECOVER p) then
        { d with prt := { d.prt with recovering := insertNat p d.prt.recovering } } else d

/-- The state follows REC and TEC (R228, ISO 11898-1). -/
def Dev.canConfine (d : Dev) (p tec : Nat) : Dev :=
  let st := d.fld (PORT_CAN_STS_STATE p)
  let d := d.put (PORT_CAN_STS_TEC p) (min tec 511)
  if st = 0 ∨ st = 3 then d
  else if 256 ≤ tec then d.canState p 3
  else if 128 ≤ tec ∨ 128 ≤ d.fld (PORT_CAN_STS_REC p) then d.canState p 2
  else d.canState p 1

/-- REC and TEC stand still outside ACTIVE (R239). -/
def Dev.canFrozen (d : Dev) (p : Nat) : Bool := d.on (SID_PORT_STS_FROZEN p)

/-- The controller is configured for a carriage's format (R226). -/
def Dev.canFormat (d : Dev) (p : Nat) (car : List Nat) : Bool :=
  match carKind car with
  | 1 => true
  | 2 => d.on (PORT_CAN_CFG_FD_EN p)
  | 3 => d.on (PORT_CAN_CFG_XL_EN p)
  | _ => false

/-- A carriage enters the fabric from its port, is looked up and is never bad (R134, R136). -/
def Dev.injectCarriage (d : Dev) (p ts256 : Nat) (car : List Nat) : Dev :=
  let id := d.fab.next
  let f := d.newFrame p p 1 (d.portOwner p) ts256 car
  let d := (d.enter f).lookup id { f with id := id }
  match d.frame id with
  | some x => d.tailCheck x false 0 none
  | none => d

/-- A CAN controller has received a frame without error (R226, R237–R239). `ts256` is its SOF. -/
def Dev.canReceive (d : Dev) (p ts256 : Nat) (car : List Nat) : Dev :=
  let st := d.sidAt p ts256
  if !d.on (PORT_STS_LINK p) ∨ d.portOwner p = 15 ∨ 2 ≤ st ∨ 2 ≤ d.fld (SID_PORT_STS_STATE p) then d
  else if !d.canFormat p car then (d.bump (PORT_FMT_CNT p)).portEvent p (PORT_STS_ERR p)
  else
    let d := d.countRx p (carDlen car)
    if st = 1 then d.bump (SID_PORT_IGN_CNT p)
    else
      let rec_ := d.fld (PORT_CAN_STS_REC p)
      let r := if 127 < rec_ then
          (let x := d.fresh 4; (119 + x.1 % 9, x.2)) else (rec_ - 1, d)
      -- a frame that began in ACTIVE may end in IGNORE, where REC and TEC stand still (R239)
      let d := if d.canFrozen p then d else (r.2.put (PORT_CAN_STS_REC p) r.1).canConfine p (r.2.fld (PORT_CAN_STS_TEC p))
      d.injectCarriage p ts256 car

def execCanFrameReceived (dt p ts256 : Nat) (car : List Nat) (s : State) : Host.Outcome State Fault Refusal :=
  s.onDev dt (16 ≤ p && p < 28) (·.canReceive p ts256 car)

/-- A CAN controller meets an error (LEC) while receiving, or with LEC 0 a protocol exception (R226, R228). `by8`:
the receive error counter rises by 8, as ISO 11898-1 has it for a bit after the error flag. -/
def execCanReceiveError (dt p lec : Nat) (by8 : Bool) (s : State) : Host.Outcome State Fault Refusal :=
  s.onDev dt (16 ≤ p && p < 28 && lec < 7) fun d =>
    if !d.on (PORT_STS_LINK p) then d
    else if lec = 0 then (d.bump (PORT_FMT_CNT p)).portEvent p (PORT_STS_ERR p)
    else
      let d := d.put (PORT_CAN_STS_LEC p) lec
      if d.canFrozen p then d
      else
        let d := d.portErr p (PORT_RX_ERR p)
        let n := d.fld (PORT_CAN_STS_REC p) + (if by8 then 8 else 1)
        (d.put (PORT_CAN_STS_REC p) (min n 255)).canConfine p (d.fld (PORT_CAN_STS_TEC p))

def Dev.canBufs (d : Dev) (p : Nat) : List CanBuf := tget [] d.prt.canBuf p

/-- The first ready copy of a class at a bus port, when its gate is open (R185). -/
def Dev.busHead (d : Dev) (p k : Nat) : Option (Frame × Copy) :=
  if d.fabDown then none
  else match (d.copiesAt p k).find? (fun x => d.copyReady x.1 x.2) with
    | none => none
    | some (f, c) => if d.gateOpen p k then some (f, c) else none

/-- A copy starts at a bus port: its flags, its place on the wire, its sampler (R189, R196). DESIGN CHOICE: a CAN copy counts
at a POINT 1 sampler when it is loaded into a transmit buffer, where R227 calls it started (assumption 131). -/
def Dev.startBus (d : Dev) (f : Frame) (c : Copy) : Dev :=
  let p := c.port
  let key := flowKey f.src p c.cls
  let gapped := d.fab.gapNext.contains key
  let fl := c.flags ||| (if gapped then 256 else 0)
  let d : Dev := { d with fab := { d.fab with
    gapNext := d.fab.gapNext.filter (· ≠ key),
    wire := tput p { bytes := f.bytes, body := f.bytes, an := none, stomped := false } (terase p d.fab.wire) } }
  let d := d.modCopy f.id p (fun c => { c with sending := true, flags := fl })
  d.sample p c.cls 1 (some p) f.id f.bytes { f.wb with flags := f.wb.flags ||| fl }

/-- The bits of a CAN frame under full stuffing, with the intermission after it, by the rate they are sent at: nominal bits
and bits at the data rate of the format. PRESUMED: the fields of ISO 11898-1:2024, which the spec cites and does not repeat
(assumption 25). -/
def canBits (car : List Nat) : Nat × Nat :=
  let ide := bit 8 (carW car 0)
  let n := 8 * carDlen car
  match carKind car with
  | 2 =>
    let arb := if ide then 36 else 17
    let crc := if carDlen car ≤ 16 then 27 else 32
    let arbStuff := (arb - 1) / 4
    let fast := 5 + n + ((arb + 5 + n - 1) / 4 - arbStuff) + crc + 1
    if bit 10 (carW car 0) then (arb + arbStuff + 12, fast) else (arb + arbStuff + 12 + fast, 0)
  | 3 =>
    let data := 76 + n + 32
    (18 + 4 + 4 + 12, 3 + data + data / 10 + 4)
  | _ =>
    let body := (if ide then 54 else 34) + n
    (body + (body - 1) / 4 + 13, 0)

/-- A frame's worst-case duration in ns at the configured rates of its format (R225, R227). -/
def Dev.canDur (d : Dev) (p : Nat) (car : List Nat) : Nat :=
  let b := canBits car
  let nom := bitTime (d.fld (PORT_CAN_NBT_BRP p)) (d.fld (PORT_CAN_NBT_TSEG1 p)) (d.fld (PORT_CAN_NBT_TSEG2 p))
  let data := match carKind car with
    | 2 => bitTime (d.fld (PORT_CAN_DBT_BRP p)) (d.fld (PORT_CAN_DBT_TSEG1 p)) (d.fld (PORT_CAN_DBT_TSEG2 p))
    | 3 => bitTime (d.fld (PORT_CAN_XBT_BRP p)) (d.fld (PORT_CAN_XBT_TSEG1 p)) (d.fld (PORT_CAN_XBT_TSEG2 p))
    | _ => nom
  ((b.1 * nom + b.2 * data) * 25 + 1) / 2

/-- A free transmit buffer is filled from the egress queues (R227). -/
def execCanTxBufferLoad (dt p : Nat) (s : State) : Host.Outcome State Fault Refusal :=
  s.onDev dt (16 ≤ p && p < 28) fun d =>
    let bufs := d.canBufs p
    let sum (f : Frame) : Nat := (bufs.map (·.dur)).sum + d.canDur p f.bytes
    if !d.on (PORT_STS_LINK p) ∨ d.fld (SID_PORT_STS_STATE p) ≠ 0 ∨ d.sid.acting.contains p ∨ 4 ≤ bufs.length then d
    else
      let fits (k : Nat) (f : Frame) : Bool := match d.nextClose p k with
        | none => true
        | some t => sum f ≤ t
      match [7, 6, 5, 4, 3, 2, 1, 0].findSome? (fun k => (d.busHead p k).filter (fun x => fits k x.1)) with
      | none => d
      | some (f, c) =>
        let d := d.startBus f c
        { d with prt := { d.prt with
          canBuf := tset [] (bufs ++ [{ frame := f.id, dur := d.canDur p f.bytes, attempts := 0 }]) p d.prt.canBuf } }

/-- The order of arbitration of a carriage: its base identifier, then the IDE bit, then the rest (R227). -/
def arbKey (car : List Nat) : Nat :=
  let id := carId car
  if bit 8 (carW car 0) then id / 2 ^ 18 * 2 ^ 19 + 2 ^ 18 + id % 2 ^ 18 else id % 2 ^ 11 * 2 ^ 19

/-- The buffered frame that competes first. -/
def Dev.canFront (d : Dev) (p : Nat) : Option (CanBuf × Frame) :=
  ((d.canBufs p).filterMap (fun b => (d.frame b.frame).map (fun f => (b, f)))).foldl (fun best x =>
    match best with
    | none => some x
    | some y => if arbKey x.2.bytes < arbKey y.2.bytes then some x else some y) none

def Dev.dropBuf (d : Dev) (p : Nat) (b : CanBuf) : Dev :=
  { d with prt := { d.prt with canBuf := tset [] ((d.canBufs p).erase b) p d.prt.canBuf } }

/-- The copy of a frame at a port has been found bad (R156). -/
def Dev.copyBad (d : Dev) (id p : Nat) : Bool := (((d.frame id).bind (·.copy p)).map (·.bad)).getD false

/-- A failed attempt: retried, or removed at RETX_LIMIT (R227). A sample of it is bad where the copy is (R199). -/
def Dev.canRetry (d : Dev) (p : Nat) (b : CanBuf) : Dev :=
  let n := b.attempts + 1
  let lim := d.fld (PORT_CAN_CFG_RETX_LIMIT p)
  if lim ≠ 0 ∧ lim ≤ n then
    let d := (((d.dropBuf p b).bump (PORT_TX_ABORT_CNT p)).portEvent p (PORT_STS_ERR p)).portPost p 0x000E 0
    (d.sampleTail b.frame (some p) (d.copyBad b.frame p)).resolve b.frame p false
  else
    { d with prt := { d.prt with
      canBuf := tset [] ((d.canBufs p).map (fun x => if x = b then { x with attempts := n } else x)) p d.prt.canBuf } }

/-- A CAN transmission ends (R227, R228). -/
def execCanTxAttemptEnd (dt p : Nat) (how : CanEnd) (s : State) : Host.Outcome State Fault Refusal :=
  s.onDev dt (16 ≤ p && p < 28) fun d =>
    if !d.on (PORT_STS_LINK p) ∨ d.fld (SID_PORT_STS_STATE p) ≠ 0 then d
    else match d.canFront p with
      | none => d
      | some (b, f) =>
        let tec := d.fld (PORT_CAN_STS_TEC p)
        match how with
        | .ok =>
          let d := (d.dropBuf p b).countTx p (carDlen f.bytes) f.wb.len
          let d := if d.canFrozen p then d else d.canConfine p (tec - 1)
          let d := d.tallyP p 0x41 f.cells
          let bad := d.copyBad f.id p
          (d.sampleTail f.id (some p) bad).resolve f.id p (!bad)
        | .lostArbitration => d.canRetry p b
        | .error lec =>
          let d := (d.put (PORT_CAN_STS_LEC p) lec).canRetry p b
          if d.canFrozen p ∨ (lec = 3 ∧ d.fld (PORT_CAN_STS_STATE p) = 2) then d else d.canConfine p (tec + 8)

/-- The bus-off recovery is complete (R228); counters that are frozen keep their values (R239). -/
def execBusOffRecoveryDone (dt p : Nat) (s : State) : Host.Outcome State Fault Refusal :=
  s.onDev dt (16 ≤ p && p < 28) fun d =>
    if d.fld (PORT_CAN_STS_STATE p) ≠ 3 ∨ !d.prt.recovering.contains p then d
    else
      let d : Dev := { d with prt := { d.prt with recovering := d.prt.recovering.filter (· ≠ p) } }
      let d := if d.canFrozen p then d else (d.put (PORT_CAN_STS_REC p) 0).put (PORT_CAN_STS_TEC p) 0
      let d := d.canState p 1
      if d.portOn p then (d.put (FAB_PORT_CFG_RATE p) 8).linkSet p true else d

/-- A transceiver fault: 0 = dominant timeout, 1 = short to battery, 2 = short to ground, 3 = thermal shutdown
(R229); of a port that is in use and out of reset. -/
def execTransceiverFault (dt p k : Nat) (s : State) : Host.Outcome State Fault Refusal :=
  s.onDev dt (16 ≤ p && p < 36 && k < 4) fun d =>
    if !d.frm.beyvoUp ∨ !d.portUsed p then d else
    let d := (d.set ⟨PORT_TRX_STS p, k, k⟩).portEvent p (PORT_STS_TRX_FAULT p)
    let d := d.portPost p 0x0008 1 [2 ^ k]
    if k = 0 ∨ k = 3 then d.linkSet p false else d

/-! ### LIN (R230–R235) -/

def Dev.linPub (d : Dev) (p i : Nat) : Option LinPub := (d.prt.linPub.find? (fun x => x.1 == 64 * p + i)).map (·.2)

def Dev.setLinPub (d : Dev) (p i : Nat) (b : LinPub) : Dev :=
  { d with prt := { d.prt with linPub := tput (64 * p + i) b (terase (64 * p + i) d.prt.linPub) } }

/-- A W1C bit of PORT_LIN_STS sets (PORT_STS.LIN_EVT). -/
def Dev.linEvent (d : Dev) (p : Nat) (f : Fld) : Dev := (d.set f).portEvent p (PORT_STS_LIN_EVT p)

/-- A response error: its bit and PORT_RX_ERR (R235). -/
def Dev.linError (d : Dev) (p : Nat) (f : Fld) : Dev := (d.linEvent p f).portErr p (PORT_RX_ERR p)

/-- A LIN carriage replaces the publish buffer of its identifier, or is discarded (R232). -/
def execLinCarriageEgress (dt p : Nat) (s : State) : Host.Outcome State Fault Refusal :=
  s.onDev dt (28 ≤ p && p < 36) fun d =>
    match [7, 6, 5, 4, 3, 2, 1, 0].findSome? (d.busHead p) with
    | none => d
    | some (f, c) =>
      let i := carId f.bytes % 64
      if d.fld (PORT_LIN_ID_DIR p i) ≠ 1 ∨ carDlen f.bytes ≠ d.fld (PORT_LIN_ID_LEN p i) then
        ((d.bump (PORT_TX_ABORT_CNT p)).portEvent p (PORT_STS_ERR p)).resolve f.id p false
      else
        let d := (d.startBus f c).setLinPub p i { data := (f.bytes.drop 16).take (carDlen f.bytes), fresh := true }
        let d := (d.countTx p (carDlen f.bytes) f.wb.len).tallyP p 0x41 f.cells
        (d.sampleTail f.id (some p) false).resolve f.id p true

/-- The protected identifier of an identifier: parity bits P0 and P1 of ISO 17987-3. -/
def linPid (i : Nat) : Nat :=
  let b (k : Nat) : Nat := b2n (bit k i)
  i % 64 + 64 * ((b 0 + b 1 + b 2 + b 4) % 2) + 128 * ((b 1 + b 3 + b 4 + b 5 + 1) % 2)

/-- The classic or enhanced checksum of ISO 17987-3: the inverted sum with carry, over the PID too when enhanced. -/
def linSum (l : List Nat) : Nat := 255 - l.foldl (fun a x => (a + x) % 256 + (a + x) / 256) 0

/-- Identifiers 0x3C and 0x3D always use the classic checksum. -/
def Dev.linEnhanced (d : Dev) (p i : Nat) : Bool := d.on (PORT_LIN_ID_ENHANCED p i) && i != 0x3C && i != 0x3D

/-- A LIN frame stands on the bus. -/
def Dev.linStart (d : Dev) (p : Nat) (n : LinNow) : Dev :=
  { d with prt := { d.prt with linNow := tput p n (terase p d.prt.linNow) } }

def Dev.linBusy (d : Dev) (p : Nat) : Option LinNow := (d.prt.linNow.find? (fun x => x.1 == p)).map (·.2)

def Dev.linEnd (d : Dev) (p : Nat) : Dev := { d with prt := { d.prt with linNow := terase p d.prt.linNow } }

/-- This port sends the response for an identifier: DIR = 1 and a carriage has come since seal (R231, R232). -/
def Dev.linPublishes (d : Dev) (p i : Nat) : Bool := d.fld (PORT_LIN_ID_DIR p i) == 1 && (d.linPub p i).isSome

/-- The bytes of the publish buffer of an identifier. -/
def Dev.linBytes (d : Dev) (p i : Nat) : List Nat := ((d.linPub p i).map (·.data)).getD []

/-- The publish buffer has been sent. -/
def Dev.linSent (d : Dev) (p i : Nat) : Dev :=
  match d.linPub p i with
  | some b => d.setLinPub p i { b with fresh := false }
  | none => d

/-- A LIN carriage of a received response (R134, R231, R235). -/
def linCarriage (i chk : Nat) (enh noResp : Bool) (data : List Nat) : List Nat :=
  leBytes 4 (0x10 + 256 * b2n noResp + 512 * b2n enh + 65536 * data.length) ++ leBytes 4 i ++ leBytes 4 0 ++
    leBytes 4 (linPid i + 256 * chk) ++ data

/-- A LIN response ends (R231, R234, R235), in the siding state that its frame began in (R240). -/
def Dev.linResponse (d : Dev) (p : Nat) (how : LinEnd) : Dev :=
  match (if d.on (PORT_STS_LINK p) then d.linBusy p else none) with
  | none => d
  | some n =>
    let d := d.linEnd p
    let active : Bool := n.st == 0
    let sub : Bool := d.fld (PORT_LIN_ID_DIR p n.id) == 2
    let enh := d.linEnhanced p n.id
    match how with
    | .sent => d
    | .missing =>
      if !sub then d
      else
        let d := d.linError p (PORT_LIN_STS_NO_RESP p)
        if d.on (PORT_LIN_ID_REPORT_NO_RESP p n.id) ∧ active then
          d.injectCarriage p n.ts256 (linCarriage n.id 0 enh true []) else d
    | .received data chk =>
      if !sub then d
      else
        let good : Bool := data.length == d.fld (PORT_LIN_ID_LEN p n.id) &&
          chk == linSum ((if enh then [linPid n.id] else []) ++ data)
        if good then
          let d := d.countRx p data.length
          if active then d.injectCarriage p n.ts256 (linCarriage n.id chk enh false data)
          else d.bump (SID_PORT_IGN_CNT p)
        else if n.type = 2 then d.linEvent p (PORT_LIN_STS_COLLISION p)
        else d.linError p (PORT_LIN_STS_CHK_ERR p)

def execLinResponseReceived (dt p : Nat) (how : LinEnd) (s : State) : Host.Outcome State Fault Refusal :=
  s.onDev dt (28 ≤ p && p < 36) (·.linResponse p how)

/-- A responder receives a header (R230, R231, R235, R237). -/
def execLinHeaderReceived (dt p ts256 : Nat) (syncOk : Bool) (pid : Nat) (s : State) :
    Host.Outcome State Fault Refusal :=
  s.onDev dt (28 ≤ p && p < 36) fun d =>
    if d.on (PORT_LIN_CFG_ROLE p) ∨ !d.on (PORT_STS_LINK p) then d
    else if !syncOk then d.linError p (PORT_LIN_STS_SYNC_ERR p)
    else if linPid (pid % 64) ≠ pid % 256 then d.linError p (PORT_LIN_STS_PID_ERR p)
    else
      let i := pid % 64
      let pub := d.linPublishes p i && d.fld (SID_PORT_STS_STATE p) == 0
      let d := d.linStart p
        { id := i, type := 0, ts256 := ts256, pub := pub, gts := false, resp := if pub then d.linBytes p i else [],
          st := d.fld (SID_PORT_STS_STATE p) }
      if pub then d.linSent p i else d

/-- An entry of the schedule table in use: ID, TYPE and SLOT (R233). -/
def Dev.linEntry (d : Dev) (p e : Nat) : Nat × Nat × Nat :=
  let w := d.rn (if d.on (PORT_LIN_SCHED_CUR p) then PORT_LIN_SB p e else PORT_LIN_SA p e)
  (bits 5 0 w, bits 7 6 w, bits 23 8 w)

/-- A sporadic entry whose publish buffer has not been replaced stays silent (R234). -/
def Dev.linSilent (d : Dev) (p : Nat) (e : Nat × Nat × Nat) : Bool :=
  e.2.1 == 3 && !((d.linPub p e.1).map (·.fresh)).getD false

/-- The commander may send headers: its link is up and its port ACTIVE (R214, R237). -/
def Dev.linTalks (d : Dev) (p : Nat) : Bool := d.on (PORT_STS_LINK p) && d.fld (SID_PORT_STS_STATE p) == 0

/-- The header of the current entry is sent, stays silent, or is deferred (R234). -/
def Dev.linHeader (d : Dev) (p : Nat) : Dev :=
  let e := d.linEntry p (d.fld (PORT_LIN_STS_ENTRY p))
  if d.linTalks p ∧ (d.linBusy p).isSome ∧ !d.linSilent p e then
    let d := (d.linEvent p (PORT_LIN_STS_HDR_LATE p)).bump (PORT_FMT_CNT p)
    let d := (d.portEvent p (PORT_STS_ERR p)).portPost p 0x000C 0
    { d with prt := { d.prt with linDue := insertNat p d.prt.linDue } }
  else
    let d : Dev := { d with prt := { d.prt with linDue := d.prt.linDue.filter (· ≠ p) } }
    if !d.linTalks p ∨ d.linSilent p e then d
    else
      let pub := d.linPublishes p e.1
      let d := d.linStart p { id := e.1, type := e.2.1, ts256 := d.ns256, pub := pub, gts := false,
                              resp := if pub then d.linBytes p e.1 else [] }
      if pub then d.linSent p e.1 else d

/-- The commander moves to an entry, loads its SLOT and sends its header (R233); an empty table has no entry to run. -/
def Dev.linLoad (d : Dev) (p e : Nat) : Dev :=
  let x := d.linEntry p e
  let d := d.put (PORT_LIN_STS_ENTRY p) e
  if x.2.1 = 0 then { d with prt := { d.prt with linLeft := terase p d.prt.linLeft } }
  else ({ d with prt := { d.prt with linLeft := tset 0 (x.2.2 + 1) p d.prt.linLeft } } : Dev).linHeader p

/-- The go-to-sleep response (R243). -/
def linGts : List Nat := 0 :: List.replicate 7 255

/-- The commander changes to the other schedule table (R235). -/
def Dev.linSwitch (d : Dev) (p : Nat) : Dev :=
  ((d.clr (PORT_LIN_SCHED_PENDING p)).put (PORT_LIN_SCHED_CUR p) (1 - d.fld (PORT_LIN_SCHED_CUR p))).linLoad p 0

/-- A LIN work item of a commander (R233–R235, R243). The slot counts fall while RUN = 1, whether or not headers may be
sent. A deferral keeps the entry, whose slot count goes on falling (assumption 71). -/
def Dev.linSlot (d : Dev) (p : Nat) : Dev :=
  if !d.on (PORT_LIN_CFG_ROLE p) then d
  else if d.sid.acting.contains p then
    (if (d.linBusy p).isSome ∨ !d.on (PORT_STS_LINK p) then d
     else d.linStart p { id := 0x3C, type := 1, ts256 := d.ns256, pub := true, gts := true, resp := linGts,
                          st := d.fld (SID_PORT_STS_STATE p) })
  else if !d.on (PORT_LIN_SCHED_RUN p) then d
  else
    match tget 0 d.prt.linLeft p with
    | 0 => if d.on (PORT_LIN_SCHED_PENDING p) ∧ (d.linEntry p 0).2.1 = 0 then d.linSwitch p else d.linLoad p 0
    | n + 1 =>
      if d.prt.linDue.contains p then
        ({ d with prt := { d.prt with linLeft := tset 0 (max n 1) p d.prt.linLeft } } : Dev).linHeader p
      else if 1 < n then { d with prt := { d.prt with linLeft := tset 0 n p d.prt.linLeft } }
      else if d.on (PORT_LIN_SCHED_PENDING p) then d.linSwitch p
      else
        let e := d.fld (PORT_LIN_STS_ENTRY p) + 1
        if e < 32 ∧ (d.linEntry p e).2.1 ≠ 0 then d.linLoad p e else d.linLoad p 0

/-- The work item of timetable entry `n` with WORK 1 (R41). -/
def execLinScheduleSlot (dt n : Nat) (s : State) : Host.Outcome State Fault Refusal :=
  s.onDev dt (n < 256) fun d =>
    let p := d.fld (STG_TT_CTL_PARAM n)
    if d.ttKind n = 3 ∧ d.fld (STG_TT_CTL_WORK n) = 1 ∧ n ≠ 0 ∧ d.ttApplies n d.phase ∧ 28 ≤ p ∧ p < 36 ∧
        d.inStage (d.fld (STG_TT_START_NS n)) then d.linSlot p
    else d

/-- A write to PORT_LIN_SCHED (R233, R235): RUN starts the schedule from entry 0, SWITCH requests the other table. -/
def Dev.linSched (d : Dev) (p v : Nat) : Dev :=
  let was := d.on (PORT_LIN_SCHED_RUN p)
  let d := d.put (PORT_LIN_SCHED_RUN p) (b2n (bit 8 v))
  let d : Dev := if !was ∧ bit 8 v then
      { d with prt := { d.prt with linLeft := terase p d.prt.linLeft, linDue := d.prt.linDue.filter (· ≠ p) } } else d
  if bit 1 v ∧ !d.on (PORT_LIN_SCHED_PENDING p) then d.set (PORT_LIN_SCHED_PENDING p) else d

def execLinSchedSwitch (dt : Nat) (a : Acc) (p v : Nat) (s : State) : Host.Outcome State Fault Refusal :=
  s.onDevM dt (28 ≤ p && p < 36) fun m d => d.regWrite m a (PORT_LIN_SCHED p) (·.linSched p v)

def execLinSchedRun (dt : Nat) (a : Acc) (p v : Nat) (s : State) : Host.Outcome State Fault Refusal :=
  s.onDevM dt (28 ≤ p && p < 36) fun m d => d.regWrite m a (PORT_LIN_SCHED p) (·.linSched p v)

end Sys2Proof.Machine
end

