-- ==== Sys2Proof/Machine/Siding.lean ====
section
/-! DEFINITION. Siding states of ports, the sleep handshake up to the sleep state, wakes, false wakes and lockout,
the transceivers' fail-safe (spec/09, R236–R260), and the coachman watchdog's commands (R312). The entry into a
sleep state and the exit from it stand in Power.lean. -/

namespace Sys2Proof.Machine

open R

/-! ### Siding states (R240, R243) -/

/-- The port goes to sleep (R218, R237, R240): its siding state, its link and its PHY. -/
def Dev.sleepNow (d : Dev) (p : Nat) : Dev :=
  let st := d.fld (SID_PORT_STS_STATE p)
  let d := ((d.sidEnter p 2).linkSet p false).clearCan p
  let d := if p < 16 then d.put (PORT_PHY_STS_TRAIN p) (if p < 14 ∧ d.on (PORT_PHY_CFG_TC10_EN p) then 3 else 0) else d
  { d with sid := { d.sid with
    acting := d.sid.acting.filter (· ≠ p), standby := terase p d.sid.standby,
    before := if d.fld SID_STS_STATE = 1 then tset 0 (st + 1) p d.sid.before else d.sid.before } }

/-- The sleep action takes time: a TC10 request waits for its acknowledgement, a T1S coordinator for its PLCA cycle,
a CAN port for its transmit buffers, a LIN commander for its go-to-sleep frame (R243). -/
def Dev.sleepWaits (d : Dev) (p : Nat) : Bool :=
  if p < 14 then d.on (PORT_PHY_CFG_TC10_EN p)
  else if p < 16 then d.on (PORT_PLCA_CFG_EN p) && d.fld (PORT_PLCA_CFG_NODE_ID p) == 0 && d.on (PORT_STS_LINK p)
  else if p < 28 then !(d.canBufs p).isEmpty
  else d.on (PORT_LIN_CFG_ROLE p) && d.on (SID_PORT_CFG_LIN_GTS p)

/-- The sleep action of a port that is ACTIVE or IGNORE. -/
def Dev.sleepAction (d : Dev) (p : Nat) : Dev :=
  if 2 ≤ d.fld (SID_PORT_STS_STATE p) ∨ d.sid.acting.contains p then d
  else if d.sleepWaits p then { d with sid := { d.sid with acting := insertNat p d.sid.acting } }
  else d.sleepNow p

/-- The wakes that a port is driven with when PEER_SLEEP = 1 (R248). -/
def Dev.drivesOf (d : Dev) (p : Nat) : List (Nat × WakeDrive) :=
  if !d.on (SID_PORT_CFG_PEER_SLEEP p) then []
  else if p < 14 then (if d.on (PORT_PHY_CFG_TC10_EN p) then [(p, .tc10)] else [])
  else if p < 16 then [(p, .idle)]
  else if p < 28 then [(p, .canPattern)] else [(p, .linPulse)]

/-- A port that is ASLEEP is powered and comes to WAKING, on its way to a state; `drive` drives the wake of R248. It
acknowledges a transceiver in standby (R259). A port whose link is up already enters the state at once (R240). -/
def Dev.wakePort (d : Dev) (p want : Nat) (drive : Bool) : Dev :=
  let d := d.sidEnter p 3
  let d := if p < 16 ∧ !d.on (PORT_STS_LINK p) then d.train p (if p < 2 then d.maxRate p else 0) else d
  let d : Dev := { d with sid := { d.sid with
    want := tset 0 want p d.sid.want, standby := terase p d.sid.standby,
    driven := if drive then d.sid.driven.filter (fun x => x.1 ≠ p) ++ d.drivesOf p else d.sid.driven } }
  if d.on (PORT_STS_LINK p) then d.sidEnter p want else d

/-- A request takes effect (R240, R241): requests are ignored during the handshake, for a port that is held powered
off, and for the present state. -/
def Dev.portRequest (d : Dev) (p req : Nat) : Dev :=
  let st := d.fld (SID_PORT_STS_STATE p)
  if d.fld SID_STS_STATE ≠ 0 ∨ !d.portUsed p ∨ 3 ≤ req then d
  else if req = 2 then d.sleepAction p
  else if st = 2 ∨ tget 0 d.sid.standby p ≠ 0 then d.wakePort p req true
  else if st = 3 then { d with sid := { d.sid with want := tset 0 req p d.sid.want } }
  else if st = req then d
  else d.sidEnter p req

/-- A write to SID_PORTp_CTL (R240): REQ 3 is ignored; with AT_TICK the move waits for the tick. -/
def Dev.sidCtl (d : Dev) (p v : Nat) : Dev :=
  let req := bits 1 0 v
  if req = 3 then d
  else
    let d := (d.put (SID_PORT_CTL_REQ p) req).put (SID_PORT_CTL_AT_TICK p) (b2n (bit 2 v))
    if d.fld SID_STS_STATE ≠ 0 then d
    else if bit 2 v then { d with sid := { d.sid with atTick := tset 0 (req + 1) p d.sid.atTick } }
    else d.portRequest p req

/-- The requests that waited for the tick. -/
def Dev.sidAtTick (d : Dev) : Dev :=
  let l := d.sid.atTick
  ({ d with sid := { d.sid with atTick := [] } } : Dev).each l (fun x d => d.portRequest x.1 (x.2 - 1))

def execPortRequestActive (dt : Nat) (a : Acc) (p v : Nat) (s : State) : Host.Outcome State Fault Refusal :=
  s.onDevM dt (p < 36) fun m d => d.regWrite m a (SID_PORT_CTL p) (·.sidCtl p v)

def execPortRequestIgnore (dt : Nat) (a : Acc) (p v : Nat) (s : State) : Host.Outcome State Fault Refusal :=
  s.onDevM dt (p < 36) fun m d => d.regWrite m a (SID_PORT_CTL p) (·.sidCtl p v)

def execPortRequestAsleep (dt : Nat) (a : Acc) (p v : Nat) (s : State) : Host.Outcome State Fault Refusal :=
  s.onDevM dt (p < 36) fun m d => d.regWrite m a (SID_PORT_CTL p) (·.sidCtl p v)

/-- The sleep action of a port completes (R243). -/
def execPortSleepAck (dt p : Nat) (s : State) : Host.Outcome State Fault Refusal :=
  s.onDev dt (p < 36) fun d =>
    if !d.sid.acting.contains p ∨ (16 ≤ p ∧ p < 28 ∧ d.canBufs p ≠ []) then d
    else if 28 ≤ p then
      (match d.linBusy p with
        | some n => if n.gts then (d.linEnd p).sleepNow p else d
        | none => d)
    else d.sleepNow p

/-! ### The handshake (R242–R247) -/

/-- What a wake source is set to (R244). -/
def Dev.wakeCfg (d : Dev) (s : Nat) : WakeCfg :=
  let k := s - 16
  let can : Bool := 16 ≤ s && s < 28
  let w (r : Nat → Nat) : Nat := if can then d.rn (r k) else 0
  { mode := d.fld (SID_SRC_CFG_MODE s), filt := d.fld (SID_SRC_CFG_FILT s), wuf := w SID_CAN_WUF_CFG,
    id := w SID_CAN_WUF_ID, mask := w SID_CAN_WUF_MASK,
    data := w SID_CAN_WUF_DATA_LO + 2 ^ 32 * w SID_CAN_WUF_DATA_HI,
    dmask := w SID_CAN_WUF_DMASK_LO + 2 ^ 32 * w SID_CAN_WUF_DMASK_HI }

/-- An armed source can detect at all: its port is enabled (R240) and, for a TC10 pulse, has TC10_EN = 1 (R218); its input
is used with WAKE_EN = 1 (R324). -/
def Dev.srcOn (d : Dev) (s : Nat) : Bool :=
  d.on (SID_SRC_CFG_ARM s) &&
    (if s < 36 then d.portUsed s && (14 ≤ s || d.on (PORT_PHY_CFG_TC10_EN s))
     else d.lioUsed (s - 36) && d.on (LIO_CFG_WAKE_EN (s - 36)))

/-- SID_CONFIRM_MS, SID_FW_CFG and SID_FS_CFG, which no SIDING section sets to 0, or their copies. -/
def Dev.sidKept (d : Dev) : SidKept :=
  let or_ (v k : Nat) : Nat := if v = 0 then k else v
  { confirm := or_ (d.rn SID_CONFIRM_MS) d.sid.kept.confirm, fw := or_ (d.rn SID_FW_CFG) d.sid.kept.fw,
    fs := or_ (d.rn SID_FS_CFG) d.sid.kept.fs }

/-- STATE of the handshake changes, on source 208. -/
def Dev.sidState (d : Dev) (st : Nat) : Dev := (d.put SID_STS_STATE st).raiseIf SID_INT_EN_SLEEP 208

/-- PWRM's state or target changes (R434): 0 = RUN, 1 = DROWSE, 2 = handshake; target as PWRM_STATE.TARGET. -/
def Dev.pwrmState (d : Dev) (st target : Nat) : Dev :=
  if d.fld PWRM_STATE_STATE = st ∧ d.fld PWRM_STATE_TARGET = target then d
  else
    let d := (d.put PWRM_STATE_STATE st).put PWRM_STATE_TARGET target
    ((d.set PWRM_STS_CHG).raiseIf PWRM_INT_EN_CHG 8).post 0x03 0x0001 0 9 target

/-- The handshake starts with a target: 1 = SENTINEL, 2 = PARKED (R242, R346, R434). -/
def Dev.sleepStart (d : Dev) (target : Nat) : Dev :=
  let d := (d.sidState 1).put SID_STS_TARGET target
  let d := d.post 0x31 0x0001 0 8 target
  let d : Dev := { d with
    sid := { d.sid with before := [], late := [], driven := [], enteredAt := d.up },
    wld := { d.wld with quiesceAt := some (d.up + d.fld STG_PERIOD_NS_NS), quiesced := false } }
  (d.raise 9).each (List.range 36) (fun p d => if d.portUsed p then d.sleepAction p else d)

/-- Every port is asleep and Guard counts as quiesced (R242); a port in WAKING counts as asleep (R236). -/
def Dev.sleepReady (d : Dev) : Bool :=
  d.wld.quiesced && (List.range 36).all (fun p => !d.portUsed p || 2 ≤ d.fld (SID_PORT_STS_STATE p))

/-- The owner of a wake source (R254). -/
def Dev.srcOwner (d : Dev) (s : Nat) : Nat :=
  if s < 36 then d.portOwner s else if s < 44 then d.fld (LIO_CFG_OWNER (s - 36)) else 8

/-- SID_WAKE_ALL's bit of a source. -/
def Dev.wakeAll (d : Dev) (s : Nat) : Dev :=
  if s < 32 then d.set ⟨SID_WAKE_ALL_LO, s, s⟩ else if s < 45 then d.set ⟨SID_WAKE_ALL_HI, s - 32, s - 32⟩ else d

/-- A source of a lower number than the recorded one detects a wake in the same cycle, and is recorded in its place (R254,
assumption 84). -/
def Dev.goesFirst (d : Dev) (s : Nat) : Bool := d.sid.notedAt == d.up / 10 + 1 && decide (s < d.fld SID_WAKE_CAUSE_SOURCE)

/-- SID_WAKE_CAUSE and SID_WAKE_TIME (R254). -/
def Dev.wakeCause (d : Dev) (s cause from_ : Nat) : Dev :=
  let d := ((d.put SID_WAKE_CAUSE_CAUSE cause).put SID_WAKE_CAUSE_SOURCE s).put SID_WAKE_CAUSE_FROM from_
  let d := if cause = 15 then d else d.wr PWRM_WAKE_INFO 0
  let d : Dev := { d with sid := { d.sid with notedAt := if s < 45 then d.up / 10 + 1 else 0 } }
  (d.clr SID_WAKE_CAUSE_LATE_WAKE).wrPair SID_WAKE_TIME_LO SID_WAKE_TIME_HI d.ns

def Dev.wakePost (d : Dev) (s cause : Nat) : Dev := d.post 0x31 0x0005 0 (d.srcOwner s) s [cause]

/-- The sleep is aborted (R246): the module is in RUN again, and the ports that went asleep in this PRE_SLEEP wake. -/
def Dev.sleepAbort (d : Dev) (s cause : Nat) : Dev :=
  let back := d.sid.before
  let d := ((d.put SID_STS_STATE 0).clr SID_STS_TARGET).set SID_STS_SLEEP_ABORTED
  let d := ((d.wakeCause s cause 3).post 0x31 0x0002 0 8 s).raiseIf SID_INT_EN_SLEEP 208
  let d : Dev := { d with
    sid := { d.sid with before := [], acting := [], driven := [] },
    wld := { d.wld with quiesceAt := none, quiesced := false } }
  (d.pwrmState 0 0).each (back.filter (fun x => d.fld (SID_PORT_STS_STATE x.1) = 2)) (fun x d =>
    d.wakePort x.1 (x.2 - 1) true)

/-- A late wake is latched (R247); of two in one cycle the lower source number comes first (R254). -/
def Dev.lateWake (d : Dev) (s cause : Nat) : Dev :=
  let d : Dev := if d.sid.late.isEmpty then
      { (d.wrPair SID_WAKE_TIME_LO SID_WAKE_TIME_HI d.ns) with sid := { d.sid with notedAt := d.up / 10 + 1 } } else d
  let first := d.sid.notedAt == d.up / 10 + 1 && d.sid.late.all (fun x => s < x.1)
  { (d.wakeAll s) with sid := { d.sid with late := if first then (s, cause) :: d.sid.late else d.sid.late ++ [(s, cause)] } }

/-- An owner withdraws its sleep request (R246, R247, R435): source 44. -/
def Dev.withdraw (d : Dev) : Dev :=
  match d.fld SID_STS_STATE with
  | 1 => ((d.wakeAll 44).wakePost 44 8).sleepAbort 44 8
  | 2 => d.lateWake 44 8
  | 3 => d.lateWake 44 8
  | _ => d

/-- PRE_TMO_MS elapses (R242). -/
def execPreSleepTimeout (dt : Nat) (s : State) : Host.Outcome State Fault Refusal :=
  s.onDev dt true fun d =>
    if d.fld SID_STS_STATE ≠ 1 ∨ !d.passed d.sid.enteredAt (1000000 * d.fld SID_SLEEP_CFG_PRE_TMO_MS) then d
    else if d.on SID_SLEEP_CFG_TMO_ABORT then d.sleepAbort 0x3F 0
    else
      let l := (List.range 36).filter (fun p => d.portUsed p && d.fld (SID_PORT_STS_STATE p) < 2)
      let d := (d.each l (fun p d => d.sleepNow p)).set SID_STS_PRE_TMO
      (d.raiseIf SID_INT_EN_SLEEP 208).post 0x31 0x0007 1 8 (l.headD 0x3F)

/-! ### Wakes (R249–R254) -/

/-- What a source is armed with now, none when it is not armed (R244, R249, R256, R258). -/
def Dev.srcArmed (d : Dev) (s : Nat) : Option WakeCfg :=
  if s < 36 ∧ d.fld (SID_SRC_STS_STATE s) = 2 then none
  else if d.boot.phase = .sealed ∧ d.fld SID_STS_STATE < 2 then
    (if d.srcOn s then some (d.wakeCfg s) else none)
  else (d.sid.armed.find? (fun x => x.1 == s)).map (·.2)

/-- A source works in PARKED (R249). -/
def parkedSrc (s mode : Nat) : Bool := (16 ≤ s && s < 28 && mode == 0) || 28 ≤ s

/-- A wake from a bus source opens its confirmation window (R255, R256). -/
def Dev.confirmOpen (d : Dev) (s : Nat) : Dev :=
  if s < 36 ∧ d.fld (SID_SRC_STS_STATE s) = 0 then
    { (d.put (SID_SRC_STS_STATE s) 1) with sid := { d.sid with
      confAt := tset 0 (d.up + 1) s d.sid.confAt, confN := terase s d.sid.confN } }
  else d

/-- The transceiver that detects a wake goes from sleep to standby (R259). -/
def Dev.standbyPort (d : Dev) (s : Nat) : Dev :=
  if 16 ≤ s ∧ s < 36 then { d with sid := { d.sid with standby := tset 0 (d.up + 1) s d.sid.standby } } else d

/-- An armed source works in the present state (R249): in RUN only while its port is ASLEEP, for which WAKING counts
(R236). A transceiver in standby detects nothing until its return to sleep rearms it (R259). -/
def Dev.srcWorks (d : Dev) (s mode : Nat) : Bool :=
  if tget 0 d.sid.standby s ≠ 0 then false
  else if d.sid.asleep ≠ 0 then d.sid.asleep != 2 || parkedSrc s mode
  else d.boot.phase != .sealed || 2 ≤ d.fld SID_STS_STATE || 36 ≤ s ||
    (2 ≤ d.fld (SID_PORT_STS_STATE s) && d.portUsed s)

/-- A filter time or pattern timeout of `t` ns as it is timed now (R253): in PARKED within ±5 % and up to 0.5 µs more,
which the spec leaves open. -/
def Dev.wakeTime (d : Dev) (t : Nat) : Nat × Dev :=
  if d.sid.asleep = 2 then
    let f := d.fresh 32
    (t * 95 / 100 + f.1 % (t / 10 + 501), f.2)
  else (t, d)

/-- A phase lasts at least as long as the filter of `t` ns asks; a cause then. -/
def Dev.wakeFilter (d : Dev) (ns t cause : Nat) : Option Nat × Dev :=
  let f := d.wakeTime t
  (if f.1 ≤ ns then some cause else none, f.2)

/-- A frame matches the wake-up frame of a source (R251). -/
def WakeCfg.hits (c : WakeCfg) (f : WakeFrame) : Bool :=
  f.ide == bit 2 c.wuf && ((f.id ^^^ c.id) &&& c.mask) % 2 ^ 29 == 0 &&
    (!bit 8 c.wuf || f.dlc == bits 7 4 c.wuf) &&
    (List.range 8).all (fun i =>
      f.dlc ≤ i || ((f.data.getD i 0 ^^^ bits (8 * i + 7) (8 * i) c.data) &&& bits (8 * i + 7) (8 * i) c.dmask) == 0)

/-- The wake-up frame decoder takes a frame (R251): an erroneous one, or one it cannot decode, raises its error counter,
and 32 of them wake; a frame without error lowers it and wakes when it matches. -/
def Dev.wakeFrame (d : Dev) (s : Nat) (c : WakeCfg) (f : WakeFrame) : Option Nat × Dev :=
  let n := tget 0 d.sid.frameErr s
  let keep (k : Nat) : Dev := { d with sid := { d.sid with frameErr := tset 0 k s d.sid.frameErr } }
  if f.fd ∧ bit 3 c.wuf then (none, d)
  else if f.err ∨ f.fd ∨ f.rate ≠ bits 1 0 c.wuf then (if n + 1 = 32 then some 4 else none, keep (n + 1))
  else (if c.hits f then some 3 else none, keep (n - 1))

/-- What reaches a source is a wake for it, with the cause (R250–R252, R324). -/
def Dev.wakeSeen (d : Dev) (s : Nat) (c : WakeCfg) : WakeSignal → Option Nat × Dev
  | .pulse => (if s < 14 then some 6 else none, d)
  | .level ns =>
    if 14 ≤ s ∧ s < 16 then d.wakeFilter ns (1000 * c.filt) 7
    else if 28 ≤ s ∧ s < 36 then d.wakeFilter ns (10000 * c.filt) 5
    else (none, d)
  | .pattern first gap last =>
    if 16 ≤ s ∧ s < 28 ∧ c.mode = 0 then
      let f := d.wakeFilter (min first (min gap last)) (500 * c.filt) 2
      let t := f.2.wakeTime (100000 * bits 22 16 c.wuf)
      (if first + gap + last ≤ t.1 then f.1 else none, t.2)
    else (none, d)
  | .frame f => if 16 ≤ s ∧ s < 28 ∧ c.mode = 1 then d.wakeFrame s c f else (none, d)
  | .crossing uv ns =>
    let e := d.fld (LIO_CFG_WAKE_EDGE (s - 36))
    if 36 ≤ s ∧ s < 44 ∧ d.on (LIO_CFG_WAKE_EN (s - 36)) ∧
        (d.lioSide (s - 36) uv).any (fun rising => e == 2 || e == b2n (!rising)) then
      d.wakeFilter ns (16000 * d.fld (LIO_TIM_WAKE_FILT (s - 36))) 1
    else (none, d)

/-- A source wakes the module out of a sleep state, or is noted beside the one that does (R254). -/
def Dev.wakeAsleep (d : Dev) (s cause : Nat) : Dev :=
  let d := if !d.sid.noted ∨ d.goesFirst s then d.wakeCause s cause d.sid.asleep else d
  let d : Dev := { (d.wakeAll s) with sid := { d.sid with noted := true } }
  ((d.wakePost s cause).confirmOpen s).standbyPort s

/-- A wake in RUN or PRE_SLEEP (R240, R246). -/
def Dev.wakeRun (d : Dev) (s cause : Nat) : Dev :=
  let d := (d.wakePost s cause).confirmOpen s
  let d := if d.fld SID_STS_STATE = 1 then (d.wakeAll s).sleepAbort s cause
    else if d.sid.notedAt = d.up / 10 + 1 ∧ d.fld SID_WAKE_CAUSE_FROM = 3 then
      (d.wakeAll s).when (d.goesFirst s) (·.wakeCause s cause 3)
    else d
  let d := if s < 36 ∧ d.fld (SID_PORT_STS_STATE s) = 2 then d.wakePort s (d.fld (SID_PORT_CFG_BOOT_IGNORE s)) false
    else d
  if s < 36 then d.raiseIf SID_INT_EN_WAKE 210 else d

/-- A source has detected a wake (R240, R246, R247, R254). -/
def Dev.wakeBy (d : Dev) (s cause : Nat) : Dev :=
  if d.sid.asleep ≠ 0 then d.wakeAsleep s cause
  else if d.boot.phase ≠ .sealed then
    (((if d.sid.noted then d.wakeAll s else d).wakePost s cause).confirmOpen s).standbyPort s
  else if 2 ≤ d.fld SID_STS_STATE then ((d.lateWake s cause).confirmOpen s).standbyPort s
  else d.wakeRun s cause

/-- A signal reaches a source: one that is armed, that works now and that finds a wake in it, wakes. -/
def Dev.wakeDetected (d : Dev) (s : Nat) (sig : WakeSignal) : Dev :=
  match d.srcArmed s with
  | none => d
  | some c =>
    if !d.srcWorks s c.mode then d
    else
      match d.wakeSeen s c sig with
      | (some cause, d) => d.wakeBy s cause
      | (none, d) => d

/-- A signal reaches wake source `src`. -/
def execWakeDetected (dt src : Nat) (sig : WakeSignal) (s : State) : Host.Outcome State Fault Refusal :=
  s.onDev dt (src < 44) (·.wakeDetected src sig)

/-! ### False wakes and lockout (R255–R258) -/

/-- The seconds of lockout left, as SID_SRCs_STS.LOCK_LEFT reads (R258). -/
def Dev.lockLeft (d : Dev) (s : Nat) : Nat :=
  let e := tget 0 d.sid.lockEnd s
  if e = 0 then d.fld (SID_SRC_STS_LOCK_LEFT s) else (e - d.up + 999999999) / 1000000000

/-- A source leaves LOCKED (R256). -/
def Dev.unlock (d : Dev) (s : Nat) : Dev :=
  let d := (d.put (SID_SRC_STS_STATE s) 0).clr (SID_SRC_STS_LOCK_LEFT s)
  let d : Dev := { d with sid := { d.sid with lockEnd := terase s d.sid.lockEnd } }
  d.post 0x31 0x000A 0 (d.srcOwner s) s

/-- A source's confirmation window ends. -/
def Dev.confEnd (d : Dev) (src : Nat) : Dev :=
  { d with sid := { d.sid with confAt := terase src d.sid.confAt, confN := terase src d.sid.confN } }

/-- A write to SID_CONFIRM (R255, R256). -/
def Dev.sidConfirm (d : Dev) (a : Acc) (v : Nat) : Dev :=
  let s := bits 5 0 v
  if 36 ≤ s then d
  else if !a.guard ∧ a.owner ≠ d.portOwner s then d.post 0x31 0x000D 1 (d.srcOwner s) s
  else if d.fld (SID_SRC_STS_STATE s) = 1 then
    ((d.put (SID_SRC_STS_STATE s) 0).clr (SID_SRC_STS_FW_CNT s)).confEnd s
  else if d.fld (SID_SRC_STS_STATE s) = 2 ∧ a.guard then d.unlock s
  else d

def execSidConfirm (dt : Nat) (a : Acc) (v : Nat) (s : State) : Host.Outcome State Fault Refusal :=
  s.onDevM dt true fun m d => d.regWrite m a SID_CONFIRM (·.sidConfirm a v)

/-- A false wake is counted (R256). -/
def Dev.falseWake (d : Dev) (src n : Nat) : Dev :=
  let d := ((d.put (SID_SRC_STS_FW_CNT src) n).put (SID_SRC_STS_STATE src) 0).set SID_STS_FALSE_WAKE
  (d.post 0x31 0x0008 0 (d.srcOwner src) src [n]).raiseIf SID_INT_EN_FW 211

/-- A source is locked out (R256). -/
def Dev.lockOut (d : Dev) (src left : Nat) : Dev :=
  let d := ((d.clr (SID_SRC_STS_FW_CNT src)).put (SID_SRC_STS_STATE src) 2).put (SID_SRC_STS_LOCK_LEFT src) left
  let d : Dev := { d with sid := { d.sid with lockEnd := tset 0 (d.up + 1000000000 * left) src d.sid.lockEnd } }
  ((d.set SID_STS_LOCKOUT).post 0x31 0x0009 1 (d.srcOwner src) src).raiseIf SID_INT_EN_FW 211

/-- A confirmation window ends unconfirmed (R256). -/
def execConfirmationWindowEnd (dt src : Nat) (s : State) : Host.Outcome State Fault Refusal :=
  s.onDev dt (src < 36) fun d =>
    if d.fld (SID_SRC_STS_STATE src) ≠ 1 ∨
        !d.passed (tget 0 d.sid.confAt src - 1) (1000000 * (d.sidKept.confirm % 2 ^ 16)) then d
    else
      let n := d.fld (SID_SRC_STS_FW_CNT src) + 1
      if n < d.sidKept.fw % 16 then (d.confEnd src).falseWake src n
      else (d.confEnd src).lockOut src (bits 31 16 d.sidKept.fw)

/-- LOCK_LEFT reaches 0 (R256); in PARKED it does not count (R258). -/
def execLockoutExpiry (dt src : Nat) (s : State) : Host.Outcome State Fault Refusal :=
  s.onDev dt (src < 36) fun d =>
    if d.fld (SID_SRC_STS_STATE src) = 2 ∧ d.sid.asleep ≠ 2 ∧ d.passed (tget 0 d.sid.lockEnd src) 0 then d.unlock src
    else d

/-! ### Transceivers (R259, R260) -/

/-- Every CAN and LIN transceiver in normal mode goes to standby (R260). -/
def Dev.standbyAll (d : Dev) : Dev :=
  d.each ((List.range 20).map (· + 16)) (fun p d =>
    if !d.portUsed p ∨ d.fld (SID_PORT_STS_STATE p) = 2 ∨ tget 0 d.sid.standby p ≠ 0 then d
    else (d.standbyPort p).linkSet p false)

/-- Detection of a Beyvo reset or of the loss of a Beyvo rail (R260, R316); SAFE_N falls at once (R446). -/
def execCoastStart (dt : Nat) (s : State) : Host.Outcome State Fault Refusal :=
  s.onDev dt true fun d =>
    if d.hvRuns then (d.coastStart.standbyAll).pin FRM_STS_SAFE_N 1 false else d

/-- A record that a rule has the Heavia die write into the always-on log, whatever R124 selects. -/
def Dev.postAo (d : Dev) (r : Rec) : Dev :=
  let d := if d.log.aoQueue.length < 16 then
      { d with log := { d.log with aoQueue := d.log.aoQueue ++ [r] } } else d
  if d.frm.beyvoUp then ((d.enqueue r).tallyD 0x84 1).pend r.sev else d

/-- A transceiver in standby falls to sleep (R259). -/
def execTransceiverFsTimeout (dt p : Nat) (s : State) : Host.Outcome State Fault Refusal :=
  s.onDev dt (16 ≤ p && p < 36) fun d =>
    if tget 0 d.sid.standby p = 0 ∨ !d.passed (tget 0 d.sid.standby p - 1) (1000000 * (d.sidKept.fs % 2 ^ 16)) then d
    else
      let d : Dev := { d with sid := { d.sid with standby := terase p d.sid.standby } }
      let d := d.postAo (d.mkRec 0x31 0x000B 1 (d.srcOwner p) p [] 2)
      if d.frm.beyvoUp then
        let d := if d.fld (SID_PORT_STS_STATE p) = 2 then d else (d.sidEnter p 2).linkSet p false
        ((d.set (SID_PORT_STS_FS_SLEEP p)).set SID_STS_FS_SLEEP).raiseIf SID_INT_EN_FS 212
      else { d with sid := { d.sid with fsPend := insertNat p d.sid.fsPend } }

/-! ### The coachman watchdog's commands (R312, R313) -/

def execHlkCwWord (dt : Nat) (a : Acc) (v : Nat) (s : State) : Host.Outcome State Fault Refusal :=
  s.onDevM dt true fun m d => d.regWrite m a HLK_CW_WORD (fun d => d.cwWord v Dev.standbyAll)

/-- A watchdog window ends; the correct word would have begun the next one (R312). -/
def execWatchdogWindowEnd (dt : Nat) (s : State) : Host.Outcome State Fault Refusal :=
  s.onDev dt true fun d =>
    if d.on HLK_CW_STS_ARMED ∧ d.passed d.hv.cwStart d.cwWindow then d.cwMiss Dev.standbyAll else d

end Sys2Proof.Machine
end

