-- ==== Sys2Proof/Machine/Tta.lean ====
section
/-! DEFINITION. Timed actions, TOUT pins and TCAP pins (spec/03, R96–R105). -/

namespace Sys2Proof.Machine

open R

/-! ### Slots -/

def Dev.slot (d : Dev) (n : Nat) : Slot := tget Slot.unarmed d.tta.slots n

def Dev.setSlot (d : Dev) (n : Nat) (s : Slot) : Dev :=
  { d with tta := { d.tta with slots := tset Slot.unarmed s n d.tta.slots } }

/-- The captured fields of TTA_SLOTn_CFG. -/
def Slot.action (s : Slot) : Nat := bits 2 0 s.cfg
def Slot.policy (s : Slot) : Nat := bits 5 4 s.cfg
def Slot.periodic (s : Slot) : Bool := bit 6 s.cfg
def Slot.target (s : Slot) : Nat := bits 24 16 s.cfg
def Slot.owner (s : Slot) : Nat := bits 31 28 s.cfg

/-- The lead time of an action in ns (R97). -/
def leadNs (action : Nat) : Nat := [0, 200, 200, 2000, 2000, 500, 2000].getD action 0

/-- Fire instant `i` in 1/256 ns (R99). -/
def Slot.instant (s : Slot) (i : Nat) : Nat := s.first + i * s.period * 256

/-- The first instant index from `next` on that lies at or after a limit (R100). -/
def Slot.firstOk (s : Slot) (limit : Nat) : Nat :=
  if limit ≤ s.instant s.next then s.next
  else if s.period = 0 then s.next
  else (limit - s.first + s.period * 256 - 1) / (s.period * 256)

/-- The slot's registers, as an arm captures them (R98). -/
def Dev.captureSlot (d : Dev) (n : Nat) : Slot :=
  let cfg := d.rn (TTA_SLOT_CFG n)
  let count := d.fld (TTA_SLOT_COUNT_COUNT n)
  { armed := true, cfg := cfg,
    first := d.pair (TTA_SLOT_TIME_LO n) (TTA_SLOT_TIME_HI n) * 256 + d.fld (TTA_SLOT_FRAC_FRAC n),
    period := d.rn (TTA_SLOT_PERIOD n), count := count, arg := d.rn (TTA_SLOT_ARG n), next := 0,
    left := if bit 6 cfg then count else 1 }

/-- TARGET and ARG lie in the range that R97 gives for the action. -/
def Slot.inRange (s : Slot) : Bool :=
  match s.action with
  | 1 => s.target < 8 && s.arg < 2
  | 2 => s.target < 8 && 10 ≤ s.arg && s.arg < 2 ^ 24
  | 3 => s.target < 40 && s.arg < 2
  | 4 => s.target < 40 && s.arg < 65536
  | 5 => s.target < 512 && s.arg == 0
  | 6 => s.target == 0 && s.arg % 4096 == 0
  | _ => false

/-- The owner owns the action's target, or the SRAM page with R set (R98). -/
def Dev.slotOwns (d : Dev) (m : Mem) (s : Slot) : Bool :=
  match s.action with
  | 1 => d.fld (TTA_TOUT_CFG_OWNER s.target) == s.owner
  | 2 => d.fld (TTA_TOUT_CFG_OWNER s.target) == s.owner
  | 3 => d.chanOwner s.target == s.owner
  | 4 => d.chanOwner s.target == s.owner
  | 5 => qOwner s.target == s.owner && d.qRole s.target == 2
  | 6 =>
    let i := (s.arg - 0x10000000) / 4096
    let e := Mem.entry m i
    0x10000000 ≤ s.arg && i < 6144 && entryOwner e == s.owner && entryR e
  | _ => false

/-- The arm passes the checks of R98. -/
def Dev.armOk (d : Dev) (m : Mem) (s : Slot) : Bool :=
  s.policy != 3 && s.inRange && s.owner ≤ 8 && d.slotOwns m s &&
    (!s.periodic || (1000 ≤ s.period && (s.action != 2 || s.arg < s.period))) &&
    (!bit 7 s.cfg || d.fld (IRQ_ROUTE_OWNER (24 + bits 10 8 s.cfg)) == s.owner)

/-! ### Actions (R97, R102, R103) -/

/-- A TOUT pin takes a level; a pin with EN = 0 is held low. -/
def Dev.toutPut (d : Dev) (k lvl : Nat) : Dev :=
  { d with tta := { d.tta with tout := putBits k k d.tta.tout (if d.on (TTA_TOUT_CFG_EN k) then lvl else 0) } }

/-- A slot drives its TOUT pin, at its fire instant or, run late, now (R100); of two slots that drive it at one instant
the higher-numbered holds (R102). `pulse` is its effect on the pins in a pulse. -/
def Dev.toutBy (d : Dev) (n : Nat) (s : Slot) (late : Bool) (lvl : Nat) (pulse : List (Nat × Nat) → List (Nat × Nat)) :
    Dev :=
  let t := if late then d.ns256 else s.instant s.next
  let x := tget (0, 0) d.tta.last s.target
  if x.1 = t ∧ n < x.2 then d
  else
    ({ d with tta := { d.tta with pulse := pulse d.tta.pulse, last := tset (0, 0) (t, n) s.target d.tta.last } } : Dev).toutPut
      s.target lvl

/-- The flags of a snapshot's header (R54); REALIGNED belongs to the first snapshot of a tick on a new grid. -/
def Dev.snapFlags (d : Dev) : Nat :=
  b2n (d.on STG_STS_HOLDOVER) + 2 * b2n d.stg.realigned + 4 * b2n (!d.on TIME_STS_EVER_LOCKED)

/-- What a snapshot latches of every channel and input. -/
def Dev.latchChans (d : Dev) : List (Nat × ChanLatch) := (List.range 40).map (fun i => (i, d.latchChan i))
def Dev.latchLios (d : Dev) (t : Nat) : List (Nat × LioLatch) := (List.range 32).map (fun n => (n, d.latchLio n t))

/-- A slot's action, at a fire time in ns; `late`: it runs at once under RUN_NOW. DESIGN CHOICE: a channel or snapshot
action acts with the H-link down as with it up, since R310 names posted writes, reads and stage snapshots alone
(assumption 120). -/
def Dev.slotAct (d : Dev) (m : Mem) (n : Nat) (s : Slot) (t : Nat) (late : Bool) : Dev × Mem :=
  let d := if bit 7 s.cfg then d.raise (24 + bits 10 8 s.cfg) else d
  let held := if late then 2 ^ 80 else t
  match s.action with
  | 1 => (d.toutBy n s late (s.arg % 2) (terase s.target), m)
  | 2 => (d.toutBy n s late (1 - d.fld (TTA_TOUT_CFG_IDLE s.target)) (tset 0 (d.up + s.arg % 2 ^ 24) s.target), m)
  | 3 => (d.chanTimed s.target (if bit 0 s.arg then 2 else 1) 0 n held, m)
  | 4 => (d.chanTimed s.target 4 (s.arg % 65536) n held, m)
  | 5 =>
    if d.qHead s.target = d.qTail s.target then ((d.set (TTA_SLOT_CMD_EMPTY n)).post 0x22 0x0005 0 9 n, m)
    else d.sendHead m s.target late
  | 6 =>
    (d, Mem.setWords m (s.arg / 4096 * 4096)
      (d.snapWords s.owner (d.rn STG_NUM) t d.snapFlags d.latchChans (d.latchLios t)))
  | _ => (d, m)

/-! ### Arm, disarm, fire (R98–R101) -/

/-- A slot stands armed at an instant. -/
def Dev.slotArmed (d : Dev) (n : Nat) (s : Slot) : Dev :=
  ((d.setSlot n s).set (TTA_SLOT_CMD_ARMED n)).put (TTA_SLOT_CMD_REMAIN n) (if s.periodic ∧ s.count = 0 then 0 else s.left)

/-- A slot is unarmed. -/
def Dev.slotIdle (d : Dev) (n left : Nat) : Dev :=
  ((d.setSlot n Slot.unarmed).clr (TTA_SLOT_CMD_ARMED n)).put (TTA_SLOT_CMD_REMAIN n) left

/-- The first instant is late (R100), or a step has passed the next one (R101): `step` posts code 0x0008 with the
number of instants skipped in place of the codes of R100, and sets LATE in every case. DESIGN CHOICE: code 0x0008 carries no
flag LATE, which R100 gives only to code 0x0002 (assumption 101); its w4 counts every instant that has passed, also past the
last firing of the slot (assumption 121). -/
def Dev.slotLate (d : Dev) (m : Mem) (n : Nat) (s : Slot) (step : Bool) : Dev × Mem :=
  let unb : Bool := s.periodic && s.count == 0
  let k := s.firstOk (d.ns256 + 256 * leadNs s.action)
  let skip := if s.periodic then k - s.next else 1
  let d := if step then (d.set (TTA_SLOT_CMD_LATE n)).post 0x22 0x0008 0 9 n [skip] else d
  let refuse (d : Dev) : Dev :=
    let d := d.slotIdle n 0
    if step then d else (d.set (TTA_SLOT_CMD_LATE n)).post 0x22 0x0001 0 9 n
  if s.policy = 1 then
    let r := d.slotAct m n s d.ns true
    let d := if step then r.1 else
      (r.1.set (TTA_SLOT_CMD_LATE n)).postRec (r.1.mkRec 0x22 0x0002 0 9 n [] 64)
    if s.periodic ∧ (unb ∨ 1 < s.left) then
      (d.slotArmed n { s with next := k, left := if unb then 0 else s.left - 1 }, r.2)
    else (d.slotIdle n 0, r.2)
  else if s.policy = 2 ∧ s.periodic then
    if !unb ∧ s.left ≤ skip then (refuse d, m)
    else
      let d := d.slotArmed n { s with next := k, left := if unb then 0 else s.left - skip }
      (if step then d else d.post 0x22 0x0003 0 9 n, m)
  else (refuse d, m)

/-- The slot's arm (R98, R100). -/
def Dev.slotArm (d : Dev) (m : Mem) (n : Nat) : Dev × Mem :=
  let s := d.captureSlot n
  if !d.armOk m s then ((d.set (TTA_SLOT_CMD_DENIED n)).post 0x22 0x0004 1 9 n, m)
  else if s.instant 0 < d.ns256 + 256 * leadNs s.action then d.slotLate m n s false
  else (d.slotArmed n s, m)

/-- A disarm (R97): an action that has been passed to the Heavia die still runs, whatever the slot does next. -/
def Dev.slotDisarm (d : Dev) (n : Nat) : Dev :=
  let s := d.slot n
  if !s.armed then d
  else
    let passed : Bool := (s.action == 3 || s.action == 4 || s.action == 6) &&
      decide (s.instant s.next ≤ d.ns256 + 256 * leadNs s.action)
    let d := d.slotIdle n 0
    if passed then { d with tta := { d.tta with passed := d.tta.passed ++ [(n, s)] } } else d

/-- A write to TTA_SLOTn_CMD (R98). -/
def Dev.slotCmd (d : Dev) (m : Mem) (n v : Nat) : Dev × Mem :=
  if bit 0 v ∧ bit 1 v then (d, m)
  else if bit 0 v ∧ (d.slot n).armed then (d.post 0x22 0x0009 0 9 n, m)
  else
    let d := d.wr (TTA_SLOT_CMD n) (d.rn (TTA_SLOT_CMD n) - (d.rn (TTA_SLOT_CMD n) &&& (v &&& 0xE00)))
    if bit 0 v then d.slotArm m n
    else if bit 1 v then (d.slotDisarm n, m)
    else (d, m)

/-- A register write whose effect may write memory. -/
def Dev.regWriteM (d : Dev) (m : Mem) (a : Acc) (addr : Nat) (f : Mem → Dev → Dev × Mem) : Dev × Mem :=
  match checkAccess m d a .write addr with
  | .pass => f m d
  | v => (d.turnedAway a .write addr v, m)

def execSlotArm (dt : Nat) (a : Acc) (n v : Nat) (s : State) : Host.Outcome State Fault Refusal :=
  s.onAll dt (n < 64) fun m d => d.regWriteM m a (TTA_SLOT_CMD n) (fun m d => d.slotCmd m n v)

def execSlotDisarm (dt : Nat) (a : Acc) (n v : Nat) (s : State) : Host.Outcome State Fault Refusal :=
  s.onAll dt (n < 64) fun m d => d.regWriteM m a (TTA_SLOT_CMD n) (fun m d => d.slotCmd m n v)

/-- A slot reaches its fire instant (R99). -/
def Dev.slotFire (d : Dev) (m : Mem) (n : Nat) : Dev × Mem :=
  let s := d.slot n
  let t := s.instant s.next / 256
  if !s.armed then (d, m)
  else
    let r := d.slotAct m n s t false
    let d := r.1
    if s.periodic ∧ s.count = 0 then (d.slotArmed n { s with next := s.next + 1 }, r.2)
    else if s.left ≤ 1 then (d.slotIdle n 0, r.2)
    else (d.slotArmed n { s with next := s.next + 1, left := s.left - 1 }, r.2)

/-- The fire instant of an action that the Heavia die holds of slot `n` has come. -/
def Dev.passedDue (d : Dev) (n : Nat) (x : Nat × Slot) : Bool := x.1 == n && decide (x.2.instant x.2.next ≤ d.ns256)

/-- An action that the Heavia die holds runs at its instant (R97). -/
def Dev.passedFire (d : Dev) (m : Mem) (n : Nat) (s : Slot) : Dev × Mem :=
  ({ d with tta := { d.tta with passed := d.tta.passed.erase (n, s) } } : Dev).slotAct m n s (s.instant s.next / 256) false

/-- An action left with the Heavia die runs before one of the slot's present arm. -/
def execSlotFire (dt n : Nat) (s : State) : Host.Outcome State Fault Refusal :=
  s.onAll dt (n < 64) fun m d =>
    match d.tta.passed.find? (d.passedDue n) with
    | some x => d.passedFire m n x.2
    | none => if (d.slot n).instant (d.slot n).next ≤ d.ns256 then d.slotFire m n else (d, m)

/-- A pulse ends (R97). -/
def execToutPulseEnd (dt k : Nat) (s : State) : Host.Outcome State Fault Refusal :=
  s.onDev dt (k < 8) fun d =>
    if tget 0 d.tta.pulse k ≠ 0 ∧ d.passed (tget 0 d.tta.pulse k) 0 then
      ({ d with tta := { d.tta with pulse := terase k d.tta.pulse } } : Dev).toutPut k (d.fld (TTA_TOUT_CFG_IDLE k))
    else d

/-! ### TCAP (R105) -/

def Dev.tcap (d : Dev) (k : Nat) : Tcap := tget Tcap.empty d.tta.tcap k

def Dev.setTcap (d : Dev) (k : Nat) (t : Tcap) : Dev :=
  { d with tta := { d.tta with tcap := tset Tcap.empty t k d.tta.tcap } }

/-- An edge at the land of a TCAP pin. -/
def Dev.tcapEdge (d : Dev) (k : Nat) (falling : Bool) : Dev :=
  let t := d.tcap k
  let now := d.ns256
  let apart : Bool := (t.lastEdge.map (fun e => decide (e + 2560 ≤ now))).getD true
  let sel := bit (b2n falling) (d.fld (TTA_TCAP_CFG_EDGE k))
  let t := { t with lastEdge := some now }
  let owner := d.fld (TTA_TCAP_CFG_OWNER k)
  if owner = 15 then d
  else if !apart ∨ !sel then d.setTcap k t
  else if t.fifo.length < 16 then
    let d := d.setTcap k { t with fifo := t.fifo ++ [{ time256 := now, falling := falling }], burst := false }
    let src := 24 + d.fld (TTA_TCAP_CFG_IRQ_SEL k)
    if d.on (TTA_TCAP_CFG_IRQ_EN k) ∧ d.fld (IRQ_ROUTE_OWNER src) = owner then d.raise src else d
  else
    let d := d.setTcap k { t with ovf := incW 8 t.ovf, burst := true }
    if t.burst then d else d.post 0x22 0x0007 1 9 k

def execTcapEdge (dt k : Nat) (falling : Bool) (s : State) : Host.Outcome State Fault Refusal :=
  s.onDev dt (k < 8) (·.tcapEdge k falling)

/-- A read of TTA_TCAPk_TS_LO pops the oldest entry and latches TS_HI and INFO. -/
def Dev.tcapPop (d : Dev) (k : Nat) : Dev :=
  let t := d.tcap k
  match t.fifo with
  | [] =>
    (((d.wr (TTA_TCAP_TS_LO k) 0).wr (TTA_TCAP_TS_HI k) 0).wr (TTA_TCAP_INFO k) (t.ovf * 2 ^ 24)).returns 0
  | e :: rest =>
    let ns := e.time256 / 256
    let d := ((d.setTcap k { t with fifo := rest }).wr (TTA_TCAP_TS_LO k) ns).wr (TTA_TCAP_TS_HI k) (ns / 2 ^ 32)
    let d := d.wr (TTA_TCAP_INFO k)
      (e.time256 % 256 + 256 * b2n e.falling + 512 + 65536 * rest.length + t.ovf * 2 ^ 24)
    d.returns (ns % 2 ^ 32)

def execTcapPop (dt : Nat) (a : Acc) (k : Nat) (s : State) : Host.Outcome State Fault Refusal :=
  s.onDevM dt (k < 8) fun m d => d.regRead m a (TTA_TCAP_TS_LO k) (·.tcapPop k)

/-- A coach's slots disarm and its TCAP FIFOs empty (R453). -/
def Dev.ttaCoachReset (d : Dev) (c : Nat) : Dev :=
  let d := d.each ((List.range 64).filter (fun n => d.fld (TTA_SLOT_CFG_OWNER n) == c)) (fun n d => d.slotDisarm n)
  d.each ((List.range 8).filter (fun k => d.fld (TTA_TCAP_CFG_OWNER k) == c)) (fun k d =>
    d.setTcap k { (d.tcap k) with fifo := [] })

end Sys2Proof.Machine
end

