-- ==== Sys2Proof/Machine/TimeBase.lean ====
section
/-! DEFINITION. The time base: the servo of the primary domain, refusals, forward steps, and the other domains
(spec/03, R66–R90; R59, R60). -/

namespace Sys2Proof.Machine

open R

def Dev.primary (d : Dev) : Nat := d.fld TIME_CTL_PRIMARY

/-- The limit of R76 in ns. -/
def Dev.jumpLimit (d : Dev) : Int := (d.fld TIME_JUMP_LIMIT_NS_VALUE : Nat)

/-- A record of the time base: an offset or step in ns, and a grandmaster. -/
def Dev.timePost (d : Dev) (code sev : Nat) (ofs : Int) (gm : Nat) : Dev :=
  let o := unsgn 64 ofs
  d.post 0x20 code sev 9 d.primary [o % 2 ^ 32, o / 2 ^ 32, gm % 2 ^ 32, gm / 2 ^ 32 % 2 ^ 32]

/-- A free value from `-n` to `n`. -/
def Dev.freshSym (d : Dev) (n : Nat) : Int × Dev :=
  let r := d.fresh 18
  (((r.1 % (2 * n + 1) : Nat) : Int) - (n : Int), r.2)

/-- The servo corrects by rate (R75): it estimates the grandmaster's rate, a free value within ±200 ppm (R67), since the
spec does not give the estimator; once the device has locked, the rate departs from the estimate by at most
TIME_SLEW_PPM. In lock the estimate is the one that R73 falls back on. -/
def Dev.freshFreq (d : Dev) : Dev :=
  let e := d.freshSym 80000
  let c := e.2.freshSym (if d.on TIME_STS_EVER_LOCKED then 400 * d.fld TIME_SLEW_PPM_VALUE else 160000)
  let d := c.2.wr TIME_FREQ (unsgn 32 (clampInt (-80000) 80000 (e.1 + c.1)))
  { d with tim := { d.tim with
    drift := 0, lockFreq := if d.fld TIME_STS_STATE = 1 then e.1 else d.tim.lockFreq } }

/-- The drift of the time clock without corrections: a free value within ±5 ppm on REFCLK, else ±50 ppm (R25, R92). -/
def Dev.drifts (d : Dev) : Dev :=
  let x := d.freshSym (if d.on CLK_STS_REF then 2000 else 20000)
  { x.2 with tim := { x.2.tim with drift := x.1 } }

/-- Without corrections the device time runs at the last frequency in lock, or at the nominal rate before any lock
(R73). -/
def Dev.freeRun (d : Dev) : Dev :=
  if d.on TIME_STS_EVER_LOCKED then (d.wr TIME_FREQ (unsgn 32 d.tim.lockFreq)).drifts else d.wr TIME_FREQ 0

/-- TIME_LOCK_SECS as it reads (R73). -/
def Dev.lockSecs (d : Dev) : Nat :=
  if d.fld TIME_STS_STATE = 1 then min ((d.up - d.tim.lockUp) / 1000000000) (2 ^ 32 - 1) else d.rn TIME_LOCK_SECS

/-- The servo takes a state: 0 = ACQUIRE, 1 = LOCKED, 2 = HOLDOVER, 3 = GRANDMASTER; the stage engine follows the
holdover of its domain (R59), and the fabric the first synchronisation. -/
def Dev.tsState (d : Dev) (st : Nat) : Dev :=
  let old := d.fld TIME_STS_STATE
  if old = st then d
  else
    let d := (d.put TIME_STS_STATE st).put (TIME_DOM_STS_STATE d.primary) st
    let d := (d.raiseIf TIME_INT_EN_STATE 16).put STG_STS_LOCKED (b2n (st == 1))
    let d := if st = 1 ∨ st = 3 then d.fabSynced else d
    if st = 2 then
      (((d.set STG_STS_HOLDOVER).set STG_STS_HOLDOVER_SEEN).raiseIf STG_INT_EN_SYNC 22).post 0x21 0x0005 0 9
        (d.fld STG_CTL_DOMAIN)
    else if old = 2 then
      ((d.clr STG_STS_HOLDOVER).raiseIf STG_INT_EN_SYNC 22).post 0x21 0x0006 0 9 (d.fld STG_CTL_DOMAIN)
    else d

/-- The servo leaves LOCKED or GRANDMASTER (R72). -/
def Dev.loseLock (d : Dev) (ofs : Int) (gm : Nat) : Dev :=
  let n := d.lockSecs
  let d := d.timePost 0x0002 0 ofs gm
  let d := (d.wr TIME_LOCK_SECS n).put TIME_STS_HOLDOVER_AVAIL (b2n (decide (64 ≤ n)))
  let d : Dev := { d with tim := { d.tim with good := 0, bad := 0 } }
  (d.tsState (if 64 ≤ n then 2 else 0)).freeRun

/-- The servo enters LOCKED (R72, R76). -/
def Dev.enterLock (d : Dev) (ofs : Int) (gm : Nat) : Dev :=
  let d := ((d.set TIME_STS_EVER_LOCKED).clr TIME_STS_HOLDOVER_AVAIL).wr TIME_LOCK_SECS 0
  let d := d.wrPair TIME_GMID_LO TIME_GMID_HI gm
  let mine : Bool := d.on TIME_STS_PENDING && d.pair TIME_PEND_GMID_LO TIME_PEND_GMID_HI == gm
  let d := if mine then d.clr TIME_STS_PENDING else d
  let d : Dev := { d with tim := { d.tim with
    lockUp := d.up, good := 0, bad := 0, held := some gm, series := if mine then none else d.tim.series } }
  (d.tsState 1).timePost 0x0001 0 ofs gm

/-! ### Forward steps (R60, R63, R79, R101, R275) -/

/-- The grid after a forward step that began at device time `pre` ns. DESIGN CHOICE: before the first tick, which code
0x0004 has no previous tick to count from, its instance is 0 (assumption 100). -/
def Dev.realign (d : Dev) (size : Nat) : Dev :=
  if d.boot.phase ≠ .sealed then d
  else
    let P := d.fld STG_PERIOD_NS_NS
    let now := d.domNs
    let n := now / P
    let stepped := d.stg.stepped + size
    let next := (n + 1) * P
    let next := match d.stg.lastTick with
      | some t => if 2 * (next - t - stepped) < P then next + P else next
      | none => next
    let skipped := match d.stg.lastTick with
      | some t => min ((next - t) / P - 1) 65535
      | none => 0
    let d := (d.set STG_STS_REALIGNED).raiseIf STG_INT_EN_SYNC 22
    let d := d.post 0x21 0x0004 0 9 skipped
    let d := if d.stg.lastTick.isSome then d.each (List.range 48) (fun p d => d.shaper p) else d
    { d with stg := { d.stg with
      nextTick := next, realigned := true, stepped := stepped,
      gates := if d.stg.lastTick.isSome then
          (List.range 48).foldl (fun t p => tset 0xFF (d.gateAt p (n % 2 ^ d.fld STG_CTL_CYCLE_LOG2) (now % P)) p t) d.stg.gates
        else d.stg.gates } }

/-- The armed slots whose next instant a step has passed (R101). -/
def Dev.stepSlots (d : Dev) (m : Mem) : Dev × Mem :=
  ((List.range 64).filter (fun n => (d.slot n).armed && decide ((d.slot n).instant (d.slot n).next < d.ns256))).foldl
    (fun r n => r.1.slotLate r.2 n (r.1.slot n) true) (d, m)

/-- A forward step of the device time by `ofs256` / 256 ns (R79). -/
def Dev.stepTime (d : Dev) (m : Mem) (ofs256 : Nat) : Dev × Mem :=
  let d := d.wrPair TIME_STEP_PRE_LO TIME_STEP_PRE_HI d.ns
  let d : Dev := { d with tim := { d.tim with dev := d.tim.dev + 256 * ofs256 } }
  let d := d.wrPair TIME_STEP_SIZE_LO TIME_STEP_SIZE_HI (ofs256 / 256)
  let d := (d.set TIME_STS_STEPPED).raiseIf TIME_INT_EN_STATE 16
  (d.realign (ofs256 / 256)).cadStep.stepSlots m

/-! ### Syncs (R70, R72, R75–R77, R80) -/

/-- A status bit of TIME_STS, the code and whether the offset is held as pending, by the cause of a refusal (R76). -/
def RefCause.info : RefCause → Fld × Nat × Bool
  | .jump => (TIME_STS_JUMP_REFUSED, 0x0003, true)
  | .gmChange => (TIME_STS_GM_CHANGE, 0x0004, true)
  | .backward => (TIME_STS_BACK_REFUSED, 0x0005, false)

/-- An offset is refused (R76, R77). -/
def Dev.refuseSync (d : Dev) (c : RefCause) (ofs256 : Int) (gm : Nat) : Dev :=
  let ofs := ofs256 / 256
  let again : Bool := d.tim.series == some (c, gm)
  let d : Dev := { d with tim := { d.tim with series := some (c, gm), good := 0 } }
  let d := if c.info.2.2 then
      ((d.set TIME_STS_PENDING).wrPair TIME_PEND_OFS_LO TIME_PEND_OFS_HI (unsgn 64 ofs)).wrPair
        TIME_PEND_GMID_LO TIME_PEND_GMID_HI gm
    else d
  if again then d
  else
    let d := if c.info.2.2 then d.bump TIME_PEND_SEQ else d
    let d := ((d.set c.info.1).raiseIf TIME_INT_EN_REFUSAL 17).timePost c.info.2.1 1 ofs gm
    if d.fld TIME_STS_STATE = 1 then d.loseLock ofs gm else d.freeRun

/-- An offset within the limit (R72, R75). DEDUCED: one valid Sync takes HOLDOVER to LOCKED (assumption 75). The rate that
the Sync which enters LOCKED gives is the first one estimated in lock (R73). -/
def Dev.goodSync (d : Dev) (ofs256 : Int) (gm : Nat) : Dev :=
  let d : Dev := { d with tim := { d.tim with series := none } }
  let a := ofs256.natAbs
  let thr := 256 * d.fld TIME_SERVO_CFG_LOCK_THR
  match d.fld TIME_STS_STATE with
  | 0 =>
    let n := if a ≤ thr then d.tim.good + 1 else 0
    let d : Dev := { d with tim := { d.tim with good := n } }
    if n ≠ 0 ∧ d.fld TIME_SERVO_CFG_LOCK_CNT ≤ n then (d.enterLock (ofs256 / 256) gm).freshFreq else d.freshFreq
  | 1 =>
    let d := d.freshFreq
    let n := if 4 * thr < a then d.tim.bad + 1 else 0
    let d : Dev := { d with tim := { d.tim with bad := n } }
    if 4 ≤ n then d.loseLock (ofs256 / 256) gm else d
  | _ => (d.enterLock (ofs256 / 256) gm).freshFreq

/-- While PENDING is set, every Sync of the refused master updates the tracked offset (R77). -/
def Dev.trackPending (d : Dev) (ofs256 : Int) (gm : Nat) : Dev :=
  if d.on TIME_STS_PENDING ∧ d.pair TIME_PEND_GMID_LO TIME_PEND_GMID_HI = gm then
    d.wrPair TIME_PEND_OFS_LO TIME_PEND_OFS_HI (unsgn 64 (ofs256 / 256))
  else d

/-- A Sync of the primary domain. DESIGN CHOICE: an exempt first Sync within the limit also counts toward LOCK_CNT, so that
with LOCK_CNT = 1 it locks at once; R72's first row names only ACQUIRE (assumption 99). -/
def Dev.primarySync (d : Dev) (m : Mem) (ofs256 : Int) (gm : Nat) : Dev × Mem :=
  let d := d.wr TIME_OFFSET (unsgn 32 (clampInt (-(2 ^ 31 - 1)) (2 ^ 31 - 1) ofs256))
  let d := d.trackPending ofs256 gm
  let lim := 256 * d.jumpLimit
  if (d.tim.held.map (fun h => decide (h ≠ gm))).getD false then (d.refuseSync .gmChange ofs256 gm, m)
  else if ofs256 < -lim then (d.refuseSync .backward ofs256 gm, m)
  else if d.on TIME_STS_EXEMPT_AVAIL then
    let d : Dev := { (d.clr TIME_STS_EXEMPT_AVAIL) with tim := { d.tim with held := some gm } }
    if lim < ofs256 then
      let d : Dev := { d with tim := { d.tim with series := none, good := 0 } }
      let r := d.stepTime m ofs256.toNat
      (r.1.timePost 0x0007 0 (ofs256 / 256) gm, r.2)
    else (d.goodSync ofs256 gm, m)
  else if lim < ofs256 then (d.refuseSync .jump ofs256 gm, m)
  else (d.goodSync ofs256 gm, m)

/-- The time base hears a port: 802.1AS runs there, siding does not keep it silent (R238), and it is not the analysis port
of an active tow mirror (R208). -/
def Dev.ptpPort (d : Dev) (p : Nat) : Bool :=
  d.towPort != some p && d.on (TIME_PORT_CFG_EN p) && d.on (PORT_STS_LINK p) && (d.fld (SID_PORT_STS_STATE p) == 0 ||
    (d.fld (SID_PORT_STS_STATE p) == 1 && d.on (SID_PORT_CFG_KEEP_PTP p)))

/-- The time base takes Syncs and Announces of a port: one that is asCapable (IEEE 802.1AS-2020, 11.2). DESIGN CHOICE: a
10BASE-T1S port, which measures no peer delay (R87), counts as asCapable (assumption 76). -/
def Dev.ptpTakes (d : Dev) (p : Nat) : Bool := d.ptpPort p && (14 ≤ p || d.on (TIME_PORT_CFG_ASCAPABLE p))

/-- The grandmaster of a domain changes. -/
def Dev.domGm (d : Dev) (dom gm : Nat) : Dev :=
  let old := tget 0 d.tim.domGm dom
  let d := if old ≠ 0 ∧ old ≠ gm then d.set (TIME_DOM_STS_GM_CHANGE dom) else d
  { d with tim := { d.tim with domGm := tset 0 gm dom d.tim.domGm } }

/-! ### The BMCA (R85) -/

/-- The eight bytes of a clockIdentity in the other order: octet 0, which the registers hold lowest, stands first. -/
def swap64 (n : Nat) : Nat := beNat (leBytes 8 n)

/-- The priority vector of IEEE 802.1AS as one number, less being better: priority1, clock quality, priority2 and
clockIdentity of the grandmaster, stepsRemoved, the sending port's identity, and the receiving port. -/
def annVector (x : Announce) (port : Nat) : Nat :=
  (((((x.prio1 % 256 * 2 ^ 32 + x.quality % 2 ^ 32) * 256 + x.prio2 % 256) * 2 ^ 64 + swap64 x.gm) * 2 ^ 16 +
    x.steps % 2 ^ 16) * 2 ^ 80 + swap64 x.srcClock * 2 ^ 16 + x.srcPort % 2 ^ 16) * 16 + port

/-- The device's own vector in a domain. -/
def Dev.ownVector (d : Dev) (dom : Nat) : Nat :=
  annVector
    { prio1 := d.fld (TIME_DOM_MPORTS_PRIORITY1 dom), quality := Config.clockQuality,
      prio2 := d.fld (TIME_DOM_MPORTS_PRIORITY2 dom), gm := Config.clockIdentity, steps := 0,
      srcClock := Config.clockIdentity, srcPort := 0 } 0

/-- A domain uses a port, as slave or as master (R87). -/
def Dev.domUses (d : Dev) (dom port : Nat) : Bool :=
  d.on (TIME_DOM_CFG_EN dom) && (!d.on (TIME_DOM_CFG_MODE dom) || bit port (d.fld (TIME_DOM_MPORTS_MASK dom)) ||
    (!d.on (TIME_DOM_CFG_NO_SPORT dom) && d.fld (TIME_DOM_CFG_SPORT dom) == port))

/-- A domain has a port: a T1S port serves one domain (R87). DEDUCED: where the consist gives it to several, it serves the
lowest (assumption 76). -/
def Dev.domPort (d : Dev) (dom port : Nat) : Bool :=
  port < 14 || ((List.range 4).find? (fun k => d.domUses k port)) == some dom

/-- The best Announce of a domain, with its port: of those that ports of the domain hold which the time base hears. -/
def Dev.bestAnn (d : Dev) (dom : Nat) : Option (Nat × Announce) :=
  let l := (d.tim.ann.filter (fun x => x.1 / 16 == dom && d.domPort dom (x.1 % 16) && d.ptpTakes (x.1 % 16))).map (fun x => (x.1 % 16, x.2))
  l.foldl (fun b x => match b with
    | none => some x
    | some y => if annVector x.2 x.1 < annVector y.2 y.1 then some x else b) none

/-- The Announce that the BMCA selects, with its port (R85): none where the device's own vector is the best. -/
def Dev.bestMaster (d : Dev) (dom : Nat) : Option (Nat × Announce) :=
  (d.bestAnn dom).bind (fun x =>
    if d.on (TIME_DOM_CFG_GM_CAPABLE dom) ∧ d.ownVector dom < annVector x.2 x.1 then none else some x)

/-- The slave port of a domain: SPORT under external port configuration, else the one that the BMCA selects (R85). -/
def Dev.slavePort (d : Dev) (dom : Nat) : Option Nat :=
  if d.on (TIME_DOM_CFG_MODE dom) then
    (if d.on (TIME_DOM_CFG_NO_SPORT dom) then none else some (d.fld (TIME_DOM_CFG_SPORT dom)))
  else (d.bestMaster dom).map (·.1)

/-- A T1S port takes the Syncs of its domain that come from PLCA_NODE alone (R87). -/
def Dev.t1sTakes (d : Dev) (dom port node : Nat) : Bool :=
  d.domPort dom port && (port < 14 || d.fld (TIME_PORT_CFG_PLCA_NODE port) == node)

/-- The offset of the grandmaster in 1/256 ns: what the Sync's origin time is ahead of its ingress time, with the mean link
delay and the effective asymmetry of the port added (R87, R88). -/
def Dev.syncOffset (d : Dev) (port : Nat) (diff256 : Int) : Int :=
  diff256 + (d.rn (TIME_PORT_DELAY port) : Nat) + sgn 32 (d.rn (TIME_PORT_CAL port)) + sgn 32 (d.rn (TIME_PORT_ASYM port))

/-- A Sync of a secondary domain (R70): its offset, and its rate ratio, whose estimator the spec does not give. -/
def Dev.secondarySync (d : Dev) (dom : Nat) (ofs256 : Int) : Dev :=
  let r := d.fresh 32
  let d := { r.2 with tim := { r.2.tim with ratio := tset 0 r.1 dom r.2.tim.ratio } }
  (d.put (TIME_DOM_STS_STATE dom) 1).wrPair (TIME_DOM_OFS_LO dom) (TIME_DOM_OFS_HI dom) (unsgn 64 (ofs256 / 256))

/-- A Sync of a domain at a port, on a T1S bus from a PLCA node: `diff256` is its origin time, corrected, less its ingress
time, in 1/256 ns. -/
def Dev.sync (d : Dev) (m : Mem) (dom port node : Nat) (diff256 : Int) (gm : Nat) : Dev × Mem :=
  if !d.on (TIME_DOM_CFG_EN dom) ∨ !d.ptpTakes port ∨ d.slavePort dom ≠ some port ∨ !d.t1sTakes dom port node ∨
      d.tim.mode ≠ .servo ∨ d.fld (TIME_DOM_STS_STATE dom) = 3 then (d, m)
  else if dom = d.primary then (d.domGm dom gm).primarySync m (d.syncOffset port diff256) gm
  else ((d.domGm dom gm).secondarySync dom (d.syncOffset port diff256), m)

def execSyncReceived (dt dom port : Nat) (diff256 : Int) (src : SyncFrom) (s : State) :
    Host.Outcome State Fault Refusal :=
  s.onAll dt (dom < 4 && port < 16) fun m d => d.sync m dom port src.node diff256 src.gm

/-- The device is grandmaster of the primary domain (R72). -/
def Dev.beGrandmaster (d : Dev) : Dev :=
  let d := (d.wrPair TIME_GMID_LO TIME_GMID_HI Config.clockIdentity).tsState 3
  { d with tim := { d.tim with held := some Config.clockIdentity } }

/-- The BMCA selects the grandmaster of a domain, none for this device (R72, R85). DEDUCED: a GRANDMASTER that gives way
to another clock posts code 0x0002 at once, and GM_CHANGE, PENDING and code 0x0004 come with that clock's first Sync,
which brings the offset to hold (assumption 77). -/
def Dev.bmca (d : Dev) (dom : Nat) : Dev :=
  if !d.on (TIME_DOM_CFG_EN dom) ∨ d.on (TIME_DOM_CFG_MODE dom) then d
  else
    let prim : Bool := dom == d.primary
    let capable := d.on (TIME_DOM_CFG_GM_CAPABLE dom)
    let best := (d.bestMaster dom).map (·.2.gm)
    match best with
    | none =>
      if !capable then d
      else if prim then (if d.fld TIME_STS_STATE = 0 then d.beGrandmaster else d)
      else d.put (TIME_DOM_STS_STATE dom) 3
    | some gm =>
      let own := d.fld (TIME_DOM_STS_STATE dom) = 3
      let d := d.domGm dom gm
      if !own then d
      else if prim then d.loseLock 0 gm
      else d.clr (TIME_DOM_STS_STATE dom)

/-- An Announce of a domain arrives at a port, or with `info` none the port's last one no longer holds: the BMCA runs
(R85). A port that the time base does not hear takes none (R208, R238), nor does one that is not asCapable. -/
def Dev.announce (d : Dev) (dom port : Nat) (info : Option Announce) : Dev :=
  if info.isSome ∧ !d.ptpTakes port then d else
  let l := match info with
    | some x => tput (16 * dom + port) x (terase (16 * dom + port) d.tim.ann)
    | none => terase (16 * dom + port) d.tim.ann
  ({ d with tim := { d.tim with ann := l } } : Dev).bmca dom

def execAnnounceReceived (dt dom : Nat) (heard : Heard) (s : State) : Host.Outcome State Fault Refusal :=
  s.onDev dt (dom < 4 && heard.port < 16) (·.announce dom heard.port heard.info)

/-- Three Sync intervals pass without a Sync (R72). -/
def execSyncReceiptTimeout (dt dom : Nat) (s : State) : Host.Outcome State Fault Refusal :=
  s.onDev dt (dom < 4) fun d =>
    if dom = d.primary then
      let d : Dev := { d with tim := { d.tim with good := 0 } }
      if d.fld TIME_STS_STATE = 1 then (d.loseLock (sgn 32 (d.rn TIME_OFFSET) / 256) (d.tim.held.getD 0)).bmca dom
      else if d.fld TIME_STS_STATE = 0 then d.freeRun else d
    else if d.fld (TIME_DOM_STS_STATE dom) = 1 then d.clr (TIME_DOM_STS_STATE dom)
    else d

/-- A peer-delay exchange of a port ends: the mean link delay in 1/256 ns, or none when it failed (R85). A port that
exchanges is asCapable; three failures in a row make a fault. -/
def execPdelayExchange (dt port : Nat) (delay : Option Nat) (s : State) : Host.Outcome State Fault Refusal :=
  s.onDev dt (port < 14) fun d =>
    if !d.ptpPort port then d
    else
      match delay with
      | some v =>
        let chg : Bool := !d.on (TIME_PORT_CFG_ASCAPABLE port) || d.on (TIME_PORT_CFG_PDELAY_FAULT port)
        let d : Dev := { d with tim := { d.tim with pdFails := terase port d.tim.pdFails } }
        let d := ((d.wr (TIME_PORT_DELAY port) v).set (TIME_PORT_CFG_ASCAPABLE port)).clr (TIME_PORT_CFG_PDELAY_FAULT port)
        if chg then d.raiseIf TIME_INT_EN_PORT 18 else d
      | none =>
        let n := tget 0 d.tim.pdFails port + 1
        let d : Dev := { d with tim := { d.tim with pdFails := tset 0 n port d.tim.pdFails } }
        if n < 3 ∨ d.on (TIME_PORT_CFG_PDELAY_FAULT port) then d
        else
          (((d.set (TIME_PORT_CFG_PDELAY_FAULT port)).clr (TIME_PORT_CFG_ASCAPABLE port)).raiseIf TIME_INT_EN_PORT 18).post
            0x20 0x000B 1 9 port

/-! ### TIME_ACCEPT (R78) and the holdover bit (R73) -/

def Dev.acceptFail (d : Dev) : Dev :=
  ((d.set TIME_STS_ACCEPT_FAIL).raiseIf TIME_INT_EN_REFUSAL 17).timePost 0x0008 1
    (sgn 64 (d.pair TIME_PEND_OFS_LO TIME_PEND_OFS_HI)) (d.pair TIME_PEND_GMID_LO TIME_PEND_GMID_HI)

/-- A write of TIME_ACCEPT. DESIGN CHOICE: R72 has no row for one that succeeds in LOCKED or GRANDMASTER, where another
master's correction is pending; the servo goes to ACQUIRE, without code 0x0002 (assumption 78). -/
def Dev.timeAccept (d : Dev) (m : Mem) (v : Nat) : Dev × Mem :=
  let ofs := sgn 64 (d.pair TIME_PEND_OFS_LO TIME_PEND_OFS_HI)
  let gm := d.pair TIME_PEND_GMID_LO TIME_PEND_GMID_HI
  if v % 65536 ≠ 0xACCE ∨ v / 65536 ≠ d.rn TIME_PEND_SEQ % 65536 ∨ !d.on TIME_STS_PENDING ∨ ofs < -d.jumpLimit then
    (d.acceptFail, m)
  else
    let n := d.lockSecs
    let d := ((d.clr TIME_STS_PENDING).clr TIME_STS_EXEMPT_AVAIL).wrPair TIME_GMID_LO TIME_GMID_HI gm
    let d : Dev := { d with tim := { d.tim with held := some gm, series := none, good := 0, bad := 0 } }
    let d := (d.wr TIME_LOCK_SECS n).put TIME_STS_HOLDOVER_AVAIL (b2n (decide (64 ≤ n)))
    let d := d.tsState 0
    let r := if d.jumpLimit < ofs then d.freeRun.stepTime m (256 * ofs.toNat) else (d.freshFreq, m)
    (r.1.timePost 0x0006 0 ofs gm, r.2)

def execTimeAccept (dt : Nat) (a : Acc) (v : Nat) (s : State) : Host.Outcome State Fault Refusal :=
  s.onAll dt true fun m d => d.regWriteM m a TIME_ACCEPT (fun m d => d.timeAccept m v)

/-- 64 s of unbroken lock (R73). -/
def execHoldoverAvailReached (dt : Nat) (s : State) : Host.Outcome State Fault Refusal :=
  s.onDev dt true fun d =>
    if d.fld TIME_STS_STATE = 1 ∧ 64 ≤ d.lockSecs then d.set TIME_STS_HOLDOVER_AVAIL else d

end Sys2Proof.Machine
end

