-- ==== Sys2Proof/Machine/Worlds.lean ====
section
/-! DEFINITION. The commands of the coaches, worlds, the ownership manifest and the interrupts (spec/13,
R327–R351). -/

namespace Sys2Proof.Machine

open R

/-- A rule gives a core an exception, whose entry the Core Reference describes (R340). -/
def Dev.except (d : Dev) (k e : Nat) : Dev := { d with wld := { d.wld with exc := tset 0 e k d.wld.exc } }

/-- GCALL (R340, R344). -/
def execGcall (dt core imm : Nat) (s : State) : Host.Outcome State Fault Refusal :=
  s.onDev dt (core < 12) fun d =>
    if !d.frm.beyvoUp then d
    else if d.inGuard core then d.except core 1
    else if d.on (MAN_CORE_GINFO_REMEASURING core) then
      { d with wld := { d.wld with result := tset 0 0xFFFF0002 core d.wld.result } }
    else
      let d := d.tallyC core 0x0C 1
      let d := (d.put (MAN_CORE_GINFO_IMM core) imm).put (MAN_CORE_GINFO_CALLER core) (d.fld (MAN_CORE_CFG_OWNER core))
      d.enterGuard core

/-- GRET (R340, R344). -/
def execGret (dt core : Nat) (s : State) : Host.Outcome State Fault Refusal :=
  s.onDev dt (core < 12) fun d =>
    if !d.frm.beyvoUp then d
    else if d.fld (MAN_CORE_CFG_OWNER core) = 8 ∨ !d.on (MAN_CORE_GINFO_IN_GUARD core) then d.except core 1
    else d.leaveGuard core

/-- The Guard time limit of a core expires, in a later cycle than that in which a GRET would win (R342, R344). -/
def execGuardTimeLimitExpiry (dt core : Nat) (s : State) : Host.Outcome State Fault Refusal :=
  s.onDev dt (core < 12) fun d =>
    if tget 0 d.wld.glimit core = 0 ∨ d.up / 10 ≤ tget 0 d.wld.glimit core / 10 then d
    else
      let d := d.leaveGuard core
      let d : Dev := { d with wld := { d.wld with result := tset 0 0xFFFF0001 core d.wld.result } }
      let d := (d.set MAN_STS_GLIMIT).raiseIf MAN_INT_EN_GLIMIT 362
      d.faultPost 2 0x05 0x0004 8 core [] { core := some core }

/-! ### Cores leaving reset (R356, R422, R455) -/

/-- The cores of an owner. -/
def Dev.coresOf (d : Dev) (o : Nat) : List Nat := (List.range 12).filter (fun k => d.fld (MAN_CORE_CFG_OWNER k) == o)

/-- The start condition of a coach holds (R422). -/
def Dev.startCond (d : Dev) (c : Nat) : Bool :=
  let need := d.fld (SYS_COACH_START_NEED c)
  let ports := d.fld SYS_READY_PORTS_LO_PORTS + 4096 * d.fld SYS_READY_PORTS_HI_PORTS
  let wait := d.fld (SYS_COACH_PWAIT_PWAIT c)
  (need &&& d.fld SYS_READY_BLOCKS) == need && (wait &&& ports) == wait &&
    (!d.on (SYS_COACH_START_GUARD c) || d.on SYS_CTL_GUARD_GO)

/-- The coach is of class D and runs on a DEGRADED pair (R362). -/
def Dev.dDegraded (d : Dev) (c : Nat) : Bool :=
  d.fld (MAN_COACH_CFG_CRIT c) == 2 && (d.coresOf c).any (fun k => k < 8 && d.fld (TAN_PAIR_STS_STATE (k / 2)) == 2)

/-- A core of the owner lies in a pair that waits for its re-measurement (R356). -/
def Dev.pairHeld (d : Dev) (o : Nat) : Bool :=
  (d.coresOf o).any (fun k => k < 8 && d.tan.held.contains (k / 2) && d.on (MAN_CORE_GINFO_REMEASURING (k / 2 * 2)))

/-- A pair leaves reset, in TANDEM again where it was; its fold starts anew (R356, R357). -/
def Dev.pairUp (d : Dev) (p : Nat) : Dev :=
  let d := if d.fld (TAN_PAIR_STS_STATE p) = 3 then d.put (TAN_PAIR_STS_STATE p) 1 else d
  ({ d with tan := { d.tan with
    held := d.tan.held.filter (· ≠ p), fold := terase p d.tan.fold, foldAcc := terase p d.tan.foldAcc,
    foldSince := terase p d.tan.foldSince } } : Dev).when (!d.dbg.halted.contains (2 * p)) (·.foldGo p)

/-- The cores of an owner leave reset: both of a pair, with the pair in TANDEM again; of a DEGRADED pair the leader
alone. -/
def Dev.coresRun (d : Dev) (o : Nat) : Dev :=
  let l := (d.coresOf o).filter (fun k => !(k < 8 && k % 2 == 1 && d.fld (TAN_PAIR_STS_STATE (k / 2)) == 2))
  let d := d.each (l.filter (fun k => k < 8)) (fun k d => d.pairUp (k / 2))
  { d with wld := { d.wld with running := l.foldl (fun r k => insertNat k r) d.wld.running } }

/-- A coach in reset is released as soon as it may be (R356, R362, R455). -/
def Dev.coachRelease (d : Dev) (c : Nat) : Dev :=
  if d.frm.inReset.contains c ∧ !d.frm.held.contains c ∧ d.startCond c ∧ !d.dDegraded c ∧ !d.pairHeld c then
    ({ d with frm := { d.frm with inReset := d.frm.inReset.filter (· ≠ c) } } : Dev).coresRun c
  else d

/-- The cores that waited for a re-measurement leave reset (R356): a Guard pair's at once, a coach's with the coach. -/
def Dev.pairRun (d : Dev) (k : Nat) : Dev :=
  let o := d.fld (MAN_CORE_CFG_OWNER k)
  if 8 ≤ k ∨ !d.tan.held.contains (k / 2) then d
  else if o = 8 then
    let d := d.pairUp (k / 2)
    { d with wld := { d.wld with running := insertNat (k / 2 * 2) d.wld.running } }
  else if o < 8 then d.coachRelease o
  else d

/-- The page of a manifest index: its base address and its size in bytes; 0 bytes for control space (R331). -/
def pageOf (i : Nat) : Nat × Nat :=
  if i < 6144 then (0x10000000 + 4096 * i, 4096)
  else if i < 137216 then (0x100000000 + 65536 * (i - 6144), 65536)
  else (0x40000000 + 4096 * (i - 137216), 0)

/-- Every page of owner 0x8 with X set, in ascending address order (R343, R419). -/
def guardPages (m : Mem) : List Nat :=
  ((List.range 137216).filter (fun i => entryOwner (Mem.entry m i) == 8 && entryX (Mem.entry m i))).flatMap (fun i =>
    Mem.bytes m (pageOf i).1 (pageOf i).2)

/-- The Guard pages measure as at boot (R343, R419). -/
def Dev.guardIntact (d : Dev) (m : Mem) : Bool :=
  let g := shaBytes (guardPages m)
  (List.range 12).all (fun i => d.rn (SYS_MEAS_GUARD i) == leNat ((g.drop (4 * i)).take 4))

/-- Re-measurement of the Guard pages ends (R343, R344). -/
def execRemeasurementDone (dt core : Nat) (s : State) : Host.Outcome State Fault Refusal :=
  s.onDevM dt (core < 12) fun m d =>
    if !d.on (MAN_CORE_GINFO_REMEASURING core) then d
    else if d.guardIntact m then
      let d := d.clr (MAN_CORE_GINFO_REMEASURING core)
      let d := d.pairRun core
      ((d.bumpF (MAN_CORE_GINFO_RESTART_CNT core)).set (MAN_CORE_GINFO_RESTARTED core)).post 0x05 0x0005 0 9 core
    else d.faultPost 3 0x05 0x0006 9 core

/-- A read of MAN_COREk_GINFO clears RESTARTED and NOT_QUIESCED (R344); a Guard core is always in the Guard world (R328). -/
def Dev.ginfoRead (d : Dev) (k : Nat) : Dev :=
  let v := putBits (MAN_CORE_GINFO_IN_GUARD k).hi (MAN_CORE_GINFO_IN_GUARD k).lo (d.rn (MAN_CORE_GINFO k)) (b2n (d.inGuard k))
  ((d.clr (MAN_CORE_GINFO_RESTARTED k)).clr (MAN_CORE_GINFO_NOT_QUIESCED k)).returns v

def execManGinfoRead (dt : Nat) (a : Acc) (core : Nat) (s : State) : Host.Outcome State Fault Refusal :=
  s.onDevM dt (core < 12) fun m d => d.regRead m a (MAN_CORE_GINFO core) (·.ginfoRead core)

/-! ### Manifest edits (R332, R337, R338) -/

/-- MAN_EDIT_CMD: GO with the key starts an edit, unless one runs (R337). -/
def Dev.editCmd (d : Dev) (v : Nat) : Dev :=
  if bits 31 16 v = 0x3A11 ∧ bit 0 v ∧ !d.on MAN_EDIT_STS_BUSY then
    { (d.set MAN_EDIT_STS_BUSY) with
      wld := { d.wld with edit := some (d.fld MAN_EDIT_IDX_IDX, d.rn MAN_EDIT_VAL) } }
  else d

def execManEditCmd (dt : Nat) (a : Acc) (v : Nat) (s : State) : Host.Outcome State Fault Refusal :=
  s.onDevM dt true fun m d => d.regWrite m a MAN_EDIT_CMD (·.editCmd v)

/-- Memory after an accepted edit: a change of OWNER or WORLD zeroises the page first (R338). -/
def editMem (m : Mem) (i v : Nat) : Mem :=
  let m := if editMoves m i v then Mem.zero m (pageOf i).1 (pageOf i).2 else m
  Mem.setWord m (0x11560000 + 4 * i) v

/-- The edit completes or is refused (R337, R338). -/
def execManEditDone (dt : Nat) (s : State) : Host.Outcome State Fault Refusal :=
  s.onAll dt true fun m d =>
    match d.wld.edit with
    | none => (d, m)
    | some (i, v) =>
      let r := editResult m i v
      let d : Dev := { d with wld := { d.wld with edit := none } }
      let d := ((d.clr MAN_EDIT_STS_BUSY).put MAN_EDIT_STS_RESULT r).set MAN_STS_EDIT_DONE
      let d := d.raiseIf MAN_INT_EN_EDIT_DONE 361
      if r = 0 then (d.post 0x05 0x0002 0 9 i [i], editMem m i v) else (d.post 0x05 0x0003 1 9 r, m)

/-! ### The sleep handshake's Guard part (R346) -/

/-- The key marks Guard quiesced while a handshake waits for it. -/
def Dev.guardQuiesced (d : Dev) (v : Nat) : Dev :=
  if bits 31 16 v = 0x9E5C ∧ d.wld.quiesceAt.isSome then
    { d with wld := { d.wld with quiesced := true, quiesceAt := none } } else d

def execPwrmGuardQuiesced (dt : Nat) (a : Acc) (v : Nat) (s : State) : Host.Outcome State Fault Refusal :=
  s.onDevM dt true fun m d => d.regWrite m a PWRM_GUARD_QUIESCED (·.guardQuiesced v)

/-- The quiesce timer runs out. -/
def execGuardQuiesceTimeout (dt : Nat) (s : State) : Host.Outcome State Fault Refusal :=
  s.onDev dt true fun d =>
    if d.wld.quiesceAt.any (d.passed · 0) then
      let d : Dev := { d with wld := { d.wld with quiesced := true, quiesceAt := none, notQuiesced := true } }
      let d := (d.set MAN_STS_NOT_QUIESCED).raiseIf MAN_INT_EN_NOT_QUIESCED 363
      d.faultPost 2 0x05 0x0008 8 0
    else d

/-! ### Interrupts (R347–R350) -/

/-- The sources that R498 assigns; a reserved one is never raised. -/
def realSource (s : Nat) : Bool :=
  (s < 5 || s == 8 || s == 9 || s == 12 || (16 ≤ s && s < 19) || (20 ≤ s && s < 104) || (128 ≤ s && s < 137) ||
    s == 138 || s == 139 || (144 ≤ s && s < 213) || (224 ≤ s && s < 230) || s == 240 || s == 241 || (248 ≤ s && s < 252) ||
    (256 ≤ s && s < 301) || (304 ≤ s && s < 351) || (352 ≤ s && s < 356) || (360 ≤ s && s < 364))

/-- A source event of a unit (R348), which may be presented at once (R349). -/
def execInterruptRaised (dt src : Nat) (s : State) : Host.Outcome State Fault Refusal :=
  s.onDev dt (src < 376) fun d => if realSource src then (d.raise src).present else d

/-- ACTIVE_PRIO of a core's half follows the active sources. -/
def Dev.updActive (d : Dev) (k : Nat) (guard : Bool) : Dev :=
  d.put (IRQ_LC_STS_ACTIVE_PRIO k (b2n guard)) (d.activePrio k guard)

/-- A claim (R349): returns the presented source, marks it active and clears its pending bit. A Guard source has taken a
coach core into the Guard world (R341). The core takes the interrupt or its dispatch line (R462; DEDUCED, assumption 118). -/
def Dev.claim (d : Dev) (k : Nat) (guard : Bool) : Dev :=
  match d.presented k guard with
  | none => d.returns 0x3FF
  | some src =>
    let d := if src = 512 then
        ({ d with wld := { d.wld with dispatch := d.wld.dispatch.filter (· ≠ (k, guard)) } } : Dev)
      else d.clr ⟨IRQ_PEND (src / 32), src % 32, src % 32⟩
    let d : Dev := { d with wld := { d.wld with active := (k, guard, src) :: d.wld.active } }
    let d := d.updActive k guard
    let d := if guard ∧ !d.inGuard k then d.enterGuard k else d
    (d.tallyC k (if src = 512 then 0x0B else 0x0A) 1).returns src

def execIrqClaim (dt : Nat) (a : Acc) (core : Nat) (guardHalf : Bool) (s : State) :
    Host.Outcome State Fault Refusal :=
  s.onDevM dt (core < 12) fun m d =>
    d.regRead m a (IRQ_LC_CLAIM core (b2n guardHalf)) (·.claim core guardHalf)

/-- An end of interrupt (R349). -/
def Dev.eoi (d : Dev) (k : Nat) (guard : Bool) (v : Nat) : Dev :=
  let src := bits 9 0 v
  if d.wld.active.contains (k, guard, src) then
    ({ d with wld := { d.wld with active := d.wld.active.erase (k, guard, src) } } : Dev).updActive k guard
  else (d.set (IRQ_LC_STS_EOI_ERR k (b2n guard))).post 0x06 0x0001 1 9 k

def execIrqEoi (dt : Nat) (a : Acc) (core : Nat) (guardHalf : Bool) (v : Nat) (s : State) :
    Host.Outcome State Fault Refusal :=
  s.onDevM dt (core < 12) fun m d =>
    d.regWrite m a (IRQ_LC_EOI core (b2n guardHalf)) (·.eoi core guardHalf v)

end Sys2Proof.Machine
end

