-- ==== Sys2Proof/Machine/Tandem.lean ====
section
/-! DEFINITION. Tandem pairs (spec/14, R352–R364), and the end of a window, at which a deferred pair reset takes
place (R49, R359). -/

namespace Sys2Proof.Machine

open R

/-! ### The boundary (R355) -/

def execBoundaryMismatch (dt pair kind : Nat) (addrDiff dataDiff attrDiff inGuard : Bool) (addr : Nat) (s : State) :
    Host.Outcome State Fault Refusal :=
  s.onDev dt (pair < 4 && kind < 3) (·.boundary pair kind addrDiff dataDiff attrDiff inGuard addr)

/-! ### The state fold (R357–R359) -/

/-- One bit into the CRC-64 of R358. -/
def crc64Bit (c : Nat) : Nat := if 2 ^ 63 ≤ c then (2 * c % 2 ^ 64) ^^^ 0x42F0E1EBA9EA3693 else 2 * c

/-- One byte into the CRC-64 of R358. -/
def crc64Byte (c b : Nat) : Nat := (List.range 8).foldl (fun c _ => crc64Bit c) (c ^^^ (b % 256 * 2 ^ 56))

/-- The CRC-64 of R358 over registers of 32 bits, each as four little-endian bytes (DESIGN CHOICE, assumption 116). -/
def crc64 (words : List Nat) : Nat := ((words.flatMap (leBytes 4)).foldl crc64Byte (2 ^ 64 - 1)) ^^^ (2 ^ 64 - 1)

/-- The words of a core's local interrupt controller in a fold (R357): its pending sources, masked ones among them (R348), and
its active ones; the spec does not give their form. -/
def Dev.foldLc (d : Dev) (k : Nat) : List Nat :=
  Config.lcWords ((List.range 376).filter (fun s => d.pendingSrc s && (d.routedTo s k false || d.routedTo s k true)) ++
      (if d.wld.dispatch.any (fun x => x.1 == k) then [512] else []))
    ((d.wld.active.filter (fun x => x.1 == k)).map (fun x => 512 * b2n x.2.1 + x.2.2))

/-- FOLD_INTERVAL; before the COACH section its default. -/
def Dev.foldInterval (d : Dev) (p : Nat) : Nat :=
  if d.fld (TAN_PAIR_CFG_FOLD_INTERVAL p) = 0 then 4096 else d.fld (TAN_PAIR_CFG_FOLD_INTERVAL p)

/-- A fold of a pair is due (R357): TANDEM, the leader executing, FOLD_INTERVAL cycles after the last. -/
def Dev.foldDue (d : Dev) (p : Nat) : Bool :=
  d.fld (TAN_PAIR_STS_STATE p) == 1 && d.tan.foldSince.any (fun x => x.1 == p) && decide (d.foldInterval p ≤ d.foldRun p)

/-- The CRC of a copy of a core's registers with its local controller (R357, R358). -/
def Dev.foldCrc (d : Dev) (k : Nat) (copy : List Nat) : Nat := crc64 (copy ++ d.foldLc k)

/-- The fold engine captures both cores of a pair (R357): `leader` and `wheeler` are their architectural registers in the
Core Reference's numbering, which this block does not hold. -/
def execFoldCapture (dt pair : Nat) (leader wheeler : List Nat) (s : State) : Host.Outcome State Fault Refusal :=
  s.onDev dt (pair < 4) fun d =>
    if d.foldDue pair then
      { d with tan := { d.tan with
        fold := tput pair (d.foldCrc (2 * pair) leader, d.foldCrc (2 * pair) wheeler) (terase pair d.tan.fold)
        foldAcc := tset 0 (d.foldRun pair - d.foldInterval pair) pair d.tan.foldAcc
        foldSince := tput pair d.rtCycle (terase pair d.tan.foldSince) } }
    else d

/-- The CRC with bit 0 flipped. -/
def flip0 (n : Nat) : Nat := if n % 2 = 0 then n + 1 else n - 1

/-- A latent mismatch (R359): the reset waits for the end of a window of the pair's owner that is open on the leader. Beside
another failure that has reset the pair in this cycle it is recorded, and code 0x0003 tells that its reset has been performed
with that one (R362; DEDUCED, assumption 135). -/
def Dev.latent (d : Dev) (p l w : Nat) : Dev :=
  let again : Bool := d.on (TAN_PAIR_STS_LATENT_PEND p)
  let d := (d.wrPair (TAN_PAIR_FOLD_L_LO p) (TAN_PAIR_FOLD_L_HI p) l).wrPair (TAN_PAIR_FOLD_W_LO p)
    (TAN_PAIR_FOLD_W_HI p) w
  let d := (d.bump (TAN_PAIR_LATENT_CNT p)).pairEvt p (TAN_PAIR_STS_LATENT p)
  let d := d.when (d.fld (TAN_PAIR_STS_STATE p) == 1) (·.set (TAN_PAIR_STS_LATENT_PEND p))
  let d := d.faultPost 2 0x07 0x0002 (d.pairOwner p) p [l % 2 ^ 32, l / 2 ^ 32, w % 2 ^ 32, w / 2 ^ 32]
    { core := some (2 * p), cause := 3, deferred := true }
  if again then d
  else if d.fld (TAN_PAIR_STS_STATE p) ≠ 1 then d.pairPost p 0x0003 0
  else
    let d : Dev := { d with tan := { d.tan with latentAt := tset 0 (d.up + 1) p d.tan.latentAt } }
    match d.stg.wins.find? (fun x => x.isOpen && x.owner == d.pairOwner p && x.core == 2 * p) with
    | some x => { d with tan := { d.tan with latent := tput p x.entry (terase p d.tan.latent) } }
    | none => d.pairReset p 3

/-- Both CRCs are complete (R358, R359); those of a pair that has gone into reset before this cycle are dropped. -/
def execFoldCompare (dt pair : Nat) (s : State) : Host.Outcome State Fault Refusal :=
  s.onDev dt (pair < 4) fun d =>
    match d.tan.fold.find? (fun x => x.1 == pair) with
    | none => d
    | some (_, l, w) =>
      if !d.pairSees pair then { d with tan := { d.tan with fold := terase pair d.tan.fold } } else
      let w := if d.tan.injFold.contains pair then flip0 w else w
      let d := d.bump (TAN_PAIR_FOLD_CNT pair)
      let d : Dev := { d with tan := { d.tan with
        fold := terase pair d.tan.fold, injFold := d.tan.injFold.filter (· ≠ pair) } }
      if l = w then d else d.latent pair l w

/-- A window ends at its end instant (R49); with it the pair resets deferred to its end take place (R359). -/
def execWindowEnd (dt n : Nat) (s : State) : Host.Outcome State Fault Refusal :=
  s.onDev dt (n < 256) fun d =>
    let d := if d.stg.wins.any (fun w => w.entry == n && w.isOpen && w.endAt ≤ d.domNs) then d.windowEnd n else d
    if d.stg.wins.any (fun w => w.entry == n && w.isOpen) then d
    else d.each (d.tan.latent.filter (fun x => x.2 = n)) (fun x d => d.pairReset x.1 3)

/-! ### Infrastructure faults (R360–R362) -/

/-- A self-test failure (`rail`) or a parity error of the delay stages. -/
def Dev.infraFault (d : Dev) (p : Nat) (parity : Bool) (rail : Nat) : Dev :=
  if d.fld (TAN_PAIR_STS_STATE p) ≠ 1 ∧ d.fld (TAN_PAIR_STS_STATE p) ≠ 3 then d
  else
    let o := d.pairOwner p
    let d := d.pairEvt p (if parity then TAN_PAIR_STS_PARITY p else TAN_PAIR_STS_STEST_FAIL p)
    let d := d.faultPost 2 0x07 (if parity then 5 else 4) o p (if parity then [] else [rail])
      { core := some (2 * p), cause := 4, deferred := true }
    let d : Dev := { d with tan := { d.tan with degraded := insertNat p d.tan.degraded } }
    let d := (d.recause p 4).pairReset p 4
    if o < 8 ∧ d.fld (MAN_COACH_CFG_CRIT o) = 2 ∧ d.on (TAN_PAIR_CFG_DEG_DS p) then d.applyDsCoach o 4 else d

def execTandemInfrastructureFault (dt pair : Nat) (parity : Bool) (rail : Nat) (s : State) :
    Host.Outcome State Fault Refusal :=
  s.onDev dt (pair < 4) (·.infraFault pair parity rail)

/-- The self-test at a tick (R360): it passes on every TANDEM pair, in reset or not, but where TAN_INJ suppresses the flag of rail 0. -/
def Dev.selfTest (d : Dev) : Dev :=
  d.each ((List.range 4).filter (fun p => d.fld (TAN_PAIR_STS_STATE p) % 2 = 1)) (fun p d =>
    if d.tan.injSelf.contains p then
      ({ d with tan := { d.tan with injSelf := d.tan.injSelf.filter (· ≠ p) } } : Dev).infraFault p false 0
    else d.bump (TAN_PAIR_STEST_CNT p))

/-! ### Injection (R364) -/

/-- A write of TAN_INJ: into a TANDEM pair, in reset or not; of a pair that is SPLIT or DEGRADED there is no comparator. -/
def Dev.tanInj (d : Dev) (a : Acc) (v : Nat) : Dev :=
  let p := bits 1 0 v
  let k := bits 3 2 v
  if bits 31 16 v ≠ 0x7A9D ∨ k = 3 then d
  else if !d.on MAN_DBG_STS_GUARD_INV ∧ d.fld SYS_BOOT_STS_BOOTSEL ≠ 2 then d.fault 1 0x07 0 (accWho a)
  else if d.fld (TAN_PAIR_STS_STATE p) % 2 = 0 then d
  else
    let t := d.tan
    let t := match k with
      | 0 => { t with injBound := insertNat p t.injBound }
      | 1 => { t with injFold := insertNat p t.injFold }
      | _ => { t with injSelf := insertNat p t.injSelf }
    ({ d with tan := t } : Dev).pairPost p 0x0007 0 [k]

def execTanInjBoundary (dt : Nat) (a : Acc) (v : Nat) (s : State) : Host.Outcome State Fault Refusal :=
  s.onDevM dt true fun m d => d.regWrite m a TAN_INJ (·.tanInj a v)

def execTanInjFold (dt : Nat) (a : Acc) (v : Nat) (s : State) : Host.Outcome State Fault Refusal :=
  s.onDevM dt true fun m d => d.regWrite m a TAN_INJ (·.tanInj a v)

def execTanInjSelfTest (dt : Nat) (a : Acc) (v : Nat) (s : State) : Host.Outcome State Fault Refusal :=
  s.onDevM dt true fun m d => d.regWrite m a TAN_INJ (·.tanInj a v)

end Sys2Proof.Machine
end

