-- ==== Sys2Proof/Machine/Reset.lean ====
section
/-! DEFINITION. The Beyvo die going down and starting again, the resets of both dies (spec/19, R448–R452), and the
tamper alarm (R376, R377). -/

namespace Sys2Proof.Machine

open R

/-! ### What a reset keeps (R449) -/

/-- Registers that hold their value through a device reset: fuses, the boot timer's count and what the Heavia die keeps
in non-volatile memory. -/
def keepsDevice (a : Nat) : Bool :=
  a == FRM_BOOT_CAUSE || a == FRM_CNT 3 || a == SBX_TAMPER || a == SBX_ROLLBACK || a == LOGB_AO_STS || a == SYS_ID ||
    (SYS_SERIAL 0 ≤ a && a ≤ SYS_SERIAL 3) || a == PWRM_WAKE_INFO

/-- Registers that hold their value while the Beyvo die is in reset or off: the Heavia die's, the siding and false-wake
state (R258), and the debug enables (R351). -/
def keepsBeyvo (a : Nat) : Bool :=
  keepsDevice a || onHeavia a || (SID_WAKE_CAUSE ≤ a && a ≤ SID_WAKE_ALL_HI) ||
    (SID_SRC_STS 0 ≤ a && a ≤ SID_SRC_STS 44) || a == MAN_DBG_STS || a == SBX_ROOT ||
    (List.range 8).any (fun c => a == CA_RST_INFO c)

/-- The sources that are armed now, as the always-on domain holds them (R31, R244). -/
def Dev.armedNow (d : Dev) : List (Nat × WakeCfg) :=
  ((List.range 44).filter d.srcOn).map (fun s => (s, d.wakeCfg s))

/-- The Beyvo die's registers and state are lost (R449); the levels of the pins, RETRY and the debug enables stay. DESIGN
CHOICE: the records of R502 that wait for the tick are lost with it (assumption 80). -/
def Dev.beyvoOff (d : Dev) : Dev :=
  let faultN := d.fld FRM_STS_FAULT_N
  let safeN := d.fld FRM_STS_SAFE_N
  let retry := d.fld SYS_BOOT_STS_RETRY
  let locked := d.fld TIME_STS_EVER_LOCKED
  let towOff := d.fld TOW_STS_SEALED_OFF
  let t := d.tim
  let kept := d.sidKept
  let period := d.rn STG_PERIOD_NS
  let d : Dev := { d with
    hv := { d.hv with periodNs := if period = 0 then d.hv.periodNs else period }
    regs := d.regs.filter (fun r => keepsBeyvo r.1)
    dead := []
    log := { d.log with queue := [], dropped := 0, ovwPosted := false, stage := [] }
    frm := { d.frm with
      beyvoUp := false, bootHold := false, bvReset := none, coachReset := [], inReset := [], held := [], noWait := [], escal := [] }
    wld := { WorldSt.reset with notQuiesced := d.wld.notQuiesced }
    stg := StgSt.reset
    tim := { t with
      mode := (if t.mode = .stopped then .stopped else .heavia), baseDev := (if t.mode = .heavia then t.baseDev else t.dev),
      baseUp := (if t.mode = .heavia then t.baseUp else d.up), rem := 0, good := 0,
      bad := 0, series := none, domGm := [], latched := [], pdFails := [], drift := 0, ann := [], ratio := [] }
    tta := TtaSt.reset
    fab := FabSt.reset
    msec := []
    prt := PortSt.reset
    tan := { TanSt.reset with degraded := d.tan.degraded }
    sbx := { d.sbx with queue := [], slots := [], refused := false }
    ce := CeSt.reset
    tal := TalSt.reset
    boot := BootSt.reset
    sid := { d.sid with want := [], atTick := [], before := [], acting := [], driven := [], kept := kept } }
  let d := ((d.put FRM_STS_FAULT_N faultN).put FRM_STS_SAFE_N safeN).put SYS_BOOT_STS_RETRY retry
  let d := (d.put TIME_STS_EVER_LOCKED locked).put TOW_STS_SEALED_OFF towOff
  let d := (d.clr SBX_ROOT_IMAGE_OK).clr SBX_ROOT_SLEEP_OK
  let en := d.rn MAN_DBG_STS
  let d := (d.put DBG_STS_ENABLES en).put DBG_STS_COACHES (d.fld MAN_DBG_STS_COACHES)
  d.put DBG_STS_CERT (d.fld SBX_ROOT_CERT)

/-- Both pins are driven low (R31, R445, R446). -/
def Dev.pinsLow (d : Dev) : Dev := (d.pin FRM_STS_FAULT_N 0 false).pin FRM_STS_SAFE_N 1 false

/-- The Beyvo die goes into reset: coast, transceivers to standby, both pins low, armed sources stay armed, the sleep
token is cleared (R31, R260, R316, R369, R446). -/
def Dev.beyvoDown (d : Dev) : Dev :=
  let d : Dev := { d with
    frm := { d.frm with beyvoUp := false, bootLow := true },
    sid := { d.sid with armed := (if d.boot.phase = .sealed then d.armedNow else d.sid.armed), asleep := 0, late := [] },
    sbx := { d.sbx with token := false } }
  ((d.coastStart.standbyAll).pinsLow).beyvoOff

/-- The device time goes on from the Heavia die's count or from its value in PARKED (R83, R84), at the last frequency in
lock where there was one (R73); code 0x0009 tells what the die comes from. -/
def Dev.resumeTime (d : Dev) (cause : Nat) : Dev :=
  if d.tim.mode = .stopped then d
  else
    let d : Dev := { d with tim := { d.tim with mode := .servo, rem := 0 } }
    let d := d.freeRun
    let gm := d.tim.held.getD 0
    d.post 0x20 0x0009 0 9 (if cause = 8 then 1 else if cause = 9 then 2 else 0) [0, 0, gm % 2 ^ 32, gm / 2 ^ 32 % 2 ^ 32]

/-- The Beyvo die starts: its cause is recorded, the boot mode sampled, the H-link trained (R417 step 1, R423, R452); the
device time goes on from the Heavia die's count or from its value in PARKED (R83, R84); every pair runs in TANDEM until
seal (R353); the LIN transceivers show whether VBAT_L is below 7 V (R230). -/
def Dev.startUp (d : Dev) (cause block code bootsel : Nat) : Dev :=
  let d := ((d.put FRM_BOOT_CAUSE_CAUSE cause).put FRM_BOOT_CAUSE_BLOCK block).put FRM_BOOT_CAUSE_CODE code
  let d := d.post 0x02 0x0001 0 9 cause
  let d : Dev := { d with
    frm := { d.frm with beyvoUp := true }
    boot := { BootSt.reset with phase := .rom, releasedAt := d.up, timerFrom := d.up } }
  let d := d.resumeTime cause
  let d := d.put SYS_BOOT_STS_BOOTSEL bootsel
  let d := d.each ((List.range 8).map (· + 28)) (fun p d => d.put (PORT_TRX_STS_UV p) (b2n d.hv.linLow))
  let d := (d.put HLK_STS_LANES 15).linkTrained
  let d := d.each (List.range 4) (fun p d => d.put (TAN_PAIR_STS_STATE p) (if d.tan.degraded.contains p then 2 else 1))
  let d := d.foldGo 0
  let d := d.put FRM_STS_SEV3_SEEN (b2n (cause == 3))
  let d := d.put CLK_STS_PLL_UNLOCK (b2n (cause == 3 && block == 0x04 && code == 3))
  (((d.ready 0).ready 1)).updFaultN

/-- The Beyvo die starts, or waits until VBAT_L has left the brown-out range (R439); tamper hold keeps it in reset
(R377). -/
def Dev.start (d : Dev) (r : ResetReq) (bootsel : Nat) : Dev :=
  if d.frm.tamperHold then d
  else if d.fld HPS_SUP_STS_RANGE = 2 then { d with frm := { d.frm with startWait := some r } }
  else ({ d with frm := { d.frm with startWait := none } } : Dev).startUp r.cause r.block r.code bootsel

/-! ### Beyvo reset (R448) -/

/-- FRM_RESET_CMD (R448). -/
def Dev.resetCmd (d : Dev) (v : Nat) : Dev :=
  if bits 31 16 v ≠ 0xDE5E then d
  else
    match bits 1 0 v with
    | 1 => d.startDeviceReset 2 0 0
    | 2 => d.startBeyvoReset 6
    | _ => d

def execFrmResetDevice (dt : Nat) (a : Acc) (v : Nat) (s : State) : Host.Outcome State Fault Refusal :=
  s.onDevM dt true fun m d => d.regWrite m a FRM_RESET_CMD (·.resetCmd v)

def execFrmResetBeyvo (dt : Nat) (a : Acc) (v : Nat) (s : State) : Host.Outcome State Fault Refusal :=
  s.onDevM dt true fun m d => d.regWrite m a FRM_RESET_CMD (·.resetCmd v)

/-- Memory as the boot ROM starts from it: the manifest of R332 before any section, and an empty main logbook (R449). -/
def Mem.atBoot (m : Mem) : Mem := Mem.zero (Mem.zero m 0x11560000 0x8A000) 0x11600000 0x200000

/-- Memory with the listed bytes of every page set to 0 whose manifest entry meets `q` (R339). -/
def Mem.scrub (m : Mem) (q : Nat → Bool) : Mem :=
  m.filter (fun c => match pageIndex c.1 with
    | some i => !(decide (i < 137216) && q (Mem.entry m i))
    | none => true)

/-- The pages with SCRUB of the coaches and, with `guard`, of Guard are zeroised (R339, R449). -/
def Mem.scrubAll (m : Mem) (guard : Bool) : Mem :=
  Mem.scrub m (fun e => entryScrub e && (decide (entryOwner e < 8) || (guard && entryOwner e == 8)))

/-- Memory after its supply has been off: flash alone is kept. -/
def Mem.flashOnly (m : Mem) : Mem := m.filter (fun c => decide (0x20000000 ≤ c.1 ∧ c.1 < 0x30000000))

/-- A Beyvo reset that has been started is carried out, with the coaches' pages with SCRUB zeroised (R449); the die starts
again unless the supply keeps it down. Boot hold and tamper hold stay (R377, R421), and RESET_N comes first (R451). -/
def execBeyvoReset (dt bootsel : Nat) (s : State) : Host.Outcome State Fault Refusal :=
  s.onAll dt (bootsel < 4) fun m d =>
    match d.frm.bvReset with
    | none => (d, m)
    | some r =>
      if d.frm.tamperHold ∨ d.frm.bootHold ∨ d.frm.lockedOut ∨ d.frm.resetNLow then (d, m)
      else (d.beyvoDown.start r bootsel, Mem.atBoot (Mem.scrubAll m false))

/-! ### Device reset and power-on reset (R31, R68, R308, R448, R449, R451) -/

/-- 2^64 × e^(−num / den) for num ≤ den, from the series of the exponential function. -/
def expNeg (num den : Nat) : Nat :=
  ((List.range 30).foldl (fun (x : Int × Nat) k =>
    let t := x.2 * num / ((k + 1) * den)
    (if k % 2 = 0 then x.1 - (t : Int) else x.1 + (t : Int), t)) (((2 ^ 64 : Nat) : Int), 2 ^ 64)).1.toNat

/-- A retained model value decayed by e^(−age / τ) (R308), rounded down from a factor of 64 binary places (assumption 13). -/
def decayed (value age tau : Nat) : Nat :=
  if tau = 0 ∨ 64 ≤ age / tau then 0
  else value * ((List.range (age / tau)).foldl (fun e _ => e * 6786177901268885274 / 2 ^ 64) (expNeg (age % tau) tau)) / 2 ^ 64

/-- A channel after a device reset: its models start from the retained state when that is less than ten minutes old. -/
def Dev.modelsAfter (d : Dev) : List (Nat × Chan) × List (Nat × Nat) :=
  let age := (d.up - d.hv.retainedAt.getD 0) / 1000000
  let l := if d.hv.retainedAt.isSome ∧ age < 600000 then d.hv.retained else []
  let ch := l.map (fun x =>
    (x.1, { Chan.zero with
      theta := decayed x.2.theta age (100 * d.fld (CHAN_HARN_CFG_TAU x.1))
      phi := (if x.1 < 24 then 0 else decayed x.2.phi age (d.fld (CHAN_GDJ_TAU_TAU_MS x.1))) }))
  (ch.filter (fun x => x.2 ≠ Chan.zero), l.map (fun x => (x.1, x.2.retryCnt)))

/-- Everything that no reset of both dies keeps is lost; `keep` selects the registers that stay. -/
def Dev.bothOff (d : Dev) (keep : Nat → Bool) : Dev :=
  let retry := d.fld SYS_BOOT_STS_RETRY
  { (({ d with regs := d.regs.filter (fun r => keep r.1) } : Dev).put SYS_BOOT_STS_RETRY retry) with
    bus := { data := 0, err := false }
    dead := []
    log := { LogSt.reset with ao := d.log.ao, aoNew := d.log.aoNew, aoQueue := d.log.aoQueue }
    frm := { FrmSt.reset with tamperHold := d.frm.tamperHold }
    wld := WorldSt.reset
    stg := StgSt.reset
    tim := TimSt.reset
    tta := TtaSt.reset
    chans := []
    hv := { HeaviaSt.reset with
      retained := d.hv.retained, retainedAt := d.hv.retainedAt, ovAt := d.hv.ovAt, linLow := d.hv.linLow }
    lios := []
    fab := FabSt.reset
    msec := []
    prt := PortSt.reset
    tan := TanSt.reset
    sid := SidSt.reset
    sbx := { d.sbx with queue := [], slots := [], refused := false, token := false }
    ce := CeSt.reset
    tal := TalSt.reset
    boot := BootSt.reset
    dbg := DbgSt.reset }

/-- What the Heavia die's comparators show of the supplies (R262, R264, R439). -/
def Dev.supplies (d : Dev) (range : Nat) (rev : Bool) : Dev :=
  let crank := b2n (decide (range = 1 ∨ range = 2))
  let d := ((d.put HPS_SUP_STS_RANGE range).put CHAN_GSTS_P3_REV (b2n rev)).put CHAN_GSTS_CRANK crank
  d.each ((List.range 16).map (· + 24)) (fun i d => d.put (CHAN_STS_CRANK i) crank)

/-- A device reset clears both dies; the models follow R308. -/
def Dev.deviceOff (d : Dev) : Dev :=
  let x := d.modelsAfter
  let range := d.fld HPS_SUP_STS_RANGE
  let rev := d.on CHAN_GSTS_P3_REV
  let d : Dev := { (({ d with frm := { d.frm with beyvoUp := false } } : Dev).pinsLow.bothOff keepsDevice) with chans := x.1 }
  (d.each x.2 (fun y d => d.put (CHAN_STS_RETRY_CNT y.1) y.2)).supplies range rev

/-- The Beyvo die loses its power. An image whose write is cut short is lost, and the other store copy is complete (R414); a
blowing of fuses that is cut short leaves their number between the old and the new (R415). The spec gives neither
duration (assumption 141). -/
def Dev.powerLost (d : Dev) : Dev :=
  let d := match d.boot.blow with
    | some (b, t) =>
      if d.passed t Config.fuseNs then d
      else
        let f := d.fresh 8
        f.2.put SBX_ROLLBACK_CONSIST (b + f.1 % (d.fld SBX_ROLLBACK_CONSIST - b + 1))
    | none => d
  if d.sbx.imageAt = 0 ∨ d.passed (d.sbx.imageAt - 1) Config.storeNs then d
  else
    let old := d.sbx.imageOld.getD ([], 0)
    { d with sbx := { d.sbx with
        image := old.1, imageOdo := old.2, imageOld := none, imageNext := 1 - d.sbx.imageNext, imageAt := 0 } }

/-- VBAT_L has risen out of lockout: both dies reset (R439, R448); SRAM and DRAM have lost their contents. -/
def Dev.powerOn (d : Dev) (bootsel : Nat) : Dev :=
  let d := d.bothOff keepsDevice
  let d : Dev := { d with frm := FrmSt.reset, hv := HeaviaSt.reset, log := { d.log with aoQueue := [] } }
  (d.clr SYS_BOOT_STS_RETRY).startUp 0 0 0 bootsel

def execPowerOnReset (dt bootsel : Nat) (s : State) : Host.Outcome State Fault Refusal :=
  s.onAll dt (bootsel < 4) fun m d =>
    (d.powerLost.powerOn bootsel, Mem.flashOnly m)

/-- RESET_N acts (R451): the device is in reset from now on, and starts with DEVICE_RESET once RESET_N is high. In a
sleep state it is a wake, recorded with CAUSE 15, SOURCE 0x3F and FROM 0; in tamper hold, which only a power cycle ends
(R377), and in lockout, where the module is as absent (R439), it changes nothing. -/
def Dev.resetN (d : Dev) : Dev :=
  if d.frm.tamperHold ∨ d.frm.lockedOut then d
  else
    let cause := if d.sid.asleep ≠ 0 then 0x3F0F else 0
    let r : ResetReq := d.frm.devReset.getD { cause := 1, block := 0, code := 0 }
    let mesh := d.frm.meshDue || d.sid.asleep == 2 || d.sid.cut == 2
    let d := d.deviceOff.wr SID_WAKE_CAUSE cause
    { d with frm := { d.frm with resetNLow := true, devReset := some r, meshDue := mesh } }

/-- RESET_N has been low for `us` microseconds (R451): from 10 µs on it acts, below 1 µs it is ignored, and between the two
the spec leaves it open. -/
def execResetNLow (dt us : Nat) (s : State) : Host.Outcome State Fault Refusal :=
  s.onDev dt true fun d =>
    if 10 ≤ us then d.resetN
    else if us = 0 then d
    else
      let f := d.fresh 1
      if f.1 = 1 then f.2.resetN else f.2

/-! ### Tamper alarm (R376, R377) -/

/-- The tamper sources that are monitored now (R376): none in lockout, where the module is as absent, and none while RESET_N
holds both dies in reset. -/
def Dev.tamperMask (d : Dev) : Nat :=
  if d.frm.beyvoUp then 0x1F
  else if d.sid.asleep = 2 ∨ d.frm.lockedOut ∨ d.frm.resetNLow then 0 else 1

/-- Every key is lost (R375, R377, R401, R403). -/
def Dev.tamperKeys (d : Dev) (m : Mem) : Dev × Mem :=
  let d : Dev := { d with sbx := { d.sbx with slots := [], queue := [], token := false } }
  let x := Dev.ceAbortAll 0x09 [0, 1, 2, 3] d m
  let d := x.1.loseTemp
  let d := ((d.each d.msec (fun y d => d.removeSa y.1)).set CE_STS_KEYS_ERASED).raiseIf CE_INT_EN_FAULT 228
  (d.cePost 0x0005 0 8 1, x.2)

/-- The device time is lost in tamper hold (R31): what it holds until the power cycle is a free value, no less than before
(R68, assumption 66). The cadences go on by the Heavia die's own count (R33). -/
def Dev.loseTime (d : Dev) : Dev :=
  let f := d.fresh 64
  { f.2 with tim := { f.2.tim with
      mode := .frozen, baseDev := d.tim.dev, baseUp := d.up, dev := d.tim.dev + 65536 * f.1, startIn := 0 } }

/-- The alarm's record and the tamper hold (R317, R377). -/
def Dev.tamperHold (d : Dev) (src : Nat) : Dev :=
  let d := ((d.put SBX_TAMPER_SOURCES src).set SBX_TAMPER_PENDING).put SBX_TAMPER_COUNT (incSat 16 (d.fld SBX_TAMPER_COUNT))
  let d : Dev := { d with frm := { d.frm with beyvoUp := false } }
  let d := d.sbxPost 0x0001 3 8 src
  let d : Dev := { d with
    frm := { d.frm with tamperHold := true, devReset := none, bootHold := false, startWait := none }
    sid := { d.sid with asleep := 0 } }
  let d := ((d.clr SID_STS_STATE).applyDs 3).pinsLow.beyvoOff.loseTime
  { d with sid := { d.sid with armed := [], late := [], standby := [], fsPend := [] } }

def execTamperAlarm (dt sources : Nat) (s : State) : Host.Outcome State Fault Refusal :=
  s.onAll dt true fun m d =>
    let src := sources &&& d.tamperMask
    if src = 0 ∨ d.frm.tamperHold then (d, m)
    else
      let x := d.tamperKeys m
      (x.1.tamperHold src, x.2)

/-- A device reset begins: both dies are cleared, unless RESET_N has held them cleared until now. -/
def Dev.deviceClear (d : Dev) : Dev :=
  if d.frm.resetNLow then { d with frm := FrmSt.reset, tim := TimSt.reset } else d.deviceOff.wr SID_WAKE_CAUSE 0

/-- A device reset that has been started is carried out, once RESET_N is high; boot hold ends by RESET_N or a power cycle
alone (R421); the pages with SCRUB of the coaches and of
Guard are zeroised (R339, R449). A reset by RESET_N that has
woken the module from PARKED checks the lid mesh first (R376). -/
def execDeviceReset (dt bootsel : Nat) (meshOk : Bool) (s : State) : Host.Outcome State Fault Refusal :=
  s.onAll dt (bootsel < 4) fun m d =>
    match d.frm.devReset with
    | none => (d, m)
    | some r =>
      if d.frm.tamperHold ∨ d.frm.bootHold ∨ d.frm.lockedOut then (d, m)
      else if d.frm.meshDue ∧ !meshOk then
        let x := d.tamperKeys m
        (x.1.tamperHold 1, x.2)
      else
        (d.deviceClear.start r bootsel, Mem.atBoot (Mem.scrubAll m true))

end Sys2Proof.Machine
end

