-- ==== Sys2Proof/Machine/Shadow.lean ====
section
/-! DEFINITION. The shadow window (spec/05, R166) and the fields that a consist sets (R409). -/

namespace Sys2Proof.Machine

open R

/-! ### The shadow window (R159, R163, R166) -/

/-- The listed fields of word `i` of an entry of each table of R166. -/
def entryMask : Nat → Nat → Nat
  | 0, 0 => 0x1F7FFF
  | 0, 1 => 0xFFFFFF
  | 1, 0 => 0xF
  | 1, i => if 2 ≤ i ∧ i < 18 then (if i % 2 = 0 then 0x1FFFFFFF else 0xF) else 0
  | 2, i => if i = 4 then 7 else if i = 0 ∨ i = 2 then 0xFFFFFFFF else if i = 1 ∨ i = 3 then 0xFFFFFF else 0
  | 3, i => if i = 0 then 0xFFFF3F07 else if i = 1 then 0xFFFFFFFF else if i = 2 then 0xFFFF else 0
  | 4, i =>
    if i < 12 then (if i % 6 = 4 then 0x3FFFFF else 0xFFFFFFFF)
    else if i = 12 then 0x1FFFFF else if i = 13 then 0xFFFFFFFF else if i = 14 then 0xFFFF else 0
  | 5, i =>
    if i = 0 then 0x7EFFF3 else if i = 2 then 0xFFFF else if i = 11 then 0x3FFFF else if i = 13 then 0xFFFF7FFF
    else if i = 14 then 0xFFFF03FF else 0xFFFFFFFF
  | 6, i => if i = 0 then 0x7FFF else if 7 ≤ i then 0 else if i % 2 = 1 then 0xFFFFFFFF else 0xFFFF
  | 7, i =>
    if i = 1 then 0x1FFFFFFF else if i = 2 then 0x1FFFFF else if i = 4 then 0x7FFFFFFF
    else if i = 7 then 0 else 0xFFFFFFFF
  | 8, i => if i = 1 then 0xCFFFFFFF else if i = 3 then 0xFFFFF else 0xFFFFFFFF
  | _, _ => 0

/-- The tables of the shadow window: offset, entries and bytes per entry. -/
def shadowTables : List (Nat × Nat × Nat) :=
  [(0x10000, 48, 16), (0x11000, 64, 128), (0x14000, 512, 32), (0x18000, 256, 16), (0x20000, 512, 64),
   (0x30000, 2048, 64), (0x50000, 4096, 32), (0x70000, 4096, 32), (0xA0000, 16384, 16)]

/-- The listed fields of the word at an offset of the LKP window; 0 where no entry lies. -/
def shadowMask (off : Nat) : Nat :=
  ((List.range 9).map (fun t =>
    let x := shadowTables.getD t (0, 0, 1)
    if x.1 ≤ off ∧ off < x.1 + x.2.1 * x.2.2 then entryMask t ((off - x.1) % x.2.2 / 4) else 0)).foldl (· ||| ·) 0

/-- The address lies in the shadow window. -/
def inShadow (a : Nat) : Bool := 0x40210000 ≤ a && a < 0x40300000

/-- A word of a bank with a new value. -/
def Bank.put (b : List (Nat × Word)) (off v : Nat) : List (Nat × Word) :=
  tset 0 (BitVec.ofNat 32 (v &&& shadowMask off)) off b

/-- The shadow window's word in a bank. -/
def Dev.bankPut (d : Dev) (i off v : Nat) : Dev :=
  { d with fab := { d.fab with banks := tset [] (Bank.put (d.bank i) off v) i d.fab.banks } }

/-! ### The fields that a consist sets (R408, R409) -/

/-- The windows whose registers R408 names as a whole: HPS, OUTR, the CQ and GQ registers and the PORT registers. -/
def namedWhole (a : Nat) : Bool :=
  a / 0x10000 == 0x4083 || a / 0x10000 == 0x4031 || (0x40500000 ≤ a && a < 0x40530000) ||
    (0x48000000 ≤ a && a < 0x48900000 && a % 0x100000 < 0x50000)

/-- A field whose Reset is "consist", or that R408 names: the LK fields, the RW fields of the windows it names as a whole, and
those of SID_SRCs_CFG, SID_PORTp_CTL.REQ, FRM_CFG and FRM_COACHc_CFG. -/
def consistField (a : Nat) (f : FieldDesc) : Bool :=
  f.acc == .lk ||
    (f.acc == .rw &&
      (namedWhole a || (0x40600100 ≤ a && a < 0x40600200) ||
        (0x40600400 ≤ a && a < 0x40600640 && f.lo == 0) || a == FRM_CFG || (FRM_COACH_CFG 0 ≤ a && a ≤ FRM_COACH_CFG 7)))

/-- The bits of a register in the fields that meet `q`. -/
def fieldMask (a : Nat) (q : FieldDesc → Bool) : Nat :=
  match descOf a with
  | none => 0
  | some r => r.fields.foldl (fun k f => if q f then k ||| ((2 ^ (f.hi + 1 - f.lo) - 1) * 2 ^ f.lo) else k) 0

/-- The bits of a register that a consist sets. -/
def consistMask (a : Nat) : Nat := fieldMask a (consistField a)

/-- `a` is an element of an array of registers. -/
def inArr (a base stride n : Nat) : Bool := base ≤ a && (a - base) % stride == 0 && (a - base) / stride < n

/-- The registers of R408's Writes column, by section TYPE. -/
def sectTakes : Nat → Nat → Bool
  | 0x01, a =>
    inArr a (MAN_CORE_CFG 0) 4 12 || inArr a (MAN_COACH_CFG 0) 4 8 || a == MAN_GLIMIT || inArr a (MAN_GQHOME 0) 4 2 ||
      inArr a (TAN_PAIR_CFG 0) 0x40 4 || inArr a (SYS_CORE_ENTRY 0) 4 12 || inArr a (SYS_COACH_START 0) 4 16 ||
      a == LOGB_AO_CFG || a == FRM_CFG || inArr a (FRM_COACH_CFG 0) 4 8
  | 0x02, a =>
    let i := (a - 0x11560000) / 4
    0x11560000 ≤ a && a < 0x115EA000 && (i < 5424 || 6144 ≤ i)
  | 0x03, a => inArr a (IRQ_ROUTE 0) 4 512
  | 0x04, a => inArr a (PORT_CFG 0) 0x1000 36 || inArr a (CHAN_CFG 0) 0x100 40 || inArr a (LIO_CFG 0) 0x40 32
  | 0x05, a =>
    (a / 0x10000 == 0x4081 && !inArr a (CHAN_CFG 0) 0x100 40 && !inArr a (CHAN_DS_CFG 0) 0x100 40 &&
        !inArr a (CHAN_PROF_W 0 0) 4 256) ||
      a / 0x10000 == 0x4083 || a == HLK_CW_CFG || a == HLK_COAST_CFG
  | 0x06, a => inArr a (CHAN_PROF_W 6 0) 4 160
  | 0x07, a => inArr a (CHAN_DS_CFG 0) 0x100 40
  | 0x08, a => inArr a (LIO_THR 0) 0x40 32 || inArr a (LIO_TIM 0) 0x40 32
  | 0x09, a => a == CE_CFG
  | 0x0A, a => a / 0x10000 == 0x4040
  | 0x0B, a => a / 0x10000 == 0x4041
  | 0x0C, a => a / 0x10000 == 0x4042
  | 0x0D, a =>
    inArr a (FAB_PORT_CFG 0) 4 48 || (0x40140000 ≤ a && a < 0x40150000) || a == RSQ_CTL || a / 0x10000 == 0x4031 ||
      (0x48000000 ≤ a && a < 0x48900000) || (0x40500000 ≤ a && a < 0x40530000 && a % 0x1000 != 0)
  | 0x0E, a => a == LKP_CTL || inShadow a
  | 0x0F, a => a / 0x10000 == 0x4060
  | 0x10, a => a / 0x10000 == 0x4007
  | 0x11, a => a == TOW_CFG
  | _, _ => false

/-- The SYS_READY bits of a section (R408). -/
def sectReady : Nat → List Nat
  | 0x01 => [19]
  | 0x02 => [4, 18]
  | 0x03 => [5]
  | 0x07 => [2]
  | 0x08 => [3]
  | 0x09 => [16, 15]
  | 0x0A => [6]
  | 0x0B => [7]
  | 0x0C => [8]
  | 0x0D => [9, 11, 12]
  | 0x0E => [10]
  | 0x0F => [14]
  | 0x10 => [17]
  | 0x11 => [13]
  | _ => []

/-- The defaults that the field tables name (R15), by section: registers and values. -/
def sectDefaults : Nat → List (Nat × Nat)
  | 0x01 => (MAN_GLIMIT, 50) :: (LOGB_AO_CFG, 2) :: (List.range 4).map (fun p => (TAN_PAIR_CFG p, 0x100002))
  | 0x05 =>
    [(HPS_BUD_CFG, 0xA0AB3439), (HPS_BUD_GRP, 0x643439), (HPS_AMB_CFG, 85), (HLK_CW_CFG, 0x40000), (HLK_COAST_CFG, 200)] ++
      (List.range 40).flatMap (fun i =>
        [(CHAN_TRIP_CFG i, 0x2000), (CHAN_HARN_LIM i, 0x697D), (CHAN_DIAG_CFG i, 0xC00)])
  | 0x09 => [(CE_CFG, 100)]
  | 0x0A =>
    [(TIME_JUMP_LIMIT_NS, 1000), (TIME_SLEW_PPM, 100), (TIME_SERVO_CFG, 0x81402)] ++
      (List.range 4).map (fun k => (TIME_DOM_CFG k, 0xD000000))
  | 0x0B => [(STG_PERIOD_NS, 250000), (STG_CMD_CUTOFF_NS, 2000), (STG_QUIET_CLASSES, 0x80), (STG_OUT_CFG, 0xA00)]
  | 0x0D =>
    (RSQ_CTL, 200) :: ((List.range 48).filter (fun p => !busPort p)).map (fun p => (FAB_PORT_CFG p, 1)) ++
      (List.range 48).flatMap (fun p => (List.range 8).flatMap (fun k => [(FAB_EQ_THR p k, 1024), (FAB_EQ_DE p k, 512)])) ++
      (List.range 528).flatMap (fun q => [(CQ_THR (q / 64) (q % 64), 0x910122),
        (CQ_ALLOW (q / 64) (q % 64), if q < 512 then 2 ^ (q / 64) + 0x100 else 0x100)]) ++
      [14, 15].map (fun p => (PORT_PLCA_CFG p, 0x80002000)) ++
      (List.range 8).map (fun n => (PORT_LIN_CFG (28 + n), 0x4B000000)) ++
      (List.range 6).map (fun p => (PORT_MSEC_PN_THR p, 0xC0000000))
  | 0x0E => [(LKP_CTL, 4)]
  | 0x0F =>
    [(SID_SLEEP_CFG, 200), (SID_CONFIRM_MS, 500), (SID_FS_CFG, 100), (SID_FW_CFG, 0x2580008)] ++
      (List.range 44).map (fun s =>
        (SID_SRC_CFG s, 0x100 + 0x10000 * (if 14 ≤ s ∧ s < 16 then 20 else if 16 ≤ s ∧ s < 28 then 4
          else if 28 ≤ s ∧ s < 36 then 15 else 0))) ++
      (List.range 36).map (fun p => (SID_PORT_CFG p, 8)) ++
      (List.range 12).map (fun k => (SID_CAN_WUF_CFG k, 0xA0000))
  | _ => []

end Sys2Proof.Machine
end

