-- ==== Sys2Proof/Machine/Image.lean ====
section
/-! DEFINITION. The consist image (spec/17, R405–R413): header, sections, records, and the checks of step 4 of
R417. -/

namespace Sys2Proof.Machine

open R

/-! ### The header (R406, R418) -/

/-- The little-endian field of `n` bytes at an offset of a byte string. -/
def fieldLe (b : List Nat) (off n : Nat) : Nat := leNat ((b.drop off).take n)

/-- The base address of an image: half A, half B, or a service image (R414, R424). -/
def imageBase : Nat → Nat
  | 0 => 0x20000000
  | 1 => 0x28000000
  | _ => 0x100000000

/-- The header of an image. -/
def imageHead (m : Mem) (h : Nat) : List Nat := Mem.bytes m (imageBase h) 256

def imageLen (b : List Nat) : Nat := fieldLe b 0x0C 4
def sigOfs (b : List Nat) : Nat := fieldLe b 0x10 4
def imageVersion (b : List Nat) : Nat := fieldLe b 0x18 4
def imageRollback (b : List Nat) : Nat := b.getD 0x1C 0

/-- MAGIC, FORMAT, HDR_LEN, IMAGE_LEN and SIG_OFS are right (R418); `depth` is DEPTH of the signature block. -/
def headOk (b : List Nat) (depth : Nat) : Bool :=
  b.take 8 == ascii "TCHZCNST" && fieldLe b 0x08 2 == 1 && fieldLe b 0x0A 2 == 0x100 && imageLen b ≤ 0x4000000 &&
    sigOfs b % 8 == 0 && 0x100 ≤ sigOfs b && depth ≤ 1 &&
    imageLen b == sigOfs b + (if depth = 1 then 10941 else 5477)

/-- BOUND, and the serial number that it names. -/
def Dev.boundOk (d : Dev) (b : List Nat) : Bool := !bit 0 (fieldLe b 0x16 2) || (b.drop 0x20).take 16 == d.serial

/-- The error that keeps an image from being a candidate (R418), 0 for a candidate. -/
def Dev.candErr (d : Dev) (m : Mem) (h : Nat) : Nat :=
  let b := imageHead m h
  let depth := (Mem.byte m (imageBase h + sigOfs b + 9)).toNat
  if !headOk b depth then 1
  else if !d.boundOk b then 2
  else if imageRollback b < d.fld SBX_ROLLBACK_CONSIST then 3 else 0

/-- The rest of the header: SECT_COUNT, ROLLBACK, and what is reserved or must be zero (R406). -/
def headRest (b : List Nat) : Bool :=
  1 ≤ fieldLe b 0x14 2 && fieldLe b 0x14 2 ≤ 512 && fieldLe b 0x16 2 ≤ 1 && imageRollback b ≤ 128 &&
    fieldLe b 0x1D 3 == 0 && (bit 0 (fieldLe b 0x16 2) || fieldLe b 0x20 16 == 0) && fieldLe b 0x60 160 == 0

/-- Step 4 of R417 on a candidate: the error of R427, 0 when it is verified. -/
def verifyErr (m : Mem) (h : Nat) (unreadable : Bool) : Nat :=
  let b := imageHead m h
  let a := imageBase h
  let body := Mem.bytes m (a + 0x100) (sigOfs b - 0x100)
  let sig := Mem.bytes m (a + sigOfs b) (imageLen b - sigOfs b)
  if unreadable then 4
  else if !headRest b then 1
  else if (b.drop 0x30).take 48 ≠ shaBytes body then 5
  else if sig.getD 8 0 = 0xF then 6
  else sigBlock sig (shaBytes (b ++ body))

/-! ### Sections (R407, R408) -/

/-- A section: TYPE, INSTANCE, the offset of its TLV header in the image, and its value. -/
structure Sect where
  type : Nat
  inst : Nat
  off : Nat
  value : List Nat
deriving DecidableEq, Repr

/-- The section may follow one of key `prev` = 256 TYPE + INSTANCE. -/
def Sect.follows (s : Sect) (prev : Nat) : Bool :=
  prev < 256 * s.type + s.inst && 1 ≤ s.type && s.type ≤ 0x13 && (if s.type = 0x13 then s.inst < 8 else s.inst == 0)

/-- The sections of `n` TLVs, up to the first malformed one, with its TYPE and offset. -/
def sectsFrom : Nat → Nat → Nat → List Nat → List Sect × Option (Nat × Nat)
  | 0, _, off, b => ([], if b = [] then none else some (0, off))
  | n + 1, prev, off, b =>
    let len := fieldLe b 4 4
    let pad := (8 - len % 8) % 8
    let s : Sect := { type := fieldLe b 0 2, inst := fieldLe b 2 2, off := off, value := (b.drop 8).take len }
    if b.length < 8 + len + pad ∨ !s.follows prev ∨ leNat ((b.drop (8 + len)).take pad) ≠ 0 then
      ([], some (s.type, off))
    else
      let r := sectsFrom n (256 * s.type + s.inst) (off + 8 + len + pad) (b.drop (8 + len + pad))
      (s :: r.1, r.2)

/-- The sections that R408 requires. -/
def sectRequired : List Nat := [1, 2, 3, 4, 5, 7, 9, 0xA, 0xB, 0xD, 0xE, 0x12]

/-! ### Records (R409) -/

/-- `n` words from an address on: one for each data word, or one data word repeated. -/
def fillWords (a : Nat) (v : Nat) (n : Nat) : List (Nat × Nat) := (List.range n).map (fun i => (a + 4 * i, v))

/-- The words that a sequence of records writes, in order; none when the sequence is malformed. `n` bounds the number of
records. -/
def recordWords : Nat → List Nat → Option (List (Nat × Nat))
  | _, [] => some []
  | 0, _ => none
  | n + 1, b =>
    let a := fieldLe b 0 4
    let w1 := fieldLe b 4 4
    let count := w1 % 2 ^ 24
    let fill := bit 24 w1
    let data := if fill then 4 else 4 * count
    if b.length < 8 + data ∨ a % 4 ≠ 0 ∨ count = 0 ∨ 2 ^ 25 ≤ w1 then none
    else
      match recordWords n (b.drop (8 + data)) with
      | none => none
      | some l =>
        some ((if fill then fillWords a (fieldLe b 8 4) count
          else (List.range count).map (fun i => (a + 4 * i, fieldLe b (8 + 4 * i) 4))) ++ l)

/-- The words of a section of records. -/
def Sect.words (s : Sect) : Option (List (Nat × Nat)) := recordWords s.value.length s.value

end Sys2Proof.Machine
end

