-- ==== Sys2Proof/Machine/Tally.lean ====
section
/-! DEFINITION. Writes of tally counters, precise sampling and the port bandwidth windows (spec/20, R460–R467). -/

namespace Sys2Proof.Machine

open R

/-- The register is a half of a counter (R460); the second value says that it is the high half. -/
def counterHalf (a : Nat) : Option Bool :=
  let off := a % 0x1000
  let inSet : Bool := (0x40070000 ≤ a && a < 0x4007C000 && off < 0x80) || (0x4007C000 ≤ a && a < 0x4007C100) ||
    (0x4007D000 ≤ a && a < 0x4007DC00)
  if inSet && off % 16 = 4 then some false else if inSet && off % 16 = 8 then some true else none

/-- A counter half is written (R460): the high half holds 16 bits, and a latched value of it is replaced. -/
def Dev.counterWrite (d : Dev) (addr v : Nat) : Dev :=
  match counterHalf addr with
  | none => d
  | some high =>
    let ctl := addr - addr % 16
    let d : Dev := { d with
      tim := { d.tim with latched := d.tim.latched.filter (·.1 ≠ addr) }
      tal := { d.tal with wrote := tset 0 (d.tallyCycle ctl) ctl d.tal.wrote } }
    d.wr addr (if high then v % 65536 else v)

def execTallyCounterWrite (dt : Nat) (a : Acc) (addr v : Nat) (s : State) : Host.Outcome State Fault Refusal :=
  s.onDevM dt (counterHalf addr).isSome fun m d =>
    d.regWrite m a addr (·.unlessInert addr (·.counterWrite addr v))

/-- A control register of a counter is written (R462): BAD_EVT says that the set has no such event. -/
def Dev.tallyCtl (d : Dev) (addr v lo hi : Nat) : Dev :=
  let e := bits 15 8 v
  d.wr addr (v % 4 + 32 * (v / 32 % 2) + 64 * b2n (decide (e < lo ∨ hi < e)) + 256 * e)

/-! ### Precise sampling (R463–R465) -/

/-- Records in a sampling buffer (SMP_STS.FILL). -/
def Dev.smpFill (d : Dev) (k : Nat) : Nat := (d.rn (TALLY_C_SMP_WR k) + 2 ^ 32 - d.rn (TALLY_C_SMP_RD k)) % 2 ^ 32

/-- Source 336 + k while the fill is at least THRESH. -/
def Dev.smpThresh (d : Dev) (k : Nat) : Dev :=
  let t := d.fld (TALLY_C_SMP_THR_THRESH k)
  let d := d.put (TALLY_C_SMP_STS_FILL k) (d.smpFill k)
  if t ≠ 0 ∧ t ≤ d.smpFill k then d.raise (336 + k) else d

/-- The count of core `k` restarts. -/
def Dev.smpRestart (d : Dev) (k : Nat) : Dev := { d with tal := { d.tal with smp := terase k d.tal.smp } }

/-- A write of SMP_CFG (R463). -/
def Dev.smpCfg (d : Dev) (k v : Nat) : Dev :=
  (d.smpRestart k).wr (TALLY_C_SMP_CFG k) (v % 8 + 256 * bits 15 8 v + 65536 * bits 31 16 v)

def execSmpCfgWrite (dt : Nat) (a : Acc) (core v : Nat) (s : State) : Host.Outcome State Fault Refusal :=
  s.onDevM dt (core < 12) fun m d => d.regWrite m a (TALLY_C_SMP_CFG core) 
    (·.unlessInert (TALLY_C_SMP_CFG core) (·.smpCfg core v))

/-- A write of SMP_RD (R465): beyond SMP_WR it is ignored; a stopped buffer resumes when SMP_RD moves. -/
def Dev.smpRd (d : Dev) (k v : Nat) : Dev :=
  let v := v % 2 ^ 32
  if 512 < (d.rn (TALLY_C_SMP_WR k) + 2 ^ 32 - v) % 2 ^ 32 ∨ v = d.rn (TALLY_C_SMP_RD k) then d
  else
    (({ d with tal := { d.tal with smpFull := d.tal.smpFull.filter (· ≠ k) } } : Dev).wr (TALLY_C_SMP_RD k) v).smpThresh k

def execSmpRdWrite (dt : Nat) (a : Acc) (core v : Nat) (s : State) : Host.Outcome State Fault Refusal :=
  s.onDevM dt (core < 12) fun m d => d.regWrite m a (TALLY_C_SMP_RD core) 
    (·.unlessInert (TALLY_C_SMP_RD core) (·.smpRd core v))

/-- The address of the record numbered `n` of core `k` (R464). -/
def smpAddr (k n : Nat) : Nat := 0x11530000 + 0x4000 * k + 32 * (n % 512)

/-- A sample's record (R464). -/
def Dev.smpWords (d : Dev) (k addr opcode latency : Nat) : List Nat :=
  let evt := if d.on (TALLY_C_SMP_CFG_TRIG k) then d.fld (TALLY_C_SMP_CFG_EVT k) else 0xFF
  [addr % 2 ^ 32, (if k < 8 then 0 else addr / 2 ^ 32 % 2 ^ 32), opcode % 2 ^ 32,
   min latency 0xFFFF + 65536 * evt, d.ns % 2 ^ 32,
   d.rn (TALLY_C_SMP_WR k) % 65536 + 65536 * k + 2 ^ 20 * d.fld (MAN_CORE_CFG_OWNER k) + 2 ^ 24 * d.frac8,
   d.rn STG_NUM, 0]

/-- A record enters the buffer. -/
def Dev.smpWrite (d : Dev) (m : Mem) (k addr opcode latency : Nat) : Dev × Mem :=
  let m := Mem.setWords m (smpAddr k (d.rn (TALLY_C_SMP_WR k))) (d.smpWords k addr opcode latency)
  ((d.bump (TALLY_C_SMP_WR k)).smpThresh k, m)

/-- A sample is due (R465). -/
def Dev.smpDue (d : Dev) (m : Mem) (k addr opcode latency : Nat) : Dev × Mem :=
  let o := d.fld (MAN_CORE_CFG_OWNER k)
  if d.smpFill k < 512 then d.smpWrite m k addr opcode latency
  else if d.on (TALLY_C_SMP_CFG_WRAP k) then
    (((d.bump (TALLY_C_SMP_RD k)).set (TALLY_C_SMP_STS_OVW k)).postOnce 0x08 0x0003 0 o k []).smpWrite m k addr opcode
      latency
  else
    let d := ((d.bump (TALLY_C_SMP_DROP k)).set (TALLY_C_SMP_STS_FULL k)).raise (336 + k)
    if d.tal.smpFull.contains k then (d, m)
    else (({ d with tal := { d.tal with smpFull := insertNat k d.tal.smpFull } } : Dev).post 0x08 0x0002 0 o k, m)

/-- `n` samples are due of which the command does not tell the instruction: each address, opcode and latency is a free value
(assumption 137). -/
def Dev.smpFree (k : Nat) : Nat → Dev → Mem → Dev × Mem
  | 0, d, m => (d, m)
  | n + 1, d, m =>
    let x := d.fresh 64
    let y := x.2.fresh 32
    let z := y.2.fresh 16
    let r := z.2.smpDue m k x.1 y.1 z.1
    Dev.smpFree k n r.1 r.2

/-- The core event that PRECISE_SAMPLE counts: instructions retired, or with TRIG = 1 the event EVT. -/
def Dev.smpEvent (d : Dev) (k : Nat) : Nat := if d.on (TALLY_C_SMP_CFG_TRIG k) then d.fld (TALLY_C_SMP_CFG_EVT k) else 1

/-- `count` more instructions or occurrences since the last command, which the core's tally counters count too (R462); of an
event that the block sees itself, its own count tells. The last sample that is due is the command's instruction (R463). -/
def execPreciseSample (dt core count addr opcode latency : Nat) (s : State) : Host.Outcome State Fault Refusal :=
  s.onAll dt (core < 12) fun m d =>
    let ev := d.smpEvent core
    let d := if ownEvent ev then d else d.tallyC core ev count
    if !d.smpOn core then (d, m)
    else
      let t := tget 0 d.tal.smp core + (if ownEvent ev then 0 else count)
      let n := d.fld (TALLY_C_SMP_CFG_N core)
      let d : Dev := { d with tal := { d.tal with smp := tset 0 (t % n) core d.tal.smp } }
      if t < n then (d, m)
      else
        let r := Dev.smpFree core (t / n - 1) d m
        r.1.smpDue r.2 core addr opcode latency

/-! ### Port bandwidth windows (R466, R467) -/

/-- The rate of a byte sum in kb/s, held at 32 bits; over a window of no length the spec states none: a free value. -/
def Dev.bwRate (d : Dev) (bytes win : Nat) : Nat × Dev :=
  if win = 0 then d.fresh 32 else (min (bytes * 8000000 / win) 0xFFFFFFFF, d)

/-- The sums of a port latch. -/
def Dev.bwPort (win p : Nat) (d : Dev) : Dev :=
  let i := tget 0 d.tal.bwIn p
  let o := tget 0 d.tal.bwOut p
  let d := (d.wrPair (TALLY_BW_IN_LO p) (TALLY_BW_IN_HI p) i).wrPair (TALLY_BW_OUT_LO p) (TALLY_BW_OUT_HI p) o
  let ri := d.bwRate i win
  let ro := ri.2.bwRate o win
  ((ro.2.wr (TALLY_BW_RATE_IN p) ri.1).wr (TALLY_BW_RATE_OUT p) ro.1).wr (TALLY_BW_WIN_NS p) win

/-- A latch point (R466); the last one of a window latches (R467). -/
def Dev.bwLatch (d : Dev) : Dev :=
  let n := d.fld TALLY_BW_CFG_N_STAGES
  if !d.bwOn then d
  else
    let k := d.tal.bwPoints + 1
    if k < n then { d with tal := { d.tal with bwPoints := k } }
    else
      let win := d.ns - d.tal.bwStart
      let d := d.each (List.range 48) (fun p d => d.bwPort win p)
      let d : Dev := { d with tal := { d.tal with bwIn := [], bwOut := [], bwPoints := 0, bwStart := d.ns } }
      d.raiseIf TALLY_BW_CFG_IRQ 350

/-- The timetable holds a latch point of its own. -/
def Dev.bwEntries (d : Dev) : Bool :=
  (List.range 256).any (fun n => n != 0 && d.ttKind n == 3 && d.fld (STG_TT_CTL_WORK n) == 2)

/-- The work item of timetable entry `n` with WORK 2 starts. -/
def execBandwidthLatchPoint (dt n : Nat) (s : State) : Host.Outcome State Fault Refusal :=
  s.onDev dt (n < 256) fun d =>
    if n ≠ 0 ∧ d.ttKind n = 3 ∧ d.fld (STG_TT_CTL_WORK n) = 2 ∧ d.ttApplies n d.phase ∧ d.inStage (d.fld (STG_TT_START_NS n)) then
      d.bwLatch
    else d

/-- A write of TALLY_BW_CFG: a window begins where the windows have been off. -/
def Dev.bwCfg (d : Dev) (v : Nat) : Dev :=
  let was : Bool := d.on TALLY_BW_CFG_EN && d.fld TALLY_BW_CFG_N_STAGES != 0
  let d := d.wr TALLY_BW_CFG (v % 4 + 65536 * bits 31 16 v)
  if !was ∧ bit 0 v ∧ bits 31 16 v ≠ 0 then { d with tal := { d.tal with bwIn := [], bwOut := [], bwPoints := 0, bwStart := d.ns } } else d

/-! ### Clearing (R456, R461) -/

/-- The halves of counters that a read has latched are lost with the counters (R461). -/
def Dev.dropLatched (d : Dev) (q : Nat → Bool) : Dev :=
  { d with tim := { d.tim with latched := d.tim.latched.filter (fun x => !q x.1) } }

/-- The page of core `k` and its sampling state return to 0. -/
def Dev.tallyClearCore (d : Dev) (k : Nat) : Dev :=
  let base := 0x40070000 + 0x1000 * k
  let d := d.dropLatched (fun a => base ≤ a && a < base + 0x1000)
  let d : Dev := { d with
    regs := d.regs.filter (fun r => !(base ≤ r.1 && r.1 < base + 0x1000)) }
  { (d.smpRestart k) with tal := { (d.smpRestart k).tal with smpFull := d.tal.smpFull.filter (· ≠ k) } }

/-- The registers that a reset of the unit sets to 0: counts, overflow bits, sampling counts and states, and bandwidth
latches; the configuration stays. -/
def tallyCounts (a : Nat) : Bool :=
  a / 0x10000 == 0x4007 &&
    ((counterHalf a).isSome || a == TALLY_D_STS || (TALLY_P_STS 0 ≤ a && a ≤ TALLY_P_STS 5) || 0x4007E100 ≤ a ||
      (a < 0x4007C000 && (a % 0x1000 == 0x80 || (0x8C ≤ a % 0x1000 && a % 0x1000 ≤ 0x98))))

/-- FRM_BLK_RST with UNIT 2, and the power gate of unit 5: every counter and sampling buffer is 0. -/
def Dev.tallyReset (d : Dev) (m : Mem) : Dev × Mem :=
  let d := d.dropLatched tallyCounts
  let d : Dev := { d with
    regs := d.regs.filter (fun r => !tallyCounts r.1)
    tal := { TalSt.reset with bwStart := d.ns } }
  (d, Mem.zero m 0x11530000 0x30000)

end Sys2Proof.Machine
end

