-- ==== Sys2Proof/Machine/Faults.lean ====
section
/-! DEFINITION. The fault and reset manager's commands, coach resets and block resets (spec/19, R445–R447,
R453–R456). -/

namespace Sys2Proof.Machine

open R

/-! ### The pins and software reports (R445–R447) -/

/-- FRM_ACK (R445). -/
def Dev.frmAck (d : Dev) (v : Nat) : Dev := if bits 31 16 v = 0xFA17 then (d.clr FRM_STS_PEND).updFaultN else d

def execFrmAck (dt : Nat) (a : Acc) (v : Nat) (s : State) : Host.Outcome State Fault Refusal :=
  s.onDevM dt true fun m d => d.regWrite m a FRM_ACK (·.frmAck v)

/-- A coach keeps SAFE_N low (R446): of class D with SAFE_EN, and in reset, not started, or on a DEGRADED pair. -/
def Dev.keepsSafeLow (d : Dev) (c : Nat) : Bool :=
  d.on (MAN_COACH_CFG_EN c) && d.safeCoach c &&
    (d.coachDown c || !d.on (SYS_COACH_STS_STARTED c) || d.dDegraded c)

/-- FRM_SAFE_CTL (R446). -/
def Dev.safeCtl (d : Dev) (v : Nat) : Dev :=
  if bits 31 16 v ≠ 0x5AFE ∨ !bit 0 v then d
  else if d.frm.bootHold ∨ d.frm.tamperHold ∨ (List.range 8).any d.keepsSafeLow then d.post 0x02 0x0004 1 9 0
  else d.pin FRM_STS_SAFE_N 1 true

def execFrmSafeCtl (dt : Nat) (a : Acc) (v : Nat) (s : State) : Host.Outcome State Fault Refusal :=
  s.onDevM dt true fun m d => d.regWrite m a FRM_SAFE_CTL (·.safeCtl v)

/-- FRM_SWFAULT of a page: 0–7 a coach's, 8 Guard's (R447). -/
def Dev.swFault (d : Dev) (a : Acc) (page v : Nat) : Dev :=
  let sev := bits 1 0 v
  -- the GO field of a coach's page holds a 1 (R12)
  let d := if !a.guard ∧ bits 7 4 v ≠ 0 then d.fault 1 0x02 0 (accWho a) else d
  if sev = 0 then d
  else
    let owner := if page < 8 then page else bits 7 4 v
    let sev := if page < 8 then min sev 2 else sev
    d.faultPost sev 0x02 0x0005 owner owner [bits 31 16 v]
      { core := if owner = 8 ∧ a.core < 12 then some a.core else none, cause := 8 }

def execFrmSwfault (dt : Nat) (a : Acc) (page v : Nat) (s : State) : Host.Outcome State Fault Refusal :=
  s.onDevM dt (page < 9) fun m d => d.regWrite m a (FRM_SWFAULT page) (·.swFault a page v)

/-! ### Requests for a coach reset (R453–R455, R362) -/

/-- A request to restart a class D coach on a DEGRADED pair is refused (R362). -/
def Dev.refuseDegraded (d : Dev) (c : Nat) : Dev :=
  let p := ((d.coresOf c).find? (fun k => k < 8 && d.fld (TAN_PAIR_STS_STATE (k / 2)) == 2)).getD 0 / 2
  d.post 0x07 0x0006 1 c p [c]

/-- CA_RESET_REQ (R453). -/
def Dev.resetReq (d : Dev) (c v : Nat) : Dev :=
  if bits 31 16 v ≠ 0xC0AC then d else if d.dDegraded c then d.refuseDegraded c else d.requestReset c 5

def execCaResetReq (dt : Nat) (a : Acc) (c v : Nat) (s : State) : Host.Outcome State Fault Refusal :=
  s.onDevM dt (c < 8) fun m d => d.regWrite m a (CA_RESET_REQ c) (·.resetReq c v)

/-- RESET of FRM_COACHc_CTL. -/
def Dev.guardReset (d : Dev) (c : Nat) : Dev := if d.dDegraded c then d.refuseDegraded c else d.requestReset c 6

/-- RESTART of FRM_COACHc_CTL (R455). -/
def Dev.guardRestartCoach (d : Dev) (c : Nat) : Dev :=
  if d.dDegraded c then d.refuseDegraded c
  else ({ d with frm := { d.frm with held := d.frm.held.filter (· ≠ c) } } : Dev).coachRelease c

/-- DS_REL of FRM_COACHc_CTL (R454). -/
def Dev.guardDsRel (d : Dev) (c : Nat) : Dev :=
  if d.coachDown c ∨ d.dDegraded c then d.post 0x02 0x0004 1 9 1
  else if d.frm.dsPolicy.contains c then
    ({ d with frm := { d.frm with dsPolicy := d.frm.dsPolicy.filter (· ≠ c) } } : Dev).dsReleaseCoach c
  else d

/-- FRM_COACHc_CTL (R453–R455). -/
def Dev.coachCtl (d : Dev) (c v : Nat) : Dev :=
  if bits 31 16 v ≠ 0xC0AC ∨ !d.on (MAN_COACH_CFG_EN c) then d
  else
    let d := d.when (bit 0 v) (·.guardReset c)
    let d := d.when (bit 1 v) (·.guardRestartCoach c)
    d.when (bit 2 v) (·.guardDsRel c)

def execFrmCoachReset (dt : Nat) (a : Acc) (c v : Nat) (s : State) : Host.Outcome State Fault Refusal :=
  s.onDevM dt (c < 8) fun m d => d.regWrite m a (FRM_COACH_CTL c) (·.coachCtl c v)

def execFrmCoachRestart (dt : Nat) (a : Acc) (c v : Nat) (s : State) : Host.Outcome State Fault Refusal :=
  s.onDevM dt (c < 8) fun m d => d.regWrite m a (FRM_COACH_CTL c) (·.coachCtl c v)

def execFrmCoachDsRel (dt : Nat) (a : Acc) (c v : Nat) (s : State) : Host.Outcome State Fault Refusal :=
  s.onDevM dt (c < 8) fun m d => d.regWrite m a (FRM_COACH_CTL c) (·.coachCtl c v)

/-! ### The coach reset (R453–R455) -/

/-- The Open half of a core's local controller returns to its reset state. -/
def Dev.clearOpenHalf (d : Dev) (k : Nat) : Dev :=
  let d : Dev := { d with wld := { d.wld with
    active := d.wld.active.filter (fun x => !(x.1 == k && !x.2.1)),
    dispatch := d.wld.dispatch.filter (· ≠ (k, false)),
    running := d.wld.running.filter (· ≠ k), waiting := d.wld.waiting.filter (· ≠ k) } }
  ((d.wr (IRQ_LC_CLAIM k 0) 0x3FF).wr (IRQ_LC_PMR k 0) 32).wr (IRQ_LC_STS k 0) 32

/-- A pair in TANDEM is in reset with its leader's coach; no fold is captured (R357, TAN_PAIRp_STS.STATE). -/
def Dev.pairDown (d : Dev) (p : Nat) : Dev :=
  let d := if d.fld (TAN_PAIR_STS_STATE p) = 1 then d.put (TAN_PAIR_STS_STATE p) 3 else d
  { d with tan := { d.tan with fold := terase p d.tan.fold, foldAcc := terase p d.tan.foldAcc, foldSince := terase p d.tan.foldSince } }

/-- Step 2: the cores enter reset, with their interrupts and tally pages. -/
def Dev.resetCores (d : Dev) (c : Nat) : Dev :=
  let d := d.each (d.coresOf c) (fun k d => ((d.clearOpenHalf k).tallyClearCore k).when (d.on (MAN_CORE_GINFO_IN_GUARD k))
    (·.leaveGuard k))
  let d := d.each ((d.coresOf c).filter (fun k => k < 8)) (fun k d => d.pairDown (k / 2))
  let d := d.each ((List.range 512).filter (fun s => d.fld (IRQ_ROUTE_OWNER s) = c)) (fun s d =>
    (d.clr ⟨IRQ_PEND (s / 32), s % 32, s % 32⟩).set ⟨IRQ_MASK (s / 32), s % 32, s % 32⟩)
  (d.dropWins c (fun w => w.owner == c)).clr (STG_CSTS_OVR_CNT_OVF c)

/-- The cipher commands of an owner end with OWNER_RESET; chunks held for a queue of its own are dropped under R183
(R401; DEDUCED, assumption 64). -/
def Dev.ceOwnerReset (c : Nat) : List Nat → Dev → Mem → Dev × Mem
  | [], d, m => (d, m)
  | l :: rest, d, m =>
    let run : Bool := match (d.lane l).run with
      | some r => r.cmd.owner == c
      | none => false
    let held : Nat := match (d.lane l).run with
      | some r => if r.cmd.owner = c ∧ r.why = .output ∧ !r.escrow ∧ qOwner r.cmd.dq = c then r.chunks.length else 0
      | none => 0
    let d := d.each (List.range held) (fun _ d => d.edrop (36 + c) .reset)
    let x := if run then d.ceAbort m l 0x14 else (d, m)
    let q := (x.1.lane l).queue
    let mine := q.filter (fun a => (ceCmd x.2 a).owner == c)
    let d := x.1.setLane l { (x.1.lane l) with queue := q.filter (fun a => (ceCmd x.2 a).owner != c) }
    let y := Dev.ceRefuseAll l 0x14 mine d x.2
    Dev.ceOwnerReset c rest y.1 y.2

/-- Step 3: queues, cipher commands, timed actions and the sleep request. -/
def Dev.resetUnits (d : Dev) (m : Mem) (c : Nat) : Dev × Mem :=
  let x := Dev.ceOwnerReset c [0, 1, 2, 3] d m
  let d := ((x.1.clearQueues c (List.range 64)).towOwnerReset c).ttaCoachReset c
  ((d.wr (PWRM_SLEEP_REQ c) 0).wr (PWRM_TOL_US c) 0xFFFFFFFF, x.2)

/-- Step 4: the channel policy (R454). -/
def Dev.chanPolicy (d : Dev) (c : Nat) : Dev :=
  match d.fld (FRM_COACH_CFG_CHAN_POLICY c) with
  | 1 => d.each (d.coachChans c) (fun i d => d.chanOff i)
  | 2 => ({ d with frm := { d.frm with dsPolicy := insertNat c d.frm.dsPolicy } } : Dev).applyDsCoach c 5
  | _ => d

/-- The resets of a coach without a gap of ESC_WIN seconds, this one included (R455). -/
def Dev.escCount (d : Dev) (c : Nat) : Nat :=
  let e := tget { count := 0, last := 0 } d.frm.escal c
  if e.count ≠ 0 ∧ d.up - e.last < 1000000000 * d.fld (FRM_COACH_CFG_ESC_WIN c) then e.count + 1 else 1

/-- Escalation (R455). -/
def Dev.escalate (d : Dev) (c : Nat) : Dev :=
  let n := d.escCount c
  let d : Dev := { d with frm := { d.frm with escal := tset { count := 0, last := 0 } { count := n, last := d.up } c d.frm.escal } }
  let most := d.fld (FRM_COACH_CFG_ESC_MAX c)
  if most = 0 ∨ n < most then d
  else
    let d := d.post 0x02 0x0007 2 c c
    if d.on (FRM_COACH_CFG_ESC_ACT c) then d.fault 3 0x02 0x0007 c
    else { d with frm := { d.frm with held := insertNat c d.frm.held } }

/-- Step 6, and the release of R455. -/
def Dev.resetDone (d : Dev) (c cause : Nat) : Dev :=
  let d := (d.bumpF (CA_RST_INFO_COUNT c)).put (CA_RST_INFO_CAUSE c) cause
  let d := ((d.wr (FRM_CFAULT c) 0).post 0x02 0x0002 1 c c [cause]).raiseIf FRM_INT_EN_COACH 3
  let d : Dev := { d with frm := { d.frm with
    held := if d.on (FRM_COACH_CFG_AUTO c) then d.frm.held else insertNat c d.frm.held } }
  (d.escalate c).coachRelease c

/-- A core of the coach runs in the Guard world (step 1). -/
def Dev.coachInGuard (d : Dev) (c : Nat) : Bool := (d.coresOf c).any (fun k => d.on (MAN_CORE_GINFO_IN_GUARD k))

/-- A started coach reset is carried out from now on: the coach is in reset. -/
def Dev.enterCoachReset (d : Dev) (c : Nat) : Dev :=
  { d with frm := { d.frm with
    coachReset := d.frm.coachReset.filter (·.1 ≠ c), noWait := d.frm.noWait.filter (· ≠ c), inReset := insertNat c d.frm.inReset } }

/-- Steps 2 to 6 of a coach reset that has been started, once none of its cores is in the Guard world (R344), or at once
for the reset of a pair (R356); a device reset that has been started comes first (R444). -/
def execCoachReset (dt c : Nat) (s : State) : Host.Outcome State Fault Refusal :=
  s.onAll dt (c < 8) fun m d =>
    match d.frm.coachReset.find? (·.1 == c) with
    | none => (d, m)
    | some (_, cause) =>
      if d.frm.devReset.isSome ∨ (d.coachInGuard c ∧ !d.frm.noWait.contains c) then (d, m)
      else
        let x := ((d.enterCoachReset c).resetCores c).resetUnits m c
        let d := x.1.chanPolicy c
        (d.resetDone c cause, Mem.scrub x.2 (fun e => entryOwner e == c && entryScrub e))

/-! ### The lock and block resets (R456) -/

def execFrmCtlLock (dt : Nat) (a : Acc) (v : Nat) (s : State) : Host.Outcome State Fault Refusal :=
  s.onDevM dt true fun m d => d.regWrite m a FRM_CTL (fun d => if bit 0 v then d.set FRM_CTL_LOCK else d)

/-- UNIT 1: the controller and transceiver of a CAN or LIN port restart. -/
def Dev.busRestart (d : Dev) (p : Nat) : Dev :=
  let d := if d.on (PORT_STS_LINK p) then d.linkSet p false else d.flushPort p .down
  let d : Dev := { (d.clearCan p) with prt := { (d.clearCan p).prt with
    recovering := d.prt.recovering.filter (· ≠ p), linPub := d.prt.linPub.filter (fun x => x.1 / 64 ≠ p),
    linLeft := terase p d.prt.linLeft, linDue := d.prt.linDue.filter (· ≠ p), linNow := terase p d.prt.linNow } }
  let d := (d.wr (PORT_TRX_STS p) 0).when (28 ≤ p) (fun d => d.put (PORT_TRX_STS_UV p) (b2n d.hv.linLow))
  if p < 28 then
    let d := ((d.put (PORT_CAN_STS_REC p) 0).put (PORT_CAN_STS_TEC p) 0).put (PORT_CAN_STS_LEC p) 0
    if d.fld (PORT_CAN_STS_STATE p) = 0 then d
    else (d.put (PORT_CAN_STS_STATE p) 0).portState p (PORT_STS_CAN_STATE_CHG p)
  else (d.wr (PORT_LIN_SCHED p) 0).wr (PORT_LIN_STS p) 0

/-- UNIT 3: every sampler counter is reloaded. -/
def Dev.outrRestart (d : Dev) : Dev := d.each (List.range 44) (fun p d => d.each (List.range 8) (fun k d => d.reload p k))

/-- FRM_BLK_RST (R456). -/
def Dev.blkRst (v : Nat) (m : Mem) (d : Dev) : Dev × Mem :=
  let u := bits 2 0 v
  let i := bits 8 3 v
  if bits 31 16 v ≠ 0xB1C0 ∨ u = 0 ∨ 5 ≤ u ∨ (u = 1 ∧ (i < 16 ∨ 35 < i)) ∨ (u = 4 ∧ 31 < i) then (d, m)
  else
    let x := match u with
      | 1 => (d.busRestart i, m)
      | 2 => d.tallyReset m
      | 3 => (d.outrRestart, m)
      | _ => (d.lioEmpty i, m)
    (x.1.post 0x02 0x0008 0 9 u [v % 512], x.2)

def execBlockResetCanLin (dt : Nat) (a : Acc) (v : Nat) (s : State) : Host.Outcome State Fault Refusal :=
  s.onAll dt true fun m d => d.regWriteM m a FRM_BLK_RST (Dev.blkRst v)

def execBlockResetTally (dt : Nat) (a : Acc) (v : Nat) (s : State) : Host.Outcome State Fault Refusal :=
  s.onAll dt true fun m d => d.regWriteM m a FRM_BLK_RST (Dev.blkRst v)

def execBlockResetOutr (dt : Nat) (a : Acc) (v : Nat) (s : State) : Host.Outcome State Fault Refusal :=
  s.onAll dt true fun m d => d.regWriteM m a FRM_BLK_RST (Dev.blkRst v)

def execBlockResetLio (dt : Nat) (a : Acc) (v : Nat) (s : State) : Host.Outcome State Fault Refusal :=
  s.onAll dt true fun m d => d.regWriteM m a FRM_BLK_RST (Dev.blkRst v)

end Sys2Proof.Machine
end

