-- ==== Sys2Proof/Machine/Power.lean ====
section
/-! DEFINITION. The power-state manager, the entry into a sleep state and the exit from it, supply, clocks and gates
(spec/18; R244–R247 of spec/09). -/

namespace Sys2Proof.Machine

open R

/-! ### The owners' requests (R432–R435) -/

/-- The sleeping owners: Guard and every coach with EN = 1 (R432). -/
def Dev.sleepers (d : Dev) : List Nat := (List.range 8).filter (fun c => d.on (MAN_COACH_CFG_EN c)) ++ [8]

/-- An owner asks to sleep, and its tolerance; a coach held in reset asks with the largest (R432). -/
def Dev.asks (d : Dev) (o : Nat) : Bool := (o < 8 && d.frm.inReset.contains o) || d.on (PWRM_SLEEP_REQ_REQ o)
def Dev.tolOf (d : Dev) (o : Nat) : Nat := if o < 8 ∧ d.frm.inReset.contains o then 0xFFFFFFFF else d.rn (PWRM_TOL_US o)

/-- parked_allowed (R433). -/
def Dev.parkedAllowed (d : Dev) : Bool :=
  !d.on PWRM_POLICY_NO_PARKED && d.fld PWRM_WAKE_TMR_SECONDS == 0 &&
    (List.range 44).all (fun s => !d.on (SID_SRC_CFG_ARM s) || (s < 36 && d.fld (SID_SRC_STS_STATE s) == 2) ||
      parkedSrc s (d.fld (SID_SRC_CFG_MODE s))) &&
    (List.range 40).all (fun i => !d.on (CHAN_CFG_KEEP_IN_SENTINEL i) || (d.requested i).kind == 0)

/-- The smallest tolerance of the sleeping owners. -/
def Dev.minTol (d : Dev) : Nat := d.sleepers.foldl (fun t o => min t (d.tolOf o)) 0xFFFFFFFF

/-- The registers that show the owners' requests. -/
def Dev.pwrmShow (d : Dev) : Dev :=
  let m := maskOf (d.sleepers.filter (fun o => o < 8 && d.asks o))
  let d := ((d.put PWRM_STATE_REQ m).put PWRM_STATE_GREQ (b2n (d.asks 8))).put PWRM_STATE_PARKED_OK (b2n d.parkedAllowed)
  d.wr PWRM_MIN_TOL d.minTol

/-- The target of R433, as PWRM_STATE.TARGET. -/
def Dev.pwrmTarget (d : Dev) : Nat :=
  if !d.sleepers.all d.asks then 0
  else if 80000 ≤ d.minTol ∧ d.parkedAllowed then 3
  else if 45000 ≤ d.minTol then 2
  else if 2 ≤ d.minTol then 1
  else 0

/-- The evaluation at a stage tick in RUN or DROWSE (R433, R434). -/
def Dev.pwrmEval (d : Dev) : Dev :=
  let d := d.pwrmShow
  if d.fld SID_STS_STATE ≠ 0 then d
  else
    match d.pwrmTarget with
    | 0 => d.pwrmState 0 0
    | 1 => d.pwrmState 1 1
    | t => (d.pwrmState 2 t).sleepStart (t - 1)

/-- A write of REQ; 0 withdraws the request during a handshake (R435). -/
def Dev.sleepReq (d : Dev) (o v : Nat) : Dev :=
  let d := (d.put (PWRM_SLEEP_REQ_REQ o) v).pwrmShow
  if v % 2 = 0 ∧ d.sleepers.contains o then d.withdraw else d

def execPwrmSleepReq (dt : Nat) (a : Acc) (o v : Nat) (s : State) : Host.Outcome State Fault Refusal :=
  s.onDevM dt (o < 9) fun m d => d.regWrite m a (PWRM_SLEEP_REQ o) (·.sleepReq o v)

/-- A write of a tolerance below the target's threshold withdraws (R435). -/
def Dev.tolUs (d : Dev) (o v : Nat) : Dev :=
  let v := v % 2 ^ 32
  let d := (d.wr (PWRM_TOL_US o) v).pwrmShow
  if v < (if d.fld SID_STS_TARGET = 2 then 80000 else 45000) ∧ d.sleepers.contains o then d.withdraw else d

def execPwrmTolUs (dt : Nat) (a : Acc) (o v : Nat) (s : State) : Host.Outcome State Fault Refusal :=
  s.onDevM dt (o < 9) fun m d => d.regWrite m a (PWRM_TOL_US o) (·.tolUs o v)

/-- After a write that may make the target no longer allowed (R435); `was`: it was allowed before the write. -/
def Dev.recheckTarget (d : Dev) (was : Bool) : Dev :=
  let d := d.pwrmShow
  if d.fld SID_STS_STATE ≠ 0 ∧ d.fld SID_STS_TARGET = 2 ∧ was ∧ !d.parkedAllowed then d.withdraw else d

/-! ### Retention (R430) -/

/-- The AP L2 cache is held in retention: all four AP cores wait in DROWSE. -/
def Dev.l2Retained (d : Dev) : Bool := d.fld PWRM_STATE_STATE == 1 && [8, 9, 10, 11].all d.wld.waiting.contains

/-- A core executes the wait instruction: it waits until it is called, in DROWSE with its rail in retention, also where the
device enters DROWSE while it waits (R429, R430; DEDUCED, assumption 47). -/
def execCoreWait (dt core : Nat) (s : State) : Host.Outcome State Fault Refusal :=
  s.onDev dt (core < 12) fun d =>
    if d.wld.running.contains core then
      ({ d with wld := { d.wld with waiting := insertNat core d.wld.waiting } } : Dev).when (core < 8 && core % 2 == 0)
        (·.foldStop (core / 2))
    else d

/-- A core leaves retention; outside DROWSE a called core goes on by itself (`Dev.wakeIdle`). -/
def execCoreRetentionWake (dt core : Nat) (s : State) : Host.Outcome State Fault Refusal :=
  s.onDev dt (core < 12) fun d =>
    if d.coreCalled core ∧ d.wld.waiting.contains core then d.coreGoes core else d

/-! ### The commit window and ENTRY (R244, R245, R369, R431, R445) -/

/-- The COMMIT tick: the always-on domain takes the armed sources with their filters and patterns, and the wake timer
(R244, R435). -/
def Dev.commitStart (d : Dev) : Dev :=
  let peers := d.sid.before.flatMap (fun x => d.drivesOf x.1)
  let d := (d.sidState 2).post 0x31 0x0003 0 8 (d.fld SID_STS_TARGET)
  { d with sid := { d.sid with armed := d.armedNow, timer := d.fld PWRM_WAKE_TMR_SECONDS, peers := peers } }

/-- The slots of the sleep image (R369); under the test root those of EXPIRY 0 behave as EXPIRY 1 (R370). -/
def Dev.sleepSlots (d : Dev) (target : Nat) : List (Nat × SbSlot) :=
  d.sbx.slots.filter (fun x =>
    let e := x.2.k.expiry
    e == 1 || (e == 2 && target == 1) || (e == 0 && d.on SBX_ROOT_TEST))

/-- The channels at ENTRY (R431). -/
def Dev.entryChans (d : Dev) (target : Nat) : Dev :=
  d.each (d.outputs.filter (fun i => target == 2 || !d.on (CHAN_CFG_KEEP_IN_SENTINEL i))) (fun i d =>
    ((d.chanOff i).requestedOff i).updOut i)

/-- ENTRY to PARKED zeroises the slots of EXPIRY 2 (R369). -/
def Dev.dropSlots (d : Dev) (target : Nat) : Dev :=
  if target = 2 then
    { d with sbx := { d.sbx with slots := d.sbx.slots.filter (fun x => x.1 = 0 || x.2.k.expiry ≠ 2) } }
  else d

/-- The tick that ends the commit window: ENTRY begins. -/
def Dev.entryStart (d : Dev) (m : Mem) : Dev × Mem :=
  let t := d.fld SID_STS_TARGET
  let d := (d.sidState 3).post 0x31 0x0004 0 8 t
  let x := Dev.ceAbortAll 0x11 [0, 1, 2, 3] d m
  let d := x.1.loseTemp
  let d : Dev := { d with
    hv := { d.hv with dsRelease := false }
    sbx := { d.sbx with sleepImage := d.sleepSlots t, token := true }
    sid := { d.sid with enteredAt := d.up } }
  let d := d.dropSlots t
  let d := (d.clr HLK_CW_STS_ARMED).entryChans t
  let d := ((d.flushStage.clr FRM_STS_PEND).updFaultN).pin FRM_STS_SAFE_N 1 true
  (d, x.2)

/-- The Beyvo rails are off (R245): late wakes are written to the always-on log, the lockout counts stop in PARKED
(R258), the device time runs on or is frozen (R82, R84). -/
def Dev.asleep (d : Dev) (t : Nat) : Dev :=
  let d : Dev := { d with frm := { d.frm with beyvoUp := false } }
  let d := d.each d.sid.late (fun x d => d.wakePost x.1 x.2)
  let d := if t = 2 then d.each d.sid.lockEnd (fun x d => d.put (SID_SRC_STS_LOCK_LEFT x.1) (d.lockLeft x.1)) else d
  let d := d.beyvoOff
  { d with
    sid := { d.sid with asleep := t, noted := !d.sid.late.isEmpty
                        lockEnd := (if t = 2 then [] else d.sid.lockEnd) }
    hv := { d.hv with retainedAt := (if t = 2 then none else d.hv.retainedAt) }
    tim := { d.tim with mode := (if t = 2 ∧ d.tim.mode = .heavia then .frozen else d.tim.mode) } }

def execEntryComplete (dt : Nat) (s : State) : Host.Outcome State Fault Refusal :=
  s.onAll dt true fun m d =>
    if d.fld SID_STS_STATE ≠ 3 then (d, m) else (d.asleep (d.fld SID_STS_TARGET), Mem.flashOnly m)

/-! ### Wake and exit (R247, R248, R308, R376, R436, R437) -/

/-- A wake that is no source's (R436, R439), recorded as the first one. -/
def Dev.wakeOther (d : Dev) (from_ : Nat) (info : Fld) : Dev :=
  let d := ((d.wakeCause 0x3F 15 from_).wr PWRM_WAKE_INFO 0).set info
  ({ d with sid := { d.sid with noted := true } } : Dev).wakePost 0x3F 15

/-- PWRM_WAKE_TMR reaches 0 in SENTINEL (R436). -/
def execWakeTimerExpiry (dt : Nat) (s : State) : Host.Outcome State Fault Refusal :=
  s.onDev dt true fun d =>
    if d.sid.asleep ≠ 1 ∨ d.sid.timer = 0 ∨ !d.passed d.sid.enteredAt (1000000000 * d.sid.timer) then d
    else
      let d : Dev := { d with sid := { d.sid with timer := 0 } }
      if d.sid.noted then d else d.wakeOther 1 PWRM_WAKE_INFO_TIMER

/-- SID_WAKE_CAUSE after a late wake (R247). -/
def Dev.lateCause (d : Dev) (from_ : Nat) : Dev :=
  match d.sid.late with
  | [] => d
  | (s, c) :: _ =>
    (((d.put SID_WAKE_CAUSE_CAUSE c).put SID_WAKE_CAUSE_SOURCE s).put SID_WAKE_CAUSE_FROM from_).set SID_WAKE_CAUSE_LATE_WAKE

/-- PARKED has ended: the models start anew (R308), the lockouts go on with the time left (R258). -/
def Dev.unpark (d : Dev) : Dev :=
  let d := d.each (List.range 40) (fun i d =>
    (d.modChan i (fun c => { c with theta := 0, phi := 0 })).clr (CHAN_STS_RETRY_CNT i))
  let l := ((List.range 36).filter (fun s => d.fld (SID_SRC_STS_STATE s) = 2)).map (fun s =>
    (s, d.up + 1000000000 * d.fld (SID_SRC_STS_LOCK_LEFT s)))
  { d with sid := { d.sid with lockEnd := l } }

/-- What the exit does before the Beyvo die starts: the wakes of R248, the models and the lockouts after PARKED. -/
def Dev.exitSleep (d : Dev) : Dev :=
  let t := d.sid.asleep
  let d := d.lateCause t
  let src := d.fld SID_WAKE_CAUSE_SOURCE
  let drive := d.sid.peers.filter (fun p => !d.sid.late.isEmpty || p.1 != src)
  let d : Dev := { d with sid := { d.sid with asleep := 0, timer := 0, driven := drive } }
  if t = 1 then d else d.unpark

/-- The exit from a sleep state begins with its wake; on a wake from PARKED the lid mesh is checked (`meshOk`, R376). -/
def execSleepExit (dt bootsel : Nat) (meshOk : Bool) (s : State) : Host.Outcome State Fault Refusal :=
  s.onAll dt (bootsel < 4) fun m d =>
    if d.sid.asleep = 0 ∨ !d.sid.noted then (d, m)
    else if d.sid.asleep = 2 ∧ !meshOk then
      let x := d.exitSleep.tamperKeys m
      (x.1.tamperHold 1, x.2)
    else
      (d.exitSleep.start { cause := 7 + d.sid.asleep, block := 0, code := 0 } bootsel, Mem.atBoot m)

/-! ### Supply (R216, R230, R262, R264, R439) -/

/-- The gate limit of R264 begins or ends. -/
def Dev.gateLimit (d : Dev) (on : Bool) : Dev :=
  let d := d.put CHAN_GSTS_CRANK (b2n on)
  let d := d.each ((List.range 16).map (· + 24)) (fun i d =>
    (d.put (CHAN_STS_CRANK i) (b2n on)).when (on && !d.chanInert i) (·.chanEvt (CHAN_EVT_CRANK i) (CHAN_INT_EN_CRANK i) i))
  let d := d.post 0x51 (if on then 3 else 4) 0 8 0
  d.when on (·.crankEnter)

/-- Every port's LIN transceiver shows whether VBAT_L is below 7 V (R230); while the Beyvo die is down, from its start on. -/
def Dev.linSupply (d : Dev) (low : Bool) : Dev :=
  let d : Dev := { d with hv := { d.hv with linLow := low } }
  if !d.frm.beyvoUp then d
  else
    d.each ((List.range 8).map (· + 28)) (fun p d =>
      (d.put (PORT_TRX_STS_UV p) (b2n low)).when low (·.linkSet p false))

/-- Lockout: the module is as absent (R31); records still waiting for the always-on log are lost (R126). -/
def Dev.absent (d : Dev) : Dev :=
  let d := d.bothOff keepsDevice
  let d : Dev := { d with
    frm := { FrmSt.reset with bootLow := false, lockedOut := true }, hv := HeaviaSt.reset, log := { d.log with aoQueue := [] } }
  (d.clr FRM_STS_FAULT_N).clr FRM_STS_SAFE_N

/-- Brown-out: a Beyvo reset with coast; a sleep state is thereby interrupted, and the lockout counts of PARKED go on
(R258). -/
def Dev.brownOut (d : Dev) : Dev :=
  if d.frm.tamperHold ∨ d.frm.bootHold ∨ d.frm.resetNLow then d
  else
    let cut := d.sid.asleep
    let d := d.powerLost.beyvoDown.when (cut == 2) (·.unpark)
    { d with
      frm := { d.frm with startWait := some { cause := 5, block := 0, code := 0 } }
      sid := { d.sid with cut := cut } }

/-- VBAT_L has left the brown-out range upwards: a waiting start of the Beyvo die takes place. -/
def Dev.brownOutEnd (d : Dev) (bootsel : Nat) : Dev :=
  match d.frm.startWait with
  | none => d
  | some r =>
    let d := if d.sid.cut = 0 then d else d.wakeOther d.sid.cut PWRM_WAKE_INFO_SUPPLY
    ({ d with sid := { d.sid with cut := 0 } } : Dev).start r bootsel

/-- The records of a change of range (R439). -/
def Dev.rangePosts (d : Dev) (old new : Nat) : Dev :=
  let ms := (d.up - d.hv.ovAt) / 1000000
  let d := if old = 3 then
      (d.wr HPS_SUP_OV_MS (min (d.rn HPS_SUP_OV_MS + ms) 0xFFFFFFFF)).post 0x53 0x0006 1 8 (max 1 (min ms 0xFFFF)) else d
  match new with
  | 1 => d.post 0x53 0x0004 0 8 0
  | 2 => d.post 0x53 0x0005 2 8 0
  | _ =>
    let d := if old = 1 ∨ old = 2 then d.post 0x53 0x0004 0 8 1 else d
    if new = 3 then ({ d with hv := { d.hv with ovAt := d.up } } : Dev).post 0x53 0x0006 1 8 0 else d

/-- VBAT_L's range becomes `new`: 0–3 as HPS_SUP_STS.RANGE. -/
def Dev.newRange (d : Dev) (new bootsel : Nat) : Dev :=
  let old := d.fld HPS_SUP_STS_RANGE
  if new = old then d
  else
    let d := ((d.put HPS_SUP_STS_RANGE new).set HPS_SUP_STS_CHG).raiseIf HPS_INT_EN_SUPPLY 298
    let d := d.rangePosts old new
    let was := decide (old = 1 ∨ old = 2)
    let now := decide (new = 1 ∨ new = 2)
    let d := if was = now then d else d.gateLimit now
    if new = 2 then d.brownOut else if old = 2 then d.brownOutEnd bootsel else d

/-- The recovery from a brown-out that has interrupted PARKED finds the lid mesh broken (R376). -/
def Dev.meshFails (d : Dev) (new : Nat) (meshOk : Bool) : Bool :=
  !meshOk && d.fld HPS_SUP_STS_RANGE == 2 && new != 2 && d.sid.cut == 2 && d.frm.startWait.isSome

/-- VBAT_L is below 7 V: so it is in brown-out, and it may be in the crank range. -/
def below7 (range : Nat) (low : Bool) : Bool := range == 2 || (range == 1 && low)

/-- `range`: 0 normal, 1 crank, 2 brown-out, 3 overvoltage, 4 lockout, which only a power-on reset ends; `low`: in the
crank range VBAT_L is below 7 V. -/
def execSupplyRangeChange (dt range : Nat) (low : Bool) (bootsel : Nat) (meshOk : Bool) (s : State) :
    Host.Outcome State Fault Refusal :=
  s.onAll dt (range < 5 && bootsel < 4) fun m d =>
    if d.frm.lockedOut then (d, m)
    else if range = 4 then (d.powerLost.absent, Mem.flashOnly m)
    else if d.meshFails range meshOk then
      let cut := d.sid.cut
      let d := ({ d with frm := { d.frm with startWait := none } } : Dev).newRange range bootsel
      let x := ((d.wakeOther cut PWRM_WAKE_INFO_SUPPLY).linSupply (below7 range low)).tamperKeys m
      (x.1.tamperHold 1, x.2)
    else
      let up := d.frm.beyvoUp
      let d := d.newRange range bootsel
      (d.linSupply (below7 range low),
        if !up ∧ d.frm.beyvoUp then Mem.atBoot m else if up ∧ !d.frm.beyvoUp then Mem.scrubAll m false else m)

/-- VBAT_P3 lies below GND, or no longer (R262). -/
def execVbatP3Reverse (dt : Nat) (below : Bool) (s : State) : Host.Outcome State Fault Refusal :=
  s.onDev dt true fun d =>
    if !d.hvRuns then d
    else (d.put CHAN_GSTS_P3_REV (b2n below)).each ((List.range 16).map (· + 24)) (fun i d => d.updOut i)

/-! ### Clocks (R440, R441) -/

/-- The time clock changes its source: a step of the device time within ±1 ns, whose size the spec leaves open;
the device time never decreases by it (R68). -/
def Dev.refSwitch (d : Dev) (ref : Bool) (code sev : Nat) : Dev :=
  let f := d.fresh 32
  let d := f.2
  let t := max d.tim.dev (((d.tim.dev : Int) + ((f.1 % 131073 : Nat) : Int) - 65536)).toNat
  let d : Dev := { d with tim := { d.tim with dev := (if d.tim.mode = .servo then t else d.tim.dev) } }
  let d := ((d.put CLK_STS_REF (b2n ref)).put TIME_STS_REFCLK (b2n ref)).set CLK_STS_REFCLK_CHG
  let d := if d.fld TIME_STS_STATE = 2 ∨ (d.fld TIME_STS_STATE = 0 ∧ d.on TIME_STS_EVER_LOCKED) then d.drifts else d
  (d.raiseIf CLK_INT_EN_EN 12).post 0x04 code sev 9 0

/-- The size of a signed 32-bit offset. -/
def ppmSize (v : Nat) : Nat := if v % 2 ^ 32 < 2 ^ 31 then v % 2 ^ 32 else 2 ^ 32 - v % 2 ^ 32

/-- `ppm`: REFCLK's offset in 0.1 ppm, as 32 bits; it is selected within ±100 ppm. -/
def execRefclkSelected (dt ppm : Nat) (s : State) : Host.Outcome State Fault Refusal :=
  s.onDev dt true fun d =>
    if !d.frm.beyvoUp ∨ d.on CLK_STS_REF ∨ 1000 < ppmSize ppm then d
    else ((d.set CLK_STS_PRESENT).wr CLK_REFCLK_PPM ppm).refSwitch true 1 0

/-- `edges`: REFCLK still shows edges, but has drifted beyond ±200 ppm. -/
def execRefclkLost (dt : Nat) (edges : Bool) (ppm : Nat) (s : State) : Host.Outcome State Fault Refusal :=
  s.onDev dt true fun d =>
    if !d.frm.beyvoUp ∨ !d.on CLK_STS_REF ∨ (edges ∧ ppmSize ppm ≤ 2000) then d
    else ((d.put CLK_STS_PRESENT (b2n edges)).wr CLK_REFCLK_PPM ppm).refSwitch false 2 1

def execPllUnlock (dt pll : Nat) (s : State) : Host.Outcome State Fault Refusal :=
  s.onDev dt true fun d =>
    if d.frm.beyvoUp then (d.set CLK_STS_PLL_UNLOCK).faultPost 3 0x04 0x0003 9 pll else d

/-! ### Gates (R442) -/

/-- The sub-units of a unit: four lanes, else one. -/
def subUnits (u : Nat) : Nat := if u = 1 then 16 else 2

/-- A clock gate is requested or removed; a removed gate ends at once. -/
def Dev.clkGate (d : Dev) (u v : Nat) : Dev :=
  let off := v % subUnits u
  (d.put (CLK_GATE_OFF u) off).put (CLK_GATE_GATED u) (d.fld (CLK_GATE_GATED u) &&& off)

def execClkGateWrite (dt : Nat) (a : Acc) (u v : Nat) (s : State) : Host.Outcome State Fault Refusal :=
  s.onDevM dt (1 ≤ u && u ≤ 6) fun m d => d.regWrite m a (CLK_GATE u) (·.clkGate u v)

/-- A power gate is requested or removed; it requires the clock gates. -/
def Dev.pwrGate (d : Dev) (u v : Nat) : Dev :=
  let off := v % subUnits u
  if (off &&& d.fld (CLK_GATE_OFF u)) ≠ off then d
  else (d.put (PWRM_PGATE_OFF u) off).put (PWRM_PGATE_GATED u) (d.fld (PWRM_PGATE_GATED u) &&& off)

def execPwrmPgateWrite (dt : Nat) (a : Acc) (u v : Nat) (s : State) : Host.Outcome State Fault Refusal :=
  s.onDevM dt (1 ≤ u && u ≤ 6) fun m d => d.regWrite m a (PWRM_PGATE u) (·.pwrGate u v)

/-- The bits of a register that are of LK type. -/
def lkMask (a : Nat) : Nat :=
  match descOf a with
  | none => 0
  | some r => (r.fields.filter (fun f => f.acc == .lk)).foldl (fun n f => n ||| (2 ^ (f.hi + 1) - 2 ^ f.lo)) 0

/-- The registers of some windows lose everything but their LK fields. -/
def Dev.clearWindow (d : Dev) (ws : List Nat) : Dev :=
  d.each ((d.regs.map (·.1)).filter (fun a => ws.contains (a / 0x10000))) (fun a d =>
    let k := lkMask a
    d.wr a ((d.rn a &&& k) ||| ((resetWord a).toNat &&& (0xFFFFFFFF ^^^ k))))

/-- A power gate in effect clears the state of its sub-unit. -/
def Dev.unitOff (d : Dev) (u j : Nat) : Dev :=
  match u with
  | 1 =>
    let d := d.clr (CE_LSTS_SUBMIT_REF j)
    { (d.setLane j Lane.reset) with
      ce := { (d.setLane j Lane.reset).ce with temp := d.ce.temp.filter (fun x => x.1 / 16 ≠ j) } }
  | 3 => ({ d with fab := { d.fab with samples := [], lfsr := [], count := [], sent := [] } } : Dev).clearWindow [0x4031]
  | 4 =>
    let off := d.fld TOW_STS_SEALED_OFF
    (({ d with fab := { d.fab with towArm := 0 } } : Dev).clearWindow [0x4032, 0x4033]).put TOW_STS_SEALED_OFF off
  | 5 => (({ d with tal := TalSt.reset } : Dev).dropLatched (fun a => a / 0x10000 == 0x4007)).clearWindow [0x4007]
  | 6 =>
    let sts := d.rn DBG_STS % 65536
    (({ d with dbg := { d.dbg with response := [] } } : Dev).clearWindow [0x4009]).wr DBG_STS sts
  | _ => d

/-- The sub-unit is idle: a lane runs no command, and no sample is outstanding; every other unit's work is done between two
commands. -/
def Dev.unitIdle (d : Dev) (u j : Nat) : Bool :=
  match u with
  | 1 => (d.lane j).run.isNone
  | 3 => d.fab.samples.isEmpty
  | _ => true

/-- A requested gate takes effect on sub-unit `j` of unit `u`. -/
def Dev.gateEffect (d : Dev) (u j : Nat) : Dev :=
  if !d.unitIdle u j then d
  else
    let d := if bit j (d.fld (CLK_GATE_OFF u)) then d.set ⟨CLK_GATE u, 8 + j, 8 + j⟩ else d
    if bit j (d.fld (PWRM_PGATE_OFF u)) ∧ !bit j (d.fld (PWRM_PGATE_GATED u)) then
      (d.unitOff u j).set ⟨PWRM_PGATE u, 8 + j, 8 + j⟩
    else d

def execGateInEffect (dt u j : Nat) (s : State) : Host.Outcome State Fault Refusal :=
  s.onDev dt (1 ≤ u && u ≤ 6 && j < 4) (·.gateEffect u j)

end Sys2Proof.Machine
end

