-- ==== Sys2Proof/Machine/Rules.lean ====
section
/-! DEFINITION. The configuration rules that the boot ROM checks (R417): per section those that concern it alone, and
those that concern several sections. Each definition says that its rules hold. -/

namespace Sys2Proof.Machine

open R

def within (lo hi n : Nat) : Bool := lo ≤ n && n ≤ hi

/-- The owner is one that R16 defines, and no coach with EN = 0 (R17, R330). -/
def Dev.ownerOk (d : Dev) (o : Nat) : Bool :=
  if o < 8 then d.on (MAN_COACH_CFG_EN o) else o == 8 || o == 9 || o == 0xE || o == 0xF

/-! ### COACH (R328–R330, R353, R505) -/

def Dev.coreRule (d : Dev) (k : Nat) : Bool :=
  let o := d.fld (MAN_CORE_CFG_OWNER k)
  let tandem := k < 8 && !d.on (TAN_PAIR_CFG_MODE (k / 2))
  (o == 0xF || (o ≤ 8 && !(tandem && k % 2 == 1))) && (8 ≤ o || d.on (MAN_COACH_CFG_EN o)) &&
    (8 ≤ o || d.fld (MAN_COACH_CFG_CRIT o) != 2 || tandem)

def Dev.coachRules (d : Dev) : Bool :=
  (List.range 12).all d.coreRule &&
    (List.range 8).all (fun c =>
      !d.on (MAN_COACH_CFG_EN c) || (d.fld (MAN_COACH_CFG_CRIT c) != 3 && d.coresOf c != [])) &&
    d.coresOf 8 != [] && within 1 10000 (d.fld MAN_GLIMIT_US) &&
    (List.range 4).all (fun p => d.on (TAN_PAIR_CFG_MODE p) || within 256 65536 (d.fld (TAN_PAIR_CFG_FOLD_INTERVAL p)))

/-! ### MANIFEST (R330, R332, R337) -/

def Dev.entryRule (d : Dev) (e : Nat) : Bool :=
  entryOk e && d.ownerOk (entryOwner e) && (entryOwner e != 9 || entryLocked e)

/-! ### IRQ (R330, R347) -/

def Dev.routeRule (d : Dev) (s : Nat) : Bool :=
  let o := d.fld (IRQ_ROUTE_OWNER s)
  let k := d.fld (IRQ_ROUTE_CORE s)
  if 376 ≤ s then d.rn (IRQ_ROUTE s) == 0xF
  else if o = 0xF then true
  else
    o ≤ 8 && k < 12 && d.fld (MAN_CORE_CFG_OWNER k) != 0xF && (o == 8 || d.fld (MAN_CORE_CFG_OWNER k) == o) &&
      (o == 8 || !(s == 9 || 360 ≤ s))

/-! ### ASSIGN (R213, R267, R277, R330, R505) -/

/-- A channel that conducts or is read. -/
def Dev.chanUsed (d : Dev) (i : Nat) : Bool := d.chanOwner i != 0xF && d.fld (CHAN_CFG_MODE i) != 2
/-- An output channel in use. -/
def Dev.chanOut (d : Dev) (i : Nat) : Bool := d.chanOwner i != 0xF && d.fld (CHAN_CFG_MODE i) == 0

def Dev.assignRules (d : Dev) : Bool :=
  (List.range 36).all (fun p => d.ownerOk (d.fld (PORT_CFG_OWNER p)) && (p < 16 || !d.on (PORT_CFG_TRUNK p))) &&
    (List.range 40).all (fun i =>
      d.ownerOk (d.chanOwner i) && (d.chanOwner i == 0xF || d.fld (CHAN_CFG_MODE i) != 3) &&
        (!d.chanUsed i || (d.fld (CHAN_CFG_RANGE i) != 3 && (i < 24 || d.fld (CHAN_CFG_RANGE i) < 2))) &&
        (!d.chanOut i || within 1 (if i < 12 then 2000 else if i < 24 then 600 else 65535) (d.fld (CHAN_CFG_I_NOM i)))) &&
    (List.range 32).all (fun n =>
      d.ownerOk (d.fld (LIO_CFG_OWNER n)) &&
        (d.fld (LIO_CFG_OWNER n) == 0xF || d.fld (LIO_CFG_MODE n) == 0 ||
          (d.fld (LIO_CFG_MODE n) == 1 &&
            (!d.on (LIO_CFG_WAKE_EN n) || (n < 8 && d.fld (LIO_CFG_WAKE_EDGE n) != 3)))))

/-! ### CHAN and DRAGSHOE (R267, R272, R274, R286, R292, R304, R307, R314, R505) -/

def Dev.chanRule (d : Dev) (i : Nat) : Bool :=
  let f (x : Nat → Fld) : Nat := d.fld (x i)
  let paired := d.pairEven i || d.pairOdd i
  let cad := f CHAN_PWM_CADENCE
  let gd := 24 ≤ i
  (!gd || (within 1 65535 (f CHAN_GDJ_CFG_RDS) &&
      within 1 65535 (f CHAN_GDJ_TAU_TAU_MS) && within 100 200 (f CHAN_GDJ_TAU_TJ_MAX) &&
      (f CHAN_TRIP_CFG_VDS_THR == 0 || within 1 63 (f CHAN_TRIP_CFG_VDS_BLANK)))) &&
    (!gd || d.pairOdd i || f CHAN_CFG_I_NOM * f CHAN_GD_CFG_R_SHUNT ≤ 5000000) &&
    (!d.on (CHAN_PWM_EN i) || (!paired && d.cadPeriod cad != 0)) &&
    (!d.on (CHAN_PWM_PHASE_AUTO i) || !d.on (CHAN_PWM_EN i) || d.on (CHAN_CAD_CFG_SPREAD cad)) &&
    1 ≤ f CHAN_TRIP_CFG_OC_FILT && within 20 100 (f CHAN_HARN_CFG_DERATE) && 1 ≤ f CHAN_HARN_CFG_TAU &&
    within 60 200 (f CHAN_HARN_LIM_T_MAX) &&
    (if f CHAN_HARN_LIM_T_WARN = 0 then f CHAN_HARN_LIM_T_RESTART < f CHAN_HARN_LIM_T_MAX
      else f CHAN_HARN_LIM_T_RESTART < f CHAN_HARN_LIM_T_WARN && f CHAN_HARN_LIM_T_WARN ≤ f CHAN_HARN_LIM_T_MAX) &&
    within 10 40 (f CHAN_RETRY_CFG_DELTA_T) &&
    (!d.on (CHAN_RETRY_CFG_REACT i) || (1 ≤ f CHAN_RETRY_CFG_DELAY_MS && 1 ≤ f CHAN_GOOD_S_GOOD_S)) &&
    (!d.on (CHAN_DIAG_CFG_OL_OFF_EN i) || 1 ≤ f CHAN_DIAG_CFG_OL_OFF_INT) &&
    within 8 15 (f CHAN_DIAG_CFG_SB_FRAC) && 1 ≤ f CHAN_DIAG_CFG_REV_THR &&
    (!d.on (CHAN_DIAG_CFG_REV_BLOCK i) || d.pairEven i)

/-- The shunt of a GD channel that is read, and the two channels of a pair (R265, R267). -/
def Dev.gdRule (d : Dev) (i : Nat) : Bool :=
  i < 24 ||
    ((!(i % 2 == 1) || !d.on (CHAN_GD_CFG_PAIR i)) && (!d.pairEven i || d.chanOwner i == d.chanOwner (i + 1)) &&
      (!d.chanUsed i || d.pairOdd i || within 100 1000 (d.fld (CHAN_GD_CFG_R_SHUNT i))))

def Dev.inputRule (d : Dev) (i : Nat) : Bool :=
  within 1 600 (d.fld (CHAN_IN_CFG_THR_HI i)) && d.fld (CHAN_IN_CFG_THR_LO i) < d.fld (CHAN_IN_CFG_THR_HI i)

def Dev.supplyRules (d : Dev) : Bool :=
  within 1 60 (d.fld HPS_BUD_CFG_P_SHED) && d.fld HPS_BUD_CFG_P_REL < d.fld HPS_BUD_CFG_P_SHED &&
    within 1 180 (d.fld HPS_BUD_CFG_I_SHED) && d.fld HPS_BUD_CFG_I_REL < d.fld HPS_BUD_CFG_I_SHED &&
    within 1 60 (d.fld HPS_BUD_GRP_G_SHED) && d.fld HPS_BUD_GRP_G_REL < d.fld HPS_BUD_GRP_G_SHED &&
    within 10 10000 (d.fld HPS_BUD_GRP_REL_MS) && decide (-40 ≤ sgn 8 (d.fld HPS_AMB_CFG_T_AMB)) &&
    decide (sgn 8 (d.fld HPS_AMB_CFG_T_AMB) ≤ 125) && d.fld HLK_COAST_CFG_COAST_MS ≤ 2000

def Dev.chanRules (d : Dev) : Bool :=
  (List.range 40).all (fun i =>
    d.gdRule i && (!d.chanOut i || d.chanRule i) && (!(d.chanOwner i != 0xF && d.fld (CHAN_CFG_MODE i) == 1) || d.inputRule i)) &&
    (List.range 8).all (fun c => d.fld (CHAN_CAD_CFG_PERIOD c) == 0 || within 4000 2000000 (d.fld (CHAN_CAD_CFG_PERIOD c))) &&
    d.supplyRules

def Dev.dragshoeRules (d : Dev) : Bool :=
  (List.range 40).all (fun i =>
    !d.chanOut i || d.fld (CHAN_DS_CFG_STATE i) != 3 ||
      (!d.pairEven i && !d.pairOdd i && d.cadPeriod (d.fld (CHAN_DS_CFG_CADENCE i)) != 0))

/-! ### PROFILE (R281–R284) -/

/-- A loaded profile: word `w`. -/
def Dev.profileRule (d : Dev) (k : Nat) : Bool :=
  let w (i : Nat) : Nat := d.rn (CHAN_PROF_W k i)
  let last := bits 8 6 (w 0)
  let segs := List.range (last + 1)
  1 ≤ bits 23 16 (w 1) &&
    segs.all (fun j => j == 0 || bits 23 0 (w (1 + j)) < bits 23 0 (w (2 + j))) &&
    segs.all (fun j => bits 31 24 (w (2 + j)) != 0) && bits 7 0 (w 10) != 0 &&
    (!bit 9 (w 0) || bits 15 0 (w 1) ≤ 20000)

/-- A profile slot that holds a profile. -/
def Dev.profileLoaded (d : Dev) (k : Nat) : Bool := (List.range 16).any (fun i => d.rn (CHAN_PROF_W k i) != 0)

/-- A profile slot that an output channel names. -/
def Dev.profileNamed (d : Dev) (k : Nat) : Bool := (List.range 40).any (fun i => d.chanOut i && d.fld (CHAN_CFG_PROFILE i) == k)

def Dev.profileRules (d : Dev) : Bool :=
  ((List.range 16).filter (6 ≤ ·)).all (fun k => !d.profileNamed k || !d.profileLoaded k || d.profileRule k)

/-- What a channel asks of its profile. -/
def Dev.profileUse (d : Dev) (i : Nat) : Bool :=
  let k := d.fld (CHAN_CFG_PROFILE i)
  !d.chanOut i ||
    (d.profileLoaded k && (!bit 9 (d.rn (CHAN_PROF_W k 0)) || (i < 24 && d.fld (CHAN_CFG_RANGE i) != 1)))

/-! ### LIO, SBX_POLICY, TIME, TTA (R69, R85, R86, R324, R326, R505) -/

def Dev.lioRules (d : Dev) : Bool :=
  (List.range 32).all (fun n =>
    d.fld (LIO_CFG_OWNER n) == 0xF || d.fld (LIO_CFG_MODE n) != 1 ||
      (d.fld (LIO_THR_THR_LO n) < d.fld (LIO_THR_THR_HI n) && d.fld (LIO_TIM_FAST n) ≤ 1000 &&
        (!d.on (LIO_CFG_WAKE_EN n) || within 1 4000 (d.fld (LIO_TIM_WAKE_FILT n)))))

def Dev.ceRules (d : Dev) : Bool := within 1 10000 (d.fld CE_CFG_STALL_MS)

def Dev.timeRules (d : Dev) : Bool :=
  let en (k : Nat) : Bool := d.on (TIME_DOM_CFG_EN k)
  within 100 1000000 (d.fld TIME_JUMP_LIMIT_NS_VALUE) && within 1 500 (d.fld TIME_SLEW_PPM_VALUE) &&
    1 ≤ d.fld TIME_SERVO_CFG_LOCK_THR && 1 ≤ d.fld TIME_SERVO_CFG_LOCK_CNT && en d.primary &&
    (List.range 4).all (fun k => !en k ||
      (d.fld (TIME_DOM_CFG_NUMBER k) ≤ 127 && decide (-7 ≤ sgn 4 (d.fld (TIME_DOM_CFG_SYNC_LOG k))) &&
        decide (sgn 4 (d.fld (TIME_DOM_CFG_SYNC_LOG k)) ≤ 1) &&
        (List.range k).all (fun j => !en j || d.fld (TIME_DOM_CFG_NUMBER j) != d.fld (TIME_DOM_CFG_NUMBER k)))) &&
    (List.range 16).all (fun p => !d.on (TIME_PORT_CFG_EN p) || !d.portUsed p ||
      (decide (-3 ≤ sgn 4 (d.fld (TIME_PORT_CFG_PDELAY_LOG p))) && decide (sgn 4 (d.fld (TIME_PORT_CFG_PDELAY_LOG p)) ≤ 3)))

def Dev.ttaRules (d : Dev) : Bool :=
  (List.range 8).all (fun k => d.ownerOk (d.fld (TTA_TOUT_CFG_OWNER k)) && d.ownerOk (d.fld (TTA_TCAP_CFG_OWNER k))) &&
    (List.range 64).all (fun n => d.ownerOk (d.fld (TTA_SLOT_CFG_OWNER n)))

/-! ### STAGE (R37, R40, R43, R44, R505) -/

/-- The entries of the timetable that the consist has written. -/
def Dev.ttUsed (d : Dev) : List Nat := (List.range 256).filter (fun n => n != 0 && d.ttKind n != 0)

/-- Two entries apply in one phase. -/
def Dev.ttMeet (d : Dev) (n k : Nat) : Bool :=
  d.on (STG_TT_CTL_ALL_PHASES n) || d.on (STG_TT_CTL_ALL_PHASES k) ||
    d.fld (STG_TT_CTL_PHASE n) == d.fld (STG_TT_CTL_PHASE k)

/-- Two entries overlap. -/
def Dev.ttOverlap (d : Dev) (n k : Nat) : Bool :=
  let s (x : Nat) : Nat := d.fld (STG_TT_START_NS x)
  d.ttMeet n k && s n < s k + d.fld (STG_TT_LEN_NS k) && s k < s n + d.fld (STG_TT_LEN_NS n)

def isWindow (kind : Nat) : Bool := kind == 1 || kind == 2

/-- Rules 1, 2, 7 (its kind) and 8 of R43, and R44, for one entry. -/
def Dev.ttRule (d : Dev) (n : Nat) : Bool :=
  let k := d.ttKind n
  let len := d.fld (STG_TT_LEN_NS n)
  let o := d.fld (STG_TT_CTL_OWNER n)
  let par := d.fld (STG_TT_CTL_PARAM n)
  k ≤ 5 && d.fld (STG_TT_START_NS n) + len ≤ d.fld STG_PERIOD_NS_NS &&
    (if k = 4 then len == 0 else if k = 3 then 1 ≤ len else 1000 ≤ len) &&
    (d.on (STG_TT_CTL_ALL_PHASES n) || d.fld (STG_TT_CTL_PHASE n) < 2 ^ d.fld STG_CTL_CYCLE_LOG2) &&
    (if k = 1 then o < 8 else if k = 2 then o == 8 else o == 9) &&
    (!isWindow k || d.fld (STG_TT_CTL_CORE n) < 12) && (k != 3 || d.fld (STG_TT_CTL_WORK n) ≤ 2) &&
    (!(k == 3 && d.fld (STG_TT_CTL_WORK n) == 1) || within 28 35 par) && (k != 4 || par < 48 || par == 0xFF) &&
    (k == 4 || d.fld (STG_TT_GATE_GATE n) == 0)

/-- Rules 3, 4 and 6 of R43, for two entries. -/
def Dev.ttPair (d : Dev) (n k : Nat) : Bool :=
  let kn := d.ttKind n
  let kk := d.ttKind k
  !(isWindow kn && isWindow kk && d.fld (STG_TT_CTL_CORE n) == d.fld (STG_TT_CTL_CORE k) && d.ttOverlap n k) &&
    !(isWindow kn && kk == 5 && d.ttOverlap n k) && !(isWindow kk && kn == 5 && d.ttOverlap n k) &&
    !(kn == 4 && kk == 4 && d.fld (STG_TT_CTL_PARAM n) == d.fld (STG_TT_CTL_PARAM k) && d.ttMeet n k &&
      d.fld (STG_TT_START_NS n) == d.fld (STG_TT_START_NS k))

def Dev.stageRules (d : Dev) : Bool :=
  within 25000 10000000 (d.fld STG_PERIOD_NS_NS) && within 500 20000 (d.fld STG_CMD_CUTOFF_NS_NS) &&
    d.fld STG_CTL_CYCLE_LOG2 ≤ 4 &&
    (!d.on STG_OUT_CFG_EN || 1 ≤ d.fld STG_OUT_CFG_WIDTH) && 200 * d.fld STG_OUT_CFG_WIDTH < d.fld STG_PERIOD_NS_NS &&
    (List.range 256).all (fun n => !within 0xA 0xD (d.fld (STG_TT_CTL_OWNER n))) &&
    d.ttUsed.all (fun n => d.ttRule n && d.ttUsed.all (fun k => n ≤ k || d.ttPair k n))

/-! ### FABRIC (R168, R174, R177, R186, R194, R200, R215, R219, R224, R231–R233, R505) -/

/-- The pages of a range, all with one property. -/
def pagesAll (m : Mem) (a len : Nat) (q : Nat → Bool) : Bool :=
  len == 0 ||
    match pageIndex a, pageIndex (a + len - 1) with
    | some i, some j =>
      i ≤ j && j < 137216 && (j < 6144 || 6144 ≤ i) && (List.range (j + 1 - i)).all (fun k => q (Mem.entry m (i + k)))
    | _, _ => false

def Dev.ringRule (d : Dev) (m : Mem) (q : Nat) : Bool :=
  let c := qOwner q
  let n := qIdx q
  let size := d.ringSize q * 32
  let base := d.fld (CQ_BASE_LO_ADDR c n) + 2 ^ 32 * d.fld (CQ_BASE_HI_ADDR c n)
  within 4 12 (d.fld (CQ_CFG_SIZE_LOG2 c n)) && base % size == 0 &&
    pagesAll m base size (fun e => entryOwner e == c && entryR e && entryW e && entryDma e)

def Dev.queueRule (d : Dev) (m : Mem) (q : Nat) : Bool :=
  let c := qOwner q
  let n := qIdx q
  let r := d.qRole q
  r ≤ 4 &&
    (r == 0 || (d.ownerOk c && d.ringRule m q && (r == 4 || d.fld (CQ_BUDGET_BYTES c n) == 0 || (r != 2 && 9216 ≤ d.fld (CQ_BUDGET_BYTES c n))) &&
      !(r == 2 && c == 8) &&
      (!(r == 1 || r == 2) || d.fld (CQ_CFG_ROLE c (d.fld (CQ_CFG_RCPT c n))) == 4)))

/-- The queues that RXMAP0 and RXMAP1 of an owner name. -/
def Dev.rxMap (d : Dev) (c : Nat) : List Nat :=
  (List.range 8).map (fun k => bits (8 * (k % 4) + 5) (8 * (k % 4)) (d.rn (if k < 4 then CQ_RXMAP0 c else CQ_RXMAP1 c)))

/-- An owner with a queue in use. -/
def Dev.usesQueues (d : Dev) (c : Nat) : Bool :=
  (List.range (if c < 8 then 64 else 16)).any (fun n => d.fld (CQ_CFG_ROLE c n) != 0)

def Dev.rxMapRule (d : Dev) (c : Nat) : Bool :=
  !d.usesQueues c || (d.rxMap c).all (fun n => (c < 8 || n < 16) && d.fld (CQ_CFG_ROLE c n) == 3)

/-- The lowest rate a port can fall back to, in kb/s (R215): a T10 port drops to 2.5 Gb/s in crank mode whatever its
FALLBACK (R216). -/
def lowRate (p : Nat) : Nat :=
  if p < 2 then 2500000 else rateOf (fixedRate p)

def Dev.egressRule (d : Dev) (p : Nat) : Bool :=
  (List.range 8).all (fun k =>
    (!d.portUsed p || (within 1 98304 (d.fld (FAB_EQ_THR_CELLS p k)) && within 1 98304 (d.fld (FAB_EQ_DE_CELLS p k)))) &&
      (p < 16 || d.rn (FAB_EQ_CBS p k) == 0)) &&
    (16 ≤ p || 100 * ((List.range 8).map (fun k => d.rn (FAB_EQ_CBS p k))).sum ≤ 75 * lowRate p)

def Dev.destRule (d : Dev) (k : Nat) : Bool :=
  let q := d.fld (OUTR_DEST_CFG_QUEUE k)
  !d.on (OUTR_DEST_CFG_EN k) ||
    (qOk q && d.qRole q == 3 && d.rn (CQ_BUDGET (qOwner q) (qIdx q)) == 0 &&
      !(d.rxMap (qOwner q)).contains (qIdx q) && d.rn (CQ_ALLOW (qOwner q) (qIdx q)) == 0 &&
      (qOwner q == 8 || (List.range 44).all (fun p =>
        !(d.on (OUTR_PORT_CFG_DEST_EN p) && d.fld (OUTR_PORT_CFG_DEST p) == k) || d.portOwner p == qOwner q)))

def Dev.phyRule (d : Dev) (p : Nat) : Bool :=
  (14 ≤ p || (d.fld (PORT_PHY_CFG_MS p) != 3 && (p < 6 || d.fld (PORT_PHY_CFG_MS p) != 2))) &&
    (2 ≤ p || d.fld (PORT_PHY_CFG_MAX_RATE p) != 3) &&
    (p < 14 || !d.on (PORT_PLCA_CFG_EN p) ||
      (within 20 255 (d.fld (PORT_PLCA_CFG_TO_TIMER p)) &&
        (d.fld (PORT_PLCA_CFG_NODE_ID p) != 0 || within 1 8 (d.fld (PORT_PLCA_CFG_NODE_CNT p))))) &&
    (6 ≤ p || !d.on (PORT_MSEC_CFG_EN p) || d.fld (PORT_MSEC_CFG_VALIDATE p) != 3)

def Dev.canRule (d : Dev) (p : Nat) : Bool :=
  let nom := bitTime (d.fld (PORT_CAN_NBT_BRP p)) (d.fld (PORT_CAN_NBT_TSEG1 p)) (d.fld (PORT_CAN_NBT_TSEG2 p))
  let fd := bitTime (d.fld (PORT_CAN_DBT_BRP p)) (d.fld (PORT_CAN_DBT_TSEG1 p)) (d.fld (PORT_CAN_DBT_TSEG2 p))
  let xl := bitTime (d.fld (PORT_CAN_XBT_BRP p)) (d.fld (PORT_CAN_XBT_TSEG1 p)) (d.fld (PORT_CAN_XBT_TSEG2 p))
  let trx := d.fld (PORT_CAN_CFG_TRX p)
  let seg (t1 t2 sjw : Nat) : Bool := t2 ≤ t1 && sjw ≤ t2
  trx != 3 && within 80 4000 nom && 2 ≤ d.fld (PORT_CAN_NBT_TSEG1 p) + 1 &&
    seg (d.fld (PORT_CAN_NBT_TSEG1 p)) (d.fld (PORT_CAN_NBT_TSEG2 p)) (d.fld (PORT_CAN_NBT_SJW p)) &&
    seg (d.fld (PORT_CAN_DBT_TSEG1 p)) (d.fld (PORT_CAN_DBT_TSEG2 p)) (d.fld (PORT_CAN_DBT_SJW p)) &&
    seg (d.fld (PORT_CAN_XBT_TSEG1 p)) (d.fld (PORT_CAN_XBT_TSEG2 p)) (d.fld (PORT_CAN_XBT_SJW p)) &&
    (!d.on (PORT_CAN_CFG_FD_EN p) ||
      (within 10 nom fd && (16 ≤ fd || trx == 1 || trx == 2) && (80 ≤ fd || d.on (PORT_CAN_TDC_EN p)))) &&
    (!d.on (PORT_CAN_CFG_XL_EN p) ||
      (within 4 nom xl && trx == 2 && (80 ≤ xl || d.on (PORT_CAN_TDC_EN p))))

/-- The entries of a schedule table before its end: identifier, TYPE and SLOT. -/
def Dev.schedule (d : Dev) (p : Nat) (b : Bool) : List (Nat × Nat × Nat) :=
  ((List.range 32).map (fun e =>
    let x := d.rn (if b then PORT_LIN_SB p e else PORT_LIN_SA p e)
    (bits 5 0 x, bits 7 6 x, bits 23 8 x))).takeWhile (fun x => x.2.1 != 0)

def Dev.linRule (d : Dev) (p : Nat) : Bool :=
  within 1000 20000 (d.fld (PORT_LIN_CFG_RATE p)) &&
    (List.range 64).all (fun i => d.fld (PORT_LIN_ID_DIR p i) != 3 &&
      (d.fld (PORT_LIN_ID_DIR p i) == 0 || within 1 8 (d.fld (PORT_LIN_ID_LEN p i)))) &&
    (!d.on (PORT_LIN_CFG_ROLE p) ||
      [true, false].all (fun b => (d.schedule p b).all (fun x => 1 ≤ x.2.2 && d.fld (PORT_LIN_ID_DIR p x.1) != 0)))

def Dev.fabricRules (d : Dev) (m : Mem) : Bool :=
  (List.range 528).all (d.queueRule m) && (List.range 9).all d.rxMapRule && (List.range 48).all d.egressRule &&
    within 1 65535 (d.fld RSQ_CTL_GAP) && (List.range 4).all d.destRule &&
    (List.range 36).all (fun p => !d.portUsed p || (if p < 16 then d.phyRule p else if p < 28 then d.canRule p else d.linRule p))

/-! ### LOOKUP, SIDING, TOW (R150, R164, R203, R243, R250–R252, R505) -/

def Dev.lookupRules (d : Dev) : Bool :=
  1 ≤ d.fld LKP_CTL_DRAIN_TMO &&
    (List.range 256).all (fun n =>
      let w := d.active.frer n 0
      !bit 1 w || (within 1 32 (bits 13 8 w) && 1 ≤ bits 31 16 w))

/-- A wake source whose port or input is in use (R505). -/
def Dev.srcUsed (d : Dev) (s : Nat) : Bool :=
  if s < 36 then d.portUsed s
  else d.fld (LIO_CFG_OWNER (s - 36)) != 0xF && d.fld (LIO_CFG_MODE (s - 36)) != 0

def Dev.wakeRule (d : Dev) (s : Nat) : Bool :=
  let mode := d.fld (SID_SRC_CFG_MODE s)
  let filt := d.fld (SID_SRC_CFG_FILT s)
  if 16 ≤ s ∧ s < 28 then
    (mode == 0 && within 1 32 filt && within 5 100 (d.fld (SID_CAN_WUF_CFG_WUP_TMO (s - 16)))) ||
      (mode == 1 && (!d.on (SID_CAN_WUF_CFG_DLC_EN (s - 16)) || d.fld (SID_CAN_WUF_CFG_DLC (s - 16)) ≤ 8))
  else
    mode == 0 && (!(14 ≤ s && s < 16) || within 1 255 filt) && (!(28 ≤ s && s < 36) || within 3 25 filt)

def Dev.sidingRules (d : Dev) : Bool :=
  within 10 2000 (d.fld SID_SLEEP_CFG_PRE_TMO_MS) && within 10 10000 (d.fld SID_CONFIRM_MS_MS) &&
    within 10 1000 (d.fld SID_FS_CFG_T_FS_MS) && within 1 15 (d.fld SID_FW_CFG_FW_LIMIT) &&
    1 ≤ d.fld SID_FW_CFG_LOCKOUT_S && ((List.range 44).filter d.srcUsed).all d.wakeRule &&
    ((List.range 36).filter d.srcUsed).all (fun p => !d.on (SID_PORT_CFG_LIN_GTS p) || (28 ≤ p && d.on (PORT_LIN_CFG_ROLE p)))

def Dev.towRules (d : Dev) : Bool :=
  let o := d.fld TOW_CFG_OWNER
  d.ownerOk o && o ≤ 8 &&
    (List.range 12).all (fun i => !bit i (d.fld TOW_CFG_ALLOWED) || d.fld (PORT_CFG_OWNER (i + 2)) == o)

/-! ### The rules of a section, and of several -/

/-- The rules that concern one section alone; `words` are the words that it wrote. -/
def Dev.sectRules (d : Dev) (m : Mem) (words : List (Nat × Nat)) : Nat → Bool
  | 0x01 => d.coachRules
  | 0x02 => words.all (fun w => d.entryRule (Mem.word m w.1))
  | 0x03 => (List.range 512).all d.routeRule
  | 0x04 => d.assignRules
  | 0x05 => d.chanRules
  | 0x06 => d.profileRules
  | 0x07 => d.dragshoeRules
  | 0x08 => d.lioRules
  | 0x09 => d.ceRules
  | 0x0A => d.timeRules
  | 0x0B => d.stageRules
  | 0x0C => d.ttaRules
  | 0x0D => d.fabricRules m
  | 0x0E => d.lookupRules
  | 0x0F => d.sidingRules
  | 0x11 => d.towRules
  | _ => true

/-- R43 rules 5 and 7, and R329's severity: the timetable against the cores, the channels and the classes. -/
def Dev.windowRules (d : Dev) : Bool :=
  d.ttUsed.all (fun n =>
    let o := d.fld (STG_TT_CTL_OWNER n)
    !isWindow (d.ttKind n) ||
      (d.fld (MAN_CORE_CFG_OWNER (d.fld (STG_TT_CTL_CORE n))) == o &&
        (d.ttKind n != 1 || !(List.range 40).any (fun i => d.chanOwner i == o) ||
          d.fld (STG_TT_START_NS n) + d.fld (STG_TT_LEN_NS n) + d.fld STG_CMD_CUTOFF_NS_NS ≤ d.fld STG_PERIOD_NS_NS))) &&
    (List.range 8).all (fun c => d.fld (MAN_COACH_CFG_CRIT c) != 2 || 2 ≤ d.fld (STG_COACH_CFG_OVR_SEV c))

/-- R53: the snapshot pages. -/
def Dev.snapRules (d : Dev) (m : Mem) : Bool :=
  (List.range 8).all (fun c => !d.on (STG_COACH_CFG_SNAP_EN c) ||
    (let a := 4096 * d.fld (STG_SNAP_BASE_PAGE c)
     within 0x10000000 0x117FFFFF a &&
      pagesAll m a 4096 (fun e => entryOwner e == c && entryR e && entryLocked e)))

/-- R272, R312: cadences and the coachman window against the stage period. -/
def Dev.periodRules (d : Dev) : Bool :=
  let t := d.fld STG_PERIOD_NS_NS
  (List.range 8).all (fun c => let p := d.cadPeriod c
    p == 0 || t % p == 0 || p % t == 0) && within 100000 100000000 d.cwWindow

/-- R337: descriptor rings lie in locked pages. -/
def Dev.lockRules (d : Dev) (m : Mem) : Bool :=
  (List.range 528).all (fun q => d.qRole q == 0 ||
    pagesAll m (d.fld (CQ_BASE_LO_ADDR (qOwner q) (qIdx q)) + 2 ^ 32 * d.fld (CQ_BASE_HI_ADDR (qOwner q) (qIdx q)))
      (d.ringSize q * 32) entryLocked)

/-- R233: a commander has a LIN work item. -/
def Dev.linItems (d : Dev) : Bool :=
  (List.range 36).all (fun p => p < 28 || !d.portUsed p ||
    !d.on (PORT_LIN_CFG_ROLE p) ||
    d.ttUsed.any (fun n => d.ttKind n == 3 && d.fld (STG_TT_CTL_WORK n) == 1 && d.fld (STG_TT_CTL_PARAM n) == p))

/-- The home cores of the Guard queues in use (R343). -/
def Dev.homeRules (d : Dev) : Bool :=
  (List.range 16).all (fun q => d.qRole (512 + q) == 0 || bits (4 * (q % 8) + 3) (4 * (q % 8)) (d.rn (MAN_GQHOME (q / 8))) ≤ 11)

/-- R412: the entry addresses. -/
def Dev.entryRules (d : Dev) : Bool :=
  (List.range 12).all (fun k =>
    let o := d.fld (MAN_CORE_CFG_OWNER k)
    o == 0xF || (tget 0 d.boot.entry k != 0 && (8 ≤ o || d.rn (SYS_CORE_ENTRY k) != 0)))

/-- A control-space page that holds registers of several owners, or that belongs to one coach or core (R334). -/
def sharedPage (a : Nat) : Bool :=
  (ownerOfPage a).isSome || (a / 0x10000 == 0x4007 && a / 0x1000 % 16 < 12) || (a / 0x10000 == 0x4005 && a / 0x1000 % 16 < 13) ||
    [0x40810, 0x40811, 0x40812, 0x40820, 0x40821, 0x40420, 0x40421, 0x40600].contains (a / 0x1000)

/-- The registers of a control-space page, elements of arrays among them. -/
def pageRegs (a : Nat) : List RegDesc := (List.range 2048).filterMap (fun i => descOf (a / 0x1000 * 0x1000 + 2 * i))

/-- Every register of a control-space page is GO (R334). -/
def goPage (a : Nat) : Bool := !(pageRegs a).isEmpty && (pageRegs a).all (·.allGo)

/-- The owner that the entry of a port's page has (R334): the port's; 0xF for the port of a coach with EN = 0 (R329). -/
def Dev.portPageOwner (d : Dev) (p : Nat) : Nat :=
  if 36 ≤ p ∧ p < 44 ∧ !d.on (MAN_COACH_CFG_EN (p - 36)) then 0xF else d.portOwner p

/-- The entry of a control-space page holds what R334 and R495 have it hold: 0xF in no block window, owner 0x9 and world
Open where the block's own rules decide, the owner of a port or of TOW, and Guard and world Guard where the block is GO
(DEDUCED, assumption 115). The boot ROM itself sets the entries of the gate pages (R345). -/
def Dev.controlEntry (d : Dev) (m : Mem) (a : Nat) : Bool :=
  let e := Mem.entry m (137216 + (a - 0x40000000) / 4096)
  if (gatedBlock a).isSome then true
  else if (window a).isNone then entryOwner e == 0xF
  else if sharedPage a then entryOwner e == 9 && !entryGuard e
  else if 0x40500000 ≤ a ∧ a < 0x40530000 then entryOwner e == d.portPageOwner ((a - 0x40500000) / 0x1000)
  else if a = 0x40320000 ∨ a = 0x40330000 then
    entryOwner e == d.fld TOW_CFG_OWNER && (entryGuard e || entryOwner e == 0xF || a == 0x40330000)
  else !goPage a || (entryOwner e == 8 && entryGuard e)

/-- The section that breaks a rule over several sections (step 6 of R417), with the rule's own section first. -/
def Dev.crossErr (d : Dev) (m : Mem) : Option Nat :=
  if !(List.range 40).all d.profileUse then some 0x04
  else if d.fld STG_CTL_DOMAIN ≠ d.primary then some 0x0B
  else if !d.windowRules then some 0x0B
  else if !d.snapRules m then some 0x0B
  else if !d.periodRules then some 0x05
  else if !d.lockRules m then some 0x02
  else if !d.linItems then some 0x0D
  else if !d.homeRules then some 0x01
  else if !d.entryRules then some 0x12
  else if !(List.range 4096).all (fun i => d.controlEntry m (0x40000000 + 4096 * i)) then some 0x02
  else none

end Sys2Proof.Machine
end

