-- ==== Sys2Proof/Machine/Apply.lean ====
section
/-! DEFINITION. The boot ROM applies a consist (spec/17, R408–R412, R417 steps 5 and 6, R419, R450): the sections in
order, the keys of SBX_POLICY, the images, and the measurement of Guard. -/

namespace Sys2Proof.Machine

open R

/-- How far the application of an image has come: the state, and the error of R427 that stopped it (0 = none yet) with
the section's TYPE and offset. An error of 256 stands for the mismatch of R450. -/
structure Built where
  err : Nat
  type : Nat
  off : Nat
  dev : Dev
  mem : Mem
deriving DecidableEq, Repr

def Built.fail (b : Built) (err type off : Nat) : Built := { b with err := err, type := type, off := off }

/-- The next step, where none before it has failed. -/
def Built.andThen (b : Built) (f : Built → Built) : Built := if b.err = 0 then f b else b

/-! ### Words (R409) -/

/-- The word lies in an entry of a table of the shadow window. -/
def shadowEntry (a : Nat) : Bool :=
  inShadow a && shadowTables.any (fun t => 0x40200000 + t.1 ≤ a && a < 0x40200000 + t.1 + t.2.1 * t.2.2)

/-- The listed bits of a word of a profile slot (R281, R284). -/
def profMask (w : Nat) : Nat :=
  if w = 0 then 0xFFFF03FF else if w = 1 then 0xFFFFFF else if w < 10 then 0xFFFFFFFF else if w = 10 then 0xFF else 0

/-- The word is one of CHAN_PROFk_Ww. -/
def isProf (a : Nat) : Bool := inArr a (CHAN_PROF_W 0 0) 4 256

/-- The bits of a register that a section writes. -/
def wordMask (a : Nat) : Nat := if isProf a then profMask ((a - CHAN_PROF_W 0 0) / 4 % 16) else consistMask a

/-- A word that a section of this TYPE may write. A named register that holds no field to set takes a word without effect
(DESIGN CHOICE, assumption 138). -/
def wordOk (t a : Nat) : Bool :=
  sectTakes t a && (t == 2 || shadowEntry a || isProf a || consistMask a != 0 || (namedWhole a && (descOf a).isSome))

/-- A word that names an entry of the timetable that is fixed (R42). -/
def ttFixed (a : Nat) : Bool := STG_TT_START 0 ≤ a && a ≤ STG_TT_GATE 0

/-- FRM_COACHc_CFG ignores a write of CHAN_POLICY 3. -/
def badPolicy (a v : Nat) : Bool :=
  inArr a (FRM_COACH_CFG 0) 4 8 && bits (FRM_COACH_CFG_CHAN_POLICY 0).hi (FRM_COACH_CFG_CHAN_POLICY 0).lo v == 3

/-- A word is written. -/
def putWord (b : Built) (a v : Nat) : Built :=
  if 0x11560000 ≤ a ∧ a < 0x115EA000 then { b with mem := Mem.setWord b.mem a v }
  else if inShadow a then { b with dev := b.dev.bankPut 0 (a - 0x40200000) v }
  else if badPolicy a v then b
  else
    let k := wordMask a
    { b with dev := b.dev.wr a ((b.dev.rn a &&& (0xFFFFFFFF ^^^ k)) ||| (v &&& k)) }

/-- The words of a list that no later one overwrites. -/
def lastWords : List (Nat × Nat) → List (Nat × Nat)
  | [] => []
  | w :: r => if r.any (fun x => x.1 == w.1) then lastWords r else w :: lastWords r

/-- The word differs from what the Heavia die holds (R450), in the bits that only an image sets; a PHASE that was taken at seal is
no difference (R274). -/
def Dev.heldDiffers (d : Dev) (a v : Nat) : Bool :=
  let k := if isProf a then wordMask a else fieldMask a (fun f => f.acc == .lk)
  let pwm := 0x40810000 ≤ a && a < 0x40812800 && (a - 0x40810000) % 0x100 == CHAN_PWM 0 - 0x40810000
  let k := if pwm ∧ bit 4 v ∧ bit 4 (d.rn a) then k &&& 0xFFFF else k
  (d.rn a &&& k) != (v &&& k)

/-- The sections that the boot ROM compares after a Beyvo reset or a sleep state (R450). -/
def compared (t : Nat) : Bool := 4 ≤ t && t ≤ 8

/-- The records of a section are applied: R450 compares those of the Heavia die. -/
def applyWords (cmp : Bool) (s : Sect) (ws : List (Nat × Nat)) (b : Built) : Built :=
  if !ws.all (fun w => wordOk s.type w.1) then b.fail 8 s.type s.off
  else if ws.any (fun w => ttFixed w.1) then b.fail 9 s.type s.off
  else
    let held (w : Nat × Nat) : Bool := cmp && compared s.type && onHeavia w.1
    if (lastWords (ws.filter held)).any (fun w => b.dev.heldDiffers w.1 w.2) then b.fail 256 s.type s.off
    else (ws.filter (fun w => !held w)).foldl (fun b w => putWord b w.1 w.2) b

/-- The registers of a section take their defaults (R15), those of the Heavia die only when they are to be written. -/
def Dev.applyDefaults (d : Dev) (cmp : Bool) (t : Nat) : Dev :=
  d.each ((sectDefaults t).filter (fun x => !(cmp && onHeavia x.1))) (fun x d => d.wr x.1 x.2)

/-! ### Keys (R369–R371, R411) -/

/-- The boot ROM restores the strongbox's images (R369): `imageOk` and `sleepOk` say whether they pass their
authentication. -/
def Dev.restoreKeys (d : Dev) (imageOk sleepOk : Bool) : Dev :=
  let d := (d.clr SBX_ROOT_IMAGE_OK).clr SBX_ROOT_SLEEP_OK
  let d : Dev := { d with sbx := { d.sbx with slots := [(0, rootSlot d.testRoot)] } }
  let load (l : List (Nat × SbSlot)) (d : Dev) : Dev :=
    let d : Dev := { d with sbx := { d.sbx with slots := l.foldl (fun t x => tset SbSlot.empty x.2 x.1 t) d.sbx.slots } }
    d.each (l.map (·.1)) (fun s d => d.settleRestored s)
  let d :=
    if d.testRoot ∨ d.sbx.image.isEmpty then d
    else if imageOk ∧ d.sbx.imageOdo = d.odo 15 then (load d.sbx.image d).set SBX_ROOT_IMAGE_OK
    else ({ d with sbx := { d.sbx with image := [], imageOld := none } } : Dev).sbxPost 0x000A 1 8 0
  if !d.sbx.token then d
  else if sleepOk then (load d.sbx.sleepImage d).set SBX_ROOT_SLEEP_OK
  else ({ d with sbx := { d.sbx with sleepImage := [], token := false } } : Dev).sbxPost 0x000A 1 8 1

/-- One key record of SBX_POLICY runs through the strongbox as Guard; a slot that is not EMPTY is skipped. -/
def keyRecord (w0 w1 w2 : Nat) (input : List Nat) (d : Dev) : Bool × Dev :=
  let c : SbxCmd :=
    { op := w0 % 256, shadow := false, prf := bit 8 w0, owner := 8, slot := bits 23 16 w0, slot2 := bits 31 24 w0,
      attr := attrOf w1, use := w2, inAddr := 0, inLen := input.length, outAddr := 0, outCap := 0 }
  if (d.keySlot c.slot).state ≠ 0 then (true, d)
  else
    let r := if c.op = 1 then sbxGenerate c input d else sbxDerive c input d
    (r.st == 0, r.dev)

/-- The key records up to the end of the section's value; `n` bounds their number. -/
def keyRecords (s : Sect) : Nat → List Nat → Built → Built
  | _, [], b => b
  | 0, _, b => b.fail 8 s.type s.off
  | n + 1, l, b =>
    let w0 := fieldLe l 0 4
    let len := fieldLe l 12 4 % 256
    let pad := (4 - len % 4) % 4
    if !b.dev.ownerOk (bits 13 10 (fieldLe l 4 4)) then b.fail 9 s.type s.off
    else if l.length < 16 + len + pad ∨ 128 < len ∨ (w0 % 256 ≠ 1 ∧ w0 % 256 ≠ 2) ∨ leNat ((l.drop (16 + len)).take pad) ≠ 0 then
      b.fail 8 s.type s.off
    else
      let r := keyRecord w0 (fieldLe l 4 4) (fieldLe l 8 4) ((l.drop 16).take len) b.dev
      let b : Built := { b with dev := r.2 }
      if r.1 then keyRecords s n (l.drop (16 + len + pad)) b else b.fail 11 s.type s.off

/-! ### What follows a section -/

/-- The owner that MAN_COREk_CFG shows: the wheeler of a pair in TANDEM reads its leader's (R328). -/
def Dev.shownOwner (d : Dev) (k : Nat) : Nat :=
  if k < 8 ∧ k % 2 = 1 ∧ !d.on (TAN_PAIR_CFG_MODE (k / 2)) then d.fld (MAN_CORE_CFG_OWNER (k - 1))
  else d.fld (MAN_CORE_CFG_OWNER k)

/-- The manifest entries that the boot ROM sets after MANIFEST: the sampling buffers (R464), and the gate pages, which
take the entry of the unit's first page (R345). -/
def Dev.bootEntries (d : Dev) (m : Mem) : Mem :=
  let set (m : Mem) (i e : Nat) : Mem := Mem.setWord m (0x11560000 + 4 * i) e
  let m := (List.range 48).foldl (fun m i =>
    let o := d.shownOwner (i / 4)
    set m (0x1530 + i) (o + 16 * b2n (o == 8) + 0x20 + 2 ^ 31)) m
  let units : List (Nat × Nat) := [(1, 0x40700000), (2, 0x40710000), (3, 0x40310000), (4, 0x40320000), (5, 0x40070000),
    (6, 0x40090000)]
  units.foldl (fun m x =>
    let e := Mem.entry m (137216 + (x.2 - 0x40000000) / 4096)
    let e := if entryLocked e then e else e + 2 ^ 31
    set (set m (137216 + 0x30 + x.1) e) (137216 + 0x20 + x.1) e) m

/-- The copy of R128, and the records that waited in the boot ROM (R417), once LOGB reports READY. -/
def Dev.logReady (d : Dev) : Dev :=
  let copies := d.log.aoNew.filterMap (fun i => (tget none d.log.ao i).map (·.1))
  let recs := d.boot.recs
  let d : Dev := { d with
    log := { d.log with aoNew := [], queue := d.log.queue ++ copies }
    boot := { d.boot with recs := [] } }
  let d := if copies.any (fun r => r.down && d.fld FRM_CFG_FAULTN_SEV ≤ r.sev) then
      (d.set FRM_STS_PEND).updFaultN else d
  d.each recs (fun r d => d.enqueue r)

/-- The SYS_READY bits of a section (R408); bit 6 waits for the start of the device time (R81). -/
def Dev.sectReadyBits (d : Dev) (t : Nat) : Dev :=
  d.each (sectReady t) (fun n d =>
    if n = 6 ∧ d.tim.mode = .stopped then d
    else if n = 18 then (d.ready n).logReady
    else d.ready n)

/-- The bits of MAN_COACHc_CFG.CORES and the threshold of the always-on log. -/
def Dev.coachApplied (d : Dev) : Dev :=
  let d := d.each (List.range 8) (fun c d => d.put (MAN_COACH_CFG_CORES c) (maskOf (d.coresOf c)))
  { d with log := { d.log with aoMinSev := d.fld LOGB_AO_CFG_MIN_SEV } }

/-- What the boot ROM does itself once a section has been applied. -/
def Built.afterSect (b : Built) (t : Nat) : Built :=
  match t with
  | 0x01 => { b with dev := b.dev.coachApplied }
  | 0x02 => { b with mem := b.dev.bootEntries b.mem }
  | 0x0D =>
    -- R174, R180: the budgets as the consist sets them
    let budget (q : Nat) : Nat := b.dev.fld (CQ_BUDGET_BYTES (qOwner q) (qIdx q))
    { b with dev := b.dev.each ((List.range 528).filter (fun q => budget q != 0)) (fun q d => d.setBudget q (budget q)) }
  | 0x0E =>
    -- R159: bank 1 is ACTIVE, bank 0 open to Guard, bank 2 free
    let l := b.dev.bank 0
    let d : Dev := { b.dev with fab := { b.dev.fab with banks := [(0, l), (1, l)].filter (fun x => x.2 ≠ []) } }
    { b with dev := (d.put LKP_STS_DRAIN_BANK 3).put LKP_STS_SHADOW_BANK 0 }
  | _ => b

/-! ### Sections (R408, R417 step 5) -/

/-- The words of a section's records and, of SBX_POLICY, the bytes of its key records; none when they are malformed. -/
def Sect.split (s : Sect) : Option (List (Nat × Nat) × List Nat) :=
  if s.type = 9 then
    let n := fieldLe s.value 0 4
    if s.value.length < 4 + n then none
    else (recordWords n ((s.value.drop 4).take n)).map (fun w => (w, s.value.drop (4 + n)))
  else s.words.map (fun w => (w, []))

/-- A section that the image holds. -/
def applySect (cmp : Bool) (s : Sect) (b : Built) : Built :=
  match s.split with
  | none => b.fail 8 s.type s.off
  | some (ws, keys) =>
    let b := applyWords cmp s ws { b with dev := b.dev.applyDefaults cmp s.type }
    let b := b.andThen (fun b => b.afterSect s.type)
    let b := b.andThen (fun b => if b.dev.sectRules b.mem ws s.type then b else b.fail 9 s.type s.off)
    let b := b.andThen (keyRecords s keys.length keys)
    b.andThen (fun b => { b with dev := b.dev.sectReadyBits s.type })

/-- The section of TYPE `t`, or its absence; `bad` is the first malformed section. -/
def applyType (cmp : Bool) (l : List Sect) (bad : Option (Nat × Nat)) (b : Built) (t : Nat) : Built :=
  b.andThen (fun b =>
    match l.find? (fun s => s.type == t) with
    | some s => applySect cmp s b
    | none =>
      match bad with
      | some (ty, off) => b.fail 8 ty off
      | none =>
        if sectRequired.contains t then b.fail 8 t 0
        else
          let d := b.dev.applyDefaults cmp t
          -- an absent TOW section leaves the mirror without an owner, and its fields exempt (R203, R505)
          if t = 0x11 ∨ d.sectRules b.mem [] t then { b with dev := d.sectReadyBits t } else b.fail 9 t 0)

/-! ### Images (R412, R417 step 6, R419) -/

/-- A GUARD_IMAGE or a COACH_IMAGE is loaded. -/
def loadImage (s : Sect) (b : Built) : Built :=
  let head := if s.type = 0x12 then 64 else 16
  let len := fieldLe s.value 8 4
  let a := fieldLe s.value 0 4 + 2 ^ 32 * (fieldLe s.value 4 4 % 4)
  if s.value.length ≠ head + len then b.fail 8 s.type s.off
  else if !pagesAll b.mem a len (fun e =>
      if s.type = 0x12 then entryOwner e == 8 && entryGuard e else entryOwner e == s.inst && !entryGuard e) then
    b.fail 10 s.type s.off
  else
    let b : Built := { b with mem := Mem.setBytes b.mem a ((s.value.drop head).take len) }
    if s.type = 0x12 then
      { b with dev := { b.dev with boot := { b.dev.boot with
          entry := (List.range 12).foldl (fun t k => tset 0 (fieldLe s.value (16 + 4 * k) 4) k t) [] } } }
    else b

/-- The measurements of R419. -/
def Dev.measure (d : Dev) (m : Mem) (head : List Nat) : Dev :=
  let g := shaBytes (guardPages m)
  d.each (List.range 12) (fun i d =>
    (d.wr (SYS_MEAS_CONSIST i) (fieldLe head (0x30 + 4 * i) 4)).wr (SYS_MEAS_GUARD i) (fieldLe g (4 * i) 4))

/-- Steps 5 and 6 of R417 on a verified image. -/
def applyImage (h : Nat) (cmp imageOk sleepOk : Bool) (d : Dev) (m : Mem) : Built :=
  let head := imageHead m h
  let body := Mem.bytes m (imageBase h + 0x100) (sigOfs head - 0x100)
  let x := sectsFrom (fieldLe head 0x14 2) 0 0x100 body
  let b : Built := { err := 0, type := 0, off := 0, dev := d.restoreKeys imageOk sleepOk, mem := m }
  let b := ((List.range 17).map (· + 1)).foldl (applyType cmp x.1 x.2) b
  let b := b.andThen (fun b =>
    match x.2 with
    | some (t, off) => b.fail 8 t off
    | none => if x.1.any (fun s => s.type == 0x12) then b else b.fail 8 0x12 0)
  let b := (x.1.filter (fun s => 0x12 ≤ s.type)).foldl (fun b s => b.andThen (loadImage s)) b
  let b := b.andThen (fun b =>
    match b.dev.crossErr b.mem with
    | none => b
    | some t => b.fail 9 t (((x.1.find? (fun s => s.type == t)).map (·.off)).getD 0))
  b.andThen (fun b => { b with dev := b.dev.measure b.mem head })

end Sys2Proof.Machine
end

