-- ==== Sys2Proof/Machine/Boot.lean ====
section
/-! DEFINITION. The boot sequence, boot hold and the boot timer, seal, and the start of coaches (spec/17, R417, R418,
R420–R423). -/

namespace Sys2Proof.Machine

open R

/-! ### Boot hold and rejection (R417, R421, R427) -/

/-- The Heavia die writes a record into the always-on log alone. -/
def Dev.aoForce (d : Dev) (block code sev inst : Nat) : Dev :=
  if d.log.aoQueue.length < 16 then
    { d with log := { d.log with aoQueue := d.log.aoQueue ++ [d.mkRec block code sev 9 inst [] 2] } }
  else d

/-- Boot hold (R421). -/
def Dev.enterHold (d : Dev) : Dev :=
  let e := d.boot.lastErr
  let d : Dev := { d with
    frm := { d.frm with bootHold := true }
    boot := { d.boot with phase := .hold }
    sid := { d.sid with standby := [] } }
  let d := (((d.aoForce 0x80 0x0004 3 e).pend 3).pinsLow)
  d.each (List.range 40) (fun i d => d.updOut i)

/-- Registers that the rejection of an image leaves as they are: those that record events. -/
def keptAtReject : List Nat :=
  [SYS_BOOT_STS, FRM_STS, FRM_CNT 0, FRM_CNT 1, FRM_CNT 2, FRM_CNT 3, LOGB_STS, LOGB_DROP_CNT, SBX_STS]

/-- Every block that the boot ROM has configured returns to its Reset values: to what it held in `d0`. -/
def Dev.unconfigure (d d0 : Dev) : Dev :=
  let x := keptAtReject.foldl (fun x a => x.wr a (d.rn a)) d0
  { x with
    drawn := d.drawn
    log := { d.log with aoMinSev := d0.log.aoMinSev }
    sbx := { d.sbx with slots := d0.sbx.slots }
    boot := { d0.boot with recs := d.boot.recs } }

/-- SYS_BOOT_STS takes the error of a half, or in ERR_B that of a service image (R427). -/
def Dev.putErr (d : Dev) (h e : Nat) : Dev :=
  let d := d.put (if h = 0 then SYS_BOOT_STS_ERR_A else SYS_BOOT_STS_ERR_B) e
  if e = 0 then d else { d with boot := { d.boot with lastErr := e } }

/-- A candidate is rejected (R417); `next` is the half tried next. -/
def Dev.rejected (d : Dev) (h err type off : Nat) (next : Option Nat) : Dev :=
  let d := ((d.putErr h err).set SYS_BOOT_STS_FALLBACK).post 0x80 0x0001 1 9 h [err, type, off]
  match next with
  | some n => d.post 0x80 0x0003 1 9 n
  | none => d

/-- An image has been applied and loaded. -/
def Dev.imageApplied (d : Dev) (h : Nat) (head : List Nat) : Dev :=
  let d := ((d.put SYS_BOOT_STS_HALF (b2n (h == 1))).put SYS_BOOT_STS_SERVICE (b2n (h == 2))).wr SYS_IMAGE_VER (imageVersion head)
  let d := d.post 0x80 0x0002 0 9 h [imageVersion head, imageRollback head]
  { d with boot := { d.boot with phase := .applied, rollback := imageRollback head } }

/-! ### The candidates (R417, R418) -/

/-- The halves in the order in which they are tried. -/
def Dev.bootHalves (d : Dev) (m : Mem) : List Nat :=
  let l := [0, 1].filter (fun h => d.candErr m h == 0)
  if l = [0, 1] ∧ imageVersion (imageHead m 0) < imageVersion (imageHead m 1) then [1, 0] else l

/-- Steps 4 to 6 on a list of candidates: the first that stands is applied. `unread` has a bit for each half whose
flash gives read errors. -/
def tryImages (cmp imageOk sleepOk : Bool) (unread : Nat) : List Nat → Dev → Mem → Dev × Mem
  | [], d, m => (d.enterHold, m)
  | h :: rest, d, m =>
    let e := if d.candErr m h = 0 then verifyErr m h (bit h unread) else d.candErr m h
    let b : Built :=
      if e ≠ 0 then { err := e, type := 0, off := 0, dev := d, mem := m } else applyImage h cmp imageOk sleepOk d m
    if b.err = 0 then (b.dev.imageApplied h (imageHead m h), b.mem)
    else if b.err = 256 then
      ((((b.dev.unconfigure d).post 0x02 0x0006 3 9 b.type).startDeviceReset 7 0 0), m)
    else
      tryImages cmp imageOk sleepOk unread rest
        ((b.dev.unconfigure d).rejected h b.err b.type b.off rest.head?) (Mem.zero b.mem 0x11560000 0x8A000)

/-- The service image is complete (R424). -/
def Dev.serviceDone (d : Dev) (m : Mem) : Bool :=
  16 ≤ d.boot.received && imageLen (imageHead m 2) ≤ d.boot.received

/-- The boot ROM waits: for a certificate in factory test, for a service image in service boot (R421, R423). -/
def Dev.bootWaits (d : Dev) (m : Mem) : Bool :=
  d.boot.phase == .rom &&
    ((d.fld SYS_BOOT_STS_BOOTSEL == 2 && !d.on SBX_ROOT_CERT) || (d.fld SYS_BOOT_STS_BOOTSEL == 1 && !d.serviceDone m))

/-- Step 2 of R417: the root, a pending tamper record and odometer 0 (R370, R378, R396). -/
def Dev.bootKeys (d : Dev) (odo : List (Nat × Option Nat)) : Dev :=
  let d := d.put SBX_ROOT_TEST (b2n (d.rn MAN_DBG_STS / 2 % 8 != 0))
  let d := d.odoBoot odo
  let d := if d.on SBX_TAMPER_PENDING then (d.odoAdvance 15 1).clr SBX_TAMPER_PENDING else d
  d.odoAdvance 0 (2 ^ 20)

/-- The boot sequence. `pufOk`: the device root is reconstructed; `unread`: halves whose flash gives read errors;
`imageOk`, `sleepOk`: the strongbox's images pass their authentication; `odo`: odometer records that read otherwise than
written (R383). -/
def Dev.bootRun (d : Dev) (m : Mem) (pufOk : Bool) (unread : Nat) (imageOk sleepOk : Bool) (odo : List (Nat × Option Nat)) :
    Dev × Mem :=
  let mode := d.fld SYS_BOOT_STS_BOOTSEL
  let cause := d.fld FRM_BOOT_CAUSE_CAUSE
  let cmp := cause == 5 || cause == 6 || cause == 8 || cause == 9
  if d.boot.phase ≠ .rom ∨ d.frm.devReset.isSome ∨ d.frm.bvReset.isSome ∨ d.bootWaits m then (d, m)
  else if !pufOk then (d.fault 3 0x41 0 8, m)
  else
    let d := d.bootKeys odo
    match mode with
    | 3 => (d.enterHold, m)
    | 1 => tryImages cmp imageOk sleepOk 0 [2] d m
    | _ =>
      let d := d.put FAB_MODE_TEST (b2n (mode == 2))
      let d := (d.putErr 0 (d.candErr m 0)).putErr 1 (d.candErr m 1)
      tryImages cmp imageOk sleepOk unread (d.bootHalves m) d m

def execBootSequence (dt : Nat) (pufOk : Bool) (unread : Nat) (imageOk sleepOk : Bool) (odo : List (Nat × Option Nat))
    (s : State) : Host.Outcome State Fault Refusal :=
  s.onAll dt (odo.all (fun x => x.1 < 16)) fun m d => d.bootRun m pufOk unread imageOk sleepOk odo

/-! ### The boot timer and the certificate wait (R421, R423) -/

/-- The boot timer runs out (R421). DEDUCED: code 0x0005 is written at RETRY = 3 too (assumption 119). -/
def execBootTimerExpiry (dt : Nat) (s : State) : Host.Outcome State Fault Refusal :=
  s.onDevM dt true fun m d =>
    if (d.boot.phase ≠ .rom ∧ d.boot.phase ≠ .applied) ∨ d.bootWaits m ∨ d.frm.devReset.isSome ∨
        !d.passed d.boot.timerFrom 5000000000 then d
    else
      let r := d.fld SYS_BOOT_STS_RETRY
      let d := d.aoForce 0x80 0x0005 2 r
      if r = 3 then d.enterHold else (d.bumpF SYS_BOOT_STS_RETRY).startDeviceReset 4 0 0

def execCertificateWaitTimeout (dt : Nat) (s : State) : Host.Outcome State Fault Refusal :=
  s.onDev dt true fun d =>
    if d.boot.phase = .rom ∧ d.fld SYS_BOOT_STS_BOOTSEL = 2 ∧ !d.on SBX_ROOT_CERT ∧
        d.passed d.boot.releasedAt 10000000000 then d.enterHold else d

/-! ### Seal (R420) -/

/-- Automatic PWM phases (R274). -/
def Dev.sealPhases (d : Dev) : Dev :=
  d.each ((List.range 8).filter (fun c => d.on (CHAN_CAD_CFG_SPREAD c))) (fun c d =>
    let l := (List.range 40).filter (fun i => d.on (CHAN_PWM_EN i) && d.on (CHAN_PWM_PHASE_AUTO i) && d.fld (CHAN_PWM_CADENCE i) == c)
    d.each (List.range l.length) (fun k d => d.put (CHAN_PWM_PHASE (l.getD k 0)) (k * 65536 / l.length)))

/-- The LFSR of each port's samplers is seeded from the CTR_DRBG, never with 0, and every counter loaded (R197). -/
def Dev.sealSamplers (d : Dev) : Dev :=
  d.each (List.range 44) (fun p d =>
    let l := 1 + Config.drbgWord d.sbx.drbg % (2 ^ 32 - 1)
    let d : Dev := { d with
      sbx := { d.sbx with drbg := d.sbx.drbg + 1 }
      fab := { d.fab with lfsr := tset 0 l p d.fab.lfsr } }
    d.each (List.range 8) (fun k d => d.reload p k))

/-- The pair modes begin (R353), and the boot ROM no longer executes on T0 (R420), so that no fold counts there before its core
starts (R357); a pair whose comparator has failed its self-test counts as DEGRADED by an
infrastructure fault at seal (R362). -/
def Dev.sealPairs (d : Dev) (failed : Nat) : Dev :=
  let d := d.each (List.range 4) (fun p d =>
    if d.on (TAN_PAIR_CFG_MODE p) then (d.foldStop p).put (TAN_PAIR_STS_STATE p) 0
    else (d.when (!d.wld.running.contains (2 * p)) (·.foldStop p)).set (MAN_CORE_CFG_WHEELER (2 * p + 1)))
  d.each ((List.range 4).filter (fun p => bit p failed)) (fun p d =>
    let f := d.fresh 1
    f.2.infraFault p false f.1)

/-- Ports with EN = 1 enter WAKING; the others are held powered off, and read ASLEEP (R240). A link of T100-0 that service
boot has used goes down where the port is one of these (DESIGN CHOICE, assumption 142). -/
def Dev.sealPorts (d : Dev) : Dev :=
  d.each (List.range 36) (fun p d =>
    if d.portUsed p then d.wakePort p (d.fld (SID_PORT_CFG_BOOT_IGNORE p)) false
    else (d.linkSet p false).sidEnter p 2)

/-- What the siding controller catches up on (R247, R254, R259). -/
def Dev.sealSiding (d : Dev) : Dev :=
  let l := d.sid.fsPend
  let d := d.each l (fun p d => ((d.set (SID_PORT_STS_FS_SLEEP p)).set SID_STS_FS_SLEEP).raiseIf SID_INT_EN_FS 212)
  let late := d.sid.late
  let d := if late.isEmpty then d else
    ((d.set SID_STS_LATE_WAKE).raiseIf SID_INT_EN_SLEEP 208).post 0x31 0x0006 0 8 ((late.head?.map (·.1)).getD 0)
  { d with sid := { d.sid with fsPend := [], late := [], noted := false } }

/-- The grid of the stage engine, and the bandwidth window (R36, R38, R466). -/
def Dev.sealStage (d : Dev) : Dev :=
  let t := d.fld STG_PERIOD_NS_NS
  { d with
    stg := { d.stg with nextTick := (d.domNs / t + 1) * t, lastTick := none, stepped := 0, realigned := false }
    tal := { d.tal with bwStart := d.ns } }

/-- The consist makes the device grandmaster (R72). -/
def Dev.sealTime (d : Dev) : Dev :=
  d.each (List.range 4) (fun k d =>
    if !d.on (TIME_DOM_CFG_EN k) ∨ !d.on (TIME_DOM_CFG_MODE k) ∨ !d.on (TIME_DOM_CFG_NO_SPORT k) then d
    else if k = d.primary then (if d.fld TIME_STS_STATE = 0 then d.beGrandmaster else d)
    else d.put (TIME_DOM_STS_STATE k) 3)

/-- TOUT pins take their idle level. -/
def Dev.sealTout (d : Dev) : Dev := d.each (List.range 8) (fun k d => d.toutPut k (d.fld (TTA_TOUT_CFG_IDLE k)))

/-- The tow mirror without a TOW section (R203): TOW_CFG.OWNER still reads unassigned. -/
def Dev.sealTow (d : Dev) : Dev :=
  if d.fld TOW_CFG_OWNER = 0xF then (d.set TOW_STS_SEALED_OFF).post 0x14 0x0005 0 9 0 else d

/-- A certificate is handled as by a DEBUG_CERT command (R425). One that ends the wait of a factory test lets the boot
timer run on (R421). -/
def Dev.presentCert (d : Dev) (c : List Nat) : Dev :=
  let ends := d.boot.phase == .rom && d.fld SYS_BOOT_STS_BOOTSEL == 2 && !d.on SBX_ROOT_CERT
  let r := d.cert c
  { r.2 with boot := { r.2.boot with
      certSts := if r.1 then 1 else 2
      timerFrom := if ends && r.1 then d.up else r.2.boot.timerFrom } }

def Dev.sealCert (d : Dev) : Dev :=
  match d.boot.lateCert with
  | none => d
  | some c => ({ d with boot := { d.boot with lateCert := none } } : Dev).presentCert c

/-- The boot after a handshake in which Guard did not quiesce starts every Guard world with RESTARTED and NOT_QUIESCED
(R346). -/
def Dev.sealQuiesced (d : Dev) : Dev :=
  if d.wld.notQuiesced then
    let d := d.each (List.range 12) (fun k d => (d.set (MAN_CORE_GINFO_RESTARTED k)).set (MAN_CORE_GINFO_NOT_QUIESCED k))
    { d with wld := { d.wld with notQuiesced := false } }
  else d

/-- Seal. `failed` has a bit for each pair whose comparator has failed the boot ROM's self-test. -/
def Dev.seal (d : Dev) (failed : Nat) : Dev :=
  if d.boot.phase ≠ .applied ∨ d.frm.devReset.isSome ∨ d.frm.bvReset.isSome then d
  else
    let d := ((d.set SYS_SEAL_SEAL).ready 31).clr SYS_BOOT_STS_RETRY
    let d : Dev := { d with
      boot := { d.boot with phase := .sealed, sealedAt := d.up }
      frm := { d.frm with bootLow := false } }
    let d := d.sealTow.sealSamplers.sealPhases.sealTout
    let d := (d.set HLK_CW_STS_ARMED).cwNext
    let d : Dev := { d with hv := { d.hv with cwGood := 0, locked := true } }
    let d := d.sealStage.sealTime.sealPorts.sealSiding
    let d := (d.coresRun 8).sealPairs failed
    let d := d.sealQuiesced
    let d := (d.post 0x80 0x0006 0 9 0).updFaultN
    d.sealCert

/-- A write of SYS_SEAL before seal: SEAL = 1 with the key seals (R420); which comparators have failed the boot ROM's self-test
is no part of the write (a free value). -/
def Dev.sealWrite (d : Dev) (v : Nat) : Dev :=
  if bit 0 v ∧ bits 31 16 v = 0x5EA1 then
    let f := d.fresh 4
    f.2.seal f.1
  else d

def execSeal (dt failed : Nat) (s : State) : Host.Outcome State Fault Refusal := s.onDev dt true (·.seal failed)

/-! ### Coach start (R422) -/

/-- A coach that has not been started, and may be. -/
def Dev.startable (d : Dev) (c : Nat) : Bool :=
  d.boot.phase == .sealed && d.on (MAN_COACH_CFG_EN c) && !d.on (SYS_COACH_STS_STARTED c) && !d.dDegraded c

/-- The coach starts; one that a reset holds is released with that reset. -/
def Dev.coachStart (d : Dev) (c : Nat) : Dev :=
  let d := (d.set (SYS_COACH_STS_STARTED c)).put (SYS_COACH_STS_START c) ((d.up - d.boot.sealedAt) / 100000)
  if d.coachDown c ∨ d.pairHeld c then d else d.coresRun c

/-- The start condition of a coach is evaluated: a coach starts, or one that waits in reset is released (R422, R455). -/
def execCoachStart (dt c : Nat) (s : State) : Host.Outcome State Fault Refusal :=
  s.onDev dt (c < 8) fun d =>
    if d.startable c ∧ d.startCond c then (d.coachStart c).post 0x01 0x0001 0 9 c
    else if d.on (SYS_COACH_STS_STARTED c) then d.coachRelease c
    else d

def execCoachStartTimeout (dt c : Nat) (s : State) : Host.Outcome State Fault Refusal :=
  s.onDev dt (c < 8) fun d =>
    if d.startable c ∧ d.fld (SYS_COACH_START_TMO c) ≠ 0 ∧ !d.startCond c ∧
        d.passed d.boot.sealedAt (100000000 * d.fld (SYS_COACH_START_TMO c)) then
      let d := (d.coachStart c).set (SYS_COACH_STS_TMO_START c)
      ((d.set SYS_STS_TMO_START).raiseIf SYS_INT_EN_START 1).post 0x01 0x0002 1 9 c
    else d

def execGuardGo (dt : Nat) (a : Acc) (v : Nat) (s : State) : Host.Outcome State Fault Refusal :=
  s.onDevM dt true fun m d => d.regWrite m a SYS_CTL (fun d => if bit 0 v then d.set SYS_CTL_GUARD_GO else d)

end Sys2Proof.Machine
end

