-- ==== Sys2Proof/Machine/Service.lean ====
section
/-! DEFINITION. Version fuses and flash commands (spec/17, R415, R416), service boot and debug certificates (R424–R426,
R384). -/

namespace Sys2Proof.Machine

open R

/-! ### Version fuses (R415) -/

def Dev.rollbackCmt (d : Dev) (v : Nat) : Dev :=
  let b := d.boot.rollback
  if bits 31 16 v ≠ 0xB10E ∨ b ≤ d.fld SBX_ROLLBACK_CONSIST then d
  else
    let d : Dev := { d with boot := { d.boot with blow := some (d.fld SBX_ROLLBACK_CONSIST, d.up) } }
    ((d.put SBX_ROLLBACK_CONSIST b).set SYS_STS_RB_DONE).post 0x01 0x0003 0 9 b

def execSysRollbackCmt (dt : Nat) (a : Acc) (v : Nat) (s : State) : Host.Outcome State Fault Refusal :=
  s.onDevM dt true fun m d => d.regWrite m a SYS_ROLLBACK_CMT (·.rollbackCmt v)

/-! ### Flash commands (R416) -/

/-- Two ranges of addresses meet. -/
def meets (a n b k : Nat) : Bool := a < b + k && b < a + n

/-- The range may be erased or programmed: it lies in the flash window, and touches neither a strongbox store nor the
consist area of the booted half. -/
def Dev.flashRange (d : Dev) (a n : Nat) : Bool :=
  0x20000000 ≤ a && a + n ≤ 0x30000000 && !meets a n 0x27F00000 0x100000 && !meets a n 0x2FF00000 0x100000 &&
    (d.on SYS_BOOT_STS_SERVICE || !meets a n (imageBase (d.fld SYS_BOOT_STS_HALF)) 0x4000000)

/-- The source is an SRAM page of Guard's. -/
def guardPage (m : Mem) (a : Nat) : Bool :=
  0x10000000 ≤ a && a < 0x11800000 && a % 4096 == 0 && entryOwner (Mem.entry m ((a - 0x10000000) / 4096)) == 8

/-- The command that SYS_FLASH_CMD starts, none when it is refused. -/
def Dev.flashStart (d : Dev) (m : Mem) (v : Nat) : Option FlashCmd :=
  let a := d.rn SYS_FLASH_ADDR
  let n := d.fld SYS_FLASH_LEN_LEN
  let src := d.rn SYS_FLASH_SRC
  if bits 31 16 v ≠ 0xF1A5 then none
  else if bits 1 0 v = 1 then
    (if a % 65536 = 0 ∧ d.flashRange a 65536 then some { addr := a, data := none } else none)
  else if a % 4 = 0 ∧ n % 4 = 0 ∧ 4 ≤ n ∧ n ≤ 4096 ∧ guardPage m src ∧ d.flashRange a n then
    some { addr := a, data := some (Mem.bytes m src n) }
  else none

/-- A write of SYS_FLASH_CMD. -/
def Dev.flashCmd (d : Dev) (m : Mem) (v : Nat) : Dev :=
  if bits 1 0 v = 0 ∨ bits 1 0 v = 3 ∨ d.on SYS_FLASH_STS_BUSY then d
  else
    match d.flashStart m v with
    | some c => ({ d with boot := { d.boot with flash := some c } } : Dev).set SYS_FLASH_STS_BUSY
    | none => ((d.set SYS_FLASH_STS_REFUSED).raiseIf SYS_INT_EN_FLASH 0).post 0x01 0x0004 1 9 (bits 1 0 v)

def execFlashErase (dt : Nat) (a : Acc) (v : Nat) (s : State) : Host.Outcome State Fault Refusal :=
  s.onDevM dt true fun m d => d.regWrite m a SYS_FLASH_CMD (·.flashCmd m v)

def execFlashProgram (dt : Nat) (a : Acc) (v : Nat) (s : State) : Host.Outcome State Fault Refusal :=
  s.onDevM dt true fun m d => d.regWrite m a SYS_FLASH_CMD (·.flashCmd m v)

/-- The bytes that the running command leaves in the flash; where its verification fails, each is a free value. -/
def Dev.flashBytes (d : Dev) (c : FlashCmd) (ok : Bool) : List Nat :=
  match c.data with
  | some l => if ok then l else (List.range l.length).map (fun i => (Config.freeBits 8 (d.drawn + i)).toNat)
  | none =>
    if ok then List.replicate 65536 Config.erasedByte.toNat
    else (List.range 65536).map (fun i => (Config.freeBits 8 (d.drawn + i)).toNat)

/-- The flash command completes; `ok`: its verification passes. -/
def execFlashCommandDone (dt : Nat) (ok : Bool) (s : State) : Host.Outcome State Fault Refusal :=
  s.onAll dt true fun m d =>
    match d.boot.flash with
    | none => (d, m)
    | some c =>
      let l := d.flashBytes c ok
      let d : Dev := { d with
        drawn := (if ok then d.drawn else d.drawn + l.length)
        boot := { d.boot with flash := none } }
      let d := (d.clr SYS_FLASH_STS_BUSY).set SYS_FLASH_STS_DONE
      (((if ok then d else d.set SYS_FLASH_STS_ERROR).raiseIf SYS_INT_EN_FLASH 0), Mem.setBytes m c.addr l)

/-! ### Service boot (R424) -/

/-- The payload of a frame of R424. -/
def servicePayload (kind seq offset : Nat) (data : List Nat) : List Nat :=
  [kind, 0] ++ leBytes 2 seq ++ leBytes 4 offset ++ leBytes 2 data.length ++ [0, 0] ++ data

/-- The device sends a frame on T100-0 to a MAC address: from 0x02 and the last five octets of the serial number, with
EtherType 0x88B6. The spec gives no rule for SEQ. -/
def Dev.serviceSend (d : Dev) (dst : List Nat) (kind offset : Nat) (data : List Nat) : Dev :=
  let f := d.fresh 16
  { f.2 with boot := { f.2.boot with
      sent := dst ++ (2 :: d.serial.drop 11) ++ [0x88, 0xB6] ++ servicePayload kind f.1 offset data } }

def execHello (dt : Nat) (s : State) : Host.Outcome State Fault Refusal :=
  s.onDev dt true fun d =>
    let due : Bool := match d.boot.helloAt with
      | none => true
      | some t => d.passed t 100000000
    if d.inService ∧ !d.boot.answered ∧ due then
      ({ d with boot := { d.boot with helloAt := some d.up } } : Dev).serviceSend (List.replicate 6 0xFF) 1 0
        (d.serial ++ leBytes 4 (d.rn SYS_BOOT_STS) ++ [d.fld SBX_ROLLBACK_CONSIST])
    else d

/-- A DATA frame from a tool's MAC address: its bytes enter DRAM where OFFSET is the count already received; the frame is
then acknowledged. The boot timer runs on once the image is complete (R421). -/
def Dev.serviceData (d : Dev) (m : Mem) (tool offset : Nat) (data : List Nat) : Dev × Mem :=
  if !d.inService ∨ 1024 < data.length then (d, m)
  else
    let n := d.boot.received
    let d : Dev := { d with boot := { d.boot with answered := true } }
    if offset ≠ n ∨ d.serviceDone m then (d, m)
    else
      let m := Mem.setBytes m (0x100000000 + n) data
      let d : Dev := { d with boot := { d.boot with received := n + data.length } }
      let d : Dev := if d.serviceDone m then { d with boot := { d.boot with timerFrom := d.up } } else d
      (d.serviceSend (beBytes 6 tool) 3 (n + data.length) [], m)

def execData (dt tool offset : Nat) (data : List Nat) (s : State) : Host.Outcome State Fault Refusal :=
  s.onAll dt true fun m d => d.serviceData m tool offset data

/-! ### Certificates (R384, R425, R426) -/

/-- A certificate has arrived: before step 4 of R417 the boot ROM checks it, then it waits for seal, and after seal it is
handled as a DEBUG_CERT command. -/
def Dev.certArrived (d : Dev) (c : List Nat) : Dev :=
  if d.boot.phase = .rom ∨ d.boot.phase = .sealed then d.presentCert c
  else { d with boot := { d.boot with lateCert := some c } }

/-- The length of the certificate whose first bytes these are: its fields and a signature block. -/
def certLen (c : List Nat) : Nat := 0x1C + (if c.getD 0x25 0 = 1 then 10941 else 5477)

/-- A CERT frame of service boot; one that comes after the image's verification has begun waits for seal (R425). -/
def Dev.certFrame (d : Dev) (offset : Nat) (data : List Nat) : Dev :=
  if !d.toolOpen ∨ 1024 < data.length ∨ offset ≠ d.boot.cert.length then d
  else
    let c := d.boot.cert ++ data
    let d : Dev := { d with boot := { d.boot with cert := c } }
    if c.length < certLen c then d
    else ({ d with boot := { d.boot with cert := [] } } : Dev).certArrived c

def execCert (dt offset : Nat) (data : List Nat) (s : State) : Host.Outcome State Fault Refusal :=
  s.onDev dt true (·.certFrame offset data)

/-- CERT_LOAD: a certificate of up to 16 KiB. -/
def execCertLoad (dt : Nat) (cert : List Nat) (s : State) : Host.Outcome State Fault Refusal :=
  s.onDev dt true fun d => if d.frm.beyvoUp ∧ cert.length ≤ 16384 then d.certArrived cert else d

/-- CERT_STS. -/
def execCertSts (dt : Nat) (s : State) : Host.Outcome State Fault Refusal :=
  s.onDev dt true fun d => d.returns (d.boot.certSts + 4 * (d.rn MAN_DBG_STS % 16))

end Sys2Proof.Machine
end

