-- ==== Sys2Proof/Machine/Access.lean ====
section
/-! DEFINITION. Accesses of cores: what a read of a register shows and does, what a write of a register does under its
access types, and accesses to memory (R8–R14, R71, R333–R335, R350, R495). -/

namespace Sys2Proof.Machine

open R

/-- The index of an element of an array of registers. -/
def arrIdx (a base stride n : Nat) : Option Nat := if inArr a base stride n then some ((a - base) / stride) else none

/-! ### Reads -/

/-- The _LO registers whose read latches the register 4 bytes above. -/
def latchRegs : List RegDesc :=
  [⟨STG_TICK_LO, [], []⟩, ⟨TIME_PEND_OFS_LO, [], []⟩, ⟨TIME_GMID_LO, [], []⟩, ⟨TIME_PEND_GMID_LO, [], []⟩,
   ⟨TIME_STEP_PRE_LO, [], []⟩, ⟨TIME_STEP_SIZE_LO, [], []⟩, ⟨TIME_DOM_OFS_LO 0, [(0x20, 4)], []⟩,
   ⟨PORT_RX_FRM_LO 0, [(0x1000, 48)], []⟩, ⟨PORT_RX_BYTE_LO 0, [(0x1000, 48)], []⟩,
   ⟨PORT_TX_FRM_LO 0, [(0x1000, 48)], []⟩, ⟨PORT_TX_BYTE_LO 0, [(0x1000, 48)], []⟩, ⟨SID_WAKE_TIME_LO, [], []⟩,
   ⟨CHAN_Q_LO 0, [(0x100, 40)], []⟩, ⟨CHAN_EDGE_T_LO 0, [(0x100, 40)], []⟩, ⟨MAN_LAST_ADDR_LO, [], []⟩,
   ⟨TAN_PAIR_FIRST_ADDR_LO 0, [(0x40, 4)], []⟩, ⟨TAN_PAIR_FOLD_L_LO 0, [(0x40, 4)], []⟩,
   ⟨TAN_PAIR_FOLD_W_LO 0, [(0x40, 4)], []⟩, ⟨SBX_ODO_LO 0, [(8, 16)], []⟩, ⟨DBG_LAST_ADDR_LO, [], []⟩,
   ⟨TALLY_C_CNT_LO 0 0, [(0x1000, 12), (0x10, 8)], []⟩, ⟨TALLY_D_CNT_LO 0, [(0x10, 16)], []⟩,
   ⟨TALLY_P_CNT_LO 0 0, [(0x40, 48), (0x10, 4)], []⟩, ⟨TALLY_BW_IN_LO 0, [(0x20, 48)], []⟩,
   ⟨TALLY_BW_OUT_LO 0, [(0x20, 48)], []⟩]

/-- A read of the register latches its high word. -/
def latchesHi (addr : Nat) : Bool := latchRegs.any (·.has addr)

/-- The bits of IRQ_MASKw and IRQ_PENDw that an accessor sees (R350). -/
def Dev.irqBits (d : Dev) (a : Acc) (w : Nat) : Nat :=
  if a.guard then 0xFFFFFFFF else maskOf ((List.range 32).filter (fun s => d.fld (IRQ_ROUTE_OWNER (32 * w + s)) == a.owner))

/-- SBX_SLOTs_ATTR, _LINK and _USE (R366). -/
def Dev.slotReg (d : Dev) (s i : Nat) : Nat :=
  let x := d.keySlot s
  match i with
  | 0 => x.k.attr + 2 ^ 19 * b2n x.shadow.isSome + 2 ^ 20 * x.state
  | 1 => x.k.parent.getD 0 + 256 * b2n x.k.parent.isSome + 65536 * x.gen
  | 2 => x.k.use
  | _ => 0

/-- What a register of the Beyvo die's device blocks shows now: SYS to LOGB, IRQ, TALLY, apertures. -/
def Dev.shownSys (d : Dev) (a : Acc) (addr : Nat) : Nat :=
  if let some k := arrIdx addr (MAN_CORE_CFG 0) 4 12 then putBits 3 0 (d.rn addr) (d.shownOwner k)
  else if let some w := arrIdx addr (IRQ_MASK 0) 4 16 then d.rn addr &&& d.irqBits a w
  else if let some w := arrIdx addr (IRQ_PEND 0) 4 16 then d.rn addr &&& d.irqBits a w
  else if let some k := arrIdx addr (TALLY_C_SMP_STS 0) 0x1000 12 then putBits 9 0 (d.rn addr) (d.smpFill k)
  else if addr = DBG_STS then putBits 5 5 (d.rn addr) (b2n (d.dbg.halted != []))
  else if let some c := arrIdx addr (CA_IDENT 0) 0x100000 8 then
    c + 8 * d.fld (MAN_COACH_CFG_CRIT c) + 65536 * d.fld (MAN_COACH_CFG_CORES c)
  else d.rn addr

/-- What a register of the fabric, the lookup and the resequencer shows now. -/
def Dev.shownFab (d : Dev) (addr : Nat) : Nat :=
  if addr = FAB_BUF_FREE then d.bufFree
  else if addr = LKP_DRAIN_OLD then
    (if d.fld LKP_STS_DRAIN_BANK = 3 then 0 else d.drainCount d.oldEpoch + 2 ^ 24 * d.oldEpoch)
  else if addr = LKP_DRAIN_CUR then
    d.drainCount (d.fld LKP_STS_EPOCH) + 2 ^ 24 * d.fld LKP_STS_EPOCH
  -- the internal ports run at 76.8 Gb/s (R129)
  else if FAB_PORT_CFG 36 ≤ addr ∧ addr ≤ FAB_PORT_CFG 47 then
    putBits (FAB_PORT_CFG_RATE 36).hi (FAB_PORT_CFG_RATE 36).lo (d.rn addr) 7
  -- a bus port knows no express frames (R129)
  else if FAB_PORT_CFG 16 ≤ addr ∧ addr ≤ FAB_PORT_CFG 35 then putBits 0 0 (d.rn addr) 0
  else if let some p := arrIdx addr (RSQ_OCC 0) 0x10 48 then putBits 9 0 (d.rn addr) (d.heldAt p)
  else if 0x40140000 ≤ addr ∧ addr < 0x40143000 ∧ addr % 16 = 12 then
    d.depth ((addr - 0x40140000) / 0x100) (addr % 0x100 / 16)
  else d.rn addr

/-- What a register of the time base, the timed actions, the strongbox and SIDING shows now. -/
def Dev.shownTime (d : Dev) (a : Acc) (addr : Nat) : Nat :=
  if addr = TIME_NOW_LO then d.ns % 2 ^ 32
  else if addr = TIME_NOW_HI ∨ addr = TIME_NOW_FRAC then 0
  else if addr = TIME_LOCK_SECS then d.lockSecs
  else if addr = TTA_TOUT_LEVEL then
    d.tta.tout &&& maskOf ((List.range 8).filter (fun k => a.guard || d.fld (TTA_TOUT_CFG_OWNER k) == a.owner))
  else if let some s := arrIdx addr (SID_SRC_STS 0) 4 36 then putBits 31 16 (d.rn addr) (d.lockLeft s)
  else if let some i := arrIdx addr (SBX_ODO_LO 0) 4 32 then d.odo (i / 2) / 2 ^ (32 * (i % 2)) % 2 ^ 32
  else if let some i := arrIdx addr (SBX_SLOT_ATTR 0) 4 1024 then d.slotReg (i / 4) (i % 4)
  else d.rn addr

/-- What a register of the Heavia die shows now. -/
def Dev.shownHv (d : Dev) (a : Acc) (addr : Nat) : Nat :=
  if let some i := arrIdx addr (CHAN_STS 0) 0x100 40 then d.chanSts i
  else if let some i := arrIdx addr (CHAN_TJ 0) 0x100 40 then d.chanTj i
  else if let some i := arrIdx addr (CHAN_I_AVG 0) 0x100 40 then d.chanAvg i
  else if addr = HLK_DS_STS then putBits 31 16 (d.rn addr) d.coastLeft
  else if addr = LIO_LEVEL then
    d.rn addr &&& maskOf ((List.range 32).filter (fun n => a.guard || d.fld (LIO_CFG_OWNER n) == a.owner))
  else d.rn addr

/-- What a register shows now, before the access types mask it. -/
def Dev.shown (d : Dev) (a : Acc) (addr : Nat) : Nat :=
  let w := addr / 0x10000
  if onHeavia addr then d.shownHv a addr
  else if (0x4010 ≤ w ∧ w < 0x4032) then d.shownFab addr
  else if (0x4040 ≤ w ∧ w < 0x4050) ∨ (0x4060 ≤ w ∧ w < 0x4080) then d.shownTime a addr
  else d.shownSys a addr

/-- The bits of a field. -/
def FieldDesc.mask (f : FieldDesc) : Nat := 2 ^ (f.hi + 1) - 2 ^ f.lo

/-- The bits of a register that a reader sees: its fields but for WO fields and, from the Open world, GO fields (R11, R12,
R14). -/
def RegDesc.seen (r : RegDesc) (guard : Bool) : Nat :=
  (r.fields.filter (fun f => f.acc != .wo && (guard || !f.go))).foldl (fun n f => n ||| f.mask) 0

/-- A read of the shadow window (R159, R163): the bank that is SHADOW, once a copy in progress is complete. -/
def Dev.shadowRead (d : Dev) (addr : Nat) : Dev :=
  let d := d.syncAll
  let b := d.fld LKP_STS_SHADOW_BANK
  d.returns (if b = 3 then 0 else (d.bank b).w (addr - 0x40200000))

/-- A high word that is latched for later reads. -/
def Dev.latch (d : Dev) (addr v : Nat) : Dev :=
  { d with tim := { d.tim with latched := (addr, v) :: d.tim.latched.filter (·.1 ≠ addr) } }

/-- The registers whose value a read of their low word latches. -/
def latchable (addr : Nat) : Bool := addr == TIME_NOW_HI || addr == TIME_NOW_FRAC || (4 ≤ addr && latchesHi (addr - 4))

/-- The value of a register: the latched one where a read of its low word has latched it, else what it shows. -/
def Dev.value (d : Dev) (a : Acc) (addr : Nat) : Nat :=
  match (if latchable addr then d.tim.latched.find? (·.1 == addr) else none) with
  | some e => e.2
  | none => d.shown a addr

/-- A read of a register without an effect but the latch (R71). -/
def Dev.plainRead (d : Dev) (a : Acc) (addr : Nat) : Dev :=
  match descOf addr with
  | none => d.returns 0
  | some r =>
    let v := d.value a addr &&& r.seen a.guard
    let d := if addr = TIME_NOW_LO then
        (d.latch TIME_NOW_HI (d.ns / 2 ^ 32 % 2 ^ 32)).latch TIME_NOW_FRAC (d.tim.dev % 65536)
      else if latchesHi addr then d.latch (addr + 4) (d.shown a (addr + 4)) else d
    d.returns v

/-- The signal quality of a linked T1 PHY now (R218): a free value, which the spec does not give. -/
def Dev.sqiNow (d : Dev) (p : Nat) : Dev :=
  if d.on (PORT_STS_LINK p) then
    let f := d.fresh 3
    f.2.put (PORT_PHY_STS_SQI p) f.1
  else d

/-- A read of a register (R11, R12, R14, R71): those whose read has an effect, and those whose value the spec does not give
(the reading of VBAT_L, the symbol errors and the signal quality of a PHY: free values). -/
def Dev.readReg (d : Dev) (a : Acc) (addr : Nat) : Dev :=
  if inShadow addr then d.shadowRead addr
  else if d.inertPage addr then d.returns 0
  else if let some n := arrIdx addr (LIO_EDGE_LO 0) 0x40 32 then d.lioEdgePop n
  else if let some n := arrIdx addr (LIO_FAST 0) 0x40 32 then d.lioFastPop n
  else if let some k := arrIdx addr (TTA_TCAP_TS_LO 0) 0x10 8 then d.tcapPop k
  else if addr = SBX_DRBG then d.drbgRead
  else if let some k := arrIdx addr (MAN_CORE_GINFO 0) 4 12 then d.ginfoRead k
  else if let some i := arrIdx addr (IRQ_LC_CLAIM 0 0) 0x800 24 then d.claim (i / 2) (i % 2 == 1)
  else if addr = FAB_BUF_LOW then
    let v := d.rn addr
    (d.put FAB_BUF_LOW_CELLS d.bufFree).returns v
  else if let some p := arrIdx addr (RSQ_OCC 0) 0x10 48 then
    let v := d.shown a addr
    (d.put (RSQ_OCC_MAX p) (d.heldAt p)).returns v
  else if addr = HPS_VBAT then
    let r := d.fresh 32
    r.2.returns r.1
  else if let some p := arrIdx addr (PORT_SYM_ERR 0) 0x1000 36 then (d.symErr p).plainRead a addr
  else if let some p := arrIdx addr (PORT_PHY_STS 0) 0x1000 14 then (d.sqiNow p).plainRead a addr
  else d.plainRead a addr

/-! ### Writes -/

/-- One field of a register written under its access type (R11): `r` is the register so far, `v` the written word. -/
def FieldDesc.write (f : FieldDesc) (isSealed : Bool) (v r : Nat) : Nat :=
  let x := bits f.hi f.lo v
  let old := bits f.hi f.lo r
  let clear := putBits f.hi f.lo r (old - (old &&& x))
  match f.acc with
  | .ro => r
  | .rw => putBits f.hi f.lo r x
  | .wo => putBits f.hi f.lo r x
  | .w1c => clear
  | .rws => clear
  | .w1s => putBits f.hi f.lo r (old ||| x)
  | .lk => if isSealed then r else putBits f.hi f.lo r x

/-- A write under the access types (R11–R14). -/
def Dev.plainWrite (d : Dev) (a : Acc) (addr v : Nat) : Dev :=
  match descOf addr with
  | none => d
  | some r =>
    let sealed_ := d.boot.phase == .sealed || (onHeavia addr && d.hv.locked)
    let go := r.fields.filter (fun f => f.go && !a.guard)
    let mine := r.fields.filter (fun f => a.guard || !f.go)
    let d := if go.any (fun f => bits f.hi f.lo v != 0) then d.fault 1 (blockId addr) 0 (accWho a) else d
    let lk := r.fields.filter (·.acc == .lk)
    let tried : Bool := lk != [] &&
      (lk == r.fields || lk.any (fun f => bits f.hi f.lo v != bits f.hi f.lo (d.rn addr)))
    let d := if sealed_ ∧ tried then d.fault 0 (blockId addr) 0 (accWho a) else d
    d.wr addr (mine.foldl (fun x f => f.write sealed_ v x) (d.rn addr))

/-- A write of the shadow window (R159, R163). -/
def Dev.shadowWrite (d : Dev) (addr v : Nat) : Dev :=
  let d := d.syncAll
  let b := d.fld LKP_STS_SHADOW_BANK
  if b = 3 then d else d.bankPut b (addr - 0x40200000) v

/-- A write of IRQ_MASKw (R350). -/
def Dev.irqMask (d : Dev) (a : Acc) (w v : Nat) : Dev :=
  let mine := d.irqBits a w
  d.wr (IRQ_MASK w) ((d.rn (IRQ_MASK w) &&& (0xFFFFFFFF ^^^ mine)) ||| (v &&& mine))

/-- A write of FRM_CFG or FRM_COACHc_CFG: read-only after FRM_CTL.LOCK; CHAN_POLICY 3 is ignored as a whole (R454). -/
def Dev.frmCfg (d : Dev) (a : Acc) (addr v : Nat) : Dev :=
  if d.on FRM_CTL_LOCK ∨ badPolicy addr v then d else d.plainWrite a addr v

/-- A write of a register of the legacy window (R203–R206). -/
def Dev.legacyWrite (d : Dev) (a : Acc) (addr v : Nat) : Dev :=
  if addr = TOW_LEGACY_CTL then d.towCtl v
  else if d.on TOW_STS_SEALED_OFF then d
  else if d.fld TOW_STS_STATE = 2 ∧ TOW_L_ING_SRC ≤ addr ∧ addr ≤ TOW_L_FLOW 3 then d.set TOW_L_STS_LOCKED_WR
  else d.plainWrite a addr v

/-- A write of CHAN_CTL (R280). -/
def Dev.chanCtl (d : Dev) (i v : Nat) : Dev :=
  let d := if bit 0 v then
      (d.wrPair (CHAN_Q_LO i) (CHAN_Q_HI i) 0).modChan i fun c => { c with qRem := 0 }
    else d
  if bit 1 v then d.wr (CHAN_ON_CNT i) 0 else d

/-- A write to a register of the Heavia die. -/
def Dev.writeHv (d : Dev) (a : Acc) (addr v : Nat) : Dev :=
  if let some i := arrIdx addr (CHAN_CMD 0) 0x100 40 then d.chanCmd i (bits 2 0 v) v
  else if let some i := arrIdx addr (CHAN_CTL 0) 0x100 40 then d.chanCtl i v
  else if let some i := arrIdx addr (CHAN_PCTL 0) 0x100 40 then (if bit 0 v then d.unlatch i else d)
  else if addr = HLK_DS_CTL then d.dsCtl v
  else if addr = HLK_CW_WORD then d.cwWord v Dev.standbyAll
  else d.plainWrite a addr v

/-- A write to a register of the fabric, the lookup, the samplers and the mirror. -/
def Dev.writeFab (d : Dev) (a : Acc) (addr v : Nat) : Dev :=
  if inShadow addr then (if a.guard then d.shadowWrite addr v else d.fault 1 0x11 0 (accWho a))
  else if addr = FAB_CTL then d.fabCtl v
  else if addr = FAB_PLANE_CTL then d.planeReadmit v
  else if addr = LKP_FLIP then d.flipWrite v
  else if addr = LKP_FRER_RST then d.frerRst v
  else if OUTR_PORT_N 0 0 ≤ addr ∧ addr < OUTR_PORT_N 44 0 then
    d.samplerWrite ((addr - OUTR_PORT_N 0 0) / 0x20) (addr % 0x20 / 4) v
  else if addr / 0x10000 = 0x4033 then d.legacyWrite a addr v
  else d.plainWrite a addr v

/-- A write to a register of a port. -/
def Dev.writePort (d : Dev) (a : Acc) (addr v : Nat) : Dev :=
  let p := (addr - 0x40500000) / 0x1000
  if addr = PORT_CTL p ∧ p < 36 then d.portCtl p v
  else if addr = PORT_LIN_SCHED p ∧ 28 ≤ p ∧ p < 36 then d.linSched p v
  else d.plainWrite a addr v

/-- A write to a register of a timed-action slot, ignored while it is armed (R98). -/
def Dev.slotWrite (d : Dev) (a : Acc) (n addr v : Nat) : Dev :=
  if (d.slot n).armed then d.post 0x22 0x0009 0 9 n else d.plainWrite a addr v

/-- A write to a register of SIDING. -/
def Dev.writeSid (d : Dev) (a : Acc) (addr v : Nat) : Dev :=
  if addr = SID_CONFIRM then d.sidConfirm a v
  else if let some p := arrIdx addr (SID_PORT_CTL 0) 0x10 36 then d.sidCtl p v
  else if (arrIdx addr (SID_SRC_CFG 0) 4 44).isSome then (d.plainWrite a addr v).recheckTarget d.parkedAllowed
  else d.plainWrite a addr v

/-- A write to a register of the cipher engine or the strongbox. -/
def Dev.writeCrypto (d : Dev) (m : Mem) (a : Acc) (addr v : Nat) : Dev :=
  if let some l := arrIdx addr (CE_SUBMIT 0) 4 4 then d.ceSubmit m l v
  else if let some i := arrIdx addr (CE_KEYIN 0) 4 16 then d.keyIn i v
  else if addr = CE_KEYLOAD then d.keyLoad v
  else if addr = CE_LANE_CTL then d.laneCtl v
  else if addr = SBX_SUBMIT then d.sbxSubmit m v
  else d.plainWrite a addr v

/-- A write to a register of SYS or FRM. -/
def Dev.writeSysFrm (d : Dev) (m : Mem) (a : Acc) (addr v : Nat) : Dev × Mem :=
  if addr = SYS_ROLLBACK_CMT then (d.rollbackCmt v, m)
  else if addr = SYS_FLASH_CMD then (d.flashCmd m v, m)
  else if addr = SYS_SEAL ∧ d.boot.phase ≠ .sealed then (d.sealWrite v, m)
  else if addr = FRM_ACK then (d.frmAck v, m)
  else if addr = FRM_SAFE_CTL then (d.safeCtl v, m)
  else if addr = FRM_RESET_CMD then (d.resetCmd v, m)
  else if addr = FRM_BLK_RST then d.blkRst v m
  else if let some c := arrIdx addr (FRM_COACH_CTL 0) 4 8 then (d.coachCtl c v, m)
  else if addr = FRM_SWFAULT 8 then (d.swFault a 8 v, m)
  else if let some c := arrIdx addr (FRM_SWFAULT 0) 0x1000 8 then (d.swFault a c v, m)
  else if addr = FRM_CFG ∨ (arrIdx addr (FRM_COACH_CFG 0) 4 8).isSome then (d.frmCfg a addr v, m)
  else (d.plainWrite a addr v, m)

/-- A write to a register of PWRM or CLK. -/
def Dev.writePower (d : Dev) (a : Acc) (addr v : Nat) : Dev :=
  if addr = PWRM_GUARD_QUIESCED then d.guardQuiesced v
  else if addr = PWRM_WAKE_TMR ∨ addr = PWRM_POLICY then (d.plainWrite a addr v).recheckTarget d.parkedAllowed
  else if let some u := arrIdx addr (PWRM_PGATE 1) 0x1000 6 then d.pwrGate (u + 1) v
  else if let some u := arrIdx addr (CLK_GATE 1) 0x1000 6 then d.clkGate (u + 1) v
  else if let some i := arrIdx addr (PWRM_SLEEP_REQ 8) 0x1000 9 then d.sleepReq (if i = 0 then 8 else i - 1) v
  else if let some i := arrIdx addr (PWRM_TOL_US 8) 0x1000 9 then d.tolUs (if i = 0 then 8 else i - 1) v
  else d.plainWrite a addr v

/-- A write to a register of TALLY (R460–R466). -/
def Dev.writeTally (d : Dev) (a : Acc) (addr v : Nat) : Dev :=
  let k := addr / 0x1000 % 16
  if d.inertPage addr then d
  else if (counterHalf addr).isSome then d.counterWrite addr v
  else if addr = TALLY_BW_CFG then d.bwCfg v
  else if addr % 16 = 0 ∧ k < 12 ∧ addr % 0x1000 < 0x80 then d.tallyCtl addr v 0 0x0E
  else if addr % 16 = 0 ∧ k = 12 ∧ addr % 0x1000 < 0x100 then d.tallyCtl addr v 0x80 0x89
  else if addr % 16 = 0 ∧ k = 13 ∧ addr % 0x1000 < 0xC00 then d.tallyCtl addr v 0x40 0x48
  else if k < 12 ∧ addr = TALLY_C_SMP_CFG k then d.smpCfg k v
  else if k < 12 ∧ addr = TALLY_C_SMP_RD k then d.smpRd k v
  else if k < 12 ∧ addr = TALLY_C_SMP_THR k then (d.plainWrite a addr v).smpThresh k
  else d.plainWrite a addr v

/-- A write to a register of LOGB. -/
def Dev.writeLogb (d : Dev) (a : Acc) (addr v : Nat) : Dev :=
  if addr = LOGB_RD_CNT then d.logRdCnt v
  else if addr = LOGB_AO_IDX then d.aoFetch v
  else if addr = LOGB_AO_CLR then (if bits 23 22 v ≤ 1 then d.aoClear v (bits 23 22 v) else d)
  else if addr = LOGB_CTL ∨ addr = LOGB_INT_EN then (d.plainWrite a addr v).logThresh
  else if addr = LOGB_SPOST_GO 8 then d.spostGo 8 v
  else if let some c := arrIdx addr (LOGB_SPOST_GO 0) 0x1000 8 then d.spostGo c v
  else d.plainWrite a addr v

/-- A write to a register of STG, or to one of MAN, IRQ or TAN. -/
def Dev.writeMan (d : Dev) (a : Acc) (addr v : Nat) : Dev :=
  if addr = STG_GDONE then d.stgDone 8 v
  else if let some c := arrIdx addr (STG_DONE 0) 0x1000 8 then d.stgDone c v
  else if addr = MAN_EDIT_CMD then d.editCmd v
  else if let some w := arrIdx addr (IRQ_MASK 0) 4 16 then d.irqMask a w v
  else if let some i := arrIdx addr (IRQ_LC_EOI 0 0) 0x800 24 then d.eoi (i / 2) (i % 2 == 1) v
  else if addr = TAN_INJ then d.tanInj a v
  else d.plainWrite a addr v

/-- A write to a register of an aperture (R497). -/
def Dev.writeAper (d : Dev) (a : Acc) (addr v : Nat) : Dev :=
  let c := (addr - 0x48000000) / 0x100000
  let n := addr / 0x1000 % 0x100
  if (descOf addr).isSome ∧ n < 64 ∧ addr % 0x1000 = 0x20 then d.doorbell (64 * c + n) v
  else if (descOf addr).isSome ∧ n < 64 ∧ (addr % 0x1000 = 0x2C ∨ addr % 0x1000 = 0x30) then
    -- R182: CQ_GRP_STS follows CQ_STS and the enables
    (d.plainWrite a addr v).qGroup (64 * c + n)
  else if let some c := arrIdx addr (CA_RESET_REQ 0) 0x100000 8 then d.resetReq c v
  else d.plainWrite a addr v

/-- A write to a register that the check has passed: the effect of the register's own row where it has one, and the
access types of R11 everywhere else. -/
def Dev.writeReg (d : Dev) (m : Mem) (a : Acc) (addr v : Nat) : Dev × Mem :=
  let w := addr / 0x10000
  let v := v % 2 ^ 32
  if w / 0x100 = 0x48 then (d.writeAper a addr v, m)
  else if onHeavia addr then (d.writeHv a addr v, m)
  else if w ≤ 0x4001 then d.writeSysFrm m a addr v
  else if w ≤ 0x4003 then (d.writePower a addr v, m)
  else if w = 0x4007 then (d.writeTally a addr v, m)
  else if w = 0x4008 then (d.writeLogb a addr v, m)
  else if w ≤ 0x4009 ∨ w = 0x4041 then (d.writeMan a addr v, m)
  else if w < 0x4040 then (d.writeFab a addr v, m)
  else if addr = TIME_ACCEPT then d.timeAccept m v
  else if w = 0x4042 ∧ 0x40421000 ≤ addr then
    let n := (addr - 0x40421000) / 0x20
    if n < 64 then (if addr = TTA_SLOT_CMD n then d.slotCmd m n v else (d.slotWrite a n addr v, m)) else (d, m)
  else if w / 16 = 0x405 then (d.writePort a addr v, m)
  else if w = 0x4060 then (d.writeSid a addr v, m)
  else if w = 0x4070 ∨ w = 0x4071 then (d.writeCrypto m a addr v, m)
  else (d.plainWrite a addr v, m)

/-! ### Accesses -/

/-- An access that ends in a bus error, with its exception in the core. -/
def Dev.busErrorAt (d : Dev) (core : Nat) : Dev :=
  d.busError.raiseExc core 2

/-- A width or an alignment that a register does not accept (R8, R9, R204). -/
def badWidth (addr width : Nat) : Bool :=
  if addr / 0x10000 = 0x4033 then width != 2 || addr % 2 != 0 else width != 4 || addr % 4 != 0

/-- An access of the wrong width (R9, R204). -/
def Dev.widthRefused (d : Dev) (a : Acc) (addr : Nat) : Dev :=
  (if addr / 0x10000 = 0x4033 then d.faultPost 1 0x14 0x0006 (accWho a) (addr % 0x10000)
   else d.fault 1 (blockId addr) 0 (accWho a)).busErrorAt a.core

/-- The aperture of a coach with EN = 0, which reads 0 (R329). -/
def Dev.deadAperture (d : Dev) (addr : Nat) : Bool :=
  0x48000000 ≤ addr && addr < 0x48800000 && !d.on (MAN_COACH_CFG_EN ((addr - 0x48000000) / 0x100000))

/-- A register access that the checks have passed; reads of the legacy window return 0 while it is sealed off (R203),
and the shadow window is GO. -/
def Dev.regAccess (d : Dev) (m : Mem) (a : Acc) (k : AccKind) (addr v : Nat) : Dev × Mem :=
  if d.deadAperture addr then (d.returns 0, m)
  else if k = .write then d.writeReg m a addr v
  else if addr / 0x10000 = 0x4033 ∧ d.on TOW_STS_SEALED_OFF then (d.returns 0, m)
  else if inShadow addr ∧ !a.guard then ((d.fault 1 0x11 0 (accWho a)).returns 0, m)
  else (d.readReg a addr, m)

/-- A memory access that the checks have passed; the contents of the boot ROM are not given (a free value). -/
def Dev.memAccess (d : Dev) (m : Mem) (a : Acc) (k : AccKind) (addr width v : Nat) : Dev × Mem :=
  let d := if 0x100000000 ≤ addr ∧ a.core < 12 then d.tallyC a.core 0x0E 1 else d
  if k = .write then (d.returns 0, Mem.setBytes m addr (leBytes width v))
  else if addr < 0x40000 then
    let r := d.fresh (8 * width)
    (r.2.returns r.1, m)
  else (d.returns (leNat (Mem.bytes m addr width)), m)

/-- An access of a core (R333–R335): to a register, or to memory, whose last byte is checked as its first is. -/
def Dev.access (d : Dev) (m : Mem) (a : Acc) (k : AccKind) (addr width v : Nat) : Dev × Mem :=
  if !d.actsAs a then (d, m)
  else if d.injected a addr then (d.turnedAway a k addr .falsified, m)
  else if (window addr).isSome then
    if badWidth addr width then (d.widthRefused a addr, m)
    else
      match checkAccess m d a k addr with
      | .pass => d.regAccess m a k addr v
      | x => (d.turnedAway a k addr x, m)
  else
    match checkAccess m d a k addr with
    | .pass =>
      (match checkAccess m d a k (addr + width - 1) with
        | .pass => d.memAccess m a k addr width v
        | x => (d.turnedAway a k (addr + width - 1) x, m))
    | x => (d.turnedAway a k addr x, m)

/-- The widths of an access. -/
def widthOk (width : Nat) : Bool := [1, 2, 4, 8, 16, 32, 64].contains width

def execRegisterWrite (dt : Nat) (a : Acc) (addr width v : Nat) (s : State) : Host.Outcome State Fault Refusal :=
  s.onAll dt (widthOk width) fun m d => d.access m a .write addr width v

def execCoreMemoryAccess (dt : Nat) (a : Acc) (kind : AccKind) (addr width v : Nat) (s : State) :
    Host.Outcome State Fault Refusal :=
  s.onAll dt (widthOk width) fun m d => d.access m a kind addr width v

/-- A read of a low word, 32 bits wide; of any other register, and of memory, the read is an ordinary one. -/
def execLatchingReadLo (dt : Nat) (a : Acc) (addr : Nat) (s : State) : Host.Outcome State Fault Refusal :=
  s.onAll dt true fun m d => d.access m a .read addr 4 0

end Sys2Proof.Machine
end

