-- ==== Sys2Proof/Machine/Debug.lean ====
section
/-! DEFINITION. The access words of the debug ports (spec/17, R426, R428; spec/13, R351; spec/14, R363). -/

namespace Sys2Proof.Machine

open R

/-- An access word on this path reaches the device (R426, R428): JTAG while the Beyvo die is up; a DEBUG frame in service
boot before seal, and after seal while any enable is granted and unit 6 is not gated. -/
def Dev.dbgServed (d : Dev) (port : Bool) : Bool :=
  d.frm.beyvoUp && (!port || (!d.gated 6 0 &&
    (if d.boot.phase == .sealed then d.rn MAN_DBG_STS % 16 != 0
      else d.toolOpen)))

/-- The owner and world that the enables grant for an access to a core's coach (R351): `inv` for a halt, a step or a
write; none where they grant nothing, or where the core is the wheeler of a TANDEM pair (R363). -/
def Dev.dbgGrant (d : Dev) (core : Nat) (inv : Bool) : Option Acc :=
  let o := d.fld (MAN_CORE_CFG_OWNER core)
  let open_ := d.on MAN_DBG_STS_OPEN_INV || (!inv && d.on MAN_DBG_STS_OPEN_NINV)
  if d.on (MAN_CORE_CFG_WHEELER core) ∨ (d.boot.phase ≠ .sealed ∧ core < 8 ∧ core % 2 = 1) then none
  else if d.on MAN_DBG_STS_GUARD_INV ∨ (!inv ∧ d.on MAN_DBG_STS_GUARD_NINV) then
    some { owner := 8, guard := true, core := 16 + core }
  else if open_ ∧ o < 8 ∧ bit o (d.fld MAN_DBG_STS_COACHES) then some { owner := o, guard := false, core := 16 + core }
  else none

/-- An access word is counted and recorded (R428). -/
def Dev.dbgTaken (d : Dev) (port : Bool) (op core addr : Nat) : Dev :=
  let d := (d.bump DBG_ACC_CNT).wr DBG_LAST (op + 256 * core + 2 ^ 14 * b2n port)
  let d := (d.wrPair DBG_LAST_ADDR_LO DBG_LAST_ADDR_HI addr).set (if port then DBG_STS_PORT else DBG_STS_JTAG)
  if d.dbg.first then ({ d with dbg := { d.dbg with first := false } } : Dev).post 0x70 0x0001 0 9 (b2n port) else d

/-- The response word (R426): STATUS, and data; data that no rule gives is free, as is the MAC address that a response on
T100-0 goes to. -/
def Dev.dbgAnswer (d : Dev) (port : Bool) (op core addr st : Nat) (data : Option Nat) : Dev :=
  let d := d.put DBG_LAST_STATUS st
  let r := match data with
    | some v => (v, d)
    | none => d.fresh 32
  let l := [op, core] ++ leBytes 2 st ++ leBytes 8 addr ++ leBytes 4 r.1
  let d : Dev := { r.2 with dbg := { r.2.dbg with response := l } }
  if port then
    let a := d.fresh 48
    a.2.serviceSend (beBytes 6 a.1) 6 0 l
  else d

/-- An access word refused under R351 or R363 (R428). -/
def Dev.dbgRefused (d : Dev) (port : Bool) (op core addr : Nat) : Dev :=
  let d := ((d.bump DBG_REF_CNT).set DBG_STS_REFUSED).postOnce 0x70 0x0002 1 9 core []
  d.dbgAnswer port op core addr 1 none

/-- A debugger's access (R351): checked as the owner and world of the enable; a refusal is handled under R335 with owner
9 in the record; the core itself takes no exception. -/
def Dev.dbgAccess (d : Dev) (m : Mem) (a : Acc) (k : AccKind) (addr v : Nat) : Dev × Mem :=
  let by9 : Acc := { owner := 9, guard := false, core := a.core }
  let exc := d.wld.exc
  let r : Dev × Mem :=
    if (window addr).isSome ∧ badWidth addr 4 then (d.widthRefused by9 addr, m)
    else
      match checkAccess m d a k addr with
      | .pass => d.access m a k addr 4 v
      | x =>
        let new := !d.on MAN_STS_REFUSED
        let d := d.turnedAway by9 k addr x
        (if new ∧ d.on MAN_STS_REFUSED then d.put MAN_LAST_INFO_WORLD (b2n a.guard) else d, m)
  ({ r.1 with wld := { r.1.wld with exc := exc } }, r.2)

/-- A read or a write by an access word. -/
def Dev.dbgMove (d : Dev) (m : Mem) (port : Bool) (op core addr v : Nat) : Dev × Mem :=
  if !d.dbgServed port then (d, m)
  else
    let d := d.dbgTaken port op core addr
    match d.dbgGrant core (op == 2) with
    | none => (d.dbgRefused port op core addr, m)
    | some a =>
      let r := ({ d with bus := { data := 0, err := false } } : Dev).dbgAccess m a (if op = 2 then .write else .read)
        addr v
      let b := r.1.bus
      (r.1.dbgAnswer port op core addr (if b.err then 2 else 0) (if op = 1 ∧ !b.err then some b.data else none), r.2)

/-- A halt, a resume or a step by an access word. -/
def Dev.dbgRun (d : Dev) (port : Bool) (op core addr : Nat) : Dev :=
  if !d.dbgServed port then d
  else
    let d := d.dbgTaken port op core addr
    match d.dbgGrant core true with
    | none => d.dbgRefused port op core addr
    | some _ =>
      let d : Dev :=
        if op = 3 then
          (({ d with dbg := { d.dbg with halted := insertNat core d.dbg.halted } } : Dev).when (core < 8 && core % 2 == 0)
            (·.foldStop (core / 2))).post 0x70 0x0003 0 9 core
        else if op = 4 ∧ d.dbg.halted.contains core then
          ({ d with dbg := { d.dbg with halted := d.dbg.halted.filter (· ≠ core) } } : Dev).leaderGoes core
        else d
      d.dbgAnswer port op core addr 0 none

def execDebugRead (dt : Nat) (port : Bool) (core addr : Nat) (s : State) : Host.Outcome State Fault Refusal :=
  s.onAll dt (core < 12 && addr < 2 ^ 64) fun m d => d.dbgMove m port 1 core addr 0

def execDebugWrite (dt : Nat) (port : Bool) (core addr v : Nat) (s : State) : Host.Outcome State Fault Refusal :=
  s.onAll dt (core < 12 && addr < 2 ^ 64) fun m d => d.dbgMove m port 2 core addr v

def execDebugHalt (dt : Nat) (port : Bool) (core addr : Nat) (s : State) : Host.Outcome State Fault Refusal :=
  s.onDev dt (core < 12 && addr < 2 ^ 64) (·.dbgRun port 3 core addr)

def execDebugResume (dt : Nat) (port : Bool) (core addr : Nat) (s : State) : Host.Outcome State Fault Refusal :=
  s.onDev dt (core < 12 && addr < 2 ^ 64) (·.dbgRun port 4 core addr)

/-- A step: what the core's instruction does is not this part's; the core stays halted. -/
def execDebugStep (dt : Nat) (port : Bool) (core addr : Nat) (s : State) : Host.Outcome State Fault Refusal :=
  s.onDev dt (core < 12 && addr < 2 ^ 64) (·.dbgRun port 5 core addr)

/-! ### Frames of a tool on T100-0 (R424, R426) -/

/-- A frame of R424: the tool's address, KIND, OFFSET and the data. -/
def toolFrame (bytes : List Nat) : Option (Nat × Nat × Nat × List Nat) :=
  let b := (bytes.take (bytes.length - 4)).drop 14
  let n := leNat ((b.drop 8).take 2)
  if bytes.length < 64 ∨ beNat ((bytes.drop 12).take 2) ≠ 0x88B6 ∨ 1024 < n ∨ b.length < 12 + n then none
  else some (beNat ((bytes.drop 6).take 6), b.getD 0 0, leNat ((b.drop 4).take 4), (b.drop 12).take n)

/-- The access word of a DEBUG frame; one of an OP or a core that R426 does not list is not taken
(DESIGN CHOICE, assumption 142). -/
def Dev.debugFrame (d : Dev) (m : Mem) (tool : Nat) (w : List Nat) : Dev × Mem :=
  let op := w.getD 0 0
  let core := w.getD 1 0
  let addr := leNat ((w.drop 4).take 8)
  if op = 0 ∨ 5 < op ∨ 11 < core then (d, m)
  else
    let r := if op < 3 then d.dbgMove m true op core addr (leNat ((w.drop 12).take 4)) else (d.dbgRun true op core addr, m)
    ({ r.1 with boot := { r.1.boot with sent := beBytes 6 tool ++ r.1.boot.sent.drop 6 } }, r.2)

/-- A frame at the MAC of an Ethernet port. T100-0 takes the boot ROM's frames in service boot, and DEBUG frames while they
are served, off the wire before lookup (R424, R426, R428). -/
def Dev.frameAtMac (d : Dev) (m : Mem) (p ts256 : Nat) (bytes : List Nat) (sec : Option SecTag) : Dev × Mem :=
  let own : Option (Nat × Nat × Nat × List Nat) :=
    if p = 6 ∧ d.on (PORT_STS_LINK p) ∧ d.sidAt p ts256 < 2 ∧ d.towPort ≠ some p ∧ fcsRight bytes sec then toolFrame bytes
    else none
  match own with
  | some (tool, kind, ofs, data) =>
    if kind = 5 ∧ data.length = 16 ∧ d.dbgServed true then (d.countRx p bytes.length).debugFrame m tool data
    else if kind = 2 ∧ d.inService then (d.countRx p bytes.length).serviceData m tool ofs data
    else if kind = 4 ∧ d.toolOpen then ((d.countRx p bytes.length).certFrame ofs data, m)
    else (d.frameIngress p ts256 bytes sec, m)
  | none => (d.frameIngress p ts256 bytes sec, m)

def execFrameIngress (dt p ts256 : Nat) (bytes : List Nat) (sec : Option SecTag) (s : State) :
    Host.Outcome State Fault Refusal :=
  s.onAll dt (p < 16) fun m d => d.frameAtMac m p ts256 bytes sec

end Sys2Proof.Machine
end

