-- ==== Sys2Proof/Machine/Tick.lean ====
section
/-! DEFINITION. The stage tick (spec/02, R36–R40, R44, R46, R51, R56, R63, R502) and what the other chapters do at it. -/

namespace Sys2Proof.Machine

open R

/-- Step 1 (R46, R51, R278, R322), with the tick's device time `t`: the snapshot is latched; edge counts and the channels'
stage means start anew. -/
def Dev.tickLatch (d : Dev) (t : Nat) : Dev :=
  let d : Dev := { d with stg := { d.stg with
    chanLatch := d.latchChans, lioLatch := d.latchLios t, latchFlags := d.snapFlags } }
  let d := d.each (List.range 32) (fun n d => d.modLio n fun l => { l with count := b2n (d.edgeAt n t) })
  d.each (List.range 40) (fun i d => d.stageMean i)

/-- The slots whose next fire instant is the tick instant, in ns of device time (R46 step 3, R99). -/
def Dev.dueSlots (d : Dev) (t : Nat) : List Nat :=
  (List.range 64).filter (fun n => (d.slot n).armed && (d.slot n).instant (d.slot n).next / 256 == t)

/-- The actions that the Heavia die holds of slots disarmed since, and whose fire instant is the tick instant (R97). -/
def Dev.duePassed (d : Dev) (t : Nat) : List (Nat × Slot) :=
  d.tta.passed.filter (fun x => x.2.instant x.2.next / 256 == t)

/-- Step 3: the timed actions due at the tick instant. -/
def Dev.tickSlots (d : Dev) (m : Mem) (t : Nat) : Dev × Mem :=
  let r := (d.duePassed t).foldl (fun r x => r.1.passedFire r.2 x.1 x.2) (d, m)
  (r.1.dueSlots t).foldl (fun r n => r.1.slotFire r.2 n) r

/-- Step 4 (R63): at the first tick every port takes the state of its list; later the flips with start 0 apply. -/
def Dev.tickGates (d : Dev) (first : Bool) : Dev :=
  if first then d.setGates (List.range 48) d.phase 0
  else
    d.each ((List.range 256).filter (fun n =>
        d.ttKind n == 4 && d.ttApplies n d.phase && d.fld (STG_TT_START_NS n) == 0)) (fun n d =>
      d.setGates (d.gatePorts n) d.phase 0)

/-- Step 5 (R36, R40): the stage number, the time of the tick, source 20; the next tick; STAGE_OUT. -/
def Dev.tickStage (d : Dev) (t tick : Nat) : Dev :=
  let d := (d.wrPair STG_TICK_LO STG_TICK_HI t).set STG_STS_RUNNING
  let d : Dev := { d with stg := { d.stg with
    lastTick := some tick, nextTick := tick + d.fld STG_PERIOD_NS_NS, stepped := 0, realigned := false,
    outHigh := d.on STG_OUT_CFG_EN } }
  d.raiseIf STG_INT_EN_TICK 20

/-- Step 6: the windows with start 0 (R47). -/
def Dev.tickWindows (d : Dev) : Dev :=
  d.each ((List.range 256).filter (fun n => d.fld (STG_TT_START_NS n) == 0)) (fun n d => d.windowStart n)

/-- The budgets of an endpoint queue reload (R174, R180). -/
def Dev.reloadBudget (q : Nat) (d : Dev) : Dev :=
  let o := qOwner q
  let n := qIdx q
  let b := d.fld (CQ_BUDGET_BYTES o n)
  if b = 0 then d
  else if d.qRole q = 3 then
    d.setBudget q (min (b : Int) (d.budgetLeft q + b))
  else (d.setBudget q b).clr (CQ_STS_BUDGET_HOLD o n)

/-- The fabric at a tick: budgets, the samplers' counts of the stage, RECOVERY_LEFT (R157), the ticks of the drain timeout
and the flip at the tick (R162, R164). -/
def Dev.tickFabric (d : Dev) : Dev :=
  let d := d.each (List.range 528) Dev.reloadBudget
  let d := if d.on FAB_MODE_RECOVERY ∧ d.fld FAB_MODE_RECOVERY_LEFT ≠ 0 then
      d.put FAB_MODE_RECOVERY_LEFT (d.fld FAB_MODE_RECOVERY_LEFT - 1) else d
  let draining := d.fld LKP_STS_DRAIN_BANK != 3
  let d : Dev := { d with fab := { d.fab with
    sent := [], flipEarly := false
    drainTicks := if draining ∧ !d.fab.flipEarly then d.fab.drainTicks + 1 else d.fab.drainTicks } }
  d.flipAtTick

/-- SIDING at a tick: the requests that waited for it, the ports that woke during PRE_SLEEP, and the COMMIT tick
(R240, R242–R244). -/
def Dev.tickSiding (d : Dev) : Dev :=
  let ready := d.fld SID_STS_STATE == 1 && d.sleepReady
  let d := d.sidAtTick
  let d := if d.fld SID_STS_STATE = 1 then
      d.each (List.range 36) (fun p d => if d.portUsed p then d.sleepAction p else d) else d
  if ready then d.commitStart else d

/-- The tick of a grid instant (R46), with its device time `t`; `ending`: it ends the commit window (R245). DEDUCED: where
R46 is silent, among its steps too, the order is the model's (assumption 26). -/
def Dev.tick (d : Dev) (m : Mem) : Dev × Mem :=
  let tick := d.stg.nextTick
  let t := ((tick : Int) + (d.ns : Int) - (d.domNs : Int)).toNat
  let ending := d.fld SID_STS_STATE == 2
  let first := d.stg.lastTick.isNone
  let d := d.flushStage.tickLatch t
  let d := d.applyDeferred.dsReleaseAll
  let x := d.tickSlots m t
  let d := x.1.wr STG_NUM (stageNum tick (d.fld STG_PERIOD_NS_NS))
  let d := (d.tickGates first).tickFabric
  let d := (d.tickStage t tick).tickSiding
  let d := d.selfTest
  let d := d.tallyD 0x88 1
  let d := if d.bwEntries then d else d.bwLatch
  if ending then d.entryStart x.2
  else (d.tickWindows.pwrmEval, x.2)

/-- A stage tick: once sealed (R38), at or after its grid instant, and not after the tick that ends the commit window, with
which the stage engine stops (R61, R245). -/
def execStageTick (dt : Nat) (s : State) : Host.Outcome State Fault Refusal :=
  s.onAll dt true fun m d =>
    if d.boot.phase = .sealed ∧ d.frm.beyvoUp ∧ d.fld SID_STS_STATE ≠ 3 ∧ d.stg.nextTick ≤ d.domNs then d.tick m else (d, m)

end Sys2Proof.Machine
end

