-- ==== Sys2Proof/Machine/Dispatch.lean ====
section
/-! DEFINITION. One arm per command: its one meaning. -/

namespace Sys2Proof.Machine

def exec (i : Instr) (s : State) : Host.Outcome State Fault Refusal :=
  match i with
  | .registerWrite dt a addr width v => Sys2Proof.Machine.execRegisterWrite dt a addr width v s
  | .coreMemoryAccess dt a kind addr width v => Sys2Proof.Machine.execCoreMemoryAccess dt a kind addr width v s
  | .latchingReadLo dt a addr => Sys2Proof.Machine.execLatchingReadLo dt a addr s
  | .stageTick dt => Sys2Proof.Machine.execStageTick dt s
  | .stageOutFall dt => Sys2Proof.Machine.execStageOutFall dt s
  | .windowStart dt n => Sys2Proof.Machine.execWindowStart dt n s
  | .windowEnd dt n => Sys2Proof.Machine.execWindowEnd dt n s
  | .stgDone dt a c v => Sys2Proof.Machine.execStgDone dt a c v s
  | .stgGdone dt a v => Sys2Proof.Machine.execStgGdone dt a v s
  | .snapshotDelivery dt crossed => Sys2Proof.Machine.execSnapshotDelivery dt crossed s
  | .gateListFlip dt n => Sys2Proof.Machine.execGateListFlip dt n s
  | .quietStart dt n => Sys2Proof.Machine.execQuietStart dt n s
  | .quietEnd dt n => Sys2Proof.Machine.execQuietEnd dt n s
  | .linScheduleSlot dt n => Sys2Proof.Machine.execLinScheduleSlot dt n s
  | .bandwidthLatchPoint dt n => Sys2Proof.Machine.execBandwidthLatchPoint dt n s
  | .syncReceived dt dom port diff256 src => Sys2Proof.Machine.execSyncReceived dt dom port diff256 src s
  | .syncReceiptTimeout dt dom => Sys2Proof.Machine.execSyncReceiptTimeout dt dom s
  | .announceReceived dt dom heard => Sys2Proof.Machine.execAnnounceReceived dt dom heard s
  | .pdelayExchange dt port delay => Sys2Proof.Machine.execPdelayExchange dt port delay s
  | .timeAccept dt a v => Sys2Proof.Machine.execTimeAccept dt a v s
  | .slotArm dt a n v => Sys2Proof.Machine.execSlotArm dt a n v s
  | .slotDisarm dt a n v => Sys2Proof.Machine.execSlotDisarm dt a n v s
  | .slotFire dt n => Sys2Proof.Machine.execSlotFire dt n s
  | .toutPulseEnd dt k => Sys2Proof.Machine.execToutPulseEnd dt k s
  | .tcapEdge dt k falling => Sys2Proof.Machine.execTcapEdge dt k falling s
  | .tcapPop dt a k => Sys2Proof.Machine.execTcapPop dt a k s
  | .logbookRecordWrite dt => Sys2Proof.Machine.execLogbookRecordWrite dt s
  | .droppedRecordsReport dt => Sys2Proof.Machine.execDroppedRecordsReport dt s
  | .logbSpostGo dt a page v => Sys2Proof.Machine.execLogbSpostGo dt a page v s
  | .logbRdCntWrite dt a v => Sys2Proof.Machine.execLogbRdCntWrite dt a v s
  | .alwaysOnWrite dt cut => Sys2Proof.Machine.execAlwaysOnWrite dt cut s
  | .alwaysOnFetch dt a v => Sys2Proof.Machine.execAlwaysOnFetch dt a v s
  | .alwaysOnFetchDone dt => Sys2Proof.Machine.execAlwaysOnFetchDone dt s
  | .aoClearWriteOnce dt a v => Sys2Proof.Machine.execAoClearWriteOnce dt a v s
  | .aoClearWholeLog dt a v => Sys2Proof.Machine.execAoClearWholeLog dt a v s
  | .frameIngress dt p ts256 bytes sec => Sys2Proof.Machine.execFrameIngress dt p ts256 bytes sec s
  | .frameLookup dt id => Sys2Proof.Machine.execFrameLookup dt id s
  | .frameTailCheck dt id trunc ce ue => Sys2Proof.Machine.execFrameTailCheck dt id trunc ce ue s
  | .egressFrameStart dt p => Sys2Proof.Machine.execEgressFrameStart dt p s
  | .egressCopyDone dt p => Sys2Proof.Machine.execEgressCopyDone dt p s
  | .cellArrival dt p src cls num idx last => Sys2Proof.Machine.execCellArrival dt p src cls num idx last s
  | .gapTimeout dt p src cls => Sys2Proof.Machine.execGapTimeout dt p src cls s
  | .planeFault dt ix kind => Sys2Proof.Machine.execPlaneFault dt ix kind s
  | .planeReadmit dt a v => Sys2Proof.Machine.execPlaneReadmit dt a v s
  | .planeSelfTestDone dt ix pass => Sys2Proof.Machine.execPlaneSelfTestDone dt ix pass s
  | .recoveryExpired dt => Sys2Proof.Machine.execRecoveryExpired dt s
  | .lkpFlipAtTick dt a v => Sys2Proof.Machine.execLkpFlipAtTick dt a v s
  | .lkpFlipImmediate dt a v => Sys2Proof.Machine.execLkpFlipImmediate dt a v s
  | .flipInstant dt => Sys2Proof.Machine.execFlipInstant dt s
  | .syncCopyDone dt => Sys2Proof.Machine.execSyncCopyDone dt s
  | .drainTimeout dt => Sys2Proof.Machine.execDrainTimeout dt s
  | .lkpFrerRst dt a v => Sys2Proof.Machine.execLkpFrerRst dt a v s
  | .frerResetTimeout dt ix => Sys2Proof.Machine.execFrerResetTimeout dt ix s
  | .streamGateChange dt g ix => Sys2Proof.Machine.execStreamGateChange dt g ix s
  | .cqDb dt a q v => Sys2Proof.Machine.execCqDb dt a q v s
  | .transmitDescriptorSend dt o => Sys2Proof.Machine.execTransmitDescriptorSend dt o s
  | .receiveDelivery dt id p => Sys2Proof.Machine.execReceiveDelivery dt id p s
  | .deliveryReceipt dt => Sys2Proof.Machine.execDeliveryReceipt dt s
  | .sampleDelivery dt dest => Sys2Proof.Machine.execSampleDelivery dt dest s
  | .outrPortNWrite dt a p k v => Sys2Proof.Machine.execOutrPortNWrite dt a p k v s
  | .towArm dt a v => Sys2Proof.Machine.execTowArm dt a v s
  | .towEnable dt a v => Sys2Proof.Machine.execTowEnable dt a v s
  | .towDisable dt a v => Sys2Proof.Machine.execTowDisable dt a v s
  | .towArmExpiry dt => Sys2Proof.Machine.execTowArmExpiry dt s
  | .linkUp dt p rate sqi master => Sys2Proof.Machine.execLinkUp dt p rate sqi master s
  | .linkDown dt p => Sys2Proof.Machine.execLinkDown dt p s
  | .trainingFailure dt p => Sys2Proof.Machine.execTrainingFailure dt p s
  | .crankLimitExit dt => Sys2Proof.Machine.execCrankLimitExit dt s
  | .linkRestart dt a p v => Sys2Proof.Machine.execLinkRestart dt a p v s
  | .cableTest dt a p v => Sys2Proof.Machine.execCableTest dt a p v s
  | .cableTestDone dt p cable dist => Sys2Proof.Machine.execCableTestDone dt p cable dist s
  | .canRecover dt a p v => Sys2Proof.Machine.execCanRecover dt a p v s
  | .busOffRecoveryDone dt p => Sys2Proof.Machine.execBusOffRecoveryDone dt p s
  | .plcaBeaconLoss dt p => Sys2Proof.Machine.execPlcaBeaconLoss dt p s
  | .msecTxsaSwitch dt a p v => Sys2Proof.Machine.execMsecTxsaSwitch dt a p v s
  | .canFrameReceived dt p ts256 car => Sys2Proof.Machine.execCanFrameReceived dt p ts256 car s
  | .canTxBufferLoad dt p => Sys2Proof.Machine.execCanTxBufferLoad dt p s
  | .canTxAttemptEnd dt p how => Sys2Proof.Machine.execCanTxAttemptEnd dt p how s
  | .transceiverFault dt p k => Sys2Proof.Machine.execTransceiverFault dt p k s
  | .linCarriageEgress dt p => Sys2Proof.Machine.execLinCarriageEgress dt p s
  | .linResponseReceived dt p how => Sys2Proof.Machine.execLinResponseReceived dt p how s
  | .linSchedSwitch dt a p v => Sys2Proof.Machine.execLinSchedSwitch dt a p v s
  | .linSchedRun dt a p v => Sys2Proof.Machine.execLinSchedRun dt a p v s
  | .portRequestActive dt a p v => Sys2Proof.Machine.execPortRequestActive dt a p v s
  | .portRequestIgnore dt a p v => Sys2Proof.Machine.execPortRequestIgnore dt a p v s
  | .portRequestAsleep dt a p v => Sys2Proof.Machine.execPortRequestAsleep dt a p v s
  | .portSleepAck dt p => Sys2Proof.Machine.execPortSleepAck dt p s
  | .entryComplete dt => Sys2Proof.Machine.execEntryComplete dt s
  | .preSleepTimeout dt => Sys2Proof.Machine.execPreSleepTimeout dt s
  | .wakeDetected dt src sig => Sys2Proof.Machine.execWakeDetected dt src sig s
  | .sleepExit dt bootsel meshOk => Sys2Proof.Machine.execSleepExit dt bootsel meshOk s
  | .sidConfirm dt a v => Sys2Proof.Machine.execSidConfirm dt a v s
  | .confirmationWindowEnd dt src => Sys2Proof.Machine.execConfirmationWindowEnd dt src s
  | .lockoutExpiry dt src => Sys2Proof.Machine.execLockoutExpiry dt src s
  | .transceiverFsTimeout dt p => Sys2Proof.Machine.execTransceiverFsTimeout dt p s
  | .channelCmdOff dt a ix v => Sys2Proof.Machine.execChannelCmdOff dt a ix v s
  | .channelCmdOn dt a ix v => Sys2Proof.Machine.execChannelCmdOn dt a ix v s
  | .channelCmdPwm dt a ix v => Sys2Proof.Machine.execChannelCmdPwm dt a ix v s
  | .channelCmdDuty dt a ix v => Sys2Proof.Machine.execChannelCmdDuty dt a ix v s
  | .channelCmdFwd dt a ix v => Sys2Proof.Machine.execChannelCmdFwd dt a ix v s
  | .channelCmdRev dt a ix v => Sys2Proof.Machine.execChannelCmdRev dt a ix v s
  | .cadencePeriodStart dt c edge => Sys2Proof.Machine.execCadencePeriodStart dt c edge s
  | .pwmOffEdge dt ix => Sys2Proof.Machine.execPwmOffEdge dt ix s
  | .qClr dt a ix => Sys2Proof.Machine.execQClr dt a ix s
  | .cntClr dt a ix => Sys2Proof.Machine.execCntClr dt a ix s
  | .senseReading dt ix cur volt voltOdd supply tj => Sys2Proof.Machine.execSenseReading dt ix cur volt voltOdd supply tj s
  | .reverseBlockEnd dt ix => Sys2Proof.Machine.execReverseBlockEnd dt ix s
  | .shortCircuitTrip dt ix seen => Sys2Proof.Machine.execShortCircuitTrip dt ix seen s
  | .modelUpdate dt => Sys2Proof.Machine.execModelUpdate dt s
  | .retryRestart dt ix => Sys2Proof.Machine.execRetryRestart dt ix s
  | .retryCountClear dt ix => Sys2Proof.Machine.execRetryCountClear dt ix s
  | .unlatch dt a ix => Sys2Proof.Machine.execUnlatch dt a ix s
  | .pullUpTest dt ix supplyLow => Sys2Proof.Machine.execPullUpTest dt ix supplyLow s
  | .pullUpTestEnd dt ix volt => Sys2Proof.Machine.execPullUpTestEnd dt ix volt s
  | .budgeterUpdate dt logic => Sys2Proof.Machine.execBudgeterUpdate dt logic s
  | .budgetRelease dt => Sys2Proof.Machine.execBudgetRelease dt s
  | .retainedStateWrite dt => Sys2Proof.Machine.execRetainedStateWrite dt s
  | .hlinkCrcError dt bad good again => Sys2Proof.Machine.execHlinkCrcError dt bad good again s
  | .hlinkUp dt lanes => Sys2Proof.Machine.execHlinkUp dt lanes s
  | .hlkCwWord dt a v => Sys2Proof.Machine.execHlkCwWord dt a v s
  | .watchdogWindowEnd dt => Sys2Proof.Machine.execWatchdogWindowEnd dt s
  | .hlkDsRelease dt a v => Sys2Proof.Machine.execHlkDsRelease dt a v s
  | .coastStart dt => Sys2Proof.Machine.execCoastStart dt s
  | .coastExpiry dt => Sys2Proof.Machine.execCoastExpiry dt s
  | .lioConversion dt n mv ua openSwitch => Sys2Proof.Machine.execLioConversion dt n mv ua openSwitch s
  | .lioEdge dt n uv held256 => Sys2Proof.Machine.execLioEdge dt n uv held256 s
  | .lioEdgePop dt a n => Sys2Proof.Machine.execLioEdgePop dt a n s
  | .lioFastSample dt n k => Sys2Proof.Machine.execLioFastSample dt n k s
  | .lioFastPop dt a n => Sys2Proof.Machine.execLioFastPop dt a n s
  | .manEditCmd dt a v => Sys2Proof.Machine.execManEditCmd dt a v s
  | .manEditDone dt => Sys2Proof.Machine.execManEditDone dt s
  | .gcall dt core imm => Sys2Proof.Machine.execGcall dt core imm s
  | .gret dt core => Sys2Proof.Machine.execGret dt core s
  | .guardTimeLimitExpiry dt core => Sys2Proof.Machine.execGuardTimeLimitExpiry dt core s
  | .remeasurementDone dt core => Sys2Proof.Machine.execRemeasurementDone dt core s
  | .manGinfoRead dt a core => Sys2Proof.Machine.execManGinfoRead dt a core s
  | .pwrmGuardQuiesced dt a v => Sys2Proof.Machine.execPwrmGuardQuiesced dt a v s
  | .guardQuiesceTimeout dt => Sys2Proof.Machine.execGuardQuiesceTimeout dt s
  | .interruptRaised dt src => Sys2Proof.Machine.execInterruptRaised dt src s
  | .irqClaim dt a core guardHalf => Sys2Proof.Machine.execIrqClaim dt a core guardHalf s
  | .irqEoi dt a core guardHalf v => Sys2Proof.Machine.execIrqEoi dt a core guardHalf v s
  | .boundaryMismatch dt pair kind addrDiff dataDiff attrDiff inGuard addr => Sys2Proof.Machine.execBoundaryMismatch dt pair kind addrDiff dataDiff attrDiff inGuard addr s
  | .foldCapture dt pair leader wheeler => Sys2Proof.Machine.execFoldCapture dt pair leader wheeler s
  | .foldCompare dt pair => Sys2Proof.Machine.execFoldCompare dt pair s
  | .tandemInfrastructureFault dt pair parity rail => Sys2Proof.Machine.execTandemInfrastructureFault dt pair parity rail s
  | .tanInjBoundary dt a v => Sys2Proof.Machine.execTanInjBoundary dt a v s
  | .tanInjFold dt a v => Sys2Proof.Machine.execTanInjFold dt a v s
  | .tanInjSelfTest dt a v => Sys2Proof.Machine.execTanInjSelfTest dt a v s
  | .sbxSubmit dt a v => Sys2Proof.Machine.execSbxSubmit dt a v s
  | .generate dt => Sys2Proof.Machine.execGenerate dt s
  | .derive dt => Sys2Proof.Machine.execDerive dt s
  | .unwrap dt => Sys2Proof.Machine.execUnwrap dt s
  | .wrap dt => Sys2Proof.Machine.execWrap dt s
  | .publicKey dt => Sys2Proof.Machine.execPublicKey dt s
  | .ecdh dt => Sys2Proof.Machine.execEcdh dt s
  | .kemEnc dt => Sys2Proof.Machine.execKemEnc dt s
  | .kemDec dt => Sys2Proof.Machine.execKemDec dt s
  | .verifyEcdsa dt => Sys2Proof.Machine.execVerifyEcdsa dt s
  | .verifyMldsa dt => Sys2Proof.Machine.execVerifyMldsa dt s
  | .verifyHybrid dt => Sys2Proof.Machine.execVerifyHybrid dt s
  | .random dt => Sys2Proof.Machine.execRandom dt s
  | .verifyStaged dt => Sys2Proof.Machine.execVerifyStaged dt s
  | .commit dt => Sys2Proof.Machine.execCommit dt s
  | .discard dt => Sys2Proof.Machine.execDiscard dt s
  | .invalidate dt => Sys2Proof.Machine.execInvalidate dt s
  | .erase dt => Sys2Proof.Machine.execErase dt s
  | .odoRead dt => Sys2Proof.Machine.execOdoRead dt s
  | .odoAdvance dt => Sys2Proof.Machine.execOdoAdvance dt s
  | .debugCert dt => Sys2Proof.Machine.execDebugCert dt s
  | .tamperAlarm dt sources => Sys2Proof.Machine.execTamperAlarm dt sources s
  | .trngHealthFailure dt => Sys2Proof.Machine.execTrngHealthFailure dt s
  | .drbgReseedRetry dt ok => Sys2Proof.Machine.execDrbgReseedRetry dt ok s
  | .sbxDrbgRead dt a => Sys2Proof.Machine.execSbxDrbgRead dt a s
  | .ceSubmit dt a lane v => Sys2Proof.Machine.execCeSubmit dt a lane v s
  | .encrypt dt lane => Sys2Proof.Machine.execEncrypt dt lane s
  | .decrypt dt lane => Sys2Proof.Machine.execDecrypt dt lane s
  | .macGen dt lane => Sys2Proof.Machine.execMacGen dt lane s
  | .macVerify dt lane => Sys2Proof.Machine.execMacVerify dt lane s
  | .hashMsg dt lane => Sys2Proof.Machine.execHashMsg dt lane s
  | .msecInstall dt lane => Sys2Proof.Machine.execMsecInstall dt lane s
  | .msecRemove dt lane => Sys2Proof.Machine.execMsecRemove dt lane s
  | .chunkDeliveryRetry dt lane => Sys2Proof.Machine.execChunkDeliveryRetry dt lane s
  | .outputStallTimeout dt lane => Sys2Proof.Machine.execOutputStallTimeout dt lane s
  | .provisionalRevoke dt lane => Sys2Proof.Machine.execProvisionalRevoke dt lane s
  | .nonceBlockReserved dt lane => Sys2Proof.Machine.execNonceBlockReserved dt lane s
  | .ceKeyload dt a v => Sys2Proof.Machine.execCeKeyload dt a v s
  | .ceKeyloadClr dt a v => Sys2Proof.Machine.execCeKeyloadClr dt a v s
  | .laneFault dt lane => Sys2Proof.Machine.execLaneFault dt lane s
  | .ceLaneReadmit dt a v => Sys2Proof.Machine.execCeLaneReadmit dt a v s
  | .laneSelfTestDone dt lane pass => Sys2Proof.Machine.execLaneSelfTestDone dt lane pass s
  | .powerOnReset dt bootsel => Sys2Proof.Machine.execPowerOnReset dt bootsel s
  | .deviceReset dt bootsel meshOk => Sys2Proof.Machine.execDeviceReset dt bootsel meshOk s
  | .beyvoReset dt bootsel => Sys2Proof.Machine.execBeyvoReset dt bootsel s
  | .resetNLow dt us => Sys2Proof.Machine.execResetNLow dt us s
  | .bootSequence dt pufOk unread imageOk sleepOk odo => Sys2Proof.Machine.execBootSequence dt pufOk unread imageOk sleepOk odo s
  | .seal dt failed => Sys2Proof.Machine.execSeal dt failed s
  | .bootTimerExpiry dt => Sys2Proof.Machine.execBootTimerExpiry dt s
  | .certificateWaitTimeout dt => Sys2Proof.Machine.execCertificateWaitTimeout dt s
  | .coachStart dt c => Sys2Proof.Machine.execCoachStart dt c s
  | .coachStartTimeout dt c => Sys2Proof.Machine.execCoachStartTimeout dt c s
  | .guardGo dt a v => Sys2Proof.Machine.execGuardGo dt a v s
  | .sysRollbackCmt dt a v => Sys2Proof.Machine.execSysRollbackCmt dt a v s
  | .flashErase dt a v => Sys2Proof.Machine.execFlashErase dt a v s
  | .flashProgram dt a v => Sys2Proof.Machine.execFlashProgram dt a v s
  | .flashCommandDone dt ok => Sys2Proof.Machine.execFlashCommandDone dt ok s
  | .hello dt => Sys2Proof.Machine.execHello dt s
  | .data dt tool offset data => Sys2Proof.Machine.execData dt tool offset data s
  | .cert dt offset data => Sys2Proof.Machine.execCert dt offset data s
  | .certLoad dt cert => Sys2Proof.Machine.execCertLoad dt cert s
  | .certSts dt => Sys2Proof.Machine.execCertSts dt s
  | .debugRead dt port core addr => Sys2Proof.Machine.execDebugRead dt port core addr s
  | .debugWrite dt port core addr v => Sys2Proof.Machine.execDebugWrite dt port core addr v s
  | .debugHalt dt port core addr => Sys2Proof.Machine.execDebugHalt dt port core addr s
  | .debugResume dt port core addr => Sys2Proof.Machine.execDebugResume dt port core addr s
  | .debugStep dt port core addr => Sys2Proof.Machine.execDebugStep dt port core addr s
  | .pwrmSleepReq dt a o v => Sys2Proof.Machine.execPwrmSleepReq dt a o v s
  | .pwrmTolUs dt a o v => Sys2Proof.Machine.execPwrmTolUs dt a o v s
  | .coreWait dt core => Sys2Proof.Machine.execCoreWait dt core s
  | .coreRetentionWake dt core => Sys2Proof.Machine.execCoreRetentionWake dt core s
  | .wakeTimerExpiry dt => Sys2Proof.Machine.execWakeTimerExpiry dt s
  | .supplyRangeChange dt range low bootsel meshOk => Sys2Proof.Machine.execSupplyRangeChange dt range low bootsel meshOk s
  | .refclkSelected dt ppm => Sys2Proof.Machine.execRefclkSelected dt ppm s
  | .refclkLost dt edges ppm => Sys2Proof.Machine.execRefclkLost dt edges ppm s
  | .pllUnlock dt pll => Sys2Proof.Machine.execPllUnlock dt pll s
  | .clkGateWrite dt a u v => Sys2Proof.Machine.execClkGateWrite dt a u v s
  | .pwrmPgateWrite dt a u v => Sys2Proof.Machine.execPwrmPgateWrite dt a u v s
  | .gateInEffect dt u j => Sys2Proof.Machine.execGateInEffect dt u j s
  | .frmAck dt a v => Sys2Proof.Machine.execFrmAck dt a v s
  | .frmSafeCtl dt a v => Sys2Proof.Machine.execFrmSafeCtl dt a v s
  | .frmSwfault dt a page v => Sys2Proof.Machine.execFrmSwfault dt a page v s
  | .frmResetDevice dt a v => Sys2Proof.Machine.execFrmResetDevice dt a v s
  | .frmResetBeyvo dt a v => Sys2Proof.Machine.execFrmResetBeyvo dt a v s
  | .coachReset dt c => Sys2Proof.Machine.execCoachReset dt c s
  | .caResetReq dt a c v => Sys2Proof.Machine.execCaResetReq dt a c v s
  | .frmCoachReset dt a c v => Sys2Proof.Machine.execFrmCoachReset dt a c v s
  | .frmCoachRestart dt a c v => Sys2Proof.Machine.execFrmCoachRestart dt a c v s
  | .frmCoachDsRel dt a c v => Sys2Proof.Machine.execFrmCoachDsRel dt a c v s
  | .frmCtlLock dt a v => Sys2Proof.Machine.execFrmCtlLock dt a v s
  | .blockResetCanLin dt a v => Sys2Proof.Machine.execBlockResetCanLin dt a v s
  | .blockResetTally dt a v => Sys2Proof.Machine.execBlockResetTally dt a v s
  | .blockResetOutr dt a v => Sys2Proof.Machine.execBlockResetOutr dt a v s
  | .blockResetLio dt a v => Sys2Proof.Machine.execBlockResetLio dt a v s
  | .tallyCounterWrite dt a addr v => Sys2Proof.Machine.execTallyCounterWrite dt a addr v s
  | .preciseSample dt core count addr opcode latency => Sys2Proof.Machine.execPreciseSample dt core count addr opcode latency s
  | .smpCfgWrite dt a core v => Sys2Proof.Machine.execSmpCfgWrite dt a core v s
  | .smpRdWrite dt a core v => Sys2Proof.Machine.execSmpRdWrite dt a core v s
  | .plcaBeaconReturn dt p => Sys2Proof.Machine.execPlcaBeaconReturn dt p s
  | .canReceiveError dt p lec by8 => Sys2Proof.Machine.execCanReceiveError dt p lec by8 s
  | .linHeaderReceived dt p ts256 syncOk pid => Sys2Proof.Machine.execLinHeaderReceived dt p ts256 syncOk pid s
  | .vbatP3Reverse dt below => Sys2Proof.Machine.execVbatP3Reverse dt below s
  | .holdoverAvailReached dt => Sys2Proof.Machine.execHoldoverAvailReached dt s

end Sys2Proof.Machine
end

