-- ==== Sys2Proof/WellFormed.lean ====
section
/-! DEFINITION. Well-formed commands: those whose operands name a port, channel, coach, core, slot, table entry or
access width that the device has. A command that is not well formed has no meaning (`Fault.noSuchResource`). -/

namespace Sys2Proof

open Sys2Proof.Machine

/-- The operands of a command name resources of the device (R30 and the index ranges of the register tables). -/
def Instr.wf : Instr → Bool
  | .registerWrite _ _ _ width _ => widthOk width
  | .coreMemoryAccess _ _ _ _ width _ => widthOk width
  | .latchingReadLo _ _ _ => true
  | .stageTick _ => true
  | .stageOutFall _ => true
  | .windowStart _ n => n < 256
  | .windowEnd _ n => n < 256
  | .stgDone _ _ c _ => c < 8
  | .stgGdone _ _ _ => true
  | .snapshotDelivery _ _ => true
  | .gateListFlip _ n => n < 256
  | .quietStart _ n => n < 256
  | .quietEnd _ n => n < 256
  | .linScheduleSlot _ n => n < 256
  | .bandwidthLatchPoint _ n => n < 256
  | .syncReceived _ dom port _ _ => dom < 4 && port < 16
  | .syncReceiptTimeout _ dom => dom < 4
  | .announceReceived _ dom heard => dom < 4 && heard.port < 16
  | .pdelayExchange _ port _ => port < 14
  | .timeAccept _ _ _ => true
  | .slotArm _ _ n _ => n < 64
  | .slotDisarm _ _ n _ => n < 64
  | .slotFire _ n => n < 64
  | .toutPulseEnd _ k => k < 8
  | .tcapEdge _ k _ => k < 8
  | .tcapPop _ _ k => k < 8
  | .logbookRecordWrite _ => true
  | .droppedRecordsReport _ => true
  | .logbSpostGo _ _ page _ => page ≤ 8
  | .logbRdCntWrite _ _ _ => true
  | .alwaysOnWrite _ _ => true
  | .alwaysOnFetch _ _ _ => true
  | .alwaysOnFetchDone _ => true
  | .aoClearWriteOnce _ _ _ => true
  | .aoClearWholeLog _ _ _ => true
  | .frameIngress _ p _ _ _ => p < 16
  | .frameLookup _ _ => true
  | .frameTailCheck _ _ _ _ _ => true
  | .egressFrameStart _ p => p < 16 || (45 ≤ p && p < 48)
  | .egressCopyDone _ p => p < 16 || (45 ≤ p && p < 48)
  | .cellArrival _ p src cls num _ _ => p < 48 && src < 52 && cls < 8 && num < 4096
  | .gapTimeout _ p src cls => p < 48 && src < 52 && cls < 8
  | .planeFault _ i _ => i < 2
  | .planeReadmit _ _ _ => true
  | .planeSelfTestDone _ i _ => i < 2
  | .recoveryExpired _ => true
  | .lkpFlipAtTick _ _ _ => true
  | .lkpFlipImmediate _ _ _ => true
  | .flipInstant _ => true
  | .syncCopyDone _ => true
  | .drainTimeout _ => true
  | .lkpFrerRst _ _ _ => true
  | .frerResetTimeout _ i => i < 256
  | .streamGateChange _ g i => g < 64 && i < 8
  | .cqDb _ _ q _ => qOk q
  | .transmitDescriptorSend _ o => o < 9
  | .receiveDelivery _ _ p => 36 ≤ p && p < 45
  | .deliveryReceipt _ => true
  | .sampleDelivery _ dest => dest < 4
  | .outrPortNWrite _ _ p k _ => p < 44 && k < 8
  | .towArm _ _ _ => true
  | .towEnable _ _ _ => true
  | .towDisable _ _ _ => true
  | .towArmExpiry _ => true
  | .linkUp _ p _ _ _ => p < 36
  | .linkDown _ p => p < 36
  | .trainingFailure _ p => p < 2
  | .crankLimitExit _ => true
  | .linkRestart _ _ p _ => p < 36
  | .cableTest _ _ p _ => p < 36
  | .cableTestDone _ p _ _ => p < 16
  | .canRecover _ _ p _ => p < 36
  | .busOffRecoveryDone _ p => 16 ≤ p && p < 28
  | .plcaBeaconLoss _ p => p == 14 || p == 15
  | .msecTxsaSwitch _ _ p _ => p < 6
  | .canFrameReceived _ p _ _ => 16 ≤ p && p < 28
  | .canTxBufferLoad _ p => 16 ≤ p && p < 28
  | .canTxAttemptEnd _ p _ => 16 ≤ p && p < 28
  | .transceiverFault _ p k => 16 ≤ p && p < 36 && k < 4
  | .linCarriageEgress _ p => 28 ≤ p && p < 36
  | .linResponseReceived _ p _ => 28 ≤ p && p < 36
  | .linSchedSwitch _ _ p _ => 28 ≤ p && p < 36
  | .linSchedRun _ _ p _ => 28 ≤ p && p < 36
  | .portRequestActive _ _ p _ => p < 36
  | .portRequestIgnore _ _ p _ => p < 36
  | .portRequestAsleep _ _ p _ => p < 36
  | .portSleepAck _ p => p < 36
  | .entryComplete _ => true
  | .preSleepTimeout _ => true
  | .wakeDetected _ src _ => src < 44
  | .sleepExit _ bootsel _ => bootsel < 4
  | .sidConfirm _ _ _ => true
  | .confirmationWindowEnd _ src => src < 36
  | .lockoutExpiry _ src => src < 36
  | .transceiverFsTimeout _ p => 16 ≤ p && p < 36
  | .channelCmdOff _ _ i _ => i < 40
  | .channelCmdOn _ _ i _ => i < 40
  | .channelCmdPwm _ _ i _ => i < 40
  | .channelCmdDuty _ _ i _ => i < 40
  | .channelCmdFwd _ _ i _ => i < 40
  | .channelCmdRev _ _ i _ => i < 40
  | .cadencePeriodStart _ c edge => c < 8 && edge.getD 0 < 40
  | .pwmOffEdge _ i => i < 40
  | .qClr _ _ i => i < 40
  | .cntClr _ _ i => i < 40
  | .senseReading _ i _ _ _ _ _ => i < 40
  | .reverseBlockEnd _ i => i < 40
  | .shortCircuitTrip _ i _ => i < 40
  | .modelUpdate _ => true
  | .retryRestart _ i => i < 40
  | .retryCountClear _ i => i < 40
  | .unlatch _ _ i => i < 40
  | .pullUpTest _ i _ => i < 40
  | .pullUpTestEnd _ i _ => i < 40
  | .budgeterUpdate _ _ => true
  | .budgetRelease _ => true
  | .retainedStateWrite _ => true
  | .hlinkCrcError _ _ _ _ => true
  | .hlinkUp _ _ => true
  | .hlkCwWord _ _ _ => true
  | .watchdogWindowEnd _ => true
  | .hlkDsRelease _ _ _ => true
  | .coastStart _ => true
  | .coastExpiry _ => true
  | .lioConversion _ n _ _ _ => n < 32
  | .lioEdge _ n _ _ => n < 32
  | .lioEdgePop _ _ n => n < 32
  | .lioFastSample _ n _ => n < 32
  | .lioFastPop _ _ n => n < 32
  | .manEditCmd _ _ _ => true
  | .manEditDone _ => true
  | .gcall _ core _ => core < 12
  | .gret _ core => core < 12
  | .guardTimeLimitExpiry _ core => core < 12
  | .remeasurementDone _ core => core < 12
  | .manGinfoRead _ _ core => core < 12
  | .pwrmGuardQuiesced _ _ _ => true
  | .guardQuiesceTimeout _ => true
  | .interruptRaised _ src => src < 376
  | .irqClaim _ _ core _ => core < 12
  | .irqEoi _ _ core _ _ => core < 12
  | .boundaryMismatch _ pair kind _ _ _ _ _ => pair < 4 && kind < 3
  | .foldCapture _ pair _ _ => pair < 4
  | .foldCompare _ pair => pair < 4
  | .tandemInfrastructureFault _ pair _ _ => pair < 4
  | .tanInjBoundary _ _ _ => true
  | .tanInjFold _ _ _ => true
  | .tanInjSelfTest _ _ _ => true
  | .sbxSubmit _ _ _ => true
  | .generate _ => true
  | .derive _ => true
  | .unwrap _ => true
  | .wrap _ => true
  | .publicKey _ => true
  | .ecdh _ => true
  | .kemEnc _ => true
  | .kemDec _ => true
  | .verifyEcdsa _ => true
  | .verifyMldsa _ => true
  | .verifyHybrid _ => true
  | .random _ => true
  | .verifyStaged _ => true
  | .commit _ => true
  | .discard _ => true
  | .invalidate _ => true
  | .erase _ => true
  | .odoRead _ => true
  | .odoAdvance _ => true
  | .debugCert _ => true
  | .tamperAlarm _ _ => true
  | .trngHealthFailure _ => true
  | .drbgReseedRetry _ _ => true
  | .sbxDrbgRead _ _ => true
  | .ceSubmit _ _ lane _ => lane < 4
  | .encrypt _ lane => lane < 4
  | .decrypt _ lane => lane < 4
  | .macGen _ lane => lane < 4
  | .macVerify _ lane => lane < 4
  | .hashMsg _ lane => lane < 4
  | .msecInstall _ lane => lane < 4
  | .msecRemove _ lane => lane < 4
  | .chunkDeliveryRetry _ lane => lane < 4
  | .outputStallTimeout _ lane => lane < 4
  | .provisionalRevoke _ lane => lane < 4
  | .nonceBlockReserved _ lane => lane < 4
  | .ceKeyload _ _ _ => true
  | .ceKeyloadClr _ _ _ => true
  | .laneFault _ lane => lane < 4
  | .ceLaneReadmit _ _ _ => true
  | .laneSelfTestDone _ lane _ => lane < 4
  | .powerOnReset _ bootsel => bootsel < 4
  | .deviceReset _ bootsel _ => bootsel < 4
  | .beyvoReset _ bootsel => bootsel < 4
  | .resetNLow _ _ => true
  | .bootSequence _ _ _ _ _ odo => odo.all (fun x => x.1 < 16)
  | .seal _ _ => true
  | .bootTimerExpiry _ => true
  | .certificateWaitTimeout _ => true
  | .coachStart _ c => c < 8
  | .coachStartTimeout _ c => c < 8
  | .guardGo _ _ _ => true
  | .sysRollbackCmt _ _ _ => true
  | .flashErase _ _ _ => true
  | .flashProgram _ _ _ => true
  | .flashCommandDone _ _ => true
  | .hello _ => true
  | .data _ _ _ _ => true
  | .cert _ _ _ => true
  | .certLoad _ _ => true
  | .certSts _ => true
  | .debugRead _ _ core addr => core < 12 && addr < 2 ^ 64
  | .debugWrite _ _ core addr _ => core < 12 && addr < 2 ^ 64
  | .debugHalt _ _ core addr => core < 12 && addr < 2 ^ 64
  | .debugResume _ _ core addr => core < 12 && addr < 2 ^ 64
  | .debugStep _ _ core addr => core < 12 && addr < 2 ^ 64
  | .pwrmSleepReq _ _ o _ => o < 9
  | .pwrmTolUs _ _ o _ => o < 9
  | .coreWait _ core => core < 12
  | .coreRetentionWake _ core => core < 12
  | .wakeTimerExpiry _ => true
  | .supplyRangeChange _ range _ bootsel _ => range < 5 && bootsel < 4
  | .refclkSelected _ _ => true
  | .refclkLost _ _ _ => true
  | .pllUnlock _ _ => true
  | .clkGateWrite _ _ u _ => 1 ≤ u && u ≤ 6
  | .pwrmPgateWrite _ _ u _ => 1 ≤ u && u ≤ 6
  | .gateInEffect _ u j => 1 ≤ u && u ≤ 6 && j < 4
  | .frmAck _ _ _ => true
  | .frmSafeCtl _ _ _ => true
  | .frmSwfault _ _ page _ => page < 9
  | .frmResetDevice _ _ _ => true
  | .frmResetBeyvo _ _ _ => true
  | .coachReset _ c => c < 8
  | .caResetReq _ _ c _ => c < 8
  | .frmCoachReset _ _ c _ => c < 8
  | .frmCoachRestart _ _ c _ => c < 8
  | .frmCoachDsRel _ _ c _ => c < 8
  | .frmCtlLock _ _ _ => true
  | .blockResetCanLin _ _ _ => true
  | .blockResetTally _ _ _ => true
  | .blockResetOutr _ _ _ => true
  | .blockResetLio _ _ _ => true
  | .tallyCounterWrite _ _ addr _ => (counterHalf addr).isSome
  | .preciseSample _ core _ _ _ _ => core < 12
  | .smpCfgWrite _ _ core _ => core < 12
  | .smpRdWrite _ _ core _ => core < 12
  | .plcaBeaconReturn _ p => p == 14 || p == 15
  | .canReceiveError _ p lec _ => 16 ≤ p && p < 28 && lec < 7
  | .linHeaderReceived _ p _ _ _ => 28 ≤ p && p < 36
  | .vbatP3Reverse _ _ => true
  | .holdoverAvailReached _ => true

end Sys2Proof
end

