-- ==== Sys2Proof/Safety.lean ====
section
/-! DEFINITION. The terms in which statements about the block are made: the device as a command finds it, a command that
completes, an access that the checks let through, and the states whose memory is in canonical form. -/

namespace Sys2Proof.Machine

/-- The device when a command takes effect: `dt` ns after the command before it. -/
abbrev State.now (s : State) (dt : Nat) : Dev := s.dev.pass dt

/-- The command runs and answers a next state of which `P` holds. -/
def Completes (i : Instr) (s : State) (P : State → Prop) : Prop := ∃ t, exec i s = .next t ∧ P t

/-- The checks of R333–R335 and of the block let the write through. -/
abbrev Dev.mayWrite (d : Dev) (m : Mem) (a : Acc) (addr : Nat) : Prop := checkAccess m d a .write addr = .pass

/-- The checks of R333–R335 and of the block let the read through. -/
abbrev Dev.mayRead (d : Dev) (m : Mem) (a : Acc) (addr : Nat) : Prop := checkAccess m d a .read addr = .pass

/-- The state with another device state: memory and the waiting commands as they were. -/
abbrev State.becomes (s : State) (d : Dev) : State := { s with dev := d }

/-- The state with another device state and other memory: the waiting commands as they were. -/
abbrev State.becomesM (s : State) (d : Dev) (m : Mem) : State := { s with dev := d, mem := m }

/-- A register that no record, interrupt or counted event changes: none of FRM_STS, IRQ_PENDw, LOGB_DROP_CNT, LOGB_STS
and the TALLY window. -/
abbrev calm (a : Nat) : Prop :=
  a / 65536 ≠ 0x4007 ∧ a ≠ 0x40010008 ∧ ¬(0x40050840 ≤ a ∧ a < 0x40050880) ∧ a ≠ 0x40080010 ∧ a ≠ 0x40080014

/-- A register that no fault changes either: none of FRM_CNT0–3 and FRM_CFAULTc. -/
abbrev quiet (a : Nat) : Prop :=
  calm a ∧ ¬(0x40010024 ≤ a ∧ a < 0x40010034) ∧ ¬(0x40018004 ≤ a ∧ a < 0x40020004 ∧ a % 0x1000 = 4)

/-- Memory and the waiting commands are the same. -/
def State.sameMem (s t : State) : Prop := t.mem = s.mem ∧ t.pending = s.pending

/-- Memory is in canonical form: addresses strictly rising, and no byte listed at the value that it reads as unlisted. -/
def State.canonical (s : State) : Prop := Mem.wf s.mem = true

/-- The commands that can store to memory: accesses of cores and of the debugger, the engines that write records,
snapshots, frames (those of a tool among them), time-stamped slots, descriptors and results, flash commands, and the resets that clear memory. -/
def mayStore : Instr → Bool
  | .registerWrite _ _ _ _ _ | .coreMemoryAccess _ _ _ _ _ _ | .latchingReadLo _ _ _ | .stageTick _ |
    .snapshotDelivery _ _ | .syncReceived _ _ _ _ _ | .timeAccept _ _ _ | .slotArm _ _ _ _ | .slotDisarm _ _ _ _ |
    .slotFire _ _ | .logbookRecordWrite _ | .frameIngress _ _ _ _ _ | .frameTailCheck _ _ _ _ _ | .transmitDescriptorSend _ _ |
    .receiveDelivery _ _ _ | .deliveryReceipt _ | .sampleDelivery _ _ | .entryComplete _ | .sleepExit _ _ _ |
    .manEditDone _ | .generate _ | .derive _ | .unwrap _ | .wrap _ | .publicKey _ | .ecdh _ | .kemEnc _ | .kemDec _ |
    .verifyEcdsa _ | .verifyMldsa _ | .verifyHybrid _ | .random _ | .verifyStaged _ | .commit _ | .discard _ |
    .invalidate _ | .erase _ | .odoRead _ | .odoAdvance _ | .debugCert _ | .tamperAlarm _ _ | .encrypt _ _ |
    .decrypt _ _ | .macGen _ _ | .macVerify _ _ | .hashMsg _ _ | .msecInstall _ _ | .msecRemove _ _ |
    .chunkDeliveryRetry _ _ | .outputStallTimeout _ _ | .provisionalRevoke _ _ | .nonceBlockReserved _ _ |
    .laneFault _ _ | .powerOnReset _ _ | .deviceReset _ _ _ | .beyvoReset _ _ | .bootSequence _ _ _ _ _ _ |
    .flashCommandDone _ _ | .data _ _ _ _ | .debugRead _ _ _ _ | .debugWrite _ _ _ _ _ | .supplyRangeChange _ _ _ _ _ |
    .coachReset _ _ | .blockResetCanLin _ _ _ | .blockResetTally _ _ _ | .blockResetOutr _ _ _ |
    .blockResetLio _ _ _ | .preciseSample _ _ _ _ _ _ => true
  | _ => false

end Sys2Proof.Machine
end

