-- ==== Sys2Proof/Certificates/Slice0/Obligations.lean ====
section
/-! DEFINITION. The statements about the block. -/

open Sys2Proof Sys2Proof.Machine Sys2Proof.Machine.R

/-- A step of a state with a command at the front of its queue is exec of that command on the state with the rest of the queue (spec/opcode_table.json). -/
def Obligations.FrontCommandRunsAsExec : Prop :=
  ∀ (c : Instr) (s : State), step { s with pending := c :: s.pending } = exec c s

/-- With no command waiting the block idles: the step answers the same state (the model's choice, log entry 2) (spec/opcode_table.json). -/
def Obligations.EmptyQueueIdles : Prop :=
  ∀ s : State, s.pending = [] → step s = .next s

/-- A command answers a next state exactly when its operands name resources the device has; otherwise it stops (the model's choice, logs 1 and 17) (spec/01_module.md: R30, spec/23_address_map.md). -/
def Obligations.WellFormedCommandsAlwaysRun : Prop :=
  ∀ (i : Instr) (s : State), (i.wf = true → ∃ t, exec i s = .next t) ∧
    (i.wf = false → exec i s = .fault .noSuchResource)

/-- No command touches the queue of waiting commands (spec/opcode_table.json). -/
def Obligations.ExecKeepsWaitingCommands : Prop :=
  ∀ (i : Instr) (s t : State), exec i s = .next t → t.pending = s.pending

/-- Every step keeps memory in canonical form: addresses strictly rising, no byte listed at the value it reads as unlisted (spec/23_address_map.md: R493). -/
def Obligations.MemoryCanonicalKeptByEveryStep : Prop :=
  ∀ s t : State, s.canonical → step s = .next t → t.canonical

/-- Memory is in canonical form at reset, lists nothing, and no command waits (spec/23_address_map.md: R493). -/
def Obligations.ResetMemoryCanonical : Prop :=
  State.reset.canonical ∧ State.reset.mem = [] ∧ State.reset.pending = []

/-- A window that starts opens or is skipped; an in-time or late DONE takes it off; one that ends without DONE is an overrun (spec/02_stage_and_timetable.md: R47, R48, R49, R50). -/
def Obligations.WindowsOpenAndCloseByTheirTimetable : Prop :=
  (∀ (s : State) (dt n tick : Nat), let d := s.now dt
    let o := d.fld (STG_TT_CTL_OWNER n)
    let core := d.fld (STG_TT_CTL_CORE n)
    let w : Win := { entry := n, owner := o, core := core, endAt := tick + d.fld (STG_TT_START_NS n) + d.fld (STG_TT_LEN_NS n), isOpen := true, awaits := true }
    let e : Dev := { d with stg := { d.stg with wins := w :: d.stg.wins } }
    n < 256 → d.fld (STG_TT_START_NS n) ≠ 0 → d.stg.lastTick = some tick → tick + d.fld (STG_TT_START_NS n) ≤ d.domNs → d.ttKind n = 1 ∨ d.ttKind n = 2 → d.ttApplies n d.phase = true → d.skipped o = false → 
    exec (.windowStart dt n) s = .next (s.becomes (((((((e.put ⟨winSts o, 15, 8⟩ n).clr ⟨winSts o, 4, 4⟩).clr ⟨winSts o, 2, 2⟩).clr ⟨winSts o, 1, 1⟩).updInWindow o).dispatch core (d.ttKind n == 2))))) ∧
  (∀ (s : State) (dt n tick : Nat), let d := s.now dt
    let o := d.fld (STG_TT_CTL_OWNER n)
    n < 256 → d.fld (STG_TT_START_NS n) ≠ 0 → d.stg.lastTick = some tick → tick + d.fld (STG_TT_START_NS n) ≤ d.domNs → d.ttKind n = 1 ∨ d.ttKind n = 2 → d.ttApplies n d.phase = true → d.skipped o = true → 
    exec (.windowStart dt n) s = .next (s.becomes (((d.put ⟨winSts o, 15, 8⟩ n).set ⟨winSts o, 4, 4⟩).clr ⟨winSts o, 1, 1⟩))) ∧
  (∀ (s : State) (dt c v : Nat) (a : Sys2Proof.Acc) (w : Win) (newer rest : List Win), let d := s.now dt
    let e := ({ d with stg := { d.stg with wins := (newer ++ ({ w with awaits := false } : Win) :: rest).filter (fun x => x.isOpen || x.awaits) } } : Dev)
    c < 8 → d.mayWrite s.mem a (STG_DONE c) → bit 0 v = true → d.stg.wins = newer ++ w :: rest → (∀ x ∈ newer, x.owner = c → x.awaits = false) → w.owner = c → w.awaits = true → (∀ x ∈ d.stg.wins, x.owner = c → x.isOpen = true → d.domNs ≤ x.endAt) → 
    exec (.stgDone dt a c v) s = .next (s.becomes (if w.isOpen then (if e.fld (STG_CSTS_WINDOW c) = w.entry then e.set (STG_CSTS_DONE c) else e) else (e.set (STG_CSTS_LATE_DONE c)).post 0x21 0x0002 0 c w.entry))) ∧
  (∀ (s : State) (dt v : Nat) (a : Sys2Proof.Acc) (w : Win) (newer rest : List Win), let d := s.now dt
    let e := ({ d with stg := { d.stg with wins := (newer ++ ({ w with awaits := false } : Win) :: rest).filter (fun x => x.isOpen || x.awaits) } } : Dev)
    d.mayWrite s.mem a STG_GDONE → bit 0 v = true → d.stg.wins = newer ++ w :: rest → (∀ x ∈ newer, x.owner = 8 → x.awaits = false) → w.owner = 8 → w.awaits = true → (∀ x ∈ d.stg.wins, x.owner = 8 → x.isOpen = true → d.domNs ≤ x.endAt) → 
    exec (.stgGdone dt a v) s = .next (s.becomes (if w.isOpen then (if e.fld (STG_GSTS_WINDOW) = w.entry then e.set (STG_GSTS_DONE) else e) else (e.set (STG_GSTS_LATE_DONE)).post 0x21 0x0002 0 8 w.entry))) ∧
  (∀ (s : State) (dt c v : Nat) (a : Sys2Proof.Acc), let d := s.now dt
    c < 8 → d.mayWrite s.mem a (STG_DONE c) → bit 0 v = true → (∀ x ∈ d.stg.wins, x.owner = c → x.awaits = false) → (∀ x ∈ d.stg.wins, x.owner = c → x.isOpen = true → d.domNs ≤ x.endAt) → 
    exec (.stgDone dt a c v) s = .next (s.becomes (if d.stg.wins.any (fun x => x.owner == c && x.isOpen) then d else d.post 0x21 0x0008 0 c c))) ∧
  (∀ (s : State) (dt v : Nat) (a : Sys2Proof.Acc), let d := s.now dt
    d.mayWrite s.mem a STG_GDONE → bit 0 v = true → (∀ x ∈ d.stg.wins, x.owner = 8 → x.awaits = false) → (∀ x ∈ d.stg.wins, x.owner = 8 → x.isOpen = true → d.domNs ≤ x.endAt) → 
    exec (.stgGdone dt a v) s = .next (s.becomes (if d.stg.wins.any (fun x => x.owner == 8 && x.isOpen) then d else d.post 0x21 0x0008 0 8 8))) ∧
  (∀ (s : State) (dt n : Nat) (w : Win) (rest : List Win), let d := s.now dt
    let e := ({ d with stg := { d.stg with wins := (({ w with isOpen := false } : Win) :: rest).filter (fun x => x.isOpen || x.awaits) } } : Dev).updInWindow w.owner
    n < 256 → d.stg.wins = w :: rest → w.entry = n → w.isOpen = true → w.endAt ≤ d.domNs → (∀ x ∈ rest, x.entry = n → x.isOpen = false) → (w.owner < 8 → d.coachDown w.owner = false) → d.tan.latent = [] → 
    exec (.windowEnd dt n) s = .next (s.becomes (if w.awaits then e.overrun w else e)))

/-- Snapshots reach the coaches' buffers or are reported missed; STAGE_OUT falls; listed gates flip; quiet entries begin and end (spec/02_stage_and_timetable.md: R40, R41, R52, R53, R55, R62, R64, spec/11_channel_protection.md: R310). -/
def Obligations.StageEngineTimedEffects : Prop :=
  (∀ (s : State) (dt tick : Nat), let d := s.now dt
    d.stg.lastTick = some tick → d.on HLK_STS_UP = true →
    Completes (.snapshotDelivery dt true) s (fun t => t.dev = d ∧ t.mem = d.snapWrite s.mem ∧ t.pending = s.pending)) ∧
  (∀ (s : State) (dt tick : Nat) (crossed : Bool), let d := s.now dt
    d.stg.lastTick = some tick → crossed = false ∨ d.on HLK_STS_UP = false →
    Completes (.snapshotDelivery dt crossed) s (fun t => s.sameMem t ∧ t.dev.on STG_STS_SNAP_MISS = true)) ∧
  (∀ (s : State) (dt tick : Nat), let d := s.now dt
    d.stg.lastTick = some tick → tick + 100 * d.fld STG_OUT_CFG_WIDTH ≤ d.domNs →
    Completes (.stageOutFall dt) s (fun t => s.sameMem t ∧ t.dev = { d with stg := { d.stg with outHigh := false } })) ∧
  (∀ (s : State) (dt n off : Nat), let d := s.now dt
    n < 256 → d.gridOff = some off → d.fld (STG_TT_START_NS n) ≤ off → d.ttKind n = 4 → d.ttApplies n d.gridPhase = true →
    Completes (.gateListFlip dt n) s fun t => s.sameMem t ∧ t.dev.regs = d.regs ∧
      ∀ p ∈ d.gatePorts n, tget 0xFF t.dev.stg.gates p = d.gateAt p d.gridPhase off) ∧
  (∀ (s : State) (dt n off : Nat), let d := s.now dt
    n < 256 → d.gridOff = some off → d.fld (STG_TT_START_NS n) ≤ off → off < d.fld (STG_TT_START_NS n) + d.fld (STG_TT_LEN_NS n) →
    d.ttKind n = 5 → d.ttApplies n d.gridPhase = true →
    Completes (.quietStart dt n) s fun t => s.sameMem t ∧ t.dev.regs = d.regs ∧
      (n, d.domNs + (d.fld (STG_TT_START_NS n) + d.fld (STG_TT_LEN_NS n) - off)) ∈ t.dev.stg.quiet) ∧
  (∀ (s : State) (dt n : Nat), let d := s.now dt
    n < 256 →
    Completes (.quietEnd dt n) s fun t => s.sameMem t ∧ t.dev.regs = d.regs ∧
      ∀ x : Nat × Nat, x ∈ t.dev.stg.quiet ↔ x ∈ d.stg.quiet ∧ (x.1 = n → d.domNs < x.2))

/-- What a Sync, a lost Sync, an Announce, a peer-delay exchange, TIME_ACCEPT and the holdover mark do (choices: log entries 28, 29, 78) (spec/03_timebase.md: R70, R72, R73, R77, R78, R85). -/
def Obligations.TimeBaseCommandsTakeEffect : Prop :=
  (∀ (s : State) (dt dom port : Nat) (diff256 : Int) (src : SyncFrom), let d := s.now dt
    dom < 4 → port < 16 → d.on (TIME_DOM_CFG_EN dom) = true → d.ptpTakes port = true → d.slavePort dom = some port →
    d.t1sTakes dom port src.node = true → d.tim.mode = .servo → d.fld (TIME_DOM_STS_STATE dom) ≠ 3 → dom ≠ d.primary →
    ∀ e : Dev, e = ((d.domGm dom src.gm).fresh 32).2 →
    exec (.syncReceived dt dom port diff256 src) s = .next (s.becomes (
      (({ e with tim := { e.tim with ratio := tset 0 ((d.domGm dom src.gm).fresh 32).1 dom e.tim.ratio } } : Dev).put
        (TIME_DOM_STS_STATE dom) 1).wrPair (TIME_DOM_OFS_LO dom) (TIME_DOM_OFS_HI dom)
          (unsgn 64 ((diff256 + (d.rn (TIME_PORT_DELAY port) : Nat) + sgn 32 (d.rn (TIME_PORT_CAL port)) +
            sgn 32 (d.rn (TIME_PORT_ASYM port))) / 256))))) ∧
  (∀ (s : State) (dt dom : Nat), let d := s.now dt
    dom < 4 → dom ≠ d.primary → d.fld (TIME_DOM_STS_STATE dom) = 1 →
    exec (.syncReceiptTimeout dt dom) s = .next (s.becomes (d.clr (TIME_DOM_STS_STATE dom)))) ∧
  (∀ (s : State) (dt dom : Nat) (h : Heard), let d := s.now dt
    ∀ e : Dev, e = ({ d with tim := { d.tim with ann := (match h.info with
        | some x => tput (16 * dom + h.port) x (terase (16 * dom + h.port) d.tim.ann)
        | none => terase (16 * dom + h.port) d.tim.ann) } } : Dev) →
    dom < 4 → h.port < 16 → (h.info.isSome = true → d.ptpTakes h.port = true) → dom = e.primary → e.on (TIME_DOM_CFG_EN dom) = true → e.on (TIME_DOM_CFG_MODE dom) = false →
    e.on (TIME_DOM_CFG_GM_CAPABLE dom) = true → e.fld TIME_STS_STATE = 0 →
    (∀ x ∈ e.bestAnn dom, e.ownVector dom < annVector x.2 x.1) →
    exec (.announceReceived dt dom h) s = .next (s.becomes (
      let f := (e.wrPair TIME_GMID_LO TIME_GMID_HI Config.clockIdentity).tsState 3
      { f with tim := { f.tim with held := some Config.clockIdentity } }))) ∧
  (∀ (s : State) (dt port v : Nat), let d := s.now dt
    port < 14 → d.ptpPort port = true →
    exec (.pdelayExchange dt port (some v)) s = .next (s.becomes (
      let e : Dev := { d with tim := { d.tim with pdFails := terase port d.tim.pdFails } }
      let e := ((e.wr (TIME_PORT_DELAY port) v).set (TIME_PORT_CFG_ASCAPABLE port)).clr (TIME_PORT_CFG_PDELAY_FAULT port)
      if d.on (TIME_PORT_CFG_ASCAPABLE port) = false ∨ d.on (TIME_PORT_CFG_PDELAY_FAULT port) = true
        then e.raiseIf TIME_INT_EN_PORT 18 else e))) ∧
  (∀ (s : State) (dt v : Nat) (a : Sys2Proof.Acc), let d := s.now dt
    let ofs := sgn 64 (d.pair TIME_PEND_OFS_LO TIME_PEND_OFS_HI)
    let gm := d.pair TIME_PEND_GMID_LO TIME_PEND_GMID_HI
    d.mayWrite s.mem a TIME_ACCEPT → v % 65536 = 0xACCE → v / 65536 = d.rn TIME_PEND_SEQ % 65536 →
    d.on TIME_STS_PENDING = true → -d.jumpLimit ≤ ofs →
    ∀ e : Dev, e = ({ (((d.clr TIME_STS_PENDING).clr TIME_STS_EXEMPT_AVAIL).wrPair TIME_GMID_LO TIME_GMID_HI gm) with
        tim := { d.tim with held := some gm, series := none, good := 0, bad := 0 } } : Dev) →
    ∀ f : Dev, f = ((e.wr TIME_LOCK_SECS d.lockSecs).put TIME_STS_HOLDOVER_AVAIL (b2n (decide (64 ≤ d.lockSecs)))).tsState 0 →
    exec (.timeAccept dt a v) s =
      if f.jumpLimit < ofs then .next (s.becomesM ((f.freeRun.stepTime s.mem (256 * ofs.toNat)).1.timePost 0x0006 0 ofs gm)
        (f.freeRun.stepTime s.mem (256 * ofs.toNat)).2)
      else .next (s.becomes (f.freshFreq.timePost 0x0006 0 ofs gm))) ∧
  (∀ (s : State) (dt : Nat), let d := s.now dt
    d.fld TIME_STS_STATE = 1 → 64 ≤ d.lockSecs →
    exec (.holdoverAvailReached dt) s = .next (s.becomes (d.set TIME_STS_HOLDOVER_AVAIL)))

/-- No Sync steps the time without the exemption; jumps, backward offsets and new grandmasters are refused; TIME_ACCEPT steps only above the limit (spec/03_timebase.md: R75, R76, R78). -/
def Obligations.NoSyncStepsTimeWithoutExemption : Prop :=
  (∀ (s : State) (dt dom port : Nat) (diff256 : Int) (src : SyncFrom), let d := s.now dt
    dom < 4 → port < 16 → d.on TIME_STS_EXEMPT_AVAIL = false → 
    Completes (.syncReceived dt dom port diff256 src) s fun t => t.dev.tim.dev = d.tim.dev ∧ s.sameMem t) ∧
  (∀ (s : State) (dt dom port : Nat) (diff256 : Int) (src : SyncFrom), let d := s.now dt
    dom < 4 → port < 16 → d.on (TIME_DOM_CFG_EN dom) = true → d.ptpTakes port = true → d.slavePort dom = some port → d.t1sTakes dom port src.node = true → d.tim.mode = .servo → d.fld (TIME_DOM_STS_STATE dom) ≠ 3 → dom = d.primary → d.on TIME_STS_EXEMPT_AVAIL = false → d.tim.held = some src.gm → 256 * d.jumpLimit < d.syncOffset port diff256 → 
    Completes (.syncReceived dt dom port diff256 src) s fun t => t.dev.on TIME_STS_PENDING = true ∧ t.dev.pair TIME_PEND_OFS_LO TIME_PEND_OFS_HI = unsgn 64 (d.syncOffset port diff256 / 256) ∧ s.sameMem t) ∧
  (∀ (s : State) (dt dom port : Nat) (diff256 : Int) (src : SyncFrom), let d := s.now dt
    dom < 4 → port < 16 → d.on (TIME_DOM_CFG_EN dom) = true → d.ptpTakes port = true → d.slavePort dom = some port → d.t1sTakes dom port src.node = true → d.tim.mode = .servo → d.fld (TIME_DOM_STS_STATE dom) ≠ 3 → dom = d.primary → d.tim.held = some src.gm → d.syncOffset port diff256 < -(256 * d.jumpLimit) → 
    Completes (.syncReceived dt dom port diff256 src) s fun t => t.dev.tim.dev = d.tim.dev ∧ t.dev.on TIME_STS_EXEMPT_AVAIL = d.on TIME_STS_EXEMPT_AVAIL ∧ t.dev.on TIME_STS_PENDING = d.on TIME_STS_PENDING ∧ (d.tim.series ≠ some (.backward, src.gm) → t.dev.on TIME_STS_BACK_REFUSED = true) ∧ s.sameMem t) ∧
  (∀ (s : State) (dt dom port : Nat) (diff256 : Int) (src : SyncFrom) (g : Nat), let d := s.now dt
    dom < 4 → port < 16 → d.on (TIME_DOM_CFG_EN dom) = true → d.ptpTakes port = true → d.slavePort dom = some port → d.t1sTakes dom port src.node = true → d.tim.mode = .servo → d.fld (TIME_DOM_STS_STATE dom) ≠ 3 → dom = d.primary → d.tim.held = some g → g ≠ src.gm → 
    Completes (.syncReceived dt dom port diff256 src) s fun t => t.dev.tim.dev = d.tim.dev ∧ t.dev.on TIME_STS_PENDING = true ∧ t.dev.pair TIME_PEND_OFS_LO TIME_PEND_OFS_HI = unsgn 64 (d.syncOffset port diff256 / 256) ∧ t.dev.pair TIME_PEND_GMID_LO TIME_PEND_GMID_HI = src.gm % 2 ^ 64 ∧ (d.tim.series ≠ some (.gmChange, src.gm) → t.dev.on TIME_STS_GM_CHANGE = true ∧ t.dev.rn TIME_PEND_SEQ = (d.rn TIME_PEND_SEQ + 1) % 2 ^ 32) ∧ s.sameMem t) ∧
  (∀ (s : State) (dt v : Nat) (a : Sys2Proof.Acc), let d := s.now dt
    d.mayWrite s.mem a TIME_ACCEPT → sgn 64 (d.pair TIME_PEND_OFS_LO TIME_PEND_OFS_HI) ≤ d.jumpLimit → 
    Completes (.timeAccept dt a v) s fun t => t.dev.tim.dev = d.tim.dev ∧ s.sameMem t) ∧
  (∀ (s : State) (dt v : Nat) (a : Sys2Proof.Acc), let d := s.now dt
    d.mayWrite s.mem a TIME_ACCEPT → v % 65536 ≠ 0xACCE ∨ v / 65536 ≠ d.rn TIME_PEND_SEQ % 65536 ∨ d.on TIME_STS_PENDING = false ∨ sgn 64 (d.pair TIME_PEND_OFS_LO TIME_PEND_OFS_HI) < -d.jumpLimit → 
    Completes (.timeAccept dt a v) s fun t => t.dev.tim.dev = d.tim.dev ∧ t.dev.on TIME_STS_ACCEPT_FAIL = true ∧ s.sameMem t)

/-- Arming, disarming and firing of an action slot, the end of a TOUT pulse, an edge at a TCAP pin and a pop of its FIFO (spec/03_timebase.md: R97, R98, R99, R101, R105). -/
def Obligations.SlotAndPinCommandsTakeEffect : Prop :=
  (∀ (s : State) (dt n v : Nat) (a : Sys2Proof.Acc), let d := s.now dt
    n < 64 → d.mayWrite s.mem a (TTA_SLOT_CMD n) → bit 0 v = true → bit 1 v = false →
    (∀ e : Dev, e = d.wr (TTA_SLOT_CMD n) (d.rn (TTA_SLOT_CMD n) - (d.rn (TTA_SLOT_CMD n) &&& (v &&& 0xE00))) →
      (e.slot n).armed = false → e.armOk s.mem (e.captureSlot n) = true →
      e.ns256 + 256 * leadNs (e.captureSlot n).action ≤ (e.captureSlot n).instant 0 →
      exec (.slotArm dt a n v) s = .next (s.becomes (e.slotArmed n (e.captureSlot n))))) ∧
  (∀ (s : State) (dt n v : Nat) (a : Sys2Proof.Acc), let d := s.now dt
    n < 64 → d.mayWrite s.mem a (TTA_SLOT_CMD n) → bit 0 v = false → bit 1 v = true →
    (∀ e : Dev, e = d.wr (TTA_SLOT_CMD n) (d.rn (TTA_SLOT_CMD n) - (d.rn (TTA_SLOT_CMD n) &&& (v &&& 0xE00))) →
      (e.slot n).armed = true → (e.slot n).action = 1 ∨ (e.slot n).action = 2 →
      exec (.slotDisarm dt a n v) s = .next (s.becomes (e.slotIdle n 0)))) ∧
  (∀ (s : State) (dt n : Nat), let d := s.now dt
    n < 64 → (d.slot n).armed = true → (d.slot n).action = 1 → (d.slot n).periodic = false → (d.slot n).left = 1 →
    bit 7 (d.slot n).cfg = false → (d.slot n).instant (d.slot n).next ≤ d.ns256 →
    (tget (0, 0) d.tta.last (d.slot n).target).1 ≠ (d.slot n).instant (d.slot n).next →
    d.tta.passed.find? (d.passedDue n) = none →
    exec (.slotFire dt n) s = .next (s.becomes (
      (({ d with tta := { d.tta with
          pulse := terase (d.slot n).target d.tta.pulse,
          last := tset (0, 0) ((d.slot n).instant (d.slot n).next, n) (d.slot n).target d.tta.last } } : Dev).toutPut
        (d.slot n).target ((d.slot n).arg % 2)).slotIdle n 0))) ∧
  (∀ (s : State) (dt k : Nat), let d := s.now dt
    k < 8 → tget 0 d.tta.pulse k ≠ 0 → tget 0 d.tta.pulse k ≤ d.up →
    exec (.toutPulseEnd dt k) s = .next (s.becomes (
      ({ d with tta := { d.tta with pulse := terase k d.tta.pulse } } : Dev).toutPut k (d.fld (TTA_TOUT_CFG_IDLE k))))) ∧
  (∀ (s : State) (dt k : Nat) (falling : Bool), let d := s.now dt
    k < 8 → (∀ e ∈ (d.tcap k).lastEdge, e + 2560 ≤ d.ns256) → bit (b2n falling) (d.fld (TTA_TCAP_CFG_EDGE k)) = true →
    (d.tcap k).fifo.length < 16 → d.on (TTA_TCAP_CFG_IRQ_EN k) = false → d.fld (TTA_TCAP_CFG_OWNER k) ≠ 15 →
    exec (.tcapEdge dt k falling) s = .next (s.becomes (d.setTcap k { (d.tcap k) with
      lastEdge := some d.ns256, fifo := (d.tcap k).fifo ++ [{ time256 := d.ns256, falling := falling }], burst := false }))) ∧
  (∀ (s : State) (dt k : Nat) (a : Sys2Proof.Acc) (e : Edge) (rest : List Edge), let d := s.now dt
    k < 8 → d.mayRead s.mem a (TTA_TCAP_TS_LO k) → (d.tcap k).fifo = e :: rest →
    exec (.tcapPop dt a k) s = .next (s.becomes (
      ((((d.setTcap k { (d.tcap k) with fifo := rest }).wr (TTA_TCAP_TS_LO k) (e.time256 / 256)).wr (TTA_TCAP_TS_HI k)
        (e.time256 / 256 / 2 ^ 32)).wr (TTA_TCAP_INFO k)
          (e.time256 % 256 + 256 * b2n e.falling + 512 + 65536 * rest.length + (d.tcap k).ovf * 2 ^ 24)).returns
            (e.time256 / 256 % 2 ^ 32))))

/-- The logbook and the always-on log: write, report, post, consume (half-range rule: log entry 83), fetch and clear (spec/04_waybills_and_logbook.md: R118, R120, R121, R122, R124, R125, R126, R127, spec/01_module.md: R27). -/
def Obligations.LogbookCommandsTakeEffect : Prop :=
  (∀ (s : State) (dt : Nat) (r : Rec) (rest : List Rec), let d := s.now dt
    d.log.queue = r :: rest →
    exec (.logbookRecordWrite dt) s = .next (s.becomesM
      (((({ d with log := { d.log with queue := rest } } : Dev).overwrite).bump LOGB_WR_CNT).logThresh)
      (Mem.setWords s.mem (ringAddr (d.rn LOGB_WR_CNT)) r.words))) ∧
  (∀ (s : State) (dt : Nat), let d := s.now dt
    d.log.dropped ≠ 0 → d.log.queue.length < 64 →
    exec (.droppedRecordsReport dt) s = .next (s.becomes
      (({ d with log := { d.log with dropped := 0 } } : Dev).post 0x60 0x0002 1 9 0 [d.log.dropped]))) ∧
  (∀ (s : State) (dt page v : Nat) (a : Sys2Proof.Acc), let d := s.now dt
    page ≤ 8 → d.mayWrite s.mem a (LOGB_SPOST_GO page) →
    exec (.logbSpostGo dt a page v) s = .next (s.becomes
      (d.post 0x90 (d.fld (LOGB_SPOST_CODE_CODE page) % 0x8000 + 0x8000) (min 1 (bits 1 0 v)) page
        (d.fld (LOGB_SPOST_CODE_INSTANCE page)) [d.rn (LOGB_SPOST_D page 0), d.rn (LOGB_SPOST_D page 1),
          d.rn (LOGB_SPOST_D page 2), d.rn (LOGB_SPOST_D page 3)]))) ∧
  (∀ (s : State) (dt v : Nat) (a : Sys2Proof.Acc), let d := s.now dt
    d.mayWrite s.mem a LOGB_RD_CNT →
    (d.rn LOGB_WR_CNT + 2 ^ 32 - v % 2 ^ 32) % 2 ^ 32 < 2 ^ 31 →
    exec (.logbRdCntWrite dt a v) s = .next (s.becomes
      (({ d with log := { d.log with ovwPosted := false } } : Dev).wr LOGB_RD_CNT v))) ∧
  (∀ (s : State) (dt : Nat) (cut : Bool) (r : Rec) (rest : List Rec), let d := s.now dt
    d.log.aoQueue = r :: rest →
    exec (.alwaysOnWrite dt cut) s = .next (s.becomes
      (({ d with log := { d.log with aoQueue := rest } } : Dev).aoWrite r cut))) ∧
  (∀ (s : State) (dt v : Nat) (a : Sys2Proof.Acc), let d := s.now dt
    d.mayWrite s.mem a LOGB_AO_IDX →
    exec (.alwaysOnFetch dt a v) s = .next (s.becomes ((d.put LOGB_AO_IDX_IDX v).set LOGB_AO_ESTS_BUSY))) ∧
  (∀ (s : State) (dt : Nat), let d := s.now dt
    d.on LOGB_AO_ESTS_BUSY = true → d.on HLK_STS_UP = true → exec (.alwaysOnFetchDone dt) s = .next (s.becomes d.aoFetched)) ∧
  (∀ (s : State) (dt v : Nat) (a : Sys2Proof.Acc), let d := s.now dt
    d.mayWrite s.mem a LOGB_AO_CLR → bits 15 0 v = 0xA0C1 → bits 21 16 v = d.fld LOGB_AO_STS_WO_FILL → bits 23 22 v = 0 →
    d.on HLK_STS_UP = true → exec (.aoClearWriteOnce dt a v) s = .next (s.becomes
      ((({ d with log := { d.log with ao := d.log.ao.filter (fun e => 32 ≤ e.1), aoNew := d.log.aoNew.filter (32 ≤ ·) } } : Dev).clr LOGB_AO_STS_WO_FILL).aoClearRecord 0))) ∧
  (∀ (s : State) (dt v : Nat) (a : Sys2Proof.Acc), let d := s.now dt
    d.mayWrite s.mem a LOGB_AO_CLR → bits 15 0 v = 0xA0C1 → bits 21 16 v = d.fld LOGB_AO_STS_WO_FILL → bits 23 22 v = 1 →
    d.on HLK_STS_UP = true → exec (.aoClearWholeLog dt a v) s = .next (s.becomes
      ((({ d with log := { d.log with ao := [], aoNew := [] } } : Dev).wr LOGB_AO_STS 0x2000).aoClearRecord 1))) ∧
  (∀ (s : State) (dt v : Nat) (a : Sys2Proof.Acc), let d := s.now dt
    d.mayWrite s.mem a LOGB_AO_CLR → d.on HLK_STS_UP = false → bits 15 0 v = 0xA0C1 →
    bits 21 16 v = d.fld LOGB_AO_STS_WO_FILL → bits 23 22 v ≤ 1 →
    exec (if bits 23 22 v = 0 then .aoClearWriteOnce dt a v else .aoClearWholeLog dt a v) s = .next (s.becomes d.discarded)) ∧
  (∀ (s : State) (dt : Nat), let d := s.now dt
    d.on HLK_STS_UP = false → exec (.alwaysOnFetchDone dt) s = .next (s.becomes d))

/-- Writing a record changes memory only in its 32-byte ring slot (little-endian, log entry 36), and counts LOGB_WR_CNT by one (spec/04_waybills_and_logbook.md: R115, R120, R121). -/
def Obligations.RecordWriteTouchesOnlyItsRingSlot : Prop :=
  ∀ (s : State) (dt : Nat) (r : Rec) (rest : List Rec), let d := s.now dt
    d.log.queue = r :: rest →
    Completes (.logbookRecordWrite dt) s fun t =>
      (∀ x, (x < ringAddr (d.rn LOGB_WR_CNT) ∨ ringAddr (d.rn LOGB_WR_CNT) + 32 ≤ x) → Mem.byte t.mem x = Mem.byte s.mem x) ∧
      (∀ i, i < 32 → Mem.byte t.mem (ringAddr (d.rn LOGB_WR_CNT) + i) =
        BitVec.ofNat 8 ((r.words.flatMap (leBytes 4)).getD i 0)) ∧
      t.pending = s.pending ∧ t.dev.rn LOGB_WR_CNT = (d.rn LOGB_WR_CNT + 1) % 2 ^ 32

/-- What arrival, lookup, tail, start and end of a frame leave in the fabric: the frames it holds, their waybills and copies, and the counters (spec/05_fabric_forwarding.md: R139, R140, R146, R152, R155, R156, spec/06_queues_and_resequencing.md: R185, R194, spec/04_waybills_and_logbook.md: R108, spec/09_siding_sleep_wake.md: R238, R240). -/
def Obligations.FabricCommandsTakeEffect : Prop :=
  (∀ (s : State) (dt p ts256 : Nat) (bytes : List Nat), let d := s.now dt
    p < 16 → d.on (PORT_STS_LINK p) = false → exec (.frameIngress dt p ts256 bytes none) s = .next (s.becomes (d))) ∧
  (∀ (s : State) (dt p ts256 : Nat) (bytes : List Nat), let d := s.now dt
    p < 16 → d.on (PORT_STS_LINK p) = true → d.portOwner p ≠ 15 → d.fld (SID_PORT_STS_STATE p) < 2 → d.towPort = none → (p = 6 → toolFrame bytes = none) → d.sidAt p ts256 = 0 → d.on (SID_PORT_STS_FROZEN p) = false → bytes.length < 64 → 
    Completes (.frameIngress dt p ts256 bytes none) s fun t => t.dev.rn (PORT_RX_LEN_ERR p) = (d.rn (PORT_RX_LEN_ERR p) + 1) % 2 ^ 32 ∧ t.dev.fab = d.fab ∧ s.sameMem t) ∧
  (∀ (s : State) (dt p ts256 : Nat) (bytes : List Nat), let d := s.now dt
    p < 16 → d.on (PORT_STS_LINK p) = true → d.portOwner p ≠ 15 → d.fld (SID_PORT_STS_STATE p) < 2 → d.towPort = none → (p = 6 → toolFrame bytes = none) → d.sidAt p ts256 = 1 → 64 ≤ bytes.length → d.isPtp bytes = false → 
    Completes (.frameIngress dt p ts256 bytes none) s fun t => t.dev.rn (SID_PORT_IGN_CNT p) = (d.rn (SID_PORT_IGN_CNT p) + 1) % 2 ^ 32 ∧ t.dev.fab = d.fab ∧ s.sameMem t) ∧
  (∀ (s : State) (dt p ts256 : Nat) (bytes : List Nat), let d := s.now dt
    p < 16 → d.on (PORT_STS_LINK p) = true → d.portOwner p ≠ 15 → d.fld (SID_PORT_STS_STATE p) < 2 → d.towPort = none → (p = 6 → toolFrame bytes = none) → d.sidAt p ts256 = 0 → 64 ≤ bytes.length → d.isPtp bytes = false → d.on (PORT_CFG_TRUNK p) = false → d.msecOn p = false → 
    Completes (.frameIngress dt p ts256 bytes none) s fun t => t.dev.fab.next = d.fab.next + 1 ∧ t.dev.fab.frames.dropLast = d.fab.frames ∧ t.dev.fab.frames.getLast?.map (fun f => (f.id, f.bytes, f.looked, f.tail, f.copies)) = some (d.fab.next, bytes, false, false, []) ∧ t.dev.fab.frames.getLast?.map (fun f => (f.wb.port, f.wb.time, f.wb.frac, f.wb.len, f.fcsOk)) = some (p, ts256 / 256, ts256 % 256, bytes.length, fcsRight bytes none) ∧ s.sameMem t) ∧
  (∀ (s : State) (dt id : Nat), let d := s.now dt
    d.frame id = none → exec (.frameLookup dt id) s = .next (s.becomes (d))) ∧
  (∀ (s : State) (dt id r : Nat) (f : Frame), let d := s.now dt
    d.frame id = some f → f.looked = false → f.tail = false → f.kind = 0 → f.copies = [] → bit 19 (d.active.port f.wb.port 0) = false → (d.active.lookup f.wb.port f.body).drop = some .rule → (d.active.lookup f.wb.port f.body).rule = some r → r < 512 → 
    Completes (.frameLookup dt id) s fun t => t.dev.rn LKP_CLS_DROP_CNT = (d.rn LKP_CLS_DROP_CNT + 1) % 2 ^ 32 ∧ t.dev.rn (LKP_CLS_HIT r) = (d.rn (LKP_CLS_HIT r) + 1) % 2 ^ 32 ∧ (t.dev.frame id).map (fun g => (g.looked, g.copies)) = some (true, []) ∧ s.sameMem t) ∧
  (∀ (s : State) (dt id : Nat) (f : Frame), let d := s.now dt
    let q := d.active.lookup f.wb.port f.body
    let dests := q.dest.filter (fun t => match q.members with | some m => t ≠ f.wb.port && bit t m | none => true)
    d.frame id = some f → f.looked = false → f.tail = false → f.kind = 0 → f.copies = [] → bit 19 (d.active.port f.wb.port 0) = false → q.rule = none → q.drop = none → q.stream = none → q.copyGuard = false → d.towPort = none → 
    Completes (.frameLookup dt id) s fun t => (t.dev.frame id).map (fun g => (g.looked, g.wb.cls, g.wb.epoch, g.vid, g.pcp, g.attempted)) = some (true, q.cls, d.fld LKP_STS_EPOCH, q.vid, q.pcp, dests) ∧ (((t.dev.frame id).map (·.copies)).getD []).all (fun c => dests.contains c.port && c.cls == q.cls) = true ∧ s.sameMem t) ∧
  (∀ (s : State) (dt id : Nat) (f : Frame), let d := s.now dt
    d.frame id = some f → f.looked = true → f.tail = false → f.heldDup = false → f.mir = none → f.rcv = none → f.fcsOk = false → f.wb.port < 36 → d.on (SID_PORT_STS_FROZEN f.wb.port) = false → 
    Completes (.frameTailCheck dt id false 0 none) s fun t => t.pending = s.pending ∧ t.dev.rn (PORT_RX_ERR f.wb.port) = (d.rn (PORT_RX_ERR f.wb.port) + 1) % 2 ^ 32 ∧ (((t.dev.frame id).map (·.copies)).getD []).all (·.bad) = true) ∧
  (∀ (s : State) (dt id : Nat) (f : Frame), let d := s.now dt
    d.frame id = some f → f.looked = true → f.tail = false → f.fcsOk = true → f.icvOk = true → f.lenBad = false → f.tooLong = false → f.mir = none → f.rcv = none → f.heldDup = false → f.rest = none → f.copies ≠ [] → 
    Completes (.frameTailCheck dt id false 0 none) s fun t => (t.dev.frame id).map (fun g => (g.tail, g.copies)) = some (true, f.copies) ∧ s.sameMem t) ∧
  (∀ (s : State) (dt p : Nat) (f : Frame) (c : Copy), let d := s.now dt
    let g := d.shaper p
    let body := egressBytes f c (tget 0 g.fab.acfSeq (Config.portMac p + 2 ^ 48 * ((c.acf.map (·.uid)).getD 0)))
    let l := body ++ List.replicate (60 - body.length) 0
    p < 16 ∨ (45 ≤ p ∧ p < 48) → d.sendingClass p = none → (p < 36 → d.on (PORT_STS_LINK p) = true ∧ d.fld (SID_PORT_STS_STATE p) = 0) → d.nextCopy p = some (f, c) → c.port = p → c.mirror = false → f.kind = 0 → g.putsTag c = false → g.txSa p body = none → g.tcEvent f body = none → 
    Completes (.egressFrameStart dt p) s fun t => (t.dev.sendingClass p).isSome = true ∧ (tget ⟨[], [], none, false⟩ t.dev.fab.wire p).bytes = l ++ fcs l ∧ s.sameMem t) ∧
  (∀ (s : State) (dt p : Nat), let d := s.now dt
    p < 16 ∨ (45 ≤ p ∧ p < 48) → (d.sendingClass p).isSome = true ∨ d.nextCopy p = none → 
    exec (.egressFrameStart dt p) s = .next (s.becomes (d))) ∧
  (∀ (s : State) (dt p : Nat) (f : Frame) (c : Copy), let d := s.now dt
    p < 16 ∨ (45 ≤ p ∧ p < 48) → d.inProgress p = some (f, c) → f.tail = true → c.port = p → 
    Completes (.egressCopyDone dt p) s fun t => (((t.dev.frame f.id).map (·.copies)).getD []).all (fun x => x.port != p) = true ∧ (c.bad = false → p < 36 → ((t.dev.frame f.id).map (fun g => g.delivered.contains p)).getD true = true) ∧ s.sameMem t)

/-- What flips, the copy after a flip, the drain timeout, FRER resets and stream gate changes do where they apply (spec/05_fabric_forwarding.md: R148, R150, R161, R162, R163, R164, R165). -/
def Obligations.BankAndStreamCommandsTakeEffect : Prop :=
  (∀ (s : State) (dt v : Nat) (a : Sys2Proof.Acc), let d := s.now dt
    d.mayWrite s.mem a LKP_FLIP → bits 31 16 v = 0xE90C → bits 1 0 v = 1 → d.on LKP_STS_PENDING = false →
    d.fld LKP_STS_DRAIN_BANK = 3 →
    exec (.lkpFlipAtTick dt a v) s = .next (s.becomes { (d.set LKP_STS_PENDING) with fab := { d.fab with flip := some 1 } })) ∧
  (∀ (s : State) (dt v : Nat) (a : Sys2Proof.Acc), let d := s.now dt
    d.mayWrite s.mem a LKP_FLIP → bits 31 16 v = 0xE90C → bits 1 0 v = 2 → d.on LKP_STS_PENDING = false → d.canFlip = true →
    exec (.lkpFlipImmediate dt a v) s = .next (s.becomes d.doFlip)) ∧
  (∀ (s : State) (dt v : Nat) (a : Sys2Proof.Acc), let d := s.now dt
    d.mayWrite s.mem a LKP_FLIP → bits 31 16 v = 0xE90C → bits 1 0 v = 2 → d.on LKP_STS_PENDING = false → d.canFlip = true →
    Completes (.lkpFlipImmediate dt a v) s fun t =>
      t.dev.fld LKP_STS_ACTIVE_BANK = d.fld LKP_STS_SHADOW_BANK ∧ t.dev.fld LKP_STS_EPOCH = (d.fld LKP_STS_EPOCH + 1) % 256 ∧
      t.dev.fld LKP_STS_DRAIN_BANK = (if d.drainCount (d.fld LKP_STS_EPOCH) = 0 then 3 else d.fld LKP_STS_ACTIVE_BANK) ∧
      t.dev.fld LKP_STS_SHADOW_BANK = 3 ∧ t.dev.on LKP_STS_SYNC = true ∧ t.dev.on LKP_STS_FLIP_DONE = true ∧
      t.dev.on LKP_STS_PENDING = false ∧ t.dev.on LKP_STS_BUSY = false ∧ t.dev.fab.flip = none ∧
      t.dev.fab.sync = some (3 - d.fld LKP_STS_ACTIVE_BANK - d.fld LKP_STS_SHADOW_BANK) ∧ s.sameMem t) ∧
  (∀ (s : State) (dt : Nat), let d := s.now dt
    d.on LKP_STS_PENDING = true → d.canFlip = true →
    d.fab.flip = some 2 ∨ (d.stg.nextTick ≤ d.domNs + 2 ∧ d.boot.phase = .sealed) →
    exec (.flipInstant dt) s = .next (s.becomes
      { d.doFlip with fab := { d.doFlip.fab with flipEarly := d.fab.flip == some 1 } })) ∧
  (∀ (s : State) (dt i : Nat), let d := s.now dt
    d.fab.sync = some i → d.fab.flip = none →
    exec (.syncCopyDone dt) s = .next (s.becomes
      ((({ d with fab := { d.fab with sync := none, banks := tset [] d.active i d.fab.banks } } : Dev).put
        LKP_STS_SHADOW_BANK i).clr LKP_STS_SYNC))) ∧
  (∀ (s : State) (dt : Nat), let d := s.now dt
    d.fld LKP_STS_DRAIN_BANK ≠ 3 → d.fld LKP_CTL_DRAIN_TMO ≤ d.fab.drainTicks →
    exec (.drainTimeout dt) s = .next (s.becomes d.drainExpired)) ∧
  (∀ (s : State) (dt v : Nat) (a : Sys2Proof.Acc), let d := s.now dt
    d.mayWrite s.mem a LKP_FRER_RST → bits 31 16 v = 0xF2E5 →
    exec (.lkpFrerRst dt a v) s = .next (s.becomes
      ((({ d with fab := { d.fab with frerGen := terase (bits 7 0 v) d.fab.frerGen } } : Dev).frerReset (bits 7 0 v)).post
        0x11 0x0004 0 9 (bits 7 0 v)))) ∧
  (∀ (s : State) (dt i : Nat), let d := s.now dt
    i < 256 → (tget FrerRec.reset d.fab.frer i).takeAny = false →
    (tget FrerRec.reset d.fab.frer i).at_ + 1000000 * bits 31 16 (d.active.frer i 0) ≤ d.up →
    exec (.frerResetTimeout dt i) s = .next (s.becomes ((d.setFrer i FrerRec.reset).frerCnt i 6))) ∧
  (∀ (s : State) (dt g i : Nat), let d := s.now dt
    g < 64 → i < 8 → d.active.gateAt g ((d.domNs + 4) % d.cycleLen) = i →
    exec (.streamGateChange dt g i) s = .next (s.becomes { d with fab := { d.fab with sgate := tset 0 i g d.fab.sgate } }))

/-- What doorbells, transmission, delivery, receipts and samples do where they apply (spec/06_queues_and_resequencing.md: R169, R171, R173, R178, R194, R195, spec/07_outrider_and_tow_mirror.md: R197, R199). -/
def Obligations.QueueCommandsTakeEffect : Prop :=
  (∀ (s : State) (dt q v : Nat) (a : Sys2Proof.Acc), let d := s.now dt
    q < 528 → d.mayWrite s.mem a (CQ_DB (qOwner q) (qIdx q)) → d.qRole q ≠ 0 →
    (v % 65536 + 65536 - d.qTail q) % 65536 < 32768 → (v % 65536 + 65536 - d.qHead q) % 65536 ≤ d.ringSize q →
    ∀ e : Dev, e = { (d.put (CQ_TAIL_COUNT (qOwner q) (qIdx q)) (v % 65536)) with
      dead := d.dead.filter (· ≠ q), fab := { d.fab with donePend := d.fab.donePend.filter (· ≠ q) } } →
    exec (.cqDb dt a q v) s = .next (s.becomes ((e.qGroup q).qEmpty q))) ∧
  (∀ (s : State) (dt o n : Nat) (rest : List Nat), let d := s.now dt
    o < 9 → d.txOrder o = n :: rest → (d.sendHead s.mem (64 * o + n) false).1.on (CQ_STS_BUDGET_HOLD o n) = false →
    ∀ x, x = d.sendHead s.mem (64 * o + n) false →
    exec (.transmitDescriptorSend dt o) s = .next (s.becomesM
      { x.1 with fab := { x.1.fab with rr := tset 0 (n + 1) (8 * o + d.fld (CQ_CFG_CLASS o n)) x.1.fab.rr } } x.2)) ∧
  (∀ (s : State) (dt id p q : Nat) (f : Frame) (c : Copy), let d := s.now dt
    36 ≤ p → p < 45 → d.inProgress p = none → d.nextDelivery p = some (f, c) → c.queue = some q → f.id = id →
    ∀ r, r = Dev.takeHead q (d.qPosted q) d s.mem → r.2.2 = true →
    exec (.receiveDelivery dt id p) s = .next (s.becomesM
      ((r.1.modCopy id p (fun c => { c with sending := true })).writeCopy r.2.1 f { c with sending := true } q).1
      ((r.1.modCopy id p (fun c => { c with sending := true })).writeCopy r.2.1 f { c with sending := true } q).2)) ∧
  (∀ (s : State) (dt : Nat) (r : Receipt) (rest : List Receipt), let d := s.now dt
    d.fab.receipts = r :: rest → d.coachDown (qOwner r.sendQ) = false → r.sendQ ∉ d.dead →
    ∀ e, e = 64 * qOwner r.sendQ + d.fld (CQ_CFG_RCPT (qOwner r.sendQ) (qIdx r.sendQ)) %
      (if qOwner r.sendQ = 8 then 16 else 64) →
    d.qRole e = 4 → d.qPosted e ≠ 0 →
    ∀ x, x = Dev.complete { d with fab := { d.fab with receipts := rest } } s.mem e
      ([portMask r.delivered % 2 ^ 32, portMask r.delivered / 2 ^ 32 + 65536 * (portMask r.attempted / 2 ^ 32),
        1 + 2 * b2n (bit 1 (Dev.headWord { d with fab := { d.fab with receipts := rest } } s.mem e 2)) + 16 * 3 + 4096 * r.sendQ, portMask r.attempted % 2 ^ 32] ++
        (if portMask r.delivered ≠ portMask r.attempted then r.wb.flag 3 else r.wb).words) →
    exec (.deliveryReceipt dt) s = .next (s.becomesM x.1 x.2)) ∧
  (∀ (s : State) (dt k : Nat) (x : Sample), let d := s.now dt
    k < 4 → d.qPosted (d.fld (OUTR_DEST_CFG_QUEUE k)) ≠ 0 →
    (d.fab.samples.filter (fun x => x.waiting && x.dest == k)).head? = some x → d.fabDown = false →
    d.sampleRefused k (d.fld (OUTR_DEST_CFG_QUEUE k)) (d.fab.samples.filter (fun x => x.waiting && decide (x.dest < 4) && d.fld (OUTR_DEST_CFG_QUEUE x.dest) == d.fld (OUTR_DEST_CFG_QUEUE k))).length x = false →
    exec (.sampleDelivery dt k) s = .next (s.becomesM (d.sampleWrite s.mem k (d.fld (OUTR_DEST_CFG_QUEUE k)) x).1
      (d.sampleWrite s.mem k (d.fld (OUTR_DEST_CFG_QUEUE k)) x).2)) ∧
  (∀ (s : State) (dt p k v : Nat) (a : Sys2Proof.Acc), let d := s.now dt
    p < 44 → k < 8 → d.mayWrite s.mem a (OUTR_PORT_N p k) →
    exec (.outrPortNWrite dt a p k v) s = .next (s.becomes ((d.put (OUTR_PORT_N_N p k) v).reload p k)))

/-- ARM arms the tow mirror, ENABLE after it with passing checks turns it on, DISABLE and the arm timeout turn it off (spec/07_outrider_and_tow_mirror.md: R205, R206). -/
def Obligations.TowMirrorCommandsTakeEffect : Prop :=
  let keeps (s t : State) (d : Dev) : Prop := s.sameMem t ∧ ∀ b, quiet b → b / 65536 ≠ 0x4032 → b / 65536 ≠ 0x4033 →
    t.dev.rn b = d.rn b
  (∀ (s : State) (dt v : Nat) (a : Sys2Proof.Acc), let d := s.now dt
    d.mayWrite s.mem a TOW_LEGACY_CTL → d.on TOW_STS_SEALED_OFF = false → d.gated 4 0 = false →
    bit 0 v = true → bit 1 v = false → bit 2 v = false → d.fld TOW_STS_STATE ≠ 2 →
    Completes (.towArm dt a v) s fun t => keeps s t d ∧ t.dev.fld TOW_STS_STATE = 1) ∧
  (∀ (s : State) (dt v : Nat) (a : Sys2Proof.Acc), let d := s.now dt
    d.mayWrite s.mem a TOW_LEGACY_CTL → d.on TOW_STS_SEALED_OFF = false → d.gated 4 0 = false →
    bit 0 v = false → bit 1 v = true → bit 2 v = false → d.fld TOW_STS_STATE = 1 → d.towChecks = true →
    Completes (.towEnable dt a v) s fun t => keeps s t d ∧ t.dev.fld TOW_STS_STATE = 2) ∧
  (∀ (s : State) (dt v : Nat) (a : Sys2Proof.Acc), let d := s.now dt
    d.mayWrite s.mem a TOW_LEGACY_CTL → d.on TOW_STS_SEALED_OFF = false → d.gated 4 0 = false →
    bit 0 v = false → bit 1 v = false → bit 2 v = true →
    Completes (.towDisable dt a v) s fun t => keeps s t d ∧ t.dev.fld TOW_STS_STATE = 0) ∧
  (∀ (s : State) (dt : Nat), let d := s.now dt
    d.fld TOW_STS_STATE = 1 → d.gated 4 0 = false → d.fab.towArm + 1000000 ≤ d.up →
    Completes (.towArmExpiry dt) s fun t => keeps s t d ∧ t.dev.fld TOW_STS_STATE = 0 ∧ t.dev.on TOW_L_STS_SEQ_ERR = true)

/-- What links, training, the crank limit, cable tests, PLCA beacons and the transmit AN do where their commands apply (spec/08_network_ports.md: R214, R215, R216, R217, R218, R219, R223, R228). -/
def Obligations.LinkCommandsTakeEffect : Prop :=
  (∀ (s : State) (dt p rate sqi : Nat) (master : Bool), let d := s.now dt
    2 ≤ p → p < 14 → d.portOn p = true → d.on (PORT_STS_LINK p) = false → 
    exec (.linkUp dt p rate sqi master) s = .next (s.becomes (((({ ((((d.put (FAB_PORT_CFG_RATE p) (if p < 6 then 3 else 2)).put (PORT_PHY_STS_TRAIN p) 2).put (PORT_PHY_STS_MASTER p) (b2n (d.isMaster p master))).put (PORT_PHY_STS_SQI p) sqi) with prt := { d.prt with lastRate := tset 0 (if p < 6 then 3 else 2) p d.prt.lastRate, fails := terase p d.prt.fails } } : Dev))).linkSet p true))) ∧
  (∀ (s : State) (dt p : Nat), let d := s.now dt
    16 ≤ p → p < 36 → d.on (PORT_STS_LINK p) = true → exec (.linkDown dt p) s = .next (s.becomes (d.linkSet p false))) ∧
  (∀ (s : State) (dt p : Nat), let d := s.now dt
    p < 2 → d.portOn p = true → d.on (PORT_STS_LINK p) = false → 
    exec (.trainingFailure dt p) s = .next (s.becomes (if d.on (PORT_PHY_CFG_FALLBACK p) = true ∧ 2 ≤ tget 0 d.prt.fails p then d.train p (if 4 < tget (d.maxRate p) d.prt.tryRate p then tget (d.maxRate p) d.prt.tryRate p - 1 else 4) else { (d.put (PORT_PHY_STS_TRAIN p) 1) with prt := { d.prt with fails := tset 0 (tget 0 d.prt.fails p + 1) p d.prt.fails } }))) ∧
  (∀ (s : State) (dt : Nat), let d := s.now dt
    d.fld HPS_SUP_STS_RANGE ≠ 1 → d.fld HPS_SUP_STS_RANGE ≠ 2 → d.on (PORT_STS_CRANK_LIMIT 0) = true → d.on (PORT_PHY_CFG_UPSHIFT 0) = false → d.on (PORT_STS_CRANK_LIMIT 1) = false → d.portOn 0 = true → 
    exec (.crankLimitExit dt) s = .next (s.becomes ({ (d.clr (PORT_STS_CRANK_LIMIT 0)) with prt := { d.prt with crankHeld := insertNat 0 d.prt.crankHeld } }))) ∧
  (∀ (s : State) (dt : Nat), let d := s.now dt
    d.fld HPS_SUP_STS_RANGE = 1 ∨ d.fld HPS_SUP_STS_RANGE = 2 ∨ (d.on (PORT_STS_CRANK_LIMIT 0) = false ∧ d.on (PORT_STS_CRANK_LIMIT 1) = false) → 
    exec (.crankLimitExit dt) s = .next (s.becomes (d))) ∧
  (∀ (s : State) (dt p v : Nat) (a : Sys2Proof.Acc), let d := s.now dt
    p < 2 → d.mayWrite s.mem a (PORT_CTL p) → v % 8 = 1 → d.portOn p = true → 
    exec (.linkRestart dt a p v) s = .next (s.becomes (let e : Dev := { d with prt := { d.prt with crankHeld := d.prt.crankHeld.filter (· ≠ p) } }; (e.linkSet p false).train p (e.maxRate p)))) ∧
  (∀ (s : State) (dt p v : Nat) (a : Sys2Proof.Acc), let d := s.now dt
    16 ≤ p → p < 28 → d.mayWrite s.mem a (PORT_CTL p) → bit 1 v = true → d.fld (PORT_CAN_STS_STATE p) = 3 → 
    exec (.canRecover dt a p v) s = .next (s.becomes ({ d with prt := { d.prt with recovering := insertNat p d.prt.recovering } }))) ∧
  (∀ (s : State) (dt p v : Nat) (a : Sys2Proof.Acc), let d := s.now dt
    p < 16 → d.mayWrite s.mem a (PORT_CTL p) → bit 0 v = false → bit 2 v = true → d.on (PORT_STS_LINK p) = false → d.portOn p = true → 
    exec (.cableTest dt a p v) s = .next (s.becomes (d.put (PORT_PHY_STS_TRAIN p) 4))) ∧
  (∀ (s : State) (dt p cable dist : Nat), let d := s.now dt
    p < 16 → d.fld (PORT_PHY_STS_TRAIN p) = 4 → exec (.cableTestDone dt p cable dist) s = .next (s.becomes (((d.put (PORT_PHY_STS_CABLE p) cable).put (PORT_PHY_STS_CABLE_DIST p) dist).put (PORT_PHY_STS_TRAIN p) 1))) ∧
  (∀ (s : State) (dt p : Nat), let d := s.now dt
    p = 14 ∨ p = 15 → d.on (PORT_PLCA_CFG_EN p) = true → d.fld (PORT_PLCA_CFG_NODE_ID p) ≠ 0 → d.on (PORT_PLCA_STS_STATUS p) = true → 
    exec (.plcaBeaconLoss dt p) s = .next (s.becomes ((((d.clr (PORT_PLCA_STS_STATUS p)).bumpF (PORT_PLCA_STS_BEACON_LOSS p)).portState p (PORT_STS_PLCA_CHG p)).portPost p 0x000B 1))) ∧
  (∀ (s : State) (dt p : Nat), let d := s.now dt
    p = 14 ∨ p = 15 → d.on (PORT_PLCA_CFG_EN p) = true → d.fld (PORT_PLCA_CFG_NODE_ID p) ≠ 0 → d.portOn p = true → 
    exec (.plcaBeaconReturn dt p) s = .next (s.becomes (d.set (PORT_PLCA_STS_STATUS p)))) ∧
  (∀ (s : State) (dt p v : Nat) (a : Sys2Proof.Acc), let d := s.now dt
    p < 6 → d.mayWrite s.mem a (PORT_MSEC_TXSA p) → exec (.msecTxsaSwitch dt a p v) s = .next (s.becomes (d.put (PORT_MSEC_TXSA_AN p) v)))

/-- Frames, errors, buffers and attempts of CAN, transceiver faults, LIN headers, responses and schedules (PRESUMED parts: log entries 25, 71) (spec/08_network_ports.md: R226, R227, R228, R229, R230, R231, R232, R233, R234, R235). -/
def Obligations.BusCommandsTakeEffect : Prop :=
  (∀ (s : State) (dt p ts256 : Nat) (car : List Nat), let d := s.now dt
    16 ≤ p → p < 28 → d.on (PORT_STS_LINK p) = true → d.portOwner p ≠ 15 → d.sidAt p ts256 = 0 → d.fld (SID_PORT_STS_STATE p) < 2 → d.canFormat p car = true → (d.countRx p (carDlen car)).fld (PORT_CAN_STS_REC p) ≤ 127 → (d.countRx p (carDlen car)).canFrozen p = false → 
    exec (.canFrameReceived dt p ts256 car) s = .next (s.becomes ((((d.countRx p (carDlen car)).put (PORT_CAN_STS_REC p) ((d.countRx p (carDlen car)).fld (PORT_CAN_STS_REC p) - 1)).canConfine p ((d.countRx p (carDlen car)).fld (PORT_CAN_STS_TEC p))).injectCarriage p ts256 car))) ∧
  (∀ (s : State) (dt p lec : Nat) (by8 : Bool), let d := s.now dt
    16 ≤ p → p < 28 → lec < 7 → lec ≠ 0 → d.on (PORT_STS_LINK p) = true → (d.put (PORT_CAN_STS_LEC p) lec).canFrozen p = false → 
    exec (.canReceiveError dt p lec by8) s = .next (s.becomes (let e := (d.put (PORT_CAN_STS_LEC p) lec).portErr p (PORT_RX_ERR p); (e.put (PORT_CAN_STS_REC p) (min (e.fld (PORT_CAN_STS_REC p) + (if by8 then 8 else 1)) 255)).canConfine p (e.fld (PORT_CAN_STS_TEC p))))) ∧
  (∀ (s : State) (dt p : Nat) (by8 : Bool), let d := s.now dt
    16 ≤ p → p < 28 → d.on (PORT_STS_LINK p) = true → exec (.canReceiveError dt p 0 by8) s = .next (s.becomes ((d.bump (PORT_FMT_CNT p)).portEvent p (PORT_STS_ERR p)))) ∧
  (∀ (s : State) (dt p : Nat) (f : Frame) (c : Copy), let d := s.now dt
    16 ≤ p → p < 28 → d.on (PORT_STS_LINK p) = true → d.fld (SID_PORT_STS_STATE p) = 0 → p ∉ d.sid.acting → (d.canBufs p).length < 4 → d.nextClose p 7 = none → d.busHead p 7 = some (f, c) → 
    exec (.canTxBufferLoad dt p) s = .next (s.becomes (let e := d.startBus f c; { e with prt := { e.prt with canBuf := tset [] (d.canBufs p ++ [{ frame := f.id, dur := e.canDur p f.bytes, attempts := 0 }]) p e.prt.canBuf } }))) ∧
  (∀ (s : State) (dt p : Nat) (b : CanBuf) (f : Frame), let d := s.now dt
    16 ≤ p → p < 28 → d.on (PORT_STS_LINK p) = true → d.fld (SID_PORT_STS_STATE p) = 0 → d.canFront p = some (b, f) → ((d.dropBuf p b).countTx p (carDlen f.bytes) f.wb.len).canFrozen p = false → 
    exec (.canTxAttemptEnd dt p .ok) s = .next (s.becomes (let x := (((d.dropBuf p b).countTx p (carDlen f.bytes) f.wb.len).canConfine p (d.fld (PORT_CAN_STS_TEC p) - 1)).tallyP p 0x41 f.cells; (x.sampleTail f.id (some p) (x.copyBad f.id p)).resolve f.id p (!x.copyBad f.id p)))) ∧
  (∀ (s : State) (dt p : Nat), let d := s.now dt
    16 ≤ p → p < 28 → d.fld (PORT_CAN_STS_STATE p) = 3 → d.prt.recovering.contains p = true → 
    exec (.busOffRecoveryDone dt p) s = .next (s.becomes (let e : Dev := { d with prt := { d.prt with recovering := d.prt.recovering.filter (· ≠ p) } }; let e := (if e.canFrozen p then e else (e.put (PORT_CAN_STS_REC p) 0).put (PORT_CAN_STS_TEC p) 0).canState p 1; if e.portOn p then (e.put (FAB_PORT_CFG_RATE p) 8).linkSet p true else e))) ∧
  (∀ (s : State) (dt p k : Nat), let d := s.now dt
    16 ≤ p → p < 36 → k < 4 → d.frm.beyvoUp = true → d.portUsed p = true → 
    exec (.transceiverFault dt p k) s = .next (s.becomes (let e := ((d.set ⟨PORT_TRX_STS p, k, k⟩).portEvent p (PORT_STS_TRX_FAULT p)).portPost p 0x0008 1 [2 ^ k]; if k = 0 ∨ k = 3 then e.linkSet p false else e))) ∧
  (∀ (s : State) (dt p k : Nat), let d := s.now dt
    16 ≤ p → p < 36 → k < 4 → d.frm.beyvoUp = false ∨ d.portUsed p = false → 
    exec (.transceiverFault dt p k) s = .next (s.becomes (d))) ∧
  (∀ (s : State) (dt p : Nat) (f : Frame) (c : Copy), let d := s.now dt
    28 ≤ p → p < 36 → d.busHead p 7 = some (f, c) → d.fld (PORT_LIN_ID_DIR p (carId f.bytes % 64)) = 1 → carDlen f.bytes = d.fld (PORT_LIN_ID_LEN p (carId f.bytes % 64)) → 
    exec (.linCarriageEgress dt p) s = .next (s.becomes ((((((d.startBus f c).setLinPub p (carId f.bytes % 64) { data := (f.bytes.drop 16).take (carDlen f.bytes), fresh := true }).countTx p (carDlen f.bytes) f.wb.len).tallyP p 0x41 f.cells).sampleTail f.id (some p) false).resolve f.id p true))) ∧
  (∀ (s : State) (dt p ts256 pid : Nat) (syncOk : Bool), let d := s.now dt
    28 ≤ p → p < 36 → d.on (PORT_LIN_CFG_ROLE p) = false → d.on (PORT_STS_LINK p) = true → syncOk = false → 
    exec (.linHeaderReceived dt p ts256 syncOk pid) s = .next (s.becomes (d.linError p (PORT_LIN_STS_SYNC_ERR p)))) ∧
  (∀ (s : State) (dt p ts256 pid : Nat) (syncOk : Bool), let d := s.now dt
    28 ≤ p → p < 36 → d.on (PORT_LIN_CFG_ROLE p) = false → d.on (PORT_STS_LINK p) = true → syncOk = true → linPid (pid % 64) ≠ pid % 256 → 
    exec (.linHeaderReceived dt p ts256 syncOk pid) s = .next (s.becomes (d.linError p (PORT_LIN_STS_PID_ERR p)))) ∧
  (∀ (s : State) (dt p ts256 pid : Nat) (syncOk : Bool), let d := s.now dt
    28 ≤ p → p < 36 → d.on (PORT_LIN_CFG_ROLE p) = false → d.on (PORT_STS_LINK p) = true → syncOk = true → linPid (pid % 64) = pid % 256 → d.linPublishes p (pid % 64) = false → 
    exec (.linHeaderReceived dt p ts256 syncOk pid) s = .next (s.becomes (d.linStart p { id := pid % 64, type := 0, ts256 := ts256, pub := false, gts := false, st := d.fld (SID_PORT_STS_STATE p) }))) ∧
  (∀ (s : State) (dt p : Nat) (n : LinNow), let d := s.now dt
    28 ≤ p → p < 36 → d.on (PORT_STS_LINK p) = true → d.linBusy p = some n → (d.linEnd p).fld (PORT_LIN_ID_DIR p n.id) = 2 → ((d.linEnd p).linError p (PORT_LIN_STS_NO_RESP p)).on (PORT_LIN_ID_REPORT_NO_RESP p n.id) = false → 
    exec (.linResponseReceived dt p .missing) s = .next (s.becomes ((d.linEnd p).linError p (PORT_LIN_STS_NO_RESP p)))) ∧
  (∀ (s : State) (dt n : Nat), let d := s.now dt
    n < 256 → n ≠ 0 → d.ttKind n = 3 → d.fld (STG_TT_CTL_WORK n) = 1 → d.ttApplies n d.phase = true → 28 ≤ d.fld (STG_TT_CTL_PARAM n) → d.fld (STG_TT_CTL_PARAM n) < 36 → d.inStage (d.fld (STG_TT_START_NS n)) = true → 
    exec (.linScheduleSlot dt n) s = .next (s.becomes (d.linSlot (d.fld (STG_TT_CTL_PARAM n))))) ∧
  (∀ (s : State) (dt p v : Nat) (a : Sys2Proof.Acc), let d := s.now dt
    28 ≤ p → p < 36 → d.mayWrite s.mem a (PORT_LIN_SCHED p) → d.on (PORT_LIN_SCHED_RUN p) = false → bit 8 v = true → bit 1 v = false → 
    exec (.linSchedRun dt a p v) s = .next (s.becomes ({ (d.put (PORT_LIN_SCHED_RUN p) 1) with prt := { d.prt with linLeft := terase p d.prt.linLeft, linDue := d.prt.linDue.filter (· ≠ p) } }))) ∧
  (∀ (s : State) (dt p v : Nat) (a : Sys2Proof.Acc), let d := s.now dt
    28 ≤ p → p < 36 → d.mayWrite s.mem a (PORT_LIN_SCHED p) → bit 8 v = d.on (PORT_LIN_SCHED_RUN p) → bit 1 v = true → (d.put (PORT_LIN_SCHED_RUN p) (b2n (bit 8 v))).on (PORT_LIN_SCHED_PENDING p) = false → 
    exec (.linSchedSwitch dt a p v) s = .next (s.becomes ((d.put (PORT_LIN_SCHED_RUN p) (b2n (bit 8 v))).set (PORT_LIN_SCHED_PENDING p))))

/-- Requests, acknowledgements, the handshake's end, wakes, confirmations, windows, lockouts and the transceivers' fail-safe (spec/09_siding_sleep_wake.md: R240, R242, R243, R246, R247, R249, R255, R256, R259, spec/18_power_states_and_supply.md: R431, R445). -/
def Obligations.SidingCommandsTakeEffect : Prop :=
  (∀ (s : State) (dt p v : Nat) (a : Sys2Proof.Acc), let d := s.now dt
    p < 36 → d.mayWrite s.mem a (SID_PORT_CTL p) → v % 8 = 0 → ((d.put (SID_PORT_CTL_REQ p) 0).put (SID_PORT_CTL_AT_TICK p) 0).fld SID_STS_STATE = 0 → 
    exec (.portRequestActive dt a p v) s = .next (s.becomes (((d.put (SID_PORT_CTL_REQ p) 0).put (SID_PORT_CTL_AT_TICK p) 0).portRequest p 0))) ∧
  (∀ (s : State) (dt p v : Nat) (a : Sys2Proof.Acc), let d := s.now dt
    p < 36 → d.mayWrite s.mem a (SID_PORT_CTL p) → v % 8 = 1 → ((d.put (SID_PORT_CTL_REQ p) 1).put (SID_PORT_CTL_AT_TICK p) 0).fld SID_STS_STATE = 0 → 
    exec (.portRequestIgnore dt a p v) s = .next (s.becomes (((d.put (SID_PORT_CTL_REQ p) 1).put (SID_PORT_CTL_AT_TICK p) 0).portRequest p 1))) ∧
  (∀ (s : State) (dt p v : Nat) (a : Sys2Proof.Acc), let d := s.now dt
    p < 36 → d.mayWrite s.mem a (SID_PORT_CTL p) → v % 8 = 2 → ((d.put (SID_PORT_CTL_REQ p) 2).put (SID_PORT_CTL_AT_TICK p) 0).fld SID_STS_STATE = 0 → 
    exec (.portRequestAsleep dt a p v) s = .next (s.becomes (((d.put (SID_PORT_CTL_REQ p) 2).put (SID_PORT_CTL_AT_TICK p) 0).portRequest p 2))) ∧
  (∀ (s : State) (dt p : Nat), let d := s.now dt
    p < 16 → p ∈ d.sid.acting → exec (.portSleepAck dt p) s = .next (s.becomes (d.sleepNow p))) ∧
  (∀ (s : State) (dt : Nat), let d := s.now dt
    d.fld SID_STS_STATE = 3 → exec (.entryComplete dt) s = .next (s.becomesM (d.asleep (d.fld SID_STS_TARGET)) (Mem.flashOnly s.mem))) ∧
  (∀ (s : State) (dt : Nat), let d := s.now dt
    d.fld SID_STS_STATE = 1 → d.on SID_SLEEP_CFG_TMO_ABORT = true → d.sid.enteredAt + 1000000 * d.fld SID_SLEEP_CFG_PRE_TMO_MS ≤ d.up → 
    exec (.preSleepTimeout dt) s = .next (s.becomes (d.sleepAbort 0x3F 0))) ∧
  (∀ (s : State) (dt src cause : Nat) (sig : WakeSignal) (c : WakeCfg) (e : Dev), let d := s.now dt
    src < 44 → d.srcArmed src = some c → d.srcWorks src c.mode = true → d.wakeSeen src c sig = (some cause, e) → e.sid.asleep = 1 → e.sid.noted = true → e.goesFirst src = false → 
    exec (.wakeDetected dt src sig) s = .next (s.becomes ((((({ (e.wakeAll src) with sid := { e.sid with noted := true } } : Dev).wakePost src cause).confirmOpen src).standbyPort src)))) ∧
  (∀ (s : State) (dt bootsel : Nat) (meshOk : Bool), let d := s.now dt
    bootsel < 4 → d.sid.asleep = 1 → d.sid.noted = true → exec (.sleepExit dt bootsel meshOk) s = .next (s.becomesM (d.exitSleep.start { cause := 8, block := 0, code := 0 } bootsel) (Mem.atBoot s.mem))) ∧
  (∀ (s : State) (dt v : Nat) (a : Sys2Proof.Acc), let d := s.now dt
    d.mayWrite s.mem a SID_CONFIRM → bits 5 0 v < 36 → a.guard = true ∨ a.owner = d.portOwner (bits 5 0 v) → d.fld (SID_SRC_STS_STATE (bits 5 0 v)) = 1 → 
    exec (.sidConfirm dt a v) s = .next (s.becomes (((d.put (SID_SRC_STS_STATE (bits 5 0 v)) 0).clr (SID_SRC_STS_FW_CNT (bits 5 0 v))).confEnd (bits 5 0 v)))) ∧
  (∀ (s : State) (dt src : Nat), let d := s.now dt
    src < 36 → d.fld (SID_SRC_STS_STATE src) = 1 → d.fld (SID_SRC_STS_FW_CNT src) + 1 < d.sidKept.fw % 16 → tget 0 d.sid.confAt src - 1 + 1000000 * (d.sidKept.confirm % 65536) ≤ d.up → 
    exec (.confirmationWindowEnd dt src) s = .next (s.becomes ((d.confEnd src).falseWake src (d.fld (SID_SRC_STS_FW_CNT src) + 1)))) ∧
  (∀ (s : State) (dt src : Nat), let d := s.now dt
    src < 36 → d.fld (SID_SRC_STS_STATE src) = 1 → d.sidKept.fw % 16 ≤ d.fld (SID_SRC_STS_FW_CNT src) + 1 → tget 0 d.sid.confAt src - 1 + 1000000 * (d.sidKept.confirm % 65536) ≤ d.up → 
    exec (.confirmationWindowEnd dt src) s = .next (s.becomes ((d.confEnd src).lockOut src (bits 31 16 d.sidKept.fw)))) ∧
  (∀ (s : State) (dt src : Nat), let d := s.now dt
    src < 36 → d.fld (SID_SRC_STS_STATE src) = 2 → d.sid.asleep ≠ 2 → tget 0 d.sid.lockEnd src ≤ d.up → 
    exec (.lockoutExpiry dt src) s = .next (s.becomes (d.unlock src))) ∧
  (∀ (s : State) (dt p : Nat), let d := s.now dt
    16 ≤ p → p < 36 → tget 0 d.sid.standby p ≠ 0 → tget 0 d.sid.standby p - 1 + 1000000 * (d.sidKept.fs % 65536) ≤ d.up → d.frm.beyvoUp = false → d.log.aoQueue.length < 16 → 
    exec (.transceiverFsTimeout dt p) s = .next (s.becomes ({ d with sid := { d.sid with standby := terase p d.sid.standby, fsPend := insertNat p d.sid.fsPend }, log := { d.log with aoQueue := d.log.aoQueue ++ [d.mkRec 0x31 0x000B 1 (d.portOwner p) p [] 2] } })))

/-- What an immediate channel command, a cadence period, an off-edge, a reading and a clear of a counter do to a channel (spec/10_power_channels.md: R269, R270, R272, R273, R276, R277, R278, R280). -/
def Obligations.ChannelCommandsTakeEffect : Prop :=
  (∀ (s : State) (dt i v : Nat) (a : Sys2Proof.Acc), let d := s.now dt
    i < 40 → d.mayWrite s.mem a (CHAN_CMD i) → d.chanOwner i ≠ 15 → d.fld (CHAN_CFG_MODE i) = 0 → d.pairOdd i = false → bits 4 3 v = 1 → 
    exec (.channelCmdOff dt a i v) s = .next (s.becomes (((d.modChan i fun c => { c with pend := [] }).updPend i).cmdEffect i 1 (bits 31 16 v) 2))) ∧
  (∀ (s : State) (dt i v : Nat) (a : Sys2Proof.Acc), let d := s.now dt
    i < 40 → d.mayWrite s.mem a (CHAN_CMD i) → d.chanOwner i ≠ 15 → d.fld (CHAN_CFG_MODE i) = 0 → d.pairOdd i = false → bits 4 3 v = 1 → 
    exec (.channelCmdOn dt a i v) s = .next (s.becomes (((d.modChan i fun c => { c with pend := [] }).updPend i).cmdEffect i 2 (bits 31 16 v) 2))) ∧
  (∀ (s : State) (dt i v : Nat) (a : Sys2Proof.Acc), let d := s.now dt
    i < 40 → d.mayWrite s.mem a (CHAN_CMD i) → d.chanOwner i ≠ 15 → d.fld (CHAN_CFG_MODE i) = 0 → d.pairOdd i = false → d.pairEven i = false → d.on (CHAN_PWM_EN i) = true → bits 4 3 v = 1 → 
    exec (.channelCmdPwm dt a i v) s = .next (s.becomes (((d.modChan i fun c => { c with pend := [] }).updPend i).cmdEffect i 3 (bits 31 16 v) 2))) ∧
  (∀ (s : State) (dt i v : Nat) (a : Sys2Proof.Acc), let d := s.now dt
    i < 40 → d.mayWrite s.mem a (CHAN_CMD i) → d.chanOwner i ≠ 15 → d.fld (CHAN_CFG_MODE i) = 0 → d.pairOdd i = false → d.pairEven i = false → d.on (CHAN_PWM_EN i) = true → bits 4 3 v = 1 → 
    exec (.channelCmdDuty dt a i v) s = .next (s.becomes (((d.modChan i fun c => { c with pend := [] }).updPend i).cmdEffect i 4 (bits 31 16 v) 2))) ∧
  (∀ (s : State) (dt i v : Nat) (a : Sys2Proof.Acc), let d := s.now dt
    i < 40 → d.mayWrite s.mem a (CHAN_CMD i) → d.chanOwner i ≠ 15 → d.fld (CHAN_CFG_MODE i) = 0 → d.pairOdd i = false → d.pairEven i = true → bits 4 3 v = 1 → 
    exec (.channelCmdFwd dt a i v) s = .next (s.becomes (((d.modChan i fun c => { c with pend := [] }).updPend i).cmdEffect i 5 (bits 31 16 v) 2))) ∧
  (∀ (s : State) (dt i v : Nat) (a : Sys2Proof.Acc), let d := s.now dt
    i < 40 → d.mayWrite s.mem a (CHAN_CMD i) → d.chanOwner i ≠ 15 → d.fld (CHAN_CFG_MODE i) = 0 → d.pairOdd i = false → d.pairEven i = true → bits 4 3 v = 1 → 
    exec (.channelCmdRev dt a i v) s = .next (s.becomes (((d.modChan i fun c => { c with pend := [] }).updPend i).cmdEffect i 6 (bits 31 16 v) 2))) ∧
  (∀ (s : State) (dt c : Nat), let d := s.now dt
    c < 8 → d.cadDue c = true → exec (.cadencePeriodStart dt c none) s = .next (s.becomes (let e : Dev := { d with hv := { d.hv with cadAt := tset 0 (d.cadNs / 10 + 1) c d.hv.cadAt, cadNext := tset 0 (d.cadInst c + 1) c d.hv.cadNext } }; let e := e.each ((List.range 40).filter (fun i => e.on (CHAN_PWM_EN i) && e.fld (CHAN_PWM_CADENCE i) == c)) (fun i d => d.modChan i Chan.cadMean); e.each (e.pwmOf c) (fun i d => d.pwmPeriod i)))) ∧
  (∀ (s : State) (dt c i start : Nat), let d := s.now dt
    c < 8 → i < 40 → (d.chan i).onAt = some start → start ≤ d.cadNs → 
    exec (.cadencePeriodStart dt c (some i)) s = .next (s.becomes ((d.modChan i fun x => { x with onAt := none, offAt := some (start + tOn ((d.chan i).pwmDuty.getD 0) (d.cadPeriod (d.requested i).cad)), pwmLvl := true }).updOut i true))) ∧
  (∀ (s : State) (dt i e : Nat), let d := s.now dt
    i < 40 → (d.chan i).offAt = some e → e ≤ d.cadNs → exec (.pwmOffEdge dt i) s = .next (s.becomes ((d.modChan i fun c => { c with offAt := none, pwmLvl := false }).updOut i true))) ∧
  (∀ (s : State) (dt i : Nat) (a : Sys2Proof.Acc), let d := s.now dt
    i < 40 → d.mayWrite s.mem a (CHAN_CTL i) → exec (.qClr dt a i) s = .next (s.becomes ((d.wrPair (CHAN_Q_LO i) (CHAN_Q_HI i) 0).modChan i fun c => { c with qRem := 0 }))) ∧
  (∀ (s : State) (dt i : Nat) (a : Sys2Proof.Acc), let d := s.now dt
    i < 40 → d.mayWrite s.mem a (CHAN_CTL i) → exec (.cntClr dt a i) s = .next (s.becomes (d.wr (CHAN_ON_CNT i) 0))) ∧
  (∀ (s : State) (dt i : Nat) (cur volt voltOdd supply tj : Int), let d := s.now dt
    i < 40 → d.pairOdd i = false → (d.takeReading i cur volt voltOdd tj).fld (CHAN_CFG_MODE i) ≠ 1 → (d.takeReading i cur volt voltOdd tj).isOutput i = false → d.hvRuns = true → 
    exec (.senseReading dt i cur volt voltOdd supply tj) s = .next (s.becomes (d.takeReading i cur volt voltOdd tj))) ∧
  (∀ (s : State) (dt i : Nat) (cur volt voltOdd supply tj : Int), let d := s.now dt
    i < 40 → d.pairOdd i = true → (d.put (CHAN_TJ_TEMP i) (unsgn 16 tj)).isOutput (i - 1) = false → d.hvRuns = true → 
    exec (.senseReading dt i cur volt voltOdd supply tj) s = .next (s.becomes (d.put (CHAN_TJ_TEMP i) (unsgn 16 tj))))

/-- What trips, restarts, unlatching, pull-up tests, model and budgeter updates, releases and retention do to the channels (spec/11_channel_protection.md: R288, R290, R292, R295, R296, R297, R298, R301, R302, R304, R305, R306, R308). -/
def Obligations.ProtectionCommandsTakeEffect : Prop :=
  (∀ (s : State) (dt i : Nat) (seen : ScInput), let d := s.now dt
    i < 40 → d.isOutput i = true → d.out i = true → d.scCrossed i seen = true → 
    exec (.shortCircuitTrip dt i seen) s = .next (s.becomes (d.trip i 0 [scDetail seen]))) ∧
  (∀ (s : State) (dt i : Nat), let d := s.now dt
    i < 40 → (d.chan i).blocking = true → 1000 ≤ (d.chan i).fwdV → 
    exec (.reverseBlockEnd dt i) s = .next (s.becomes ((d.modChan i fun c => { c with blocking := false }).gates i))) ∧
  (∀ (s : State) (dt : Nat), let d := s.now dt
    exec (.modelUpdate dt) s = .next (s.becomes (d.each d.outputs (fun i d => d.modelStep i)))) ∧
  (∀ (s : State) (dt i : Nat), let d := s.now dt
    let ms := if (d.chan i).mCnt = 0 then 0 else (d.chan i).mSq / (d.chan i).mCnt
    let th := relax (d.chan i).theta (d.wireDrive i ms) (100 * d.fld (CHAN_HARN_CFG_TAU i))
    i < 40 → d.isOutput i = true → Completes (.modelUpdate dt) s fun t => (t.dev.chan i).theta = th ∧ (t.dev.chan i).mCnt = 0 ∧ (t.dev.chan i).mSq = 0 ∧ s.sameMem t) ∧
  (∀ (s : State) (dt i : Nat), let d := s.now dt
    let ms := if (d.chan i).mCnt = 0 then 0 else (d.chan i).mSq / (d.chan i).mCnt
    let th := relax (d.chan i).theta (d.wireDrive i ms) (100 * d.fld (CHAN_HARN_CFG_TAU i))
    i < 40 → d.isOutput i = true → d.on (CHAN_STS_HARNESS i) = false → ((d.fld (CHAN_HARN_LIM_T_MAX i) * kelvin : Nat) : Int) ≤ d.tAmb + (th : Int) → 
    Completes (.modelUpdate dt) s fun t => t.dev.on (CHAN_STS_HARNESS i) = true ∧ s.sameMem t) ∧
  (∀ (s : State) (dt i : Nat), let d := s.now dt
    i < 40 → d.on (CHAN_STS_RETRY i) = true → ((d.chan i).tripAt + 1000000 * d.fld (CHAN_RETRY_CFG_DELAY_MS i)) / 10 < d.up / 10 → (d.chan i).freed ≤ d.up / 10 * 10 → d.on (CHAN_STS_LATCHED i) = false → d.on (CHAN_STS_SHED i) = false → d.on (CHAN_STS_HARNESS i) = false → d.on (CHAN_STS_THERMAL i) = false → (d.requested i).kind ≠ 0 → 
    exec (.retryRestart dt i) s = .next (s.becomes (((((d.clr (CHAN_STS_RETRY i)).modChan i fun c => { c with envStart := none }).updOut i).chanEvt (CHAN_PEVT_RESTART i) (CHAN_PINT_EN_RESTART i) i).chanPost i 0x0009 0))) ∧
  (∀ (s : State) (dt i : Nat), let d := s.now dt
    i < 40 → (d.chan i).envStart.isSome = true → d.held i = false → 1000000000 * d.fld (CHAN_GOOD_S_GOOD_S i) ≤ d.conducted i → 
    exec (.retryCountClear dt i) s = .next (s.becomes (d.clr (CHAN_STS_RETRY_CNT i)))) ∧
  (∀ (s : State) (dt i : Nat) (a : Sys2Proof.Acc), let d := s.now dt
    i < 40 → d.mayWrite s.mem a (CHAN_PCTL i) → d.on (CHAN_STS_LATCHED i) = true → d.on (CHAN_STS_HARNESS i) = false → d.on (CHAN_STS_THERMAL i) = false → 
    exec (.unlatch dt a i) s = .next (s.becomes (((((((d.clr (CHAN_STS_LATCHED i)).clr (CHAN_STS_RETRY_CNT i)).clr (CHAN_STS_SC i)).clr (CHAN_STS_OC i)).clr (CHAN_STS_CMD i)).reqChanged i (d.requested i)).chanPost i 0x000B 0))) ∧
  (∀ (s : State) (dt i : Nat) (a : Sys2Proof.Acc), let d := s.now dt
    i < 40 → d.mayWrite s.mem a (CHAN_PCTL i) → d.on (CHAN_STS_LATCHED i) = true → d.on (CHAN_STS_HARNESS i) = true ∨ d.on (CHAN_STS_THERMAL i) = true → 
    exec (.unlatch dt a i) s = .next (s.becomes ((d.chanEvt (CHAN_PEVT_UNLATCH_REF i) (CHAN_PINT_EN_UNLATCH_REF i) i).chanPost i 0x000C 0))) ∧
  (∀ (s : State) (dt i : Nat), let d := s.now dt
    i < 40 → d.isOutput i = true → d.on (CHAN_DIAG_CFG_OL_OFF_EN i) = true → d.out i = false → d.mayOut i = false → d.testDue i = true → 
    exec (.pullUpTest dt i false) s = .next (s.becomes (d.modChan i fun c => { c with testing := true, testAt := some d.up }))) ∧
  (∀ (s : State) (dt i : Nat) (volt : Int), let d := s.now dt
    i < 40 → (d.chan i).testing = true → (d.chan i).testAt.all (fun t => t + d.testLen ≤ d.up) = true → 
    exec (.pullUpTestEnd dt i volt) s = .next (s.becomes (let e := d.modChan i fun c => { c with testing := false }; if 2500000 < volt then ((e.set (CHAN_STS_OPEN_OFF i)).chanEvt (CHAN_PEVT_OPEN_OFF i) (CHAN_PINT_EN_OPEN_OFF i) i).chanPost i 0x000E 0 else e.clr (CHAN_STS_OPEN_OFF i)))) ∧
  (∀ (s : State) (dt logic : Nat), let d := s.now dt
    d.hvRuns = true → exec (.budgeterUpdate dt logic) s = .next (s.becomes (d.budget logic))) ∧
  (∀ (s : State) (dt logic : Nat), let d := s.now dt
    let est := d.estimates logic
    d.hvRuns = true → Completes (.budgeterUpdate dt logic) s fun t => t.dev.rn HPS_BUD_P = min (est.getD 0 0) 65535 + 65536 * min logic 65535 ∧ t.dev.rn HPS_BUD_I = min (est.getD 1 0) 4095 ∧ t.dev.rn HPS_GRP_I = min (est.getD 2 0) 1023 + 1024 * min (est.getD 3 0) 1023 + 1048576 * min (est.getD 4 0) 1023 ∧ t.dev.on HPS_BUD_STS_OVER = decide (reached est d.shedThr ≠ []) ∧ s.sameMem t) ∧
  (∀ (s : State) (dt logic : Nat), let d := s.now dt
    let est := d.estimates logic
    reached est d.shedThr = [] → d.hvRuns = true → 
    Completes (.budgeterUpdate dt logic) s fun t => ∀ i < 40, t.dev.on (CHAN_STS_SHED i) = d.on (CHAN_STS_SHED i) ∧ s.sameMem t) ∧
  (∀ (s : State) (dt logic k i : Nat), let d := s.now dt
    let est := d.estimates logic
    (reached est d.shedThr).find? (fun k => !(d.shedCands k).isEmpty) = some k → d.shedPick (d.shedCands k) = some i → d.hvRuns = true → 
    Completes (.budgeterUpdate dt logic) s fun t => t.dev.on (CHAN_STS_SHED i) = true ∧ t.dev.on (shedFld i) = true ∧ t.dev.on HPS_BUD_STS_SHED = true ∧ s.sameMem t) ∧
  (∀ (s : State) (dt i : Nat), let d := s.now dt
    d.hv.budBelow = true → d.fld HPS_BUD_GRP_REL_MS ≤ d.hv.budRelMs → d.releasePick = some i → 
    exec (.budgetRelease dt) s = .next (s.becomes (let e : Dev := { d with hv := { d.hv with budRelMs := 0 } }; ((((e.clr (CHAN_STS_SHED i)).clr (shedFld i)).modChan i fun c => { c with envStart := none, freed := e.up + 1 }).updOut i).chanPost i 0x0013 0))) ∧
  (∀ (s : State) (dt : Nat), let d := s.now dt
    d.hvRuns = true → exec (.retainedStateWrite dt) s = .next (s.becomes ({ d with hv := { d.hv with retained := (List.range 40).map (fun i => (i, { theta := (d.chan i).theta, phi := (d.chan i).phi, retryCnt := d.fld (CHAN_STS_RETRY_CNT i) })), retainedAt := some d.up } })))

/-- What H-link errors and training, coachman words, window ends, releases and the coast do (spec/11_channel_protection.md: R309, R310, R311, R312, R313, R315, R316). -/
def Obligations.LinkAndWatchdogCommandsTakeEffect : Prop :=
  (∀ (s : State) (dt bad good : Nat) (again : Bool), let d := s.now dt
    d.on HLK_STS_UP = true → d.frm.beyvoUp = true → exec (.hlinkCrcError dt bad good again) s = .next (s.becomes (let n := if again then d.hv.blockErr + 1 else 1; let e := ((({ d with hv := { d.hv with blockErr := n, laneErr := d.laneErrs bad good } } : Dev).bump HLK_RETRY_CNT).tallyD 0x83 1).dropLanes (maskOf ((List.range 4).filter (fun l => 8 ≤ tget 0 (d.laneErrs bad good) l))); if 8 ≤ n ∨ e.fld HLK_STS_LANES = 0 then e.hlinkDown else e))) ∧
  (∀ (s : State) (dt lanes : Nat), let d := s.now dt
    d.on HLK_STS_UP = false → lanes % 16 ≠ 0 → d.frm.beyvoUp = true → 
    exec (.hlinkUp dt lanes) s = .next (s.becomes (((d.put HLK_STS_LANES 15).dropLanes (15 - lanes % 16)).linkTrained))) ∧
  (∀ (s : State) (dt v : Nat) (a : Sys2Proof.Acc), let d := s.now dt
    d.mayWrite s.mem a HLK_CW_WORD → d.on HLK_CW_STS_ARMED = false → 
    exec (.hlkCwWord dt a v) s = .next (s.becomes (d))) ∧
  (∀ (s : State) (dt v : Nat) (a : Sys2Proof.Acc), let d := s.now dt
    d.mayWrite s.mem a HLK_CW_WORD → d.on HLK_CW_STS_ARMED = true → v = coachmanWord (d.fld HLK_CW_SEED_SEED) (d.fld HLK_CW_SEED_SEQ) (d.fld HLK_CW_CFG_KEY) → d.on HLK_CW_CFG_EARLY = false → 
    exec (.hlkCwWord dt a v) s = .next (s.becomes (d.cwCorrect))) ∧
  (∀ (s : State) (dt v : Nat) (a : Sys2Proof.Acc), let d := s.now dt
    d.mayWrite s.mem a HLK_CW_WORD → d.on HLK_CW_STS_ARMED = true → v ≠ coachmanWord (d.fld HLK_CW_SEED_SEED) (d.fld HLK_CW_SEED_SEQ) (d.fld HLK_CW_CFG_KEY) → 
    exec (.hlkCwWord dt a v) s = .next (s.becomes (let e := ((((d.bump HLK_CW_ERR_CNT).set HLK_CW_STS_WRONG).raiseIf HLK_CW_INT_EN_EN 297).post 0x50 0x0005 1 8 (d.fld HLK_CW_SEED_SEQ)); if e.hv.cwWrong = 0 then { e with hv := { e.hv with cwWrong := 1 } } else e.cwMiss Dev.standbyAll))) ∧
  (∀ (s : State) (dt : Nat), let d := s.now dt
    d.on HLK_CW_STS_ARMED = true → d.hv.cwStart + d.cwWindow ≤ d.up → 
    exec (.watchdogWindowEnd dt) s = .next (s.becomes (d.cwMiss Dev.standbyAll))) ∧
  (∀ (s : State) (dt v : Nat) (a : Sys2Proof.Acc), let d := s.now dt
    d.mayWrite s.mem a HLK_DS_CTL → bits 31 16 v = 0xD5A0 → bit 0 v = true → d.fld HLK_DS_STS_CAUSE = 1 ∨ d.fld HLK_DS_STS_CAUSE = 2 → 2 ≤ d.hv.cwGood → 
    exec (.hlkDsRelease dt a v) s = .next (s.becomes ({ d with hv := { d.hv with dsRelease := true } }))) ∧
  (∀ (s : State) (dt : Nat), let d := s.now dt
    d.on HLK_DS_STS_APPLIED = false → d.on HLK_DS_STS_COAST = false → d.fld HLK_COAST_CFG_COAST_MS ≠ 0 → d.hvRuns = true → 
    exec (.coastStart dt) s = .next (s.becomes ((((d.dropRelease.clr HLK_CW_STS_ARMED).coastBegin).standbyAll).pin FRM_STS_SAFE_N 1 false))) ∧
  (∀ (s : State) (dt : Nat), let d := s.now dt
    d.on HLK_DS_STS_COAST = true → d.hv.coastAt + 1000000 * d.fld HLK_COAST_CFG_COAST_MS ≤ d.up → 
    exec (.coastExpiry dt) s = .next (s.becomes (d.applyDs 2)))

/-- What conversions, edges, fast samples and the pops of both FIFOs do to a low-power input (spec/12_low_power_inputs.md: R318, R319, R320, R321, R323). -/
def Obligations.LowPowerInputCommandsTakeEffect : Prop :=
  (∀ (s : State) (dt n ua : Nat) (mv : Int) (openSwitch : Bool), let d := s.now dt
    n < 32 → d.lioOn n = true → mv ≤ 65532 → d.lioDue n = true → 
    exec (.lioConversion dt n mv ua openSwitch) s = .next (s.becomes ((((d.modLio n fun l => { l with convAt := some d.up }).put (LIO_STS_VALUE n) (mv / 4).toNat).put (LIO_STS_SAT n) 0).wetCheck n ua openSwitch))) ∧
  (∀ (s : State) (dt n held256 : Nat) (uv : Int) (high : Bool), let d := s.now dt
    let e := ((d.updLevel n high).lioEvt (LIO_EVT_EDGE n) (LIO_INT_EN_EDGE n) n).modLio n fun l => { l with count := (l.count + 1) % 2 ^ 32, lastEdge := some (d.ns256 - held256) }
    n < 32 → d.lioSide n uv = some high → 256 * d.lioDeb n ≤ held256 → d.lioCompares n = true → d.on (LIO_STS_LEVEL n) ≠ high → d.tim.mode ≠ .frozen → (d.lio n).lastEdge.all (fun t => decide (t + 256000 ≤ d.ns256 - held256)) = true → (e.lio n).edges.length < 8 → 
    exec (.lioEdge dt n uv held256) s = .next (s.becomes (e.modLio n fun l => { l with edges := l.edges ++ [{ time256 := d.ns256 - held256, falling := !high }] }))) ∧
  (∀ (s : State) (dt n : Nat) (a : Sys2Proof.Acc) (e : Edge) (rest : List Edge), let d := s.now dt
    n < 32 → d.mayRead s.mem a (LIO_EDGE_LO n) → (d.lio n).edges = e :: rest → 
    exec (.lioEdgePop dt a n) s = .next (s.becomes (((((d.modLio n fun l => { l with edges := rest }).wr (LIO_EDGE_LO n) (e.time256 / 256)).wr (LIO_EDGE_HI n) (e.time256 / 256 / 2 ^ 32)).wr (LIO_EDGE_INFO n) (e.time256 % 256 + 256 * b2n e.falling + 512 + 65536 * rest.length + (d.lio n).edgeOvf * 2 ^ 24)).returns (e.time256 / 256 % 2 ^ 32)))) ∧
  (∀ (s : State) (dt n k : Nat), let d := s.now dt
    n < 32 → d.lioOn n = true → d.fastDue n k = true → d.fld (LIO_TIM_FAST n) ≠ 0 → ((d.modLio n fun l => { l with fastAt := some (d.stg.lastTick.getD 0, k) }).lio n).fast.length < 32 → 
    exec (.lioFastSample dt n k) s = .next (s.becomes (let v := d.fld (LIO_STS_VALUE n) + 65536 * d.fld (LIO_STS_LEVEL n) + 2 ^ 20 * (k % 1024) + 2 ^ 30 + 2 ^ 31 * (d.rn STG_NUM % 2); let e := (d.modLio n fun l => { l with fastAt := some (d.stg.lastTick.getD 0, k) }).modLio n fun l => { l with fast := l.fast ++ [v] }; e.put (LIO_FAST_STS_FILL n) (e.lio n).fast.length))) ∧
  (∀ (s : State) (dt n v : Nat) (a : Sys2Proof.Acc) (rest : List Nat), let d := s.now dt
    n < 32 → d.mayRead s.mem a (LIO_FAST n) → (d.lio n).fast = v :: rest → 
    exec (.lioFastPop dt a n) s = .next (s.becomes ((((d.modLio n fun l => { l with fast := rest }).put (LIO_FAST_STS_FILL n) rest.length).wr (LIO_FAST n) v).returns v))) ∧
  (∀ (s : State) (dt n : Nat) (a : Sys2Proof.Acc), let d := s.now dt
    n < 32 → d.mayRead s.mem a (LIO_FAST n) → (d.lio n).fast = [] → 
    exec (.lioFastPop dt a n) s = .next (s.becomes ((d.wr (LIO_FAST n) 0).returns 0)))

/-- Manifest edits, GCALL and GRET, Guard's time limits, re-measurement, quiescing (the timeout's fault names no core: log entry 59) and interrupts (spec/13_coaches_and_worlds.md: R337, R338, R340, R342, R343, R344, R346, R348, R349, spec/23_address_map.md: R498). -/
def Obligations.WorldAndInterruptCommandsTakeEffect : Prop :=
  (∀ (s : State) (dt v : Nat) (a : Sys2Proof.Acc), let d := s.now dt
    d.mayWrite s.mem a MAN_EDIT_CMD → bits 31 16 v = 0x3A11 → bit 0 v = true → d.on MAN_EDIT_STS_BUSY = false → 
    exec (.manEditCmd dt a v) s = .next (s.becomes ({ (d.set MAN_EDIT_STS_BUSY) with wld := { d.wld with edit := some (d.fld MAN_EDIT_IDX_IDX, d.rn MAN_EDIT_VAL) } }))) ∧
  (∀ (s : State) (dt i v : Nat), let d := s.now dt
    d.wld.edit = some (i, v) → editResult s.mem i v = 0 → exec (.manEditDone dt) s = .next (s.becomesM (((((({ d with wld := { d.wld with edit := none } } : Dev).clr MAN_EDIT_STS_BUSY).put MAN_EDIT_STS_RESULT 0).set MAN_STS_EDIT_DONE).raiseIf MAN_INT_EN_EDIT_DONE 361).post 0x05 0x0002 0 9 i [i]) (editMem s.mem i v))) ∧
  (∀ (s : State) (dt i v : Nat), let d := s.now dt
    d.wld.edit = some (i, v) → editResult s.mem i v ≠ 0 → exec (.manEditDone dt) s = .next (s.becomesM (((((({ d with wld := { d.wld with edit := none } } : Dev).clr MAN_EDIT_STS_BUSY).put MAN_EDIT_STS_RESULT (editResult s.mem i v)).set MAN_STS_EDIT_DONE).raiseIf MAN_INT_EN_EDIT_DONE 361).post 0x05 0x0003 1 9 (editResult s.mem i v)) (s.mem))) ∧
  (∀ (s : State) (dt core imm : Nat), let d := s.now dt
    core < 12 → d.inGuard core = false → d.on (MAN_CORE_GINFO_REMEASURING core) = false → d.frm.beyvoUp = true → 
    exec (.gcall dt core imm) s = .next (s.becomes (let e := d.tallyC core 0x0C 1; ((e.put (MAN_CORE_GINFO_IMM core) imm).put (MAN_CORE_GINFO_CALLER core) (e.fld (MAN_CORE_CFG_OWNER core))).enterGuard core))) ∧
  (∀ (s : State) (dt core : Nat), let d := s.now dt
    core < 12 → d.fld (MAN_CORE_CFG_OWNER core) ≠ 8 → d.on (MAN_CORE_GINFO_IN_GUARD core) = true → d.frm.beyvoUp = true → 
    exec (.gret dt core) s = .next (s.becomes (d.leaveGuard core))) ∧
  (∀ (s : State) (dt core : Nat), let d := s.now dt
    core < 12 → tget 0 d.wld.glimit core ≠ 0 → tget 0 d.wld.glimit core / 10 < d.up / 10 → 
    exec (.guardTimeLimitExpiry dt core) s = .next (s.becomes (let e := d.leaveGuard core; ((({ e with wld := { e.wld with result := tset 0 0xFFFF0001 core e.wld.result } } : Dev).set MAN_STS_GLIMIT).raiseIf MAN_INT_EN_GLIMIT 362).faultPost 2 0x05 0x0004 8 core [] { core := some core }))) ∧
  (∀ (s : State) (dt core : Nat), let d := s.now dt
    core < 12 → d.up / 10 ≤ tget 0 d.wld.glimit core / 10 → exec (.guardTimeLimitExpiry dt core) s = .next (s.becomes (d))) ∧
  (∀ (s : State) (dt core : Nat), let d := s.now dt
    core < 12 → d.on (MAN_CORE_GINFO_REMEASURING core) = true → exec (.remeasurementDone dt core) s = .next (s.becomes (if d.guardIntact s.mem then ((((d.clr (MAN_CORE_GINFO_REMEASURING core)).pairRun core).bumpF (MAN_CORE_GINFO_RESTART_CNT core)).set (MAN_CORE_GINFO_RESTARTED core)).post 0x05 0x0005 0 9 core else d.faultPost 3 0x05 0x0006 9 core))) ∧
  (∀ (s : State) (dt core : Nat) (a : Sys2Proof.Acc), let d := s.now dt
    core < 12 → d.mayRead s.mem a (MAN_CORE_GINFO core) → exec (.manGinfoRead dt a core) s = .next (s.becomes (((d.clr (MAN_CORE_GINFO_RESTARTED core)).clr (MAN_CORE_GINFO_NOT_QUIESCED core)).returns (putBits (MAN_CORE_GINFO_IN_GUARD core).hi (MAN_CORE_GINFO_IN_GUARD core).lo (d.rn (MAN_CORE_GINFO core)) (b2n (d.inGuard core)))))) ∧
  (∀ (s : State) (dt v : Nat) (a : Sys2Proof.Acc), let d := s.now dt
    d.mayWrite s.mem a PWRM_GUARD_QUIESCED → bits 31 16 v = 0x9E5C → d.wld.quiesceAt.isSome = true → 
    exec (.pwrmGuardQuiesced dt a v) s = .next (s.becomes ({ d with wld := { d.wld with quiesced := true, quiesceAt := none } }))) ∧
  (∀ (s : State) (dt t : Nat), let d := s.now dt
    d.wld.quiesceAt = some t → t ≤ d.up → exec (.guardQuiesceTimeout dt) s = .next (s.becomes (((({ d with wld := { d.wld with quiesced := true, quiesceAt := none, notQuiesced := true } } : Dev).set MAN_STS_NOT_QUIESCED).raiseIf MAN_INT_EN_NOT_QUIESCED 363).faultPost 2 0x05 0x0008 8 0))) ∧
  (∀ (s : State) (dt src : Nat), let d := s.now dt
    src < 376 → realSource src = true → exec (.interruptRaised dt src) s = .next (s.becomes ((d.raise src).present))) ∧
  (∀ (s : State) (dt src : Nat), let d := s.now dt
    src < 376 → realSource src = false → exec (.interruptRaised dt src) s = .next (s.becomes (d))) ∧
  (∀ (s : State) (dt core : Nat) (g : Bool) (a : Sys2Proof.Acc), let d := s.now dt
    core < 12 → d.mayRead s.mem a (IRQ_LC_CLAIM core (b2n g)) → d.presented core g = none → 
    exec (.irqClaim dt a core g) s = .next (s.becomes (d.returns 0x3FF))) ∧
  (∀ (s : State) (dt core src : Nat) (a : Sys2Proof.Acc), let d := s.now dt
    core < 12 → d.mayRead s.mem a (IRQ_LC_CLAIM core 0) → d.presented core false = some src → src ≠ 512 → 
    exec (.irqClaim dt a core false) s = .next (s.becomes (let e := d.clr ⟨IRQ_PEND (src / 32), src % 32, src % 32⟩; ((({ e with wld := { e.wld with active := (core, false, src) :: e.wld.active } } : Dev).updActive core false).tallyC core 0x0A 1).returns src))) ∧
  (∀ (s : State) (dt core v : Nat) (g : Bool) (a : Sys2Proof.Acc), let d := s.now dt
    core < 12 → d.mayWrite s.mem a (IRQ_LC_EOI core (b2n g)) → (core, g, bits 9 0 v) ∈ d.wld.active → 
    exec (.irqEoi dt a core g v) s = .next (s.becomes (({ d with wld := { d.wld with active := d.wld.active.erase (core, g, bits 9 0 v) } } : Dev).updActive core g))) ∧
  (∀ (s : State) (dt core v : Nat) (g : Bool) (a : Sys2Proof.Acc), let d := s.now dt
    core < 12 → d.mayWrite s.mem a (IRQ_LC_EOI core (b2n g)) → (core, g, bits 9 0 v) ∉ d.wld.active → 
    exec (.irqEoi dt a core g v) s = .next (s.becomes ((d.set (IRQ_LC_STS_EOI_ERR core (b2n g))).post 0x06 0x0001 1 9 core)))

/-- What boundary mismatches, folds, infrastructure faults and injections do to a tandem pair (spec/14_tandem_pairs.md: R355, R357, R358, R359, R360, R364). -/
def Obligations.TandemCommandsTakeEffect : Prop :=
  (∀ (s : State) (dt pair kind addr : Nat) (ad dd td ig : Bool), let d := s.now dt
    pair < 4 → kind < 3 → d.pairSees pair = false → exec (.boundaryMismatch dt pair kind ad dd td ig addr) s = .next (s.becomes (d))) ∧
  (∀ (s : State) (dt pair kind addr : Nat) (ad dd td ig : Bool), let d := s.now dt
    let e := (d.bump (TAN_PAIR_BMIS_CNT pair)).pairEvt pair (TAN_PAIR_STS_BMIS pair)
    let f : Dev := { e with tan := { e.tan with injBound := e.tan.injBound.filter (· ≠ pair) } }
    let g := f.faultPost 2 0x07 0x0001 (if ig then 8 else f.pairOwner pair) pair [f.rn (TAN_PAIR_FIRST_INFO pair), addr % 2 ^ 32] { core := some (2 * pair), cause := 2, deferred := true }
    pair < 4 → kind < 3 → d.fld (TAN_PAIR_STS_STATE pair) = 1 → d.on (TAN_PAIR_STS_BMIS pair) = true → g.fld (TAN_PAIR_STS_STATE pair) = 1 → 
    exec (.boundaryMismatch dt pair kind ad dd td ig addr) s = .next (s.becomes (g.pairReset pair 2))) ∧
  (∀ (s : State) (dt pair : Nat) (l w : List Nat), let d := s.now dt
    pair < 4 → d.fld (TAN_PAIR_STS_STATE pair) = 1 → d.tan.foldSince.any (fun x => x.1 == pair) = true → d.foldInterval pair ≤ d.foldRun pair → 
    exec (.foldCapture dt pair l w) s = .next (s.becomes ({ d with tan := { d.tan with fold := tput pair (crc64 (l ++ d.foldLc (2 * pair)), crc64 (w ++ d.foldLc (2 * pair))) (terase pair d.tan.fold), foldAcc := tset 0 (d.foldRun pair - d.foldInterval pair) pair d.tan.foldAcc, foldSince := tput pair d.rtCycle (terase pair d.tan.foldSince) } }))) ∧
  (∀ (s : State) (dt pair i l : Nat), let d := s.now dt
    pair < 4 → d.tan.fold.find? (fun x => x.1 == pair) = some (i, l, l) → d.pairSees pair = true → pair ∉ d.tan.injFold → 
    exec (.foldCompare dt pair) s = .next (s.becomes ({ (d.bump (TAN_PAIR_FOLD_CNT pair)) with tan := { d.tan with fold := terase pair d.tan.fold, injFold := d.tan.injFold.filter (· ≠ pair) } }))) ∧
  (∀ (s : State) (dt pair i l w : Nat), let d := s.now dt
    pair < 4 → d.tan.fold.find? (fun x => x.1 == pair) = some (i, l, w) → d.pairSees pair = true → pair ∉ d.tan.injFold → l ≠ w → 
    exec (.foldCompare dt pair) s = .next (s.becomes (({ (d.bump (TAN_PAIR_FOLD_CNT pair)) with tan := { d.tan with fold := terase pair d.tan.fold, injFold := d.tan.injFold.filter (· ≠ pair) } } : Dev).latent pair l w))) ∧
  (∀ (s : State) (dt pair rail : Nat) (par : Bool), let d := s.now dt
    pair < 4 → d.fld (TAN_PAIR_STS_STATE pair) = 2 → exec (.tandemInfrastructureFault dt pair par rail) s = .next (s.becomes (d))) ∧
  (∀ (s : State) (dt pair rail : Nat) (par : Bool), let d := s.now dt
    pair < 4 → d.fld (TAN_PAIR_STS_STATE pair) = 1 → exec (.tandemInfrastructureFault dt pair par rail) s = .next (s.becomes (d.infraFault pair par rail))) ∧
  (∀ (s : State) (dt v : Nat) (a : Sys2Proof.Acc), let d := s.now dt
    d.mayWrite s.mem a TAN_INJ → bits 31 16 v = 0x7A9D → bits 3 2 v = 0 → d.on MAN_DBG_STS_GUARD_INV = true → d.fld (TAN_PAIR_STS_STATE (bits 1 0 v)) = 1 → 
    exec (.tanInjBoundary dt a v) s = .next (s.becomes (({ d with tan := { d.tan with injBound := insertNat (bits 1 0 v) d.tan.injBound } } : Dev).pairPost (bits 1 0 v) 0x0007 0 [0]))) ∧
  (∀ (s : State) (dt v : Nat) (a : Sys2Proof.Acc), let d := s.now dt
    d.mayWrite s.mem a TAN_INJ → bits 31 16 v = 0x7A9D → bits 3 2 v = 1 → d.on MAN_DBG_STS_GUARD_INV = true → d.fld (TAN_PAIR_STS_STATE (bits 1 0 v)) = 1 → 
    exec (.tanInjFold dt a v) s = .next (s.becomes (({ d with tan := { d.tan with injFold := insertNat (bits 1 0 v) d.tan.injFold } } : Dev).pairPost (bits 1 0 v) 0x0007 0 [1]))) ∧
  (∀ (s : State) (dt v : Nat) (a : Sys2Proof.Acc), let d := s.now dt
    d.mayWrite s.mem a TAN_INJ → bits 31 16 v = 0x7A9D → bits 3 2 v = 2 → d.on MAN_DBG_STS_GUARD_INV = true → d.fld (TAN_PAIR_STS_STATE (bits 1 0 v)) = 1 → 
    exec (.tanInjSelfTest dt a v) s = .next (s.becomes (({ d with tan := { d.tan with injSelf := insertNat (bits 1 0 v) d.tan.injSelf } } : Dev).pairPost (bits 1 0 v) 0x0007 0 [2])))

/-- What GENERATE, DERIVE, UNWRAP, VERIFY_STAGED, COMMIT, DISCARD, INVALIDATE and ERASE do to the key slots, and their STATUS (spec/15_strongbox.md: R366, R367, R371, R372, R373, R374, R375, R385). -/
def Obligations.KeyOperationsChangeTheKeySlots : Prop :=
  (∀ (s : State) (dt a : Nat) (rest : List Nat), let d := s.now dt
    let c := sbxCmd s.mem a
    let x := d.keySlot c.slot
    let r := d.drbgBytes (keyLen c.attr)
    let k : SbKey := { attr := c.attr, use := c.use, parent := none, key := r.1, salt := if bit 16 c.attr then (r.2.drbgBytes 4).1 else [] }
    d.sbx.queue = a :: rest → d.guardMem s.mem a 32 .read = true → d.guardMem s.mem (a + 24) 8 .write = true → c.op = 0x01 → c.slot ≠ 0 → bits 3 0 c.attr ≠ 5 → bits 3 0 c.attr ≠ 6 → attrOk c.attr = true → d.sbx.refused = false → (c.shadow = true ∧ (x.state = 1 ∨ x.state = 3)) ∨ (c.shadow = false ∧ x.state = 0) → 
    Completes (Instr.generate dt) s fun t => t.dev.keySlot c.slot = (if c.shadow then { x with shadow := some (k, false) } else { k := k, gen := 1, state := 1, shadow := none, last := none }) ∧ (∀ j, j ≠ c.slot → t.dev.keySlot j = d.keySlot j) ∧ bits 7 0 (Mem.word t.mem (a + 28)) = 0 ∧ t.pending = s.pending) ∧
  (∀ (s : State) (dt a : Nat) (rest : List Nat), let d := s.now dt
    let c := sbxCmd s.mem a
    let x := d.keySlot c.slot
    let p := d.keySlot c.slot2
    let n := keyLen c.attr + (if bit 16 c.attr then 4 else 0)
    let m := kdf c.prf p.k.key (Mem.bytes s.mem c.inAddr c.inLen ++ [bits 13 10 c.attr, bits 3 0 c.attr] ++ beBytes 4 (8 * n)) n
    let k : SbKey := { attr := c.attr, use := c.use, parent := some c.slot2, key := m.take (keyLen c.attr), salt := m.drop (keyLen c.attr) }
    d.sbx.queue = a :: rest → d.guardMem s.mem a 32 .read = true → d.guardMem s.mem (a + 24) 8 .write = true → c.op = 0x02 → c.slot ≠ 0 → d.guardMem s.mem c.inAddr c.inLen .read = true → attrOk c.attr = true → (c.shadow = true ∧ (x.state = 1 ∨ x.state = 3)) ∨ (c.shadow = false ∧ x.state = 0) → p.state = 1 → p.k.use ≠ 0 → p.k.usage 8 = true → p.k.owner = c.owner → p.k.owner = bits 13 10 c.attr ∨ p.k.owner = 8 → p.k.type = 4 ∨ (c.prf = true ∧ p.k.type = 3) → c.inLen ≤ 128 → 
    Completes (.derive dt) s fun t => t.dev.keySlot c.slot = (if c.shadow then { (d.takeUse c.slot2).keySlot c.slot with shadow := some (k, false) } else { k := k, gen := 1, state := 1, shadow := none, last := none }) ∧
      (c.slot2 ≠ c.slot → (p.k.use = 0xFFFFFFFF → t.dev.keySlot c.slot2 = p) ∧
        (1 < p.k.use → p.k.use < 0xFFFFFFFF → t.dev.keySlot c.slot2 = { p with k := { p.k with use := p.k.use - 1 } }) ∧
        (p.k.use = 1 → (t.dev.keySlot c.slot2).state = 3 ∧ (t.dev.keySlot c.slot2).k.use = 0)) ∧
      (∀ j, j ≠ c.slot → j ≠ c.slot2 → t.dev.keySlot j = d.keySlot j) ∧ bits 7 0 (Mem.word t.mem (a + 28)) = 0 ∧ t.pending = s.pending) ∧
  (∀ (s : State) (dt a : Nat) (rest : List Nat), let d := s.now dt
    let c := sbxCmd s.mem a
    let x := d.keySlot c.slot
    let p := d.keySlot c.slot2
    d.sbx.queue = a :: rest → d.guardMem s.mem a 32 .read = true → d.guardMem s.mem (a + 24) 8 .write = true → c.op = 0x03 → c.slot ≠ 0 → d.guardMem s.mem c.inAddr c.inLen .read = true → (c.shadow = true ∧ (x.state = 1 ∨ x.state = 3)) ∨ (c.shadow = false ∧ x.state = 0) → p.state = 1 → p.k.use ≠ 0 → p.k.usage 9 = true → p.k.owner = c.owner → p.k.type = 2 → 
    Completes (.unwrap dt) s fun t => (∀ plain, Config.unwrap p.k.key (Mem.bytes s.mem c.inAddr c.inLen) = some plain →
        let w := attrOf (leNat (plain.take 4))
        let k : SbKey := { attr := w, use := c.use, parent := none, key := (plain.drop 4).take (keyLen w), salt := plain.drop (4 + keyLen w) }
        attrOk w = true → plain.length = 4 + keyLen w + (if bit 16 w then 4 else 0) →
        t.dev.keySlot c.slot = (if c.shadow then { (d.takeUse c.slot2).keySlot c.slot with shadow := some (k, false) } else { k := k, gen := 1, state := 1, shadow := none, last := none }) ∧ bits 7 0 (Mem.word t.mem (a + 28)) = 0) ∧
      (Config.unwrap p.k.key (Mem.bytes s.mem c.inAddr c.inLen) = none → bits 7 0 (Mem.word t.mem (a + 28)) ≠ 0 ∧ (c.slot ≠ c.slot2 → t.dev.keySlot c.slot = x)) ∧
      (c.slot2 ≠ c.slot → (p.k.use = 0xFFFFFFFF → t.dev.keySlot c.slot2 = p) ∧
        (1 < p.k.use → p.k.use < 0xFFFFFFFF → t.dev.keySlot c.slot2 = { p with k := { p.k with use := p.k.use - 1 } }) ∧
        (p.k.use = 1 → (t.dev.keySlot c.slot2).state = 3 ∧ (t.dev.keySlot c.slot2).k.use = 0)) ∧
      (∀ j, j ≠ c.slot → j ≠ c.slot2 → t.dev.keySlot j = d.keySlot j) ∧ t.pending = s.pending) ∧
  (∀ (s : State) (dt a : Nat) (rest : List Nat), let d := s.now dt
    let c := sbxCmd s.mem a
    let x := d.keySlot c.slot
    d.sbx.queue = a :: rest → d.guardMem s.mem a 32 .read = true → d.guardMem s.mem (a + 24) 8 .write = true → c.op = 0x01 → c.slot ≠ 0 → bits 3 0 c.attr ≠ 5 → bits 3 0 c.attr ≠ 6 → attrOk c.attr = true → c.shadow = false → x.state ≠ 0 → 
    Completes (Instr.generate dt) s fun t => t.dev.sbx.slots = d.sbx.slots ∧ bits 7 0 (Mem.word t.mem (a + 28)) = 0x0D ∧ t.pending = s.pending) ∧
  (∀ (s : State) (dt a : Nat) (rest : List Nat) (was : Bool) (k : SbKey), let d := s.now dt
    let c := sbxCmd s.mem a
    let x := d.keySlot c.slot
    d.sbx.queue = a :: rest → d.guardMem s.mem a 32 .read = true → d.guardMem s.mem (a + 24) 8 .write = true → c.op = 0x20 → c.slot ≠ 0 → c.slot2 = 0xFF → d.guardMem s.mem c.inAddr c.inLen .read = true → c.inLen = 8 → x.shadow = some (k, was) → 
    Completes (.verifyStaged dt) s fun t => t.dev.keySlot c.slot = { x with shadow := some (k, Mem.bytes s.mem c.inAddr 8 == (Config.prf true k.key (ascii "TCHZKCV")).take 8) } ∧ (∀ j, j ≠ c.slot → t.dev.keySlot j = d.keySlot j) ∧
      bits 7 0 (Mem.word t.mem (a + 28)) = (if Mem.bytes s.mem c.inAddr 8 == (Config.prf true k.key (ascii "TCHZKCV")).take 8 then 0 else 0x0A) ∧ t.pending = s.pending) ∧
  (∀ (s : State) (dt a : Nat) (rest : List Nat) (k : SbKey), let d := s.now dt
    let c := sbxCmd s.mem a
    let x := d.keySlot c.slot
    let g := if x.gen = 65535 then 1 else x.gen + 1
    d.sbx.queue = a :: rest → d.guardMem s.mem a 32 .read = true → d.guardMem s.mem (a + 24) 8 .write = true → c.op = 0x21 → c.slot ≠ 0 → x.gen < 65536 → x.state = 1 ∨ x.state = 3 → x.shadow = some (k, true) → 
    Completes (.commit dt) s fun t => t.dev.keySlot c.slot = { k := k, gen := g, state := 1, shadow := none, last := none } ∧
      (∀ j, j ≠ c.slot → Relation.TransGen (fun i j => (d.keySlot j).state ≠ 0 ∧ (d.keySlot j).k.parent = some i) c.slot j → (t.dev.keySlot j).state = 2 ∨ t.dev.keySlot j = SbSlot.empty) ∧
      (∀ j, j ≠ c.slot → j ∉ d.descendants c.slot → t.dev.keySlot j = d.keySlot j) ∧ Mem.word t.mem (a + 28) = 256 + 65536 * g ∧ t.pending = s.pending) ∧
  (∀ (s : State) (dt a : Nat) (rest : List Nat), let d := s.now dt
    let c := sbxCmd s.mem a
    let x := d.keySlot c.slot
    d.sbx.queue = a :: rest → d.guardMem s.mem a 32 .read = true → d.guardMem s.mem (a + 24) 8 .write = true → c.op = 0x21 → c.slot ≠ 0 → x.state = 1 ∨ x.state = 3 → x.shadow.any (fun y => y.2) = false → 
    Completes (.commit dt) s fun t => t.dev.sbx.slots = d.sbx.slots ∧ bits 7 0 (Mem.word t.mem (a + 28)) = 0x0B ∧ t.pending = s.pending) ∧
  (∀ (s : State) (dt a : Nat) (rest : List Nat), let d := s.now dt
    let c := sbxCmd s.mem a
    let x := d.keySlot c.slot
    d.sbx.queue = a :: rest → d.guardMem s.mem a 32 .read = true → d.guardMem s.mem (a + 24) 8 .write = true → c.op = 0x22 → c.slot ≠ 0 → 
    Completes (.discard dt) s fun t => t.dev.keySlot c.slot = { x with shadow := none } ∧ (∀ j, j ≠ c.slot → t.dev.keySlot j = d.keySlot j) ∧ bits 7 0 (Mem.word t.mem (a + 28)) = 0 ∧ t.pending = s.pending) ∧
  (∀ (s : State) (dt a : Nat) (rest : List Nat), let d := s.now dt
    let c := sbxCmd s.mem a
    let x := d.keySlot c.slot
    d.sbx.queue = a :: rest → d.guardMem s.mem a 32 .read = true → d.guardMem s.mem (a + 24) 8 .write = true → c.op = 0x23 → c.slot ≠ 0 → x.state = 1 ∨ x.state = 3 → 
    Completes (.invalidate dt) s fun t => t.dev.keySlot c.slot = (if d.slotBusy c.slot then { x with state := 2, shadow := none, last := none, k := { x.k with key := [], salt := [] } } else SbSlot.empty) ∧
      (∀ j, j ≠ c.slot → Relation.TransGen (fun i j => (d.keySlot j).state ≠ 0 ∧ (d.keySlot j).k.parent = some i) c.slot j → (t.dev.keySlot j).state = 2 ∨ t.dev.keySlot j = SbSlot.empty) ∧
      (∀ j, j ≠ c.slot → j ∉ d.descendants c.slot → t.dev.keySlot j = d.keySlot j) ∧ bits 7 0 (Mem.word t.mem (a + 28)) = 0 ∧ t.pending = s.pending) ∧
  (∀ (s : State) (dt a : Nat) (rest : List Nat), let d := s.now dt
    let c := sbxCmd s.mem a
    let x := d.keySlot c.slot
    d.sbx.queue = a :: rest → d.guardMem s.mem a 32 .read = true → d.guardMem s.mem (a + 24) 8 .write = true → c.op = 0x24 → c.slot ≠ 0 → x.state = 1 ∨ x.state = 3 → d.descendants c.slot = [] → 
    Completes (.erase dt) s fun t => t.dev.keySlot c.slot = (if d.slotBusy c.slot then { x with state := 4, shadow := none, last := none, k := { x.k with key := [], salt := [] } } else SbSlot.empty) ∧
      (∀ j, j ≠ c.slot → t.dev.keySlot j = d.keySlot j) ∧ bits 7 0 (Mem.word t.mem (a + 28)) = 0 ∧ t.pending = s.pending) ∧
  (∀ (s : State) (dt a j : Nat) (rest : List Nat), let d := s.now dt
    let c := sbxCmd s.mem a
    let x := d.keySlot c.slot
    d.sbx.queue = a :: rest → d.guardMem s.mem a 32 .read = true → d.guardMem s.mem (a + 24) 8 .write = true → c.op = 0x24 → c.slot ≠ 0 → x.state = 1 ∨ x.state = 3 → j ≠ c.slot → (d.keySlot j).state ≠ 0 → (d.keySlot j).k.parent = some c.slot → 
    Completes (.erase dt) s fun t => t.dev.sbx.slots = d.sbx.slots ∧ bits 7 0 (Mem.word t.mem (a + 28)) = 0x0C ∧ t.pending = s.pending)

/-- What a submission, a read of SBX_DRBG, TRNG health events and a tamper alarm do (spec/15_strongbox.md: R376, R377, R381, R385). -/
def Obligations.StrongboxCommandsTakeEffect : Prop :=
  (∀ (s : State) (dt v i : Nat) (a : Sys2Proof.Acc), let d := s.now dt
    d.mayWrite s.mem a SBX_SUBMIT → v < 2 ^ 32 → pageIndex v = some i → 0x10000000 ≤ v → v < 0x11800000 → entryOwner (Mem.entry s.mem i) = 8 → entryR (Mem.entry s.mem i) = true → entryW (Mem.entry s.mem i) = true → v % 32 = 0 → d.sbx.queue.length < 8 → 
    exec (.sbxSubmit dt a v) s = .next (s.becomes (({ d with sbx := { d.sbx with queue := d.sbx.queue ++ [v] } } : Dev).put SBX_STS_QFILL (d.sbx.queue.length + 1)))) ∧
  (∀ (s : State) (dt v : Nat) (a : Sys2Proof.Acc), let d := s.now dt
    d.mayWrite s.mem a SBX_SUBMIT → 8 ≤ d.sbx.queue.length → exec (.sbxSubmit dt a v) s = .next (s.becomes ((d.set SBX_STS_SUBMIT_REF).raiseIf SBX_INT_EN_SUBMIT_REF 241))) ∧
  (∀ (s : State) (dt : Nat), let d := s.now dt
    d.frm.beyvoUp = true → exec (.trngHealthFailure dt) s = .next (s.becomes (((({ d with sbx := { d.sbx with refused := true } } : Dev).set SBX_STS_HEALTH).raiseIf SBX_INT_EN_HEALTH 241).post 0x41 0x0009 2 8 0 []))) ∧
  (∀ (s : State) (dt : Nat), let d := s.now dt
    d.frm.beyvoUp = true → exec (.drbgReseedRetry dt true) s = .next (s.becomes ({ d with sbx := { d.sbx with refused := false } }))) ∧
  (∀ (s : State) (dt : Nat) (a : Sys2Proof.Acc), let d := s.now dt
    d.mayRead s.mem a SBX_DRBG → d.sbx.refused = true → exec (.sbxDrbgRead dt a) s = .next (s.becomes (d.returns 0))) ∧
  (∀ (s : State) (dt : Nat) (a : Sys2Proof.Acc), let d := s.now dt
    d.mayRead s.mem a SBX_DRBG → d.sbx.refused = false → exec (.sbxDrbgRead dt a) s = .next (s.becomes (({ d with sbx := { d.sbx with drbg := d.sbx.drbg + 1 } } : Dev).returns (Config.drbgWord d.sbx.drbg % 2 ^ 32)))) ∧
  (∀ (s : State) (dt sources : Nat), let d := s.now dt
    sources &&& d.tamperMask ≠ 0 → d.frm.tamperHold = false → exec (.tamperAlarm dt sources) s = .next (s.becomesM (((d.tamperKeys s.mem).1.tamperHold (sources &&& d.tamperMask))) ((d.tamperKeys s.mem).2))) ∧
  (∀ (s : State) (dt sources : Nat), let d := s.now dt
    sources &&& d.tamperMask = 0 → exec (.tamperAlarm dt sources) s = .next (s.becomes (d)))

/-- What submissions, the seven operations, retries, stalls, revocation, reservations, temporary keys and lane faults do (spec/16_cipher_engine.md: R387, R389, R390, R394, R396, R399, R402, R403). -/
def Obligations.CipherCommandsTakeEffect : Prop :=
  (∀ (s : State) (dt l v i : Nat) (a : Sys2Proof.Acc), let d := s.now dt
    l < 4 → d.mayWrite s.mem a (CE_SUBMIT l) → v < 2 ^ 32 → pageIndex v = some i → 0x10000000 ≤ v → v < 0x11800000 → entryOwner (Mem.entry s.mem i) = 8 → entryR (Mem.entry s.mem i) = true → entryW (Mem.entry s.mem i) = true → v % 128 = 0 → (d.lane l).queue.length < 8 → d.laneUp l = true → 
    exec (.ceSubmit dt a l v) s = .next (s.becomes (d.setLane l { d.lane l with queue := (d.lane l).queue ++ [v] }))) ∧
  (∀ (s : State) (dt l v : Nat) (a : Sys2Proof.Acc), let d := s.now dt
    l < 4 → d.mayWrite s.mem a (CE_SUBMIT l) → 8 ≤ (d.lane l).queue.length → 
    exec (.ceSubmit dt a l v) s = .next (s.becomes (d.set (CE_LSTS_SUBMIT_REF l)))) ∧
  (∀ (s : State) (dt l a : Nat) (rest : List Nat), let d := s.now dt
    l < 4 → (d.lane l).queue = a :: rest → (d.lane l).run = none → d.laneUp l = true → d.gated 1 l = false → (ceCmd s.mem a).op = 0x01 → 
    exec (.encrypt dt l) s = .next (s.becomesM ((d.ceStart s.mem l a).1) ((d.ceStart s.mem l a).2))) ∧
  (∀ (s : State) (dt l a : Nat) (rest : List Nat), let d := s.now dt
    l < 4 → (d.lane l).queue = a :: rest → (d.lane l).run = none → d.laneUp l = true → d.gated 1 l = false → (ceCmd s.mem a).op = 0x02 → 
    exec (.decrypt dt l) s = .next (s.becomesM ((d.ceStart s.mem l a).1) ((d.ceStart s.mem l a).2))) ∧
  (∀ (s : State) (dt l a : Nat) (rest : List Nat), let d := s.now dt
    l < 4 → (d.lane l).queue = a :: rest → (d.lane l).run = none → d.laneUp l = true → d.gated 1 l = false → (ceCmd s.mem a).op = 0x03 → 
    exec (.macGen dt l) s = .next (s.becomesM ((d.ceStart s.mem l a).1) ((d.ceStart s.mem l a).2))) ∧
  (∀ (s : State) (dt l a : Nat) (rest : List Nat), let d := s.now dt
    l < 4 → (d.lane l).queue = a :: rest → (d.lane l).run = none → d.laneUp l = true → d.gated 1 l = false → (ceCmd s.mem a).op = 0x04 → 
    exec (.macVerify dt l) s = .next (s.becomesM ((d.ceStart s.mem l a).1) ((d.ceStart s.mem l a).2))) ∧
  (∀ (s : State) (dt l a : Nat) (rest : List Nat), let d := s.now dt
    l < 4 → (d.lane l).queue = a :: rest → (d.lane l).run = none → d.laneUp l = true → d.gated 1 l = false → (ceCmd s.mem a).op = 0x05 → 
    exec (.hashMsg dt l) s = .next (s.becomesM ((d.ceStart s.mem l a).1) ((d.ceStart s.mem l a).2))) ∧
  (∀ (s : State) (dt l a : Nat) (rest : List Nat), let d := s.now dt
    l < 4 → (d.lane l).queue = a :: rest → (d.lane l).run = none → d.laneUp l = true → d.gated 1 l = false → (ceCmd s.mem a).op = 0x10 → 
    exec (.msecInstall dt l) s = .next (s.becomesM ((d.ceStart s.mem l a).1) ((d.ceStart s.mem l a).2))) ∧
  (∀ (s : State) (dt l a : Nat) (rest : List Nat), let d := s.now dt
    l < 4 → (d.lane l).queue = a :: rest → (d.lane l).run = none → d.laneUp l = true → d.gated 1 l = false → (ceCmd s.mem a).op = 0x11 → 
    exec (.msecRemove dt l) s = .next (s.becomesM ((d.ceStart s.mem l a).1) ((d.ceStart s.mem l a).2))) ∧
  (∀ (s : State) (dt l : Nat) (r : CeRun), let d := s.now dt
    l < 4 → (d.lane l).run = some r → r.why = .output → r.revoked = false → 
    exec (.chunkDeliveryRetry dt l) s = .next (s.becomesM ((Dev.ceDeliver l r r.chunks d s.mem).1) ((Dev.ceDeliver l r r.chunks d s.mem).2))) ∧
  (∀ (s : State) (dt l : Nat) (r : CeRun), let d := s.now dt
    l < 4 → (d.lane l).run = some r → r.why = .output → 1000000 * d.fld CE_CFG_STALL_MS ≤ d.up - r.since → r.revoked = false ∨ r.escrow = false → 
    exec (.outputStallTimeout dt l) s = .next (s.becomesM (((((d.set CE_STS_STALL).raiseIf CE_INT_EN_FAULT 228).cePost 0x0006 1 r.cmd.owner l).ceAbort s.mem l 0x15).1) (((((d.set CE_STS_STALL).raiseIf CE_INT_EN_FAULT 228).cePost 0x0006 1 r.cmd.owner l).ceAbort s.mem l 0x15).2))) ∧
  (∀ (s : State) (dt l : Nat) (r : CeRun), let d := s.now dt
    l < 4 → (d.lane l).run = some r → r.why = .purge → d.ceArrived r = true → 
    exec (.provisionalRevoke dt l) s = .next (s.becomesM (((d.cePurge s.mem r).2.1.ceNotice (d.cePurge s.mem r).2.2 l (d.cePurge s.mem r).1).1) (((d.cePurge s.mem r).2.1.ceNotice (d.cePurge s.mem r).2.2 l (d.cePurge s.mem r).1).2))) ∧
  (∀ (s : State) (dt l : Nat), let d := s.now dt
    l < 4 → (d.lane l).want = true → (d.lane l).run = none → exec (.nonceBlockReserved dt l) s = .next (s.becomesM ((d.odoAdvance 0 (2 ^ 20)).setLane l { d.lane l with spare := some (d.odo 0), want := false }) (s.mem))) ∧
  (∀ (s : State) (dt v : Nat) (a : Sys2Proof.Acc), let d := s.now dt
    d.mayWrite s.mem a CE_KEYLOAD → bit 19 v = false → bits 9 6 v = 2 → 
    exec (.ceKeyload dt a v) s = .next (s.becomes (let k := 16 * bits 1 0 v + bits 5 2 v; { d with ce := { d.ce with keyin := [], temp := tput k { type := 2, owner := bits 17 14 v, key := ((List.range 16).flatMap (fun i => leBytes 4 (tget 0 d.ce.keyin i))).take 32, prov := bit 18 v } (terase k d.ce.temp) } }))) ∧
  (∀ (s : State) (dt v : Nat) (a : Sys2Proof.Acc), let d := s.now dt
    d.mayWrite s.mem a CE_KEYLOAD → bit 19 v = true → exec (.ceKeyloadClr dt a v) s = .next (s.becomes ({ d with ce := { d.ce with temp := terase (16 * bits 1 0 v + bits 5 2 v) d.ce.temp } }))) ∧
  (∀ (s : State) (dt l : Nat), let d := s.now dt
    l < 4 → d.laneUp l = true → d.frm.beyvoUp = true → exec (.laneFault dt l) s = .next (s.becomesM ((d.laneFault s.mem l).1) ((d.laneFault s.mem l).2))) ∧
  (∀ (s : State) (dt v : Nat) (a : Sys2Proof.Acc), let d := s.now dt
    d.mayWrite s.mem a CE_LANE_CTL → exec (.ceLaneReadmit dt a v) s = .next (s.becomes ({ d with ce := { d.ce with testing := ((List.range 4).filter (fun l => bit l v && !d.laneUp l)).foldl (fun t l => insertNat l t) d.ce.testing } }))) ∧
  (∀ (s : State) (dt l : Nat), let d := s.now dt
    l < 4 → l ∈ d.ce.testing → exec (.laneSelfTestDone dt l true) s = .next (s.becomes ((({ d with ce := { d.ce with testing := d.ce.testing.filter (· ≠ l) } } : Dev).set ⟨CE_STS, l, l⟩).cePost 0x0004 0 8 l))) ∧
  (∀ (s : State) (dt l : Nat), let d := s.now dt
    l < 4 → l ∈ d.ce.testing → exec (.laneSelfTestDone dt l false) s = .next (s.becomes (({ d with ce := { d.ce with testing := d.ce.testing.filter (· ≠ l) } } : Dev).cePost 0x0003 1 8 l)))

/-- What the boot sequence, the timers, seal, coach starts, fuses, flash commands and service frames do (spec/17_consist_and_boot.md: R415, R416, R417, R420, R421, R422, R423, R424, R425, R426). -/
def Obligations.BootAndServiceCommandsTakeEffect : Prop :=
  (∀ (s : State) (dt unread : Nat) (iOk sOk : Bool) (odo : List (Nat × Option Nat)), let d := s.now dt
    (odo.all fun x => decide (x.1 < 16)) = true → d.boot.phase = .rom → d.frm.devReset = none → d.frm.bvReset = none → d.bootWaits s.mem = false → 
    exec (.bootSequence dt false unread iOk sOk odo) s = .next (s.becomesM (d.fault 3 0x41 0 8) (s.mem))) ∧
  (∀ (s : State) (dt unread : Nat) (iOk sOk : Bool) (odo : List (Nat × Option Nat)), let d := s.now dt
    (odo.all fun x => decide (x.1 < 16)) = true → d.boot.phase = .rom → d.frm.devReset = none → d.frm.bvReset = none → d.bootWaits s.mem = false → d.fld SYS_BOOT_STS_BOOTSEL = 3 → 
    exec (.bootSequence dt true unread iOk sOk odo) s = .next (s.becomesM ((d.bootKeys odo).enterHold) (s.mem))) ∧
  (∀ (s : State) (dt : Nat), let d := s.now dt
    d.boot.phase = .rom ∨ d.boot.phase = .applied → d.bootWaits s.mem = false → d.frm.devReset = none → d.fld SYS_BOOT_STS_RETRY = 3 → d.boot.timerFrom + 5000000000 ≤ d.up → 
    exec (.bootTimerExpiry dt) s = .next (s.becomes ((d.aoForce 0x80 0x0005 2 3).enterHold))) ∧
  (∀ (s : State) (dt : Nat), let d := s.now dt
    d.boot.phase = .rom ∨ d.boot.phase = .applied → d.bootWaits s.mem = false → d.frm.devReset = none → d.fld SYS_BOOT_STS_RETRY ≠ 3 → d.boot.timerFrom + 5000000000 ≤ d.up → 
    exec (.bootTimerExpiry dt) s = .next (s.becomes (((d.aoForce 0x80 0x0005 2 (d.fld SYS_BOOT_STS_RETRY)).bumpF SYS_BOOT_STS_RETRY).startDeviceReset 4 0 0))) ∧
  (∀ (s : State) (dt : Nat), let d := s.now dt
    d.boot.phase = .rom → d.fld SYS_BOOT_STS_BOOTSEL = 2 → d.on SBX_ROOT_CERT = false → d.boot.releasedAt + 10000000000 ≤ d.up → 
    exec (.certificateWaitTimeout dt) s = .next (s.becomes (d.enterHold))) ∧
  (∀ (s : State) (dt failed : Nat), let d := s.now dt
    d.boot.phase = .applied → d.frm.devReset = none → d.frm.bvReset = none → 
    exec (.seal dt failed) s = .next (s.becomes (d.seal failed))) ∧
  (∀ (s : State) (dt c : Nat), let d := s.now dt
    c < 8 → d.startable c = true → d.startCond c = true → exec (.coachStart dt c) s = .next (s.becomes ((d.coachStart c).post 0x01 0x0001 0 9 c))) ∧
  (∀ (s : State) (dt c : Nat), let d := s.now dt
    c < 8 → d.startable c = true → d.fld (SYS_COACH_START_TMO c) ≠ 0 → d.startCond c = false → d.boot.sealedAt + 100000000 * d.fld (SYS_COACH_START_TMO c) ≤ d.up → 
    exec (.coachStartTimeout dt c) s = .next (s.becomes (((((d.coachStart c).set (SYS_COACH_STS_TMO_START c)).set SYS_STS_TMO_START).raiseIf SYS_INT_EN_START 1).post 0x01 0x0002 1 9 c))) ∧
  (∀ (s : State) (dt v : Nat) (a : Sys2Proof.Acc), let d := s.now dt
    d.mayWrite s.mem a SYS_CTL → bit 0 v = true → exec (.guardGo dt a v) s = .next (s.becomes (d.set SYS_CTL_GUARD_GO))) ∧
  (∀ (s : State) (dt v : Nat) (a : Sys2Proof.Acc), let d := s.now dt
    d.mayWrite s.mem a SYS_ROLLBACK_CMT → bits 31 16 v = 0xB10E → d.fld SBX_ROLLBACK_CONSIST < d.boot.rollback → 
    exec (.sysRollbackCmt dt a v) s = .next (s.becomes (((({ d with boot := { d.boot with blow := some (d.fld SBX_ROLLBACK_CONSIST, d.up) } } : Dev).put SBX_ROLLBACK_CONSIST d.boot.rollback).set SYS_STS_RB_DONE).post 0x01 0x0003 0 9 d.boot.rollback))) ∧
  (∀ (s : State) (dt v : Nat) (a : Sys2Proof.Acc) (c : FlashCmd), let d := s.now dt
    d.mayWrite s.mem a SYS_FLASH_CMD → bits 1 0 v = 1 → d.on SYS_FLASH_STS_BUSY = false → d.flashStart s.mem v = some c → 
    exec (.flashErase dt a v) s = .next (s.becomes (({ d with boot := { d.boot with flash := some c } } : Dev).set SYS_FLASH_STS_BUSY))) ∧
  (∀ (s : State) (dt v : Nat) (a : Sys2Proof.Acc), let d := s.now dt
    d.mayWrite s.mem a SYS_FLASH_CMD → bits 1 0 v = 2 → d.on SYS_FLASH_STS_BUSY = false → d.flashStart s.mem v = none → 
    exec (.flashProgram dt a v) s = .next (s.becomes (((d.set SYS_FLASH_STS_REFUSED).raiseIf SYS_INT_EN_FLASH 0).post 0x01 0x0004 1 9 2))) ∧
  (∀ (s : State) (dt v : Nat) (a : Sys2Proof.Acc) (c : FlashCmd), let d := s.now dt
    d.mayWrite s.mem a SYS_FLASH_CMD → bits 1 0 v = 2 → d.on SYS_FLASH_STS_BUSY = false → d.flashStart s.mem v = some c → 
    exec (.flashProgram dt a v) s = .next (s.becomes (({ d with boot := { d.boot with flash := some c } } : Dev).set SYS_FLASH_STS_BUSY))) ∧
  (∀ (s : State) (dt : Nat) (c : FlashCmd), let d := s.now dt
    d.boot.flash = some c → exec (.flashCommandDone dt true) s = .next (s.becomesM (((({ d with boot := { d.boot with flash := none } } : Dev).clr SYS_FLASH_STS_BUSY).set SYS_FLASH_STS_DONE).raiseIf SYS_INT_EN_FLASH 0) (Mem.setBytes s.mem c.addr (d.flashBytes c true)))) ∧
  (∀ (s : State) (dt : Nat), let d := s.now dt
    d.inService = true → d.boot.answered = false → d.boot.helloAt.all (fun t => decide (t + 100000000 ≤ d.up)) = true → 
    exec (.hello dt) s = .next (s.becomes (({ d with boot := { d.boot with helloAt := some d.up } } : Dev).serviceSend (List.replicate 6 0xFF) 1 0 (d.serial ++ leBytes 4 (d.rn SYS_BOOT_STS) ++ [d.fld SBX_ROLLBACK_CONSIST])))) ∧
  (∀ (s : State) (dt tool offset : Nat) (data : List Nat), let d := s.now dt
    let e := ({ d with boot := { d.boot with answered := true, received := d.boot.received + data.length } } : Dev)
    d.inService = true → data.length ≤ 1024 → offset = d.boot.received → ({ d with boot := { d.boot with answered := true } } : Dev).serviceDone s.mem = false → 
    exec (.data dt tool offset data) s = .next (s.becomesM ((if e.serviceDone (Mem.setBytes s.mem (0x100000000 + offset) data) then ({ e with boot := { e.boot with timerFrom := e.up } } : Dev) else e).serviceSend (beBytes 6 tool) 3 (offset + data.length) []) (Mem.setBytes s.mem (0x100000000 + offset) data))) ∧
  (∀ (s : State) (dt offset : Nat) (data : List Nat), let d := s.now dt
    d.toolOpen = true → data.length ≤ 1024 → offset = d.boot.cert.length → (d.boot.cert ++ data).length < certLen (d.boot.cert ++ data) → 
    exec (.cert dt offset data) s = .next (s.becomes ({ d with boot := { d.boot with cert := d.boot.cert ++ data } }))) ∧
  (∀ (s : State) (dt : Nat) (cert : List Nat), let d := s.now dt
    d.frm.beyvoUp = true → cert.length ≤ 16384 → d.boot.phase = .rom → 
    exec (.certLoad dt cert) s = .next (s.becomes (d.presentCert cert))) ∧
  (∀ (s : State) (dt : Nat) (cert : List Nat), let d := s.now dt
    d.frm.beyvoUp = true → cert.length ≤ 16384 → d.boot.phase = .applied → 
    exec (.certLoad dt cert) s = .next (s.becomes ({ d with boot := { d.boot with lateCert := some cert } }))) ∧
  (∀ (s : State) (dt : Nat), let d := s.now dt
    exec (.certSts dt) s = .next (s.becomes (d.returns (d.boot.certSts + 4 * (d.rn MAN_DBG_STS % 16)))))

/-- What debug reads, writes, halts, resumes and steps do, granted and refused (spec/17_consist_and_boot.md: R426, R428, spec/13_coaches_and_worlds.md: R351). -/
def Obligations.DebugCommandsTakeEffect : Prop :=
  (∀ (s : State) (dt core addr : Nat) (port : Bool) (a : Sys2Proof.Acc), let d := s.now dt
    core < 12 → addr < 2 ^ 64 → d.dbgServed port = true → (d.dbgTaken port 3 core addr).dbgGrant core true = some a → 
    exec (.debugHalt dt port core addr) s = .next (s.becomes (((({ (d.dbgTaken port 3 core addr) with dbg := { (d.dbgTaken port 3 core addr).dbg with halted := insertNat core (d.dbgTaken port 3 core addr).dbg.halted } } : Dev).when (core < 8 && core % 2 == 0) (·.foldStop (core / 2))).post 0x70 0x0003 0 9 core).dbgAnswer port 3 core addr 0 none))) ∧
  (∀ (s : State) (dt core addr : Nat) (port : Bool) (a : Sys2Proof.Acc), let d := s.now dt
    core < 12 → addr < 2 ^ 64 → d.dbgServed port = true → (d.dbgTaken port 4 core addr).dbgGrant core true = some a → core ∈ (d.dbgTaken port 4 core addr).dbg.halted → 
    exec (.debugResume dt port core addr) s = .next (s.becomes ((({ (d.dbgTaken port 4 core addr) with dbg := { (d.dbgTaken port 4 core addr).dbg with halted := (d.dbgTaken port 4 core addr).dbg.halted.filter (· ≠ core) } } : Dev).leaderGoes core).dbgAnswer port 4 core addr 0 none))) ∧
  (∀ (s : State) (dt core addr : Nat) (port : Bool) (a : Sys2Proof.Acc), let d := s.now dt
    core < 12 → addr < 2 ^ 64 → d.dbgServed port = true → (d.dbgTaken port 5 core addr).dbgGrant core true = some a → 
    exec (.debugStep dt port core addr) s = .next (s.becomes ((d.dbgTaken port 5 core addr).dbgAnswer port 5 core addr 0 none))) ∧
  (∀ (s : State) (dt core addr : Nat) (port : Bool), let d := s.now dt
    core < 12 → addr < 2 ^ 64 → d.dbgServed port = true → (d.dbgTaken port 3 core addr).dbgGrant core true = none → 
    exec (.debugHalt dt port core addr) s = .next (s.becomes ((d.dbgTaken port 3 core addr).dbgRefused port 3 core addr))) ∧
  (∀ (s : State) (dt core addr : Nat) (port : Bool), let d := s.now dt
    core < 12 → addr < 2 ^ 64 → d.dbgServed port = true → (d.dbgTaken port 4 core addr).dbgGrant core true = none → 
    exec (.debugResume dt port core addr) s = .next (s.becomes ((d.dbgTaken port 4 core addr).dbgRefused port 4 core addr))) ∧
  (∀ (s : State) (dt core addr : Nat) (port : Bool), let d := s.now dt
    core < 12 → addr < 2 ^ 64 → d.dbgServed port = true → (d.dbgTaken port 5 core addr).dbgGrant core true = none → 
    exec (.debugStep dt port core addr) s = .next (s.becomes ((d.dbgTaken port 5 core addr).dbgRefused port 5 core addr))) ∧
  (∀ (s : State) (dt core addr : Nat) (port : Bool), let d := s.now dt
    core < 12 → addr < 2 ^ 64 → d.dbgServed port = true → (d.dbgTaken port 1 core addr).dbgGrant core false = none → 
    exec (.debugRead dt port core addr) s = .next (s.becomesM ((d.dbgTaken port 1 core addr).dbgRefused port 1 core addr) (s.mem))) ∧
  (∀ (s : State) (dt core addr : Nat) (port : Bool) (a : Sys2Proof.Acc), let d := s.now dt
    core < 12 → addr < 2 ^ 64 → d.dbgServed port = true → (d.dbgTaken port 1 core addr).dbgGrant core false = some a → 
    exec (.debugRead dt port core addr) s = .next (s.becomesM (let r := Dev.dbgAccess { d.dbgTaken port 1 core addr with bus := { data := 0, err := false } } s.mem a .read addr 0; r.1.dbgAnswer port 1 core addr (if r.1.bus.err then 2 else 0) (if r.1.bus.err then none else some r.1.bus.data)) ((Dev.dbgAccess { d.dbgTaken port 1 core addr with bus := { data := 0, err := false } } s.mem a .read addr 0).2))) ∧
  (∀ (s : State) (dt core addr v : Nat) (port : Bool) (a : Sys2Proof.Acc), let d := s.now dt
    core < 12 → addr < 2 ^ 64 → d.dbgServed port = true → (d.dbgTaken port 2 core addr).dbgGrant core true = some a → 
    exec (.debugWrite dt port core addr v) s = .next (s.becomesM (let r := Dev.dbgAccess { d.dbgTaken port 2 core addr with bus := { data := 0, err := false } } s.mem a .write addr v; r.1.dbgAnswer port 2 core addr (if r.1.bus.err then 2 else 0) none) ((Dev.dbgAccess { d.dbgTaken port 2 core addr with bus := { data := 0, err := false } } s.mem a .write addr v).2))) ∧
  (∀ (s : State) (dt core addr v : Nat) (port : Bool), let d := s.now dt
    core < 12 → addr < 2 ^ 64 → d.dbgServed port = true → (d.dbgTaken port 2 core addr).dbgGrant core true = none → 
    exec (.debugWrite dt port core addr v) s = .next (s.becomesM ((d.dbgTaken port 2 core addr).dbgRefused port 2 core addr) (s.mem)))

/-- What sleep requests, tolerances, core waits, the wake timer, supply, REFCLK, PLL and gate commands do (spec/18_power_states_and_supply.md: R430, R432, R435, R436, R439, R440, R441, R442). -/
def Obligations.PowerSupplyAndClockCommandsTakeEffect : Prop :=
  (∀ (s : State) (dt o v : Nat) (a : Sys2Proof.Acc), let d := s.now dt
    o < 9 → d.mayWrite s.mem a (PWRM_SLEEP_REQ o) → v % 2 = 1 → exec (.pwrmSleepReq dt a o v) s = .next (s.becomes ((d.put (PWRM_SLEEP_REQ_REQ o) v).pwrmShow))) ∧
  (∀ (s : State) (dt o v : Nat) (a : Sys2Proof.Acc), let d := s.now dt
    o < 9 → d.mayWrite s.mem a (PWRM_TOL_US o) → 80000 ≤ v → v < 2 ^ 32 → 
    exec (.pwrmTolUs dt a o v) s = .next (s.becomes ((d.wr (PWRM_TOL_US o) v).pwrmShow))) ∧
  (∀ (s : State) (dt core : Nat), let d := s.now dt
    core < 12 → core ∈ d.wld.running → exec (.coreWait dt core) s = .next (s.becomes (({ d with wld := { d.wld with waiting := insertNat core d.wld.waiting } } : Dev).when (core < 8 && core % 2 == 0) (·.foldStop (core / 2))))) ∧
  (∀ (s : State) (dt core : Nat), let d := s.now dt
    core < 12 → d.coreCalled core = true → core ∈ d.wld.waiting → 
    exec (.coreRetentionWake dt core) s = .next (s.becomes (({ d with wld := { d.wld with waiting := d.wld.waiting.filter (· ≠ core) } } : Dev).leaderGoes core))) ∧
  (∀ (s : State) (dt : Nat), let d := s.now dt
    d.sid.asleep = 1 → d.sid.timer ≠ 0 → d.sid.noted = false → d.sid.enteredAt + 1000000000 * d.sid.timer ≤ d.up → 
    exec (.wakeTimerExpiry dt) s = .next (s.becomes (({ d with sid := { d.sid with timer := 0 } } : Dev).wakeOther 1 PWRM_WAKE_INFO_TIMER))) ∧
  (∀ (s : State) (dt bs : Nat) (low ok : Bool), let d := s.now dt
    bs < 4 → d.frm.lockedOut = false → exec (.supplyRangeChange dt 4 low bs ok) s = .next (s.becomesM (d.powerLost.absent) (Mem.flashOnly s.mem))) ∧
  (∀ (s : State) (dt range bs : Nat) (low ok : Bool), let d := s.now dt
    range < 4 → bs < 4 → d.frm.lockedOut = false → d.meshFails range ok = false → d.fld HPS_SUP_STS_RANGE = range → 
    exec (.supplyRangeChange dt range low bs ok) s = .next (s.becomesM (d.linSupply (below7 range low)) (s.mem))) ∧
  (∀ (s : State) (dt : Nat) (below : Bool), let d := s.now dt
    d.hvRuns = true → exec (.vbatP3Reverse dt below) s = .next (s.becomes ((d.put CHAN_GSTS_P3_REV (b2n below)).each ((List.range 16).map (· + 24)) (fun i d => d.updOut i)))) ∧
  (∀ (s : State) (dt ppm : Nat), let d := s.now dt
    d.frm.beyvoUp = true → d.on CLK_STS_REF = false → ppmSize ppm ≤ 1000 → 
    exec (.refclkSelected dt ppm) s = .next (s.becomes (((d.set CLK_STS_PRESENT).wr CLK_REFCLK_PPM ppm).refSwitch true 1 0))) ∧
  (∀ (s : State) (dt ppm : Nat) (edges : Bool), let d := s.now dt
    d.frm.beyvoUp = true → d.on CLK_STS_REF = true → (edges = true → 2000 < ppmSize ppm) → 
    exec (.refclkLost dt edges ppm) s = .next (s.becomes (((d.put CLK_STS_PRESENT (b2n edges)).wr CLK_REFCLK_PPM ppm).refSwitch false 2 1))) ∧
  (∀ (s : State) (dt pll : Nat), let d := s.now dt
    d.frm.beyvoUp = true → exec (.pllUnlock dt pll) s = .next (s.becomes ((d.set CLK_STS_PLL_UNLOCK).faultPost 3 0x04 0x0003 9 pll))) ∧
  (∀ (s : State) (dt u v : Nat) (a : Sys2Proof.Acc), let d := s.now dt
    1 ≤ u → u ≤ 6 → d.mayWrite s.mem a (CLK_GATE u) → exec (.clkGateWrite dt a u v) s = .next (s.becomes ((d.put (CLK_GATE_OFF u) (v % subUnits u)).put (CLK_GATE_GATED u) (d.fld (CLK_GATE_GATED u) &&& (v % subUnits u))))) ∧
  (∀ (s : State) (dt u v : Nat) (a : Sys2Proof.Acc), let d := s.now dt
    1 ≤ u → u ≤ 6 → d.mayWrite s.mem a (PWRM_PGATE u) → v % subUnits u &&& d.fld (CLK_GATE_OFF u) = v % subUnits u → 
    exec (.pwrmPgateWrite dt a u v) s = .next (s.becomes ((d.put (PWRM_PGATE_OFF u) (v % subUnits u)).put (PWRM_PGATE_GATED u) (d.fld (PWRM_PGATE_GATED u) &&& (v % subUnits u))))) ∧
  (∀ (s : State) (dt u j : Nat), let d := s.now dt
    1 ≤ u → u ≤ 6 → j < 4 → d.unitIdle u j = true → bit j (d.fld (CLK_GATE_OFF u)) = true → bit j ((d.set ⟨CLK_GATE u, 8 + j, 8 + j⟩).fld (PWRM_PGATE_OFF u)) = false → 
    exec (.gateInEffect dt u j) s = .next (s.becomes (d.set ⟨CLK_GATE u, 8 + j, 8 + j⟩)))

/-- What acknowledgements, software faults, reset requests, the resets themselves and block resets do (spec/19_faults_and_resets.md: R445, R446, R447, R448, R449, R451, R453, R454, R455, R456). -/
def Obligations.FaultAndResetCommandsTakeEffect : Prop :=
  (∀ (s : State) (dt v : Nat) (a : Sys2Proof.Acc), let d := s.now dt
    d.mayWrite s.mem a FRM_ACK → bits 31 16 v = 0xFA17 → exec (.frmAck dt a v) s = .next (s.becomes ((d.clr FRM_STS_PEND).updFaultN))) ∧
  (∀ (s : State) (dt v : Nat) (a : Sys2Proof.Acc), let d := s.now dt
    d.mayWrite s.mem a FRM_SAFE_CTL → bits 31 16 v = 0x5AFE → bit 0 v = true → d.frm.bootHold = false → d.frm.tamperHold = false → (List.range 8).any d.keepsSafeLow = false → 
    exec (.frmSafeCtl dt a v) s = .next (s.becomes (d.pin FRM_STS_SAFE_N 1 true))) ∧
  (∀ (s : State) (dt c v : Nat) (a : Sys2Proof.Acc), let d := s.now dt
    c < 8 → d.mayWrite s.mem a (FRM_SWFAULT c) → a.guard = true ∨ bits 7 4 v = 0 → bits 1 0 v ≠ 0 → 
    exec (.frmSwfault dt a c v) s = .next (s.becomes (d.faultPost (min (bits 1 0 v) 2) 0x02 0x0005 c c [bits 31 16 v] { core := none, cause := 8 }))) ∧
  (∀ (s : State) (dt v : Nat) (a : Sys2Proof.Acc), let d := s.now dt
    d.mayWrite s.mem a (FRM_SWFAULT 8) → a.guard = true → bits 1 0 v ≠ 0 → 
    exec (.frmSwfault dt a 8 v) s = .next (s.becomes (d.faultPost (bits 1 0 v) 0x02 0x0005 (bits 7 4 v) (bits 7 4 v) [bits 31 16 v] { core := if bits 7 4 v = 8 ∧ a.core < 12 then some a.core else none, cause := 8 }))) ∧
  (∀ (s : State) (dt v : Nat) (a : Sys2Proof.Acc), let d := s.now dt
    d.mayWrite s.mem a FRM_RESET_CMD → bits 31 16 v = 0xDE5E → bits 1 0 v = 1 → 
    exec (.frmResetDevice dt a v) s = .next (s.becomes (d.startDeviceReset 2 0 0))) ∧
  (∀ (s : State) (dt v : Nat) (a : Sys2Proof.Acc), let d := s.now dt
    d.mayWrite s.mem a FRM_RESET_CMD → bits 31 16 v = 0xDE5E → bits 1 0 v = 2 → 
    exec (.frmResetBeyvo dt a v) s = .next (s.becomes (d.startBeyvoReset 6))) ∧
  (∀ (s : State) (dt bs : Nat) (ok : Bool) (r : ResetReq), let d := s.now dt
    bs < 4 → d.frm.devReset = some r → d.frm.tamperHold = false → d.frm.bootHold = false → d.frm.lockedOut = false → (d.frm.meshDue = true → ok = true) → 
    exec (.deviceReset dt bs ok) s = .next (s.becomesM ((if d.frm.resetNLow then { d with frm := FrmSt.reset, tim := TimSt.reset } else d.deviceOff.wr SID_WAKE_CAUSE 0 : Dev).start r bs) (Mem.atBoot (Mem.scrubAll s.mem true)))) ∧
  (∀ (s : State) (dt bs : Nat) (r : ResetReq), let d := s.now dt
    bs < 4 → d.frm.bvReset = some r → d.frm.tamperHold = false → d.frm.bootHold = false → d.frm.lockedOut = false → d.frm.resetNLow = false → 
    exec (.beyvoReset dt bs) s = .next (s.becomesM (d.beyvoDown.start r bs) (Mem.atBoot (Mem.scrubAll s.mem false)))) ∧
  (∀ (s : State) (dt bs : Nat), let d := s.now dt
    bs < 4 → exec (.powerOnReset dt bs) s = .next (s.becomesM (d.powerLost.powerOn bs) (Mem.flashOnly s.mem))) ∧
  (∀ (s : State) (dt us : Nat), let d := s.now dt
    10 ≤ us → exec (.resetNLow dt us) s = .next (s.becomes (d.resetN))) ∧
  (∀ (s : State) (dt : Nat), let d := s.now dt
    exec (.resetNLow dt 0) s = .next (s.becomes (d))) ∧
  (∀ (s : State) (dt c v : Nat) (a : Sys2Proof.Acc), let d := s.now dt
    c < 8 → d.mayWrite s.mem a (CA_RESET_REQ c) → bits 31 16 v = 0xC0AC → d.dDegraded c = false → d.tan.latent.find? (fun x => d.pairOwner x.1 == c) = none → 
    exec (.caResetReq dt a c v) s = .next (s.becomes (d.startCoachReset c 5))) ∧
  (∀ (s : State) (dt c v p at0 : Nat) (a : Sys2Proof.Acc), let d := s.now dt
    c < 8 → d.mayWrite s.mem a (CA_RESET_REQ c) → bits 31 16 v = 0xC0AC → d.dDegraded c = false → d.tan.latent.find? (fun x => d.pairOwner x.1 == c) = some (p, at0) → 
    exec (.caResetReq dt a c v) s = .next (s.becomes (d.pairReset p 3))) ∧
  (∀ (s : State) (dt c v : Nat) (a : Sys2Proof.Acc), let d := s.now dt
    c < 8 → d.mayWrite s.mem a (FRM_COACH_CTL c) → bits 31 16 v = 0xC0AC → d.on (MAN_COACH_CFG_EN c) = true → bit 0 v = true → bit 1 v = false → bit 2 v = false → d.dDegraded c = false → d.tan.latent.find? (fun x => d.pairOwner x.1 == c) = none → 
    exec (.frmCoachReset dt a c v) s = .next (s.becomes (d.startCoachReset c 6))) ∧
  (∀ (s : State) (dt c v : Nat) (a : Sys2Proof.Acc), let d := s.now dt
    c < 8 → d.mayWrite s.mem a (FRM_COACH_CTL c) → bits 31 16 v = 0xC0AC → d.on (MAN_COACH_CFG_EN c) = true → bit 0 v = false → bit 1 v = true → bit 2 v = false → d.dDegraded c = false → 
    exec (.frmCoachRestart dt a c v) s = .next (s.becomes (({ d with frm := { d.frm with held := d.frm.held.filter (· ≠ c) } } : Dev).coachRelease c))) ∧
  (∀ (s : State) (dt c v : Nat) (a : Sys2Proof.Acc), let d := s.now dt
    c < 8 → d.mayWrite s.mem a (FRM_COACH_CTL c) → bits 31 16 v = 0xC0AC → d.on (MAN_COACH_CFG_EN c) = true → bit 0 v = false → bit 1 v = false → bit 2 v = true → d.coachDown c = false → d.dDegraded c = false → c ∈ d.frm.dsPolicy → 
    exec (.frmCoachDsRel dt a c v) s = .next (s.becomes (({ d with frm := { d.frm with dsPolicy := d.frm.dsPolicy.filter (· ≠ c) } } : Dev).dsReleaseCoach c))) ∧
  (∀ (s : State) (dt c i cause : Nat), let d := s.now dt
    c < 8 → d.frm.coachReset.find? (·.1 == c) = some (i, cause) → d.frm.devReset = none → d.coachInGuard c = false → 
    exec (.coachReset dt c) s = .next (s.becomesM ((((((d.enterCoachReset c).resetCores c).resetUnits s.mem c).1.chanPolicy c).resetDone c cause)) (Mem.scrub (((d.enterCoachReset c).resetCores c).resetUnits s.mem c).2 (fun e => entryOwner e == c && entryScrub e)))) ∧
  (∀ (s : State) (dt v : Nat) (a : Sys2Proof.Acc), let d := s.now dt
    d.mayWrite s.mem a FRM_CTL → bit 0 v = true → exec (.frmCtlLock dt a v) s = .next (s.becomes (d.set FRM_CTL_LOCK))) ∧
  (∀ (s : State) (dt v : Nat) (a : Sys2Proof.Acc), let d := s.now dt
    d.mayWrite s.mem a FRM_BLK_RST → bits 31 16 v = 0xB1C0 → bits 2 0 v = 1 → 16 ≤ bits 8 3 v → bits 8 3 v ≤ 35 → 
    exec (.blockResetCanLin dt a v) s = .next (s.becomesM ((d.busRestart (bits 8 3 v)).post 0x02 0x0008 0 9 1 [v % 512]) (s.mem))) ∧
  (∀ (s : State) (dt v : Nat) (a : Sys2Proof.Acc), let d := s.now dt
    d.mayWrite s.mem a FRM_BLK_RST → bits 31 16 v = 0xB1C0 → bits 2 0 v = 2 → 
    exec (.blockResetTally dt a v) s = .next (s.becomesM (((d.tallyReset s.mem).1).post 0x02 0x0008 0 9 2 [v % 512]) ((d.tallyReset s.mem).2))) ∧
  (∀ (s : State) (dt v : Nat) (a : Sys2Proof.Acc), let d := s.now dt
    d.mayWrite s.mem a FRM_BLK_RST → bits 31 16 v = 0xB1C0 → bits 2 0 v = 3 → 
    exec (.blockResetOutr dt a v) s = .next (s.becomesM ((d.outrRestart).post 0x02 0x0008 0 9 3 [v % 512]) (s.mem))) ∧
  (∀ (s : State) (dt v : Nat) (a : Sys2Proof.Acc), let d := s.now dt
    d.mayWrite s.mem a FRM_BLK_RST → bits 31 16 v = 0xB1C0 → bits 2 0 v = 4 → bits 8 3 v ≤ 31 → 
    exec (.blockResetLio dt a v) s = .next (s.becomesM ((d.lioEmpty (bits 8 3 v)).post 0x02 0x0008 0 9 4 [v % 512]) (s.mem)))

/-- What counter and sampling writes, samples and latch points do, how an access reaches memory or a register, and when a tick happens (spec/20_tally_counters.md: R460, R463, R464, R465, R466, spec/01_module.md: R8, R9, spec/03_timebase.md: R71, spec/13_coaches_and_worlds.md: R333, spec/02_stage_and_timetable.md: R46). -/
def Obligations.TallyAndAccessCommandsTakeEffect : Prop :=
  (∀ (s : State) (dt addr v : Nat) (high : Bool) (a : Sys2Proof.Acc), let d := s.now dt
    counterHalf addr = some high → d.mayWrite s.mem a addr → d.inertPage addr = false → 
    exec (.tallyCounterWrite dt a addr v) s = .next (s.becomes (({ d with tim := { d.tim with latched := d.tim.latched.filter (·.1 ≠ addr) }, tal := { d.tal with wrote := tset 0 (d.tallyCycle (addr - addr % 16)) (addr - addr % 16) d.tal.wrote } } : Dev).wr addr (if high then v % 65536 else v)))) ∧
  (∀ (s : State) (dt addr v : Nat) (a : Sys2Proof.Acc), let d := s.now dt
    (counterHalf addr).isSome = true → d.mayWrite s.mem a addr → d.inertPage addr = true → 
    exec (.tallyCounterWrite dt a addr v) s = .next (s.becomes (d))) ∧
  (∀ (s : State) (dt core v : Nat) (a : Sys2Proof.Acc), let d := s.now dt
    core < 12 → d.mayWrite s.mem a (TALLY_C_SMP_CFG core) → d.inertPage (TALLY_C_SMP_CFG core) = false → 
    exec (.smpCfgWrite dt a core v) s = .next (s.becomes (({ d with tal := { d.tal with smp := terase core d.tal.smp } } : Dev).wr (TALLY_C_SMP_CFG core) (v % 8 + 256 * bits 15 8 v + 65536 * bits 31 16 v)))) ∧
  (∀ (s : State) (dt core v : Nat) (a : Sys2Proof.Acc), let d := s.now dt
    core < 12 → d.mayWrite s.mem a (TALLY_C_SMP_RD core) → v < 2 ^ 32 → (d.rn (TALLY_C_SMP_WR core) + 2 ^ 32 - v) % 2 ^ 32 ≤ 512 → v ≠ d.rn (TALLY_C_SMP_RD core) → d.inertPage (TALLY_C_SMP_RD core) = false → 
    exec (.smpRdWrite dt a core v) s = .next (s.becomes ((({ d with tal := { d.tal with smpFull := d.tal.smpFull.filter (· ≠ core) } } : Dev).wr (TALLY_C_SMP_RD core) v).smpThresh core))) ∧
  (∀ (s : State) (dt core count addr opcode lat : Nat), let d := s.now dt
    let ev := d.smpEvent core
    let e := if ownEvent ev then d else d.tallyC core ev count
    let t0 := tget 0 e.tal.smp core + (if ownEvent ev then 0 else count)
    let n := e.fld (TALLY_C_SMP_CFG_N core)
    core < 12 → e.smpOn core = true → t0 < n → exec (.preciseSample dt core count addr opcode lat) s = .next (s.becomesM ({ e with tal := { e.tal with smp := tset 0 t0 core e.tal.smp } }) (s.mem))) ∧
  (∀ (s : State) (dt core count addr opcode lat : Nat), let d := s.now dt
    let ev := d.smpEvent core
    let e := if ownEvent ev then d else d.tallyC core ev count
    let t0 := tget 0 e.tal.smp core + (if ownEvent ev then 0 else count)
    let n := e.fld (TALLY_C_SMP_CFG_N core)
    core < 12 → e.smpOn core = true → n ≤ t0 → t0 < 2 * n → ({ e with tal := { e.tal with smp := tset 0 (t0 - n) core e.tal.smp } } : Dev).smpFill core < 512 → 
    exec (.preciseSample dt core count addr opcode lat) s = .next (s.becomesM ((({ e with tal := { e.tal with smp := tset 0 (t0 - n) core e.tal.smp } } : Dev).bump (TALLY_C_SMP_WR core)).smpThresh core) (Mem.setWords s.mem (smpAddr core (e.rn (TALLY_C_SMP_WR core))) (({ e with tal := { e.tal with smp := tset 0 (t0 - n) core e.tal.smp } } : Dev).smpWords core addr opcode lat)))) ∧
  (∀ (s : State) (dt n : Nat), let d := s.now dt
    n < 256 → n ≠ 0 → d.ttKind n = 3 → d.fld (STG_TT_CTL_WORK n) = 2 → d.ttApplies n d.phase = true → d.inStage (d.fld (STG_TT_START_NS n)) = true → 
    exec (.bandwidthLatchPoint dt n) s = .next (s.becomes (d.bwLatch))) ∧
  (∀ (s : State) (dt addr width v : Nat) (a : Sys2Proof.Acc), let d := s.now dt
    widthOk width = true → window addr = none → checkAccess s.mem d a .write addr = .pass → checkAccess s.mem d a .write (addr + width - 1) = .pass → addr < 0x100000000 → 
    exec (.coreMemoryAccess dt a .write addr width v) s = .next (s.becomesM (d.returns 0) (Mem.setBytes s.mem addr (leBytes width v)))) ∧
  (∀ (s : State) (dt addr width v : Nat) (a : Sys2Proof.Acc), let d := s.now dt
    widthOk width = true → window addr = none → checkAccess s.mem d a .read addr = .pass → checkAccess s.mem d a .read (addr + width - 1) = .pass → 0x40000 ≤ addr → addr < 0x100000000 → 
    exec (.coreMemoryAccess dt a .read addr width v) s = .next (s.becomesM (d.returns (leNat (Mem.bytes s.mem addr width))) (s.mem))) ∧
  (∀ (s : State) (dt addr v : Nat) (a : Sys2Proof.Acc), let d := s.now dt
    (window addr).isSome = true → addr / 0x10000 ≠ 0x4033 → addr % 4 = 0 → d.mayWrite s.mem a addr → d.deadAperture addr = false → 
    exec (.registerWrite dt a addr 4 v) s = .next (s.becomesM ((d.writeReg s.mem a addr v).1) ((d.writeReg s.mem a addr v).2))) ∧
  (∀ (s : State) (dt : Nat) (a : Sys2Proof.Acc), let d := s.now dt
    d.mayRead s.mem a TIME_NOW_LO → exec (.latchingReadLo dt a TIME_NOW_LO) s = .next (s.becomesM ((d.plainRead a TIME_NOW_LO)) (s.mem))) ∧
  (∀ (s : State) (dt : Nat), let d := s.now dt
    d.boot.phase = .sealed → d.frm.beyvoUp = true → d.fld SID_STS_STATE ≠ 3 → d.stg.nextTick ≤ d.domNs → 
    exec (.stageTick dt) s = .next (s.becomesM ((d.tick s.mem).1) ((d.tick s.mem).2))) ∧
  (∀ (s : State) (dt : Nat), let d := s.now dt
    d.domNs < d.stg.nextTick → exec (.stageTick dt) s = .next (s.becomesM (d) (s.mem)))

/-- An access of the wrong width, or unaligned, to a register outside the legacy window ends in a bus error, changes nothing, and is a fault of severity 1 (spec/01_module.md: R9). -/
def Obligations.WrongWidthAccessIsRefused : Prop :=
  ∀ (s : State) (dt addr width v : Nat) (a : Sys2Proof.Acc) (i : Instr), let d := s.now dt
    widthOk width = true → d.actsAs a = true → d.injected a addr = false → (window addr).isSome = true → addr / 65536 ≠ 0x4033 →
    (width ≠ 4 ∨ addr % 4 ≠ 0) →
    i ∈ [Instr.registerWrite dt a addr width v, .coreMemoryAccess dt a .read addr width v,
      .coreMemoryAccess dt a .write addr width v] →
    Completes i s fun t =>
      t.dev.bus = ⟨0, true⟩ ∧ s.sameMem t ∧ (∀ b, quiet b → b ≠ MAN_CORE_GINFO a.core → t.dev.reg b = d.reg b) ∧ t.dev.chans = d.chans ∧ t.dev.fab = d.fab ∧
      (d.frm.beyvoUp = true → t.dev.rn (FRM_CNT 1) = (d.rn (FRM_CNT 1) + 1) % 2 ^ 32) ∧
      (d.frm.beyvoUp = true → a.guard = false → a.owner < 8 →
        t.dev.fld (FRM_CFAULT_COUNT a.owner) = (d.fld (FRM_CFAULT_COUNT a.owner) + 1) % 2 ^ 16 ∧
        t.dev.fld (FRM_CFAULT_BLOCK a.owner) = blockId addr)

/-- A record written to a full ring overwrites the oldest unread one: RD_CNT and OVW_CNT count, source 353 rises, and code 0x0001 is posted on the first overwrite (spec/04_waybills_and_logbook.md: R121). -/
def Obligations.FullRingOverwritesOldestRecord : Prop :=
  (∀ (s : State) (dt : Nat) (r : Rec) (rest : List Rec), let d := s.now dt
    d.log.queue = r :: rest → (d.rn LOGB_WR_CNT + 2 ^ 32 - d.rn LOGB_RD_CNT) % 2 ^ 32 = 65536 →
    Completes (.logbookRecordWrite dt) s fun t =>
      ringAddr (d.rn LOGB_WR_CNT) = ringAddr (d.rn LOGB_RD_CNT) ∧
      t.mem = Mem.setWords s.mem (ringAddr (d.rn LOGB_RD_CNT)) r.words ∧
      t.dev.rn LOGB_RD_CNT = (d.rn LOGB_RD_CNT + 1) % 2 ^ 32 ∧
      t.dev.rn LOGB_OVW_CNT = (d.rn LOGB_OVW_CNT + 1) % 2 ^ 32 ∧
      (d.on LOGB_INT_EN_OVERWRITE = true → d.fld (IRQ_ROUTE_OWNER 353) ≠ 15 →
        t.dev.on ⟨IRQ_PEND 11, 1, 1⟩ = true) ∧
      t.dev.log.ovwPosted = true ∧
      (d.log.ovwPosted = true → t.dev.log.queue = rest) ∧
      (d.log.ovwPosted = false → bit 18 (d.rn SYS_READY) = true → d.frm.beyvoUp = true → rest.length < 64 →
        ∃ (x : Rec) (more : List Rec), t.dev.log.queue = rest ++ x :: more ∧ x.block = 0x60 ∧ x.code = 1)) ∧
  (∀ (s : State) (dt v : Nat) (a : Sys2Proof.Acc), let d := s.now dt
    d.mayWrite s.mem a LOGB_RD_CNT →
    (d.rn LOGB_WR_CNT + 2 ^ 32 - v % 2 ^ 32) % 2 ^ 32 < 2 ^ 31 →
    Completes (.logbRdCntWrite dt a v) s fun t =>
      t.dev.log.ovwPosted = false ∧ t.dev.rn LOGB_RD_CNT = v % 2 ^ 32 ∧ s.sameMem t)

/-- IRQ_MASKw: each owner reads and writes only the bits of the sources routed to it, Guard every bit; other bits read 0 and ignore writes without a fault (spec/13_coaches_and_worlds.md: R350). -/
def Obligations.OwnersReachOnlyTheirMaskBits : Prop :=
  (∀ (s : State) (dt w v : Nat) (a : Sys2Proof.Acc), let d := s.now dt
    w < 16 → v < 2 ^ 32 → d.mayWrite s.mem a (IRQ_MASK w) →
    Completes (.registerWrite dt a (IRQ_MASK w) 4 v) s fun t =>
      (∀ k, k < 32 → bit k (t.dev.rn (IRQ_MASK w)) =
        if a.guard = true ∨ d.fld (IRQ_ROUTE_OWNER (32 * w + k)) = a.owner then bit k v else bit k (d.rn (IRQ_MASK w))) ∧
      (∀ b, b ≠ IRQ_MASK w → t.dev.rn b = d.rn b) ∧ t.dev.log = d.log ∧ s.sameMem t) ∧
  (∀ (s : State) (dt w x : Nat) (a : Sys2Proof.Acc), let d := s.now dt
    w < 16 → x = IRQ_MASK w ∨ x = IRQ_PEND w → d.mayRead s.mem a x →
    Completes (.coreMemoryAccess dt a .read x 4 0) s fun t =>
      t.dev.bus.err = false ∧
      (∀ k, k < 32 → bit k t.dev.bus.data =
        if a.guard = true ∨ d.fld (IRQ_ROUTE_OWNER (32 * w + k)) = a.owner then bit k (d.rn x) else false) ∧
      t.dev.regs = d.regs ∧ t.dev.log = d.log ∧ s.sameMem t)

/-- Every strongbox command that would write, stage, invalidate or erase slot 0 ends with BAD_SLOT, and no slot, odometer or fuse changes (spec/15_strongbox.md: R368). -/
def Obligations.RootSlotRefusesEveryWrite : Prop :=
  (∀ test, (rootSlot test).k.type = 4 ∧ (rootSlot test).k.usage 8 = true ∧ (rootSlot test).k.owner = 8 ∧
    (∀ b, b < 8 → 3 < b → (rootSlot test).k.usage b = false)) ∧
  (∀ (s : State) (dt a op : Nat) (rest : List Nat) (i : Instr), let d := s.now dt
    let c := sbxCmd s.mem a
    d.sbx.queue = a :: rest → d.guardMem s.mem a 32 .read = true → d.guardMem s.mem (a + 24) 8 .write = true → c.slot = 0 → c.op = op → (c.publicKey = true → d.gated 2 0 = false) →
    (sbxReads op = true → d.guardMem s.mem c.inAddr c.inLen .read = true) →
    (op, i) ∈ [(0x01, Instr.generate dt), (0x02, .derive dt), (0x03, .unwrap dt), (0x06, .ecdh dt), (0x07, .kemEnc dt),
      (0x08, .kemDec dt), (0x20, .verifyStaged dt), (0x21, .commit dt), (0x22, .discard dt), (0x23, .invalidate dt), (0x24, .erase dt)] →
    Completes i s fun t =>
      Mem.word t.mem (a + 28) % 512 = 0x103 ∧ Mem.word t.mem (a + 24) = 0 ∧
      t.dev.sbx.slots = d.sbx.slots ∧ t.dev.sbx.odo = d.sbx.odo ∧ t.dev.sbx.fuses = d.sbx.fuses ∧ t.dev.sbx.queue = rest)

/-- An accepted manifest edit writes its entry and, on a change of owner or world, zeroises the page; a refused one leaves memory as it was (spec/13_coaches_and_worlds.md: R337, R338). -/
def Obligations.ManifestEditChangesOnlyItsEntry : Prop :=
  ∀ (s : State) (dt i v : Nat), let d := s.now dt
    d.wld.edit = some (i, v) → v < 2 ^ 32 →
    Completes (.manEditDone dt) s fun t =>
      t.dev.wld.edit = none ∧ t.dev.on MAN_EDIT_STS_BUSY = false ∧ t.dev.on MAN_STS_EDIT_DONE = true ∧
      t.dev.fld MAN_EDIT_STS_RESULT = editResult s.mem i v ∧ t.pending = s.pending ∧
      (editResult s.mem i v ≠ 0 → t.mem = s.mem) ∧
      (editResult s.mem i v = 0 →
        Mem.entry t.mem i = v ∧
        (∀ x, (x < 0x11560000 + 4 * i ∨ 0x11560000 + 4 * i + 4 ≤ x) →
          (entryOwner (Mem.entry s.mem i) = entryOwner v → entryGuard (Mem.entry s.mem i) = entryGuard v →
            Mem.byte t.mem x = Mem.byte s.mem x) ∧
          ((x < (pageOf i).1 ∨ (pageOf i).1 + (pageOf i).2 ≤ x) → Mem.byte t.mem x = Mem.byte s.mem x) ∧
          (((entryOwner (Mem.entry s.mem i) ≠ entryOwner v ∨ entryGuard (Mem.entry s.mem i) ≠ entryGuard v) ∧
              (pageOf i).1 ≤ x ∧ x < (pageOf i).1 + (pageOf i).2) → Mem.byte t.mem x = memByte x)))

/-- ODO_ADVANCE adds its value to one of odometers 1 to 14 and blows every fuse whose threshold is reached; any other index is refused with BAD_SLOT (spec/15_strongbox.md: R382, R383). -/
def Obligations.OdometersOnlyAdvance : Prop :=
  ∀ (s : State) (dt a : Nat) (rest : List Nat), let d := s.now dt
    let c := sbxCmd s.mem a
    let k := leNat (Mem.bytes s.mem c.inAddr c.inLen)
    d.sbx.queue = a :: rest → d.guardMem s.mem a 32 .read = true → d.guardMem s.mem (a + 24) 8 .write = true → c.op = 0x29 → c.inLen = 8 → d.guardMem s.mem c.inAddr c.inLen .read = true →
    (1 ≤ c.slot → c.slot ≤ 14 → 1 ≤ k → k ≤ 2 ^ 32 → d.odo c.slot + k < 2 ^ 64 →
      Completes (.odoAdvance dt) s fun t =>
        Mem.word t.mem (a + 28) % 512 = 0x100 ∧ t.dev.odo c.slot = d.odo c.slot + k ∧
        (∀ j, j < 32 → (j < tget 0 t.dev.sbx.fuses c.slot ↔
          j < tget 0 d.sbx.fuses c.slot ∨ 4 ^ (j + 1) ≤ d.odo c.slot + k)) ∧
        (∀ n, n ≠ c.slot → t.dev.odo n = d.odo n ∧ tget 0 t.dev.sbx.fuses n = tget 0 d.sbx.fuses n) ∧
        t.dev.sbx.slots = d.sbx.slots) ∧
    ((c.slot = 0 ∨ 15 ≤ c.slot) →
      Completes (.odoAdvance dt) s fun t =>
        Mem.word t.mem (a + 28) % 512 = 0x103 ∧ t.dev.sbx.odo = d.sbx.odo ∧ t.dev.sbx.fuses = d.sbx.fuses ∧
        t.dev.sbx.slots = d.sbx.slots)

/-- After a read of TIME_NOW_LO, reads of TIME_NOW_HI and TIME_NOW_FRAC give the rest of that same instant, however much time has passed (spec/03_timebase.md: R66, R71). -/
def Obligations.TimeReadsFormOneInstant : Prop :=
  ∀ (s : State) (dt dt2 : Nat) (a b : Sys2Proof.Acc), let d := s.now dt
    d.mayRead s.mem a TIME_NOW_LO →
    Completes (.latchingReadLo dt a TIME_NOW_LO) s fun t =>
      t.dev.bus = ⟨d.ns % 2 ^ 32, false⟩ ∧ t.dev.regs = d.regs ∧ t.dev.log = d.log ∧ s.sameMem t ∧
      ((t.now dt2).mayRead t.mem b TIME_NOW_HI →
        Completes (.coreMemoryAccess dt2 b .read TIME_NOW_HI 4 0) t fun u =>
          u.dev.bus = ⟨d.ns / 2 ^ 32 % 2 ^ 32, false⟩) ∧
      ((t.now dt2).mayRead t.mem b TIME_NOW_FRAC →
        Completes (.coreMemoryAccess dt2 b .read TIME_NOW_FRAC 4 0) t fun u =>
          u.dev.bus = ⟨d.tim.dev % 65536, false⟩)

/-- How device time passes in each mode: within 200 ppm under the servo, 0 to 40 ppm slow on the 32 kHz oscillator, still while frozen, not before its start (spec/03_timebase.md: R67, R68, R82, R84). -/
def Obligations.DeviceTimeFollowsItsMode : Prop :=
  ∀ (d : Dev) (dt : Nat),
    (d.tim.mode = .servo → -80000 ≤ sgn 32 (d.rn TIME_FREQ) + d.tim.drift → sgn 32 (d.rn TIME_FREQ) + d.tim.drift ≤ 80000 → d.tim.rem < 10000000000 →
      dt * 65536 * 9998 ≤ 10000 * ((d.pass dt).tim.dev - d.tim.dev + 1) ∧
      10000 * ((d.pass dt).tim.dev - d.tim.dev) ≤ dt * 65536 * 10002 + 10000 ∧ (d.pass dt).tim.rem < 10000000000) ∧
    (d.tim.mode = .frozen → (d.pass dt).tim.dev = d.tim.dev) ∧
    (d.tim.mode = .servo ∨ d.tim.mode = .frozen → d.tim.dev ≤ (d.pass dt).tim.dev) ∧
    (d.tim.mode = .heavia → d.tim.baseUp ≤ d.up →
      (d.pass dt).tim.dev = d.tim.baseDev + (d.up + dt - d.tim.baseUp) * 32768 / 1000000000 * 3051696764844 * 65536 / 100000000 ∧
      (d.pass dt).tim.dev ≤ d.tim.baseDev + (d.up + dt - d.tim.baseUp) * 65536 ∧
      (d.up + dt - d.tim.baseUp) * 65536 * 999960 ≤ 1000000 * ((d.pass dt).tim.dev - d.tim.baseDev + 65536 * 30518) ∧
      (d.tim.dev = d.tim.baseDev + heaviaAdvance (d.up - d.tim.baseUp) → d.tim.dev ≤ (d.pass dt).tim.dev)) ∧
    (d.tim.mode = .stopped → dt < d.tim.startIn →
      (d.pass dt).tim.dev = d.tim.dev ∧ (d.pass dt).tim.mode = .stopped ∧ (d.pass dt).tim.startIn = d.tim.startIn - dt) ∧
    (d.tim.mode = .stopped → d.tim.startIn ≤ dt →
      (d.pass dt).tim.dev = 65536 * (dt - d.tim.startIn) ∧ (d.pass dt).tim.mode = (if d.frm.beyvoUp then .servo else .heavia)) ∧
    (d.pass dt).up = d.up + dt ∧ (d.pass dt).rn TIME_FREQ = d.rn TIME_FREQ ∧ (d.pass dt).chans = d.chans ∧
    (d.pass dt).sbx = d.sbx ∧ (d.pass dt).log.queue = d.log.queue

/-- A refused access to SRAM, DRAM or flash is a precise bus error in its core, leaves memory as it was, and is counted, latched and reported once per stage (spec/13_coaches_and_worlds.md: R335). -/
def Obligations.RefusedMemoryAccessChangesNothing : Prop :=
  ∀ (s : State) (dt addr width v : Nat) (a : Sys2Proof.Acc) (k : AccKind), let d := s.now dt
    widthOk width = true → (window addr).isSome = false → checkAccess s.mem d a k addr = .refuse true → addr < 2 ^ 64 →
    Completes (.coreMemoryAccess dt a k addr width v) s fun t =>
      t.dev.bus = ⟨0, true⟩ ∧ tget 0 t.dev.wld.exc a.core = 2 ∧ s.sameMem t ∧
      t.dev.rn MAN_REFUSE_CNT = (d.rn MAN_REFUSE_CNT + 1) % 2 ^ 32 ∧ t.dev.on MAN_STS_REFUSED = true ∧
      (d.on MAN_STS_REFUSED = false → t.dev.pair MAN_LAST_ADDR_LO MAN_LAST_ADDR_HI = addr) ∧
      (d.on MAN_STS_REFUSED = true → t.dev.pair MAN_LAST_ADDR_LO MAN_LAST_ADDR_HI = d.pair MAN_LAST_ADDR_LO MAN_LAST_ADDR_HI ∧
        t.dev.rn MAN_LAST_INFO = d.rn MAN_LAST_INFO) ∧
      (d.frm.beyvoUp = true → t.dev.rn (FRM_CNT 1) = (d.rn (FRM_CNT 1) + 1) % 2 ^ 32) ∧
      (∃ x ∈ t.dev.log.stage, x.record.block = 5 ∧ x.record.code = 1 ∧ x.record.owner = accWho a)

/-- A store that the manifest allows writes exactly its width in bytes, little-endian, and a load changes no memory (spec/13_coaches_and_worlds.md: R333, spec/23_address_map.md: R493). -/
def Obligations.MemoryWriteChangesOnlyItsBytes : Prop :=
  ∀ (s : State) (dt addr width v : Nat) (a : Sys2Proof.Acc) (k : AccKind), let d := s.now dt
    widthOk width = true → (window addr).isSome = false →
    checkAccess s.mem d a k addr = .pass → checkAccess s.mem d a k (addr + width - 1) = .pass →
    Completes (.coreMemoryAccess dt a k addr width v) s fun t =>
      t.dev.bus.err = false ∧ t.pending = s.pending ∧
      (k = .write → (∀ x, (x < addr ∨ addr + width ≤ x) → Mem.byte t.mem x = Mem.byte s.mem x) ∧
        (∀ j, j < width → Mem.byte t.mem (addr + j) = BitVec.ofNat 8 (v / 256 ^ j))) ∧
      (k ≠ .write → t.mem = s.mem) ∧
      (k ≠ .write → 0x40000 ≤ addr → t.dev.bus.data = leNat (Mem.bytes s.mem addr width))

/-- UNLATCH clears LATCHED, RETRY_CNT, SC, OC and CMD; with HARNESS or THERMAL set it is refused; on a channel that is not latched it does nothing (spec/11_channel_protection.md: R298). -/
def Obligations.UnlatchIsTheWayOutOfLatched : Prop :=
  ∀ (s : State) (dt i : Nat) (a : Sys2Proof.Acc), let d := s.now dt
    i < 40 → d.mayWrite s.mem a (CHAN_PCTL i) →
    Completes (.unlatch dt a i) s fun t => s.sameMem t ∧
      (d.on (CHAN_STS_LATCHED i) = false → t.dev = d) ∧
      (d.on (CHAN_STS_LATCHED i) = true → d.on (CHAN_STS_HARNESS i) = true ∨ d.on (CHAN_STS_THERMAL i) = true →
        t.dev.rn (CHAN_STS i) = d.rn (CHAN_STS i) ∧ t.dev.on (CHAN_PEVT_UNLATCH_REF i) = true ∧ t.dev.chans = d.chans) ∧
      (d.on (CHAN_STS_LATCHED i) = true → d.on (CHAN_STS_HARNESS i) = false → d.on (CHAN_STS_THERMAL i) = false →
        t.dev.on (CHAN_STS_LATCHED i) = false ∧ t.dev.fld (CHAN_STS_RETRY_CNT i) = 0 ∧ t.dev.on (CHAN_STS_SC i) = false ∧
        t.dev.on (CHAN_STS_OC i) = false ∧ t.dev.fld (CHAN_STS_CMD i) = 0)

/-- A Beyvo reset keeps the odometers, the fuses, the always-on log, the harness models, the flash and the fault counts of severity 3 (spec/19_faults_and_resets.md: R448, R449). -/
def Obligations.BeyvoResetKeepsTheHeaviaSide : Prop :=
  ∀ (s : State) (dt bootsel : Nat) (r : ResetReq), let d := s.now dt
    bootsel < 4 → d.frm.bvReset = some r →
    Completes (.beyvoReset dt bootsel) s fun t => t.pending = s.pending ∧
      (d.frm.tamperHold = true ∨ d.frm.bootHold = true ∨ d.frm.lockedOut = true ∨ d.frm.resetNLow = true → t = s.becomes d) ∧
      (d.frm.tamperHold = false → d.frm.bootHold = false → d.frm.lockedOut = false → d.frm.resetNLow = false →
        t.dev.sbx.odo = d.sbx.odo ∧ t.dev.sbx.fuses = d.sbx.fuses ∧ t.dev.log.ao = d.log.ao ∧
        (∀ i, (t.dev.chan i).theta = (d.chan i).theta ∧ (t.dev.chan i).phi = (d.chan i).phi) ∧
        t.dev.rn (FRM_CNT 3) = d.rn (FRM_CNT 3) ∧
        t.dev.boot.phase ≠ .sealed ∧
        (∀ x, 0x20000000 ≤ x → x < 0x30000000 → Mem.byte t.mem x = Mem.byte s.mem x))

/-- A write to a field follows its access type: RO and sealed LK keep it, RW and WO replace it, W1C and RWS clear and W1S set the bits written 1; other bits stay (spec/01_module.md: R11, R13). -/
def Obligations.WritesFollowTheAccessTypes : Prop :=
  ∀ (f : FieldDesc) (isSealed : Bool) (v r : Nat), f.lo ≤ f.hi →
    (∀ k, f.lo ≤ k → k ≤ f.hi → bit k (f.write isSealed v r) =
      match f.acc with
      | .ro => bit k r
      | .rw => bit k v
      | .wo => bit k v
      | .w1c => bit k r && !bit k v
      | .rws => bit k r && !bit k v
      | .w1s => bit k r || bit k v
      | .lk => if isSealed then bit k r else bit k v) ∧
    (∀ k, k < f.lo ∨ f.hi < k → bit k (f.write isSealed v r) = bit k r)

/-- After seal no register write changes the timetable: every write to a timetable register is ignored with a fault of severity 0 and no bus error (spec/02_stage_and_timetable.md: R45, spec/01_module.md: R13). -/
def Obligations.SealedTimetableStaysAsItIs : Prop :=
  ∀ (s : State) (dt n v : Nat) (a : Sys2Proof.Acc) (x : Nat), let d := s.now dt
    d.boot.phase = .sealed → n < 256 → x ∈ [STG_TT_START n, STG_TT_LEN n, STG_TT_CTL n, STG_TT_GATE n] → d.mayWrite s.mem a x →
    Completes (.registerWrite dt a x 4 v) s fun t =>
      s.sameMem t ∧ t.dev.bus = d.bus ∧ (∀ b, quiet b → t.dev.rn b = d.rn b) ∧
      (d.frm.beyvoUp = true → t.dev.rn (FRM_CNT 0) = (d.rn (FRM_CNT 0) + 1) % 2 ^ 32)

/-- After reset: device time 0 and stopped, owner fields 0xF, an empty buffer of 98,304 cells, timetable entry 0, IDs and counters as the Reset columns give (spec/01_module.md: R15, spec/19_faults_and_resets.md: R449, spec/18_power_states_and_supply.md). -/
def Obligations.ResetLeavesTheStatedValues : Prop :=
  let d := State.reset.dev
  d.tim.dev = 0 ∧ d.bufFree = 98304 ∧ d.rn SYS_ID = (if Config.gradeE0 then 0x19640 else 0x9640) ∧ d.rn FAB_MODE = 0x21 ∧ d.rn LKP_STS = 0x3100 ∧
  d.rn HLK_STS = 0x1F ∧ d.rn TOW_L_ID = 0x5120 ∧ d.rn (STG_TT_LEN 0) = 6000 ∧ d.rn (STG_TT_CTL 0) = 0x80000093 ∧
  (∀ n, n < 256 → 0 < n → d.fld (STG_TT_CTL_OWNER n) = 15) ∧ d.rn SID_WAKE_CAUSE = 0 ∧
  (∀ n, n < 64 → d.fld (TTA_SLOT_CFG_OWNER n) = 15) ∧ (∀ i, i < 40 → d.fld (CHAN_CFG_OWNER i) = 15) ∧
  (∀ n, n < 32 → d.fld (LIO_CFG_OWNER n) = 15) ∧ (∀ p, p < 36 → d.fld (PORT_CFG_OWNER p) = 15) ∧
  (∀ n, n < 512 → d.fld (IRQ_ROUTE_OWNER n) = 15) ∧ (∀ w, w < 16 → d.rn (IRQ_MASK w) = 0xFFFFFFFF) ∧
  d.rn LOGB_WR_CNT = 0 ∧ d.rn LOGB_RD_CNT = 0 ∧ d.rn MAN_REFUSE_CNT = 0 ∧ (∀ k, k < 4 → d.rn (FRM_CNT k) = 0) ∧
  d.log.queue = [] ∧ d.sbx.queue = [] ∧ d.chans = [] ∧ d.boot.phase ≠ .sealed

/-- A command that stores nothing leaves every byte of memory as it was: only the 68 commands that mayStore lists can change memory (spec/13_coaches_and_worlds.md: R333, R336, spec/23_address_map.md: R493). -/
def Obligations.OnlyStoringCommandsChangeMemory : Prop :=
  ∀ (i : Instr) (s t : State), mayStore i = false → exec i s = .next t → t.mem = s.mem

/-- What the arrival, the lookup, the tail, the start and the end of a plain frame do in the fabric (spec/05_fabric_forwarding.md: R131, R139, R140, R154, R155, R156, spec/04_waybills_and_logbook.md: R106, R108, R110, spec/06_queues_and_resequencing.md: R185, R187, R194). -/
def Obligations.PlainFramesPassThroughTheFabric : Prop :=
  (∀ (s : State) (dt p ts256 : Nat) (bytes : List Nat) (b : Bool) (g : Dev), let d := s.now dt
    p < 16 → d.on (PORT_STS_LINK p) = true → d.portOwner p ≠ 15 → d.sidAt p ts256 = 0 → d.fld (SID_PORT_STS_STATE p) < 2 → d.towPort ≠ some p → d.on (PORT_CFG_TRUNK p) = false → d.ingressMirrored p bytes = false → 64 ≤ bytes.length → (p = 6 → toolFrame bytes = none) → d.isPtp bytes = false → (d.statRx p bytes.length).secVerify p bytes none = (.pass b, g) → g.isPtp bytes = false → 
    exec (.frameIngress dt p ts256 bytes none) s = .next (s.becomes (g.enter { g.newFrame p p 0 (g.portOwner p) ts256 bytes with wb := (if b then (g.newFrame p p 0 (g.portOwner p) ts256 bytes).wb.flag 10 else (g.newFrame p p 0 (g.portOwner p) ts256 bytes).wb), fcsOk := fcsRight bytes none, icvOk := true, wire := bytes.length, tagged := false, mir := none }))) ∧
  (∀ (s : State) (dt id : Nat) (f : Frame), let d := s.now dt
    let e := d.tallyD 0x81 1
    let p := f.wb.port
    let q := d.active.lookup p f.body
    let g := if f.tagged then e else (e.takeFseq q.idMatch p q.cls).2
    let wb := { f.wb with cls := q.cls, epoch := e.fld LKP_STS_EPOCH, fseq := (if f.tagged then f.wb.fseq else (e.takeFseq q.idMatch p q.cls).1) }
    let dests := q.dest.filter (fun t => match q.members with | some m => t ≠ p && bit t m | none => true)
    d.frame id = some f → f.looked = false → f.kind = 0 → bit 19 (d.active.port p 0) = false → q.rule = none → q.drop = none → q.stream = none → q.copyGuard = false → e.towPort = none → dests ≠ [] → 
    exec (.frameLookup dt id) s = .next (s.becomes (((((g.modFrame id fun _ => { f with looked := true, wb := wb, vid := q.vid, pcp := q.pcp, stream := none, maxSdu := 0, rcv := none, heldDup := false, attempted := dests }).sample p q.cls 0 none id f.body wb).sidFrame p).admitAll id (dests.map fun t => { port := t, cls := q.cls, de := false, queue := g.rxQueue t q.cls, start := 0, passed := 0, cut := (g.cutDecision p t q.noExpress).1, thresh := (g.cutDecision p t q.noExpress).2, early := decide (36 ≤ t) && !g.stored p t q.noExpress, readyAt := 0, sending := false, bad := false, kept := none, flags := if (g.cutDecision p t q.noExpress).1 then 128 else 0, untag := bit t q.untag, rtag := .keep, acf := q.acf, mirror := false })).settle id))) ∧
  (∀ (s : State) (dt id : Nat) (f : Frame), let d := s.now dt
    d.frame id = some f → f.looked = true → f.tail = false → f.fcsOk = true → f.icvOk = true → f.lenBad = false → f.tooLong = false → f.mir = none → f.rcv = none → f.heldDup = false → f.rest = none → 
    exec (.frameTailCheck dt id false 0 none) s = .next (s.becomes ((((((if f.wb.port < 36 ∧ f.eth ≠ 0 then d.bwIn f.wb.port f.wire else d).advanceFlows f.id).modFrame f.id (fun x => { x with tail := true })).sampleTail f.id none false).settle f.id).drained))) ∧
  (∀ (s : State) (dt p : Nat) (f : Frame) (c : Copy), let d := s.now dt
    let g := d.shaper p
    let body := egressBytes f c (tget 0 g.fab.acfSeq (Config.portMac p + 2 ^ 48 * ((c.acf.map (·.uid)).getD 0)))
    let fl := c.flags ||| (if g.fab.gapNext.contains (flowKey f.src p c.cls) then 256 else 0) ||| (if g.egressMirrored f c then 32 else 0)
    let l := body ++ List.replicate (60 - body.length) 0
    let m := g.modCopy f.id p (fun c => { c with sending := true, flags := fl })
    p < 16 ∨ (45 ≤ p ∧ p < 48) → d.sendingClass p = none → (p < 36 → d.on (PORT_STS_LINK p) = true ∧ d.fld (SID_PORT_STS_STATE p) = 0) → d.nextCopy p = some (f, c) → c.port = p → c.mirror = false → f.kind = 0 → g.putsTag c = false → g.txSa p body = none → g.tcEvent f body = none → 
    exec (.egressFrameStart dt p) s = .next (s.becomes ((({ m with fab := { m.fab with gapNext := m.fab.gapNext.filter (· ≠ flowKey f.src p c.cls), wire := tput p { bytes := l ++ fcs l, body := body, an := none, stomped := false } (terase p m.fab.wire) } } : Dev).sample p c.cls 1 (some p) f.id body { f.wb with flags := f.wb.flags ||| fl })))) ∧
  (∀ (s : State) (dt p : Nat) (f : Frame) (c : Copy), let d := s.now dt
    let w := tget { bytes := [], body := [], an := none, stomped := false } d.fab.wire p
    p < 16 ∨ (45 ≤ p ∧ p < 48) → d.inProgress p = some (f, c) → f.tail = true → c.port = p → c.bad = false → c.mirror = false → 
    exec (.egressCopyDone dt p) s = .next (s.becomes (((((({ d with fab := { d.fab with wire := tput p w (terase p d.fab.wire) } } : Dev).tallyP p 0x41 f.cells).countTx p (w.bytes.length + (if w.an.isSome then ({ d with fab := { d.fab with wire := tput p w (terase p d.fab.wire) } } : Dev).secBytes p else 0)) f.wb.len).sampleTail f.id (some p) false).resolve f.id p (decide (p < 36))))))

/-- What an expected cell, a gap timer, the faults and the return of a plane and the end of a recovery do (spec/05_fabric_forwarding.md: R131, R157, spec/06_queues_and_resequencing.md: R188, R189). -/
def Obligations.CellAndPlaneCommandsTakeEffect : Prop :=
  (∀ (s : State) (dt p src cls num idx : Nat) (last : Bool), let d := s.now dt
    p < 48 → src < 52 → cls < 8 → num < 4096 → d.fabDown = false → d.expected (flowKey src p cls) = some num → d.frm.beyvoUp = true → 
    exec (.cellArrival dt p src cls num idx last) s = .next (s.becomes ((Dev.passHeld (flowKey src p cls) 512 (d.passCell (flowKey src p cls) num)).gapTimer (flowKey src p cls) true))) ∧
  (∀ (s : State) (dt p src cls e : Nat) (x : GapTimer) (f : Frame) (c : Copy), let d := s.now dt
    let key := flowKey src p cls
    let next := (c.start + f.cells) % 4096
    let g := (d.bump (RSQ_LOST_CNT p)).resolve f.id p false
    let h : Dev := { g with fab := { g.fab with held := g.fab.held.filter (fun y => !(y.flow == key && decide ((y.num + 4096 - e) % 4096 < (next + 4096 - e) % 4096))), gapNext := insertNat key g.fab.gapNext } }
    p < 48 → src < 52 → cls < 8 → x ∈ d.fab.gaps → x.flow = key → x.since + 10 * d.fld RSQ_CTL_GAP ≤ d.up → d.expected key = some e → d.cellCopy src p cls e = some (f, c) → c.sending = false → 
    exec (.gapTimeout dt p src cls) s = .next (s.becomes ((Dev.passHeld key 512 ((((h.setExpected key next).bump (RSQ_GAP_CNT p)).set RSQ_STS_LOST).raiseIf RSQ_INT_EN_LOST 132 |>.postOnce 0x12 0x0001 0 9 p [1] (some 0))).gapTimer key true))) ∧
  (∀ (s : State) (dt i kind : Nat), let d := s.now dt
    i < 2 → bit i (d.fld FAB_STS_PLANE_UP) = true → kind ≠ 1 → d.frm.beyvoUp = true → 
    exec (.planeFault dt i kind) s = .next (s.becomes (let e := ((d.put FAB_STS_PLANE_UP (d.fld FAB_STS_PLANE_UP - 2 ^ i)).set FAB_STS_PLANE_FAULT).fabricFault 0x0001 i; if e.fld FAB_STS_PLANE_UP = 0 then e.fault 3 0x10 0x0001 9 else e))) ∧
  (∀ (s : State) (dt i v : Nat) (a : Sys2Proof.Acc), let d := s.now dt
    d.mayWrite s.mem a FAB_PLANE_CTL → v % 4 = 2 ^ i → i < 2 → bit i (d.fld FAB_STS_PLANE_UP) = false → 
    exec (.planeReadmit dt a v) s = .next (s.becomes ({ d with fab := { d.fab with selfTest := insertNat i d.fab.selfTest } }))) ∧
  (∀ (s : State) (dt i : Nat), let d := s.now dt
    i < 2 → i ∈ d.fab.selfTest → exec (.planeSelfTestDone dt i true) s = .next (s.becomes ((({ d with fab := { d.fab with selfTest := d.fab.selfTest.filter (· ≠ i) } } : Dev).put FAB_STS_PLANE_UP (d.fld FAB_STS_PLANE_UP + 2 ^ i)).post 0x10 0x0002 0 9 i))) ∧
  (∀ (s : State) (dt : Nat), let d := s.now dt
    d.on FAB_MODE_RECOVERY = true → d.fld FAB_MODE_RECOVERY_LEFT = 0 → 
    exec (.recoveryExpired dt) s = .next (s.becomes ((d.clr FAB_MODE_RECOVERY).updRegime)))

/-- Window starts, ends and DONEs, mismatches, folds, infrastructure faults and injections each leave their mark in the state (spec/02_stage_and_timetable.md: R47, R48, R49, spec/14_tandem_pairs.md: R355, R356, R357, R358, R361, R364). -/
def Obligations.WindowAndPairCommandsComplete : Prop :=
  (∀ (s : State) (dt n tick : Nat), let d := s.now dt
    n < 256 → d.fld (STG_TT_START_NS n) ≠ 0 → d.stg.lastTick = some tick → tick + d.fld (STG_TT_START_NS n) ≤ d.domNs → d.ttKind n = 1 ∨ d.ttKind n = 2 → d.ttApplies n d.phase = true → d.skipped (d.fld (STG_TT_CTL_OWNER n)) = false → 
    Completes (.windowStart dt n) s fun t => t.dev.stg.wins =
      { entry := n, owner := d.fld (STG_TT_CTL_OWNER n), core := d.fld (STG_TT_CTL_CORE n), endAt := tick + d.fld (STG_TT_START_NS n) + d.fld (STG_TT_LEN_NS n), isOpen := true, awaits := true } :: d.stg.wins ∧ s.sameMem t) ∧
  (∀ (s : State) (dt c v : Nat) (a : Sys2Proof.Acc) (w : Win) (rest : List Win), let d := s.now dt
    c < 8 → d.mayWrite s.mem a (STG_DONE c) → bit 0 v = true → d.stg.wins = w :: rest → w.owner = c → w.awaits = true → w.isOpen = true → (∀ x ∈ d.stg.wins, x.owner = c → x.isOpen = true → d.domNs ≤ x.endAt) → 
    Completes (.stgDone dt a c v) s fun t => t.dev.stg.wins = { w with awaits := false } :: rest.filter (fun x => x.isOpen || x.awaits) ∧ s.sameMem t) ∧
  (∀ (s : State) (dt v : Nat) (a : Sys2Proof.Acc) (w : Win) (rest : List Win), let d := s.now dt
    d.mayWrite s.mem a STG_GDONE → bit 0 v = true → d.stg.wins = w :: rest → w.owner = 8 → w.awaits = true → w.isOpen = true → (∀ x ∈ d.stg.wins, x.owner = 8 → x.isOpen = true → d.domNs ≤ x.endAt) → 
    Completes (.stgGdone dt a v) s fun t => t.dev.stg.wins = { w with awaits := false } :: rest.filter (fun x => x.isOpen || x.awaits) ∧ s.sameMem t) ∧
  (∀ (s : State) (dt n : Nat) (w : Win) (rest : List Win), let d := s.now dt
    n < 256 → d.stg.wins = w :: rest → w.entry = n → w.isOpen = true → w.awaits = false → w.endAt ≤ d.domNs → (∀ x ∈ rest, x.entry = n → x.isOpen = false) → d.tan.latent = [] → 
    Completes (.windowEnd dt n) s fun t => t.dev.stg.wins = rest.filter (fun x => x.isOpen || x.awaits) ∧ t.dev.log = d.log ∧ s.sameMem t) ∧
  (∀ (s : State) (dt pair kind addr : Nat) (ad dd td ig : Bool), let d := s.now dt
    pair < 4 → kind < 3 → d.fld (TAN_PAIR_STS_STATE pair) = 1 → 
    Completes (.boundaryMismatch dt pair kind ad dd td ig addr) s fun t => pair ∉ t.dev.tan.injBound ∧ s.sameMem t) ∧
  (∀ (s : State) (dt pair : Nat) (l w : List Nat), let d := s.now dt
    pair < 4 → d.fld (TAN_PAIR_STS_STATE pair) = 1 → d.tan.foldSince.any (fun x => x.1 == pair) = true → d.foldInterval pair ≤ d.foldRun pair → 
    Completes (.foldCapture dt pair l w) s fun t => t.dev.tan.fold = tput pair (crc64 (l ++ d.foldLc (2 * pair)), crc64 (w ++ d.foldLc (2 * pair))) (terase pair d.tan.fold) ∧ t.dev.regs = d.regs ∧ s.sameMem t) ∧
  (∀ (s : State) (dt pair i l : Nat), let d := s.now dt
    pair < 4 → d.tan.fold.find? (fun x => x.1 == pair) = some (i, l, l) → d.fld (TAN_PAIR_STS_STATE pair) = 1 → pair ∉ d.tan.injFold → 
    Completes (.foldCompare dt pair) s fun t => t.dev.rn (TAN_PAIR_FOLD_CNT pair) = (d.rn (TAN_PAIR_FOLD_CNT pair) + 1) % 2 ^ 32 ∧ t.dev.tan.fold = terase pair d.tan.fold ∧ s.sameMem t) ∧
  (∀ (s : State) (dt pair rail : Nat) (par : Bool), let d := s.now dt
    pair < 4 → d.fld (TAN_PAIR_STS_STATE pair) = 1 → 
    Completes (.tandemInfrastructureFault dt pair par rail) s fun t => pair ∈ t.dev.tan.degraded ∧ pair ∈ t.dev.tan.held ∧ t.dev.fld (TAN_PAIR_STS_STATE pair) = 2 ∧ s.sameMem t) ∧
  (∀ (s : State) (dt pair v : Nat) (a : Sys2Proof.Acc), let d := s.now dt
    d.mayWrite s.mem a TAN_INJ → bits 31 16 v = 0x7A9D → bits 3 2 v = 0 → bits 1 0 v = pair → d.on MAN_DBG_STS_GUARD_INV = true → d.fld (TAN_PAIR_STS_STATE pair) = 1 → 
    Completes (.tanInjBoundary dt a v) s fun t => pair ∈ t.dev.tan.injBound ∧ s.sameMem t) ∧
  (∀ (s : State) (dt pair v : Nat) (a : Sys2Proof.Acc), let d := s.now dt
    d.mayWrite s.mem a TAN_INJ → bits 31 16 v = 0x7A9D → bits 3 2 v = 1 → bits 1 0 v = pair → d.on MAN_DBG_STS_GUARD_INV = true → d.fld (TAN_PAIR_STS_STATE pair) = 1 → 
    Completes (.tanInjFold dt a v) s fun t => pair ∈ t.dev.tan.injFold ∧ s.sameMem t) ∧
  (∀ (s : State) (dt pair v : Nat) (a : Sys2Proof.Acc), let d := s.now dt
    d.mayWrite s.mem a TAN_INJ → bits 31 16 v = 0x7A9D → bits 3 2 v = 2 → bits 1 0 v = pair → d.on MAN_DBG_STS_GUARD_INV = true → d.fld (TAN_PAIR_STS_STATE pair) = 1 → 
    Completes (.tanInjSelfTest dt a v) s fun t => pair ∈ t.dev.tan.injSelf ∧ s.sameMem t)

/-- Each of the 20 strongbox operations takes its descriptor from the queue, writes its status and length back and sets DONE (spec/15_strongbox.md: R385). -/
def Obligations.StrongboxOperationsCompleteTheirDescriptor : Prop :=
  ∀ (s : State) (dt a op : Nat) (rest : List Nat) (i : Instr), let d := s.now dt
    let c := sbxCmd s.mem a
    d.sbx.queue = a :: rest → d.guardMem s.mem a 32 .read = true → d.guardMem s.mem (a + 24) 8 .write = true → c.op = op →
    (c.publicKey = true → d.gated 2 0 = false) →
    c.outAddr + c.outCap ≤ 0x11560000 ∨ 0x115EA000 ≤ c.outAddr →
    (op, i) ∈ [(0x01, Instr.generate dt), (0x02, .derive dt), (0x03, .unwrap dt), (0x04, .wrap dt), (0x05, .publicKey dt),
      (0x06, .ecdh dt), (0x07, .kemEnc dt), (0x08, .kemDec dt), (0x10, .verifyEcdsa dt), (0x11, .verifyMldsa dt),
      (0x12, .verifyHybrid dt), (0x18, .random dt), (0x20, .verifyStaged dt), (0x21, .commit dt), (0x22, .discard dt),
      (0x23, .invalidate dt), (0x24, .erase dt), (0x28, .odoRead dt), (0x29, .odoAdvance dt), (0x30, .debugCert dt)] →
    Completes i s fun t =>
      t.dev.sbx.queue = rest ∧ bit 8 (Mem.word t.mem (a + 28)) = true ∧ t.dev.on SBX_STS_DONE = true ∧
      t.dev.chans = d.chans ∧ t.dev.fab = d.fab ∧ t.pending = s.pending

/-- Submissions wait in their queues; a cipher command that starts runs or leaves its record; keys, reservations, lanes and the generator follow their commands (spec/15_strongbox.md: R376, R377, R381, R385, spec/16_cipher_engine.md: R387, R389, R394, R396, R399, R402, R403). -/
def Obligations.CipherAndStrongboxCommandsComplete : Prop :=
  (∀ (s : State) (dt l v i : Nat) (a : Sys2Proof.Acc), let d := s.now dt
    l < 4 → d.mayWrite s.mem a (CE_SUBMIT l) → v < 2 ^ 32 → pageIndex v = some i → 0x10000000 ≤ v → v < 0x11800000 → entryOwner (Mem.entry s.mem i) = 8 → entryR (Mem.entry s.mem i) = true → entryW (Mem.entry s.mem i) = true → v % 128 = 0 → (d.lane l).queue.length < 8 → d.laneUp l = true → 
    Completes (.ceSubmit dt a l v) s fun t => (t.dev.lane l).queue = (d.lane l).queue ++ [v] ∧ s.sameMem t) ∧
  (∀ (s : State) (dt l a : Nat) (rest : List Nat), let d := s.now dt
    l < 4 → (d.lane l).queue = a :: rest → (d.lane l).run = none → d.laneUp l = true → d.gated 1 l = false → (ceCmd s.mem a).op = 0x01 → 
    Completes (.encrypt dt l) s fun t => (t.dev.lane l).queue = rest ∧
      ((t.dev.lane l).run.any (fun r => r.desc == a) = true ∨ ((t.dev.lane l).run = none ∧ bit 8 (Mem.word t.mem (a + 48)) = true)) ∧ t.pending = s.pending) ∧
  (∀ (s : State) (dt l a : Nat) (rest : List Nat), let d := s.now dt
    l < 4 → (d.lane l).queue = a :: rest → (d.lane l).run = none → d.laneUp l = true → d.gated 1 l = false → (ceCmd s.mem a).op = 0x02 → 
    Completes (.decrypt dt l) s fun t => (t.dev.lane l).queue = rest ∧
      ((t.dev.lane l).run.any (fun r => r.desc == a) = true ∨ ((t.dev.lane l).run = none ∧ bit 8 (Mem.word t.mem (a + 48)) = true)) ∧ t.pending = s.pending) ∧
  (∀ (s : State) (dt l a : Nat) (rest : List Nat), let d := s.now dt
    l < 4 → (d.lane l).queue = a :: rest → (d.lane l).run = none → d.laneUp l = true → d.gated 1 l = false → (ceCmd s.mem a).op = 0x03 → 
    Completes (.macGen dt l) s fun t => (t.dev.lane l).queue = rest ∧
      ((t.dev.lane l).run.any (fun r => r.desc == a) = true ∨ ((t.dev.lane l).run = none ∧ bit 8 (Mem.word t.mem (a + 48)) = true)) ∧ t.pending = s.pending) ∧
  (∀ (s : State) (dt l a : Nat) (rest : List Nat), let d := s.now dt
    l < 4 → (d.lane l).queue = a :: rest → (d.lane l).run = none → d.laneUp l = true → d.gated 1 l = false → (ceCmd s.mem a).op = 0x04 → 
    Completes (.macVerify dt l) s fun t => (t.dev.lane l).queue = rest ∧
      ((t.dev.lane l).run.any (fun r => r.desc == a) = true ∨ ((t.dev.lane l).run = none ∧ bit 8 (Mem.word t.mem (a + 48)) = true)) ∧ t.pending = s.pending) ∧
  (∀ (s : State) (dt l a : Nat) (rest : List Nat), let d := s.now dt
    l < 4 → (d.lane l).queue = a :: rest → (d.lane l).run = none → d.laneUp l = true → d.gated 1 l = false → (ceCmd s.mem a).op = 0x05 → 
    Completes (.hashMsg dt l) s fun t => (t.dev.lane l).queue = rest ∧
      ((t.dev.lane l).run.any (fun r => r.desc == a) = true ∨ ((t.dev.lane l).run = none ∧ bit 8 (Mem.word t.mem (a + 48)) = true)) ∧ t.pending = s.pending) ∧
  (∀ (s : State) (dt l a : Nat) (rest : List Nat), let d := s.now dt
    l < 4 → (d.lane l).queue = a :: rest → (d.lane l).run = none → d.laneUp l = true → d.gated 1 l = false → (ceCmd s.mem a).op = 0x10 → 
    Completes (.msecInstall dt l) s fun t => (t.dev.lane l).queue = rest ∧
      ((t.dev.lane l).run.any (fun r => r.desc == a) = true ∨ ((t.dev.lane l).run = none ∧ bit 8 (Mem.word t.mem (a + 48)) = true)) ∧ t.pending = s.pending) ∧
  (∀ (s : State) (dt l a : Nat) (rest : List Nat), let d := s.now dt
    l < 4 → (d.lane l).queue = a :: rest → (d.lane l).run = none → d.laneUp l = true → d.gated 1 l = false → (ceCmd s.mem a).op = 0x11 → 
    Completes (.msecRemove dt l) s fun t => (t.dev.lane l).queue = rest ∧
      ((t.dev.lane l).run.any (fun r => r.desc == a) = true ∨ ((t.dev.lane l).run = none ∧ bit 8 (Mem.word t.mem (a + 48)) = true)) ∧ t.pending = s.pending) ∧
  (∀ (s : State) (dt l : Nat) (r : CeRun), let d := s.now dt
    l < 4 → (d.lane l).run = some r → r.why = .output → r.chunks = [] → r.revoked = false → r.prov = false → 
    Completes (.chunkDeliveryRetry dt l) s fun t => (t.dev.lane l).run = none ∧ bit 8 (Mem.word t.mem (r.desc + 48)) = true) ∧
  (∀ (s : State) (dt l : Nat) (r : CeRun), let d := s.now dt
    l < 4 → (d.lane l).run = some r → r.why = .output → 1000000 * d.fld CE_CFG_STALL_MS ≤ d.up - r.since → r.revoked = false → r.prov = false → 
    Completes (.outputStallTimeout dt l) s fun t => (t.dev.lane l).run = none ∧ bit 8 (Mem.word t.mem (r.desc + 48)) = true ∧ t.dev.on CE_STS_STALL = true) ∧
  (∀ (s : State) (dt l : Nat) (r : CeRun), let d := s.now dt
    l < 4 → (d.lane l).run = some r → r.why = .purge → d.ceArrived r = true → r.cmd.dq ∈ d.dead → 
    Completes (.provisionalRevoke dt l) s fun t => (t.dev.lane l).run = none ∧ bit 8 (Mem.word t.mem (r.desc + 48)) = true) ∧
  (∀ (s : State) (dt l : Nat), let d := s.now dt
    l < 4 → (d.lane l).want = true → (d.lane l).run = none → 
    Completes (.nonceBlockReserved dt l) s fun t => t.dev.odo 0 = (d.odo 0 + 2 ^ 20) % 2 ^ 64 ∧ (t.dev.lane l).want = false) ∧
  (∀ (s : State) (dt v : Nat) (a : Sys2Proof.Acc), let d := s.now dt
    d.mayWrite s.mem a CE_KEYLOAD → bit 19 v = false → bits 9 6 v = 2 → 
    Completes (.ceKeyload dt a v) s fun t => (t.dev.ce.temp.find? (fun x => x.1 == 16 * bits 1 0 v + bits 5 2 v)).any (fun x => x.2.type == 2 && x.2.owner == bits 17 14 v) = true ∧ s.sameMem t) ∧
  (∀ (s : State) (dt v : Nat) (a : Sys2Proof.Acc), let d := s.now dt
    d.mayWrite s.mem a CE_KEYLOAD → bit 19 v = true → 
    Completes (.ceKeyloadClr dt a v) s fun t => t.dev.ce.temp = terase (16 * bits 1 0 v + bits 5 2 v) d.ce.temp ∧ s.sameMem t) ∧
  (∀ (s : State) (dt l : Nat), let d := s.now dt
    l < 4 → d.laneUp l = true → d.frm.beyvoUp = true → 
    Completes (.laneFault dt l) s fun t => (t.dev.lane l).queue = [] ∧ t.dev.laneUp l = false ∧ t.dev.ce.temp = []) ∧
  (∀ (s : State) (dt v : Nat) (a : Sys2Proof.Acc), let d := s.now dt
    d.mayWrite s.mem a CE_LANE_CTL → Completes (.ceLaneReadmit dt a v) s fun t => (∀ l < 4, bit l v = true → d.laneUp l = false → l ∈ t.dev.ce.testing) ∧ s.sameMem t) ∧
  (∀ (s : State) (dt l : Nat) (pass : Bool), let d := s.now dt
    l < 4 → l ∈ d.ce.testing → Completes (.laneSelfTestDone dt l pass) s fun t => l ∉ t.dev.ce.testing ∧ s.sameMem t) ∧
  (∀ (s : State) (dt v i : Nat) (a : Sys2Proof.Acc), let d := s.now dt
    d.mayWrite s.mem a SBX_SUBMIT → v < 2 ^ 32 → pageIndex v = some i → 0x10000000 ≤ v → v < 0x11800000 → entryOwner (Mem.entry s.mem i) = 8 → entryR (Mem.entry s.mem i) = true → entryW (Mem.entry s.mem i) = true → v % 32 = 0 → d.sbx.queue.length < 8 → 
    Completes (.sbxSubmit dt a v) s fun t => t.dev.sbx.queue = d.sbx.queue ++ [v] ∧ s.sameMem t) ∧
  (∀ (s : State) (dt : Nat), let d := s.now dt
    d.frm.beyvoUp = true → Completes (.trngHealthFailure dt) s fun t => t.dev.sbx.refused = true ∧ s.sameMem t) ∧
  (∀ (s : State) (dt : Nat), let d := s.now dt
    d.frm.beyvoUp = true → Completes (.drbgReseedRetry dt true) s fun t => t.dev.sbx.refused = false ∧ s.sameMem t) ∧
  (∀ (s : State) (dt : Nat) (a : Sys2Proof.Acc), let d := s.now dt
    d.mayRead s.mem a SBX_DRBG → d.sbx.refused = true → 
    Completes (.sbxDrbgRead dt a) s fun t => t.dev.bus = ⟨0, false⟩ ∧ s.sameMem t) ∧
  (∀ (s : State) (dt sources : Nat), let d := s.now dt
    sources &&& d.tamperMask ≠ 0 → d.frm.tamperHold = false → 
    Completes (.tamperAlarm dt sources) s fun t => t.dev.frm.tamperHold = true ∧ t.dev.sbx.slots = [] ∧ t.pending = s.pending)

/-- The boot sequence and its timers, seal, coach starts, fuses, flash commands and service frames reach the state that their rule names (spec/17_consist_and_boot.md: R415, R416, R417, R420, R421, R422, R423, R424, R425). -/
def Obligations.BootAndServiceCommandsComplete : Prop :=
  (∀ (s : State) (dt unread : Nat) (iOk sOk : Bool) (odo : List (Nat × Option Nat)), let d := s.now dt
    (odo.all fun x => decide (x.1 < 16)) = true → d.boot.phase = .rom → d.frm.devReset = none → d.frm.bvReset = none → d.bootWaits s.mem = false → d.fld SYS_BOOT_STS_BOOTSEL = 3 → 
    Completes (.bootSequence dt true unread iOk sOk odo) s fun t => t.dev.frm.bootHold = true ∧ t.dev.boot.phase = .hold ∧ s.sameMem t) ∧
  (∀ (s : State) (dt unread h : Nat) (iOk sOk : Bool) (odo : List (Nat × Option Nat)) (rest : List Nat), let d := s.now dt
    let k := (d.bootKeys odo).put FAB_MODE_TEST 0
    let e := (k.putErr 0 (k.candErr s.mem 0)).putErr 1 (k.candErr s.mem 1)
    let cause := d.fld FRM_BOOT_CAUSE_CAUSE
    let b := applyImage h (cause == 5 || cause == 6 || cause == 8 || cause == 9) iOk sOk e s.mem
    let err := verifyErr s.mem h (bit h unread)
    (odo.all fun x => decide (x.1 < 16)) = true → d.boot.phase = .rom → d.frm.devReset = none → d.frm.bvReset = none → d.bootWaits s.mem = false → d.fld SYS_BOOT_STS_BOOTSEL = 0 → e.bootHalves s.mem = h :: rest → 
    Completes (.bootSequence dt true unread iOk sOk odo) s fun t => t.pending = s.pending ∧
      (err = 0 → b.err = 0 → t.mem = b.mem ∧ t.dev.boot.phase = .applied ∧ t.dev.boot.rollback = imageRollback (imageHead s.mem h) ∧
        t.dev.on SYS_BOOT_STS_HALF = (h == 1) ∧ t.dev.rn SYS_IMAGE_VER = imageVersion (imageHead s.mem h)) ∧
      (err ≠ 0 → rest = [] → t.dev.boot.phase = .hold ∧ t.dev.frm.bootHold = true)) ∧
  (∀ (s : State) (dt : Nat), let d := s.now dt
    d.boot.phase = .rom ∨ d.boot.phase = .applied → d.bootWaits s.mem = false → d.frm.devReset = none → d.fld SYS_BOOT_STS_RETRY = 3 → d.boot.timerFrom + 5000000000 ≤ d.up → 
    Completes (.bootTimerExpiry dt) s fun t => t.dev.frm.bootHold = true ∧ t.dev.boot.phase = .hold ∧ s.sameMem t) ∧
  (∀ (s : State) (dt unread h : Nat) (iOk sOk : Bool) (odo : List (Nat × Option Nat)) (rest : List Nat), let d := s.now dt
    let k := (d.bootKeys odo).put FAB_MODE_TEST 0
    let e := (k.putErr 0 (k.candErr s.mem 0)).putErr 1 (k.candErr s.mem 1)
    let cause := d.fld FRM_BOOT_CAUSE_CAUSE
    let b := applyImage h (cause == 5 || cause == 6 || cause == 8 || cause == 9) iOk sOk e s.mem
    let err := verifyErr s.mem h (bit h unread)
    (odo.all fun x => decide (x.1 < 16)) = true → d.boot.phase = .rom → d.frm.devReset = none → d.frm.bvReset = none → d.bootWaits s.mem = false → d.fld SYS_BOOT_STS_BOOTSEL = 0 → e.bootHalves s.mem = h :: rest → 
    Completes (.bootSequence dt true unread iOk sOk odo) s fun t => t.pending = s.pending ∧
      (err = 0 → b.err = 0 → t.mem = b.mem ∧ t.dev.boot.phase = .applied ∧ t.dev.boot.rollback = imageRollback (imageHead s.mem h) ∧
        t.dev.on SYS_BOOT_STS_HALF = (h == 1) ∧ t.dev.rn SYS_IMAGE_VER = imageVersion (imageHead s.mem h)) ∧
      (err ≠ 0 → rest = [] → t.dev.boot.phase = .hold ∧ t.dev.frm.bootHold = true)) ∧
  (∀ (s : State) (dt : Nat), let d := s.now dt
    d.boot.phase = .rom ∨ d.boot.phase = .applied → d.bootWaits s.mem = false → d.frm.devReset = none → d.fld SYS_BOOT_STS_RETRY ≠ 3 → d.boot.timerFrom + 5000000000 ≤ d.up → 
    Completes (.bootTimerExpiry dt) s fun t => t.dev.frm.devReset = some ⟨4, 0, 0⟩ ∧ t.dev.fld SYS_BOOT_STS_RETRY = d.fld SYS_BOOT_STS_RETRY + 1 ∧ s.sameMem t) ∧
  (∀ (s : State) (dt : Nat), let d := s.now dt
    d.boot.phase = .rom → d.fld SYS_BOOT_STS_BOOTSEL = 2 → d.on SBX_ROOT_CERT = false → d.boot.releasedAt + 10000000000 ≤ d.up → 
    Completes (.certificateWaitTimeout dt) s fun t => t.dev.frm.bootHold = true ∧ t.dev.boot.phase = .hold ∧ s.sameMem t) ∧
  (∀ (s : State) (dt failed : Nat), let d := s.now dt
    d.boot.phase = .applied → d.frm.devReset = none → d.frm.bvReset = none → 
    Completes (.seal dt failed) s fun t => t.dev.boot.phase = .sealed ∧ t.dev.on SYS_SEAL_SEAL = true ∧ t.dev.on SYS_READY_SEALED = true ∧ t.dev.fld SYS_BOOT_STS_RETRY = 0 ∧ s.sameMem t) ∧
  (∀ (s : State) (dt c : Nat), let d := s.now dt
    c < 8 → d.startable c = true → d.startCond c = true → 
    Completes (.coachStart dt c) s fun t => t.dev.on (SYS_COACH_STS_STARTED c) = true ∧ s.sameMem t) ∧
  (∀ (s : State) (dt c : Nat), let d := s.now dt
    c < 8 → d.startable c = true → d.fld (SYS_COACH_START_TMO c) ≠ 0 → d.startCond c = false → d.boot.sealedAt + 100000000 * d.fld (SYS_COACH_START_TMO c) ≤ d.up → 
    Completes (.coachStartTimeout dt c) s fun t => t.dev.on (SYS_COACH_STS_STARTED c) = true ∧ t.dev.on (SYS_COACH_STS_TMO_START c) = true ∧ t.dev.on SYS_STS_TMO_START = true ∧ s.sameMem t) ∧
  (∀ (s : State) (dt v : Nat) (a : Sys2Proof.Acc), let d := s.now dt
    d.mayWrite s.mem a SYS_CTL → bit 0 v = true → 
    Completes (.guardGo dt a v) s fun t => t.dev.on SYS_CTL_GUARD_GO = true ∧ s.sameMem t) ∧
  (∀ (s : State) (dt v : Nat) (a : Sys2Proof.Acc), let d := s.now dt
    d.mayWrite s.mem a SYS_ROLLBACK_CMT → bits 31 16 v = 0xB10E → d.fld SBX_ROLLBACK_CONSIST < d.boot.rollback → d.boot.rollback < 256 → 
    Completes (.sysRollbackCmt dt a v) s fun t => t.dev.fld SBX_ROLLBACK_CONSIST = d.boot.rollback ∧ t.dev.on SYS_STS_RB_DONE = true ∧ s.sameMem t) ∧
  (∀ (s : State) (dt v : Nat) (a : Sys2Proof.Acc) (c : FlashCmd), let d := s.now dt
    d.mayWrite s.mem a SYS_FLASH_CMD → bits 1 0 v = 1 → d.on SYS_FLASH_STS_BUSY = false → d.flashStart s.mem v = some c → 
    Completes (.flashErase dt a v) s fun t => t.dev.boot.flash = some c ∧ t.dev.on SYS_FLASH_STS_BUSY = true ∧ s.sameMem t) ∧
  (∀ (s : State) (dt v : Nat) (a : Sys2Proof.Acc) (c : FlashCmd), let d := s.now dt
    d.mayWrite s.mem a SYS_FLASH_CMD → bits 1 0 v = 2 → d.on SYS_FLASH_STS_BUSY = false → d.flashStart s.mem v = some c → 
    Completes (.flashProgram dt a v) s fun t => t.dev.boot.flash = some c ∧ t.dev.on SYS_FLASH_STS_BUSY = true ∧ s.sameMem t) ∧
  (∀ (s : State) (dt : Nat) (c : FlashCmd), let d := s.now dt
    d.boot.flash = some c → Completes (.flashCommandDone dt true) s fun t => t.mem = Mem.setBytes s.mem c.addr (d.flashBytes c true) ∧ t.dev.boot.flash = none ∧ t.dev.on SYS_FLASH_STS_BUSY = false ∧ t.dev.on SYS_FLASH_STS_DONE = true) ∧
  (∀ (s : State) (dt : Nat), let d := s.now dt
    d.inService = true → d.boot.answered = false → d.boot.helloAt.all (fun t => decide (t + 100000000 ≤ d.up)) = true → 
    Completes (.hello dt) s fun t => t.dev.boot.helloAt = some d.up ∧ t.dev.boot.sent.take 6 = List.replicate 6 0xFF ∧ s.sameMem t) ∧
  (∀ (s : State) (dt tool offset : Nat) (data : List Nat), let d := s.now dt
    d.inService = true → data.length ≤ 1024 → offset = d.boot.received → d.serviceDone s.mem = false → 
    Completes (.data dt tool offset data) s fun t => t.mem = Mem.setBytes s.mem (0x100000000 + offset) data ∧ t.dev.boot.received = offset + data.length ∧ t.dev.boot.answered = true) ∧
  (∀ (s : State) (dt offset : Nat) (data : List Nat), let d := s.now dt
    d.toolOpen = true → data.length ≤ 1024 → offset = d.boot.cert.length → (d.boot.cert ++ data).length < certLen (d.boot.cert ++ data) → 
    Completes (.cert dt offset data) s fun t => t.dev.boot.cert = d.boot.cert ++ data ∧ t.dev.regs = d.regs ∧ s.sameMem t) ∧
  (∀ (s : State) (dt : Nat) (cert : List Nat), let d := s.now dt
    d.frm.beyvoUp = true → cert.length ≤ 16384 → d.boot.phase = .rom ∨ d.boot.phase = .sealed → 
    Completes (.certLoad dt cert) s fun t => (t.dev.boot.certSts = 1 ∨ t.dev.boot.certSts = 2) ∧ s.sameMem t) ∧
  (∀ (s : State) (dt : Nat), let d := s.now dt
    Completes (.certSts dt) s fun t => t.dev.bus = ⟨d.boot.certSts + 4 * (d.rn MAN_DBG_STS % 16), false⟩ ∧ t.dev.regs = d.regs ∧ s.sameMem t)

/-- Served debug commands answer and act on their core; sleep requests, waits, wakes, supply, clock and gate commands leave their value behind (spec/17_consist_and_boot.md: R426, R428, spec/18_power_states_and_supply.md: R430, R432, R435, R436, R439, R440, R442, spec/02_stage_and_timetable.md: R67, R68). -/
def Obligations.DebugAndPowerCommandsComplete : Prop :=
  (∀ (s : State) (dt core addr : Nat) (port : Bool) (a : Sys2Proof.Acc), let d := s.now dt
    core < 12 → addr < 2 ^ 64 → d.dbgServed port = true → (d.dbgTaken port 3 core addr).dbgGrant core true = some a → 
    Completes (.debugHalt dt port core addr) s fun t => core ∈ t.dev.dbg.halted ∧ t.dev.dbg.response.take 4 = [3, core, 0, 0] ∧ s.sameMem t) ∧
  (∀ (s : State) (dt core addr : Nat) (port : Bool) (a : Sys2Proof.Acc), let d := s.now dt
    core < 12 → addr < 2 ^ 64 → d.dbgServed port = true → (d.dbgTaken port 4 core addr).dbgGrant core true = some a → core ∈ (d.dbgTaken port 4 core addr).dbg.halted → 
    Completes (.debugResume dt port core addr) s fun t => core ∉ t.dev.dbg.halted ∧ t.dev.dbg.response.take 4 = [4, core, 0, 0] ∧ s.sameMem t) ∧
  (∀ (s : State) (dt core addr : Nat) (port : Bool) (a : Sys2Proof.Acc), let d := s.now dt
    core < 12 → addr < 2 ^ 64 → d.dbgServed port = true → (d.dbgTaken port 5 core addr).dbgGrant core true = some a → 
    Completes (.debugStep dt port core addr) s fun t => t.dev.dbg.halted = d.dbg.halted ∧ t.dev.dbg.response.take 4 = [5, core, 0, 0] ∧ s.sameMem t) ∧
  (∀ (s : State) (dt core addr : Nat) (port : Bool) (a : Sys2Proof.Acc), let d := s.now dt
    core < 12 → addr < 2 ^ 64 → d.dbgServed port = true → (d.dbgTaken port 1 core addr).dbgGrant core false = some a → 
    Completes (.debugRead dt port core addr) s fun t => (t.dev.dbg.response.take 4 = [1, core, 0, 0] ∨ t.dev.dbg.response.take 4 = [1, core, 2, 0])) ∧
  (∀ (s : State) (dt core addr v : Nat) (port : Bool) (a : Sys2Proof.Acc), let d := s.now dt
    core < 12 → addr < 2 ^ 64 → d.dbgServed port = true → (d.dbgTaken port 2 core addr).dbgGrant core true = some a → 
    Completes (.debugWrite dt port core addr v) s fun t => (t.dev.dbg.response.take 4 = [2, core, 0, 0] ∨ t.dev.dbg.response.take 4 = [2, core, 2, 0])) ∧
  (∀ (s : State) (dt o v : Nat) (a : Sys2Proof.Acc), let d := s.now dt
    o < 9 → d.mayWrite s.mem a (PWRM_SLEEP_REQ o) → v % 2 = 1 → 
    Completes (.pwrmSleepReq dt a o v) s fun t => t.dev.on (PWRM_SLEEP_REQ_REQ o) = true ∧ s.sameMem t) ∧
  (∀ (s : State) (dt o v : Nat) (a : Sys2Proof.Acc), let d := s.now dt
    o < 9 → d.mayWrite s.mem a (PWRM_TOL_US o) → 80000 ≤ v → v < 2 ^ 32 → 
    Completes (.pwrmTolUs dt a o v) s fun t => t.dev.rn (PWRM_TOL_US o) = v ∧ s.sameMem t) ∧
  (∀ (s : State) (dt core : Nat), let d := s.now dt
    core < 12 → core ∈ d.wld.running → Completes (.coreWait dt core) s fun t => core ∈ t.dev.wld.waiting ∧ t.dev.regs = d.regs ∧ s.sameMem t) ∧
  (∀ (s : State) (dt core : Nat), let d := s.now dt
    core < 12 → d.coreCalled core = true → core ∈ d.wld.waiting → 
    Completes (.coreRetentionWake dt core) s fun t => core ∉ t.dev.wld.waiting ∧ t.dev.regs = d.regs ∧ s.sameMem t) ∧
  (∀ (s : State) (dt : Nat), let d := s.now dt
    d.sid.asleep = 1 → d.sid.timer ≠ 0 → d.sid.noted = false → d.sid.enteredAt + 1000000000 * d.sid.timer ≤ d.up → 
    Completes (.wakeTimerExpiry dt) s fun t => t.dev.sid.timer = 0 ∧ t.dev.sid.noted = true ∧ s.sameMem t) ∧
  (∀ (s : State) (dt bs : Nat) (low ok : Bool), let d := s.now dt
    bs < 4 → d.frm.lockedOut = false → Completes (.supplyRangeChange dt 4 low bs ok) s fun t => t.dev.frm.beyvoUp = false ∧ t.dev.frm.lockedOut = true ∧ t.mem = Mem.flashOnly s.mem ∧ t.pending = s.pending) ∧
  (∀ (s : State) (dt : Nat) (below : Bool), let d := s.now dt
    d.hvRuns = true → Completes (.vbatP3Reverse dt below) s fun t => t.dev.on CHAN_GSTS_P3_REV = below ∧ s.sameMem t) ∧
  (∀ (s : State) (dt ppm : Nat), let d := s.now dt
    d.frm.beyvoUp = true → d.on CLK_STS_REF = false → ppmSize ppm ≤ 1000 → 
    Completes (.refclkSelected dt ppm) s fun t => t.dev.on CLK_STS_REF = true ∧ t.dev.on CLK_STS_PRESENT = true ∧ s.sameMem t) ∧
  (∀ (s : State) (dt ppm : Nat) (edges : Bool), let d := s.now dt
    d.frm.beyvoUp = true → d.on CLK_STS_REF = true → (edges = true → 2000 < ppmSize ppm) → 
    Completes (.refclkLost dt edges ppm) s fun t => t.dev.on CLK_STS_REF = false ∧ t.dev.on CLK_STS_PRESENT = edges ∧ s.sameMem t) ∧
  (∀ (s : State) (dt pll : Nat), let d := s.now dt
    d.frm.beyvoUp = true → Completes (.pllUnlock dt pll) s fun t => t.dev.on CLK_STS_PLL_UNLOCK = true ∧ s.sameMem t) ∧
  (∀ (s : State) (dt u v : Nat) (a : Sys2Proof.Acc), let d := s.now dt
    1 ≤ u → u ≤ 6 → d.mayWrite s.mem a (CLK_GATE u) → 
    Completes (.clkGateWrite dt a u v) s fun t => t.dev.fld (CLK_GATE_OFF u) = v % subUnits u ∧ s.sameMem t) ∧
  (∀ (s : State) (dt u v : Nat) (a : Sys2Proof.Acc), let d := s.now dt
    1 ≤ u → u ≤ 6 → d.mayWrite s.mem a (PWRM_PGATE u) → v % subUnits u &&& d.fld (CLK_GATE_OFF u) = v % subUnits u → 
    Completes (.pwrmPgateWrite dt a u v) s fun t => t.dev.fld (PWRM_PGATE_OFF u) = v % subUnits u ∧ s.sameMem t) ∧
  (∀ (s : State) (dt u j : Nat), let d := s.now dt
    1 ≤ u → u ≤ 6 → j < 4 → d.unitIdle u j = true → bit j (d.fld (CLK_GATE_OFF u)) = true → bit j ((d.set ⟨CLK_GATE u, 8 + j, 8 + j⟩).fld (PWRM_PGATE_OFF u)) = false → 
    Completes (.gateInEffect dt u j) s fun t => t.dev.on ⟨CLK_GATE u, 8 + j, 8 + j⟩ = true ∧ s.sameMem t)

/-- Acknowledgements, software faults, reset requests, the resets themselves and block resets reach the state that their rule names (spec/19_faults_and_resets.md: R445, R446, R447, R448, R451, R453, R454, R455, R456). -/
def Obligations.FaultAndResetCommandsComplete : Prop :=
  (∀ (s : State) (dt v : Nat) (a : Sys2Proof.Acc), let d := s.now dt
    d.mayWrite s.mem a FRM_ACK → bits 31 16 v = 0xFA17 → 
    Completes (.frmAck dt a v) s fun t => t.dev.on FRM_STS_PEND = false ∧ s.sameMem t) ∧
  (∀ (s : State) (dt v : Nat) (a : Sys2Proof.Acc), let d := s.now dt
    d.mayWrite s.mem a FRM_SAFE_CTL → bits 31 16 v = 0x5AFE → bit 0 v = true → d.frm.bootHold = false → d.frm.tamperHold = false → (List.range 8).any d.keepsSafeLow = false → 
    Completes (.frmSafeCtl dt a v) s fun t => t.dev.on FRM_STS_SAFE_N = true ∧ s.sameMem t) ∧
  (∀ (s : State) (dt c v : Nat) (a : Sys2Proof.Acc), let d := s.now dt
    c < 8 → d.mayWrite s.mem a (FRM_SWFAULT c) → a.guard = true ∨ bits 7 4 v = 0 → bits 1 0 v = 1 → d.frm.beyvoUp = true → 
    Completes (.frmSwfault dt a c v) s fun t => t.dev.rn (FRM_CNT 1) = (d.rn (FRM_CNT 1) + 1) % 2 ^ 32 ∧ s.sameMem t) ∧
  (∀ (s : State) (dt v : Nat) (a : Sys2Proof.Acc), let d := s.now dt
    d.mayWrite s.mem a FRM_RESET_CMD → bits 31 16 v = 0xDE5E → bits 1 0 v = 1 → d.frm.devReset = none → 
    Completes (.frmResetDevice dt a v) s fun t => t.dev.frm.devReset = some ⟨2, 0, 0⟩ ∧ s.sameMem t) ∧
  (∀ (s : State) (dt v : Nat) (a : Sys2Proof.Acc), let d := s.now dt
    d.mayWrite s.mem a FRM_RESET_CMD → bits 31 16 v = 0xDE5E → bits 1 0 v = 2 → d.frm.bvReset = none → 
    Completes (.frmResetBeyvo dt a v) s fun t => t.dev.frm.bvReset = some ⟨6, 0, 0⟩ ∧ s.sameMem t) ∧
  (∀ (s : State) (dt bs : Nat) (ok : Bool) (r : ResetReq), let d := s.now dt
    bs < 4 → d.frm.devReset = some r → d.frm.tamperHold = false → d.frm.bootHold = false → d.frm.lockedOut = false → (d.frm.meshDue = true → ok = true) → d.fld HPS_SUP_STS_RANGE ≠ 2 → r.cause < 16 → 
    Completes (.deviceReset dt bs ok) s fun t => t.dev.frm.beyvoUp = true ∧ t.dev.boot.phase = .rom ∧ t.dev.fld FRM_BOOT_CAUSE_CAUSE = r.cause ∧ t.mem = Mem.atBoot (Mem.scrubAll s.mem true) ∧ t.pending = s.pending) ∧
  (∀ (s : State) (dt bs : Nat) (r : ResetReq), let d := s.now dt
    bs < 4 → d.frm.bvReset = some r → d.frm.tamperHold = false → d.frm.bootHold = false → d.frm.lockedOut = false → d.frm.resetNLow = false → d.fld HPS_SUP_STS_RANGE ≠ 2 → r.cause < 16 → 
    Completes (.beyvoReset dt bs) s fun t => t.dev.frm.beyvoUp = true ∧ t.dev.boot.phase = .rom ∧ t.dev.fld FRM_BOOT_CAUSE_CAUSE = r.cause ∧ t.mem = Mem.atBoot (Mem.scrubAll s.mem false) ∧ t.pending = s.pending) ∧
  (∀ (s : State) (dt bs : Nat), let d := s.now dt
    bs < 4 → Completes (.powerOnReset dt bs) s fun t => t.dev.frm.beyvoUp = true ∧ t.dev.boot.phase = .rom ∧ t.dev.fld FRM_BOOT_CAUSE_CAUSE = 0 ∧ t.mem = Mem.flashOnly s.mem ∧ t.pending = s.pending) ∧
  (∀ (s : State) (dt us : Nat), let d := s.now dt
    10 ≤ us → d.frm.tamperHold = false → d.frm.devReset = none → 
    Completes (.resetNLow dt us) s fun t => t.dev.frm.beyvoUp = false ∧ t.dev.frm.resetNLow = true ∧ t.dev.frm.devReset = some ⟨1, 0, 0⟩ ∧ s.sameMem t) ∧
  (∀ (s : State) (dt c v : Nat) (a : Sys2Proof.Acc), let d := s.now dt
    c < 8 → d.mayWrite s.mem a (CA_RESET_REQ c) → bits 31 16 v = 0xC0AC → d.dDegraded c = false → d.coachDown c = false → d.tan.latent.find? (fun x => d.pairOwner x.1 == c) = none → 
    Completes (.caResetReq dt a c v) s fun t => (c, 5) ∈ t.dev.frm.coachReset ∧ s.sameMem t) ∧
  (∀ (s : State) (dt c v : Nat) (a : Sys2Proof.Acc), let d := s.now dt
    c < 8 → d.mayWrite s.mem a (FRM_COACH_CTL c) → bits 31 16 v = 0xC0AC → d.on (MAN_COACH_CFG_EN c) = true → bit 0 v = true → bit 1 v = false → bit 2 v = false → d.dDegraded c = false → d.coachDown c = false → d.tan.latent.find? (fun x => d.pairOwner x.1 == c) = none → 
    Completes (.frmCoachReset dt a c v) s fun t => (c, 6) ∈ t.dev.frm.coachReset ∧ s.sameMem t) ∧
  (∀ (s : State) (dt c v : Nat) (a : Sys2Proof.Acc), let d := s.now dt
    c < 8 → d.mayWrite s.mem a (FRM_COACH_CTL c) → bits 31 16 v = 0xC0AC → d.on (MAN_COACH_CFG_EN c) = true → bit 0 v = false → bit 1 v = true → bit 2 v = false → d.dDegraded c = false → 
    Completes (.frmCoachRestart dt a c v) s fun t => c ∉ t.dev.frm.held ∧ s.sameMem t) ∧
  (∀ (s : State) (dt c v : Nat) (a : Sys2Proof.Acc), let d := s.now dt
    c < 8 → d.mayWrite s.mem a (FRM_COACH_CTL c) → bits 31 16 v = 0xC0AC → d.on (MAN_COACH_CFG_EN c) = true → bit 0 v = false → bit 1 v = false → bit 2 v = true → d.coachDown c = false → d.dDegraded c = false → c ∈ d.frm.dsPolicy → 
    Completes (.frmCoachDsRel dt a c v) s fun t => c ∉ t.dev.frm.dsPolicy ∧ s.sameMem t) ∧
  (∀ (s : State) (dt c i cause : Nat), let d := s.now dt
    c < 8 → d.frm.coachReset.find? (·.1 == c) = some (i, cause) → d.frm.devReset = none → d.coachInGuard c = false → cause < 16 → 
    Completes (.coachReset dt c) s fun t => t.dev.fld (CA_RST_INFO_CAUSE c) = cause ∧ t.dev.fld (CA_RST_INFO_COUNT c) = (d.fld (CA_RST_INFO_COUNT c) + 1) % 2 ^ 16 ∧ t.pending = s.pending) ∧
  (∀ (s : State) (dt v : Nat) (a : Sys2Proof.Acc), let d := s.now dt
    d.mayWrite s.mem a FRM_CTL → bit 0 v = true → 
    Completes (.frmCtlLock dt a v) s fun t => t.dev.on FRM_CTL_LOCK = true ∧ s.sameMem t) ∧
  (∀ (s : State) (dt v : Nat) (a : Sys2Proof.Acc), let d := s.now dt
    d.mayWrite s.mem a FRM_BLK_RST → bits 31 16 v = 0xB1C0 → bits 2 0 v = 1 → 16 ≤ bits 8 3 v → bits 8 3 v ≤ 35 → 
    Completes (.blockResetCanLin dt a v) s fun t => (bits 8 3 v < 28 → t.dev.fld (PORT_CAN_STS_STATE (bits 8 3 v)) = 0 ∧ t.dev.fld (PORT_CAN_STS_TEC (bits 8 3 v)) = 0) ∧
      (28 ≤ bits 8 3 v → t.dev.rn (PORT_LIN_SCHED (bits 8 3 v)) = 0) ∧ t.pending = s.pending) ∧
  (∀ (s : State) (dt v : Nat) (a : Sys2Proof.Acc), let d := s.now dt
    d.mayWrite s.mem a FRM_BLK_RST → bits 31 16 v = 0xB1C0 → bits 2 0 v = 2 → 
    Completes (.blockResetTally dt a v) s fun t => t.dev.tal.smp = [] ∧ t.mem = Mem.zero s.mem 0x11530000 0x30000 ∧ t.pending = s.pending) ∧
  (∀ (s : State) (dt v : Nat) (a : Sys2Proof.Acc), let d := s.now dt
    d.mayWrite s.mem a FRM_BLK_RST → bits 31 16 v = 0xB1C0 → bits 2 0 v = 3 → 
    Completes (.blockResetOutr dt a v) s fun t => (∀ p, p < 44 → ∀ k, k < 8 → d.on (OUTR_PORT_CFG_LFSR p) = false →
        tget 0 t.dev.fab.count (8 * p + k) = d.fld (OUTR_PORT_N_N p k)) ∧ t.mem = s.mem ∧ t.pending = s.pending) ∧
  (∀ (s : State) (dt v : Nat) (a : Sys2Proof.Acc), let d := s.now dt
    d.mayWrite s.mem a FRM_BLK_RST → bits 31 16 v = 0xB1C0 → bits 2 0 v = 4 → bits 8 3 v ≤ 31 → 
    Completes (.blockResetLio dt a v) s fun t => (t.dev.lio (bits 8 3 v)).edges = [] ∧ (t.dev.lio (bits 8 3 v)).fast = [] ∧ t.mem = s.mem ∧ t.pending = s.pending)

/-- A stage tick does the six steps of R46 in their order, and what the steps do: snapshot, deferred commands, slots, gates, STG_NUM, windows (spec/02_stage_and_timetable.md: R36, R38, R39, R44, R46, R47, R50, R51, R63, R502, spec/11_channel_protection.md: R315). -/
def Obligations.StageTickFollowsItsOrder : Prop :=
  (∀ (s : State) (dt : Nat), let d := s.now dt
    let tick := d.stg.nextTick
    let t := ((tick : Int) + (d.ns : Int) - (d.domNs : Int)).toNat
    let a := d.flushStage
    let b : Dev := { a with stg := { a.stg with chanLatch := a.latchChans, lioLatch := a.latchLios t, latchFlags := a.snapFlags } }
    let c := (b.each (List.range 32) (fun n d => d.modLio n fun l => { l with count := b2n (d.edgeAt n t) })).each (List.range 40)
      (fun i d => d.stageMean i)
    let k := c.applyDeferred.dsReleaseAll
    let x := k.tickSlots s.mem t
    let e := (((x.1.wr STG_NUM (tick / k.fld STG_PERIOD_NS_NS % 2 ^ 32)).tickGates d.stg.lastTick.isNone).tickFabric.tickStage t tick)
    let f := e.tickSiding.selfTest.tallyD 0x88 1
    let g := if f.bwEntries then f else f.bwLatch
    d.boot.phase = .sealed → d.frm.beyvoUp = true → d.fld SID_STS_STATE < 2 → tick ≤ d.domNs →
    exec (.stageTick dt) s = .next (s.becomesM (g.each ((List.range 256).filter (fun n => g.fld (STG_TT_START_NS n) == 0))
      (fun n d => d.windowStart n)).pwrmEval x.2)) ∧
  (∀ (d : Dev) (t i : Nat), i < 40 → (i, d.latchChan i) ∈ (d.tickLatch t).stg.chanLatch) ∧
  (∀ (d : Dev) (i : Nat) (p : Deferred), i < 40 → (d.chan i).pend = [p] → (∀ j, j ≠ i → (d.chan j).pend = []) →
    d.applyDeferred = (if p.wait = 0 then ((d.modChan i fun c => { c with pend := [] }).updPend i).cmdEffect i p.op p.duty 0
      else (d.modChan i fun c => { c with pend := [{ p with wait := p.wait - 1 }] }).updPend i)) ∧
  (∀ (d : Dev) (m : Mem) (t n : Nat), d.duePassed t = [] → d.dueSlots t = [n] → d.tickSlots m t = d.slotFire m n) ∧
  (∀ (d : Dev) (p : Nat), p < 48 → tget 0xFF (d.tickGates true).stg.gates p = d.gateAt p d.phase 0) ∧
  (∀ (d : Dev) (n p : Nat), n < 256 → d.ttKind n = 4 → d.ttApplies n d.phase = true → d.fld (STG_TT_START_NS n) = 0 → p ∈ d.gatePorts n →
    tget 0xFF (d.tickGates false).stg.gates p = d.gateAt p d.phase 0) ∧
  (∀ (d : Dev) (t tick : Nat), (d.tickStage t tick).on STG_STS_RUNNING = true ∧ (d.tickStage t tick).stg.lastTick = some tick ∧
    (d.tickStage t tick).stg.nextTick = tick + d.fld STG_PERIOD_NS_NS ∧ (d.tickStage t tick).stg.outHigh = d.on STG_OUT_CFG_EN) ∧
  (∀ (d : Dev) (n tick : Nat), n < 256 → d.fld (STG_TT_START_NS n) = 0 → d.ttKind n = 1 ∨ d.ttKind n = 2 → d.ttApplies n d.phase = true →
    d.stg.lastTick = some tick → d.skipped (d.fld (STG_TT_CTL_OWNER n)) = false →
    { entry := n, owner := d.fld (STG_TT_CTL_OWNER n), core := d.fld (STG_TT_CTL_CORE n), endAt := tick + d.fld (STG_TT_LEN_NS n),
      isOpen := true, awaits := true : Win } ∈ (d.windowStart n).stg.wins)

/-- The Open world neither reads nor writes a register whose every field is GO: it reads 0, the write is ignored, and a severity-1 fault counts (spec/00_scope.md: R12). -/
def Obligations.OpenWorldReachesNoGoRegister : Prop :=
  (∀ (s : State) (dt addr v : Nat) (a : Sys2Proof.Acc) (r : RegDesc) (i : Instr), let d := s.now dt
    let e := d.pageEntry s.mem (137216 + (addr - 0x40000000) / 4096)
    d.actsAs a = true → d.injected a addr = false → d.bootRom a = false → a.guard = false →
    descOf addr = some r → r.allGo = true → r.fields ≠ [] → addr % 4 = 0 → addr / 0x10000 ≠ 0x4033 →
    0x40000000 ≤ addr → addr < 0x41000000 → d.ruleOwner addr = none →
    ((entryOwner e = 9 ∧ entryGuard e = false ∧ ownerOfPage addr = none ∧ d.tallyOwner addr = none) ∨
      (entryOwner e ≠ 9 ∧ pageAllows e a .read = true ∧ pageAllows e a .write = true)) →
    i ∈ [Instr.registerWrite dt a addr 4 v, .coreMemoryAccess dt a .read addr 4 v, .coreMemoryAccess dt a .write addr 4 v] →
    Completes i s fun t => t.dev.bus = ⟨0, false⟩ ∧ s.sameMem t ∧ (∀ b, quiet b → t.dev.rn b = d.rn b) ∧ t.dev.chans = d.chans ∧ t.dev.fab = d.fab ∧
      (d.frm.beyvoUp = true → t.dev.rn (FRM_CNT 1) = (d.rn (FRM_CNT 1) + 1) % 2 ^ 32 ∧
        (a.owner < 8 → t.dev.fld (FRM_CFAULT_COUNT a.owner) = (d.fld (FRM_CFAULT_COUNT a.owner) + 1) % 2 ^ 16 ∧
          t.dev.fld (FRM_CFAULT_BLOCK a.owner) = blockId addr))) ∧
  (∀ (s : State) (dt c v : Nat) (a : Sys2Proof.Acc), let d := s.now dt
    c < 8 → a.guard = false → d.mayWrite s.mem a (FRM_SWFAULT c) → bits 1 0 v = 0 →
    Completes (.frmSwfault dt a c v) s fun t => s.sameMem t ∧ (∀ b, quiet b → t.dev.rn b = d.rn b) ∧
      (bits 7 4 v = 0 → t.dev = d) ∧
      (bits 7 4 v ≠ 0 → d.frm.beyvoUp = true → t.dev.rn (FRM_CNT 1) = (d.rn (FRM_CNT 1) + 1) % 2 ^ 32))
end

