-- ==== Sys2Proof/Laws/Tables.lean ====
section
/-! SUPPORT. Laws of the sparse tables and of bit fields. -/

namespace Sys2Proof.Machine

/-! ### Reading a table after a change -/

theorem terase_eq_filter {α : Type} (a : Nat) (t : List (Nat × α)) :
    terase a t = t.filter (fun e => decide (e.1 ≠ a)) := by
  induction t with
  | nil => rfl
  | cons x r ih => by_cases h : x.1 = a <;> simp [terase, h, ih]

theorem terase_keys {α : Type} (a : Nat) (t : List (Nat × α)) : ∀ e ∈ terase a t, e.1 ≠ a := by
  intro e he; rw [terase_eq_filter] at he; simpa using (List.mem_filter.mp he).2

theorem tget_terase_self {α : Type} (d : α) (a : Nat) (t : List (Nat × α)) : tget d (terase a t) a = d := by
  induction t with
  | nil => rfl
  | cons x r ih => by_cases h : x.1 = a <;> simp [terase, tget, h, ih]

theorem tget_terase_ne {α : Type} (d : α) {a b : Nat} (h : a ≠ b) (t : List (Nat × α)) :
    tget d (terase a t) b = tget d t b := by
  induction t with
  | nil => rfl
  | cons x r ih =>
    by_cases hk : x.1 = a
    · simp [terase, tget, hk, h, ih]
    · simp [terase, tget, hk, ih]

theorem tget_tput_self {α : Type} (d v : α) (a : Nat) (t : List (Nat × α)) (h : ∀ e ∈ t, e.1 ≠ a) :
    tget d (tput a v t) a = v := by
  induction t with
  | nil => simp [tput, tget]
  | cons x r ih =>
    have hx := h x (by simp)
    by_cases hk : a < x.1
    · simp [tput, tget, hk]
    · simp [tput, tget, hk, hx, ih (fun e he => h e (by simp [he]))]

theorem tget_tput_ne {α : Type} (d v : α) {a b : Nat} (hab : a ≠ b) (t : List (Nat × α)) :
    tget d (tput a v t) b = tget d t b := by
  induction t with
  | nil => simp [tput, tget, hab]
  | cons x r ih =>
    by_cases hk : a < x.1
    · simp [tput, tget, hk, hab]
    · simp [tput, tget, hk, ih]

/-- What a table reads after one entry was set. -/
theorem tget_tset {α : Type} [DecidableEq α] (d e v : α) (a b : Nat) (t : List (Nat × α)) (h : a = b → d = e) :
    tget e (tset d v a t) b = if a = b then v else tget e t b := by
  unfold tset
  by_cases hab : a = b
  · subst hab
    have := h rfl; subst this
    split
    · simp_all [tget_terase_self]
    · simp [tget_tput_self _ _ _ _ (terase_keys a t)]
  · split <;> simp [tget_terase_ne _ hab, tget_tput_ne _ _ hab]

@[simp] theorem tget_tset_self {α : Type} [DecidableEq α] (d v : α) (a : Nat) (t : List (Nat × α)) :
    tget d (tset d v a t) a = v := by simp [tget_tset]

theorem tget_tset_ne {α : Type} [DecidableEq α] (d e v : α) {a b : Nat} (t : List (Nat × α)) (h : a ≠ b) :
    tget e (tset d v a t) b = tget e t b := by simp [tget_tset, h]

/-! ### The canonical form -/

theorem keysAbove_iff {α : Type} (o : Option Nat) (t : List (Nat × α)) :
    keysAbove o t = true ↔ (∀ e ∈ t, ∀ lo ∈ o, lo < e.1) ∧ t.Pairwise (fun x y => x.1 < y.1) := by
  induction t generalizing o with
  | nil => simp [keysAbove]
  | cons x r ih =>
    have h := ih (some x.1)
    cases o with
    | none =>
      simp only [keysAbove, h, List.pairwise_cons]
      simp
    | some lo =>
      simp only [keysAbove, Bool.and_eq_true, decide_eq_true_eq, h, List.pairwise_cons]
      constructor
      · rintro ⟨h1, h2, h3⟩
        refine ⟨?_, fun e he => by simpa using h2 e he, h3⟩
        intro e he lo' hl
        simp at hl; subst hl
        rcases List.mem_cons.mp he with rfl | he
        · exact h1
        · exact lt_trans h1 (by simpa using h2 e he)
      · rintro ⟨h1, h2, h3⟩
        exact ⟨h1 x (by simp) lo (by simp), fun e he lo' hl => by simp at hl; subst hl; exact h2 e he, h3⟩

theorem twf_iff {α : Type} [DecidableEq α] (d : Nat → α) (t : List (Nat × α)) :
    twf d t = true ↔ t.Pairwise (fun x y => x.1 < y.1) ∧ ∀ e ∈ t, e.2 ≠ d e.1 := by
  simp [twf, keysAbove_iff, List.all_eq_true]

/-- A part of a table in canonical form is in canonical form. -/
theorem twf_filter {α : Type} [DecidableEq α] (d : Nat → α) (p : Nat × α → Bool) (t : List (Nat × α))
    (h : twf d t = true) : twf d (t.filter p) = true := by
  rw [twf_iff] at h ⊢
  exact ⟨h.1.filter p, fun e he => h.2 e (List.mem_filter.mp he).1⟩

theorem mem_tput {α : Type} (a : Nat) (v : α) (t : List (Nat × α)) (e : Nat × α) :
    e ∈ tput a v t ↔ e = (a, v) ∨ e ∈ t := by
  induction t with
  | nil => simp [tput]
  | cons x r ih =>
    by_cases h : a < x.1
    · simp [tput, h]
    · simp [tput, h, ih]; tauto

theorem pairwise_tput {α : Type} (a : Nat) (v : α) (t : List (Nat × α)) (h : t.Pairwise (fun x y => x.1 < y.1))
    (hne : ∀ e ∈ t, e.1 ≠ a) : (tput a v t).Pairwise (fun x y => x.1 < y.1) := by
  induction t with
  | nil => simp [tput]
  | cons x r ih =>
    rw [List.pairwise_cons] at h
    have hx := hne x (by simp)
    by_cases hk : a < x.1
    · simp only [tput, hk, if_true, List.pairwise_cons]
      refine ⟨?_, h⟩
      intro e he
      rcases List.mem_cons.mp he with rfl | he
      · exact hk
      · exact lt_trans hk (h.1 e he)
    · simp only [tput, hk, if_false, List.pairwise_cons]
      refine ⟨?_, ih h.2 (fun e he => hne e (by simp [he]))⟩
      intro e he
      rcases (mem_tput a v r e).mp he with rfl | he
      · simp; omega
      · exact h.1 e he

/-- Setting an entry keeps the canonical form. -/
theorem twf_tset {α : Type} [DecidableEq α] (d : Nat → α) (v : α) (a : Nat) (t : List (Nat × α))
    (h : twf d t = true) : twf d (tset (d a) v a t) = true := by
  have hf : twf d (terase a t) = true := by rw [terase_eq_filter]; exact twf_filter d _ t h
  unfold tset
  split
  · exact hf
  · rename_i hv
    rw [twf_iff] at hf ⊢
    refine ⟨pairwise_tput a v _ hf.1 (terase_keys a t), ?_⟩
    intro e he
    rcases (mem_tput a v _ e).mp he with rfl | he
    · exact hv
    · exact hf.2 e he

/-! ### Bit fields -/

/-- A table without the keys that do not meet `p`. -/
theorem tget_filter {α : Type} (p : Nat → Bool) (d : α) (l : List (Nat × α)) (a : Nat) :
    tget d (l.filter (fun c => p c.1)) a = if p a then tget d l a else d := by
  induction l with
  | nil => simp [tget]
  | cons c r ih =>
    obtain ⟨k, v⟩ := c
    by_cases h : p k
    · rw [List.filter_cons_of_pos (by simpa using h)]
      unfold tget
      split
      · rename_i hk; subst hk; simp [h]
      · exact ih
    · rw [List.filter_cons_of_neg (by simpa using h), ih]
      by_cases hk : k = a
      · subst hk; simp [h]
      · simp [tget, hk]

/-- A field reads what was put into it. -/
theorem bits_putBits_self (hi lo n v : Nat) (h : lo ≤ hi) :
    bits hi lo (putBits hi lo n v) = v % 2 ^ (hi + 1 - lo) := by
  unfold bits putBits
  have hw : (2 : Nat) ^ (hi + 1) = 2 ^ lo * 2 ^ (hi + 1 - lo) := by rw [← pow_add]; congr 1; omega
  have hp : 0 < 2 ^ lo := Nat.two_pow_pos lo
  rw [hw, show n % 2 ^ lo + v % 2 ^ (hi + 1 - lo) * 2 ^ lo + n / (2 ^ lo * 2 ^ (hi + 1 - lo)) * (2 ^ lo * 2 ^ (hi + 1 - lo)) =
    n % 2 ^ lo + 2 ^ lo * (v % 2 ^ (hi + 1 - lo) + n / (2 ^ lo * 2 ^ (hi + 1 - lo)) * 2 ^ (hi + 1 - lo)) by ring,
    Nat.add_mul_div_left _ _ hp, Nat.div_eq_of_lt (Nat.mod_lt _ hp), zero_add, Nat.add_mul_mod_self_right, Nat.mod_mod]

/-- A field above the one that was put keeps its value. -/
theorem bits_putBits_above (hi lo n v hi' lo' : Nat) (hl : lo ≤ hi) (h : hi < lo') :
    bits hi' lo' (putBits hi lo n v) = bits hi' lo' n := by
  unfold bits putBits
  have hk : (2 : Nat) ^ lo' = 2 ^ (hi + 1) * 2 ^ (lo' - (hi + 1)) := by rw [← pow_add]; congr 1; omega
  have hw : (2 : Nat) ^ (hi + 1) = 2 ^ lo * 2 ^ (hi + 1 - lo) := by rw [← pow_add]; congr 1; omega
  have hp : 0 < 2 ^ lo := Nat.two_pow_pos lo
  have hlt : n % 2 ^ lo + v % 2 ^ (hi + 1 - lo) * 2 ^ lo < 2 ^ (hi + 1) := by
    have h1 := Nat.mod_lt n hp
    have h2 : v % 2 ^ (hi + 1 - lo) + 1 ≤ 2 ^ (hi + 1 - lo) := Nat.mod_lt v (Nat.two_pow_pos _)
    calc n % 2 ^ lo + v % 2 ^ (hi + 1 - lo) * 2 ^ lo < 2 ^ lo + v % 2 ^ (hi + 1 - lo) * 2 ^ lo := by omega
      _ = (v % 2 ^ (hi + 1 - lo) + 1) * 2 ^ lo := by ring
      _ ≤ 2 ^ (hi + 1 - lo) * 2 ^ lo := Nat.mul_le_mul_right _ h2
      _ = 2 ^ (hi + 1) := by rw [hw]; ring
  congr 1
  rw [hk, ← Nat.div_div_eq_div_mul, ← Nat.div_div_eq_div_mul]
  congr 1
  rw [Nat.add_mul_div_right _ _ (Nat.two_pow_pos (hi + 1)), Nat.div_eq_of_lt hlt, zero_add]

/-- A field below the one that was put keeps its value. -/
theorem bits_putBits_below (hi lo n v hi' lo' : Nat) (hl : lo ≤ hi) (h : hi' < lo) (h' : lo' ≤ hi') :
    bits hi' lo' (putBits hi lo n v) = bits hi' lo' n := by
  unfold bits putBits
  have hw : (2 : Nat) ^ (hi + 1) = 2 ^ lo * 2 ^ (hi + 1 - lo) := by rw [← pow_add]; congr 1; omega
  have hs : (2 : Nat) ^ lo = 2 ^ lo' * 2 ^ (lo - lo') := by rw [← pow_add]; congr 1; omega
  have ht : (2 : Nat) ^ (lo - lo') = 2 ^ (hi' + 1 - lo') * 2 ^ (lo - (hi' + 1)) := by rw [← pow_add]; congr 1; omega
  have hp : 0 < 2 ^ lo' := Nat.two_pow_pos lo'
  have e : n % 2 ^ lo + v % 2 ^ (hi + 1 - lo) * 2 ^ lo + n / 2 ^ (hi + 1) * 2 ^ (hi + 1) =
      n % 2 ^ lo + 2 ^ lo * (v % 2 ^ (hi + 1 - lo) + n / 2 ^ (hi + 1) * 2 ^ (hi + 1 - lo)) := by rw [hw]; ring
  rw [e]
  set k := v % 2 ^ (hi + 1 - lo) + n / 2 ^ (hi + 1) * 2 ^ (hi + 1 - lo)
  have key : ∀ q, (n % 2 ^ lo + 2 ^ lo * q) / 2 ^ lo' % 2 ^ (hi' + 1 - lo') = n % 2 ^ lo / 2 ^ lo' % 2 ^ (hi' + 1 - lo') := by
    intro q
    rw [show n % 2 ^ lo + 2 ^ lo * q = n % 2 ^ lo + 2 ^ lo' * (2 ^ (lo - lo') * q) by rw [hs]; ring,
      Nat.add_mul_div_left _ _ hp, ht, mul_assoc, Nat.add_mul_mod_self_left]
  rw [key k]
  conv_rhs => rw [← Nat.mod_add_div n (2 ^ lo)]
  rw [key]

theorem putBits_lt (hi lo n v w : Nat) (hl : lo ≤ hi) (h : hi < w) (hn : n < 2 ^ w) : putBits hi lo n v < 2 ^ w := by
  unfold putBits
  have hw : (2 : Nat) ^ (hi + 1) = 2 ^ lo * 2 ^ (hi + 1 - lo) := by rw [← pow_add]; congr 1; omega
  have hs : (2 : Nat) ^ w = 2 ^ (hi + 1) * 2 ^ (w - (hi + 1)) := by rw [← pow_add]; congr 1; omega
  have hp : 0 < 2 ^ lo := Nat.two_pow_pos lo
  have h1 := Nat.mod_lt n hp
  have h2 : v % 2 ^ (hi + 1 - lo) + 1 ≤ 2 ^ (hi + 1 - lo) := Nat.mod_lt v (Nat.two_pow_pos _)
  have hlt : n % 2 ^ lo + v % 2 ^ (hi + 1 - lo) * 2 ^ lo < 2 ^ (hi + 1) := by
    calc n % 2 ^ lo + v % 2 ^ (hi + 1 - lo) * 2 ^ lo < 2 ^ lo + v % 2 ^ (hi + 1 - lo) * 2 ^ lo := by omega
      _ = (v % 2 ^ (hi + 1 - lo) + 1) * 2 ^ lo := by ring
      _ ≤ 2 ^ (hi + 1 - lo) * 2 ^ lo := Nat.mul_le_mul_right _ h2
      _ = 2 ^ (hi + 1) := by rw [hw]; ring
  have h3 : n / 2 ^ (hi + 1) + 1 ≤ 2 ^ (w - (hi + 1)) := by
    have : n / 2 ^ (hi + 1) < 2 ^ (w - (hi + 1)) := by
      rw [Nat.div_lt_iff_lt_mul (Nat.two_pow_pos _), mul_comm, ← hs]; exact hn
    omega
  calc _ < 2 ^ (hi + 1) + n / 2 ^ (hi + 1) * 2 ^ (hi + 1) := by omega
    _ = (n / 2 ^ (hi + 1) + 1) * 2 ^ (hi + 1) := by ring
    _ ≤ 2 ^ (w - (hi + 1)) * 2 ^ (hi + 1) := Nat.mul_le_mul_right _ h3
    _ = 2 ^ w := by rw [hs]; ring

end Sys2Proof.Machine
end

