-- ==== Sys2Proof/Laws/Regs.lean ====
section
/-! SUPPORT. What the operations on registers and fields of Ops.lean do to every register. -/

namespace Sys2Proof.Machine

/-- A write changes the register written, and no other. -/
theorem Dev.reg_wr (d : Dev) (a b v : Nat) : (d.wr a v).reg b = if a = b then BitVec.ofNat 32 v else d.reg b := by
  unfold Dev.wr Dev.reg
  simp only
  rw [tget_tset]
  intro h; rw [h]

theorem Dev.rn_wr (d : Dev) (a b v : Nat) : (d.wr a v).rn b = if a = b then v % 2 ^ 32 else d.rn b := by
  unfold Dev.rn; rw [Dev.reg_wr]; split <;> simp

@[simp] theorem Dev.rn_wr_self (d : Dev) (a v : Nat) : (d.wr a v).rn a = v % 2 ^ 32 := by simp [Dev.rn_wr]

theorem Dev.rn_wr_ne (d : Dev) {a b : Nat} (v : Nat) (h : a ≠ b) : (d.wr a v).rn b = d.rn b := by simp [Dev.rn_wr, h]

theorem Dev.rn_lt (d : Dev) (a : Nat) : d.rn a < 2 ^ 32 := (d.reg a).isLt

theorem Dev.rn_mod (d : Dev) (a : Nat) : d.rn a % 2 ^ 32 = d.rn a := Nat.mod_eq_of_lt (d.rn_lt a)

/-- A field write changes no register but its own. -/
theorem Dev.rn_put_ne (d : Dev) (f : Fld) (v : Nat) {b : Nat} (h : f.addr ≠ b) : (d.put f v).rn b = d.rn b :=
  d.rn_wr_ne _ h

theorem Dev.fld_put_ne (d : Dev) (f g : Fld) (v : Nat) (h : f.addr ≠ g.addr) : (d.put f v).fld g = d.fld g := by
  unfold Dev.fld; rw [d.rn_put_ne f v h]

/-- A field reads what was put into it. -/
theorem Dev.fld_put_self (d : Dev) (f : Fld) (v : Nat) (h : f.lo ≤ f.hi) (hh : f.hi < 32) :
    (d.put f v).fld f = v % 2 ^ (f.hi + 1 - f.lo) := by
  unfold Dev.fld Dev.put
  rw [d.rn_wr_self, Nat.mod_eq_of_lt (putBits_lt f.hi f.lo _ v 32 h hh (d.rn_lt _)), bits_putBits_self _ _ _ _ h]

/-- Another field of the same register keeps its value. -/
theorem Dev.fld_put_apart (d : Dev) (f g : Fld) (v : Nat) (h : f.lo ≤ f.hi) (hh : f.hi < 32) (hg : g.lo ≤ g.hi)
    (hd : f.hi < g.lo ∨ g.hi < f.lo) : (d.put f v).fld g = d.fld g := by
  by_cases ha : f.addr = g.addr
  · unfold Dev.fld Dev.put
    rw [← ha, d.rn_wr_self, Nat.mod_eq_of_lt (putBits_lt f.hi f.lo _ v 32 h hh (d.rn_lt _))]
    rcases hd with hd | hd
    · exact bits_putBits_above _ _ _ _ _ _ h hd
    · exact bits_putBits_below _ _ _ _ _ _ h hd hg
  · exact d.fld_put_ne f g v ha

theorem Dev.rn_set_ne (d : Dev) (f : Fld) {b : Nat} (h : f.addr ≠ b) : (d.set f).rn b = d.rn b := d.rn_put_ne f _ h
theorem Dev.rn_clr_ne (d : Dev) (f : Fld) {b : Nat} (h : f.addr ≠ b) : (d.clr f).rn b = d.rn b := d.rn_put_ne f _ h

theorem Dev.fld_set_ne (d : Dev) (f g : Fld) (h : f.addr ≠ g.addr) : (d.set f).fld g = d.fld g := d.fld_put_ne f g _ h
theorem Dev.fld_clr_ne (d : Dev) (f g : Fld) (h : f.addr ≠ g.addr) : (d.clr f).fld g = d.fld g := d.fld_put_ne f g _ h

theorem Dev.fld_set_apart (d : Dev) (f g : Fld) (h : f.lo ≤ f.hi) (hh : f.hi < 32) (hg : g.lo ≤ g.hi)
    (hd : f.hi < g.lo ∨ g.hi < f.lo) : (d.set f).fld g = d.fld g := d.fld_put_apart f g _ h hh hg hd
theorem Dev.fld_clr_apart (d : Dev) (f g : Fld) (h : f.lo ≤ f.hi) (hh : f.hi < 32) (hg : g.lo ≤ g.hi)
    (hd : f.hi < g.lo ∨ g.hi < f.lo) : (d.clr f).fld g = d.fld g := d.fld_put_apart f g _ h hh hg hd

/-- A one-bit field that was set reads 1. -/
theorem Dev.fld_set_self (d : Dev) (f : Fld) (h : f.lo ≤ f.hi) (hh : f.hi < 32) :
    (d.set f).fld f = 2 ^ (f.hi + 1 - f.lo) - 1 := by
  unfold Dev.set; rw [d.fld_put_self f _ h hh]
  exact Nat.mod_eq_of_lt (Nat.sub_lt (Nat.two_pow_pos _) Nat.one_pos)

theorem Dev.on_set (d : Dev) (f : Fld) (h : f.lo = f.hi) (hh : f.hi < 32) : (d.set f).on f = true := by
  unfold Dev.on; rw [d.fld_set_self f (by omega) hh, h]; simp

theorem Dev.fld_clr_self (d : Dev) (f : Fld) (h : f.lo ≤ f.hi) (hh : f.hi < 32) : (d.clr f).fld f = 0 := by
  unfold Dev.clr; rw [d.fld_put_self f _ h hh]; simp

theorem Dev.on_clr (d : Dev) (f : Fld) (h : f.lo ≤ f.hi) (hh : f.hi < 32) : (d.clr f).on f = false := by
  unfold Dev.on; rw [d.fld_clr_self f h hh]; rfl

@[simp] theorem Dev.rn_bump_self (d : Dev) (a : Nat) : (d.bump a).rn a = (d.rn a + 1) % 2 ^ 32 := by simp [Dev.bump]

theorem Dev.rn_bump_ne (d : Dev) {a b : Nat} (h : a ≠ b) : (d.bump a).rn b = d.rn b := d.rn_wr_ne _ h

theorem Dev.rn_wrPair_ne (d : Dev) {lo hi b : Nat} (v : Nat) (hl : lo ≠ b) (hh : hi ≠ b) :
    (d.wrPair lo hi v).rn b = d.rn b := by
  unfold Dev.wrPair; rw [Dev.rn_wr_ne _ _ hh, Dev.rn_wr_ne _ _ hl]

/-- A pair reads what was written. -/
theorem Dev.pair_wrPair (d : Dev) {lo hi : Nat} (v : Nat) (h : lo ≠ hi) (hv : v < 2 ^ 64) :
    (d.wrPair lo hi v).pair lo hi = v := by
  unfold Dev.wrPair Dev.pair
  rw [Dev.rn_wr_self, Dev.rn_wr_ne _ _ (Ne.symm h), Dev.rn_wr_self]
  omega

/-- Folding a change over a list keeps whatever each step keeps. -/
theorem Dev.each_keeps {α β : Type} (g : Dev → β) (f : α → Dev → Dev) (h : ∀ x d, g (f x d) = g d) (d : Dev) (l : List α) :
    g (d.each l f) = g d := by
  unfold Dev.each
  induction l generalizing d with
  | nil => rfl
  | cons x r ih => rw [List.foldl_cons, ih, h]

theorem Dev.when_keeps {β : Type} (g : Dev → β) (f : Dev → Dev) (c : Bool) (h : ∀ d, g (f d) = g d) (d : Dev) :
    g (d.when c f) = g d := by
  unfold Dev.when; split
  · exact h d
  · rfl

end Sys2Proof.Machine
end

