-- ==== Sys2Proof/Laws/State.lean ====
section
/-! SUPPORT. One lemma per field and update of the state: what an operation on registers, or a returned value, leaves
as it was. All true by `rfl`. -/

namespace Sys2Proof.Machine

@[simp] theorem Dev.wr_up (d : Dev) (a v : Nat) : (d.wr a v).up = d.up := rfl
@[simp] theorem Dev.wr_drawn (d : Dev) (a v : Nat) : (d.wr a v).drawn = d.drawn := rfl
@[simp] theorem Dev.wr_bus (d : Dev) (a v : Nat) : (d.wr a v).bus = d.bus := rfl
@[simp] theorem Dev.wr_dead (d : Dev) (a v : Nat) : (d.wr a v).dead = d.dead := rfl
@[simp] theorem Dev.wr_log (d : Dev) (a v : Nat) : (d.wr a v).log = d.log := rfl
@[simp] theorem Dev.wr_frm (d : Dev) (a v : Nat) : (d.wr a v).frm = d.frm := rfl
@[simp] theorem Dev.wr_wld (d : Dev) (a v : Nat) : (d.wr a v).wld = d.wld := rfl
@[simp] theorem Dev.wr_stg (d : Dev) (a v : Nat) : (d.wr a v).stg = d.stg := rfl
@[simp] theorem Dev.wr_tim (d : Dev) (a v : Nat) : (d.wr a v).tim = d.tim := rfl
@[simp] theorem Dev.wr_tta (d : Dev) (a v : Nat) : (d.wr a v).tta = d.tta := rfl
@[simp] theorem Dev.wr_chans (d : Dev) (a v : Nat) : (d.wr a v).chans = d.chans := rfl
@[simp] theorem Dev.wr_hv (d : Dev) (a v : Nat) : (d.wr a v).hv = d.hv := rfl
@[simp] theorem Dev.wr_lios (d : Dev) (a v : Nat) : (d.wr a v).lios = d.lios := rfl
@[simp] theorem Dev.wr_fab (d : Dev) (a v : Nat) : (d.wr a v).fab = d.fab := rfl
@[simp] theorem Dev.wr_msec (d : Dev) (a v : Nat) : (d.wr a v).msec = d.msec := rfl
@[simp] theorem Dev.wr_sid (d : Dev) (a v : Nat) : (d.wr a v).sid = d.sid := rfl
@[simp] theorem Dev.wr_prt (d : Dev) (a v : Nat) : (d.wr a v).prt = d.prt := rfl
@[simp] theorem Dev.wr_tan (d : Dev) (a v : Nat) : (d.wr a v).tan = d.tan := rfl
@[simp] theorem Dev.wr_sbx (d : Dev) (a v : Nat) : (d.wr a v).sbx = d.sbx := rfl
@[simp] theorem Dev.wr_ce (d : Dev) (a v : Nat) : (d.wr a v).ce = d.ce := rfl
@[simp] theorem Dev.wr_boot (d : Dev) (a v : Nat) : (d.wr a v).boot = d.boot := rfl
@[simp] theorem Dev.wr_dbg (d : Dev) (a v : Nat) : (d.wr a v).dbg = d.dbg := rfl
@[simp] theorem Dev.wr_tal (d : Dev) (a v : Nat) : (d.wr a v).tal = d.tal := rfl

@[simp] theorem Dev.put_up (d : Dev) (f : Fld) (v : Nat) : (d.put f v).up = d.up := rfl
@[simp] theorem Dev.put_drawn (d : Dev) (f : Fld) (v : Nat) : (d.put f v).drawn = d.drawn := rfl
@[simp] theorem Dev.put_bus (d : Dev) (f : Fld) (v : Nat) : (d.put f v).bus = d.bus := rfl
@[simp] theorem Dev.put_dead (d : Dev) (f : Fld) (v : Nat) : (d.put f v).dead = d.dead := rfl
@[simp] theorem Dev.put_log (d : Dev) (f : Fld) (v : Nat) : (d.put f v).log = d.log := rfl
@[simp] theorem Dev.put_frm (d : Dev) (f : Fld) (v : Nat) : (d.put f v).frm = d.frm := rfl
@[simp] theorem Dev.put_wld (d : Dev) (f : Fld) (v : Nat) : (d.put f v).wld = d.wld := rfl
@[simp] theorem Dev.put_stg (d : Dev) (f : Fld) (v : Nat) : (d.put f v).stg = d.stg := rfl
@[simp] theorem Dev.put_tim (d : Dev) (f : Fld) (v : Nat) : (d.put f v).tim = d.tim := rfl
@[simp] theorem Dev.put_tta (d : Dev) (f : Fld) (v : Nat) : (d.put f v).tta = d.tta := rfl
@[simp] theorem Dev.put_chans (d : Dev) (f : Fld) (v : Nat) : (d.put f v).chans = d.chans := rfl
@[simp] theorem Dev.put_hv (d : Dev) (f : Fld) (v : Nat) : (d.put f v).hv = d.hv := rfl
@[simp] theorem Dev.put_lios (d : Dev) (f : Fld) (v : Nat) : (d.put f v).lios = d.lios := rfl
@[simp] theorem Dev.put_fab (d : Dev) (f : Fld) (v : Nat) : (d.put f v).fab = d.fab := rfl
@[simp] theorem Dev.put_msec (d : Dev) (f : Fld) (v : Nat) : (d.put f v).msec = d.msec := rfl
@[simp] theorem Dev.put_sid (d : Dev) (f : Fld) (v : Nat) : (d.put f v).sid = d.sid := rfl
@[simp] theorem Dev.put_prt (d : Dev) (f : Fld) (v : Nat) : (d.put f v).prt = d.prt := rfl
@[simp] theorem Dev.put_tan (d : Dev) (f : Fld) (v : Nat) : (d.put f v).tan = d.tan := rfl
@[simp] theorem Dev.put_sbx (d : Dev) (f : Fld) (v : Nat) : (d.put f v).sbx = d.sbx := rfl
@[simp] theorem Dev.put_ce (d : Dev) (f : Fld) (v : Nat) : (d.put f v).ce = d.ce := rfl
@[simp] theorem Dev.put_boot (d : Dev) (f : Fld) (v : Nat) : (d.put f v).boot = d.boot := rfl
@[simp] theorem Dev.put_dbg (d : Dev) (f : Fld) (v : Nat) : (d.put f v).dbg = d.dbg := rfl
@[simp] theorem Dev.put_tal (d : Dev) (f : Fld) (v : Nat) : (d.put f v).tal = d.tal := rfl

@[simp] theorem Dev.set_up (d : Dev) (f : Fld) : (d.set f).up = d.up := rfl
@[simp] theorem Dev.set_drawn (d : Dev) (f : Fld) : (d.set f).drawn = d.drawn := rfl
@[simp] theorem Dev.set_bus (d : Dev) (f : Fld) : (d.set f).bus = d.bus := rfl
@[simp] theorem Dev.set_dead (d : Dev) (f : Fld) : (d.set f).dead = d.dead := rfl
@[simp] theorem Dev.set_log (d : Dev) (f : Fld) : (d.set f).log = d.log := rfl
@[simp] theorem Dev.set_frm (d : Dev) (f : Fld) : (d.set f).frm = d.frm := rfl
@[simp] theorem Dev.set_wld (d : Dev) (f : Fld) : (d.set f).wld = d.wld := rfl
@[simp] theorem Dev.set_stg (d : Dev) (f : Fld) : (d.set f).stg = d.stg := rfl
@[simp] theorem Dev.set_tim (d : Dev) (f : Fld) : (d.set f).tim = d.tim := rfl
@[simp] theorem Dev.set_tta (d : Dev) (f : Fld) : (d.set f).tta = d.tta := rfl
@[simp] theorem Dev.set_chans (d : Dev) (f : Fld) : (d.set f).chans = d.chans := rfl
@[simp] theorem Dev.set_hv (d : Dev) (f : Fld) : (d.set f).hv = d.hv := rfl
@[simp] theorem Dev.set_lios (d : Dev) (f : Fld) : (d.set f).lios = d.lios := rfl
@[simp] theorem Dev.set_fab (d : Dev) (f : Fld) : (d.set f).fab = d.fab := rfl
@[simp] theorem Dev.set_msec (d : Dev) (f : Fld) : (d.set f).msec = d.msec := rfl
@[simp] theorem Dev.set_sid (d : Dev) (f : Fld) : (d.set f).sid = d.sid := rfl
@[simp] theorem Dev.set_prt (d : Dev) (f : Fld) : (d.set f).prt = d.prt := rfl
@[simp] theorem Dev.set_tan (d : Dev) (f : Fld) : (d.set f).tan = d.tan := rfl
@[simp] theorem Dev.set_sbx (d : Dev) (f : Fld) : (d.set f).sbx = d.sbx := rfl
@[simp] theorem Dev.set_ce (d : Dev) (f : Fld) : (d.set f).ce = d.ce := rfl
@[simp] theorem Dev.set_boot (d : Dev) (f : Fld) : (d.set f).boot = d.boot := rfl
@[simp] theorem Dev.set_dbg (d : Dev) (f : Fld) : (d.set f).dbg = d.dbg := rfl
@[simp] theorem Dev.set_tal (d : Dev) (f : Fld) : (d.set f).tal = d.tal := rfl

@[simp] theorem Dev.clr_up (d : Dev) (f : Fld) : (d.clr f).up = d.up := rfl
@[simp] theorem Dev.clr_drawn (d : Dev) (f : Fld) : (d.clr f).drawn = d.drawn := rfl
@[simp] theorem Dev.clr_bus (d : Dev) (f : Fld) : (d.clr f).bus = d.bus := rfl
@[simp] theorem Dev.clr_dead (d : Dev) (f : Fld) : (d.clr f).dead = d.dead := rfl
@[simp] theorem Dev.clr_log (d : Dev) (f : Fld) : (d.clr f).log = d.log := rfl
@[simp] theorem Dev.clr_frm (d : Dev) (f : Fld) : (d.clr f).frm = d.frm := rfl
@[simp] theorem Dev.clr_wld (d : Dev) (f : Fld) : (d.clr f).wld = d.wld := rfl
@[simp] theorem Dev.clr_stg (d : Dev) (f : Fld) : (d.clr f).stg = d.stg := rfl
@[simp] theorem Dev.clr_tim (d : Dev) (f : Fld) : (d.clr f).tim = d.tim := rfl
@[simp] theorem Dev.clr_tta (d : Dev) (f : Fld) : (d.clr f).tta = d.tta := rfl
@[simp] theorem Dev.clr_chans (d : Dev) (f : Fld) : (d.clr f).chans = d.chans := rfl
@[simp] theorem Dev.clr_hv (d : Dev) (f : Fld) : (d.clr f).hv = d.hv := rfl
@[simp] theorem Dev.clr_lios (d : Dev) (f : Fld) : (d.clr f).lios = d.lios := rfl
@[simp] theorem Dev.clr_fab (d : Dev) (f : Fld) : (d.clr f).fab = d.fab := rfl
@[simp] theorem Dev.clr_msec (d : Dev) (f : Fld) : (d.clr f).msec = d.msec := rfl
@[simp] theorem Dev.clr_sid (d : Dev) (f : Fld) : (d.clr f).sid = d.sid := rfl
@[simp] theorem Dev.clr_prt (d : Dev) (f : Fld) : (d.clr f).prt = d.prt := rfl
@[simp] theorem Dev.clr_tan (d : Dev) (f : Fld) : (d.clr f).tan = d.tan := rfl
@[simp] theorem Dev.clr_sbx (d : Dev) (f : Fld) : (d.clr f).sbx = d.sbx := rfl
@[simp] theorem Dev.clr_ce (d : Dev) (f : Fld) : (d.clr f).ce = d.ce := rfl
@[simp] theorem Dev.clr_boot (d : Dev) (f : Fld) : (d.clr f).boot = d.boot := rfl
@[simp] theorem Dev.clr_dbg (d : Dev) (f : Fld) : (d.clr f).dbg = d.dbg := rfl
@[simp] theorem Dev.clr_tal (d : Dev) (f : Fld) : (d.clr f).tal = d.tal := rfl

@[simp] theorem Dev.bump_up (d : Dev) (a : Nat) : (d.bump a).up = d.up := rfl
@[simp] theorem Dev.bump_drawn (d : Dev) (a : Nat) : (d.bump a).drawn = d.drawn := rfl
@[simp] theorem Dev.bump_bus (d : Dev) (a : Nat) : (d.bump a).bus = d.bus := rfl
@[simp] theorem Dev.bump_dead (d : Dev) (a : Nat) : (d.bump a).dead = d.dead := rfl
@[simp] theorem Dev.bump_log (d : Dev) (a : Nat) : (d.bump a).log = d.log := rfl
@[simp] theorem Dev.bump_frm (d : Dev) (a : Nat) : (d.bump a).frm = d.frm := rfl
@[simp] theorem Dev.bump_wld (d : Dev) (a : Nat) : (d.bump a).wld = d.wld := rfl
@[simp] theorem Dev.bump_stg (d : Dev) (a : Nat) : (d.bump a).stg = d.stg := rfl
@[simp] theorem Dev.bump_tim (d : Dev) (a : Nat) : (d.bump a).tim = d.tim := rfl
@[simp] theorem Dev.bump_tta (d : Dev) (a : Nat) : (d.bump a).tta = d.tta := rfl
@[simp] theorem Dev.bump_chans (d : Dev) (a : Nat) : (d.bump a).chans = d.chans := rfl
@[simp] theorem Dev.bump_hv (d : Dev) (a : Nat) : (d.bump a).hv = d.hv := rfl
@[simp] theorem Dev.bump_lios (d : Dev) (a : Nat) : (d.bump a).lios = d.lios := rfl
@[simp] theorem Dev.bump_fab (d : Dev) (a : Nat) : (d.bump a).fab = d.fab := rfl
@[simp] theorem Dev.bump_msec (d : Dev) (a : Nat) : (d.bump a).msec = d.msec := rfl
@[simp] theorem Dev.bump_sid (d : Dev) (a : Nat) : (d.bump a).sid = d.sid := rfl
@[simp] theorem Dev.bump_prt (d : Dev) (a : Nat) : (d.bump a).prt = d.prt := rfl
@[simp] theorem Dev.bump_tan (d : Dev) (a : Nat) : (d.bump a).tan = d.tan := rfl
@[simp] theorem Dev.bump_sbx (d : Dev) (a : Nat) : (d.bump a).sbx = d.sbx := rfl
@[simp] theorem Dev.bump_ce (d : Dev) (a : Nat) : (d.bump a).ce = d.ce := rfl
@[simp] theorem Dev.bump_boot (d : Dev) (a : Nat) : (d.bump a).boot = d.boot := rfl
@[simp] theorem Dev.bump_dbg (d : Dev) (a : Nat) : (d.bump a).dbg = d.dbg := rfl
@[simp] theorem Dev.bump_tal (d : Dev) (a : Nat) : (d.bump a).tal = d.tal := rfl

@[simp] theorem Dev.bumpF_up (d : Dev) (f : Fld) : (d.bumpF f).up = d.up := rfl
@[simp] theorem Dev.bumpF_drawn (d : Dev) (f : Fld) : (d.bumpF f).drawn = d.drawn := rfl
@[simp] theorem Dev.bumpF_bus (d : Dev) (f : Fld) : (d.bumpF f).bus = d.bus := rfl
@[simp] theorem Dev.bumpF_dead (d : Dev) (f : Fld) : (d.bumpF f).dead = d.dead := rfl
@[simp] theorem Dev.bumpF_log (d : Dev) (f : Fld) : (d.bumpF f).log = d.log := rfl
@[simp] theorem Dev.bumpF_frm (d : Dev) (f : Fld) : (d.bumpF f).frm = d.frm := rfl
@[simp] theorem Dev.bumpF_wld (d : Dev) (f : Fld) : (d.bumpF f).wld = d.wld := rfl
@[simp] theorem Dev.bumpF_stg (d : Dev) (f : Fld) : (d.bumpF f).stg = d.stg := rfl
@[simp] theorem Dev.bumpF_tim (d : Dev) (f : Fld) : (d.bumpF f).tim = d.tim := rfl
@[simp] theorem Dev.bumpF_tta (d : Dev) (f : Fld) : (d.bumpF f).tta = d.tta := rfl
@[simp] theorem Dev.bumpF_chans (d : Dev) (f : Fld) : (d.bumpF f).chans = d.chans := rfl
@[simp] theorem Dev.bumpF_hv (d : Dev) (f : Fld) : (d.bumpF f).hv = d.hv := rfl
@[simp] theorem Dev.bumpF_lios (d : Dev) (f : Fld) : (d.bumpF f).lios = d.lios := rfl
@[simp] theorem Dev.bumpF_fab (d : Dev) (f : Fld) : (d.bumpF f).fab = d.fab := rfl
@[simp] theorem Dev.bumpF_msec (d : Dev) (f : Fld) : (d.bumpF f).msec = d.msec := rfl
@[simp] theorem Dev.bumpF_sid (d : Dev) (f : Fld) : (d.bumpF f).sid = d.sid := rfl
@[simp] theorem Dev.bumpF_prt (d : Dev) (f : Fld) : (d.bumpF f).prt = d.prt := rfl
@[simp] theorem Dev.bumpF_tan (d : Dev) (f : Fld) : (d.bumpF f).tan = d.tan := rfl
@[simp] theorem Dev.bumpF_sbx (d : Dev) (f : Fld) : (d.bumpF f).sbx = d.sbx := rfl
@[simp] theorem Dev.bumpF_ce (d : Dev) (f : Fld) : (d.bumpF f).ce = d.ce := rfl
@[simp] theorem Dev.bumpF_boot (d : Dev) (f : Fld) : (d.bumpF f).boot = d.boot := rfl
@[simp] theorem Dev.bumpF_dbg (d : Dev) (f : Fld) : (d.bumpF f).dbg = d.dbg := rfl
@[simp] theorem Dev.bumpF_tal (d : Dev) (f : Fld) : (d.bumpF f).tal = d.tal := rfl

@[simp] theorem Dev.wrPair_up (d : Dev) (lo hi v : Nat) : (d.wrPair lo hi v).up = d.up := rfl
@[simp] theorem Dev.wrPair_drawn (d : Dev) (lo hi v : Nat) : (d.wrPair lo hi v).drawn = d.drawn := rfl
@[simp] theorem Dev.wrPair_bus (d : Dev) (lo hi v : Nat) : (d.wrPair lo hi v).bus = d.bus := rfl
@[simp] theorem Dev.wrPair_dead (d : Dev) (lo hi v : Nat) : (d.wrPair lo hi v).dead = d.dead := rfl
@[simp] theorem Dev.wrPair_log (d : Dev) (lo hi v : Nat) : (d.wrPair lo hi v).log = d.log := rfl
@[simp] theorem Dev.wrPair_frm (d : Dev) (lo hi v : Nat) : (d.wrPair lo hi v).frm = d.frm := rfl
@[simp] theorem Dev.wrPair_wld (d : Dev) (lo hi v : Nat) : (d.wrPair lo hi v).wld = d.wld := rfl
@[simp] theorem Dev.wrPair_stg (d : Dev) (lo hi v : Nat) : (d.wrPair lo hi v).stg = d.stg := rfl
@[simp] theorem Dev.wrPair_tim (d : Dev) (lo hi v : Nat) : (d.wrPair lo hi v).tim = d.tim := rfl
@[simp] theorem Dev.wrPair_tta (d : Dev) (lo hi v : Nat) : (d.wrPair lo hi v).tta = d.tta := rfl
@[simp] theorem Dev.wrPair_chans (d : Dev) (lo hi v : Nat) : (d.wrPair lo hi v).chans = d.chans := rfl
@[simp] theorem Dev.wrPair_hv (d : Dev) (lo hi v : Nat) : (d.wrPair lo hi v).hv = d.hv := rfl
@[simp] theorem Dev.wrPair_lios (d : Dev) (lo hi v : Nat) : (d.wrPair lo hi v).lios = d.lios := rfl
@[simp] theorem Dev.wrPair_fab (d : Dev) (lo hi v : Nat) : (d.wrPair lo hi v).fab = d.fab := rfl
@[simp] theorem Dev.wrPair_msec (d : Dev) (lo hi v : Nat) : (d.wrPair lo hi v).msec = d.msec := rfl
@[simp] theorem Dev.wrPair_sid (d : Dev) (lo hi v : Nat) : (d.wrPair lo hi v).sid = d.sid := rfl
@[simp] theorem Dev.wrPair_prt (d : Dev) (lo hi v : Nat) : (d.wrPair lo hi v).prt = d.prt := rfl
@[simp] theorem Dev.wrPair_tan (d : Dev) (lo hi v : Nat) : (d.wrPair lo hi v).tan = d.tan := rfl
@[simp] theorem Dev.wrPair_sbx (d : Dev) (lo hi v : Nat) : (d.wrPair lo hi v).sbx = d.sbx := rfl
@[simp] theorem Dev.wrPair_ce (d : Dev) (lo hi v : Nat) : (d.wrPair lo hi v).ce = d.ce := rfl
@[simp] theorem Dev.wrPair_boot (d : Dev) (lo hi v : Nat) : (d.wrPair lo hi v).boot = d.boot := rfl
@[simp] theorem Dev.wrPair_dbg (d : Dev) (lo hi v : Nat) : (d.wrPair lo hi v).dbg = d.dbg := rfl
@[simp] theorem Dev.wrPair_tal (d : Dev) (lo hi v : Nat) : (d.wrPair lo hi v).tal = d.tal := rfl

@[simp] theorem Dev.returns_regs (d : Dev) (v : Nat) : (d.returns v).regs = d.regs := rfl
@[simp] theorem Dev.returns_up (d : Dev) (v : Nat) : (d.returns v).up = d.up := rfl
@[simp] theorem Dev.returns_drawn (d : Dev) (v : Nat) : (d.returns v).drawn = d.drawn := rfl
@[simp] theorem Dev.returns_dead (d : Dev) (v : Nat) : (d.returns v).dead = d.dead := rfl
@[simp] theorem Dev.returns_log (d : Dev) (v : Nat) : (d.returns v).log = d.log := rfl
@[simp] theorem Dev.returns_frm (d : Dev) (v : Nat) : (d.returns v).frm = d.frm := rfl
@[simp] theorem Dev.returns_wld (d : Dev) (v : Nat) : (d.returns v).wld = d.wld := rfl
@[simp] theorem Dev.returns_stg (d : Dev) (v : Nat) : (d.returns v).stg = d.stg := rfl
@[simp] theorem Dev.returns_tim (d : Dev) (v : Nat) : (d.returns v).tim = d.tim := rfl
@[simp] theorem Dev.returns_tta (d : Dev) (v : Nat) : (d.returns v).tta = d.tta := rfl
@[simp] theorem Dev.returns_chans (d : Dev) (v : Nat) : (d.returns v).chans = d.chans := rfl
@[simp] theorem Dev.returns_hv (d : Dev) (v : Nat) : (d.returns v).hv = d.hv := rfl
@[simp] theorem Dev.returns_lios (d : Dev) (v : Nat) : (d.returns v).lios = d.lios := rfl
@[simp] theorem Dev.returns_fab (d : Dev) (v : Nat) : (d.returns v).fab = d.fab := rfl
@[simp] theorem Dev.returns_msec (d : Dev) (v : Nat) : (d.returns v).msec = d.msec := rfl
@[simp] theorem Dev.returns_sid (d : Dev) (v : Nat) : (d.returns v).sid = d.sid := rfl
@[simp] theorem Dev.returns_prt (d : Dev) (v : Nat) : (d.returns v).prt = d.prt := rfl
@[simp] theorem Dev.returns_tan (d : Dev) (v : Nat) : (d.returns v).tan = d.tan := rfl
@[simp] theorem Dev.returns_sbx (d : Dev) (v : Nat) : (d.returns v).sbx = d.sbx := rfl
@[simp] theorem Dev.returns_ce (d : Dev) (v : Nat) : (d.returns v).ce = d.ce := rfl
@[simp] theorem Dev.returns_boot (d : Dev) (v : Nat) : (d.returns v).boot = d.boot := rfl
@[simp] theorem Dev.returns_dbg (d : Dev) (v : Nat) : (d.returns v).dbg = d.dbg := rfl
@[simp] theorem Dev.returns_tal (d : Dev) (v : Nat) : (d.returns v).tal = d.tal := rfl

@[simp] theorem Dev.busError_regs (d : Dev) : (d.busError).regs = d.regs := rfl
@[simp] theorem Dev.busError_up (d : Dev) : (d.busError).up = d.up := rfl
@[simp] theorem Dev.busError_drawn (d : Dev) : (d.busError).drawn = d.drawn := rfl
@[simp] theorem Dev.busError_dead (d : Dev) : (d.busError).dead = d.dead := rfl
@[simp] theorem Dev.busError_log (d : Dev) : (d.busError).log = d.log := rfl
@[simp] theorem Dev.busError_frm (d : Dev) : (d.busError).frm = d.frm := rfl
@[simp] theorem Dev.busError_wld (d : Dev) : (d.busError).wld = d.wld := rfl
@[simp] theorem Dev.busError_stg (d : Dev) : (d.busError).stg = d.stg := rfl
@[simp] theorem Dev.busError_tim (d : Dev) : (d.busError).tim = d.tim := rfl
@[simp] theorem Dev.busError_tta (d : Dev) : (d.busError).tta = d.tta := rfl
@[simp] theorem Dev.busError_chans (d : Dev) : (d.busError).chans = d.chans := rfl
@[simp] theorem Dev.busError_hv (d : Dev) : (d.busError).hv = d.hv := rfl
@[simp] theorem Dev.busError_lios (d : Dev) : (d.busError).lios = d.lios := rfl
@[simp] theorem Dev.busError_fab (d : Dev) : (d.busError).fab = d.fab := rfl
@[simp] theorem Dev.busError_msec (d : Dev) : (d.busError).msec = d.msec := rfl
@[simp] theorem Dev.busError_sid (d : Dev) : (d.busError).sid = d.sid := rfl
@[simp] theorem Dev.busError_prt (d : Dev) : (d.busError).prt = d.prt := rfl
@[simp] theorem Dev.busError_tan (d : Dev) : (d.busError).tan = d.tan := rfl
@[simp] theorem Dev.busError_sbx (d : Dev) : (d.busError).sbx = d.sbx := rfl
@[simp] theorem Dev.busError_ce (d : Dev) : (d.busError).ce = d.ce := rfl
@[simp] theorem Dev.busError_boot (d : Dev) : (d.busError).boot = d.boot := rfl
@[simp] theorem Dev.busError_dbg (d : Dev) : (d.busError).dbg = d.dbg := rfl
@[simp] theorem Dev.busError_tal (d : Dev) : (d.busError).tal = d.tal := rfl

@[simp] theorem Dev.fresh_regs (d : Dev) (w : Nat) : (d.fresh w).2.regs = d.regs := rfl
@[simp] theorem Dev.fresh_up (d : Dev) (w : Nat) : (d.fresh w).2.up = d.up := rfl
@[simp] theorem Dev.fresh_bus (d : Dev) (w : Nat) : (d.fresh w).2.bus = d.bus := rfl
@[simp] theorem Dev.fresh_dead (d : Dev) (w : Nat) : (d.fresh w).2.dead = d.dead := rfl
@[simp] theorem Dev.fresh_log (d : Dev) (w : Nat) : (d.fresh w).2.log = d.log := rfl
@[simp] theorem Dev.fresh_frm (d : Dev) (w : Nat) : (d.fresh w).2.frm = d.frm := rfl
@[simp] theorem Dev.fresh_wld (d : Dev) (w : Nat) : (d.fresh w).2.wld = d.wld := rfl
@[simp] theorem Dev.fresh_stg (d : Dev) (w : Nat) : (d.fresh w).2.stg = d.stg := rfl
@[simp] theorem Dev.fresh_tim (d : Dev) (w : Nat) : (d.fresh w).2.tim = d.tim := rfl
@[simp] theorem Dev.fresh_tta (d : Dev) (w : Nat) : (d.fresh w).2.tta = d.tta := rfl
@[simp] theorem Dev.fresh_chans (d : Dev) (w : Nat) : (d.fresh w).2.chans = d.chans := rfl
@[simp] theorem Dev.fresh_hv (d : Dev) (w : Nat) : (d.fresh w).2.hv = d.hv := rfl
@[simp] theorem Dev.fresh_lios (d : Dev) (w : Nat) : (d.fresh w).2.lios = d.lios := rfl
@[simp] theorem Dev.fresh_fab (d : Dev) (w : Nat) : (d.fresh w).2.fab = d.fab := rfl
@[simp] theorem Dev.fresh_msec (d : Dev) (w : Nat) : (d.fresh w).2.msec = d.msec := rfl
@[simp] theorem Dev.fresh_sid (d : Dev) (w : Nat) : (d.fresh w).2.sid = d.sid := rfl
@[simp] theorem Dev.fresh_prt (d : Dev) (w : Nat) : (d.fresh w).2.prt = d.prt := rfl
@[simp] theorem Dev.fresh_tan (d : Dev) (w : Nat) : (d.fresh w).2.tan = d.tan := rfl
@[simp] theorem Dev.fresh_sbx (d : Dev) (w : Nat) : (d.fresh w).2.sbx = d.sbx := rfl
@[simp] theorem Dev.fresh_ce (d : Dev) (w : Nat) : (d.fresh w).2.ce = d.ce := rfl
@[simp] theorem Dev.fresh_boot (d : Dev) (w : Nat) : (d.fresh w).2.boot = d.boot := rfl
@[simp] theorem Dev.fresh_dbg (d : Dev) (w : Nat) : (d.fresh w).2.dbg = d.dbg := rfl
@[simp] theorem Dev.fresh_tal (d : Dev) (w : Nat) : (d.fresh w).2.tal = d.tal := rfl
@[simp] theorem Dev.fresh_drawn (d : Dev) (w : Nat) : (d.fresh w).2.drawn = d.drawn + 1 := rfl
@[simp] theorem Dev.returns_bus (d : Dev) (v : Nat) : (d.returns v).bus = { data := v, err := false } := rfl
@[simp] theorem Dev.busError_bus (d : Dev) : d.busError.bus = { data := 0, err := true } := rfl

end Sys2Proof.Machine
end

