-- ==== Sys2Proof/Laws/Quiet.lean ====
section
/-! SUPPORT. What raising an interrupt, posting a record, counting an event and reporting a fault leave as it was: every
part of the state but the logbook's, and every register outside the FRM, IRQ, TALLY and LOGB windows. -/

namespace Sys2Proof.Machine

open R

theorem Dev.each_keeps_mem {α β : Type} (g : Dev → β) (f : α → Dev → Dev) (d : Dev) (l : List α)
    (h : ∀ x ∈ l, ∀ d, g (f x d) = g d) : g (d.each l f) = g d := by
  unfold Dev.each
  induction l generalizing d with
  | nil => rfl
  | cons x r ih => rw [List.foldl_cons, ih _ (fun y hy => h y (by simp [hy])), h x (by simp)]

theorem Dev.fld_of_rn {d e : Dev} {f : Fld} (h : d.rn f.addr = e.rn f.addr) : d.fld f = e.fld f := by
  unfold Dev.fld; rw [h]

theorem Dev.on_of_rn {d e : Dev} {f : Fld} (h : d.rn f.addr = e.rn f.addr) : d.on f = e.on f := by
  unfold Dev.on; rw [Dev.fld_of_rn h]

/-- The state without its registers, the logbook, the counters' clocks and the boot ROM's part. -/
def Dev.rest (d : Dev) : Dev := { d with regs := [], log := LogSt.reset, tal := TalSt.reset, boot := BootSt.reset }

/-- The same without the fault and reset manager's part. -/
def Dev.restF (d : Dev) : Dev := { d.rest with frm := FrmSt.reset }

theorem Dev.restF_of_rest {d e : Dev} (h : d.rest = e.rest) : d.restF = e.restF := by unfold Dev.restF; rw [h]

@[simp] theorem Dev.rest_wr (d : Dev) (a v : Nat) : (d.wr a v).rest = d.rest := rfl
@[simp] theorem Dev.rest_put (d : Dev) (f : Fld) (v : Nat) : (d.put f v).rest = d.rest := rfl
@[simp] theorem Dev.rest_set (d : Dev) (f : Fld) : (d.set f).rest = d.rest := rfl
@[simp] theorem Dev.rest_clr (d : Dev) (f : Fld) : (d.clr f).rest = d.rest := rfl
@[simp] theorem Dev.rest_bump (d : Dev) (a : Nat) : (d.bump a).rest = d.rest := rfl
@[simp] theorem Dev.rest_bumpF (d : Dev) (f : Fld) : (d.bumpF f).rest = d.rest := rfl
@[simp] theorem Dev.rest_wrPair (d : Dev) (lo hi v : Nat) : (d.wrPair lo hi v).rest = d.rest := rfl

@[simp] theorem Dev.rest_raise (d : Dev) (src : Nat) : (d.raise src).rest = d.rest := by
  unfold Dev.raise; split <;> rfl

@[simp] theorem Dev.rest_raiseIf (d : Dev) (en : Fld) (src : Nat) : (d.raiseIf en src).rest = d.rest := by
  unfold Dev.raiseIf; split <;> simp

@[simp] theorem Dev.rest_ready (d : Dev) (n : Nat) : (d.ready n).rest = d.rest := by
  unfold Dev.ready; split <;> rfl

@[simp] theorem Dev.rest_stageAdd (d : Dev) (r : Rec) : (d.stageAdd r).rest = d.rest := by
  unfold Dev.stageAdd; split <;> rfl

@[simp] theorem Dev.rest_tallyAdd (d : Dev) (ctl ev k : Nat) (ovf : Fld) (src owner inst : Nat) :
    (d.tallyAdd ctl ev k ovf src owner inst).rest = d.rest := by
  unfold Dev.tallyAdd; dsimp only; split
  · rfl
  · split
    · simp
    · split <;> simp

@[simp] theorem Dev.rest_tallyCount (d : Dev) (ctl ev k : Nat) (ovf : Fld) (src owner inst : Nat) (adds : Bool) :
    (d.tallyCount ctl ev k ovf src owner inst adds).rest = d.rest := by
  unfold Dev.tallyCount; dsimp only; split
  · rfl
  · split
    · rfl
    · rw [Dev.rest_tallyAdd]; rfl

@[simp] theorem Dev.rest_smpCount (d : Dev) (k ev n : Nat) : (d.smpCount k ev n).rest = d.rest := by
  unfold Dev.smpCount; split <;> rfl

@[simp] theorem Dev.rest_tallyD (d : Dev) (ev k : Nat) : (d.tallyD ev k).rest = d.rest := by
  exact Dev.each_keeps Dev.rest _ (fun x d => by simp) d _

@[simp] theorem Dev.rest_tallyP (d : Dev) (p ev k : Nat) : (d.tallyP p ev k).rest = d.rest := by
  exact Dev.each_keeps Dev.rest _ (fun x d => by simp) d _

@[simp] theorem Dev.rest_tallyC (d : Dev) (core ev k : Nat) : (d.tallyC core ev k).rest = d.rest := by
  unfold Dev.tallyC; dsimp only; split
  · exact Dev.rest_smpCount ..
  · exact (Dev.each_keeps Dev.rest _ (fun x d => by simp) _ _).trans (Dev.rest_smpCount ..)

@[simp] theorem Dev.rest_aoSelect (d : Dev) (r : Rec) : (d.aoSelect r).rest = d.rest := by
  unfold Dev.aoSelect; split <;> rfl

@[simp] theorem Dev.rest_enqueue (d : Dev) (r : Rec) : (d.enqueue r).rest = d.rest := by
  unfold Dev.enqueue; split
  · rfl
  · split
    · rfl
    · rw [Dev.rest_raiseIf, Dev.rest_set, Dev.rest_bump]; rfl

@[simp] theorem Dev.rest_postRaw (d : Dev) (r : Rec) : (d.postRaw r).rest = d.rest := by
  unfold Dev.postRaw; dsimp only; generalize (if d.aoSelects r then _ else r) = x; split <;> simp

@[simp] theorem Dev.rest_pinTo (d : Dev) (f : Fld) (which : Nat) (high : Bool) : (d.pinTo f which high).rest = d.rest := by
  unfold Dev.pinTo; split <;> simp

@[simp] theorem Dev.rest_pin (d : Dev) (f : Fld) (which : Nat) (high : Bool) : (d.pin f which high).rest = d.rest := by
  unfold Dev.pin; split <;> simp

@[simp] theorem Dev.rest_updFaultN (d : Dev) : (d.updFaultN).rest = d.rest := by
  unfold Dev.updFaultN; simp

@[simp] theorem Dev.rest_pend (d : Dev) (sev : Nat) : (d.pend sev).rest = d.rest := by
  unfold Dev.pend; split <;> simp

@[simp] theorem Dev.rest_postRec (d : Dev) (r : Rec) : (d.postRec r).rest = d.rest := by
  unfold Dev.postRec; simp

@[simp] theorem Dev.rest_post (d : Dev) (block code sev owner inst : Nat) (data : List Nat) : (d.post block code sev owner inst data).rest = d.rest := by
  unfold Dev.post; simp

@[simp] theorem Dev.rest_postOnce (d : Dev) (block code sev owner inst : Nat) (data : List Nat) (c : Option Nat) : (d.postOnce block code sev owner inst data c).rest = d.rest := by
  unfold Dev.postOnce; dsimp only; split <;> rfl

@[simp] theorem Dev.rest_postStage (d : Dev) (block code sev owner inst : Nat) (upd : List Nat → List Nat) : (d.postStage block code sev owner inst upd).rest = d.rest := by
  unfold Dev.postStage; dsimp only; split <;> rfl

theorem Dev.restF_startCoachReset (d : Dev) (c cause : Nat) : (d.startCoachReset c cause).restF = d.restF := by
  unfold Dev.startCoachReset; split <;> rfl

theorem Dev.restF_faultReset (d : Dev) (c cause : Nat) : (d.faultReset c cause).restF = d.restF := by
  unfold Dev.faultReset; split
  · rfl
  · exact Dev.restF_startCoachReset ..

theorem Dev.restF_startDeviceReset (d : Dev) (cause block code : Nat) :
    (d.startDeviceReset cause block code).restF = d.restF := by
  unfold Dev.startDeviceReset; split <;> rfl

theorem Dev.rest_fault1 (d : Dev) (block owner : Nat) : (d.fault1 block owner).rest = d.rest := by
  unfold Dev.fault1; dsimp only; rw [Dev.rest_raiseIf]; split
  · rw [Dev.rest_put, Dev.rest_bumpF, Dev.rest_bump]
  · rw [Dev.rest_bump]

theorem Dev.restF_fault2 (d : Dev) (owner : Nat) (o : FaultOpt) (h : owner < 8) : (d.fault2 owner o).restF = d.restF := by
  unfold Dev.fault2; simp only [h, if_true]
  split <;> split <;> (try rw [Dev.restF_faultReset]) <;> apply Dev.restF_of_rest <;> simp

theorem Dev.restF_fault3 (d : Dev) (block code : Nat) : (d.fault3 block code).restF = d.restF := by
  unfold Dev.fault3; rw [Dev.restF_startDeviceReset]; apply Dev.restF_of_rest; simp

/-- A fault of a coach, or of severity other than 2, changes nothing beside registers, records and pending resets. -/
theorem Dev.restF_fault (d : Dev) (sev block code owner : Nat) (o : FaultOpt) (h : owner < 8 ∨ sev ≠ 2) :
    (d.fault sev block code owner o).restF = d.restF := by
  have hp : ((d.pend sev).when (1 ≤ sev) (·.tallyD 0x89 1)).rest = d.rest := by
    rw [Dev.when_keeps Dev.rest _ _ (fun d => Dev.rest_tallyD d _ _), Dev.rest_pend]
  unfold Dev.fault
  split
  · dsimp only
    split
    · apply Dev.restF_of_rest; rw [Dev.rest_bump, hp]
    · apply Dev.restF_of_rest; rw [Dev.rest_fault1, hp]
    · rw [Dev.restF_fault2 _ _ _ (by omega)]; exact Dev.restF_of_rest hp
    · rw [Dev.restF_fault3]; exact Dev.restF_of_rest hp
  · have hq : ∀ (e : Dev) (c : Bool) (f : Fld) (w : Nat) (b : Bool), (e.when c (fun d => d.pin f w b)).rest = e.rest :=
      fun e c f w b => Dev.when_keeps Dev.rest (fun d => d.pin f w b) c (fun d => Dev.rest_pin d f w b) e
    dsimp only
    split
    · rw [Dev.restF_startDeviceReset]; apply Dev.restF_of_rest; rw [Dev.rest_bump]; exact (hq _ _ _ _ _).trans (hq _ _ _ _ _)
    · apply Dev.restF_of_rest; exact (hq _ _ _ _ _).trans (hq _ _ _ _ _)

theorem Dev.restF_faultPost (d : Dev) (sev block code owner inst : Nat) (data : List Nat) (o : FaultOpt)
    (h : owner < 8 ∨ sev ≠ 2) : (d.faultPost sev block code owner inst data o).restF = d.restF := by
  unfold Dev.faultPost; rw [Dev.restF_fault _ _ _ _ _ _ h]; apply Dev.restF_of_rest; simp

@[simp] theorem Dev.raise_up (d : Dev) (src : Nat) : (d.raise src).up = d.up :=
  (congrArg Dev.up (d.rest_raise src) :)
@[simp] theorem Dev.raise_drawn (d : Dev) (src : Nat) : (d.raise src).drawn = d.drawn :=
  (congrArg Dev.drawn (d.rest_raise src) :)
@[simp] theorem Dev.raise_bus (d : Dev) (src : Nat) : (d.raise src).bus = d.bus :=
  (congrArg Dev.bus (d.rest_raise src) :)
@[simp] theorem Dev.raise_dead (d : Dev) (src : Nat) : (d.raise src).dead = d.dead :=
  (congrArg Dev.dead (d.rest_raise src) :)
@[simp] theorem Dev.raise_frm (d : Dev) (src : Nat) : (d.raise src).frm = d.frm :=
  (congrArg Dev.frm (d.rest_raise src) :)
@[simp] theorem Dev.raise_wld (d : Dev) (src : Nat) : (d.raise src).wld = d.wld :=
  (congrArg Dev.wld (d.rest_raise src) :)
@[simp] theorem Dev.raise_stg (d : Dev) (src : Nat) : (d.raise src).stg = d.stg :=
  (congrArg Dev.stg (d.rest_raise src) :)
@[simp] theorem Dev.raise_tim (d : Dev) (src : Nat) : (d.raise src).tim = d.tim :=
  (congrArg Dev.tim (d.rest_raise src) :)
@[simp] theorem Dev.raise_tta (d : Dev) (src : Nat) : (d.raise src).tta = d.tta :=
  (congrArg Dev.tta (d.rest_raise src) :)
@[simp] theorem Dev.raise_chans (d : Dev) (src : Nat) : (d.raise src).chans = d.chans :=
  (congrArg Dev.chans (d.rest_raise src) :)
@[simp] theorem Dev.raise_hv (d : Dev) (src : Nat) : (d.raise src).hv = d.hv :=
  (congrArg Dev.hv (d.rest_raise src) :)
@[simp] theorem Dev.raise_lios (d : Dev) (src : Nat) : (d.raise src).lios = d.lios :=
  (congrArg Dev.lios (d.rest_raise src) :)
@[simp] theorem Dev.raise_fab (d : Dev) (src : Nat) : (d.raise src).fab = d.fab :=
  (congrArg Dev.fab (d.rest_raise src) :)
@[simp] theorem Dev.raise_msec (d : Dev) (src : Nat) : (d.raise src).msec = d.msec :=
  (congrArg Dev.msec (d.rest_raise src) :)
@[simp] theorem Dev.raise_sid (d : Dev) (src : Nat) : (d.raise src).sid = d.sid :=
  (congrArg Dev.sid (d.rest_raise src) :)
@[simp] theorem Dev.raise_prt (d : Dev) (src : Nat) : (d.raise src).prt = d.prt :=
  (congrArg Dev.prt (d.rest_raise src) :)
@[simp] theorem Dev.raise_tan (d : Dev) (src : Nat) : (d.raise src).tan = d.tan :=
  (congrArg Dev.tan (d.rest_raise src) :)
@[simp] theorem Dev.raise_sbx (d : Dev) (src : Nat) : (d.raise src).sbx = d.sbx :=
  (congrArg Dev.sbx (d.rest_raise src) :)
@[simp] theorem Dev.raise_ce (d : Dev) (src : Nat) : (d.raise src).ce = d.ce :=
  (congrArg Dev.ce (d.rest_raise src) :)
@[simp] theorem Dev.raise_dbg (d : Dev) (src : Nat) : (d.raise src).dbg = d.dbg :=
  (congrArg Dev.dbg (d.rest_raise src) :)

@[simp] theorem Dev.raiseIf_up (d : Dev) (en : Fld) (src : Nat) : (d.raiseIf en src).up = d.up :=
  (congrArg Dev.up (d.rest_raiseIf en src) :)
@[simp] theorem Dev.raiseIf_drawn (d : Dev) (en : Fld) (src : Nat) : (d.raiseIf en src).drawn = d.drawn :=
  (congrArg Dev.drawn (d.rest_raiseIf en src) :)
@[simp] theorem Dev.raiseIf_bus (d : Dev) (en : Fld) (src : Nat) : (d.raiseIf en src).bus = d.bus :=
  (congrArg Dev.bus (d.rest_raiseIf en src) :)
@[simp] theorem Dev.raiseIf_dead (d : Dev) (en : Fld) (src : Nat) : (d.raiseIf en src).dead = d.dead :=
  (congrArg Dev.dead (d.rest_raiseIf en src) :)
@[simp] theorem Dev.raiseIf_frm (d : Dev) (en : Fld) (src : Nat) : (d.raiseIf en src).frm = d.frm :=
  (congrArg Dev.frm (d.rest_raiseIf en src) :)
@[simp] theorem Dev.raiseIf_wld (d : Dev) (en : Fld) (src : Nat) : (d.raiseIf en src).wld = d.wld :=
  (congrArg Dev.wld (d.rest_raiseIf en src) :)
@[simp] theorem Dev.raiseIf_stg (d : Dev) (en : Fld) (src : Nat) : (d.raiseIf en src).stg = d.stg :=
  (congrArg Dev.stg (d.rest_raiseIf en src) :)
@[simp] theorem Dev.raiseIf_tim (d : Dev) (en : Fld) (src : Nat) : (d.raiseIf en src).tim = d.tim :=
  (congrArg Dev.tim (d.rest_raiseIf en src) :)
@[simp] theorem Dev.raiseIf_tta (d : Dev) (en : Fld) (src : Nat) : (d.raiseIf en src).tta = d.tta :=
  (congrArg Dev.tta (d.rest_raiseIf en src) :)
@[simp] theorem Dev.raiseIf_chans (d : Dev) (en : Fld) (src : Nat) : (d.raiseIf en src).chans = d.chans :=
  (congrArg Dev.chans (d.rest_raiseIf en src) :)
@[simp] theorem Dev.raiseIf_hv (d : Dev) (en : Fld) (src : Nat) : (d.raiseIf en src).hv = d.hv :=
  (congrArg Dev.hv (d.rest_raiseIf en src) :)
@[simp] theorem Dev.raiseIf_lios (d : Dev) (en : Fld) (src : Nat) : (d.raiseIf en src).lios = d.lios :=
  (congrArg Dev.lios (d.rest_raiseIf en src) :)
@[simp] theorem Dev.raiseIf_fab (d : Dev) (en : Fld) (src : Nat) : (d.raiseIf en src).fab = d.fab :=
  (congrArg Dev.fab (d.rest_raiseIf en src) :)
@[simp] theorem Dev.raiseIf_msec (d : Dev) (en : Fld) (src : Nat) : (d.raiseIf en src).msec = d.msec :=
  (congrArg Dev.msec (d.rest_raiseIf en src) :)
@[simp] theorem Dev.raiseIf_sid (d : Dev) (en : Fld) (src : Nat) : (d.raiseIf en src).sid = d.sid :=
  (congrArg Dev.sid (d.rest_raiseIf en src) :)
@[simp] theorem Dev.raiseIf_prt (d : Dev) (en : Fld) (src : Nat) : (d.raiseIf en src).prt = d.prt :=
  (congrArg Dev.prt (d.rest_raiseIf en src) :)
@[simp] theorem Dev.raiseIf_tan (d : Dev) (en : Fld) (src : Nat) : (d.raiseIf en src).tan = d.tan :=
  (congrArg Dev.tan (d.rest_raiseIf en src) :)
@[simp] theorem Dev.raiseIf_sbx (d : Dev) (en : Fld) (src : Nat) : (d.raiseIf en src).sbx = d.sbx :=
  (congrArg Dev.sbx (d.rest_raiseIf en src) :)
@[simp] theorem Dev.raiseIf_ce (d : Dev) (en : Fld) (src : Nat) : (d.raiseIf en src).ce = d.ce :=
  (congrArg Dev.ce (d.rest_raiseIf en src) :)
@[simp] theorem Dev.raiseIf_dbg (d : Dev) (en : Fld) (src : Nat) : (d.raiseIf en src).dbg = d.dbg :=
  (congrArg Dev.dbg (d.rest_raiseIf en src) :)

@[simp] theorem Dev.tallyD_up (d : Dev) (ev k : Nat) : (d.tallyD ev k).up = d.up :=
  (congrArg Dev.up (d.rest_tallyD ev k) :)
@[simp] theorem Dev.tallyD_drawn (d : Dev) (ev k : Nat) : (d.tallyD ev k).drawn = d.drawn :=
  (congrArg Dev.drawn (d.rest_tallyD ev k) :)
@[simp] theorem Dev.tallyD_bus (d : Dev) (ev k : Nat) : (d.tallyD ev k).bus = d.bus :=
  (congrArg Dev.bus (d.rest_tallyD ev k) :)
@[simp] theorem Dev.tallyD_dead (d : Dev) (ev k : Nat) : (d.tallyD ev k).dead = d.dead :=
  (congrArg Dev.dead (d.rest_tallyD ev k) :)
@[simp] theorem Dev.tallyD_frm (d : Dev) (ev k : Nat) : (d.tallyD ev k).frm = d.frm :=
  (congrArg Dev.frm (d.rest_tallyD ev k) :)
@[simp] theorem Dev.tallyD_wld (d : Dev) (ev k : Nat) : (d.tallyD ev k).wld = d.wld :=
  (congrArg Dev.wld (d.rest_tallyD ev k) :)
@[simp] theorem Dev.tallyD_stg (d : Dev) (ev k : Nat) : (d.tallyD ev k).stg = d.stg :=
  (congrArg Dev.stg (d.rest_tallyD ev k) :)
@[simp] theorem Dev.tallyD_tim (d : Dev) (ev k : Nat) : (d.tallyD ev k).tim = d.tim :=
  (congrArg Dev.tim (d.rest_tallyD ev k) :)
@[simp] theorem Dev.tallyD_tta (d : Dev) (ev k : Nat) : (d.tallyD ev k).tta = d.tta :=
  (congrArg Dev.tta (d.rest_tallyD ev k) :)
@[simp] theorem Dev.tallyD_chans (d : Dev) (ev k : Nat) : (d.tallyD ev k).chans = d.chans :=
  (congrArg Dev.chans (d.rest_tallyD ev k) :)
@[simp] theorem Dev.tallyD_hv (d : Dev) (ev k : Nat) : (d.tallyD ev k).hv = d.hv :=
  (congrArg Dev.hv (d.rest_tallyD ev k) :)
@[simp] theorem Dev.tallyD_lios (d : Dev) (ev k : Nat) : (d.tallyD ev k).lios = d.lios :=
  (congrArg Dev.lios (d.rest_tallyD ev k) :)
@[simp] theorem Dev.tallyD_fab (d : Dev) (ev k : Nat) : (d.tallyD ev k).fab = d.fab :=
  (congrArg Dev.fab (d.rest_tallyD ev k) :)
@[simp] theorem Dev.tallyD_msec (d : Dev) (ev k : Nat) : (d.tallyD ev k).msec = d.msec :=
  (congrArg Dev.msec (d.rest_tallyD ev k) :)
@[simp] theorem Dev.tallyD_sid (d : Dev) (ev k : Nat) : (d.tallyD ev k).sid = d.sid :=
  (congrArg Dev.sid (d.rest_tallyD ev k) :)
@[simp] theorem Dev.tallyD_prt (d : Dev) (ev k : Nat) : (d.tallyD ev k).prt = d.prt :=
  (congrArg Dev.prt (d.rest_tallyD ev k) :)
@[simp] theorem Dev.tallyD_tan (d : Dev) (ev k : Nat) : (d.tallyD ev k).tan = d.tan :=
  (congrArg Dev.tan (d.rest_tallyD ev k) :)
@[simp] theorem Dev.tallyD_sbx (d : Dev) (ev k : Nat) : (d.tallyD ev k).sbx = d.sbx :=
  (congrArg Dev.sbx (d.rest_tallyD ev k) :)
@[simp] theorem Dev.tallyD_ce (d : Dev) (ev k : Nat) : (d.tallyD ev k).ce = d.ce :=
  (congrArg Dev.ce (d.rest_tallyD ev k) :)
@[simp] theorem Dev.tallyD_dbg (d : Dev) (ev k : Nat) : (d.tallyD ev k).dbg = d.dbg :=
  (congrArg Dev.dbg (d.rest_tallyD ev k) :)

@[simp] theorem Dev.tallyP_up (d : Dev) (p ev k : Nat) : (d.tallyP p ev k).up = d.up :=
  (congrArg Dev.up (d.rest_tallyP p ev k) :)
@[simp] theorem Dev.tallyP_drawn (d : Dev) (p ev k : Nat) : (d.tallyP p ev k).drawn = d.drawn :=
  (congrArg Dev.drawn (d.rest_tallyP p ev k) :)
@[simp] theorem Dev.tallyP_bus (d : Dev) (p ev k : Nat) : (d.tallyP p ev k).bus = d.bus :=
  (congrArg Dev.bus (d.rest_tallyP p ev k) :)
@[simp] theorem Dev.tallyP_dead (d : Dev) (p ev k : Nat) : (d.tallyP p ev k).dead = d.dead :=
  (congrArg Dev.dead (d.rest_tallyP p ev k) :)
@[simp] theorem Dev.tallyP_frm (d : Dev) (p ev k : Nat) : (d.tallyP p ev k).frm = d.frm :=
  (congrArg Dev.frm (d.rest_tallyP p ev k) :)
@[simp] theorem Dev.tallyP_wld (d : Dev) (p ev k : Nat) : (d.tallyP p ev k).wld = d.wld :=
  (congrArg Dev.wld (d.rest_tallyP p ev k) :)
@[simp] theorem Dev.tallyP_stg (d : Dev) (p ev k : Nat) : (d.tallyP p ev k).stg = d.stg :=
  (congrArg Dev.stg (d.rest_tallyP p ev k) :)
@[simp] theorem Dev.tallyP_tim (d : Dev) (p ev k : Nat) : (d.tallyP p ev k).tim = d.tim :=
  (congrArg Dev.tim (d.rest_tallyP p ev k) :)
@[simp] theorem Dev.tallyP_tta (d : Dev) (p ev k : Nat) : (d.tallyP p ev k).tta = d.tta :=
  (congrArg Dev.tta (d.rest_tallyP p ev k) :)
@[simp] theorem Dev.tallyP_chans (d : Dev) (p ev k : Nat) : (d.tallyP p ev k).chans = d.chans :=
  (congrArg Dev.chans (d.rest_tallyP p ev k) :)
@[simp] theorem Dev.tallyP_hv (d : Dev) (p ev k : Nat) : (d.tallyP p ev k).hv = d.hv :=
  (congrArg Dev.hv (d.rest_tallyP p ev k) :)
@[simp] theorem Dev.tallyP_lios (d : Dev) (p ev k : Nat) : (d.tallyP p ev k).lios = d.lios :=
  (congrArg Dev.lios (d.rest_tallyP p ev k) :)
@[simp] theorem Dev.tallyP_fab (d : Dev) (p ev k : Nat) : (d.tallyP p ev k).fab = d.fab :=
  (congrArg Dev.fab (d.rest_tallyP p ev k) :)
@[simp] theorem Dev.tallyP_msec (d : Dev) (p ev k : Nat) : (d.tallyP p ev k).msec = d.msec :=
  (congrArg Dev.msec (d.rest_tallyP p ev k) :)
@[simp] theorem Dev.tallyP_sid (d : Dev) (p ev k : Nat) : (d.tallyP p ev k).sid = d.sid :=
  (congrArg Dev.sid (d.rest_tallyP p ev k) :)
@[simp] theorem Dev.tallyP_prt (d : Dev) (p ev k : Nat) : (d.tallyP p ev k).prt = d.prt :=
  (congrArg Dev.prt (d.rest_tallyP p ev k) :)
@[simp] theorem Dev.tallyP_tan (d : Dev) (p ev k : Nat) : (d.tallyP p ev k).tan = d.tan :=
  (congrArg Dev.tan (d.rest_tallyP p ev k) :)
@[simp] theorem Dev.tallyP_sbx (d : Dev) (p ev k : Nat) : (d.tallyP p ev k).sbx = d.sbx :=
  (congrArg Dev.sbx (d.rest_tallyP p ev k) :)
@[simp] theorem Dev.tallyP_ce (d : Dev) (p ev k : Nat) : (d.tallyP p ev k).ce = d.ce :=
  (congrArg Dev.ce (d.rest_tallyP p ev k) :)
@[simp] theorem Dev.tallyP_dbg (d : Dev) (p ev k : Nat) : (d.tallyP p ev k).dbg = d.dbg :=
  (congrArg Dev.dbg (d.rest_tallyP p ev k) :)

@[simp] theorem Dev.updFaultN_up (d : Dev) : (d.updFaultN).up = d.up :=
  (congrArg Dev.up (d.rest_updFaultN ) :)
@[simp] theorem Dev.updFaultN_drawn (d : Dev) : (d.updFaultN).drawn = d.drawn :=
  (congrArg Dev.drawn (d.rest_updFaultN ) :)
@[simp] theorem Dev.updFaultN_bus (d : Dev) : (d.updFaultN).bus = d.bus :=
  (congrArg Dev.bus (d.rest_updFaultN ) :)
@[simp] theorem Dev.updFaultN_dead (d : Dev) : (d.updFaultN).dead = d.dead :=
  (congrArg Dev.dead (d.rest_updFaultN ) :)
@[simp] theorem Dev.updFaultN_frm (d : Dev) : (d.updFaultN).frm = d.frm :=
  (congrArg Dev.frm (d.rest_updFaultN ) :)
@[simp] theorem Dev.updFaultN_wld (d : Dev) : (d.updFaultN).wld = d.wld :=
  (congrArg Dev.wld (d.rest_updFaultN ) :)
@[simp] theorem Dev.updFaultN_stg (d : Dev) : (d.updFaultN).stg = d.stg :=
  (congrArg Dev.stg (d.rest_updFaultN ) :)
@[simp] theorem Dev.updFaultN_tim (d : Dev) : (d.updFaultN).tim = d.tim :=
  (congrArg Dev.tim (d.rest_updFaultN ) :)
@[simp] theorem Dev.updFaultN_tta (d : Dev) : (d.updFaultN).tta = d.tta :=
  (congrArg Dev.tta (d.rest_updFaultN ) :)
@[simp] theorem Dev.updFaultN_chans (d : Dev) : (d.updFaultN).chans = d.chans :=
  (congrArg Dev.chans (d.rest_updFaultN ) :)
@[simp] theorem Dev.updFaultN_hv (d : Dev) : (d.updFaultN).hv = d.hv :=
  (congrArg Dev.hv (d.rest_updFaultN ) :)
@[simp] theorem Dev.updFaultN_lios (d : Dev) : (d.updFaultN).lios = d.lios :=
  (congrArg Dev.lios (d.rest_updFaultN ) :)
@[simp] theorem Dev.updFaultN_fab (d : Dev) : (d.updFaultN).fab = d.fab :=
  (congrArg Dev.fab (d.rest_updFaultN ) :)
@[simp] theorem Dev.updFaultN_msec (d : Dev) : (d.updFaultN).msec = d.msec :=
  (congrArg Dev.msec (d.rest_updFaultN ) :)
@[simp] theorem Dev.updFaultN_sid (d : Dev) : (d.updFaultN).sid = d.sid :=
  (congrArg Dev.sid (d.rest_updFaultN ) :)
@[simp] theorem Dev.updFaultN_prt (d : Dev) : (d.updFaultN).prt = d.prt :=
  (congrArg Dev.prt (d.rest_updFaultN ) :)
@[simp] theorem Dev.updFaultN_tan (d : Dev) : (d.updFaultN).tan = d.tan :=
  (congrArg Dev.tan (d.rest_updFaultN ) :)
@[simp] theorem Dev.updFaultN_sbx (d : Dev) : (d.updFaultN).sbx = d.sbx :=
  (congrArg Dev.sbx (d.rest_updFaultN ) :)
@[simp] theorem Dev.updFaultN_ce (d : Dev) : (d.updFaultN).ce = d.ce :=
  (congrArg Dev.ce (d.rest_updFaultN ) :)
@[simp] theorem Dev.updFaultN_dbg (d : Dev) : (d.updFaultN).dbg = d.dbg :=
  (congrArg Dev.dbg (d.rest_updFaultN ) :)

@[simp] theorem Dev.postRec_up (d : Dev) (r : Rec) : (d.postRec r).up = d.up :=
  (congrArg Dev.up (d.rest_postRec r) :)
@[simp] theorem Dev.postRec_drawn (d : Dev) (r : Rec) : (d.postRec r).drawn = d.drawn :=
  (congrArg Dev.drawn (d.rest_postRec r) :)
@[simp] theorem Dev.postRec_bus (d : Dev) (r : Rec) : (d.postRec r).bus = d.bus :=
  (congrArg Dev.bus (d.rest_postRec r) :)
@[simp] theorem Dev.postRec_dead (d : Dev) (r : Rec) : (d.postRec r).dead = d.dead :=
  (congrArg Dev.dead (d.rest_postRec r) :)
@[simp] theorem Dev.postRec_frm (d : Dev) (r : Rec) : (d.postRec r).frm = d.frm :=
  (congrArg Dev.frm (d.rest_postRec r) :)
@[simp] theorem Dev.postRec_wld (d : Dev) (r : Rec) : (d.postRec r).wld = d.wld :=
  (congrArg Dev.wld (d.rest_postRec r) :)
@[simp] theorem Dev.postRec_stg (d : Dev) (r : Rec) : (d.postRec r).stg = d.stg :=
  (congrArg Dev.stg (d.rest_postRec r) :)
@[simp] theorem Dev.postRec_tim (d : Dev) (r : Rec) : (d.postRec r).tim = d.tim :=
  (congrArg Dev.tim (d.rest_postRec r) :)
@[simp] theorem Dev.postRec_tta (d : Dev) (r : Rec) : (d.postRec r).tta = d.tta :=
  (congrArg Dev.tta (d.rest_postRec r) :)
@[simp] theorem Dev.postRec_chans (d : Dev) (r : Rec) : (d.postRec r).chans = d.chans :=
  (congrArg Dev.chans (d.rest_postRec r) :)
@[simp] theorem Dev.postRec_hv (d : Dev) (r : Rec) : (d.postRec r).hv = d.hv :=
  (congrArg Dev.hv (d.rest_postRec r) :)
@[simp] theorem Dev.postRec_lios (d : Dev) (r : Rec) : (d.postRec r).lios = d.lios :=
  (congrArg Dev.lios (d.rest_postRec r) :)
@[simp] theorem Dev.postRec_fab (d : Dev) (r : Rec) : (d.postRec r).fab = d.fab :=
  (congrArg Dev.fab (d.rest_postRec r) :)
@[simp] theorem Dev.postRec_msec (d : Dev) (r : Rec) : (d.postRec r).msec = d.msec :=
  (congrArg Dev.msec (d.rest_postRec r) :)
@[simp] theorem Dev.postRec_sid (d : Dev) (r : Rec) : (d.postRec r).sid = d.sid :=
  (congrArg Dev.sid (d.rest_postRec r) :)
@[simp] theorem Dev.postRec_prt (d : Dev) (r : Rec) : (d.postRec r).prt = d.prt :=
  (congrArg Dev.prt (d.rest_postRec r) :)
@[simp] theorem Dev.postRec_tan (d : Dev) (r : Rec) : (d.postRec r).tan = d.tan :=
  (congrArg Dev.tan (d.rest_postRec r) :)
@[simp] theorem Dev.postRec_sbx (d : Dev) (r : Rec) : (d.postRec r).sbx = d.sbx :=
  (congrArg Dev.sbx (d.rest_postRec r) :)
@[simp] theorem Dev.postRec_ce (d : Dev) (r : Rec) : (d.postRec r).ce = d.ce :=
  (congrArg Dev.ce (d.rest_postRec r) :)
@[simp] theorem Dev.postRec_dbg (d : Dev) (r : Rec) : (d.postRec r).dbg = d.dbg :=
  (congrArg Dev.dbg (d.rest_postRec r) :)

@[simp] theorem Dev.post_up (d : Dev) (block code sev owner inst : Nat) (data : List Nat) : (d.post block code sev owner inst data).up = d.up :=
  (congrArg Dev.up (d.rest_post block code sev owner inst data) :)
@[simp] theorem Dev.post_drawn (d : Dev) (block code sev owner inst : Nat) (data : List Nat) : (d.post block code sev owner inst data).drawn = d.drawn :=
  (congrArg Dev.drawn (d.rest_post block code sev owner inst data) :)
@[simp] theorem Dev.post_bus (d : Dev) (block code sev owner inst : Nat) (data : List Nat) : (d.post block code sev owner inst data).bus = d.bus :=
  (congrArg Dev.bus (d.rest_post block code sev owner inst data) :)
@[simp] theorem Dev.post_dead (d : Dev) (block code sev owner inst : Nat) (data : List Nat) : (d.post block code sev owner inst data).dead = d.dead :=
  (congrArg Dev.dead (d.rest_post block code sev owner inst data) :)
@[simp] theorem Dev.post_frm (d : Dev) (block code sev owner inst : Nat) (data : List Nat) : (d.post block code sev owner inst data).frm = d.frm :=
  (congrArg Dev.frm (d.rest_post block code sev owner inst data) :)
@[simp] theorem Dev.post_wld (d : Dev) (block code sev owner inst : Nat) (data : List Nat) : (d.post block code sev owner inst data).wld = d.wld :=
  (congrArg Dev.wld (d.rest_post block code sev owner inst data) :)
@[simp] theorem Dev.post_stg (d : Dev) (block code sev owner inst : Nat) (data : List Nat) : (d.post block code sev owner inst data).stg = d.stg :=
  (congrArg Dev.stg (d.rest_post block code sev owner inst data) :)
@[simp] theorem Dev.post_tim (d : Dev) (block code sev owner inst : Nat) (data : List Nat) : (d.post block code sev owner inst data).tim = d.tim :=
  (congrArg Dev.tim (d.rest_post block code sev owner inst data) :)
@[simp] theorem Dev.post_tta (d : Dev) (block code sev owner inst : Nat) (data : List Nat) : (d.post block code sev owner inst data).tta = d.tta :=
  (congrArg Dev.tta (d.rest_post block code sev owner inst data) :)
@[simp] theorem Dev.post_chans (d : Dev) (block code sev owner inst : Nat) (data : List Nat) : (d.post block code sev owner inst data).chans = d.chans :=
  (congrArg Dev.chans (d.rest_post block code sev owner inst data) :)
@[simp] theorem Dev.post_hv (d : Dev) (block code sev owner inst : Nat) (data : List Nat) : (d.post block code sev owner inst data).hv = d.hv :=
  (congrArg Dev.hv (d.rest_post block code sev owner inst data) :)
@[simp] theorem Dev.post_lios (d : Dev) (block code sev owner inst : Nat) (data : List Nat) : (d.post block code sev owner inst data).lios = d.lios :=
  (congrArg Dev.lios (d.rest_post block code sev owner inst data) :)
@[simp] theorem Dev.post_fab (d : Dev) (block code sev owner inst : Nat) (data : List Nat) : (d.post block code sev owner inst data).fab = d.fab :=
  (congrArg Dev.fab (d.rest_post block code sev owner inst data) :)
@[simp] theorem Dev.post_msec (d : Dev) (block code sev owner inst : Nat) (data : List Nat) : (d.post block code sev owner inst data).msec = d.msec :=
  (congrArg Dev.msec (d.rest_post block code sev owner inst data) :)
@[simp] theorem Dev.post_sid (d : Dev) (block code sev owner inst : Nat) (data : List Nat) : (d.post block code sev owner inst data).sid = d.sid :=
  (congrArg Dev.sid (d.rest_post block code sev owner inst data) :)
@[simp] theorem Dev.post_prt (d : Dev) (block code sev owner inst : Nat) (data : List Nat) : (d.post block code sev owner inst data).prt = d.prt :=
  (congrArg Dev.prt (d.rest_post block code sev owner inst data) :)
@[simp] theorem Dev.post_tan (d : Dev) (block code sev owner inst : Nat) (data : List Nat) : (d.post block code sev owner inst data).tan = d.tan :=
  (congrArg Dev.tan (d.rest_post block code sev owner inst data) :)
@[simp] theorem Dev.post_sbx (d : Dev) (block code sev owner inst : Nat) (data : List Nat) : (d.post block code sev owner inst data).sbx = d.sbx :=
  (congrArg Dev.sbx (d.rest_post block code sev owner inst data) :)
@[simp] theorem Dev.post_ce (d : Dev) (block code sev owner inst : Nat) (data : List Nat) : (d.post block code sev owner inst data).ce = d.ce :=
  (congrArg Dev.ce (d.rest_post block code sev owner inst data) :)
@[simp] theorem Dev.post_dbg (d : Dev) (block code sev owner inst : Nat) (data : List Nat) : (d.post block code sev owner inst data).dbg = d.dbg :=
  (congrArg Dev.dbg (d.rest_post block code sev owner inst data) :)

@[simp] theorem Dev.postOnce_up (d : Dev) (block code sev owner inst : Nat) (data : List Nat) (c : Option Nat) : (d.postOnce block code sev owner inst data c).up = d.up :=
  (congrArg Dev.up (d.rest_postOnce block code sev owner inst data c) :)
@[simp] theorem Dev.postOnce_drawn (d : Dev) (block code sev owner inst : Nat) (data : List Nat) (c : Option Nat) : (d.postOnce block code sev owner inst data c).drawn = d.drawn :=
  (congrArg Dev.drawn (d.rest_postOnce block code sev owner inst data c) :)
@[simp] theorem Dev.postOnce_bus (d : Dev) (block code sev owner inst : Nat) (data : List Nat) (c : Option Nat) : (d.postOnce block code sev owner inst data c).bus = d.bus :=
  (congrArg Dev.bus (d.rest_postOnce block code sev owner inst data c) :)
@[simp] theorem Dev.postOnce_dead (d : Dev) (block code sev owner inst : Nat) (data : List Nat) (c : Option Nat) : (d.postOnce block code sev owner inst data c).dead = d.dead :=
  (congrArg Dev.dead (d.rest_postOnce block code sev owner inst data c) :)
@[simp] theorem Dev.postOnce_frm (d : Dev) (block code sev owner inst : Nat) (data : List Nat) (c : Option Nat) : (d.postOnce block code sev owner inst data c).frm = d.frm :=
  (congrArg Dev.frm (d.rest_postOnce block code sev owner inst data c) :)
@[simp] theorem Dev.postOnce_wld (d : Dev) (block code sev owner inst : Nat) (data : List Nat) (c : Option Nat) : (d.postOnce block code sev owner inst data c).wld = d.wld :=
  (congrArg Dev.wld (d.rest_postOnce block code sev owner inst data c) :)
@[simp] theorem Dev.postOnce_stg (d : Dev) (block code sev owner inst : Nat) (data : List Nat) (c : Option Nat) : (d.postOnce block code sev owner inst data c).stg = d.stg :=
  (congrArg Dev.stg (d.rest_postOnce block code sev owner inst data c) :)
@[simp] theorem Dev.postOnce_tim (d : Dev) (block code sev owner inst : Nat) (data : List Nat) (c : Option Nat) : (d.postOnce block code sev owner inst data c).tim = d.tim :=
  (congrArg Dev.tim (d.rest_postOnce block code sev owner inst data c) :)
@[simp] theorem Dev.postOnce_tta (d : Dev) (block code sev owner inst : Nat) (data : List Nat) (c : Option Nat) : (d.postOnce block code sev owner inst data c).tta = d.tta :=
  (congrArg Dev.tta (d.rest_postOnce block code sev owner inst data c) :)
@[simp] theorem Dev.postOnce_chans (d : Dev) (block code sev owner inst : Nat) (data : List Nat) (c : Option Nat) : (d.postOnce block code sev owner inst data c).chans = d.chans :=
  (congrArg Dev.chans (d.rest_postOnce block code sev owner inst data c) :)
@[simp] theorem Dev.postOnce_hv (d : Dev) (block code sev owner inst : Nat) (data : List Nat) (c : Option Nat) : (d.postOnce block code sev owner inst data c).hv = d.hv :=
  (congrArg Dev.hv (d.rest_postOnce block code sev owner inst data c) :)
@[simp] theorem Dev.postOnce_lios (d : Dev) (block code sev owner inst : Nat) (data : List Nat) (c : Option Nat) : (d.postOnce block code sev owner inst data c).lios = d.lios :=
  (congrArg Dev.lios (d.rest_postOnce block code sev owner inst data c) :)
@[simp] theorem Dev.postOnce_fab (d : Dev) (block code sev owner inst : Nat) (data : List Nat) (c : Option Nat) : (d.postOnce block code sev owner inst data c).fab = d.fab :=
  (congrArg Dev.fab (d.rest_postOnce block code sev owner inst data c) :)
@[simp] theorem Dev.postOnce_msec (d : Dev) (block code sev owner inst : Nat) (data : List Nat) (c : Option Nat) : (d.postOnce block code sev owner inst data c).msec = d.msec :=
  (congrArg Dev.msec (d.rest_postOnce block code sev owner inst data c) :)
@[simp] theorem Dev.postOnce_sid (d : Dev) (block code sev owner inst : Nat) (data : List Nat) (c : Option Nat) : (d.postOnce block code sev owner inst data c).sid = d.sid :=
  (congrArg Dev.sid (d.rest_postOnce block code sev owner inst data c) :)
@[simp] theorem Dev.postOnce_prt (d : Dev) (block code sev owner inst : Nat) (data : List Nat) (c : Option Nat) : (d.postOnce block code sev owner inst data c).prt = d.prt :=
  (congrArg Dev.prt (d.rest_postOnce block code sev owner inst data c) :)
@[simp] theorem Dev.postOnce_tan (d : Dev) (block code sev owner inst : Nat) (data : List Nat) (c : Option Nat) : (d.postOnce block code sev owner inst data c).tan = d.tan :=
  (congrArg Dev.tan (d.rest_postOnce block code sev owner inst data c) :)
@[simp] theorem Dev.postOnce_sbx (d : Dev) (block code sev owner inst : Nat) (data : List Nat) (c : Option Nat) : (d.postOnce block code sev owner inst data c).sbx = d.sbx :=
  (congrArg Dev.sbx (d.rest_postOnce block code sev owner inst data c) :)
@[simp] theorem Dev.postOnce_ce (d : Dev) (block code sev owner inst : Nat) (data : List Nat) (c : Option Nat) : (d.postOnce block code sev owner inst data c).ce = d.ce :=
  (congrArg Dev.ce (d.rest_postOnce block code sev owner inst data c) :)
@[simp] theorem Dev.postOnce_dbg (d : Dev) (block code sev owner inst : Nat) (data : List Nat) (c : Option Nat) : (d.postOnce block code sev owner inst data c).dbg = d.dbg :=
  (congrArg Dev.dbg (d.rest_postOnce block code sev owner inst data c) :)

@[simp] theorem Dev.postStage_up (d : Dev) (block code sev owner inst : Nat) (upd : List Nat → List Nat) : (d.postStage block code sev owner inst upd).up = d.up :=
  (congrArg Dev.up (d.rest_postStage block code sev owner inst upd) :)
@[simp] theorem Dev.postStage_drawn (d : Dev) (block code sev owner inst : Nat) (upd : List Nat → List Nat) : (d.postStage block code sev owner inst upd).drawn = d.drawn :=
  (congrArg Dev.drawn (d.rest_postStage block code sev owner inst upd) :)
@[simp] theorem Dev.postStage_bus (d : Dev) (block code sev owner inst : Nat) (upd : List Nat → List Nat) : (d.postStage block code sev owner inst upd).bus = d.bus :=
  (congrArg Dev.bus (d.rest_postStage block code sev owner inst upd) :)
@[simp] theorem Dev.postStage_dead (d : Dev) (block code sev owner inst : Nat) (upd : List Nat → List Nat) : (d.postStage block code sev owner inst upd).dead = d.dead :=
  (congrArg Dev.dead (d.rest_postStage block code sev owner inst upd) :)
@[simp] theorem Dev.postStage_frm (d : Dev) (block code sev owner inst : Nat) (upd : List Nat → List Nat) : (d.postStage block code sev owner inst upd).frm = d.frm :=
  (congrArg Dev.frm (d.rest_postStage block code sev owner inst upd) :)
@[simp] theorem Dev.postStage_wld (d : Dev) (block code sev owner inst : Nat) (upd : List Nat → List Nat) : (d.postStage block code sev owner inst upd).wld = d.wld :=
  (congrArg Dev.wld (d.rest_postStage block code sev owner inst upd) :)
@[simp] theorem Dev.postStage_stg (d : Dev) (block code sev owner inst : Nat) (upd : List Nat → List Nat) : (d.postStage block code sev owner inst upd).stg = d.stg :=
  (congrArg Dev.stg (d.rest_postStage block code sev owner inst upd) :)
@[simp] theorem Dev.postStage_tim (d : Dev) (block code sev owner inst : Nat) (upd : List Nat → List Nat) : (d.postStage block code sev owner inst upd).tim = d.tim :=
  (congrArg Dev.tim (d.rest_postStage block code sev owner inst upd) :)
@[simp] theorem Dev.postStage_tta (d : Dev) (block code sev owner inst : Nat) (upd : List Nat → List Nat) : (d.postStage block code sev owner inst upd).tta = d.tta :=
  (congrArg Dev.tta (d.rest_postStage block code sev owner inst upd) :)
@[simp] theorem Dev.postStage_chans (d : Dev) (block code sev owner inst : Nat) (upd : List Nat → List Nat) : (d.postStage block code sev owner inst upd).chans = d.chans :=
  (congrArg Dev.chans (d.rest_postStage block code sev owner inst upd) :)
@[simp] theorem Dev.postStage_hv (d : Dev) (block code sev owner inst : Nat) (upd : List Nat → List Nat) : (d.postStage block code sev owner inst upd).hv = d.hv :=
  (congrArg Dev.hv (d.rest_postStage block code sev owner inst upd) :)
@[simp] theorem Dev.postStage_lios (d : Dev) (block code sev owner inst : Nat) (upd : List Nat → List Nat) : (d.postStage block code sev owner inst upd).lios = d.lios :=
  (congrArg Dev.lios (d.rest_postStage block code sev owner inst upd) :)
@[simp] theorem Dev.postStage_fab (d : Dev) (block code sev owner inst : Nat) (upd : List Nat → List Nat) : (d.postStage block code sev owner inst upd).fab = d.fab :=
  (congrArg Dev.fab (d.rest_postStage block code sev owner inst upd) :)
@[simp] theorem Dev.postStage_msec (d : Dev) (block code sev owner inst : Nat) (upd : List Nat → List Nat) : (d.postStage block code sev owner inst upd).msec = d.msec :=
  (congrArg Dev.msec (d.rest_postStage block code sev owner inst upd) :)
@[simp] theorem Dev.postStage_sid (d : Dev) (block code sev owner inst : Nat) (upd : List Nat → List Nat) : (d.postStage block code sev owner inst upd).sid = d.sid :=
  (congrArg Dev.sid (d.rest_postStage block code sev owner inst upd) :)
@[simp] theorem Dev.postStage_prt (d : Dev) (block code sev owner inst : Nat) (upd : List Nat → List Nat) : (d.postStage block code sev owner inst upd).prt = d.prt :=
  (congrArg Dev.prt (d.rest_postStage block code sev owner inst upd) :)
@[simp] theorem Dev.postStage_tan (d : Dev) (block code sev owner inst : Nat) (upd : List Nat → List Nat) : (d.postStage block code sev owner inst upd).tan = d.tan :=
  (congrArg Dev.tan (d.rest_postStage block code sev owner inst upd) :)
@[simp] theorem Dev.postStage_sbx (d : Dev) (block code sev owner inst : Nat) (upd : List Nat → List Nat) : (d.postStage block code sev owner inst upd).sbx = d.sbx :=
  (congrArg Dev.sbx (d.rest_postStage block code sev owner inst upd) :)
@[simp] theorem Dev.postStage_ce (d : Dev) (block code sev owner inst : Nat) (upd : List Nat → List Nat) : (d.postStage block code sev owner inst upd).ce = d.ce :=
  (congrArg Dev.ce (d.rest_postStage block code sev owner inst upd) :)
@[simp] theorem Dev.postStage_dbg (d : Dev) (block code sev owner inst : Nat) (upd : List Nat → List Nat) : (d.postStage block code sev owner inst upd).dbg = d.dbg :=
  (congrArg Dev.dbg (d.rest_postStage block code sev owner inst upd) :)

@[simp] theorem Dev.fault_up (d : Dev) (sev block code owner : Nat) (o : FaultOpt) (h : owner < 8 ∨ sev ≠ 2) : (d.fault sev block code owner o).up = d.up :=
  (congrArg Dev.up (d.restF_fault sev block code owner o h) :)
@[simp] theorem Dev.fault_drawn (d : Dev) (sev block code owner : Nat) (o : FaultOpt) (h : owner < 8 ∨ sev ≠ 2) : (d.fault sev block code owner o).drawn = d.drawn :=
  (congrArg Dev.drawn (d.restF_fault sev block code owner o h) :)
@[simp] theorem Dev.fault_bus (d : Dev) (sev block code owner : Nat) (o : FaultOpt) (h : owner < 8 ∨ sev ≠ 2) : (d.fault sev block code owner o).bus = d.bus :=
  (congrArg Dev.bus (d.restF_fault sev block code owner o h) :)
@[simp] theorem Dev.fault_dead (d : Dev) (sev block code owner : Nat) (o : FaultOpt) (h : owner < 8 ∨ sev ≠ 2) : (d.fault sev block code owner o).dead = d.dead :=
  (congrArg Dev.dead (d.restF_fault sev block code owner o h) :)
@[simp] theorem Dev.fault_wld (d : Dev) (sev block code owner : Nat) (o : FaultOpt) (h : owner < 8 ∨ sev ≠ 2) : (d.fault sev block code owner o).wld = d.wld :=
  (congrArg Dev.wld (d.restF_fault sev block code owner o h) :)
@[simp] theorem Dev.fault_stg (d : Dev) (sev block code owner : Nat) (o : FaultOpt) (h : owner < 8 ∨ sev ≠ 2) : (d.fault sev block code owner o).stg = d.stg :=
  (congrArg Dev.stg (d.restF_fault sev block code owner o h) :)
@[simp] theorem Dev.fault_tim (d : Dev) (sev block code owner : Nat) (o : FaultOpt) (h : owner < 8 ∨ sev ≠ 2) : (d.fault sev block code owner o).tim = d.tim :=
  (congrArg Dev.tim (d.restF_fault sev block code owner o h) :)
@[simp] theorem Dev.fault_tta (d : Dev) (sev block code owner : Nat) (o : FaultOpt) (h : owner < 8 ∨ sev ≠ 2) : (d.fault sev block code owner o).tta = d.tta :=
  (congrArg Dev.tta (d.restF_fault sev block code owner o h) :)
@[simp] theorem Dev.fault_chans (d : Dev) (sev block code owner : Nat) (o : FaultOpt) (h : owner < 8 ∨ sev ≠ 2) : (d.fault sev block code owner o).chans = d.chans :=
  (congrArg Dev.chans (d.restF_fault sev block code owner o h) :)
@[simp] theorem Dev.fault_hv (d : Dev) (sev block code owner : Nat) (o : FaultOpt) (h : owner < 8 ∨ sev ≠ 2) : (d.fault sev block code owner o).hv = d.hv :=
  (congrArg Dev.hv (d.restF_fault sev block code owner o h) :)
@[simp] theorem Dev.fault_lios (d : Dev) (sev block code owner : Nat) (o : FaultOpt) (h : owner < 8 ∨ sev ≠ 2) : (d.fault sev block code owner o).lios = d.lios :=
  (congrArg Dev.lios (d.restF_fault sev block code owner o h) :)
@[simp] theorem Dev.fault_fab (d : Dev) (sev block code owner : Nat) (o : FaultOpt) (h : owner < 8 ∨ sev ≠ 2) : (d.fault sev block code owner o).fab = d.fab :=
  (congrArg Dev.fab (d.restF_fault sev block code owner o h) :)
@[simp] theorem Dev.fault_msec (d : Dev) (sev block code owner : Nat) (o : FaultOpt) (h : owner < 8 ∨ sev ≠ 2) : (d.fault sev block code owner o).msec = d.msec :=
  (congrArg Dev.msec (d.restF_fault sev block code owner o h) :)
@[simp] theorem Dev.fault_sid (d : Dev) (sev block code owner : Nat) (o : FaultOpt) (h : owner < 8 ∨ sev ≠ 2) : (d.fault sev block code owner o).sid = d.sid :=
  (congrArg Dev.sid (d.restF_fault sev block code owner o h) :)
@[simp] theorem Dev.fault_prt (d : Dev) (sev block code owner : Nat) (o : FaultOpt) (h : owner < 8 ∨ sev ≠ 2) : (d.fault sev block code owner o).prt = d.prt :=
  (congrArg Dev.prt (d.restF_fault sev block code owner o h) :)
@[simp] theorem Dev.fault_tan (d : Dev) (sev block code owner : Nat) (o : FaultOpt) (h : owner < 8 ∨ sev ≠ 2) : (d.fault sev block code owner o).tan = d.tan :=
  (congrArg Dev.tan (d.restF_fault sev block code owner o h) :)
@[simp] theorem Dev.fault_sbx (d : Dev) (sev block code owner : Nat) (o : FaultOpt) (h : owner < 8 ∨ sev ≠ 2) : (d.fault sev block code owner o).sbx = d.sbx :=
  (congrArg Dev.sbx (d.restF_fault sev block code owner o h) :)
@[simp] theorem Dev.fault_ce (d : Dev) (sev block code owner : Nat) (o : FaultOpt) (h : owner < 8 ∨ sev ≠ 2) : (d.fault sev block code owner o).ce = d.ce :=
  (congrArg Dev.ce (d.restF_fault sev block code owner o h) :)
@[simp] theorem Dev.fault_dbg (d : Dev) (sev block code owner : Nat) (o : FaultOpt) (h : owner < 8 ∨ sev ≠ 2) : (d.fault sev block code owner o).dbg = d.dbg :=
  (congrArg Dev.dbg (d.restF_fault sev block code owner o h) :)

@[simp] theorem Dev.faultPost_up (d : Dev) (block code sev owner inst : Nat) (data : List Nat) (o : FaultOpt) (h : owner < 8 ∨ sev ≠ 2) : (d.faultPost sev block code owner inst data o).up = d.up :=
  (congrArg Dev.up (d.restF_faultPost sev block code owner inst data o h) :)
@[simp] theorem Dev.faultPost_drawn (d : Dev) (block code sev owner inst : Nat) (data : List Nat) (o : FaultOpt) (h : owner < 8 ∨ sev ≠ 2) : (d.faultPost sev block code owner inst data o).drawn = d.drawn :=
  (congrArg Dev.drawn (d.restF_faultPost sev block code owner inst data o h) :)
@[simp] theorem Dev.faultPost_bus (d : Dev) (block code sev owner inst : Nat) (data : List Nat) (o : FaultOpt) (h : owner < 8 ∨ sev ≠ 2) : (d.faultPost sev block code owner inst data o).bus = d.bus :=
  (congrArg Dev.bus (d.restF_faultPost sev block code owner inst data o h) :)
@[simp] theorem Dev.faultPost_dead (d : Dev) (block code sev owner inst : Nat) (data : List Nat) (o : FaultOpt) (h : owner < 8 ∨ sev ≠ 2) : (d.faultPost sev block code owner inst data o).dead = d.dead :=
  (congrArg Dev.dead (d.restF_faultPost sev block code owner inst data o h) :)
@[simp] theorem Dev.faultPost_wld (d : Dev) (block code sev owner inst : Nat) (data : List Nat) (o : FaultOpt) (h : owner < 8 ∨ sev ≠ 2) : (d.faultPost sev block code owner inst data o).wld = d.wld :=
  (congrArg Dev.wld (d.restF_faultPost sev block code owner inst data o h) :)
@[simp] theorem Dev.faultPost_stg (d : Dev) (block code sev owner inst : Nat) (data : List Nat) (o : FaultOpt) (h : owner < 8 ∨ sev ≠ 2) : (d.faultPost sev block code owner inst data o).stg = d.stg :=
  (congrArg Dev.stg (d.restF_faultPost sev block code owner inst data o h) :)
@[simp] theorem Dev.faultPost_tim (d : Dev) (block code sev owner inst : Nat) (data : List Nat) (o : FaultOpt) (h : owner < 8 ∨ sev ≠ 2) : (d.faultPost sev block code owner inst data o).tim = d.tim :=
  (congrArg Dev.tim (d.restF_faultPost sev block code owner inst data o h) :)
@[simp] theorem Dev.faultPost_tta (d : Dev) (block code sev owner inst : Nat) (data : List Nat) (o : FaultOpt) (h : owner < 8 ∨ sev ≠ 2) : (d.faultPost sev block code owner inst data o).tta = d.tta :=
  (congrArg Dev.tta (d.restF_faultPost sev block code owner inst data o h) :)
@[simp] theorem Dev.faultPost_chans (d : Dev) (block code sev owner inst : Nat) (data : List Nat) (o : FaultOpt) (h : owner < 8 ∨ sev ≠ 2) : (d.faultPost sev block code owner inst data o).chans = d.chans :=
  (congrArg Dev.chans (d.restF_faultPost sev block code owner inst data o h) :)
@[simp] theorem Dev.faultPost_hv (d : Dev) (block code sev owner inst : Nat) (data : List Nat) (o : FaultOpt) (h : owner < 8 ∨ sev ≠ 2) : (d.faultPost sev block code owner inst data o).hv = d.hv :=
  (congrArg Dev.hv (d.restF_faultPost sev block code owner inst data o h) :)
@[simp] theorem Dev.faultPost_lios (d : Dev) (block code sev owner inst : Nat) (data : List Nat) (o : FaultOpt) (h : owner < 8 ∨ sev ≠ 2) : (d.faultPost sev block code owner inst data o).lios = d.lios :=
  (congrArg Dev.lios (d.restF_faultPost sev block code owner inst data o h) :)
@[simp] theorem Dev.faultPost_fab (d : Dev) (block code sev owner inst : Nat) (data : List Nat) (o : FaultOpt) (h : owner < 8 ∨ sev ≠ 2) : (d.faultPost sev block code owner inst data o).fab = d.fab :=
  (congrArg Dev.fab (d.restF_faultPost sev block code owner inst data o h) :)
@[simp] theorem Dev.faultPost_msec (d : Dev) (block code sev owner inst : Nat) (data : List Nat) (o : FaultOpt) (h : owner < 8 ∨ sev ≠ 2) : (d.faultPost sev block code owner inst data o).msec = d.msec :=
  (congrArg Dev.msec (d.restF_faultPost sev block code owner inst data o h) :)
@[simp] theorem Dev.faultPost_sid (d : Dev) (block code sev owner inst : Nat) (data : List Nat) (o : FaultOpt) (h : owner < 8 ∨ sev ≠ 2) : (d.faultPost sev block code owner inst data o).sid = d.sid :=
  (congrArg Dev.sid (d.restF_faultPost sev block code owner inst data o h) :)
@[simp] theorem Dev.faultPost_prt (d : Dev) (block code sev owner inst : Nat) (data : List Nat) (o : FaultOpt) (h : owner < 8 ∨ sev ≠ 2) : (d.faultPost sev block code owner inst data o).prt = d.prt :=
  (congrArg Dev.prt (d.restF_faultPost sev block code owner inst data o h) :)
@[simp] theorem Dev.faultPost_tan (d : Dev) (block code sev owner inst : Nat) (data : List Nat) (o : FaultOpt) (h : owner < 8 ∨ sev ≠ 2) : (d.faultPost sev block code owner inst data o).tan = d.tan :=
  (congrArg Dev.tan (d.restF_faultPost sev block code owner inst data o h) :)
@[simp] theorem Dev.faultPost_sbx (d : Dev) (block code sev owner inst : Nat) (data : List Nat) (o : FaultOpt) (h : owner < 8 ∨ sev ≠ 2) : (d.faultPost sev block code owner inst data o).sbx = d.sbx :=
  (congrArg Dev.sbx (d.restF_faultPost sev block code owner inst data o h) :)
@[simp] theorem Dev.faultPost_ce (d : Dev) (block code sev owner inst : Nat) (data : List Nat) (o : FaultOpt) (h : owner < 8 ∨ sev ≠ 2) : (d.faultPost sev block code owner inst data o).ce = d.ce :=
  (congrArg Dev.ce (d.restF_faultPost sev block code owner inst data o h) :)
@[simp] theorem Dev.faultPost_dbg (d : Dev) (block code sev owner inst : Nat) (data : List Nat) (o : FaultOpt) (h : owner < 8 ∨ sev ≠ 2) : (d.faultPost sev block code owner inst data o).dbg = d.dbg :=
  (congrArg Dev.dbg (d.restF_faultPost sev block code owner inst data o h) :)

@[simp] theorem Dev.raise_log (d : Dev) (src : Nat) : (d.raise src).log = d.log := by unfold Dev.raise; split <;> rfl
@[simp] theorem Dev.raiseIf_log (d : Dev) (en : Fld) (src : Nat) : (d.raiseIf en src).log = d.log := by unfold Dev.raiseIf; split <;> simp
@[simp] theorem Dev.raise_boot (d : Dev) (src : Nat) : (d.raise src).boot = d.boot := by unfold Dev.raise; split <;> rfl
@[simp] theorem Dev.raiseIf_boot (d : Dev) (en : Fld) (src : Nat) : (d.raiseIf en src).boot = d.boot := by unfold Dev.raiseIf; split <;> simp

/-! ### Registers outside those windows -/

theorem Dev.rn_raise (d : Dev) {src b : Nat} (hs : src < 512) (h : calm b) : (d.raise src).rn b = d.rn b := by
  unfold Dev.raise; split
  · rfl
  · apply Dev.rn_set_ne
    simp only [IRQ_PEND]; unfold calm at h; omega

theorem Dev.rn_raiseIf (d : Dev) (en : Fld) {src b : Nat} (hs : src < 512) (h : calm b) :
    (d.raiseIf en src).rn b = d.rn b := by
  unfold Dev.raiseIf; split
  · exact d.rn_raise hs h
  · rfl

@[simp] theorem Dev.rn_stageAdd (d : Dev) (r : Rec) (b : Nat) : (d.stageAdd r).rn b = d.rn b := by
  unfold Dev.stageAdd; split <;> rfl

theorem Dev.rn_tallyAdd (d : Dev) {ctl ev k : Nat} {ovf : Fld} {src owner inst b : Nat} (hs : src < 512)
    (hc : 0x40070000 ≤ ctl ∧ ctl + 8 < 0x40080000) (ho : ovf.addr / 65536 = 0x4007) (h : calm b) :
    (d.tallyAdd ctl ev k ovf src owner inst).rn b = d.rn b := by
  have h1 : (d.wrPair (ctl + 4) (ctl + 8) ((d.pair (ctl + 4) (ctl + 8) + k) % 2 ^ 48)).rn b = d.rn b :=
    d.rn_wrPair_ne _ (by unfold calm at h; omega) (by unfold calm at h; omega)
  have h2 : ovf.addr ≠ b := by unfold calm at h; omega
  unfold Dev.tallyAdd; dsimp only; split
  · rfl
  · split
    · exact h1
    · rw [Dev.rn_stageAdd]
      split
      · rw [Dev.rn_raise _ hs h, Dev.rn_set_ne _ _ h2, h1]
      · rw [Dev.rn_set_ne _ _ h2, h1]

theorem Dev.rn_tallyCount (d : Dev) {ctl ev k : Nat} {ovf : Fld} {src owner inst b : Nat} {adds : Bool} (hs : src < 512)
    (hc : 0x40070000 ≤ ctl ∧ ctl + 8 < 0x40080000) (ho : ovf.addr / 65536 = 0x4007) (h : calm b) :
    (d.tallyCount ctl ev k ovf src owner inst adds).rn b = d.rn b := by
  unfold Dev.tallyCount; dsimp only; split
  · rfl
  · split
    · rfl
    · rw [Dev.rn_tallyAdd _ hs hc ho h]; rfl

theorem Dev.rn_tallyD (d : Dev) {ev k b : Nat} (h : calm b) : (d.tallyD ev k).rn b = d.rn b := by
  unfold Dev.tallyD
  refine Dev.each_keeps_mem (·.rn b) _ d _ (fun n hn d => ?_)
  have hn := List.mem_range.mp hn
  refine Dev.rn_tallyCount _ (by decide) ?_ (by simp only [TALLY_D_STS]) h
  simp only [TALLY_D_CTL]; omega

theorem Dev.rn_enqueue (d : Dev) (r : Rec) {b : Nat} (h : calm b) : (d.enqueue r).rn b = d.rn b := by
  unfold Dev.enqueue; split
  · rfl
  · split
    · rfl
    · rw [Dev.rn_raiseIf _ _ (by decide) h, Dev.rn_set_ne, Dev.rn_bump_ne]
      · rfl
      · simp only [LOGB_DROP_CNT]; unfold calm at h; omega
      · simp only [LOGB_STS_DROP, LOGB_STS]; unfold calm at h; omega

@[simp] theorem Dev.rn_aoSelect (d : Dev) (r : Rec) (b : Nat) : (d.aoSelect r).rn b = d.rn b := by
  unfold Dev.aoSelect; split <;> rfl

theorem Dev.rn_postRaw (d : Dev) (r : Rec) {b : Nat} (h : calm b) : (d.postRaw r).rn b = d.rn b := by
  unfold Dev.postRaw; dsimp only; generalize (if d.aoSelects r then _ else r) = x; split
  · rw [Dev.rn_tallyD _ h, Dev.rn_enqueue _ _ h, Dev.rn_aoSelect]
  · rw [Dev.rn_aoSelect]

theorem Dev.rn_pinTo (d : Dev) {f : Fld} {which : Nat} {high : Bool} {b : Nat} (hf : f.addr = 0x40010008) (h : calm b) :
    (d.pinTo f which high).rn b = d.rn b := by
  unfold Dev.pinTo; split
  · rfl
  · dsimp only
    rw [Dev.rn_postRaw _ _ h, Dev.rn_raiseIf _ _ (by decide) h, Dev.rn_put_ne]
    unfold calm at h; omega

theorem Dev.rn_pin (d : Dev) {f : Fld} {which : Nat} {high : Bool} {b : Nat} (hf : f.addr = 0x40010008) (h : calm b) :
    (d.pin f which high).rn b = d.rn b := by
  unfold Dev.pin; split
  · exact d.rn_pinTo hf h
  · rw [Dev.rn_pinTo _ (by decide) h, Dev.rn_set_ne, Dev.rn_pinTo _ hf h]
    unfold calm at h; simp only [FRM_STS_PEND, FRM_STS]; omega

theorem Dev.rn_updFaultN (d : Dev) {b : Nat} (h : calm b) : d.updFaultN.rn b = d.rn b := d.rn_pin (by decide) h

theorem Dev.rn_pend (d : Dev) (sev : Nat) {b : Nat} (h : calm b) : (d.pend sev).rn b = d.rn b := by
  unfold Dev.pend; split
  · rw [Dev.rn_updFaultN _ h, Dev.rn_set_ne]
    simp only [FRM_STS_PEND, FRM_STS]; unfold calm at h; omega
  · rfl

theorem Dev.rn_postRec (d : Dev) (r : Rec) {b : Nat} (h : calm b) : (d.postRec r).rn b = d.rn b := by
  unfold Dev.postRec; rw [Dev.rn_pend _ _ h, Dev.rn_postRaw _ _ h]

theorem Dev.rn_post (d : Dev) {block code sev owner inst : Nat} {data : List Nat} {b : Nat} (h : calm b) :
    (d.post block code sev owner inst data).rn b = d.rn b := d.rn_postRec _ h

@[simp] theorem Dev.rn_postOnce (d : Dev) (block code sev owner inst : Nat) (data : List Nat) (c : Option Nat) (b : Nat) :
    (d.postOnce block code sev owner inst data c).rn b = d.rn b := by unfold Dev.postOnce; dsimp only; split <;> rfl

@[simp] theorem Dev.rn_postStage (d : Dev) (block code sev owner inst : Nat) (upd : List Nat → List Nat) (b : Nat) :
    (d.postStage block code sev owner inst upd).rn b = d.rn b := by unfold Dev.postStage; dsimp only; split <;> rfl

@[simp] theorem Dev.rn_startCoachReset (d : Dev) (c cause b : Nat) : (d.startCoachReset c cause).rn b = d.rn b := by
  unfold Dev.startCoachReset; split <;> rfl

@[simp] theorem Dev.rn_faultReset (d : Dev) (c cause b : Nat) : (d.faultReset c cause).rn b = d.rn b := by
  unfold Dev.faultReset; split
  · rfl
  · exact Dev.rn_startCoachReset ..

@[simp] theorem Dev.rn_startDeviceReset (d : Dev) (cause block code b : Nat) :
    (d.startDeviceReset cause block code).rn b = d.rn b := by unfold Dev.startDeviceReset; split <;> rfl

theorem Dev.rn_fault1 (d : Dev) {block owner b : Nat} (h : quiet b) : (d.fault1 block owner).rn b = d.rn b := by
  have hq := h
  unfold quiet calm at h
  unfold Dev.fault1
  dsimp only
  rw [Dev.rn_raiseIf _ _ (by decide) hq.1]
  split
  · rw [Dev.rn_put_ne, Dev.bumpF, Dev.rn_put_ne, Dev.rn_bump_ne]
    · simp only [FRM_CNT]; omega
    · simp only [FRM_CFAULT_COUNT, FRM_CFAULT]; omega
    · simp only [FRM_CFAULT_BLOCK, FRM_CFAULT]; omega
  · rw [Dev.rn_bump_ne]; simp only [FRM_CNT]; omega

theorem Dev.rn_fault2 (d : Dev) {owner : Nat} {o : FaultOpt} {b : Nat} (ho : owner < 8) (h : quiet b) :
    (d.fault2 owner o).rn b = d.rn b := by
  have h1 : (FRM_CNT 2) ≠ b := by unfold quiet calm at h; simp only [FRM_CNT]; omega
  unfold Dev.fault2
  simp only [ho, if_true]
  split <;> split <;>
    simp [Dev.rn_pin _ (show FRM_STS_SAFE_N.addr = 0x40010008 by decide) h.1,
      Dev.rn_raiseIf _ FRM_INT_EN_FAULT (show 2 < 512 by decide) h.1, Dev.rn_bump_ne _ h1]

theorem Dev.rn_fault3 (d : Dev) {block code b : Nat} (h : quiet b) : (d.fault3 block code).rn b = d.rn b := by
  have h1 : (FRM_CNT 3) ≠ b := by unfold quiet calm at h; simp only [FRM_CNT]; omega
  unfold Dev.fault3
  simp [Dev.rn_pin _ (show FRM_STS_SAFE_N.addr = 0x40010008 by decide) h.1, Dev.rn_bump_ne _ h1]

theorem Dev.rn_fault (d : Dev) {sev block code owner : Nat} {o : FaultOpt} {b : Nat} (ho : owner < 8 ∨ sev ≠ 2)
    (h : quiet b) : (d.fault sev block code owner o).rn b = d.rn b := by
  have h0 : ∀ k, k < 4 → (FRM_CNT k) ≠ b := by intro k hk; unfold quiet calm at h; simp only [FRM_CNT]; omega
  have hp : ((d.pend sev).when (1 ≤ sev) (·.tallyD 0x89 1)).rn b = d.rn b := by
    rw [Dev.when_keeps (·.rn b) _ _ (fun d => Dev.rn_tallyD d h.1), Dev.rn_pend _ _ h.1]
  unfold Dev.fault
  split
  · dsimp only
    split
    · rw [Dev.rn_bump_ne _ (h0 0 (by decide)), hp]
    · rw [Dev.rn_fault1 _ h, hp]
    · rw [Dev.rn_fault2 _ (by omega) h, hp]
    · rw [Dev.rn_fault3 _ h, hp]
  · have hq : ∀ (e : Dev) (c : Bool) (f : Fld) (w : Nat) (x : Bool), f.addr = 0x40010008 →
        (e.when c (fun d => d.pin f w x)).rn b = e.rn b :=
      fun e c f w x hf => Dev.when_keeps (·.rn b) (fun d => d.pin f w x) c (fun d => Dev.rn_pin d hf h.1) e
    dsimp only
    split
    · rw [Dev.rn_startDeviceReset, Dev.rn_bump_ne _ (h0 3 (by decide))]
      exact (hq _ _ _ _ _ (by decide)).trans (hq _ _ _ _ _ (by decide))
    · exact (hq _ _ _ _ _ (by decide)).trans (hq _ _ _ _ _ (by decide))

theorem Dev.rn_faultPost (d : Dev) {sev block code owner inst : Nat} {data : List Nat} {o : FaultOpt} {b : Nat}
    (ho : owner < 8 ∨ sev ≠ 2) (h : quiet b) : (d.faultPost sev block code owner inst data o).rn b = d.rn b := by
  unfold Dev.faultPost; rw [Dev.rn_fault _ ho h, Dev.rn_post _ h.1]

end Sys2Proof.Machine
end

