-- ==== Sys2Proof/Laws/Access.lean ====
section
/-! SUPPORT. Accesses that the checks let through, commands that complete, and what a fault of severity 1 counts. -/

namespace Sys2Proof.Machine

open R

theorem Dev.regWrite_pass {d : Dev} {m : Mem} {a : Sys2Proof.Acc} {addr : Nat} {f : Dev → Dev} (h : checkAccess m d a .write addr = .pass) :
    d.regWrite m a addr f = f d := by unfold Dev.regWrite; rw [h]
theorem Dev.regRead_pass {d : Dev} {m : Mem} {a : Sys2Proof.Acc} {addr : Nat} {f : Dev → Dev} (h : checkAccess m d a .read addr = .pass) :
    d.regRead m a addr f = f d := by unfold Dev.regRead; rw [h]
theorem Dev.regWriteM_pass {d : Dev} {m : Mem} {a : Sys2Proof.Acc} {addr : Nat} {f : Mem → Dev → Dev × Mem} (h : checkAccess m d a .write addr = .pass) :
    d.regWriteM m a addr f = f m d := by unfold Dev.regWriteM; rw [h]
theorem completes_onDev {s : State} {dt : Nat} {ok : Bool} {f : Dev → Dev} {i : Instr} {P : State → Prop} (he : exec i s = s.onDev dt ok f) (hok : ok = true)
    (h : P { s with dev := f (s.dev.pass dt) }) : Completes i s P := ⟨_, by rw [he, State.onDev, if_pos hok], h⟩
theorem completes_onDevM {s : State} {dt : Nat} {ok : Bool} {f : List Host.Cell → Dev → Dev} {i : Instr} {P : State → Prop} (he : exec i s = s.onDevM dt ok f) (hok : ok = true)
    (h : P { s with dev := f s.mem (s.dev.pass dt) }) : Completes i s P := ⟨_, by rw [he, State.onDevM, if_pos hok], h⟩
theorem completes_onAll {s : State} {dt : Nat} {ok : Bool} {f : List Host.Cell → Dev → Dev × List Host.Cell} {i : Instr} {P : State → Prop} (he : exec i s = s.onAll dt ok f) (hok : ok = true)
    (h : P { s with dev := (f s.mem (s.dev.pass dt)).1, mem := (f s.mem (s.dev.pass dt)).2 }) : Completes i s P := ⟨_, by rw [he, State.onAll, if_pos hok], h⟩

theorem windowId_ite {c : Prop} [Decidable c] {x : Nat × List RegDesc} {r : Option (Nat × List RegDesc)} (h : x.1 < 256) (hr : (r.map (·.1)).getD 5 < 256) :
   ((if c then some x else r).map (·.1)).getD 5 < 256 := by
  split
  · exact h
  · exact hr
/-- A block ID is a byte (R500). -/
theorem blockId_lt (a : Nat) : blockId a < 256 := by
  unfold blockId window
  dsimp only
  repeat first | exact (by decide : 5 < 256) | refine windowId_ite (by decide) ?_

/-- Before a fault is routed, its effect on FAULT_N and on the tally counters changes no calm register. -/
theorem Dev.rn_faultHead (d : Dev) {sev b : Nat} (h : calm b) :
    ((d.pend sev).when (1 ≤ sev) (·.tallyD 0x89 1)).rn b = d.rn b := by
  rw [Dev.when_keeps (·.rn b) _ _ (fun d => Dev.rn_tallyD d h), Dev.rn_pend _ _ h]
/-- A fault of severity 1 counts in FRM_CNT1 (R444). -/
theorem Dev.frmCnt1_fault (d : Dev) (block owner : Nat) (o : FaultOpt) (code : Nat) (h : d.frm.beyvoUp = true) :
   (d.fault 1 block code owner o).rn (FRM_CNT 1) = (d.rn (FRM_CNT 1) + 1) % 2 ^ 32 := by
  have hc : calm (FRM_CNT 1) := by decide
  unfold Dev.fault
  simp only [h, if_true]
  unfold Dev.fault1
  dsimp only
  rw [Dev.rn_raiseIf _ _ (by decide) hc]
  have : ∀ e : Dev, owner < 8 → ((e.bumpF (FRM_CFAULT_COUNT owner)).put (FRM_CFAULT_BLOCK owner) block).rn (FRM_CNT 1) = e.rn (FRM_CNT 1) := by
    intro e ho
    rw [Dev.rn_put_ne, Dev.bumpF, Dev.rn_put_ne] <;> simp only [FRM_CFAULT_COUNT, FRM_CFAULT_BLOCK, FRM_CFAULT, FRM_CNT] <;> omega
  split
  · rename_i ho; rw [this _ ho, Dev.rn_bump_self, Dev.rn_faultHead _ hc]
  · rw [Dev.rn_bump_self, Dev.rn_faultHead _ hc]
/-- A fault of severity 1 of a coach updates its FRM_CFAULT (R444). -/
theorem Dev.frmCfault_fault (d : Dev) (block owner : Nat) (o : FaultOpt) (code : Nat) (h : d.frm.beyvoUp = true) (ho : owner < 8) :
   (d.fault 1 block code owner o).fld (FRM_CFAULT_COUNT owner) = (d.fld (FRM_CFAULT_COUNT owner) + 1) % 2 ^ 16 ∧
   (d.fault 1 block code owner o).fld (FRM_CFAULT_BLOCK owner) = block % 256 := by
  have hc : calm (FRM_CFAULT owner) := by simp only [calm, FRM_CFAULT]; omega
  unfold Dev.fault
  simp only [h, if_true]
  unfold Dev.fault1
  simp only [ho, if_true]
  have hr : ∀ e : Dev, ∀ f : Fld, f.addr = FRM_CFAULT owner → (e.raiseIf FRM_INT_EN_FAULT 2).fld f = e.fld f :=
    fun e f hf => Dev.fld_of_rn (by rw [hf, Dev.rn_raiseIf _ _ (by decide) hc])
  constructor
  · rw [hr _ _ rfl, Dev.fld_put_apart _ _ _ _ (Nat.le_of_ble_eq_true rfl) (Nat.le_of_ble_eq_true rfl) (Nat.le_of_ble_eq_true rfl) (by right; exact (by decide : 15 < 16)), Dev.bumpF, Dev.fld_put_self _ _ _ (Nat.le_of_ble_eq_true rfl) (Nat.le_of_ble_eq_true rfl)]
    congr 2
    apply Dev.fld_of_rn
    rw [Dev.rn_bump_ne _ (by simp only [FRM_CFAULT_COUNT, FRM_CFAULT, FRM_CNT]; omega)]
    exact Dev.rn_faultHead _ hc
  · rw [hr _ _ rfl, Dev.fld_put_self _ _ _ (Nat.le_of_ble_eq_true rfl) (Nat.le_of_ble_eq_true rfl)]
    rfl

/-! ### A cipher lane after it takes a new state -/

theorem Dev.lane_setLane (d : Dev) (l : Nat) (x : Lane) : (d.setLane l x).lane l = x := tget_tset_self _ _ _ _

theorem Dev.lane_setLane_ne (d : Dev) {l k : Nat} (x : Lane) (h : l ≠ k) : (d.setLane l x).lane k = d.lane k := tget_tset_ne _ _ _ _ h

end Sys2Proof.Machine
end

