-- ==== Sys2Proof/Laws/Memory.lean ====
section
/-! SUPPORT. Laws of memory: a byte reads what was last written to it, other bytes are kept, and every operation on
memory keeps its canonical form. -/

namespace Sys2Proof.Machine

theorem Mem.byte_setByte (m : Mem) (a x : Nat) (b : Byte) :
    Mem.byte (Mem.setByte m a b) x = if a = x then b else Mem.byte m x := by
  unfold Mem.byte Mem.setByte
  exact tget_tset _ _ _ _ _ _ (fun h => by rw [h])

/-- Bytes outside a string that is written keep their values. -/
theorem Mem.byte_setBytes_outside (m : Mem) (a x : Nat) (l : List Nat) (h : x < a ∨ a + l.length ≤ x) :
    Mem.byte (Mem.setBytes m a l) x = Mem.byte m x := by
  induction l generalizing m a with
  | nil => rfl
  | cons b r ih =>
    simp only [List.length_cons] at h
    rw [Mem.setBytes, ih _ _ (by omega), Mem.byte_setByte, if_neg (by omega)]

/-- Byte `i` of a string that is written. -/
theorem Mem.byte_setBytes_inside (m : Mem) (a i : Nat) (l : List Nat) (h : i < l.length) :
    Mem.byte (Mem.setBytes m a l) (a + i) = BitVec.ofNat 8 l[i] := by
  induction l generalizing m a i with
  | nil => simp at h
  | cons b r ih =>
    cases i with
    | zero =>
      rw [Mem.setBytes, Nat.add_zero, Mem.byte_setBytes_outside _ _ _ _ (by omega), Mem.byte_setByte, if_pos (by omega)]; rfl
    | succ j =>
      rw [Mem.setBytes, show a + (j + 1) = a + 1 + j by omega]
      exact ih _ _ _ (by simpa using h)

theorem leBytes_length (n v : Nat) : (leBytes n v).length = n := by
  induction n generalizing v with
  | zero => rfl
  | succ n ih => simp [leBytes, ih]

theorem flatMap_leBytes_length (n : Nat) (ws : List Nat) : (ws.flatMap (leBytes n)).length = n * ws.length := by
  induction ws with
  | nil => simp
  | cons w r ih => simp [List.flatMap_cons, leBytes_length, ih]; ring

theorem Mem.byte_setWords_outside (m : Mem) (a x : Nat) (ws : List Nat) (h : x < a ∨ a + 4 * ws.length ≤ x) :
    Mem.byte (Mem.setWords m a ws) x = Mem.byte m x :=
  Mem.byte_setBytes_outside m a x _ (by rw [flatMap_leBytes_length]; exact h)

theorem Mem.byte_setWord_outside (m : Mem) (a x v : Nat) (h : x < a ∨ a + 4 ≤ x) :
    Mem.byte (Mem.setWord m a v) x = Mem.byte m x :=
  Mem.byte_setBytes_outside m a x _ (by rw [leBytes_length]; exact h)

theorem flatMap_leBytes_getD (ws : List Nat) : ∀ (k i : Nat), k < ws.length → i < 4 →
    (ws.flatMap (leBytes 4)).getD (4 * k + i) 0 = (leBytes 4 (ws.getD k 0)).getD i 0 := by
  induction ws with
  | nil => intro k i hk; simp at hk
  | cons w r ih =>
    intro k i hk hi
    rw [List.flatMap_cons]
    cases k with
    | zero => 
      rw [List.getD_append _ _ _ _ (by rw [leBytes_length]; omega)]; simp
    | succ k =>
      rw [List.getD_append_right _ _ _ _ (by rw [leBytes_length]; omega), leBytes_length]
      have := ih k i (by simpa using hk) hi
      rw [show 4 * (k + 1) + i - 4 = 4 * k + i by omega, this]; simp

theorem leNat_leBytes4 (v : Nat) : leNat ((leBytes 4 v).map (fun b => (BitVec.ofNat 8 b).toNat)) = v % 2 ^ 32 := by
  simp [leBytes, leNat]; omega

/-- A word of a string of words that is written reads as written. -/
theorem Mem.word_setWords (m : Mem) (a k : Nat) (ws : List Nat) (hk : k < ws.length) :
    Mem.word (Mem.setWords m a ws) (a + 4 * k) = ws.getD k 0 % 2 ^ 32 := by
  have hb : ∀ i, i < 4 → Mem.byte (Mem.setWords m a ws) (a + 4 * k + i) = BitVec.ofNat 8 ((leBytes 4 (ws.getD k 0)).getD i 0) := by
    intro i hi
    unfold Mem.setWords
    have hl : 4 * k + i < (ws.flatMap (leBytes 4)).length := by rw [flatMap_leBytes_length]; omega
    rw [Nat.add_assoc, Mem.byte_setBytes_inside _ _ _ _ hl, ← flatMap_leBytes_getD _ _ _ hk hi, List.getD_eq_getElem _ _ hl]
  have h0 := hb 0 (by decide); have h1 := hb 1 (by decide); have h2 := hb 2 (by decide); have h3 := hb 3 (by decide)
  simp only [Nat.add_zero] at h0
  have : Mem.bytes (Mem.setWords m a ws) (a + 4 * k) 4 = (leBytes 4 (ws.getD k 0)).map (fun b => (BitVec.ofNat 8 b).toNat) := by
    simp only [Mem.bytes, Nat.add_assoc] at *; simp [h0, h1, h2, h3, leBytes]
  unfold Mem.word; rw [this, leNat_leBytes4]

/-- A zeroised range reads as memory that nothing has written, and the rest as before. -/
theorem Mem.byte_zero (m : Mem) (a n x : Nat) : Mem.byte (Mem.zero m a n) x = if a ≤ x ∧ x < a + n then memByte x else Mem.byte m x := by
  unfold Mem.byte Mem.zero
  rw [tget_filter (fun k => !(decide (a ≤ k) && decide (k < a + n)))]
  by_cases h : a ≤ x ∧ x < a + n
  · simp [h]
  · rw [if_neg h, if_pos (by simp; omega)]

/-! ### The canonical form -/

theorem Mem.wf_setByte (m : Mem) (a : Nat) (b : Byte) (h : Mem.wf m = true) : Mem.wf (Mem.setByte m a b) = true :=
  twf_tset memByte b a m h

theorem Mem.wf_setBytes (m : Mem) (a : Nat) (l : List Nat) (h : Mem.wf m = true) :
    Mem.wf (Mem.setBytes m a l) = true := by
  induction l generalizing m a with
  | nil => exact h
  | cons b r ih => exact ih _ _ (Mem.wf_setByte _ _ _ h)

theorem Mem.wf_setWord (m : Mem) (a v : Nat) (h : Mem.wf m = true) : Mem.wf (Mem.setWord m a v) = true :=
  Mem.wf_setBytes _ _ _ h

theorem Mem.wf_setWords (m : Mem) (a : Nat) (ws : List Nat) (h : Mem.wf m = true) :
    Mem.wf (Mem.setWords m a ws) = true := Mem.wf_setBytes _ _ _ h

theorem Mem.wf_filter (m : Mem) (p : Host.Cell → Bool) (h : Mem.wf m = true) : Mem.wf (m.filter p) = true :=
  twf_filter memByte p m h

theorem Mem.wf_zero (m : Mem) (a n : Nat) (h : Mem.wf m = true) : Mem.wf (Mem.zero m a n) = true :=
  Mem.wf_filter _ _ h

theorem Mem.wf_atBoot (m : Mem) (h : Mem.wf m = true) : Mem.wf (Mem.atBoot m) = true :=
  Mem.wf_zero _ _ _ (Mem.wf_zero _ _ _ h)

theorem Mem.wf_flashOnly (m : Mem) (h : Mem.wf m = true) : Mem.wf (Mem.flashOnly m) = true := Mem.wf_filter _ _ h

theorem Mem.wf_scrub (m : Mem) (q : Nat → Bool) (h : Mem.wf m = true) : Mem.wf (Mem.scrub m q) = true :=
  Mem.wf_filter _ _ h

/-- A fold keeps the canonical form where each of its steps does. -/
theorem Mem.wf_foldl {α : Type} (f : Mem → α → Mem) (hf : ∀ m x, Mem.wf m = true → Mem.wf (f m x) = true) (l : List α)
    (m : Mem) (h : Mem.wf m = true) : Mem.wf (l.foldl f m) = true := by
  induction l generalizing m with
  | nil => exact h
  | cons x r ih => exact ih _ (hf _ _ h)

/-- Empty memory is in canonical form. -/
theorem Mem.wf_nil : Mem.wf [] = true := rfl

end Sys2Proof.Machine
end

