-- ==== Sys2Proof/Tests/Slice0.lean ====
section
/-! SUPPORT. Tests: ill-formed terms that Instr.wf refuses, meanings on small states with values from the spec, and for every
statement a state and operands that meet its hypotheses. -/

open Sys2Proof Sys2Proof.Machine Sys2Proof.Machine.R

set_option maxRecDepth 100000
set_option linter.unusedVariables false

/-! ### Well-formedness: one term per bound that it breaks -/

theorem test_wf_refuses_1 :
    (let g : Sys2Proof.Acc := ⟨8, true, 0⟩
    ([
      .registerWrite 0 g 0 3 0, .coreMemoryAccess 0 g .read 0 128 0, .windowStart 0 256, .windowEnd 0 256,
      .stgDone 0 g 8 0, .gateListFlip 0 256, .quietStart 0 256, .quietEnd 0 256, .linScheduleSlot 0 256,
      .bandwidthLatchPoint 0 256, .syncReceived 0 4 0 0 ⟨0, 0⟩, .syncReceived 0 0 16 0 ⟨0, 0⟩, .syncReceiptTimeout 0 4,
      .announceReceived 0 4 ⟨0, none⟩, .announceReceived 0 0 ⟨16, none⟩, .pdelayExchange 0 14 none, .slotArm 0 g 64 0, .slotDisarm 0 g 64 0,
      .slotFire 0 64, .toutPulseEnd 0 8, .tcapEdge 0 8 false, .tcapPop 0 g 8, .logbSpostGo 0 g 9 0,
      .frameIngress 0 16 0 [] none, .egressFrameStart 0 16, .egressFrameStart 0 44, .egressFrameStart 0 48,
      .egressCopyDone 0 16, .egressCopyDone 0 44, .egressCopyDone 0 48, .cellArrival 0 48 0 0 0 0 false
    ] : List Instr).all (fun i => !i.wf)) = true := by decide

theorem test_wf_refuses_2 :
    (let g : Sys2Proof.Acc := ⟨8, true, 0⟩
    ([
      .cellArrival 0 0 52 0 0 0 false, .cellArrival 0 0 0 8 0 0 false, .cellArrival 0 0 0 0 4096 0 false,
      .gapTimeout 0 48 0 0, .gapTimeout 0 0 52 0, .gapTimeout 0 0 0 8, .planeFault 0 2 0,
      .planeSelfTestDone 0 2 false, .frerResetTimeout 0 256, .streamGateChange 0 64 0, .streamGateChange 0 0 8,
      .cqDb 0 g 528 0, .transmitDescriptorSend 0 9, .receiveDelivery 0 0 45, .receiveDelivery 0 0 35,
      .sampleDelivery 0 4, .outrPortNWrite 0 g 44 0 0, .outrPortNWrite 0 g 0 8 0, .linkUp 0 36 0 0 false,
      .linkDown 0 36, .trainingFailure 0 2, .linkRestart 0 g 36 0, .cableTest 0 g 36 0, .cableTestDone 0 16 0 0,
      .canRecover 0 g 36 0, .busOffRecoveryDone 0 28, .busOffRecoveryDone 0 15, .plcaBeaconLoss 0 13,
      .plcaBeaconLoss 0 16, .msecTxsaSwitch 0 g 6 0
    ] : List Instr).all (fun i => !i.wf)) = true := by decide

theorem test_wf_refuses_3 :
    (let g : Sys2Proof.Acc := ⟨8, true, 0⟩
    ([
      .canFrameReceived 0 28 0 [], .canFrameReceived 0 15 0 [], .canTxBufferLoad 0 28, .canTxBufferLoad 0 15,
      .canTxAttemptEnd 0 28 .ok, .canTxAttemptEnd 0 15 .ok, .transceiverFault 0 36 0, .transceiverFault 0 16 4,
      .transceiverFault 0 15 0, .linCarriageEgress 0 36, .linCarriageEgress 0 27, .linResponseReceived 0 36 .sent,
      .linResponseReceived 0 27 .sent, .linSchedSwitch 0 g 36 0, .linSchedSwitch 0 g 27 0, .linSchedRun 0 g 36 0,
      .linSchedRun 0 g 27 0, .portRequestActive 0 g 36 0, .portRequestIgnore 0 g 36 0, .portRequestAsleep 0 g 36 0,
      .portSleepAck 0 36, .wakeDetected 0 44 .pulse, .sleepExit 0 4 false, .confirmationWindowEnd 0 36,
      .lockoutExpiry 0 36, .transceiverFsTimeout 0 36, .transceiverFsTimeout 0 15, .channelCmdOff 0 g 40 0,
      .channelCmdOn 0 g 40 0, .channelCmdPwm 0 g 40 0
    ] : List Instr).all (fun i => !i.wf)) = true := by decide

theorem test_wf_refuses_4 :
    (let g : Sys2Proof.Acc := ⟨8, true, 0⟩
    ([
      .channelCmdDuty 0 g 40 0, .channelCmdFwd 0 g 40 0, .channelCmdRev 0 g 40 0, .cadencePeriodStart 0 8 none,
      .cadencePeriodStart 0 0 (some 40), .pwmOffEdge 0 40, .qClr 0 g 40, .cntClr 0 g 40,
      .senseReading 0 40 0 0 0 0 0, .reverseBlockEnd 0 40, .shortCircuitTrip 0 40 (.current 0), .retryRestart 0 40,
      .retryCountClear 0 40, .unlatch 0 g 40, .pullUpTest 0 40 false, .pullUpTestEnd 0 40 0,
      .lioConversion 0 32 0 0 false, .lioEdge 0 32 0 0, .lioEdgePop 0 g 32, .lioFastSample 0 32 0,
      .lioFastPop 0 g 32, .gcall 0 12 0, .gret 0 12, .guardTimeLimitExpiry 0 12, .remeasurementDone 0 12,
      .manGinfoRead 0 g 12, .interruptRaised 0 376, .irqClaim 0 g 12 false, .irqEoi 0 g 12 false 0,
      .boundaryMismatch 0 4 0 false false false false 0
    ] : List Instr).all (fun i => !i.wf)) = true := by decide

theorem test_wf_refuses_5 :
    (let g : Sys2Proof.Acc := ⟨8, true, 0⟩
    ([
      .boundaryMismatch 0 0 3 false false false false 0, .foldCapture 0 4 [] [], .foldCompare 0 4,
      .tandemInfrastructureFault 0 4 false 0, .ceSubmit 0 g 4 0, .encrypt 0 4, .decrypt 0 4, .macGen 0 4,
      .macVerify 0 4, .hashMsg 0 4, .msecInstall 0 4, .msecRemove 0 4, .chunkDeliveryRetry 0 4,
      .outputStallTimeout 0 4, .provisionalRevoke 0 4, .nonceBlockReserved 0 4, .laneFault 0 4,
      .laneSelfTestDone 0 4 false, .powerOnReset 0 4, .deviceReset 0 4 false, .beyvoReset 0 4, .bootSequence 0 true 0 true true [(16, none)], .coachStart 0 8,
      .coachStartTimeout 0 8, .debugRead 0 false 12 0, .debugRead 0 false 0 (2 ^ 64), .debugWrite 0 false 12 0 0,
      .debugWrite 0 false 0 (2 ^ 64) 0, .debugHalt 0 false 12 0, .debugHalt 0 false 0 (2 ^ 64), .debugResume 0 false 12 0, .debugStep 0 false 12 0
    ] : List Instr).all (fun i => !i.wf)) = true := by decide

theorem test_wf_refuses_6 :
    (let g : Sys2Proof.Acc := ⟨8, true, 0⟩
    ([
      .pwrmSleepReq 0 g 9 0, .pwrmTolUs 0 g 9 0, .coreWait 0 12, .coreRetentionWake 0 12,
      .supplyRangeChange 0 5 false 0 false, .supplyRangeChange 0 0 false 4 false, .clkGateWrite 0 g 7 0,
      .clkGateWrite 0 g 0 0, .pwrmPgateWrite 0 g 7 0, .pwrmPgateWrite 0 g 0 0, .gateInEffect 0 7 0,
      .gateInEffect 0 1 4, .gateInEffect 0 0 0, .frmSwfault 0 g 9 0, .coachReset 0 8, .caResetReq 0 g 8 0,
      .frmCoachReset 0 g 8 0, .frmCoachRestart 0 g 8 0, .frmCoachDsRel 0 g 8 0, .tallyCounterWrite 0 g 0x40071000 0,
      .preciseSample 0 12 0 0 0 0, .smpCfgWrite 0 g 12 0, .smpRdWrite 0 g 12 0, .plcaBeaconReturn 0 13,
      .plcaBeaconReturn 0 16, .canReceiveError 0 28 0 false, .canReceiveError 0 16 7 false,
      .canReceiveError 0 15 0 false, .linHeaderReceived 0 36 0 false 0, .linHeaderReceived 0 27 0 false 0
    ] : List Instr).all (fun i => !i.wf)) = true := by decide

/-! ### States for the tests -/

/-- The state after reset with another device state. -/

def tst (f : Dev → Dev) : State := State.reset.becomes (f State.reset.dev)

/-- The state after reset with other memory and another device state. -/

def tstM (m : Mem) (f : Dev → Dev) : State := State.reset.becomesM (f State.reset.dev) m

/-- A cipher command that waits for its output queue. -/

def tRun : CeRun :=
  { desc := 0x10000000, cmd := ceCmd [] 0, why := .output, slot := none, key := [], salt := [], gen := 0, revoked := false, chunks := [], escrow := false, prov := false, tagOk := true, status := 0, nonce := [], result := [], sent := [], outLen := 0, firstTag := 0, firstWb := [], segCons := 0, descCons := 0, purged := 0, since := 0, was := [], noNotice := false, released := 0, first := none, out := [] }

/-- A copy of one cell, ready to start. -/

def tCopy (p k : Nat) : Copy :=
  { port := p, cls := k, de := false, queue := none, start := 0, passed := 1, cut := false, thresh := 0, early := false, readyAt := 0, sending := false, bad := false, kept := none, flags := 0, untag := false, rtag := .keep, acf := none, mirror := false }

/-- A frame of one copy, looked up and checked. -/

def tFrame (kind src p k : Nat) (bytes : List Nat) : Frame :=
  { id := 0, kind := kind, wb := { time := 0, frac := 0, port := src, cls := k, len := bytes.length, fseq := 0, epoch := 0, origin := 15, flags := 0 }, bytes := bytes, src := src, vid := 0, pcp := 0, stream := none, rcv := none, heldDup := false, drains := false, looked := true, tail := true, fcsOk := true, icvOk := true, maxSdu := 2000, wire := bytes.length, inTs := 0, tagged := false, eth := 0, sendQ := none, attempted := [], delivered := [], flows := [], mir := none, rest := none, copies := [tCopy p k] }

/-- A device that holds one frame. -/

def Sys2Proof.Machine.Dev.holding (d : Dev) (f : Frame) : Dev := { d with fab := { d.fab with frames := [f] } }

/-! ### Meanings: expected values from the spec's formulas, tables and worked examples -/

/-- R311: the C function of the rule by hand; CRC-16 of two zero bytes is 0x1D0F. -/
theorem test_coachman_word :
    coachmanWord 0 0 0 = 0x1D0F0000 ∧ coachmanWord 0x5A 3 0xC3 = 0x4A4C1103 ∧ coachmanWord 0x81 0xFF 0x10 = 0xD58DD0FF := by
  decide

/-- R273: T_on = D × P / 65,535 to the nearest 10 ns: 25,000.4 ns at half duty of 50 µs. -/
theorem test_pwm_on_time : tOn 0x8000 50000 = 25000 ∧ tOn 0xFFFF 50000 = 50000 ∧ tOn 0 50000 = 0 := by decide

/-- R383 and the table of R468: a value of 2^41 has 20 fuses blown; the first is blown at 4. -/
theorem test_odometer_fuses : blownAt (2 ^ 41) = 20 ∧ blownAt 4 = 1 ∧ blownAt 3 = 0 := by decide

/-- The channel of the worked example of a heavy lamp (spec/10): I_NOM = 420, profile 0. -/
def tLamp : Dev := (State.reset.dev.put (CHAN_CFG_I_NOM 5) 420).put (CHAN_CFG_PROFILE 5) 0

/-- The envelope limits of that example, in µA. -/
theorem test_lamp_envelope :
    tLamp.envLimit 5 24 = 50400000 ∧ tLamp.envLimit 5 1999 = 50400000 ∧ tLamp.envLimit 5 2000 = 33600000 ∧
      tLamp.envLimit 5 10000 = 16800000 ∧ tLamp.envLimit 5 50000 = 8400000 ∧ tLamp.envLimit 5 200000 = 6300000 := by decide

/-- W0 of the profile of slot 6 in that example. -/
theorem test_profile_word : profW0 2 2 0 4 0 50000 = 0xC350010A := by decide

/-- The entries of the worked example of R331 (spec/13): coach 5 reads the lent page and may not write it; coach 3 may. -/
theorem test_manifest_example :
    pageAllows 0x563 ⟨5, false, 2⟩ .read = true ∧ pageAllows 0x563 ⟨5, false, 2⟩ .write = false ∧
      pageAllows 0x563 ⟨3, false, 2⟩ .write = true ∧ pageAllows 0x80000063 ⟨5, false, 2⟩ .read = false ∧
      pageAllows 0x563 ⟨3, false, 2⟩ .fetch = false := by decide

/-- The indexes of the pages of that example. -/
theorem test_manifest_index :
    pageIndex 0x10023000 = some 35 ∧ pageIndex 0x140000000 = some 22528 ∧ pageIndex 0x40503000 = some 138499 := by decide

/-- R337, R338: giving that page to coach 5 succeeds, and a byte that coach 3 left in it is gone. -/
theorem test_manifest_edit :
    (match exec (.manEditDone 0) (tstM (Mem.setWord (Mem.setByte [] 0x140000777 0xAA) 0x11576000 0x563) fun d =>
        { d with wld := { d.wld with edit := some (22528, 0x465) } }) with
      | .next t => Mem.byte t.mem 0x140000777 == 0 && Mem.word t.mem 0x11576000 == 0x465 && t.dev.fld MAN_EDIT_STS_RESULT == 0
      | _ => false) = true := by decide

/-- A block that has been sealed, with its time at `ns`, a period of 250,000 ns and a grid instant there. -/
def tGrid (ns : Nat) : State := tst fun d =>
  { (d.wr STG_PERIOD_NS 250000) with
    boot := { d.boot with phase := .sealed }
    stg := { d.stg with nextTick := ns }
    tim := { d.tim with mode := .servo, dev := 65536 * ns } }

/-- R36 and the chapter "A Week of Running": the tick at 2^32 × 250,000 ns has STG_NUM 0, and the one before it 0xFFFF_FFFF. -/
theorem test_stage_number_wraps :
    (match exec (.stageTick 0) (tGrid (2 ^ 32 * 250000)) with | .next t => t.dev.rn STG_NUM == 0 | _ => false) = true ∧
      (match exec (.stageTick 0) (tGrid ((2 ^ 32 - 1) * 250000)) with | .next t => t.dev.rn STG_NUM == 2 ^ 32 - 1 | _ => false) = true := by
  decide

/-- R358: the CRC-64 of that polynomial, all ones at both ends, of the digits 1 to 9 is the published check value. -/
theorem test_fold_crc :
    ("123456789".toList.map Char.toNat).foldl crc64Byte (2 ^ 64 - 1) ^^^ (2 ^ 64 - 1) = 0x62EC59E3F1A4F00A := by decide

/-- R347: a source without a route is inert; a routed one pends (source 353 is bit 1 of IRQ_PEND11). -/
theorem test_interrupt_route :
    (match exec (.interruptRaised 0 353) State.reset with | .next t => t.dev.rn (IRQ_PEND 11) == 0 | _ => false) = true ∧
      (match exec (.interruptRaised 0 353) (tst fun d => d.put (IRQ_ROUTE_OWNER 353) 8) with
        | .next t => t.dev.rn (IRQ_PEND 11) == 2 | _ => false) = true := by decide

/-- R115, R116, R120: the record of the start (block 2, owner 9, code 1) goes to slot 0 of the ring as words w0 to w3. -/
theorem test_record_layout :
    (match exec (.logbookRecordWrite 0) (tst fun d => { d with log := { d.log with queue := [resetRec] } }) with
      | .next t => Mem.word t.mem 0x11600008 == 0x00029003 && Mem.word t.mem 0x1160000C == 0x00010000 && t.dev.rn LOGB_WR_CNT == 1
      | _ => false) = true := by decide

/-- R9: a 16-bit read of a 32-bit register is a bus error; R14: a reserved offset reads 0 without one. -/
theorem test_register_width :
    (match exec (.coreMemoryAccess 0 ⟨8, true, 0⟩ .read FAB_MODE 2 0) State.reset with | .next t => t.dev.bus.err | _ => false) = true ∧
      (match exec (.coreMemoryAccess 0 ⟨8, true, 0⟩ .read FAB_MODE 4 0) State.reset with
        | .next t => t.dev.bus == ⟨0x21, false⟩ | _ => false) = true := by decide

/-- A store of 64 bits: the lowest byte at the lowest address (assumption 36), and eight bytes listed. -/
theorem test_store_little_endian :
    (match exec (.coreMemoryAccess 0 ⟨8, true, 0⟩ .write 0x10000100 8 0x1122334455667788) State.reset with
      | .next t => Mem.byte t.mem 0x10000100 == 0x88 && Mem.byte t.mem 0x10000107 == 0x11 && t.mem.length == 8
      | _ => false) = true := by decide

/-- R298: UNLATCH of a latched channel with a stored command reads OFF and not LATCHED. -/
theorem test_unlatch :
    (match exec (.unlatch 0 ⟨8, true, 0⟩ 7) (tst fun d => ((d.set (CHAN_STS_LATCHED 7)).put (CHAN_STS_CMD 7) 1).set (CHAN_STS_OC 7)) with
      | .next t => t.dev.fld (CHAN_STS_CMD 7) == 0 && !t.dev.on (CHAN_STS_LATCHED 7) && !t.dev.on (CHAN_STS_OC 7)
      | _ => false) = true := by decide

/-- R121: a consumed count beyond WR_CNT is ignored. -/
theorem test_consumed_count :
    (match exec (.logbRdCntWrite 0 ⟨8, true, 0⟩ 6) (tst fun d => d.wr LOGB_WR_CNT 5) with
      | .next t => t.dev.rn LOGB_RD_CNT == 0 | _ => false) = true ∧
    (match exec (.logbRdCntWrite 0 ⟨8, true, 0⟩ 5) (tst fun d => d.wr LOGB_WR_CNT 5) with
      | .next t => t.dev.rn LOGB_RD_CNT == 5 | _ => false) = true := by decide

/-- R448: FRM_RESET_CMD without the key is ignored; with it a device reset waits. -/
theorem test_reset_key :
    (match exec (.frmResetDevice 0 ⟨8, true, 0⟩ 1) State.reset with | .next t => t.dev.frm.devReset.isNone | _ => false) = true ∧
      (match exec (.frmResetDevice 0 ⟨8, true, 0⟩ 0xDE5E0001) State.reset with | .next t => t.dev.frm.devReset.isSome | _ => false) = true := by
  decide

/-- The block before its first power-on. -/
def tBlank : Dev :=
  { regs := [], up := 0, drawn := 0, bus := ⟨0, false⟩, dead := [], log := LogSt.reset, frm := FrmSt.reset, wld := WorldSt.reset,
    stg := StgSt.reset, tim := TimSt.reset, tta := TtaSt.reset, chans := [], hv := HeaviaSt.reset, lios := [], fab := FabSt.reset,
    msec := [], sid := SidSt.reset, prt := PortSt.reset, tan := TanSt.reset, sbx := SbxSt.reset, ce := CeSt.reset,
    boot := BootSt.reset, dbg := DbgSt.reset, tal := TalSt.reset }

/-- R448: the state after reset is what the power-on reset makes of a block without a past. -/
theorem test_reset_is_power_on : tBlank.powerOn 0 = Dev.reset := by decide

/-! ### Hypotheses that can be met -/

theorem wit_EmptyQueueIdles : State.reset.pending = [] := rfl

theorem wit_WellFormedCommandsAlwaysRun :
    (Instr.pwmOffEdge 0 39).wf = true ∧ (Instr.pwmOffEdge 0 40).wf = false := by decide

theorem wit_ExecKeepsWaitingCommands :
    (match exec (.stageOutFall 0) State.reset with | .next _ => true | _ => false) = true := by decide

theorem wit_MemoryCanonicalKeptByEveryStep :
    Mem.wf [(0x10000000, 5#8), (0x11560000, 1#8)] = true ∧
      (match step { State.reset with mem := [(0x10000000, 5#8), (0x11560000, 1#8)], pending := [.stageOutFall 1] } with
        | .next _ => true | _ => false) = true := by decide

theorem wit_WindowsOpenAndCloseByTheirTimetable :
    (∃ (s : State) (dt n tick : Nat), let d := s.now dt
    let o := d.fld (STG_TT_CTL_OWNER n)
    let core := d.fld (STG_TT_CTL_CORE n)
    let w : Win := { entry := n, owner := o, core := core, endAt := tick + d.fld (STG_TT_START_NS n) + d.fld (STG_TT_LEN_NS n), isOpen := true, awaits := true }
    let e : Dev := { d with stg := { d.stg with wins := w :: d.stg.wins } }
    n < 256 ∧ d.fld (STG_TT_START_NS n) ≠ 0 ∧ d.stg.lastTick = some tick ∧ tick + d.fld (STG_TT_START_NS n) ≤ d.domNs ∧ (d.ttKind n = 1 ∨ d.ttKind n = 2) ∧ d.ttApplies n d.phase = true ∧ d.skipped o = false) ∧
    (∃ (s : State) (dt n tick : Nat), let d := s.now dt
    let o := d.fld (STG_TT_CTL_OWNER n)
    n < 256 ∧ d.fld (STG_TT_START_NS n) ≠ 0 ∧ d.stg.lastTick = some tick ∧ tick + d.fld (STG_TT_START_NS n) ≤ d.domNs ∧ (d.ttKind n = 1 ∨ d.ttKind n = 2) ∧ d.ttApplies n d.phase = true ∧ d.skipped o = true) ∧
    (∃ (s : State) (dt c v : Nat) (a : Sys2Proof.Acc) (w : Win) (newer rest : List Win), let d := s.now dt
    let e := ({ d with stg := { d.stg with wins := (newer ++ ({ w with awaits := false } : Win) :: rest).filter (fun x => x.isOpen || x.awaits) } } : Dev)
    c < 8 ∧ d.mayWrite s.mem a (STG_DONE c) ∧ bit 0 v = true ∧ d.stg.wins = newer ++ w :: rest ∧ (∀ x ∈ newer, x.owner = c → x.awaits = false) ∧ w.owner = c ∧ w.awaits = true ∧ (∀ x ∈ d.stg.wins, x.owner = c → x.isOpen = true → d.domNs ≤ x.endAt)) ∧
    (∃ (s : State) (dt v : Nat) (a : Sys2Proof.Acc) (w : Win) (newer rest : List Win), let d := s.now dt
    let e := ({ d with stg := { d.stg with wins := (newer ++ ({ w with awaits := false } : Win) :: rest).filter (fun x => x.isOpen || x.awaits) } } : Dev)
    d.mayWrite s.mem a STG_GDONE ∧ bit 0 v = true ∧ d.stg.wins = newer ++ w :: rest ∧ (∀ x ∈ newer, x.owner = 8 → x.awaits = false) ∧ w.owner = 8 ∧ w.awaits = true ∧ (∀ x ∈ d.stg.wins, x.owner = 8 → x.isOpen = true → d.domNs ≤ x.endAt)) ∧
    (∃ (s : State) (dt c v : Nat) (a : Sys2Proof.Acc), let d := s.now dt
    c < 8 ∧ d.mayWrite s.mem a (STG_DONE c) ∧ bit 0 v = true ∧ (∀ x ∈ d.stg.wins, x.owner = c → x.awaits = false) ∧ (∀ x ∈ d.stg.wins, x.owner = c → x.isOpen = true → d.domNs ≤ x.endAt)) ∧
    (∃ (s : State) (dt v : Nat) (a : Sys2Proof.Acc), let d := s.now dt
    d.mayWrite s.mem a STG_GDONE ∧ bit 0 v = true ∧ (∀ x ∈ d.stg.wins, x.owner = 8 → x.awaits = false) ∧ (∀ x ∈ d.stg.wins, x.owner = 8 → x.isOpen = true → d.domNs ≤ x.endAt)) ∧
    (∃ (s : State) (dt n : Nat) (w : Win) (rest : List Win), let d := s.now dt
    let e := ({ d with stg := { d.stg with wins := (({ w with isOpen := false } : Win) :: rest).filter (fun x => x.isOpen || x.awaits) } } : Dev).updInWindow w.owner
    n < 256 ∧ d.stg.wins = w :: rest ∧ w.entry = n ∧ w.isOpen = true ∧ w.endAt ≤ d.domNs ∧ (∀ x ∈ rest, x.entry = n → x.isOpen = false) ∧ (w.owner < 8 → d.coachDown w.owner = false) ∧ d.tan.latent = []) :=
  ⟨⟨tst fun d => ({ (((d.put (STG_TT_CTL_KIND 255) 2).put (STG_TT_START_NS 255) 7).put (STG_TT_CTL_OWNER 255) 8) with tim := { d.tim with dev := 2 ^ 20 }, stg := { d.stg with lastTick := some 5 } } : Dev), 0, 255, 5, by decide⟩,
    ⟨tst fun d => ({ (((d.put (STG_TT_CTL_KIND 255) 1).put (STG_TT_START_NS 255) 7).put (STG_TT_CTL_OWNER 255) 0) with tim := { d.tim with dev := 2 ^ 20 }, stg := { d.stg with lastTick := some 5 } } : Dev), 0, 255, 5, by decide⟩,
    ⟨tst fun d => ({ d with stg := { d.stg with wins := [⟨9, 7, 1, 9, true, false⟩, ⟨255, 7, 11, 2 ^ 80, true, true⟩] } } : Dev), 0, 7, 1, ⟨8, true, 0⟩, ⟨255, 7, 11, 2 ^ 80, true, true⟩, [⟨9, 7, 1, 9, true, false⟩], [], by decide⟩,
    ⟨tst fun d => ({ d with stg := { d.stg with wins := [⟨3, 7, 1, 9, true, true⟩, ⟨255, 8, 11, 9, false, true⟩] } } : Dev), 0, 1, ⟨8, true, 0⟩, ⟨255, 8, 11, 9, false, true⟩, [⟨3, 7, 1, 9, true, true⟩], [], by decide⟩,
    ⟨tst fun d => ({ d with stg := { d.stg with wins := [⟨9, 7, 1, 9, true, false⟩] } } : Dev), 0, 7, 1, ⟨8, true, 0⟩, by decide⟩,
    ⟨State.reset, 0, 1, ⟨8, true, 0⟩, by decide⟩,
    ⟨tst fun d => ({ d with tim := { d.tim with dev := 2 ^ 20 }, stg := { d.stg with wins := [⟨255, 7, 11, 9, true, true⟩] } } : Dev), 0, 255, ⟨255, 7, 11, 9, true, true⟩, [], by decide⟩⟩

theorem wit_StageEngineTimedEffects :
    (∃ (s : State) (dt tick : Nat), let d := s.now dt
    d.stg.lastTick = some tick ∧ d.on HLK_STS_UP = true) ∧
    (∃ (s : State) (dt tick : Nat) (crossed : Bool), let d := s.now dt
    d.stg.lastTick = some tick ∧ (crossed = false ∨ d.on HLK_STS_UP = false)) ∧
    (∃ (s : State) (dt tick : Nat), let d := s.now dt
    d.stg.lastTick = some tick ∧ tick + 100 * d.fld STG_OUT_CFG_WIDTH ≤ d.domNs) ∧
    (∃ (s : State) (dt n off : Nat), let d := s.now dt
    n < 256 ∧ d.gridOff = some off ∧ d.fld (STG_TT_START_NS n) ≤ off ∧ d.ttKind n = 4 ∧ d.ttApplies n d.gridPhase = true) ∧
    (∃ (s : State) (dt n off : Nat), let d := s.now dt
    n < 256 ∧ d.gridOff = some off ∧ d.fld (STG_TT_START_NS n) ≤ off ∧ off < d.fld (STG_TT_START_NS n) + d.fld (STG_TT_LEN_NS n) ∧ d.ttKind n = 5 ∧ d.ttApplies n d.gridPhase = true) ∧
    (∃ (s : State) (dt n : Nat), let d := s.now dt
    n < 256) :=
  ⟨⟨tst fun d => ({ ((((d.put (STG_TT_CTL_KIND 255) 4).put (STG_TT_START_NS 255) 5).put (STG_TT_LEN_NS 255) 9).set HLK_STS_UP) with tim := { d.tim with dev := 65536 * 12 }, stg := { d.stg with lastTick := some 0 } } : Dev), 0, 0, by decide⟩,
    ⟨tst fun d => ({ ((((d.put (STG_TT_CTL_KIND 255) 4).put (STG_TT_START_NS 255) 5).put (STG_TT_LEN_NS 255) 9).set HLK_STS_UP) with tim := { d.tim with dev := 65536 * 12 }, stg := { d.stg with lastTick := some 0 } } : Dev), 0, 0, false, by decide⟩,
    ⟨tst fun d => ({ (d.put STG_OUT_CFG_WIDTH 3) with tim := { d.tim with dev := 65536 * 300 }, stg := { d.stg with lastTick := some 0 } } : Dev), 0, 0, by decide⟩,
    ⟨tst fun d => ({ ((((d.put (STG_TT_CTL_KIND 255) 4).put (STG_TT_START_NS 255) 5).put (STG_TT_LEN_NS 255) 9).set HLK_STS_UP) with tim := { d.tim with dev := 65536 * 12 }, stg := { d.stg with lastTick := some 0 } } : Dev), 0, 255, 12, by decide⟩,
    ⟨tst fun d => ({ ((((d.put (STG_TT_CTL_KIND 255) 5).put (STG_TT_START_NS 255) 5).put (STG_TT_LEN_NS 255) 9).set HLK_STS_UP) with tim := { d.tim with dev := 65536 * 12 }, stg := { d.stg with lastTick := some 0 } } : Dev), 0, 255, 12, by decide⟩,
    ⟨State.reset, 0, 255, by decide⟩⟩

theorem wit_TimeBaseCommandsTakeEffect :
    (∃ (s : State) (dt dom port : Nat) (diff256 : Int) (src : SyncFrom), let d := s.now dt
    dom < 4 ∧ port < 16 ∧ d.on (TIME_DOM_CFG_EN dom) = true ∧ d.ptpTakes port = true ∧ d.slavePort dom = some port ∧ d.t1sTakes dom port src.node = true ∧ d.tim.mode = .servo ∧ d.fld (TIME_DOM_STS_STATE dom) ≠ 3 ∧ dom ≠ d.primary ∧ (let e : Dev := ((d.domGm dom src.gm).fresh 32).2
    True)) ∧
    (∃ (s : State) (dt dom : Nat), let d := s.now dt
    dom < 4 ∧ dom ≠ d.primary ∧ d.fld (TIME_DOM_STS_STATE dom) = 1) ∧
    (∃ (s : State) (dt dom : Nat) (h : Heard), let d := s.now dt
    let e : Dev := ({ d with tim := { d.tim with ann := (match h.info with         | some x => tput (16 * dom + h.port) x (terase (16 * dom + h.port) d.tim.ann)         | none => terase (16 * dom + h.port) d.tim.ann) } } : Dev)
    dom < 4 ∧ h.port < 16 ∧ (h.info.isSome = true → d.ptpTakes h.port = true) ∧ dom = e.primary ∧ e.on (TIME_DOM_CFG_EN dom) = true ∧ e.on (TIME_DOM_CFG_MODE dom) = false ∧ e.on (TIME_DOM_CFG_GM_CAPABLE dom) = true ∧ e.fld TIME_STS_STATE = 0 ∧ (∀ x ∈ e.bestAnn dom, e.ownVector dom < annVector x.2 x.1)) ∧
    (∃ (s : State) (dt port v : Nat), let d := s.now dt
    port < 14 ∧ d.ptpPort port = true) ∧
    (∃ (s : State) (dt v : Nat) (a : Sys2Proof.Acc), let d := s.now dt
    let ofs := sgn 64 (d.pair TIME_PEND_OFS_LO TIME_PEND_OFS_HI)
    let gm := d.pair TIME_PEND_GMID_LO TIME_PEND_GMID_HI
    d.mayWrite s.mem a TIME_ACCEPT ∧ v % 65536 = 0xACCE ∧ v / 65536 = d.rn TIME_PEND_SEQ % 65536 ∧ d.on TIME_STS_PENDING = true ∧ -d.jumpLimit ≤ ofs ∧ (let e : Dev := ({ (((d.clr TIME_STS_PENDING).clr TIME_STS_EXEMPT_AVAIL).wrPair TIME_GMID_LO TIME_GMID_HI gm) with         tim := { d.tim with held := some gm, series := none, good := 0, bad := 0 } } : Dev)
    let f : Dev := ((e.wr TIME_LOCK_SECS d.lockSecs).put TIME_STS_HOLDOVER_AVAIL (b2n (decide (64 ≤ d.lockSecs)))).tsState 0
    True)) ∧
    (∃ (s : State) (dt : Nat), let d := s.now dt
    d.fld TIME_STS_STATE = 1 ∧ 64 ≤ d.lockSecs) :=
  ⟨⟨tst fun d => ({ (((((d.set (TIME_PORT_CFG_EN 15)).set (PORT_STS_LINK 15)).set (TIME_DOM_CFG_EN 3)).set (TIME_DOM_CFG_MODE 3)).put (TIME_DOM_CFG_SPORT 3) 15) with tim := { d.tim with mode := .servo } } : Dev), 0, 3, 15, -7, ⟨9, 0⟩, by decide⟩,
    ⟨tst fun d => d.put (TIME_DOM_STS_STATE 3) 1, 0, 3, by decide⟩,
    ⟨tst fun d => (d.set (TIME_DOM_CFG_EN 0)).set (TIME_DOM_CFG_GM_CAPABLE 0), 0, 0, ⟨15, none⟩, by decide⟩,
    ⟨tst fun d => (d.set (TIME_PORT_CFG_EN 13)).set (PORT_STS_LINK 13), 0, 13, 0xFFFFFFFF, by decide⟩,
    ⟨tst fun d => d.set TIME_STS_PENDING, 0, 0xACCE, ⟨8, true, 0⟩, by decide⟩,
    ⟨tst fun d => ({ (d.put TIME_STS_STATE 1) with up := 64000000000 } : Dev), 0, by decide⟩⟩

theorem wit_NoSyncStepsTimeWithoutExemption :
    (∃ (s : State) (dt dom port : Nat) (diff256 : Int) (src : SyncFrom), let d := s.now dt
    dom < 4 ∧ port < 16 ∧ d.on TIME_STS_EXEMPT_AVAIL = false) ∧
    (∃ (s : State) (dt dom port : Nat) (diff256 : Int) (src : SyncFrom), let d := s.now dt
    dom < 4 ∧ port < 16 ∧ d.on (TIME_DOM_CFG_EN dom) = true ∧ d.ptpTakes port = true ∧ d.slavePort dom = some port ∧ d.t1sTakes dom port src.node = true ∧ d.tim.mode = .servo ∧ d.fld (TIME_DOM_STS_STATE dom) ≠ 3 ∧ dom = d.primary ∧ d.on TIME_STS_EXEMPT_AVAIL = false ∧ d.tim.held = some src.gm ∧ 256 * d.jumpLimit < d.syncOffset port diff256) ∧
    (∃ (s : State) (dt dom port : Nat) (diff256 : Int) (src : SyncFrom), let d := s.now dt
    dom < 4 ∧ port < 16 ∧ d.on (TIME_DOM_CFG_EN dom) = true ∧ d.ptpTakes port = true ∧ d.slavePort dom = some port ∧ d.t1sTakes dom port src.node = true ∧ d.tim.mode = .servo ∧ d.fld (TIME_DOM_STS_STATE dom) ≠ 3 ∧ dom = d.primary ∧ d.tim.held = some src.gm ∧ d.syncOffset port diff256 < -(256 * d.jumpLimit)) ∧
    (∃ (s : State) (dt dom port : Nat) (diff256 : Int) (src : SyncFrom) (g : Nat), let d := s.now dt
    dom < 4 ∧ port < 16 ∧ d.on (TIME_DOM_CFG_EN dom) = true ∧ d.ptpTakes port = true ∧ d.slavePort dom = some port ∧ d.t1sTakes dom port src.node = true ∧ d.tim.mode = .servo ∧ d.fld (TIME_DOM_STS_STATE dom) ≠ 3 ∧ dom = d.primary ∧ d.tim.held = some g ∧ g ≠ src.gm) ∧
    (∃ (s : State) (dt v : Nat) (a : Sys2Proof.Acc), let d := s.now dt
    d.mayWrite s.mem a TIME_ACCEPT ∧ sgn 64 (d.pair TIME_PEND_OFS_LO TIME_PEND_OFS_HI) ≤ d.jumpLimit) ∧
    (∃ (s : State) (dt v : Nat) (a : Sys2Proof.Acc), let d := s.now dt
    d.mayWrite s.mem a TIME_ACCEPT ∧ (v % 65536 ≠ 0xACCE ∨ v / 65536 ≠ d.rn TIME_PEND_SEQ % 65536 ∨ d.on TIME_STS_PENDING = false ∨ sgn 64 (d.pair TIME_PEND_OFS_LO TIME_PEND_OFS_HI) < -d.jumpLimit)) :=
  ⟨⟨tst fun d => d.clr TIME_STS_EXEMPT_AVAIL, 0, 3, 15, 7, ⟨9, 7⟩, by decide⟩,
    ⟨tst fun d => ({ ((((((d.set (TIME_PORT_CFG_EN 15)).set (PORT_STS_LINK 15)).set (TIME_DOM_CFG_EN 0)).set (TIME_DOM_CFG_MODE 0)).put (TIME_DOM_CFG_SPORT 0) 15).clr TIME_STS_EXEMPT_AVAIL) with tim := { d.tim with held := some 9, mode := .servo } } : Dev), 0, 0, 15, 2 ^ 60, ⟨9, 0⟩, by decide⟩,
    ⟨tst fun d => ({ ((((((d.set (TIME_PORT_CFG_EN 15)).set (PORT_STS_LINK 15)).set (TIME_DOM_CFG_EN 0)).set (TIME_DOM_CFG_MODE 0)).put (TIME_DOM_CFG_SPORT 0) 15)) with tim := { d.tim with held := some 9, mode := .servo } } : Dev), 0, 0, 15, -(2 ^ 60), ⟨9, 0⟩, by decide⟩,
    ⟨tst fun d => ({ ((((((d.set (TIME_PORT_CFG_EN 15)).set (PORT_STS_LINK 15)).set (TIME_DOM_CFG_EN 0)).set (TIME_DOM_CFG_MODE 0)).put (TIME_DOM_CFG_SPORT 0) 15)) with tim := { d.tim with held := some 9, mode := .servo } } : Dev), 0, 0, 15, -(2 ^ 60), ⟨7, 0⟩, 9, by decide⟩,
    ⟨State.reset, 0, 0, ⟨8, true, 0⟩, by decide⟩,
    ⟨State.reset, 0, 0xACCE, ⟨8, true, 0⟩, by decide⟩⟩

theorem wit_SlotAndPinCommandsTakeEffect :
    (∃ (s : State) (dt n v : Nat) (a : Sys2Proof.Acc), let d := s.now dt
    n < 64 ∧ d.mayWrite s.mem a (TTA_SLOT_CMD n) ∧ bit 0 v = true ∧ bit 1 v = false ∧ (let e : Dev := d.wr (TTA_SLOT_CMD n) (d.rn (TTA_SLOT_CMD n) - (d.rn (TTA_SLOT_CMD n) &&& (v &&& 0xE00)))
    (e.slot n).armed = false ∧ e.armOk s.mem (e.captureSlot n) = true ∧ e.ns256 + 256 * leadNs (e.captureSlot n).action ≤ (e.captureSlot n).instant 0)) ∧
    (∃ (s : State) (dt n v : Nat) (a : Sys2Proof.Acc), let d := s.now dt
    n < 64 ∧ d.mayWrite s.mem a (TTA_SLOT_CMD n) ∧ bit 0 v = false ∧ bit 1 v = true ∧ (let e : Dev := d.wr (TTA_SLOT_CMD n) (d.rn (TTA_SLOT_CMD n) - (d.rn (TTA_SLOT_CMD n) &&& (v &&& 0xE00)))
    (e.slot n).armed = true ∧ ((e.slot n).action = 1 ∨ (e.slot n).action = 2))) ∧
    (∃ (s : State) (dt n : Nat), let d := s.now dt
    n < 64 ∧ (d.slot n).armed = true ∧ (d.slot n).action = 1 ∧ (d.slot n).periodic = false ∧ (d.slot n).left = 1 ∧ bit 7 (d.slot n).cfg = false ∧ (d.slot n).instant (d.slot n).next ≤ d.ns256 ∧ (tget (0, 0) d.tta.last (d.slot n).target).1 ≠ (d.slot n).instant (d.slot n).next ∧ d.tta.passed.find? (d.passedDue n) = none) ∧
    (∃ (s : State) (dt k : Nat), let d := s.now dt
    k < 8 ∧ tget 0 d.tta.pulse k ≠ 0 ∧ tget 0 d.tta.pulse k ≤ d.up) ∧
    (∃ (s : State) (dt k : Nat) (falling : Bool), let d := s.now dt
    k < 8 ∧ (∀ e ∈ (d.tcap k).lastEdge, e + 2560 ≤ d.ns256) ∧ bit (b2n falling) (d.fld (TTA_TCAP_CFG_EDGE k)) = true ∧ (d.tcap k).fifo.length < 16 ∧ d.on (TTA_TCAP_CFG_IRQ_EN k) = false ∧ d.fld (TTA_TCAP_CFG_OWNER k) ≠ 15) ∧
    (∃ (s : State) (dt k : Nat) (a : Sys2Proof.Acc) (e : Edge) (rest : List Edge), let d := s.now dt
    k < 8 ∧ d.mayRead s.mem a (TTA_TCAP_TS_LO k) ∧ (d.tcap k).fifo = e :: rest) :=
  ⟨⟨tst fun d => ((((d.wr (TTA_SLOT_CFG 63) 0x80070001).wr (TTA_SLOT_TIME_LO 63) 10000).wr (TTA_SLOT_ARG 63) 1).put (TTA_TOUT_CFG_OWNER 7) 8), 0, 63, 1, ⟨8, true, 0⟩, by decide⟩,
    ⟨tst fun d => ({ d with tta := { d.tta with slots := [(63, { armed := true, cfg := 2, first := 2 ^ 40, period := 0, count := 0, arg := 1, next := 0, left := 1 })] } } : Dev), 0, 63, 2, ⟨8, true, 0⟩, by decide⟩,
    ⟨tst fun d => ({ d with tim := { d.tim with dev := 2 ^ 50 }, tta := { d.tta with slots := [(63, { armed := true, cfg := 0x70001, first := 2 ^ 40, period := 0, count := 0, arg := 1, next := 0, left := 1 })] } } : Dev), 0, 63, by decide⟩,
    ⟨tst fun d => ({ d with tta := { d.tta with pulse := [(7, 5)] } } : Dev), 5, 7, by decide⟩,
    ⟨tst fun d => (d.put (TTA_TCAP_CFG_EDGE 7) 2).clr (TTA_TCAP_CFG_OWNER 7), 0, 7, true, by decide⟩,
    ⟨tst fun d => ({ d with tta := { d.tta with tcap := [(7, { fifo := [⟨9, true⟩], lastEdge := none, burst := false, ovf := 0 })] } } : Dev), 0, 7, ⟨8, true, 0⟩, ⟨9, true⟩, [], by decide⟩⟩

theorem wit_LogbookCommandsTakeEffect_part1 :
    (∃ (s : State) (dt : Nat) (r : Rec) (rest : List Rec), let d := s.now dt
    d.log.queue = r :: rest) ∧
    (∃ (s : State) (dt : Nat), let d := s.now dt
    d.log.dropped ≠ 0 ∧ d.log.queue.length < 64) ∧
    (∃ (s : State) (dt page v : Nat) (a : Sys2Proof.Acc), let d := s.now dt
    page ≤ 8 ∧ d.mayWrite s.mem a (LOGB_SPOST_GO page)) ∧
    (∃ (s : State) (dt v : Nat) (a : Sys2Proof.Acc), let d := s.now dt
    d.mayWrite s.mem a LOGB_RD_CNT ∧ (d.rn LOGB_WR_CNT + 2 ^ 32 - v % 2 ^ 32) % 2 ^ 32 < 2 ^ 31) ∧
    (∃ (s : State) (dt : Nat) (cut : Bool) (r : Rec) (rest : List Rec), let d := s.now dt
    d.log.aoQueue = r :: rest) ∧
    (∃ (s : State) (dt v : Nat) (a : Sys2Proof.Acc), let d := s.now dt
    d.mayWrite s.mem a LOGB_AO_IDX) ∧
    (∃ (s : State) (dt : Nat), let d := s.now dt
    d.on LOGB_AO_ESTS_BUSY = true ∧ d.on HLK_STS_UP = true) ∧
    (∃ (s : State) (dt v : Nat) (a : Sys2Proof.Acc), let d := s.now dt
    d.mayWrite s.mem a LOGB_AO_CLR ∧ bits 15 0 v = 0xA0C1 ∧ bits 21 16 v = d.fld LOGB_AO_STS_WO_FILL ∧ bits 23 22 v = 0 ∧ d.on HLK_STS_UP = true) :=
  ⟨⟨tst fun d => ({ d with log := { d.log with queue := [(Dev.mkRec State.reset.dev 0x30 1 0 0 0 [] 0)] } } : Dev), 0, (Dev.mkRec State.reset.dev 0x30 1 0 0 0 [] 0), [], by decide⟩,
    ⟨tst fun d => ({ d with log := { d.log with dropped := 1 } } : Dev), 0, by decide⟩,
    ⟨State.reset, 0, 8, 0, ⟨8, true, 0⟩, by decide⟩,
    ⟨tst fun d => d.wr LOGB_WR_CNT 0xFFFFFFFF, 0, 0xFFFFFFFF, ⟨8, true, 0⟩, by decide⟩,
    ⟨tst fun d => ({ d with log := { d.log with aoQueue := [(Dev.mkRec State.reset.dev 0x30 1 0 0 0 [] 0)] } } : Dev), 0, true, (Dev.mkRec State.reset.dev 0x30 1 0 0 0 [] 0), [], by decide⟩,
    ⟨State.reset, 0, 0x2FF, ⟨8, true, 0⟩, by decide⟩,
    ⟨tst fun d => (d.set LOGB_AO_ESTS_BUSY).set HLK_STS_UP, 0, by decide⟩,
    ⟨tst fun d => d.set HLK_STS_UP, 0, 0xA0C1, ⟨8, true, 0⟩, by decide⟩⟩

theorem wit_LogbookCommandsTakeEffect_part2 :
    (∃ (s : State) (dt v : Nat) (a : Sys2Proof.Acc), let d := s.now dt
    d.mayWrite s.mem a LOGB_AO_CLR ∧ bits 15 0 v = 0xA0C1 ∧ bits 21 16 v = d.fld LOGB_AO_STS_WO_FILL ∧ bits 23 22 v = 1 ∧ d.on HLK_STS_UP = true) ∧
    (∃ (s : State) (dt v : Nat) (a : Sys2Proof.Acc), let d := s.now dt
    d.mayWrite s.mem a LOGB_AO_CLR ∧ d.on HLK_STS_UP = false ∧ bits 15 0 v = 0xA0C1 ∧ bits 21 16 v = d.fld LOGB_AO_STS_WO_FILL ∧ bits 23 22 v ≤ 1) ∧
    (∃ (s : State) (dt : Nat), let d := s.now dt
    d.on HLK_STS_UP = false) :=
  ⟨⟨tst fun d => d.set HLK_STS_UP, 0, 0x40A0C1, ⟨8, true, 0⟩, by decide⟩,
    ⟨tst fun d => d.clr HLK_STS_UP, 0, 0x40A0C1, ⟨8, true, 0⟩, by decide⟩,
    ⟨tst fun d => d.clr HLK_STS_UP, 0, by decide⟩⟩

theorem wit_RecordWriteTouchesOnlyItsRingSlot :
    ∃ (s : State) (dt : Nat) (r : Rec) (rest : List Rec), let d := s.now dt
    d.log.queue = r :: rest :=
  ⟨tst fun d => ({ d with log := { d.log with queue := [(Dev.mkRec State.reset.dev 0x30 1 0 0 0 [] 0)] } } : Dev), 0, (Dev.mkRec State.reset.dev 0x30 1 0 0 0 [] 0), [], by decide⟩

theorem wit_FabricCommandsTakeEffect_part1 :
    (∃ (s : State) (dt p ts256 : Nat) (bytes : List Nat), let d := s.now dt
    p < 16 ∧ d.on (PORT_STS_LINK p) = false) ∧
    (∃ (s : State) (dt p ts256 : Nat) (bytes : List Nat), let d := s.now dt
    p < 16 ∧ d.on (PORT_STS_LINK p) = true ∧ d.portOwner p ≠ 15 ∧ d.fld (SID_PORT_STS_STATE p) < 2 ∧ d.towPort = none ∧ (p = 6 → toolFrame bytes = none) ∧ d.sidAt p ts256 = 0 ∧ d.on (SID_PORT_STS_FROZEN p) = false ∧ bytes.length < 64) ∧
    (∃ (s : State) (dt p ts256 : Nat) (bytes : List Nat), let d := s.now dt
    p < 16 ∧ d.on (PORT_STS_LINK p) = true ∧ d.portOwner p ≠ 15 ∧ d.fld (SID_PORT_STS_STATE p) < 2 ∧ d.towPort = none ∧ (p = 6 → toolFrame bytes = none) ∧ d.sidAt p ts256 = 1 ∧ 64 ≤ bytes.length ∧ d.isPtp bytes = false) ∧
    (∃ (s : State) (dt p ts256 : Nat) (bytes : List Nat), let d := s.now dt
    p < 16 ∧ d.on (PORT_STS_LINK p) = true ∧ d.portOwner p ≠ 15 ∧ d.fld (SID_PORT_STS_STATE p) < 2 ∧ d.towPort = none ∧ (p = 6 → toolFrame bytes = none) ∧ d.sidAt p ts256 = 0 ∧ 64 ≤ bytes.length ∧ d.isPtp bytes = false ∧ d.on (PORT_CFG_TRUNK p) = false ∧ d.msecOn p = false) ∧
    (∃ (s : State) (dt id : Nat), let d := s.now dt
    d.frame id = none) ∧
    (∃ (s : State) (dt id r : Nat) (f : Frame), let d := s.now dt
    d.frame id = some f ∧ f.looked = false ∧ f.tail = false ∧ f.kind = 0 ∧ f.copies = [] ∧ bit 19 (d.active.port f.wb.port 0) = false ∧ (d.active.lookup f.wb.port f.body).drop = some .rule ∧ (d.active.lookup f.wb.port f.body).rule = some r ∧ r < 512) ∧
    (∃ (s : State) (dt id : Nat) (f : Frame), let d := s.now dt
    let q := d.active.lookup f.wb.port f.body
    let dests := q.dest.filter (fun t => match q.members with | some m => t ≠ f.wb.port && bit t m | none => true)
    d.frame id = some f ∧ f.looked = false ∧ f.tail = false ∧ f.kind = 0 ∧ f.copies = [] ∧ bit 19 (d.active.port f.wb.port 0) = false ∧ q.rule = none ∧ q.drop = none ∧ q.stream = none ∧ q.copyGuard = false ∧ d.towPort = none) ∧
    (∃ (s : State) (dt id : Nat) (f : Frame), let d := s.now dt
    d.frame id = some f ∧ f.looked = true ∧ f.tail = false ∧ f.heldDup = false ∧ f.mir = none ∧ f.rcv = none ∧ f.fcsOk = false ∧ f.wb.port < 36 ∧ d.on (SID_PORT_STS_FROZEN f.wb.port) = false) :=
  ⟨⟨tst fun d => d.clr (PORT_STS_LINK 15), 0, 15, 0, [], by decide⟩,
    ⟨tst fun d => ((d.set (PORT_STS_LINK 15)).clr (PORT_CFG_OWNER 15)), 0, 15, 0, [1], by decide⟩,
    ⟨tst fun d => ((d.set (PORT_STS_LINK 15)).clr (PORT_CFG_OWNER 15)).put (SID_PORT_STS_STATE 15) 1, 0, 15, 0, List.replicate 64 1, by decide⟩,
    ⟨tst fun d => ((d.set (PORT_STS_LINK 15)).clr (PORT_CFG_OWNER 15)), 0, 15, 0x1234, List.replicate 64 1, by decide⟩,
    ⟨State.reset, 0, 7, by decide⟩,
    ⟨tst fun d => (({ d with fab := { (d.holding { tFrame 0 0 15 7 [1, 2] with looked := false, tail := false, copies := [] }).fab with banks := [(1, [(0x20030, 3), (0x50000, 0x1000), (0x50004, 2), (0x50014, 2)])] } } : Dev)), 0, 0, 0, { tFrame 0 0 15 7 [1, 2] with looked := false, tail := false, copies := [] }, by decide⟩,
    ⟨tst fun d => ({ d with fab := { (d.holding { tFrame 0 0 15 7 [1, 2] with looked := false, tail := false, copies := [] }).fab with banks := [(1, [(0x50000, 0x1000), (0x50004, 2), (0x50014, 2)])] } } : Dev), 0, 0, { tFrame 0 0 15 7 [1, 2] with looked := false, tail := false, copies := [] }, by decide⟩,
    ⟨tst fun d => d.holding { tFrame 0 0 15 7 [1, 2] with tail := false, fcsOk := false, copies := [{ tCopy 15 7 with sending := true }] }, 0, 0, { tFrame 0 0 15 7 [1, 2] with tail := false, fcsOk := false, copies := [{ tCopy 15 7 with sending := true }] }, by decide⟩⟩

theorem wit_FabricCommandsTakeEffect_part2 :
    (∃ (s : State) (dt id : Nat) (f : Frame), let d := s.now dt
    d.frame id = some f ∧ f.looked = true ∧ f.tail = false ∧ f.fcsOk = true ∧ f.icvOk = true ∧ f.lenBad = false ∧ f.tooLong = false ∧ f.mir = none ∧ f.rcv = none ∧ f.heldDup = false ∧ f.rest = none ∧ f.copies ≠ []) ∧
    (∃ (s : State) (dt p : Nat) (f : Frame) (c : Copy), let d := s.now dt
    let g := d.shaper p
    let body := egressBytes f c (tget 0 g.fab.acfSeq (Config.portMac p + 2 ^ 48 * ((c.acf.map (·.uid)).getD 0)))
    let l := body ++ List.replicate (60 - body.length) 0
    (p < 16 ∨ (45 ≤ p ∧ p < 48)) ∧ d.sendingClass p = none ∧ (p < 36 → d.on (PORT_STS_LINK p) = true ∧ d.fld (SID_PORT_STS_STATE p) = 0) ∧ d.nextCopy p = some (f, c) ∧ c.port = p ∧ c.mirror = false ∧ f.kind = 0 ∧ g.putsTag c = false ∧ g.txSa p body = none ∧ g.tcEvent f body = none) ∧
    (∃ (s : State) (dt p : Nat), let d := s.now dt
    (p < 16 ∨ (45 ≤ p ∧ p < 48)) ∧ ((d.sendingClass p).isSome = true ∨ d.nextCopy p = none)) ∧
    (∃ (s : State) (dt p : Nat) (f : Frame) (c : Copy), let d := s.now dt
    (p < 16 ∨ (45 ≤ p ∧ p < 48)) ∧ d.inProgress p = some (f, c) ∧ f.tail = true ∧ c.port = p) :=
  ⟨⟨tst fun d => d.holding { tFrame 0 0 15 7 [1, 2] with tail := false, kind := 1 }, 0, 0, { tFrame 0 0 15 7 [1, 2] with tail := false, kind := 1 }, by decide⟩,
    ⟨tst fun d => (d.set (PORT_STS_LINK 15)).holding (tFrame 0 0 15 7 [1, 2]), 0, 15, tFrame 0 0 15 7 [1, 2], tCopy 15 7, by decide⟩,
    ⟨State.reset, 0, 47, by decide⟩,
    ⟨tst fun d => d.holding { tFrame 0 0 15 7 [1, 2] with copies := [{ tCopy 15 7 with sending := true }] }, 0, 15, { tFrame 0 0 15 7 [1, 2] with copies := [{ tCopy 15 7 with sending := true }] }, { tCopy 15 7 with sending := true }, by decide⟩⟩

theorem wit_BankAndStreamCommandsTakeEffect_part1 :
    (∃ (s : State) (dt v : Nat) (a : Sys2Proof.Acc), let d := s.now dt
    d.mayWrite s.mem a LKP_FLIP ∧ bits 31 16 v = 0xE90C ∧ bits 1 0 v = 1 ∧ d.on LKP_STS_PENDING = false ∧ d.fld LKP_STS_DRAIN_BANK = 3) ∧
    (∃ (s : State) (dt v : Nat) (a : Sys2Proof.Acc), let d := s.now dt
    d.mayWrite s.mem a LKP_FLIP ∧ bits 31 16 v = 0xE90C ∧ bits 1 0 v = 2 ∧ d.on LKP_STS_PENDING = false ∧ d.canFlip = true) ∧
    (∃ (s : State) (dt v : Nat) (a : Sys2Proof.Acc), let d := s.now dt
    d.mayWrite s.mem a LKP_FLIP ∧ bits 31 16 v = 0xE90C ∧ bits 1 0 v = 2 ∧ d.on LKP_STS_PENDING = false ∧ d.canFlip = true) ∧
    (∃ (s : State) (dt : Nat), let d := s.now dt
    d.on LKP_STS_PENDING = true ∧ d.canFlip = true ∧ (d.fab.flip = some 2 ∨ (d.stg.nextTick ≤ d.domNs + 2 ∧ d.boot.phase = .sealed))) ∧
    (∃ (s : State) (dt i : Nat), let d := s.now dt
    d.fab.sync = some i ∧ d.fab.flip = none) ∧
    (∃ (s : State) (dt : Nat), let d := s.now dt
    d.fld LKP_STS_DRAIN_BANK ≠ 3 ∧ d.fld LKP_CTL_DRAIN_TMO ≤ d.fab.drainTicks) ∧
    (∃ (s : State) (dt v : Nat) (a : Sys2Proof.Acc), let d := s.now dt
    d.mayWrite s.mem a LKP_FRER_RST ∧ bits 31 16 v = 0xF2E5) ∧
    (∃ (s : State) (dt i : Nat), let d := s.now dt
    i < 256 ∧ (tget FrerRec.reset d.fab.frer i).takeAny = false ∧ (tget FrerRec.reset d.fab.frer i).at_ + 1000000 * bits 31 16 (d.active.frer i 0) ≤ d.up) :=
  ⟨⟨tst fun d => (d.clr LKP_STS_PENDING).put LKP_STS_DRAIN_BANK 3, 0, 0xE90C0001, ⟨8, true, 0⟩, by decide⟩,
    ⟨tst fun d => ((d.clr LKP_STS_PENDING).put LKP_STS_DRAIN_BANK 3).put LKP_STS_SHADOW_BANK 1, 0, 0xE90C0002, ⟨8, true, 0⟩, by decide⟩,
    ⟨tst fun d => ((d.clr LKP_STS_PENDING).put LKP_STS_DRAIN_BANK 3).put LKP_STS_SHADOW_BANK 1, 0, 0xE90C0002, ⟨8, true, 0⟩, by decide⟩,
    ⟨tst fun d => ({ (((d.set LKP_STS_PENDING).put LKP_STS_DRAIN_BANK 3).put LKP_STS_SHADOW_BANK 1) with fab := { d.fab with flip := some 2 } } : Dev), 0, by decide⟩,
    ⟨tst fun d => ({ d with fab := { d.fab with sync := some 9 } } : Dev), 0, 9, by decide⟩,
    ⟨tst fun d => (d.put LKP_STS_DRAIN_BANK 0).clr LKP_CTL_DRAIN_TMO, 0, by decide⟩,
    ⟨State.reset, 0, 0xF2E5000F, ⟨8, true, 0⟩, by decide⟩,
    ⟨tst fun d => ({ d with fab := { d.fab with frer := [(255, { FrerRec.reset with takeAny := false })] } } : Dev), 0x10000000000, 255, by decide⟩⟩

theorem wit_BankAndStreamCommandsTakeEffect_part2 :
    ∃ (s : State) (dt g i : Nat), let d := s.now dt
    g < 64 ∧ i < 8 ∧ d.active.gateAt g ((d.domNs + 4) % d.cycleLen) = i :=
  ⟨State.reset, 0, 63, 0, by decide⟩

theorem wit_QueueCommandsTakeEffect :
    (∃ (s : State) (dt q v : Nat) (a : Sys2Proof.Acc), let d := s.now dt
    q < 528 ∧ d.mayWrite s.mem a (CQ_DB (qOwner q) (qIdx q)) ∧ d.qRole q ≠ 0 ∧ (v % 65536 + 65536 - d.qTail q) % 65536 < 32768 ∧ (v % 65536 + 65536 - d.qHead q) % 65536 ≤ d.ringSize q ∧ (let e : Dev := { (d.put (CQ_TAIL_COUNT (qOwner q) (qIdx q)) (v % 65536)) with       dead := d.dead.filter (· ≠ q), fab := { d.fab with donePend := d.fab.donePend.filter (· ≠ q) } }
    True)) ∧
    (∃ (s : State) (dt o n : Nat) (rest : List Nat), let d := s.now dt
    o < 9 ∧ d.txOrder o = n :: rest ∧ (d.sendHead s.mem (64 * o + n) false).1.on (CQ_STS_BUDGET_HOLD o n) = false ∧ (let x := d.sendHead s.mem (64 * o + n) false
    True)) ∧
    (∃ (s : State) (dt id p q : Nat) (f : Frame) (c : Copy), let d := s.now dt
    36 ≤ p ∧ p < 45 ∧ d.inProgress p = none ∧ d.nextDelivery p = some (f, c) ∧ c.queue = some q ∧ f.id = id ∧ (let r := Dev.takeHead q (d.qPosted q) d s.mem
    r.2.2 = true)) ∧
    (∃ (s : State) (dt : Nat) (r : Receipt) (rest : List Receipt), let d := s.now dt
    d.fab.receipts = r :: rest ∧ d.coachDown (qOwner r.sendQ) = false ∧ r.sendQ ∉ d.dead ∧ (let e := 64 * qOwner r.sendQ + d.fld (CQ_CFG_RCPT (qOwner r.sendQ) (qIdx r.sendQ)) %       (if qOwner r.sendQ = 8 then 16 else 64)
    d.qRole e = 4 ∧ d.qPosted e ≠ 0 ∧ (let x := Dev.complete { d with fab := { d.fab with receipts := rest } } s.mem e       ([portMask r.delivered % 2 ^ 32, portMask r.delivered / 2 ^ 32 + 65536 * (portMask r.attempted / 2 ^ 32),         1 + 2 * b2n (bit 1 (Dev.headWord { d with fab := { d.fab with receipts := rest } } s.mem e 2)) + 16 * 3 + 4096 * r.sendQ, portMask r.attempted % 2 ^ 32] ++         (if portMask r.delivered ≠ portMask r.attempted then r.wb.flag 3 else r.wb).words)
    True))) ∧
    (∃ (s : State) (dt k : Nat) (x : Sample), let d := s.now dt
    k < 4 ∧ d.qPosted (d.fld (OUTR_DEST_CFG_QUEUE k)) ≠ 0 ∧ (d.fab.samples.filter (fun x => x.waiting && x.dest == k)).head? = some x ∧ d.fabDown = false ∧ d.sampleRefused k (d.fld (OUTR_DEST_CFG_QUEUE k)) (d.fab.samples.filter (fun x => x.waiting && decide (x.dest < 4) && d.fld (OUTR_DEST_CFG_QUEUE x.dest) == d.fld (OUTR_DEST_CFG_QUEUE k))).length x = false) ∧
    (∃ (s : State) (dt p k v : Nat) (a : Sys2Proof.Acc), let d := s.now dt
    p < 44 ∧ k < 8 ∧ d.mayWrite s.mem a (OUTR_PORT_N p k)) :=
  ⟨⟨tst fun d => d.put (CQ_CFG_ROLE 8 15) 1, 0, 527, 1, ⟨8, true, 0⟩, by decide⟩,
    ⟨tst fun d => (d.put (CQ_CFG_ROLE 8 15) 1).put (CQ_TAIL_COUNT 8 15) 1, 0, 8, 15, [], by decide⟩,
    ⟨tstM (Mem.setWord (Mem.setWord (Mem.setWord [] 0 0x117FF000) 4 0x400000) (0x11560000 + 4 * 6143) 0x248) (fun d => ((d.put (CQ_CFG_ROLE 8 15) 3).put (CQ_TAIL_COUNT 8 15) 1).holding { tFrame 0 0 44 7 [1] with copies := [{ tCopy 44 7 with queue := some 527 }] }), 0, 0, 44, 527, { tFrame 0 0 44 7 [1] with copies := [{ tCopy 44 7 with queue := some 527 }] }, { tCopy 44 7 with queue := some 527 }, by decide⟩,
    ⟨tst fun d => ({ ((d.put (CQ_CFG_ROLE 8 0) 4).put (CQ_TAIL_COUNT 8 0) 1) with fab := { d.fab with receipts := [⟨527, [3], [3], (tFrame 0 0 0 0 []).wb⟩] } } : Dev), 0, ⟨527, [3], [3], (tFrame 0 0 0 0 []).wb⟩, [], by decide⟩,
    ⟨tst fun d => ({ ((((d.put (OUTR_DEST_CFG_QUEUE 3) 527).set (OUTR_DEST_CFG_EN 3)).put FAB_STS_PLANE_UP 3).put (CQ_TAIL_COUNT 8 15) 1) with fab := { d.fab with samples := [⟨3, 0, [1], (tFrame 0 0 0 0 []).wb, 0, none, true, false, true⟩] } } : Dev), 0, 3, ⟨3, 0, [1], (tFrame 0 0 0 0 []).wb, 0, none, true, false, true⟩, by decide⟩,
    ⟨State.reset, 0, 43, 7, 0, ⟨8, true, 0⟩, by decide⟩⟩

theorem wit_TowMirrorCommandsTakeEffect :
    (∃ (s : State) (dt v : Nat) (a : Sys2Proof.Acc), let d := s.now dt
    d.mayWrite s.mem a TOW_LEGACY_CTL ∧ d.on TOW_STS_SEALED_OFF = false ∧ d.gated 4 0 = false ∧ bit 0 v = true ∧ bit 1 v = false ∧ bit 2 v = false ∧ d.fld TOW_STS_STATE ≠ 2) ∧
    (∃ (s : State) (dt v : Nat) (a : Sys2Proof.Acc), let d := s.now dt
    d.mayWrite s.mem a TOW_LEGACY_CTL ∧ d.on TOW_STS_SEALED_OFF = false ∧ d.gated 4 0 = false ∧ bit 0 v = false ∧ bit 1 v = true ∧ bit 2 v = false ∧ d.fld TOW_STS_STATE = 1 ∧ d.towChecks = true) ∧
    (∃ (s : State) (dt v : Nat) (a : Sys2Proof.Acc), let d := s.now dt
    d.mayWrite s.mem a TOW_LEGACY_CTL ∧ d.on TOW_STS_SEALED_OFF = false ∧ d.gated 4 0 = false ∧ bit 0 v = false ∧ bit 1 v = false ∧ bit 2 v = true) ∧
    (∃ (s : State) (dt : Nat), let d := s.now dt
    d.fld TOW_STS_STATE = 1 ∧ d.gated 4 0 = false ∧ d.fab.towArm + 1000000 ≤ d.up) :=
  ⟨⟨State.reset, 0, 1, ⟨8, true, 0⟩, by decide⟩,
    ⟨tst fun d => (((d.put TOW_STS_STATE 1).put TOW_CFG_ALLOWED 0xFFF).put TOW_L_ANALYSIS_PORT 12).put TOW_L_ING_SRC_PORTS 1, 0, 2, ⟨8, true, 0⟩, by decide⟩,
    ⟨State.reset, 0, 4, ⟨8, true, 0⟩, by decide⟩,
    ⟨tst fun d => d.put TOW_STS_STATE 1, 0x1000000000, by decide⟩⟩

theorem wit_LinkCommandsTakeEffect_part1 :
    (∃ (s : State) (dt p rate sqi : Nat) (master : Bool), let d := s.now dt
    2 ≤ p ∧ p < 14 ∧ d.portOn p = true ∧ d.on (PORT_STS_LINK p) = false) ∧
    (∃ (s : State) (dt p : Nat), let d := s.now dt
    16 ≤ p ∧ p < 36 ∧ d.on (PORT_STS_LINK p) = true) ∧
    (∃ (s : State) (dt p : Nat), let d := s.now dt
    p < 2 ∧ d.portOn p = true ∧ d.on (PORT_STS_LINK p) = false) ∧
    (∃ (s : State) (dt : Nat), let d := s.now dt
    d.fld HPS_SUP_STS_RANGE ≠ 1 ∧ d.fld HPS_SUP_STS_RANGE ≠ 2 ∧ d.on (PORT_STS_CRANK_LIMIT 0) = true ∧ d.on (PORT_PHY_CFG_UPSHIFT 0) = false ∧ d.on (PORT_STS_CRANK_LIMIT 1) = false ∧ d.portOn 0 = true) ∧
    (∃ (s : State) (dt : Nat), let d := s.now dt
    (d.fld HPS_SUP_STS_RANGE = 1 ∨ d.fld HPS_SUP_STS_RANGE = 2 ∨ (d.on (PORT_STS_CRANK_LIMIT 0) = false ∧ d.on (PORT_STS_CRANK_LIMIT 1) = false))) ∧
    (∃ (s : State) (dt p v : Nat) (a : Sys2Proof.Acc), let d := s.now dt
    p < 2 ∧ d.mayWrite s.mem a (PORT_CTL p) ∧ v % 8 = 1 ∧ d.portOn p = true) ∧
    (∃ (s : State) (dt p v : Nat) (a : Sys2Proof.Acc), let d := s.now dt
    16 ≤ p ∧ p < 28 ∧ d.mayWrite s.mem a (PORT_CTL p) ∧ bit 1 v = true ∧ d.fld (PORT_CAN_STS_STATE p) = 3) ∧
    (∃ (s : State) (dt p v : Nat) (a : Sys2Proof.Acc), let d := s.now dt
    p < 16 ∧ d.mayWrite s.mem a (PORT_CTL p) ∧ bit 0 v = false ∧ bit 2 v = true ∧ d.on (PORT_STS_LINK p) = false ∧ d.portOn p = true) :=
  ⟨⟨tst fun d => (d.set (PORT_CFG_EN 13)).clr (PORT_CFG_OWNER 13), 0, 13, 0, 5, true, by decide⟩,
    ⟨tst fun d => d.set (PORT_STS_LINK 35), 0, 35, by decide⟩,
    ⟨tst fun d => (d.set (PORT_CFG_EN 1)).clr (PORT_CFG_OWNER 1), 0, 1, by decide⟩,
    ⟨tst fun d => ((d.set (PORT_STS_CRANK_LIMIT 0)).set (PORT_CFG_EN 0)).clr (PORT_CFG_OWNER 0), 0, by decide⟩,
    ⟨State.reset, 0, by decide⟩,
    ⟨tst fun d => (d.set (PORT_CFG_EN 1)).clr (PORT_CFG_OWNER 1), 0, 1, 1, ⟨8, true, 0⟩, by decide⟩,
    ⟨tst fun d => d.put (PORT_CAN_STS_STATE 27) 3, 0, 27, 2, ⟨8, true, 0⟩, by decide⟩,
    ⟨tst fun d => (d.set (PORT_CFG_EN 15)).clr (PORT_CFG_OWNER 15), 0, 15, 4, ⟨8, true, 0⟩, by decide⟩⟩

theorem wit_LinkCommandsTakeEffect_part2 :
    (∃ (s : State) (dt p cable dist : Nat), let d := s.now dt
    p < 16 ∧ d.fld (PORT_PHY_STS_TRAIN p) = 4) ∧
    (∃ (s : State) (dt p : Nat), let d := s.now dt
    (p = 14 ∨ p = 15) ∧ d.on (PORT_PLCA_CFG_EN p) = true ∧ d.fld (PORT_PLCA_CFG_NODE_ID p) ≠ 0 ∧ d.on (PORT_PLCA_STS_STATUS p) = true) ∧
    (∃ (s : State) (dt p : Nat), let d := s.now dt
    (p = 14 ∨ p = 15) ∧ d.on (PORT_PLCA_CFG_EN p) = true ∧ d.fld (PORT_PLCA_CFG_NODE_ID p) ≠ 0 ∧ d.portOn p = true) ∧
    (∃ (s : State) (dt p v : Nat) (a : Sys2Proof.Acc), let d := s.now dt
    p < 6 ∧ d.mayWrite s.mem a (PORT_MSEC_TXSA p)) :=
  ⟨⟨tst fun d => d.put (PORT_PHY_STS_TRAIN 15) 4, 0, 15, 1, 7, by decide⟩,
    ⟨tst fun d => (((d.set (PORT_PLCA_CFG_EN 15)).put (PORT_PLCA_CFG_NODE_ID 15) 1).set (PORT_PLCA_STS_STATUS 15)), 0, 15, by decide⟩,
    ⟨tst fun d => (((d.set (PORT_PLCA_CFG_EN 14)).put (PORT_PLCA_CFG_NODE_ID 14) 1).set (PORT_CFG_EN 14)).clr (PORT_CFG_OWNER 14), 0, 14, by decide⟩,
    ⟨State.reset, 0, 5, 3, ⟨8, true, 0⟩, by decide⟩⟩

theorem wit_BusCommandsTakeEffect_part1 :
    (∃ (s : State) (dt p ts256 : Nat) (car : List Nat), let d := s.now dt
    16 ≤ p ∧ p < 28 ∧ d.on (PORT_STS_LINK p) = true ∧ d.portOwner p ≠ 15 ∧ d.sidAt p ts256 = 0 ∧ d.fld (SID_PORT_STS_STATE p) < 2 ∧ d.canFormat p car = true ∧ (d.countRx p (carDlen car)).fld (PORT_CAN_STS_REC p) ≤ 127 ∧ (d.countRx p (carDlen car)).canFrozen p = false) ∧
    (∃ (s : State) (dt p lec : Nat) (by8 : Bool), let d := s.now dt
    16 ≤ p ∧ p < 28 ∧ lec < 7 ∧ lec ≠ 0 ∧ d.on (PORT_STS_LINK p) = true ∧ (d.put (PORT_CAN_STS_LEC p) lec).canFrozen p = false) ∧
    (∃ (s : State) (dt p : Nat) (by8 : Bool), let d := s.now dt
    16 ≤ p ∧ p < 28 ∧ d.on (PORT_STS_LINK p) = true) ∧
    (∃ (s : State) (dt p : Nat) (f : Frame) (c : Copy), let d := s.now dt
    16 ≤ p ∧ p < 28 ∧ d.on (PORT_STS_LINK p) = true ∧ d.fld (SID_PORT_STS_STATE p) = 0 ∧ p ∉ d.sid.acting ∧ (d.canBufs p).length < 4 ∧ d.nextClose p 7 = none ∧ d.busHead p 7 = some (f, c)) ∧
    (∃ (s : State) (dt p : Nat) (b : CanBuf) (f : Frame), let d := s.now dt
    16 ≤ p ∧ p < 28 ∧ d.on (PORT_STS_LINK p) = true ∧ d.fld (SID_PORT_STS_STATE p) = 0 ∧ d.canFront p = some (b, f) ∧ ((d.dropBuf p b).countTx p (carDlen f.bytes) f.wb.len).canFrozen p = false) ∧
    (∃ (s : State) (dt p : Nat), let d := s.now dt
    16 ≤ p ∧ p < 28 ∧ d.fld (PORT_CAN_STS_STATE p) = 3 ∧ d.prt.recovering.contains p = true) ∧
    (∃ (s : State) (dt p k : Nat), let d := s.now dt
    16 ≤ p ∧ p < 36 ∧ k < 4 ∧ d.frm.beyvoUp = true ∧ d.portUsed p = true) ∧
    (∃ (s : State) (dt p k : Nat), let d := s.now dt
    16 ≤ p ∧ p < 36 ∧ k < 4 ∧ (d.frm.beyvoUp = false ∨ d.portUsed p = false)) :=
  ⟨⟨tst fun d => (d.set (PORT_STS_LINK 27)).clr (PORT_CFG_OWNER 27), 0, 27, 5, leBytes 4 1, by decide⟩,
    ⟨tst fun d => d.set (PORT_STS_LINK 27), 0, 27, 6, true, by decide⟩,
    ⟨tst fun d => d.set (PORT_STS_LINK 16), 0, 16, false, by decide⟩,
    ⟨tst fun d => (d.set (PORT_STS_LINK 27)).holding (tFrame 1 0 27 7 (List.replicate 16 0)), 0, 27, tFrame 1 0 27 7 (List.replicate 16 0), tCopy 27 7, by decide⟩,
    ⟨tst fun d => ({ ((d.set (PORT_STS_LINK 16)).holding (tFrame 1 0 16 7 (List.replicate 16 0))) with prt := { d.prt with canBuf := tset [] [⟨0, 5, 0⟩] 16 d.prt.canBuf } } : Dev), 0, 16, ⟨0, 5, 0⟩, tFrame 1 0 16 7 (List.replicate 16 0), by decide⟩,
    ⟨tst fun d => ({ (d.put (PORT_CAN_STS_STATE 27) 3) with prt := { d.prt with recovering := [27] } } : Dev), 0, 27, by decide⟩,
    ⟨tst fun d => ({ ((d.set (PORT_CFG_EN 35)).clr (PORT_CFG_OWNER 35)) with frm := { d.frm with beyvoUp := true } } : Dev), 0, 35, 3, by decide⟩,
    ⟨State.reset, 0, 35, 3, by decide⟩⟩

theorem wit_BusCommandsTakeEffect_part2 :
    (∃ (s : State) (dt p : Nat) (f : Frame) (c : Copy), let d := s.now dt
    28 ≤ p ∧ p < 36 ∧ d.busHead p 7 = some (f, c) ∧ d.fld (PORT_LIN_ID_DIR p (carId f.bytes % 64)) = 1 ∧ carDlen f.bytes = d.fld (PORT_LIN_ID_LEN p (carId f.bytes % 64))) ∧
    (∃ (s : State) (dt p ts256 pid : Nat) (syncOk : Bool), let d := s.now dt
    28 ≤ p ∧ p < 36 ∧ d.on (PORT_LIN_CFG_ROLE p) = false ∧ d.on (PORT_STS_LINK p) = true ∧ syncOk = false) ∧
    (∃ (s : State) (dt p ts256 pid : Nat) (syncOk : Bool), let d := s.now dt
    28 ≤ p ∧ p < 36 ∧ d.on (PORT_LIN_CFG_ROLE p) = false ∧ d.on (PORT_STS_LINK p) = true ∧ syncOk = true ∧ linPid (pid % 64) ≠ pid % 256) ∧
    (∃ (s : State) (dt p ts256 pid : Nat) (syncOk : Bool), let d := s.now dt
    28 ≤ p ∧ p < 36 ∧ d.on (PORT_LIN_CFG_ROLE p) = false ∧ d.on (PORT_STS_LINK p) = true ∧ syncOk = true ∧ linPid (pid % 64) = pid % 256 ∧ d.linPublishes p (pid % 64) = false) ∧
    (∃ (s : State) (dt p : Nat) (n : LinNow), let d := s.now dt
    28 ≤ p ∧ p < 36 ∧ d.on (PORT_STS_LINK p) = true ∧ d.linBusy p = some n ∧ (d.linEnd p).fld (PORT_LIN_ID_DIR p n.id) = 2 ∧ ((d.linEnd p).linError p (PORT_LIN_STS_NO_RESP p)).on (PORT_LIN_ID_REPORT_NO_RESP p n.id) = false) ∧
    (∃ (s : State) (dt n : Nat), let d := s.now dt
    n < 256 ∧ n ≠ 0 ∧ d.ttKind n = 3 ∧ d.fld (STG_TT_CTL_WORK n) = 1 ∧ d.ttApplies n d.phase = true ∧ 28 ≤ d.fld (STG_TT_CTL_PARAM n) ∧ d.fld (STG_TT_CTL_PARAM n) < 36 ∧ d.inStage (d.fld (STG_TT_START_NS n)) = true) ∧
    (∃ (s : State) (dt p v : Nat) (a : Sys2Proof.Acc), let d := s.now dt
    28 ≤ p ∧ p < 36 ∧ d.mayWrite s.mem a (PORT_LIN_SCHED p) ∧ d.on (PORT_LIN_SCHED_RUN p) = false ∧ bit 8 v = true ∧ bit 1 v = false) ∧
    (∃ (s : State) (dt p v : Nat) (a : Sys2Proof.Acc), let d := s.now dt
    28 ≤ p ∧ p < 36 ∧ d.mayWrite s.mem a (PORT_LIN_SCHED p) ∧ bit 8 v = d.on (PORT_LIN_SCHED_RUN p) ∧ bit 1 v = true ∧ (d.put (PORT_LIN_SCHED_RUN p) (b2n (bit 8 v))).on (PORT_LIN_SCHED_PENDING p) = false) :=
  ⟨⟨tst fun d => (d.put (PORT_LIN_ID_DIR 35 0) 1).holding (tFrame 1 0 35 7 (List.replicate 16 0)), 0, 35, tFrame 1 0 35 7 (List.replicate 16 0), tCopy 35 7, by decide⟩,
    ⟨tst fun d => d.set (PORT_STS_LINK 35), 0, 35, 0, 0, false, by decide⟩,
    ⟨tst fun d => d.set (PORT_STS_LINK 28), 0, 28, 0, 0, true, by decide⟩,
    ⟨tst fun d => d.set (PORT_STS_LINK 28), 0, 28, 0, 128, true, by decide⟩,
    ⟨tst fun d => ({ ((d.put (PORT_LIN_ID_DIR 35 3) 2).set (PORT_STS_LINK 35)) with prt := { d.prt with linNow := [(35, { id := 3, type := 0, ts256 := 0, pub := false, gts := false, st := 0 })] } } : Dev), 0, 35, { id := 3, type := 0, ts256 := 0, pub := false, gts := false, st := 0 }, by decide⟩,
    ⟨tst fun d => ({ (((d.put (STG_TT_CTL_WORK 255) 1).put (STG_TT_CTL_PARAM 255) 35).put (STG_TT_CTL_KIND 255) 3) with stg := { d.stg with lastTick := some 0 } } : Dev), 0, 255, by decide⟩,
    ⟨State.reset, 0, 35, 256, ⟨8, true, 0⟩, by decide⟩,
    ⟨State.reset, 0, 35, 2, ⟨8, true, 0⟩, by decide⟩⟩

theorem wit_SidingCommandsTakeEffect_part1 :
    (∃ (s : State) (dt p v : Nat) (a : Sys2Proof.Acc), let d := s.now dt
    p < 36 ∧ d.mayWrite s.mem a (SID_PORT_CTL p) ∧ v % 8 = 0 ∧ ((d.put (SID_PORT_CTL_REQ p) 0).put (SID_PORT_CTL_AT_TICK p) 0).fld SID_STS_STATE = 0) ∧
    (∃ (s : State) (dt p v : Nat) (a : Sys2Proof.Acc), let d := s.now dt
    p < 36 ∧ d.mayWrite s.mem a (SID_PORT_CTL p) ∧ v % 8 = 1 ∧ ((d.put (SID_PORT_CTL_REQ p) 1).put (SID_PORT_CTL_AT_TICK p) 0).fld SID_STS_STATE = 0) ∧
    (∃ (s : State) (dt p v : Nat) (a : Sys2Proof.Acc), let d := s.now dt
    p < 36 ∧ d.mayWrite s.mem a (SID_PORT_CTL p) ∧ v % 8 = 2 ∧ ((d.put (SID_PORT_CTL_REQ p) 2).put (SID_PORT_CTL_AT_TICK p) 0).fld SID_STS_STATE = 0) ∧
    (∃ (s : State) (dt p : Nat), let d := s.now dt
    p < 16 ∧ p ∈ d.sid.acting) ∧
    (∃ (s : State) (dt : Nat), let d := s.now dt
    d.fld SID_STS_STATE = 3) ∧
    (∃ (s : State) (dt : Nat), let d := s.now dt
    d.fld SID_STS_STATE = 1 ∧ d.on SID_SLEEP_CFG_TMO_ABORT = true ∧ d.sid.enteredAt + 1000000 * d.fld SID_SLEEP_CFG_PRE_TMO_MS ≤ d.up) ∧
    (∃ (s : State) (dt src cause : Nat) (sig : WakeSignal) (c : WakeCfg) (e : Dev), let d := s.now dt
    src < 44 ∧ d.srcArmed src = some c ∧ d.srcWorks src c.mode = true ∧ d.wakeSeen src c sig = (some cause, e) ∧ e.sid.asleep = 1 ∧ e.sid.noted = true ∧ e.goesFirst src = false) ∧
    (∃ (s : State) (dt bootsel : Nat) (meshOk : Bool), let d := s.now dt
    bootsel < 4 ∧ d.sid.asleep = 1 ∧ d.sid.noted = true) :=
  ⟨⟨State.reset, 0, 35, 0, ⟨8, true, 0⟩, by decide⟩,
    ⟨State.reset, 0, 35, 1, ⟨8, true, 0⟩, by decide⟩,
    ⟨State.reset, 0, 35, 2, ⟨8, true, 0⟩, by decide⟩,
    ⟨tst fun d => ({ d with sid := { d.sid with acting := [15] } } : Dev), 0, 15, by decide⟩,
    ⟨tst fun d => d.put SID_STS_STATE 3, 0, by decide⟩,
    ⟨tst fun d => (d.put SID_STS_STATE 1).set SID_SLEEP_CFG_TMO_ABORT, 0x1000000000, by decide⟩,
    ⟨tst fun d => ({ d with sid := { d.sid with asleep := 1, noted := true, armed := [(13, ⟨0, 0, 0, 0, 0, 0, 0⟩)] } } : Dev), 0, 13, 6, .pulse, ⟨0, 0, 0, 0, 0, 0, 0⟩, (tst fun d => ({ d with sid := { d.sid with asleep := 1, noted := true, armed := [(13, ⟨0, 0, 0, 0, 0, 0, 0⟩)] } } : Dev)).now 0, by decide⟩,
    ⟨tst fun d => ({ d with sid := { d.sid with asleep := 1, noted := true } } : Dev), 0, 3, false, by decide⟩⟩

theorem wit_SidingCommandsTakeEffect_part2 :
    (∃ (s : State) (dt v : Nat) (a : Sys2Proof.Acc), let d := s.now dt
    d.mayWrite s.mem a SID_CONFIRM ∧ bits 5 0 v < 36 ∧ (a.guard = true ∨ a.owner = d.portOwner (bits 5 0 v)) ∧ d.fld (SID_SRC_STS_STATE (bits 5 0 v)) = 1) ∧
    (∃ (s : State) (dt src : Nat), let d := s.now dt
    src < 36 ∧ d.fld (SID_SRC_STS_STATE src) = 1 ∧ d.fld (SID_SRC_STS_FW_CNT src) + 1 < d.sidKept.fw % 16 ∧ tget 0 d.sid.confAt src - 1 + 1000000 * (d.sidKept.confirm % 65536) ≤ d.up) ∧
    (∃ (s : State) (dt src : Nat), let d := s.now dt
    src < 36 ∧ d.fld (SID_SRC_STS_STATE src) = 1 ∧ d.sidKept.fw % 16 ≤ d.fld (SID_SRC_STS_FW_CNT src) + 1 ∧ tget 0 d.sid.confAt src - 1 + 1000000 * (d.sidKept.confirm % 65536) ≤ d.up) ∧
    (∃ (s : State) (dt src : Nat), let d := s.now dt
    src < 36 ∧ d.fld (SID_SRC_STS_STATE src) = 2 ∧ d.sid.asleep ≠ 2 ∧ tget 0 d.sid.lockEnd src ≤ d.up) ∧
    (∃ (s : State) (dt p : Nat), let d := s.now dt
    16 ≤ p ∧ p < 36 ∧ tget 0 d.sid.standby p ≠ 0 ∧ tget 0 d.sid.standby p - 1 + 1000000 * (d.sidKept.fs % 65536) ≤ d.up ∧ d.frm.beyvoUp = false ∧ d.log.aoQueue.length < 16) :=
  ⟨⟨tst fun d => d.put (SID_SRC_STS_STATE 35) 1, 0, 35, ⟨8, true, 0⟩, by decide⟩,
    ⟨tst fun d => (d.put (SID_SRC_STS_STATE 35) 1).put SID_FW_CFG_FW_LIMIT 2, 0x1000000000, 35, by decide⟩,
    ⟨tst fun d => d.put (SID_SRC_STS_STATE 35) 1, 0x1000000000, 35, by decide⟩,
    ⟨tst fun d => d.put (SID_SRC_STS_STATE 35) 2, 0, 35, by decide⟩,
    ⟨tst fun d => ({ d with sid := { d.sid with standby := [(35, 1)] }, frm := { d.frm with beyvoUp := false } } : Dev), 0x1000000000, 35, by decide⟩⟩

theorem wit_ChannelCommandsTakeEffect_part1 :
    (∃ (s : State) (dt i v : Nat) (a : Sys2Proof.Acc), let d := s.now dt
    i < 40 ∧ d.mayWrite s.mem a (CHAN_CMD i) ∧ d.chanOwner i ≠ 15 ∧ d.fld (CHAN_CFG_MODE i) = 0 ∧ d.pairOdd i = false ∧ bits 4 3 v = 1) ∧
    (∃ (s : State) (dt i v : Nat) (a : Sys2Proof.Acc), let d := s.now dt
    i < 40 ∧ d.mayWrite s.mem a (CHAN_CMD i) ∧ d.chanOwner i ≠ 15 ∧ d.fld (CHAN_CFG_MODE i) = 0 ∧ d.pairOdd i = false ∧ bits 4 3 v = 1) ∧
    (∃ (s : State) (dt i v : Nat) (a : Sys2Proof.Acc), let d := s.now dt
    i < 40 ∧ d.mayWrite s.mem a (CHAN_CMD i) ∧ d.chanOwner i ≠ 15 ∧ d.fld (CHAN_CFG_MODE i) = 0 ∧ d.pairOdd i = false ∧ d.pairEven i = false ∧ d.on (CHAN_PWM_EN i) = true ∧ bits 4 3 v = 1) ∧
    (∃ (s : State) (dt i v : Nat) (a : Sys2Proof.Acc), let d := s.now dt
    i < 40 ∧ d.mayWrite s.mem a (CHAN_CMD i) ∧ d.chanOwner i ≠ 15 ∧ d.fld (CHAN_CFG_MODE i) = 0 ∧ d.pairOdd i = false ∧ d.pairEven i = false ∧ d.on (CHAN_PWM_EN i) = true ∧ bits 4 3 v = 1) ∧
    (∃ (s : State) (dt i v : Nat) (a : Sys2Proof.Acc), let d := s.now dt
    i < 40 ∧ d.mayWrite s.mem a (CHAN_CMD i) ∧ d.chanOwner i ≠ 15 ∧ d.fld (CHAN_CFG_MODE i) = 0 ∧ d.pairOdd i = false ∧ d.pairEven i = true ∧ bits 4 3 v = 1) ∧
    (∃ (s : State) (dt i v : Nat) (a : Sys2Proof.Acc), let d := s.now dt
    i < 40 ∧ d.mayWrite s.mem a (CHAN_CMD i) ∧ d.chanOwner i ≠ 15 ∧ d.fld (CHAN_CFG_MODE i) = 0 ∧ d.pairOdd i = false ∧ d.pairEven i = true ∧ bits 4 3 v = 1) ∧
    (∃ (s : State) (dt c : Nat), let d := s.now dt
    c < 8 ∧ d.cadDue c = true) ∧
    (∃ (s : State) (dt c i start : Nat), let d := s.now dt
    c < 8 ∧ i < 40 ∧ (d.chan i).onAt = some start ∧ start ≤ d.cadNs) :=
  ⟨⟨tst fun d => d.clr (CHAN_CFG_OWNER 39), 0, 39, 9, ⟨8, true, 0⟩, by decide⟩,
    ⟨tst fun d => d.clr (CHAN_CFG_OWNER 0), 0, 0, 10, ⟨8, true, 0⟩, by decide⟩,
    ⟨tst fun d => (d.set (CHAN_PWM_EN 39)).clr (CHAN_CFG_OWNER 39), 0, 39, 0xFFFF000B, ⟨8, true, 0⟩, by decide⟩,
    ⟨tst fun d => (d.set (CHAN_PWM_EN 0)).clr (CHAN_CFG_OWNER 0), 0, 0, 12, ⟨8, true, 0⟩, by decide⟩,
    ⟨tst fun d => (d.set (CHAN_GD_CFG_PAIR 24)).clr (CHAN_CFG_OWNER 24), 0, 24, 13, ⟨8, true, 0⟩, by decide⟩,
    ⟨tst fun d => (d.set (CHAN_GD_CFG_PAIR 38)).clr (CHAN_CFG_OWNER 38), 0, 38, 14, ⟨8, true, 0⟩, by decide⟩,
    ⟨tst fun d => d.put (CHAN_CAD_CFG_PERIOD 7) 100, 0, 7, by decide⟩,
    ⟨tst fun d => ({ (d.modChan 39 fun c => { c with onAt := some 7 }) with tim := { d.tim with dev := 2 ^ 20 } } : Dev), 0, 7, 39, 7, by decide⟩⟩

theorem wit_ChannelCommandsTakeEffect_part2 :
    (∃ (s : State) (dt i e : Nat), let d := s.now dt
    i < 40 ∧ (d.chan i).offAt = some e ∧ e ≤ d.cadNs) ∧
    (∃ (s : State) (dt i : Nat) (a : Sys2Proof.Acc), let d := s.now dt
    i < 40 ∧ d.mayWrite s.mem a (CHAN_CTL i)) ∧
    (∃ (s : State) (dt i : Nat) (a : Sys2Proof.Acc), let d := s.now dt
    i < 40 ∧ d.mayWrite s.mem a (CHAN_CTL i)) ∧
    (∃ (s : State) (dt i : Nat) (cur volt voltOdd supply tj : Int), let d := s.now dt
    i < 40 ∧ d.pairOdd i = false ∧ (d.takeReading i cur volt voltOdd tj).fld (CHAN_CFG_MODE i) ≠ 1 ∧ (d.takeReading i cur volt voltOdd tj).isOutput i = false ∧ d.hvRuns = true) ∧
    (∃ (s : State) (dt i : Nat) (cur volt voltOdd supply tj : Int), let d := s.now dt
    i < 40 ∧ d.pairOdd i = true ∧ (d.put (CHAN_TJ_TEMP i) (unsgn 16 tj)).isOutput (i - 1) = false ∧ d.hvRuns = true) :=
  ⟨⟨tst fun d => ({ (d.modChan 39 fun c => { c with offAt := some 7 }) with tim := { d.tim with dev := 2 ^ 20 } } : Dev), 0, 39, 7, by decide⟩,
    ⟨State.reset, 0, 39, ⟨8, true, 0⟩, by decide⟩,
    ⟨State.reset, 0, 39, ⟨8, true, 0⟩, by decide⟩,
    ⟨tst fun d => d.put (CHAN_CFG_MODE 39) 3, 0, 39, -5, 7, 0, 0, 250, by decide⟩,
    ⟨tst fun d => d.set (CHAN_GD_CFG_PAIR 38), 0, 39, -5, 7, 0, 0, 250, by decide⟩⟩

theorem wit_ProtectionCommandsTakeEffect_part1 :
    (∃ (s : State) (dt i : Nat) (seen : ScInput), let d := s.now dt
    i < 40 ∧ d.isOutput i = true ∧ d.out i = true ∧ d.scCrossed i seen = true) ∧
    (∃ (s : State) (dt i : Nat), let d := s.now dt
    i < 40 ∧ (d.chan i).blocking = true ∧ 1000 ≤ (d.chan i).fwdV) ∧
    (∃ (s : State) (dt i : Nat), let d := s.now dt
    let ms := if (d.chan i).mCnt = 0 then 0 else (d.chan i).mSq / (d.chan i).mCnt
    let th := relax (d.chan i).theta (d.wireDrive i ms) (100 * d.fld (CHAN_HARN_CFG_TAU i))
    i < 40 ∧ d.isOutput i = true) ∧
    (∃ (s : State) (dt i : Nat), let d := s.now dt
    let ms := if (d.chan i).mCnt = 0 then 0 else (d.chan i).mSq / (d.chan i).mCnt
    let th := relax (d.chan i).theta (d.wireDrive i ms) (100 * d.fld (CHAN_HARN_CFG_TAU i))
    i < 40 ∧ d.isOutput i = true ∧ d.on (CHAN_STS_HARNESS i) = false ∧ ((d.fld (CHAN_HARN_LIM_T_MAX i) * kelvin : Nat) : Int) ≤ d.tAmb + (th : Int)) ∧
    (∃ (s : State) (dt i : Nat), let d := s.now dt
    i < 40 ∧ d.on (CHAN_STS_RETRY i) = true ∧ ((d.chan i).tripAt + 1000000 * d.fld (CHAN_RETRY_CFG_DELAY_MS i)) / 10 < d.up / 10 ∧ (d.chan i).freed ≤ d.up / 10 * 10 ∧ d.on (CHAN_STS_LATCHED i) = false ∧ d.on (CHAN_STS_SHED i) = false ∧ d.on (CHAN_STS_HARNESS i) = false ∧ d.on (CHAN_STS_THERMAL i) = false ∧ (d.requested i).kind ≠ 0) ∧
    (∃ (s : State) (dt i : Nat), let d := s.now dt
    i < 40 ∧ (d.chan i).envStart.isSome = true ∧ d.held i = false ∧ 1000000000 * d.fld (CHAN_GOOD_S_GOOD_S i) ≤ d.conducted i) ∧
    (∃ (s : State) (dt i : Nat) (a : Sys2Proof.Acc), let d := s.now dt
    i < 40 ∧ d.mayWrite s.mem a (CHAN_PCTL i) ∧ d.on (CHAN_STS_LATCHED i) = true ∧ d.on (CHAN_STS_HARNESS i) = false ∧ d.on (CHAN_STS_THERMAL i) = false) ∧
    (∃ (s : State) (dt i : Nat) (a : Sys2Proof.Acc), let d := s.now dt
    i < 40 ∧ d.mayWrite s.mem a (CHAN_PCTL i) ∧ d.on (CHAN_STS_LATCHED i) = true ∧ (d.on (CHAN_STS_HARNESS i) = true ∨ d.on (CHAN_STS_THERMAL i) = true)) :=
  ⟨⟨tst fun d => (d.set (CHAN_STS_OUT 39)).clr (CHAN_CFG_OWNER 39), 0, 39, .current (2 ^ 60), by decide⟩,
    ⟨tst fun d => d.modChan 38 fun c => { c with blocking := true, fwdV := 1000 }, 0, 38, by decide⟩,
    ⟨tst fun d => (d.clr (CHAN_CFG_OWNER 39)).modChan 39 fun c => { c with mCnt := 4, mSq := 40 }, 0, 39, by decide⟩,
    ⟨tst fun d => ((d.clr (CHAN_CFG_OWNER 39)).put (CHAN_HARN_LIM_T_MAX 39) 0).modChan 39 fun c => { c with theta := 10 ^ 15 }, 0, 39, by decide⟩,
    ⟨tst fun d => ({ ((d.set (CHAN_STS_RETRY 39)).put (CHAN_STS_CMD 39) 1) with up := 10000000000 } : Dev), 0, 39, by decide⟩,
    ⟨tst fun d => ({ (d.modChan 39 fun c => { c with envStart := some 0 }) with up := 10000000000000 } : Dev), 0, 39, by decide⟩,
    ⟨tst fun d => d.set (CHAN_STS_LATCHED 39), 0, 39, ⟨8, true, 0⟩, by decide⟩,
    ⟨tst fun d => (d.set (CHAN_STS_LATCHED 0)).set (CHAN_STS_THERMAL 0), 0, 0, ⟨8, true, 0⟩, by decide⟩⟩

theorem wit_ProtectionCommandsTakeEffect_part2 :
    (∃ (s : State) (dt i : Nat), let d := s.now dt
    i < 40 ∧ d.isOutput i = true ∧ d.on (CHAN_DIAG_CFG_OL_OFF_EN i) = true ∧ d.out i = false ∧ d.mayOut i = false ∧ d.testDue i = true) ∧
    (∃ (s : State) (dt i : Nat) (volt : Int), let d := s.now dt
    i < 40 ∧ (d.chan i).testing = true ∧ (d.chan i).testAt.all (fun t => t + d.testLen ≤ d.up) = true) ∧
    (∃ (s : State) (dt logic : Nat), let d := s.now dt
    d.hvRuns = true) ∧
    (∃ (s : State) (dt logic : Nat), let d := s.now dt
    let est := d.estimates logic
    d.hvRuns = true) ∧
    (∃ (s : State) (dt logic : Nat), let d := s.now dt
    let est := d.estimates logic
    reached est d.shedThr = [] ∧ d.hvRuns = true) ∧
    (∃ (s : State) (dt logic k i : Nat), let d := s.now dt
    let est := d.estimates logic
    (reached est d.shedThr).find? (fun k => !(d.shedCands k).isEmpty) = some k ∧ d.shedPick (d.shedCands k) = some i ∧ d.hvRuns = true) ∧
    (∃ (s : State) (dt i : Nat), let d := s.now dt
    d.hv.budBelow = true ∧ d.fld HPS_BUD_GRP_REL_MS ≤ d.hv.budRelMs ∧ d.releasePick = some i) ∧
    (∃ (s : State) (dt : Nat), let d := s.now dt
    d.hvRuns = true) :=
  ⟨⟨tst fun d => ({ ((d.set (CHAN_DIAG_CFG_OL_OFF_EN 39)).clr (CHAN_CFG_OWNER 39)) with tim := { d.tim with dev := 2 ^ 40 }, stg := { d.stg with lastTick := some 0 } } : Dev), 0, 39, by decide⟩,
    ⟨tst fun d => d.modChan 39 fun c => { c with testing := true }, 0, 39, 2500001, by decide⟩,
    ⟨State.reset, 0, 7, by decide⟩,
    ⟨State.reset, 0, 7, by decide⟩,
    ⟨State.reset, 0, 7, by decide⟩,
    ⟨tst fun d => (((((d.clr (CHAN_CFG_OWNER 12)).set (CHAN_STS_OUT 12)).put (CHAN_SHED_CFG_SHED_PRIO 12) 0).put HPS_BUD_CFG_P_SHED 0).put HPS_BUD_CFG_I_SHED 1).modChan 12 fun c => { c with bCnt := 1, bSum := 2000000 }, 0, 0, 1, 12, by decide⟩,
    ⟨tst fun d => ({ (d.set (CHAN_STS_SHED 39)) with hv := { d.hv with budBelow := true, budRelMs := 100000 } } : Dev), 0, 39, by decide⟩,
    ⟨State.reset, 0, by decide⟩⟩

theorem wit_LinkAndWatchdogCommandsTakeEffect_part1 :
    (∃ (s : State) (dt bad good : Nat) (again : Bool), let d := s.now dt
    d.on HLK_STS_UP = true ∧ d.frm.beyvoUp = true) ∧
    (∃ (s : State) (dt lanes : Nat), let d := s.now dt
    d.on HLK_STS_UP = false ∧ lanes % 16 ≠ 0 ∧ d.frm.beyvoUp = true) ∧
    (∃ (s : State) (dt v : Nat) (a : Sys2Proof.Acc), let d := s.now dt
    d.mayWrite s.mem a HLK_CW_WORD ∧ d.on HLK_CW_STS_ARMED = false) ∧
    (∃ (s : State) (dt v : Nat) (a : Sys2Proof.Acc), let d := s.now dt
    d.mayWrite s.mem a HLK_CW_WORD ∧ d.on HLK_CW_STS_ARMED = true ∧ v = coachmanWord (d.fld HLK_CW_SEED_SEED) (d.fld HLK_CW_SEED_SEQ) (d.fld HLK_CW_CFG_KEY) ∧ d.on HLK_CW_CFG_EARLY = false) ∧
    (∃ (s : State) (dt v : Nat) (a : Sys2Proof.Acc), let d := s.now dt
    d.mayWrite s.mem a HLK_CW_WORD ∧ d.on HLK_CW_STS_ARMED = true ∧ v ≠ coachmanWord (d.fld HLK_CW_SEED_SEED) (d.fld HLK_CW_SEED_SEQ) (d.fld HLK_CW_CFG_KEY)) ∧
    (∃ (s : State) (dt : Nat), let d := s.now dt
    d.on HLK_CW_STS_ARMED = true ∧ d.hv.cwStart + d.cwWindow ≤ d.up) ∧
    (∃ (s : State) (dt v : Nat) (a : Sys2Proof.Acc), let d := s.now dt
    d.mayWrite s.mem a HLK_DS_CTL ∧ bits 31 16 v = 0xD5A0 ∧ bit 0 v = true ∧ (d.fld HLK_DS_STS_CAUSE = 1 ∨ d.fld HLK_DS_STS_CAUSE = 2) ∧ 2 ≤ d.hv.cwGood) ∧
    (∃ (s : State) (dt : Nat), let d := s.now dt
    d.on HLK_DS_STS_APPLIED = false ∧ d.on HLK_DS_STS_COAST = false ∧ d.fld HLK_COAST_CFG_COAST_MS ≠ 0 ∧ d.hvRuns = true) :=
  ⟨⟨tst fun d => d.set HLK_STS_UP, 0, 15, 0, true, by decide⟩,
    ⟨tst fun d => d.clr HLK_STS_UP, 0, 1, by decide⟩,
    ⟨State.reset, 0, 1, ⟨8, true, 0⟩, by decide⟩,
    ⟨tst fun d => (d.set HLK_CW_STS_ARMED).clr HLK_CW_CFG_EARLY, 0, coachmanWord (State.reset.dev.fld HLK_CW_SEED_SEED) 0 (State.reset.dev.fld HLK_CW_CFG_KEY), ⟨8, true, 0⟩, by decide⟩,
    ⟨tst fun d => d.set HLK_CW_STS_ARMED, 0, 0, ⟨8, true, 0⟩, by decide⟩,
    ⟨tst fun d => d.set HLK_CW_STS_ARMED, 0x1000000000, by decide⟩,
    ⟨tst fun d => ({ (d.put HLK_DS_STS_CAUSE 2) with hv := { d.hv with cwGood := 2 } } : Dev), 0, 0xD5A00001, ⟨8, true, 0⟩, by decide⟩,
    ⟨tst fun d => ((d.put HLK_COAST_CFG_COAST_MS 100).clr HLK_DS_STS_APPLIED).clr HLK_DS_STS_COAST, 0, by decide⟩⟩

theorem wit_LinkAndWatchdogCommandsTakeEffect_part2 :
    ∃ (s : State) (dt : Nat), let d := s.now dt
    d.on HLK_DS_STS_COAST = true ∧ d.hv.coastAt + 1000000 * d.fld HLK_COAST_CFG_COAST_MS ≤ d.up :=
  ⟨tst fun d => d.set HLK_DS_STS_COAST, 0x1000000000, by decide⟩

theorem wit_LowPowerInputCommandsTakeEffect :
    (∃ (s : State) (dt n ua : Nat) (mv : Int) (openSwitch : Bool), let d := s.now dt
    n < 32 ∧ d.lioOn n = true ∧ mv ≤ 65532 ∧ d.lioDue n = true) ∧
    (∃ (s : State) (dt n held256 : Nat) (uv : Int) (high : Bool), let d := s.now dt
    let e := ((d.updLevel n high).lioEvt (LIO_EVT_EDGE n) (LIO_INT_EN_EDGE n) n).modLio n fun l => { l with count := (l.count + 1) % 2 ^ 32, lastEdge := some (d.ns256 - held256) }
    n < 32 ∧ d.lioSide n uv = some high ∧ 256 * d.lioDeb n ≤ held256 ∧ d.lioCompares n = true ∧ d.on (LIO_STS_LEVEL n) ≠ high ∧ d.tim.mode ≠ .frozen ∧ (d.lio n).lastEdge.all (fun t => decide (t + 256000 ≤ d.ns256 - held256)) = true ∧ (e.lio n).edges.length < 8) ∧
    (∃ (s : State) (dt n : Nat) (a : Sys2Proof.Acc) (e : Edge) (rest : List Edge), let d := s.now dt
    n < 32 ∧ d.mayRead s.mem a (LIO_EDGE_LO n) ∧ (d.lio n).edges = e :: rest) ∧
    (∃ (s : State) (dt n k : Nat), let d := s.now dt
    n < 32 ∧ d.lioOn n = true ∧ d.fastDue n k = true ∧ d.fld (LIO_TIM_FAST n) ≠ 0 ∧ ((d.modLio n fun l => { l with fastAt := some (d.stg.lastTick.getD 0, k) }).lio n).fast.length < 32) ∧
    (∃ (s : State) (dt n v : Nat) (a : Sys2Proof.Acc) (rest : List Nat), let d := s.now dt
    n < 32 ∧ d.mayRead s.mem a (LIO_FAST n) ∧ (d.lio n).fast = v :: rest) ∧
    (∃ (s : State) (dt n : Nat) (a : Sys2Proof.Acc), let d := s.now dt
    n < 32 ∧ d.mayRead s.mem a (LIO_FAST n) ∧ (d.lio n).fast = []) :=
  ⟨⟨tst fun d => (d.put (LIO_CFG_MODE 31) 1).clr (LIO_CFG_OWNER 31), 0, 31, 5000, 65532, false, by decide⟩,
    ⟨tst fun d => ({ (((d.put (LIO_CFG_MODE 31) 1).clr (LIO_CFG_OWNER 31)).put (LIO_THR_THR_HI 31) 1000) with tim := { d.tim with mode := .servo } } : Dev), 0, 31, 0, 5000000, true, by decide⟩,
    ⟨tst fun d => d.modLio 31 fun l => { l with edges := [⟨9, true⟩] }, 0, 31, ⟨8, true, 0⟩, ⟨9, true⟩, [], by decide⟩,
    ⟨tst fun d => ({ ((((d.put (LIO_CFG_MODE 31) 1).clr (LIO_CFG_OWNER 31)).put (LIO_TIM_FAST 31) 1).put STG_PERIOD_NS_NS 10000000) with tim := { d.tim with dev := 65536 * 9990000 }, stg := { d.stg with lastTick := some 0, nextTick := 10000000 } } : Dev), 0, 31, 999, by decide⟩,
    ⟨tst fun d => d.modLio 31 fun l => { l with fast := [9] }, 0, 31, 9, ⟨8, true, 0⟩, [], by decide⟩,
    ⟨State.reset, 0, 31, ⟨8, true, 0⟩, by decide⟩⟩

theorem wit_WorldAndInterruptCommandsTakeEffect_part1 :
    (∃ (s : State) (dt v : Nat) (a : Sys2Proof.Acc), let d := s.now dt
    d.mayWrite s.mem a MAN_EDIT_CMD ∧ bits 31 16 v = 0x3A11 ∧ bit 0 v = true ∧ d.on MAN_EDIT_STS_BUSY = false) ∧
    (∃ (s : State) (dt i v : Nat), let d := s.now dt
    d.wld.edit = some (i, v) ∧ editResult s.mem i v = 0) ∧
    (∃ (s : State) (dt i v : Nat), let d := s.now dt
    d.wld.edit = some (i, v) ∧ editResult s.mem i v ≠ 0) ∧
    (∃ (s : State) (dt core imm : Nat), let d := s.now dt
    core < 12 ∧ d.inGuard core = false ∧ d.on (MAN_CORE_GINFO_REMEASURING core) = false ∧ d.frm.beyvoUp = true) ∧
    (∃ (s : State) (dt core : Nat), let d := s.now dt
    core < 12 ∧ d.fld (MAN_CORE_CFG_OWNER core) ≠ 8 ∧ d.on (MAN_CORE_GINFO_IN_GUARD core) = true ∧ d.frm.beyvoUp = true) ∧
    (∃ (s : State) (dt core : Nat), let d := s.now dt
    core < 12 ∧ tget 0 d.wld.glimit core ≠ 0 ∧ tget 0 d.wld.glimit core / 10 < d.up / 10) ∧
    (∃ (s : State) (dt core : Nat), let d := s.now dt
    core < 12 ∧ d.up / 10 ≤ tget 0 d.wld.glimit core / 10) ∧
    (∃ (s : State) (dt core : Nat), let d := s.now dt
    core < 12 ∧ d.on (MAN_CORE_GINFO_REMEASURING core) = true) :=
  ⟨⟨State.reset, 0, 0x3A110001, ⟨8, true, 0⟩, by decide⟩,
    ⟨tstM (Mem.setWord [] (0x11560000 + 4 * 137215) 0) (fun d => ({ d with wld := { d.wld with edit := some (137215, 0) } } : Dev)), 0, 137215, 0, by decide⟩,
    ⟨tst fun d => ({ d with wld := { d.wld with edit := some (141312, 3) } } : Dev), 0, 141312, 3, by decide⟩,
    ⟨State.reset, 0, 11, 255, by decide⟩,
    ⟨tst fun d => d.set (MAN_CORE_GINFO_IN_GUARD 11), 0, 11, by decide⟩,
    ⟨tst fun d => ({ d with up := 1 } : Dev).enterGuard 11, 0x1000000000, 11, by decide⟩,
    ⟨State.reset, 0, 11, by decide⟩,
    ⟨tst fun d => d.set (MAN_CORE_GINFO_REMEASURING 11), 0, 11, by decide⟩⟩

theorem wit_WorldAndInterruptCommandsTakeEffect_part2 :
    (∃ (s : State) (dt core : Nat) (a : Sys2Proof.Acc), let d := s.now dt
    core < 12 ∧ d.mayRead s.mem a (MAN_CORE_GINFO core)) ∧
    (∃ (s : State) (dt v : Nat) (a : Sys2Proof.Acc), let d := s.now dt
    d.mayWrite s.mem a PWRM_GUARD_QUIESCED ∧ bits 31 16 v = 0x9E5C ∧ d.wld.quiesceAt.isSome = true) ∧
    (∃ (s : State) (dt t : Nat), let d := s.now dt
    d.wld.quiesceAt = some t ∧ t ≤ d.up) ∧
    (∃ (s : State) (dt src : Nat), let d := s.now dt
    src < 376 ∧ realSource src = true) ∧
    (∃ (s : State) (dt src : Nat), let d := s.now dt
    src < 376 ∧ realSource src = false) ∧
    (∃ (s : State) (dt core : Nat) (g : Bool) (a : Sys2Proof.Acc), let d := s.now dt
    core < 12 ∧ d.mayRead s.mem a (IRQ_LC_CLAIM core (b2n g)) ∧ d.presented core g = none) ∧
    (∃ (s : State) (dt core src : Nat) (a : Sys2Proof.Acc), let d := s.now dt
    core < 12 ∧ d.mayRead s.mem a (IRQ_LC_CLAIM core 0) ∧ d.presented core false = some src ∧ src ≠ 512) ∧
    (∃ (s : State) (dt core v : Nat) (g : Bool) (a : Sys2Proof.Acc), let d := s.now dt
    core < 12 ∧ d.mayWrite s.mem a (IRQ_LC_EOI core (b2n g)) ∧ (core, g, bits 9 0 v) ∈ d.wld.active) :=
  ⟨⟨State.reset, 0, 11, ⟨8, true, 0⟩, by decide⟩,
    ⟨tst fun d => ({ d with wld := { d.wld with quiesceAt := some 5 } } : Dev), 0, 0x9E5C0000, ⟨8, true, 0⟩, by decide⟩,
    ⟨tst fun d => ({ d with wld := { d.wld with quiesceAt := some 5 } } : Dev), 1000, 5, by decide⟩,
    ⟨State.reset, 0, 363, by decide⟩,
    ⟨State.reset, 0, 375, by decide⟩,
    ⟨State.reset, 0, 11, true, ⟨8, true, 0⟩, by decide⟩,
    ⟨tst fun d => (((((d.clr (MAN_CORE_CFG_OWNER 11)).set ⟨IRQ_PEND 11, 23, 23⟩).put (IRQ_ROUTE_CORE 375) 11).put (IRQ_ROUTE_OWNER 375) 0).put (IRQ_LC_PMR_PMR 11 0) 31).clr ⟨IRQ_MASK 11, 23, 23⟩, 0, 11, 375, ⟨8, true, 0⟩, by decide⟩,
    ⟨tst fun d => ({ d with wld := { d.wld with active := [(11, true, 375)] } } : Dev), 0, 11, 375, true, ⟨8, true, 0⟩, by decide⟩⟩

theorem wit_WorldAndInterruptCommandsTakeEffect_part3 :
    ∃ (s : State) (dt core v : Nat) (g : Bool) (a : Sys2Proof.Acc), let d := s.now dt
    core < 12 ∧ d.mayWrite s.mem a (IRQ_LC_EOI core (b2n g)) ∧ (core, g, bits 9 0 v) ∉ d.wld.active :=
  ⟨State.reset, 0, 0, 0, true, ⟨8, true, 0⟩, by decide⟩

theorem wit_TandemCommandsTakeEffect_part1 :
    (∃ (s : State) (dt pair kind addr : Nat) (ad dd td ig : Bool), let d := s.now dt
    pair < 4 ∧ kind < 3 ∧ d.pairSees pair = false) ∧
    (∃ (s : State) (dt pair kind addr : Nat) (ad dd td ig : Bool), let d := s.now dt
    let e := (d.bump (TAN_PAIR_BMIS_CNT pair)).pairEvt pair (TAN_PAIR_STS_BMIS pair)
    let f : Dev := { e with tan := { e.tan with injBound := e.tan.injBound.filter (· ≠ pair) } }
    let g := f.faultPost 2 0x07 0x0001 (if ig then 8 else f.pairOwner pair) pair [f.rn (TAN_PAIR_FIRST_INFO pair), addr % 2 ^ 32] { core := some (2 * pair), cause := 2, deferred := true }
    pair < 4 ∧ kind < 3 ∧ d.fld (TAN_PAIR_STS_STATE pair) = 1 ∧ d.on (TAN_PAIR_STS_BMIS pair) = true ∧ g.fld (TAN_PAIR_STS_STATE pair) = 1) ∧
    (∃ (s : State) (dt pair : Nat) (l w : List Nat), let d := s.now dt
    pair < 4 ∧ d.fld (TAN_PAIR_STS_STATE pair) = 1 ∧ d.tan.foldSince.any (fun x => x.1 == pair) = true ∧ d.foldInterval pair ≤ d.foldRun pair) ∧
    (∃ (s : State) (dt pair i l : Nat), let d := s.now dt
    pair < 4 ∧ d.tan.fold.find? (fun x => x.1 == pair) = some (i, l, l) ∧ d.pairSees pair = true ∧ pair ∉ d.tan.injFold) ∧
    (∃ (s : State) (dt pair i l w : Nat), let d := s.now dt
    pair < 4 ∧ d.tan.fold.find? (fun x => x.1 == pair) = some (i, l, w) ∧ d.pairSees pair = true ∧ pair ∉ d.tan.injFold ∧ l ≠ w) ∧
    (∃ (s : State) (dt pair rail : Nat) (par : Bool), let d := s.now dt
    pair < 4 ∧ d.fld (TAN_PAIR_STS_STATE pair) = 2) ∧
    (∃ (s : State) (dt pair rail : Nat) (par : Bool), let d := s.now dt
    pair < 4 ∧ d.fld (TAN_PAIR_STS_STATE pair) = 1) ∧
    (∃ (s : State) (dt v : Nat) (a : Sys2Proof.Acc), let d := s.now dt
    d.mayWrite s.mem a TAN_INJ ∧ bits 31 16 v = 0x7A9D ∧ bits 3 2 v = 0 ∧ d.on MAN_DBG_STS_GUARD_INV = true ∧ d.fld (TAN_PAIR_STS_STATE (bits 1 0 v)) = 1) :=
  ⟨⟨tst fun d => d.put (TAN_PAIR_STS_STATE 3) 2, 0, 3, 2, 0, true, true, true, false, by decide⟩,
    ⟨tst fun d => (d.put (TAN_PAIR_STS_STATE 3) 1).set (TAN_PAIR_STS_BMIS 3), 0, 3, 2, 0, true, true, true, false, by decide⟩,
    ⟨tst fun d => ({ (d.put (TAN_PAIR_STS_STATE 3) 1) with up := 2 ^ 30, tan := { d.tan with foldSince := [(3, 0)] } } : Dev), 0, 3, [1], [2], by decide⟩,
    ⟨tst fun d => ({ (d.put (TAN_PAIR_STS_STATE 3) 1) with tan := { d.tan with fold := [(3, 9, 9)] } } : Dev), 0, 3, 3, 9, by decide⟩,
    ⟨tst fun d => ({ (d.put (TAN_PAIR_STS_STATE 3) 1) with tan := { d.tan with fold := [(3, 9, 8)] } } : Dev), 0, 3, 3, 9, 8, by decide⟩,
    ⟨tst fun d => d.put (TAN_PAIR_STS_STATE 3) 2, 0, 3, 0, true, by decide⟩,
    ⟨tst fun d => d.put (TAN_PAIR_STS_STATE 3) 1, 0, 3, 0, true, by decide⟩,
    ⟨tst fun d => (d.set MAN_DBG_STS_GUARD_INV).put (TAN_PAIR_STS_STATE 3) 1, 0, 0x7A9D0003, ⟨8, true, 0⟩, by decide⟩⟩

theorem wit_TandemCommandsTakeEffect_part2 :
    (∃ (s : State) (dt v : Nat) (a : Sys2Proof.Acc), let d := s.now dt
    d.mayWrite s.mem a TAN_INJ ∧ bits 31 16 v = 0x7A9D ∧ bits 3 2 v = 1 ∧ d.on MAN_DBG_STS_GUARD_INV = true ∧ d.fld (TAN_PAIR_STS_STATE (bits 1 0 v)) = 1) ∧
    (∃ (s : State) (dt v : Nat) (a : Sys2Proof.Acc), let d := s.now dt
    d.mayWrite s.mem a TAN_INJ ∧ bits 31 16 v = 0x7A9D ∧ bits 3 2 v = 2 ∧ d.on MAN_DBG_STS_GUARD_INV = true ∧ d.fld (TAN_PAIR_STS_STATE (bits 1 0 v)) = 1) :=
  ⟨⟨tst fun d => (d.set MAN_DBG_STS_GUARD_INV).put (TAN_PAIR_STS_STATE 2) 1, 0, 0x7A9D0006, ⟨8, true, 0⟩, by decide⟩,
    ⟨tst fun d => (d.set MAN_DBG_STS_GUARD_INV).put (TAN_PAIR_STS_STATE 0) 1, 0, 0x7A9D0008, ⟨8, true, 0⟩, by decide⟩⟩

theorem wit_KeyOperationsChangeTheKeySlots_part1 :
    (∃ (s : State) (dt a : Nat) (rest : List Nat), let d := s.now dt
    let c := sbxCmd s.mem a
    let x := d.keySlot c.slot
    let r := d.drbgBytes (keyLen c.attr)
    let k : SbKey := { attr := c.attr, use := c.use, parent := none, key := r.1, salt := if bit 16 c.attr then (r.2.drbgBytes 4).1 else [] }
    d.sbx.queue = a :: rest ∧ d.guardMem s.mem a 32 .read = true ∧ d.guardMem s.mem (a + 24) 8 .write = true ∧ c.op = 0x01 ∧ c.slot ≠ 0 ∧ bits 3 0 c.attr ≠ 5 ∧ bits 3 0 c.attr ≠ 6 ∧ attrOk c.attr = true ∧ d.sbx.refused = false ∧ ((c.shadow = true ∧ (x.state = 1 ∨ x.state = 3)) ∨ (c.shadow = false ∧ x.state = 0))) ∧
    (∃ (s : State) (dt a : Nat) (rest : List Nat), let d := s.now dt
    let c := sbxCmd s.mem a
    let x := d.keySlot c.slot
    let p := d.keySlot c.slot2
    let n := keyLen c.attr + (if bit 16 c.attr then 4 else 0)
    let m := kdf c.prf p.k.key (Mem.bytes s.mem c.inAddr c.inLen ++ [bits 13 10 c.attr, bits 3 0 c.attr] ++ beBytes 4 (8 * n)) n
    let k : SbKey := { attr := c.attr, use := c.use, parent := some c.slot2, key := m.take (keyLen c.attr), salt := m.drop (keyLen c.attr) }
    d.sbx.queue = a :: rest ∧ d.guardMem s.mem a 32 .read = true ∧ d.guardMem s.mem (a + 24) 8 .write = true ∧ c.op = 0x02 ∧ c.slot ≠ 0 ∧ d.guardMem s.mem c.inAddr c.inLen .read = true ∧ attrOk c.attr = true ∧ ((c.shadow = true ∧ (x.state = 1 ∨ x.state = 3)) ∨ (c.shadow = false ∧ x.state = 0)) ∧ p.state = 1 ∧ p.k.use ≠ 0 ∧ p.k.usage 8 = true ∧ p.k.owner = c.owner ∧ (p.k.owner = bits 13 10 c.attr ∨ p.k.owner = 8) ∧ (p.k.type = 4 ∨ (c.prf = true ∧ p.k.type = 3)) ∧ c.inLen ≤ 128) ∧
    (∃ (s : State) (dt a : Nat) (rest : List Nat), let d := s.now dt
    let c := sbxCmd s.mem a
    let x := d.keySlot c.slot
    let p := d.keySlot c.slot2
    d.sbx.queue = a :: rest ∧ d.guardMem s.mem a 32 .read = true ∧ d.guardMem s.mem (a + 24) 8 .write = true ∧ c.op = 0x03 ∧ c.slot ≠ 0 ∧ d.guardMem s.mem c.inAddr c.inLen .read = true ∧ ((c.shadow = true ∧ (x.state = 1 ∨ x.state = 3)) ∨ (c.shadow = false ∧ x.state = 0)) ∧ p.state = 1 ∧ p.k.use ≠ 0 ∧ p.k.usage 9 = true ∧ p.k.owner = c.owner ∧ p.k.type = 2) ∧
    (∃ (s : State) (dt a : Nat) (rest : List Nat), let d := s.now dt
    let c := sbxCmd s.mem a
    let x := d.keySlot c.slot
    d.sbx.queue = a :: rest ∧ d.guardMem s.mem a 32 .read = true ∧ d.guardMem s.mem (a + 24) 8 .write = true ∧ c.op = 0x01 ∧ c.slot ≠ 0 ∧ bits 3 0 c.attr ≠ 5 ∧ bits 3 0 c.attr ≠ 6 ∧ attrOk c.attr = true ∧ c.shadow = false ∧ x.state ≠ 0) ∧
    (∃ (s : State) (dt a : Nat) (rest : List Nat) (was : Bool) (k : SbKey), let d := s.now dt
    let c := sbxCmd s.mem a
    let x := d.keySlot c.slot
    d.sbx.queue = a :: rest ∧ d.guardMem s.mem a 32 .read = true ∧ d.guardMem s.mem (a + 24) 8 .write = true ∧ c.op = 0x20 ∧ c.slot ≠ 0 ∧ c.slot2 = 0xFF ∧ d.guardMem s.mem c.inAddr c.inLen .read = true ∧ c.inLen = 8 ∧ x.shadow = some (k, was)) ∧
    (∃ (s : State) (dt a : Nat) (rest : List Nat) (k : SbKey), let d := s.now dt
    let c := sbxCmd s.mem a
    let x := d.keySlot c.slot
    let g := if x.gen = 65535 then 1 else x.gen + 1
    d.sbx.queue = a :: rest ∧ d.guardMem s.mem a 32 .read = true ∧ d.guardMem s.mem (a + 24) 8 .write = true ∧ c.op = 0x21 ∧ c.slot ≠ 0 ∧ x.gen < 65536 ∧ (x.state = 1 ∨ x.state = 3) ∧ x.shadow = some (k, true)) ∧
    (∃ (s : State) (dt a : Nat) (rest : List Nat), let d := s.now dt
    let c := sbxCmd s.mem a
    let x := d.keySlot c.slot
    d.sbx.queue = a :: rest ∧ d.guardMem s.mem a 32 .read = true ∧ d.guardMem s.mem (a + 24) 8 .write = true ∧ c.op = 0x21 ∧ c.slot ≠ 0 ∧ (x.state = 1 ∨ x.state = 3) ∧ x.shadow.any (fun y => y.2) = false) ∧
    (∃ (s : State) (dt a : Nat) (rest : List Nat), let d := s.now dt
    let c := sbxCmd s.mem a
    let x := d.keySlot c.slot
    d.sbx.queue = a :: rest ∧ d.guardMem s.mem a 32 .read = true ∧ d.guardMem s.mem (a + 24) 8 .write = true ∧ c.op = 0x22 ∧ c.slot ≠ 0) :=
  ⟨⟨tstM (Mem.setWord (Mem.setWord (Mem.setWord [] 0x11560000 0x78) 0x10000000 0x50101) 0x10000004 0x2) (fun d => { d with sbx := { d.sbx with queue := [0x10000000], slots := [(5, { k := { attr := 2050, use := 7, parent := none, key := [1], salt := [] }, gen := 9, state := 1, shadow := none, last := none })] } }), 0, 0x10000000, [], by decide⟩,
    ⟨tstM (Mem.setWord (Mem.setWord (Mem.setWord [] 0x11560000 0x78) 0x10000000 0x5065002) 0x10000004 0x1402) (fun d => { d with sbx := { d.sbx with queue := [0x10000000], slots := [(5, { k := { attr := 5380, use := 7, parent := none, key := [1], salt := [] }, gen := 9, state := 1, shadow := none, last := none })] } }), 0, 0x10000000, [], by decide⟩,
    ⟨tstM (Mem.setWord (Mem.setWord (Mem.setWord [] 0x11560000 0x78) 0x10000000 0x5065003) 0x10000004 0x0) (fun d => { d with sbx := { d.sbx with queue := [0x10000000], slots := [(5, { k := { attr := 5634, use := 7, parent := none, key := [1], salt := [] }, gen := 9, state := 1, shadow := none, last := none })] } }), 0, 0x10000000, [], by decide⟩,
    ⟨tstM (Mem.setWord (Mem.setWord (Mem.setWord [] 0x11560000 0x78) 0x10000000 0x50001) 0x10000004 0x2) (fun d => { d with sbx := { d.sbx with queue := [0x10000000], slots := [(5, { k := { attr := 2050, use := 7, parent := none, key := [1], salt := [] }, gen := 9, state := 3, shadow := none, last := none })] } }), 0, 0x10000000, [], by decide⟩,
    ⟨tstM (Mem.setWord (Mem.setWord (Mem.setWord (Mem.setWord (Mem.setWord [] 0x11560000 0x78) 0x10000000 0xFF050020) 0x10000004 0x0) 0x1000000C 0x10000040) 0x10000010 8) (fun d => { d with sbx := { d.sbx with queue := [0x10000000], slots := [(5, { k := { attr := 2050, use := 7, parent := none, key := [1], salt := [] }, gen := 9, state := 1, shadow := some ({ attr := 2, use := 3, parent := none, key := [2], salt := [] }, true), last := none })] } }), 0, 0x10000000, [], true, { attr := 2, use := 3, parent := none, key := [2], salt := [] }, by decide⟩,
    ⟨tstM (Mem.setWord (Mem.setWord (Mem.setWord [] 0x11560000 0x78) 0x10000000 0x50021) 0x10000004 0x0) (fun d => { d with sbx := { d.sbx with queue := [0x10000000], slots := [(5, { k := { attr := 2050, use := 7, parent := none, key := [1], salt := [] }, gen := 65535, state := 3, shadow := some ({ attr := 2, use := 3, parent := none, key := [2], salt := [] }, true), last := none }), (6, { k := { attr := 2050, use := 7, parent := some 5, key := [1], salt := [] }, gen := 9, state := 1, shadow := none, last := none })] } }), 0, 0x10000000, [], { attr := 2, use := 3, parent := none, key := [2], salt := [] }, by decide⟩,
    ⟨tstM (Mem.setWord (Mem.setWord (Mem.setWord [] 0x11560000 0x78) 0x10000000 0x50021) 0x10000004 0x0) (fun d => { d with sbx := { d.sbx with queue := [0x10000000], slots := [(5, { k := { attr := 2050, use := 7, parent := none, key := [1], salt := [] }, gen := 9, state := 1, shadow := some ({ attr := 2, use := 3, parent := none, key := [2], salt := [] }, false), last := none })] } }), 0, 0x10000000, [], by decide⟩,
    ⟨tstM (Mem.setWord (Mem.setWord (Mem.setWord [] 0x11560000 0x78) 0x10000000 0xFF0022) 0x10000004 0x0) (fun d => { d with sbx := { d.sbx with queue := [0x10000000], slots := [(255, { k := { attr := 2050, use := 7, parent := none, key := [1], salt := [] }, gen := 9, state := 1, shadow := some ({ attr := 2, use := 3, parent := none, key := [2], salt := [] }, true), last := none })] } }), 0, 0x10000000, [], by decide⟩⟩

theorem wit_KeyOperationsChangeTheKeySlots_part2 :
    (∃ (s : State) (dt a : Nat) (rest : List Nat), let d := s.now dt
    let c := sbxCmd s.mem a
    let x := d.keySlot c.slot
    d.sbx.queue = a :: rest ∧ d.guardMem s.mem a 32 .read = true ∧ d.guardMem s.mem (a + 24) 8 .write = true ∧ c.op = 0x23 ∧ c.slot ≠ 0 ∧ (x.state = 1 ∨ x.state = 3)) ∧
    (∃ (s : State) (dt a : Nat) (rest : List Nat), let d := s.now dt
    let c := sbxCmd s.mem a
    let x := d.keySlot c.slot
    d.sbx.queue = a :: rest ∧ d.guardMem s.mem a 32 .read = true ∧ d.guardMem s.mem (a + 24) 8 .write = true ∧ c.op = 0x24 ∧ c.slot ≠ 0 ∧ (x.state = 1 ∨ x.state = 3) ∧ d.descendants c.slot = []) ∧
    (∃ (s : State) (dt a j : Nat) (rest : List Nat), let d := s.now dt
    let c := sbxCmd s.mem a
    let x := d.keySlot c.slot
    d.sbx.queue = a :: rest ∧ d.guardMem s.mem a 32 .read = true ∧ d.guardMem s.mem (a + 24) 8 .write = true ∧ c.op = 0x24 ∧ c.slot ≠ 0 ∧ (x.state = 1 ∨ x.state = 3) ∧ j ≠ c.slot ∧ (d.keySlot j).state ≠ 0 ∧ (d.keySlot j).k.parent = some c.slot) :=
  ⟨⟨tstM (Mem.setWord (Mem.setWord (Mem.setWord [] 0x11560000 0x78) 0x10000000 0x50023) 0x10000004 0x0) (fun d => { d with sbx := { d.sbx with queue := [0x10000000], slots := [(5, { k := { attr := 2050, use := 7, parent := none, key := [1], salt := [] }, gen := 9, state := 3, shadow := none, last := none }), (6, { k := { attr := 2050, use := 7, parent := some 5, key := [1], salt := [] }, gen := 9, state := 1, shadow := none, last := none })] } }), 0, 0x10000000, [], by decide⟩,
    ⟨tstM (Mem.setWord (Mem.setWord (Mem.setWord [] 0x11560000 0x78) 0x10000000 0x50024) 0x10000004 0x0) (fun d => { d with sbx := { d.sbx with queue := [0x10000000], slots := [(5, { k := { attr := 2050, use := 7, parent := none, key := [1], salt := [] }, gen := 9, state := 3, shadow := none, last := none })] } }), 0, 0x10000000, [], by decide⟩,
    ⟨tstM (Mem.setWord (Mem.setWord (Mem.setWord [] 0x11560000 0x78) 0x10000000 0x50024) 0x10000004 0x0) (fun d => { d with sbx := { d.sbx with queue := [0x10000000], slots := [(5, { k := { attr := 2050, use := 7, parent := none, key := [1], salt := [] }, gen := 9, state := 1, shadow := none, last := none }), (6, { k := { attr := 2050, use := 7, parent := some 5, key := [1], salt := [] }, gen := 9, state := 1, shadow := none, last := none })] } }), 0, 0x10000000, 6, [], by decide⟩⟩

theorem wit_StrongboxCommandsTakeEffect :
    (∃ (s : State) (dt v i : Nat) (a : Sys2Proof.Acc), let d := s.now dt
    d.mayWrite s.mem a SBX_SUBMIT ∧ v < 2 ^ 32 ∧ pageIndex v = some i ∧ 0x10000000 ≤ v ∧ v < 0x11800000 ∧ entryOwner (Mem.entry s.mem i) = 8 ∧ entryR (Mem.entry s.mem i) = true ∧ entryW (Mem.entry s.mem i) = true ∧ v % 32 = 0 ∧ d.sbx.queue.length < 8) ∧
    (∃ (s : State) (dt v : Nat) (a : Sys2Proof.Acc), let d := s.now dt
    d.mayWrite s.mem a SBX_SUBMIT ∧ 8 ≤ d.sbx.queue.length) ∧
    (∃ (s : State) (dt : Nat), let d := s.now dt
    d.frm.beyvoUp = true) ∧
    (∃ (s : State) (dt : Nat), let d := s.now dt
    d.frm.beyvoUp = true) ∧
    (∃ (s : State) (dt : Nat) (a : Sys2Proof.Acc), let d := s.now dt
    d.mayRead s.mem a SBX_DRBG ∧ d.sbx.refused = true) ∧
    (∃ (s : State) (dt : Nat) (a : Sys2Proof.Acc), let d := s.now dt
    d.mayRead s.mem a SBX_DRBG ∧ d.sbx.refused = false) ∧
    (∃ (s : State) (dt sources : Nat), let d := s.now dt
    sources &&& d.tamperMask ≠ 0 ∧ d.frm.tamperHold = false) ∧
    (∃ (s : State) (dt sources : Nat), let d := s.now dt
    sources &&& d.tamperMask = 0) :=
  ⟨⟨tstM (Mem.setWord [] (0x11560000 + 4 * 6143) 0x68) (fun d => d), 0, 0x117FFFE0, 6143, ⟨8, true, 0⟩, by decide⟩,
    ⟨tst (fun d => ({ d with sbx := { d.sbx with queue := List.replicate 8 0 } } : Dev)), 0, 0, ⟨8, true, 0⟩, by decide⟩,
    ⟨State.reset, 0, by decide⟩,
    ⟨State.reset, 0, by decide⟩,
    ⟨tst (fun d => ({ d with sbx := { d.sbx with refused := true } } : Dev)), 0, ⟨8, true, 0⟩, by decide⟩,
    ⟨State.reset, 0, ⟨8, true, 0⟩, by decide⟩,
    ⟨State.reset, 0, 16, by decide⟩,
    ⟨State.reset, 0, 32, by decide⟩⟩

theorem wit_CipherCommandsTakeEffect_part1 :
    (∃ (s : State) (dt l v i : Nat) (a : Sys2Proof.Acc), let d := s.now dt
    l < 4 ∧ d.mayWrite s.mem a (CE_SUBMIT l) ∧ v < 2 ^ 32 ∧ pageIndex v = some i ∧ 0x10000000 ≤ v ∧ v < 0x11800000 ∧ entryOwner (Mem.entry s.mem i) = 8 ∧ entryR (Mem.entry s.mem i) = true ∧ entryW (Mem.entry s.mem i) = true ∧ v % 128 = 0 ∧ (d.lane l).queue.length < 8 ∧ d.laneUp l = true) ∧
    (∃ (s : State) (dt l v : Nat) (a : Sys2Proof.Acc), let d := s.now dt
    l < 4 ∧ d.mayWrite s.mem a (CE_SUBMIT l) ∧ 8 ≤ (d.lane l).queue.length) ∧
    (∃ (s : State) (dt l a : Nat) (rest : List Nat), let d := s.now dt
    l < 4 ∧ (d.lane l).queue = a :: rest ∧ (d.lane l).run = none ∧ d.laneUp l = true ∧ d.gated 1 l = false ∧ (ceCmd s.mem a).op = 0x01) ∧
    (∃ (s : State) (dt l a : Nat) (rest : List Nat), let d := s.now dt
    l < 4 ∧ (d.lane l).queue = a :: rest ∧ (d.lane l).run = none ∧ d.laneUp l = true ∧ d.gated 1 l = false ∧ (ceCmd s.mem a).op = 0x02) ∧
    (∃ (s : State) (dt l a : Nat) (rest : List Nat), let d := s.now dt
    l < 4 ∧ (d.lane l).queue = a :: rest ∧ (d.lane l).run = none ∧ d.laneUp l = true ∧ d.gated 1 l = false ∧ (ceCmd s.mem a).op = 0x03) ∧
    (∃ (s : State) (dt l a : Nat) (rest : List Nat), let d := s.now dt
    l < 4 ∧ (d.lane l).queue = a :: rest ∧ (d.lane l).run = none ∧ d.laneUp l = true ∧ d.gated 1 l = false ∧ (ceCmd s.mem a).op = 0x04) ∧
    (∃ (s : State) (dt l a : Nat) (rest : List Nat), let d := s.now dt
    l < 4 ∧ (d.lane l).queue = a :: rest ∧ (d.lane l).run = none ∧ d.laneUp l = true ∧ d.gated 1 l = false ∧ (ceCmd s.mem a).op = 0x05) ∧
    (∃ (s : State) (dt l a : Nat) (rest : List Nat), let d := s.now dt
    l < 4 ∧ (d.lane l).queue = a :: rest ∧ (d.lane l).run = none ∧ d.laneUp l = true ∧ d.gated 1 l = false ∧ (ceCmd s.mem a).op = 0x10) :=
  ⟨⟨tstM (Mem.setWord [] (0x11560000 + 4 * 6143) 0x68) (fun d => d.put CE_STS_LANE_UP 15), 0, 3, 0x117FFF80, 6143, ⟨8, true, 0⟩, by decide⟩,
    ⟨tst (fun d => d.setLane 3 { Lane.reset with queue := List.replicate 8 0 }), 0, 3, 0, ⟨8, true, 0⟩, by decide⟩,
    ⟨tstM (Mem.setWord [] 0x10000000 0x01) (fun d => (d.put CE_STS_LANE_UP 15).setLane 3 { Lane.reset with queue := [0x10000000] }), 0, 3, 0x10000000, [], by decide⟩,
    ⟨tstM (Mem.setWord [] 0x10000000 0x02) (fun d => (d.put CE_STS_LANE_UP 15).setLane 3 { Lane.reset with queue := [0x10000000] }), 0, 3, 0x10000000, [], by decide⟩,
    ⟨tstM (Mem.setWord [] 0x10000000 0x03) (fun d => (d.put CE_STS_LANE_UP 15).setLane 3 { Lane.reset with queue := [0x10000000] }), 0, 3, 0x10000000, [], by decide⟩,
    ⟨tstM (Mem.setWord [] 0x10000000 0x04) (fun d => (d.put CE_STS_LANE_UP 15).setLane 3 { Lane.reset with queue := [0x10000000] }), 0, 3, 0x10000000, [], by decide⟩,
    ⟨tstM (Mem.setWord [] 0x10000000 0x05) (fun d => (d.put CE_STS_LANE_UP 15).setLane 3 { Lane.reset with queue := [0x10000000] }), 0, 3, 0x10000000, [], by decide⟩,
    ⟨tstM (Mem.setWord [] 0x10000000 0x10) (fun d => (d.put CE_STS_LANE_UP 15).setLane 3 { Lane.reset with queue := [0x10000000] }), 0, 3, 0x10000000, [], by decide⟩⟩

theorem wit_CipherCommandsTakeEffect_part2 :
    (∃ (s : State) (dt l a : Nat) (rest : List Nat), let d := s.now dt
    l < 4 ∧ (d.lane l).queue = a :: rest ∧ (d.lane l).run = none ∧ d.laneUp l = true ∧ d.gated 1 l = false ∧ (ceCmd s.mem a).op = 0x11) ∧
    (∃ (s : State) (dt l : Nat) (r : CeRun), let d := s.now dt
    l < 4 ∧ (d.lane l).run = some r ∧ r.why = .output ∧ r.revoked = false) ∧
    (∃ (s : State) (dt l : Nat) (r : CeRun), let d := s.now dt
    l < 4 ∧ (d.lane l).run = some r ∧ r.why = .output ∧ 1000000 * d.fld CE_CFG_STALL_MS ≤ d.up - r.since ∧ (r.revoked = false ∨ r.escrow = false)) ∧
    (∃ (s : State) (dt l : Nat) (r : CeRun), let d := s.now dt
    l < 4 ∧ (d.lane l).run = some r ∧ r.why = .purge ∧ d.ceArrived r = true) ∧
    (∃ (s : State) (dt l : Nat), let d := s.now dt
    l < 4 ∧ (d.lane l).want = true ∧ (d.lane l).run = none) ∧
    (∃ (s : State) (dt v : Nat) (a : Sys2Proof.Acc), let d := s.now dt
    d.mayWrite s.mem a CE_KEYLOAD ∧ bit 19 v = false ∧ bits 9 6 v = 2) ∧
    (∃ (s : State) (dt v : Nat) (a : Sys2Proof.Acc), let d := s.now dt
    d.mayWrite s.mem a CE_KEYLOAD ∧ bit 19 v = true) ∧
    (∃ (s : State) (dt l : Nat), let d := s.now dt
    l < 4 ∧ d.laneUp l = true ∧ d.frm.beyvoUp = true) :=
  ⟨⟨tstM (Mem.setWord [] 0x10000000 0x11) (fun d => (d.put CE_STS_LANE_UP 15).setLane 3 { Lane.reset with queue := [0x10000000] }), 0, 3, 0x10000000, [], by decide⟩,
    ⟨tst (fun d => ({ d with up := 1000000000000 } : Dev).setLane 3 { Lane.reset with run := some tRun }), 0, 3, tRun, by decide⟩,
    ⟨tst (fun d => ({ d with up := 1000000000000 } : Dev).setLane 3 { Lane.reset with run := some tRun }), 0, 3, tRun, by decide⟩,
    ⟨tst (fun d => d.setLane 3 { Lane.reset with run := some { tRun with why := .purge } }), 0, 3, { tRun with why := .purge }, by decide⟩,
    ⟨tst (fun d => d.setLane 3 { Lane.reset with want := true }), 0, 3, by decide⟩,
    ⟨State.reset, 0, 0x000000BF, ⟨8, true, 0⟩, by decide⟩,
    ⟨State.reset, 0, 0x0008003F, ⟨8, true, 0⟩, by decide⟩,
    ⟨tst fun d => d.put CE_STS_LANE_UP 15, 0, 3, by decide⟩⟩

theorem wit_CipherCommandsTakeEffect_part3 :
    (∃ (s : State) (dt v : Nat) (a : Sys2Proof.Acc), let d := s.now dt
    d.mayWrite s.mem a CE_LANE_CTL) ∧
    (∃ (s : State) (dt l : Nat), let d := s.now dt
    l < 4 ∧ l ∈ d.ce.testing) ∧
    (∃ (s : State) (dt l : Nat), let d := s.now dt
    l < 4 ∧ l ∈ d.ce.testing) :=
  ⟨⟨State.reset, 0, 15, ⟨8, true, 0⟩, by decide⟩,
    ⟨tst fun d => ({ d with ce := { d.ce with testing := [3] } } : Dev), 0, 3, by decide⟩,
    ⟨tst fun d => ({ d with ce := { d.ce with testing := [3] } } : Dev), 0, 3, by decide⟩⟩

theorem wit_BootAndServiceCommandsTakeEffect_part1 :
    (∃ (s : State) (dt unread : Nat) (iOk sOk : Bool) (odo : List (Nat × Option Nat)), let d := s.now dt
    (odo.all fun x => decide (x.1 < 16)) = true ∧ d.boot.phase = .rom ∧ d.frm.devReset = none ∧ d.frm.bvReset = none ∧ d.bootWaits s.mem = false) ∧
    (∃ (s : State) (dt unread : Nat) (iOk sOk : Bool) (odo : List (Nat × Option Nat)), let d := s.now dt
    (odo.all fun x => decide (x.1 < 16)) = true ∧ d.boot.phase = .rom ∧ d.frm.devReset = none ∧ d.frm.bvReset = none ∧ d.bootWaits s.mem = false ∧ d.fld SYS_BOOT_STS_BOOTSEL = 3) ∧
    (∃ (s : State) (dt : Nat), let d := s.now dt
    (d.boot.phase = .rom ∨ d.boot.phase = .applied) ∧ d.bootWaits s.mem = false ∧ d.frm.devReset = none ∧ d.fld SYS_BOOT_STS_RETRY = 3 ∧ d.boot.timerFrom + 5000000000 ≤ d.up) ∧
    (∃ (s : State) (dt : Nat), let d := s.now dt
    (d.boot.phase = .rom ∨ d.boot.phase = .applied) ∧ d.bootWaits s.mem = false ∧ d.frm.devReset = none ∧ d.fld SYS_BOOT_STS_RETRY ≠ 3 ∧ d.boot.timerFrom + 5000000000 ≤ d.up) ∧
    (∃ (s : State) (dt : Nat), let d := s.now dt
    d.boot.phase = .rom ∧ d.fld SYS_BOOT_STS_BOOTSEL = 2 ∧ d.on SBX_ROOT_CERT = false ∧ d.boot.releasedAt + 10000000000 ≤ d.up) ∧
    (∃ (s : State) (dt failed : Nat), let d := s.now dt
    d.boot.phase = .applied ∧ d.frm.devReset = none ∧ d.frm.bvReset = none) ∧
    (∃ (s : State) (dt c : Nat), let d := s.now dt
    c < 8 ∧ d.startable c = true ∧ d.startCond c = true) ∧
    (∃ (s : State) (dt c : Nat), let d := s.now dt
    c < 8 ∧ d.startable c = true ∧ d.fld (SYS_COACH_START_TMO c) ≠ 0 ∧ d.startCond c = false ∧ d.boot.sealedAt + 100000000 * d.fld (SYS_COACH_START_TMO c) ≤ d.up) :=
  ⟨⟨State.reset, 0, 0, true, true, [(15, none)], by decide⟩,
    ⟨tst fun d => d.put SYS_BOOT_STS_BOOTSEL 3, 0, 0, true, true, [(0, some 3)], by decide⟩,
    ⟨tst fun d => d.put SYS_BOOT_STS_RETRY 3, 0x1000000000, by decide⟩,
    ⟨State.reset, 0x1000000000, by decide⟩,
    ⟨tst fun d => d.put SYS_BOOT_STS_BOOTSEL 2, 0x1000000000, by decide⟩,
    ⟨tst fun d => ({ d with boot := { d.boot with phase := .applied } } : Dev), 0, 15, by decide⟩,
    ⟨tst fun d => ((({ d with boot := { d.boot with phase := .sealed } } : Dev)).set (MAN_COACH_CFG_EN 7)).clr (SYS_COACH_START_NEED 7), 0, 7, by decide⟩,
    ⟨tst fun d => (((({ d with boot := { d.boot with phase := .sealed } } : Dev)).set (MAN_COACH_CFG_EN 7)).put (SYS_COACH_START_TMO 7) 1).set (SYS_COACH_START_GUARD 7), 0x1000000000, 7, by decide⟩⟩

theorem wit_BootAndServiceCommandsTakeEffect_part2 :
    (∃ (s : State) (dt v : Nat) (a : Sys2Proof.Acc), let d := s.now dt
    d.mayWrite s.mem a SYS_CTL ∧ bit 0 v = true) ∧
    (∃ (s : State) (dt v : Nat) (a : Sys2Proof.Acc), let d := s.now dt
    d.mayWrite s.mem a SYS_ROLLBACK_CMT ∧ bits 31 16 v = 0xB10E ∧ d.fld SBX_ROLLBACK_CONSIST < d.boot.rollback) ∧
    (∃ (s : State) (dt v : Nat) (a : Sys2Proof.Acc) (c : FlashCmd), let d := s.now dt
    d.mayWrite s.mem a SYS_FLASH_CMD ∧ bits 1 0 v = 1 ∧ d.on SYS_FLASH_STS_BUSY = false ∧ d.flashStart s.mem v = some c) ∧
    (∃ (s : State) (dt v : Nat) (a : Sys2Proof.Acc), let d := s.now dt
    d.mayWrite s.mem a SYS_FLASH_CMD ∧ bits 1 0 v = 2 ∧ d.on SYS_FLASH_STS_BUSY = false ∧ d.flashStart s.mem v = none) ∧
    (∃ (s : State) (dt v : Nat) (a : Sys2Proof.Acc) (c : FlashCmd), let d := s.now dt
    d.mayWrite s.mem a SYS_FLASH_CMD ∧ bits 1 0 v = 2 ∧ d.on SYS_FLASH_STS_BUSY = false ∧ d.flashStart s.mem v = some c) ∧
    (∃ (s : State) (dt : Nat) (c : FlashCmd), let d := s.now dt
    d.boot.flash = some c) ∧
    (∃ (s : State) (dt : Nat), let d := s.now dt
    d.inService = true ∧ d.boot.answered = false ∧ d.boot.helloAt.all (fun t => decide (t + 100000000 ≤ d.up)) = true) ∧
    (∃ (s : State) (dt tool offset : Nat) (data : List Nat), let d := s.now dt
    let e := ({ d with boot := { d.boot with answered := true, received := d.boot.received + data.length } } : Dev)
    d.inService = true ∧ data.length ≤ 1024 ∧ offset = d.boot.received ∧ ({ d with boot := { d.boot with answered := true } } : Dev).serviceDone s.mem = false) :=
  ⟨⟨State.reset, 0, 1, ⟨8, true, 0⟩, by decide⟩,
    ⟨tst fun d => ({ d with boot := { d.boot with rollback := 255 } } : Dev), 0, 0xB10E0000, ⟨8, true, 0⟩, by decide⟩,
    ⟨tst fun d => (d.wr SYS_FLASH_ADDR 0x27EF0000).set SYS_BOOT_STS_SERVICE, 0, 0xF1A50001, ⟨8, true, 0⟩, ⟨0x27EF0000, none⟩, by decide⟩,
    ⟨State.reset, 0, 2, ⟨8, true, 0⟩, by decide⟩,
    ⟨tstM (Mem.setWord [] (0x11560000 + 4 * 1) 8) (fun d => ((((d.wr SYS_FLASH_ADDR 0x27EFFFFC).put SYS_FLASH_LEN_LEN 4).wr SYS_FLASH_SRC 0x10001000).set SYS_BOOT_STS_SERVICE)), 0, 0xF1A50002, ⟨8, true, 0⟩, ⟨0x27EFFFFC, some [0, 0, 0, 0]⟩, by decide⟩,
    ⟨tst fun d => ({ d with boot := { d.boot with flash := some ⟨0x20000000, some [1]⟩ } } : Dev), 0, ⟨0x20000000, some [1]⟩, by decide⟩,
    ⟨tst fun d => d.put SYS_BOOT_STS_BOOTSEL 1, 0, by decide⟩,
    ⟨tst fun d => d.put SYS_BOOT_STS_BOOTSEL 1, 0, 2 ^ 48 - 1, 0, [1, 2], by decide⟩⟩

theorem wit_BootAndServiceCommandsTakeEffect_part3 :
    (∃ (s : State) (dt offset : Nat) (data : List Nat), let d := s.now dt
    d.toolOpen = true ∧ data.length ≤ 1024 ∧ offset = d.boot.cert.length ∧ (d.boot.cert ++ data).length < certLen (d.boot.cert ++ data)) ∧
    (∃ (s : State) (dt : Nat) (cert : List Nat), let d := s.now dt
    d.frm.beyvoUp = true ∧ cert.length ≤ 16384 ∧ d.boot.phase = .rom) ∧
    (∃ (s : State) (dt : Nat) (cert : List Nat), let d := s.now dt
    d.frm.beyvoUp = true ∧ cert.length ≤ 16384 ∧ d.boot.phase = .applied) :=
  ⟨⟨tst fun d => d.put SYS_BOOT_STS_BOOTSEL 1, 0, 0, [1, 2], by decide⟩,
    ⟨State.reset, 0, [], by decide⟩,
    ⟨tst fun d => ({ d with boot := { d.boot with phase := .applied } } : Dev), 0, [], by decide⟩⟩

theorem wit_DebugCommandsTakeEffect_part1 :
    (∃ (s : State) (dt core addr : Nat) (port : Bool) (a : Sys2Proof.Acc), let d := s.now dt
    core < 12 ∧ addr < 2 ^ 64 ∧ d.dbgServed port = true ∧ (d.dbgTaken port 3 core addr).dbgGrant core true = some a) ∧
    (∃ (s : State) (dt core addr : Nat) (port : Bool) (a : Sys2Proof.Acc), let d := s.now dt
    core < 12 ∧ addr < 2 ^ 64 ∧ d.dbgServed port = true ∧ (d.dbgTaken port 4 core addr).dbgGrant core true = some a ∧ core ∈ (d.dbgTaken port 4 core addr).dbg.halted) ∧
    (∃ (s : State) (dt core addr : Nat) (port : Bool) (a : Sys2Proof.Acc), let d := s.now dt
    core < 12 ∧ addr < 2 ^ 64 ∧ d.dbgServed port = true ∧ (d.dbgTaken port 5 core addr).dbgGrant core true = some a) ∧
    (∃ (s : State) (dt core addr : Nat) (port : Bool), let d := s.now dt
    core < 12 ∧ addr < 2 ^ 64 ∧ d.dbgServed port = true ∧ (d.dbgTaken port 3 core addr).dbgGrant core true = none) ∧
    (∃ (s : State) (dt core addr : Nat) (port : Bool), let d := s.now dt
    core < 12 ∧ addr < 2 ^ 64 ∧ d.dbgServed port = true ∧ (d.dbgTaken port 4 core addr).dbgGrant core true = none) ∧
    (∃ (s : State) (dt core addr : Nat) (port : Bool), let d := s.now dt
    core < 12 ∧ addr < 2 ^ 64 ∧ d.dbgServed port = true ∧ (d.dbgTaken port 5 core addr).dbgGrant core true = none) ∧
    (∃ (s : State) (dt core addr : Nat) (port : Bool), let d := s.now dt
    core < 12 ∧ addr < 2 ^ 64 ∧ d.dbgServed port = true ∧ (d.dbgTaken port 1 core addr).dbgGrant core false = none) ∧
    (∃ (s : State) (dt core addr : Nat) (port : Bool) (a : Sys2Proof.Acc), let d := s.now dt
    core < 12 ∧ addr < 2 ^ 64 ∧ d.dbgServed port = true ∧ (d.dbgTaken port 1 core addr).dbgGrant core false = some a) :=
  ⟨⟨tst (fun d => d.set MAN_DBG_STS_GUARD_INV), 0, 11, 2 ^ 64 - 1, false, ⟨8, true, 27⟩, by decide⟩,
    ⟨tst (fun d => ({ (d.set MAN_DBG_STS_GUARD_INV) with dbg := { d.dbg with halted := [11] } } : Dev)), 0, 11, 2 ^ 64 - 1, false, ⟨8, true, 27⟩, by decide⟩,
    ⟨tst (fun d => d.set MAN_DBG_STS_GUARD_INV), 0, 11, 2 ^ 64 - 1, false, ⟨8, true, 27⟩, by decide⟩,
    ⟨State.reset, 0, 11, 2 ^ 64 - 1, false, by decide⟩,
    ⟨State.reset, 0, 11, 2 ^ 64 - 1, false, by decide⟩,
    ⟨State.reset, 0, 11, 2 ^ 64 - 1, false, by decide⟩,
    ⟨State.reset, 0, 11, 2 ^ 64 - 1, false, by decide⟩,
    ⟨tst (fun d => d.set MAN_DBG_STS_GUARD_INV), 0, 11, 2 ^ 64 - 1, false, ⟨8, true, 27⟩, by decide⟩⟩

theorem wit_DebugCommandsTakeEffect_part2 :
    (∃ (s : State) (dt core addr v : Nat) (port : Bool) (a : Sys2Proof.Acc), let d := s.now dt
    core < 12 ∧ addr < 2 ^ 64 ∧ d.dbgServed port = true ∧ (d.dbgTaken port 2 core addr).dbgGrant core true = some a) ∧
    (∃ (s : State) (dt core addr v : Nat) (port : Bool), let d := s.now dt
    core < 12 ∧ addr < 2 ^ 64 ∧ d.dbgServed port = true ∧ (d.dbgTaken port 2 core addr).dbgGrant core true = none) :=
  ⟨⟨tst (fun d => d.set MAN_DBG_STS_GUARD_INV), 0, 11, 2 ^ 64 - 1, 7, false, ⟨8, true, 27⟩, by decide⟩,
    ⟨State.reset, 0, 11, 2 ^ 64 - 1, 7, false, by decide⟩⟩

theorem wit_PowerSupplyAndClockCommandsTakeEffect_part1 :
    (∃ (s : State) (dt o v : Nat) (a : Sys2Proof.Acc), let d := s.now dt
    o < 9 ∧ d.mayWrite s.mem a (PWRM_SLEEP_REQ o) ∧ v % 2 = 1) ∧
    (∃ (s : State) (dt o v : Nat) (a : Sys2Proof.Acc), let d := s.now dt
    o < 9 ∧ d.mayWrite s.mem a (PWRM_TOL_US o) ∧ 80000 ≤ v ∧ v < 2 ^ 32) ∧
    (∃ (s : State) (dt core : Nat), let d := s.now dt
    core < 12 ∧ core ∈ d.wld.running) ∧
    (∃ (s : State) (dt core : Nat), let d := s.now dt
    core < 12 ∧ d.coreCalled core = true ∧ core ∈ d.wld.waiting) ∧
    (∃ (s : State) (dt : Nat), let d := s.now dt
    d.sid.asleep = 1 ∧ d.sid.timer ≠ 0 ∧ d.sid.noted = false ∧ d.sid.enteredAt + 1000000000 * d.sid.timer ≤ d.up) ∧
    (∃ (s : State) (dt bs : Nat) (low ok : Bool), let d := s.now dt
    bs < 4 ∧ d.frm.lockedOut = false) ∧
    (∃ (s : State) (dt range bs : Nat) (low ok : Bool), let d := s.now dt
    range < 4 ∧ bs < 4 ∧ d.frm.lockedOut = false ∧ d.meshFails range ok = false ∧ d.fld HPS_SUP_STS_RANGE = range) ∧
    (∃ (s : State) (dt : Nat) (below : Bool), let d := s.now dt
    d.hvRuns = true) :=
  ⟨⟨State.reset, 0, 8, 1, ⟨8, true, 0⟩, by decide⟩,
    ⟨State.reset, 0, 8, 80000, ⟨8, true, 0⟩, by decide⟩,
    ⟨tst fun d => ({ d with wld := { d.wld with running := [11] } } : Dev), 0, 11, by decide⟩,
    ⟨tst fun d => ({ (d.put PWRM_STATE_STATE 1) with wld := { d.wld with dispatch := [(11, false)], waiting := [11] } } : Dev), 0, 11, by decide⟩,
    ⟨tst fun d => ({ d with sid := { d.sid with asleep := 1, timer := 9 } } : Dev), 0x1000000000, by decide⟩,
    ⟨tst fun d => ({ d with frm := { d.frm with lockedOut := false } } : Dev), 0, 3, true, false, by decide⟩,
    ⟨tst fun d => d.put HPS_SUP_STS_RANGE 3, 0, 3, 3, true, true, by decide⟩,
    ⟨State.reset, 0, true, by decide⟩⟩

theorem wit_PowerSupplyAndClockCommandsTakeEffect_part2 :
    (∃ (s : State) (dt ppm : Nat), let d := s.now dt
    d.frm.beyvoUp = true ∧ d.on CLK_STS_REF = false ∧ ppmSize ppm ≤ 1000) ∧
    (∃ (s : State) (dt ppm : Nat) (edges : Bool), let d := s.now dt
    d.frm.beyvoUp = true ∧ d.on CLK_STS_REF = true ∧ (edges = true → 2000 < ppmSize ppm)) ∧
    (∃ (s : State) (dt pll : Nat), let d := s.now dt
    d.frm.beyvoUp = true) ∧
    (∃ (s : State) (dt u v : Nat) (a : Sys2Proof.Acc), let d := s.now dt
    1 ≤ u ∧ u ≤ 6 ∧ d.mayWrite s.mem a (CLK_GATE u)) ∧
    (∃ (s : State) (dt u v : Nat) (a : Sys2Proof.Acc), let d := s.now dt
    1 ≤ u ∧ u ≤ 6 ∧ d.mayWrite s.mem a (PWRM_PGATE u) ∧ v % subUnits u &&& d.fld (CLK_GATE_OFF u) = v % subUnits u) ∧
    (∃ (s : State) (dt u j : Nat), let d := s.now dt
    1 ≤ u ∧ u ≤ 6 ∧ j < 4 ∧ d.unitIdle u j = true ∧ bit j (d.fld (CLK_GATE_OFF u)) = true ∧ bit j ((d.set ⟨CLK_GATE u, 8 + j, 8 + j⟩).fld (PWRM_PGATE_OFF u)) = false) :=
  ⟨⟨State.reset, 0, 2 ^ 32 - 1000, by decide⟩,
    ⟨tst fun d => d.set CLK_STS_REF, 0, 2 ^ 32 - 2001, true, by decide⟩,
    ⟨State.reset, 0, 2, by decide⟩,
    ⟨State.reset, 0, 6, 1, ⟨8, true, 0⟩, by decide⟩,
    ⟨State.reset, 0, 1, 16, ⟨8, true, 0⟩, by decide⟩,
    ⟨tst fun d => d.put (CLK_GATE_OFF 1) 8, 0, 1, 3, by decide⟩⟩

theorem wit_FaultAndResetCommandsTakeEffect_part1 :
    (∃ (s : State) (dt v : Nat) (a : Sys2Proof.Acc), let d := s.now dt
    d.mayWrite s.mem a FRM_ACK ∧ bits 31 16 v = 0xFA17) ∧
    (∃ (s : State) (dt v : Nat) (a : Sys2Proof.Acc), let d := s.now dt
    d.mayWrite s.mem a FRM_SAFE_CTL ∧ bits 31 16 v = 0x5AFE ∧ bit 0 v = true ∧ d.frm.bootHold = false ∧ d.frm.tamperHold = false ∧ (List.range 8).any d.keepsSafeLow = false) ∧
    (∃ (s : State) (dt c v : Nat) (a : Sys2Proof.Acc), let d := s.now dt
    c < 8 ∧ d.mayWrite s.mem a (FRM_SWFAULT c) ∧ (a.guard = true ∨ bits 7 4 v = 0) ∧ bits 1 0 v ≠ 0) ∧
    (∃ (s : State) (dt v : Nat) (a : Sys2Proof.Acc), let d := s.now dt
    d.mayWrite s.mem a (FRM_SWFAULT 8) ∧ a.guard = true ∧ bits 1 0 v ≠ 0) ∧
    (∃ (s : State) (dt v : Nat) (a : Sys2Proof.Acc), let d := s.now dt
    d.mayWrite s.mem a FRM_RESET_CMD ∧ bits 31 16 v = 0xDE5E ∧ bits 1 0 v = 1) ∧
    (∃ (s : State) (dt v : Nat) (a : Sys2Proof.Acc), let d := s.now dt
    d.mayWrite s.mem a FRM_RESET_CMD ∧ bits 31 16 v = 0xDE5E ∧ bits 1 0 v = 2) ∧
    (∃ (s : State) (dt bs : Nat) (ok : Bool) (r : ResetReq), let d := s.now dt
    bs < 4 ∧ d.frm.devReset = some r ∧ d.frm.tamperHold = false ∧ d.frm.bootHold = false ∧ d.frm.lockedOut = false ∧ (d.frm.meshDue = true → ok = true)) ∧
    (∃ (s : State) (dt bs : Nat) (r : ResetReq), let d := s.now dt
    bs < 4 ∧ d.frm.bvReset = some r ∧ d.frm.tamperHold = false ∧ d.frm.bootHold = false ∧ d.frm.lockedOut = false ∧ d.frm.resetNLow = false) :=
  ⟨⟨State.reset, 0, 0xFA170000, ⟨8, true, 0⟩, by decide⟩,
    ⟨State.reset, 0, 0x5AFE0001, ⟨8, true, 0⟩, by decide⟩,
    ⟨tstM (Mem.setWord [] (0x11560000 + 4 * 137247) 0x67) (fun d => ({ (d.put (MAN_CORE_CFG_OWNER 11) 7) with boot := { d.boot with phase := .sealed } } : Dev)), 0, 7, 2, ⟨7, false, 11⟩, by decide⟩,
    ⟨State.reset, 0, 0x83, ⟨8, true, 0⟩, by decide⟩,
    ⟨State.reset, 0, 0xDE5E0001, ⟨8, true, 0⟩, by decide⟩,
    ⟨State.reset, 0, 0xDE5E0002, ⟨8, true, 0⟩, by decide⟩,
    ⟨tst fun d => ({ d with frm := { d.frm with devReset := some ⟨2, 0, 0⟩, meshDue := true, bootHold := false, lockedOut := false, tamperHold := false } } : Dev), 0, 3, true, ⟨2, 0, 0⟩, by decide⟩,
    ⟨tst fun d => ({ d with frm := { d.frm with bvReset := some ⟨6, 0, 0⟩, bootHold := false } } : Dev), 0, 3, ⟨6, 0, 0⟩, by decide⟩⟩

theorem wit_FaultAndResetCommandsTakeEffect_part2 :
    (∃ (s : State) (dt bs : Nat), let d := s.now dt
    bs < 4) ∧
    (∃ (s : State) (dt us : Nat), let d := s.now dt
    10 ≤ us) ∧
    (∃ (s : State) (dt c v : Nat) (a : Sys2Proof.Acc), let d := s.now dt
    c < 8 ∧ d.mayWrite s.mem a (CA_RESET_REQ c) ∧ bits 31 16 v = 0xC0AC ∧ d.dDegraded c = false ∧ d.tan.latent.find? (fun x => d.pairOwner x.1 == c) = none) ∧
    (∃ (s : State) (dt c v p at0 : Nat) (a : Sys2Proof.Acc), let d := s.now dt
    c < 8 ∧ d.mayWrite s.mem a (CA_RESET_REQ c) ∧ bits 31 16 v = 0xC0AC ∧ d.dDegraded c = false ∧ d.tan.latent.find? (fun x => d.pairOwner x.1 == c) = some (p, at0)) ∧
    (∃ (s : State) (dt c v : Nat) (a : Sys2Proof.Acc), let d := s.now dt
    c < 8 ∧ d.mayWrite s.mem a (FRM_COACH_CTL c) ∧ bits 31 16 v = 0xC0AC ∧ d.on (MAN_COACH_CFG_EN c) = true ∧ bit 0 v = true ∧ bit 1 v = false ∧ bit 2 v = false ∧ d.dDegraded c = false ∧ d.tan.latent.find? (fun x => d.pairOwner x.1 == c) = none) ∧
    (∃ (s : State) (dt c v : Nat) (a : Sys2Proof.Acc), let d := s.now dt
    c < 8 ∧ d.mayWrite s.mem a (FRM_COACH_CTL c) ∧ bits 31 16 v = 0xC0AC ∧ d.on (MAN_COACH_CFG_EN c) = true ∧ bit 0 v = false ∧ bit 1 v = true ∧ bit 2 v = false ∧ d.dDegraded c = false) ∧
    (∃ (s : State) (dt c v : Nat) (a : Sys2Proof.Acc), let d := s.now dt
    c < 8 ∧ d.mayWrite s.mem a (FRM_COACH_CTL c) ∧ bits 31 16 v = 0xC0AC ∧ d.on (MAN_COACH_CFG_EN c) = true ∧ bit 0 v = false ∧ bit 1 v = false ∧ bit 2 v = true ∧ d.coachDown c = false ∧ d.dDegraded c = false ∧ c ∈ d.frm.dsPolicy) ∧
    (∃ (s : State) (dt c i cause : Nat), let d := s.now dt
    c < 8 ∧ d.frm.coachReset.find? (·.1 == c) = some (i, cause) ∧ d.frm.devReset = none ∧ d.coachInGuard c = false) :=
  ⟨⟨State.reset, 0, 3, by decide⟩,
    ⟨State.reset, 0, 10, by decide⟩,
    ⟨State.reset, 0, 7, 0xC0AC0000, ⟨8, true, 0⟩, by decide⟩,
    ⟨tst fun d => ({ (d.put (MAN_CORE_CFG_OWNER 6) 7) with tan := { d.tan with latent := [(3, 5)] } } : Dev), 0, 7, 0xC0AC0000, 3, 5, ⟨8, true, 0⟩, by decide⟩,
    ⟨tst fun d => d.set (MAN_COACH_CFG_EN 7), 0, 7, 0xC0AC0001, ⟨8, true, 0⟩, by decide⟩,
    ⟨tst fun d => d.set (MAN_COACH_CFG_EN 7), 0, 7, 0xC0AC0002, ⟨8, true, 0⟩, by decide⟩,
    ⟨tst fun d => ({ (d.set (MAN_COACH_CFG_EN 7)) with frm := { d.frm with dsPolicy := [7] } } : Dev), 0, 7, 0xC0AC0004, ⟨8, true, 0⟩, by decide⟩,
    ⟨tst fun d => ({ d with frm := { d.frm with coachReset := [(7, 5)] } } : Dev), 0, 7, 7, 5, by decide⟩⟩

theorem wit_FaultAndResetCommandsTakeEffect_part3 :
    (∃ (s : State) (dt v : Nat) (a : Sys2Proof.Acc), let d := s.now dt
    d.mayWrite s.mem a FRM_CTL ∧ bit 0 v = true) ∧
    (∃ (s : State) (dt v : Nat) (a : Sys2Proof.Acc), let d := s.now dt
    d.mayWrite s.mem a FRM_BLK_RST ∧ bits 31 16 v = 0xB1C0 ∧ bits 2 0 v = 1 ∧ 16 ≤ bits 8 3 v ∧ bits 8 3 v ≤ 35) ∧
    (∃ (s : State) (dt v : Nat) (a : Sys2Proof.Acc), let d := s.now dt
    d.mayWrite s.mem a FRM_BLK_RST ∧ bits 31 16 v = 0xB1C0 ∧ bits 2 0 v = 2) ∧
    (∃ (s : State) (dt v : Nat) (a : Sys2Proof.Acc), let d := s.now dt
    d.mayWrite s.mem a FRM_BLK_RST ∧ bits 31 16 v = 0xB1C0 ∧ bits 2 0 v = 3) ∧
    (∃ (s : State) (dt v : Nat) (a : Sys2Proof.Acc), let d := s.now dt
    d.mayWrite s.mem a FRM_BLK_RST ∧ bits 31 16 v = 0xB1C0 ∧ bits 2 0 v = 4 ∧ bits 8 3 v ≤ 31) :=
  ⟨⟨State.reset, 0, 1, ⟨8, true, 0⟩, by decide⟩,
    ⟨State.reset, 0, 0xB1C00119, ⟨8, true, 0⟩, by decide⟩,
    ⟨State.reset, 0, 0xB1C00002, ⟨8, true, 0⟩, by decide⟩,
    ⟨State.reset, 0, 0xB1C00003, ⟨8, true, 0⟩, by decide⟩,
    ⟨State.reset, 0, 0xB1C000FC, ⟨8, true, 0⟩, by decide⟩⟩

theorem wit_TallyAndAccessCommandsTakeEffect_part1 :
    (∃ (s : State) (dt addr v : Nat) (high : Bool) (a : Sys2Proof.Acc), let d := s.now dt
    counterHalf addr = some high ∧ d.mayWrite s.mem a addr ∧ d.inertPage addr = false) ∧
    (∃ (s : State) (dt addr v : Nat) (a : Sys2Proof.Acc), let d := s.now dt
    (counterHalf addr).isSome = true ∧ d.mayWrite s.mem a addr ∧ d.inertPage addr = true) ∧
    (∃ (s : State) (dt core v : Nat) (a : Sys2Proof.Acc), let d := s.now dt
    core < 12 ∧ d.mayWrite s.mem a (TALLY_C_SMP_CFG core) ∧ d.inertPage (TALLY_C_SMP_CFG core) = false) ∧
    (∃ (s : State) (dt core v : Nat) (a : Sys2Proof.Acc), let d := s.now dt
    core < 12 ∧ d.mayWrite s.mem a (TALLY_C_SMP_RD core) ∧ v < 2 ^ 32 ∧ (d.rn (TALLY_C_SMP_WR core) + 2 ^ 32 - v) % 2 ^ 32 ≤ 512 ∧ v ≠ d.rn (TALLY_C_SMP_RD core) ∧ d.inertPage (TALLY_C_SMP_RD core) = false) ∧
    (∃ (s : State) (dt core count addr opcode lat : Nat), let d := s.now dt
    let ev := d.smpEvent core
    let e := if ownEvent ev then d else d.tallyC core ev count
    let t0 := tget 0 e.tal.smp core + (if ownEvent ev then 0 else count)
    let n := e.fld (TALLY_C_SMP_CFG_N core)
    core < 12 ∧ e.smpOn core = true ∧ t0 < n) ∧
    (∃ (s : State) (dt core count addr opcode lat : Nat), let d := s.now dt
    let ev := d.smpEvent core
    let e := if ownEvent ev then d else d.tallyC core ev count
    let t0 := tget 0 e.tal.smp core + (if ownEvent ev then 0 else count)
    let n := e.fld (TALLY_C_SMP_CFG_N core)
    core < 12 ∧ e.smpOn core = true ∧ n ≤ t0 ∧ t0 < 2 * n ∧ ({ e with tal := { e.tal with smp := tset 0 (t0 - n) core e.tal.smp } } : Dev).smpFill core < 512) ∧
    (∃ (s : State) (dt n : Nat), let d := s.now dt
    n < 256 ∧ n ≠ 0 ∧ d.ttKind n = 3 ∧ d.fld (STG_TT_CTL_WORK n) = 2 ∧ d.ttApplies n d.phase = true ∧ d.inStage (d.fld (STG_TT_START_NS n)) = true) ∧
    (∃ (s : State) (dt addr width v : Nat) (a : Sys2Proof.Acc), let d := s.now dt
    widthOk width = true ∧ window addr = none ∧ checkAccess s.mem d a .write addr = .pass ∧ checkAccess s.mem d a .write (addr + width - 1) = .pass ∧ addr < 0x100000000) :=
  ⟨⟨State.reset, 0, 0x4007DBF8, 7, true, ⟨8, true, 0⟩, by decide⟩,
    ⟨tst fun d => d.set (MAN_CORE_CFG_WHEELER 1), 0, 0x40071008, 7, ⟨8, true, 0⟩, by decide⟩,
    ⟨State.reset, 0, 11, 1, ⟨8, true, 0⟩, by decide⟩,
    ⟨State.reset, 0, 11, 2 ^ 32 - 512, ⟨8, true, 0⟩, by decide⟩,
    ⟨tst fun d => (d.set (TALLY_C_SMP_CFG_EN 11)).put (TALLY_C_SMP_CFG_N 11) 65535, 0, 11, 65534, 0, 0, 0, by decide⟩,
    ⟨tst fun d => (d.set (TALLY_C_SMP_CFG_EN 11)).put (TALLY_C_SMP_CFG_N 11) 65535, 0, 11, 65535, 0, 0, 0, by decide⟩,
    ⟨tst fun d => ({ ((d.put (STG_TT_CTL_WORK 255) 2).put (STG_TT_CTL_KIND 255) 3) with stg := { d.stg with lastTick := some 0 } } : Dev), 0, 255, by decide⟩,
    ⟨tstM (Mem.setWord [] (0x11560000 + 4 * 6143) 0x78) (fun d => d), 0, 0x117FFFC0, 64, 7, ⟨8, true, 0⟩, by decide⟩⟩

theorem wit_TallyAndAccessCommandsTakeEffect_part2 :
    (∃ (s : State) (dt addr width v : Nat) (a : Sys2Proof.Acc), let d := s.now dt
    widthOk width = true ∧ window addr = none ∧ checkAccess s.mem d a .read addr = .pass ∧ checkAccess s.mem d a .read (addr + width - 1) = .pass ∧ 0x40000 ≤ addr ∧ addr < 0x100000000) ∧
    (∃ (s : State) (dt addr v : Nat) (a : Sys2Proof.Acc), let d := s.now dt
    (window addr).isSome = true ∧ addr / 0x10000 ≠ 0x4033 ∧ addr % 4 = 0 ∧ d.mayWrite s.mem a addr ∧ d.deadAperture addr = false) ∧
    (∃ (s : State) (dt : Nat) (a : Sys2Proof.Acc), let d := s.now dt
    d.mayRead s.mem a TIME_NOW_LO) ∧
    (∃ (s : State) (dt : Nat), let d := s.now dt
    d.boot.phase = .sealed ∧ d.frm.beyvoUp = true ∧ d.fld SID_STS_STATE ≠ 3 ∧ d.stg.nextTick ≤ d.domNs) ∧
    (∃ (s : State) (dt : Nat), let d := s.now dt
    d.domNs < d.stg.nextTick) :=
  ⟨⟨tstM (Mem.setWord [] (0x11560000 + 4 * 6143) 0x78) (fun d => d), 0, 0x117FFFFF, 1, 7, ⟨8, true, 0⟩, by decide⟩,
    ⟨State.reset, 0, TIME_LOCK_SECS, 7, ⟨8, true, 0⟩, by decide⟩,
    ⟨State.reset, 0, ⟨8, true, 0⟩, by decide⟩,
    ⟨tst fun d => ({ d with boot := { d.boot with phase := .sealed } } : Dev), 0, by decide⟩,
    ⟨tst fun d => ({ d with stg := { d.stg with nextTick := 1 } } : Dev), 0, by decide⟩⟩

theorem wit_WrongWidthAccessIsRefused :
    widthOk 2 = true ∧ (window 0x40080014).isSome = true ∧ 0x40080014 / 65536 ≠ 0x4033 ∧ (State.reset.now 5).frm.beyvoUp = true ∧
      widthOk 4 = true ∧ (State.reset.now 5).actsAs ⟨8, true, 0⟩ = true ∧ (State.reset.now 5).injected ⟨8, true, 0⟩ 0x48012346 = false ∧ (window 0x48012346).isSome = true ∧ 0x48012346 % 4 ≠ 0 := by decide

/-- A full ring with one record waiting. -/

def tFull (posted : Bool) : State := tst fun d =>
  ({ ((((d.wr LOGB_WR_CNT 70000).wr LOGB_RD_CNT 4464).set LOGB_INT_EN_OVERWRITE).put (IRQ_ROUTE_OWNER 353) 8).set ⟨SYS_READY, 18, 18⟩ with
    log := { d.log with queue := [resetRec], ovwPosted := posted } } : Dev)

theorem wit_FullRingOverwritesOldestRecord_1 : let d := (tFull false).now 3
    d.log.queue = resetRec :: [] ∧ (d.rn LOGB_WR_CNT + 2 ^ 32 - d.rn LOGB_RD_CNT) % 2 ^ 32 = 65536 ∧
      d.on LOGB_INT_EN_OVERWRITE = true ∧ d.fld (IRQ_ROUTE_OWNER 353) ≠ 15 ∧ d.log.ovwPosted = false ∧ bit 18 (d.rn SYS_READY) = true ∧
      d.frm.beyvoUp = true := by decide

theorem wit_FullRingOverwritesOldestRecord_2 : let d := (tFull true).now 3
    d.log.queue = resetRec :: [] ∧ (d.rn LOGB_WR_CNT + 2 ^ 32 - d.rn LOGB_RD_CNT) % 2 ^ 32 = 65536 ∧ d.log.ovwPosted = true := by decide

theorem wit_FullRingOverwritesOldestRecord_3 : let d := (tFull true).now 3
    d.mayWrite (tFull true).mem ⟨8, true, 0⟩ LOGB_RD_CNT ∧
      (d.rn LOGB_WR_CNT + 2 ^ 32 - 70000 % 2 ^ 32) % 2 ^ 32 < 2 ^ 31 ∧ (d.rn LOGB_WR_CNT + 2 ^ 32 - 7 % 2 ^ 32) % 2 ^ 32 < 2 ^ 31 := by decide

/-- Coach 3 may reach the page of IRQ, and source 511 is routed to it. -/

def tIrq : State := tstM (Mem.setWord [] (0x11560000 + 4 * 137296) 0x63) fun d =>
  ({ ((d.put (IRQ_ROUTE_OWNER 511) 3).put (MAN_CORE_CFG_OWNER 2) 3) with boot := { d.boot with phase := .sealed } } : Dev)

theorem wit_OwnersReachOnlyTheirMaskBits_1 :
    (tIrq.now 0).mayWrite tIrq.mem ⟨3, false, 2⟩ (IRQ_MASK 15) ∧ (tIrq.now 0).fld (IRQ_ROUTE_OWNER (32 * 15 + 31)) = 3 ∧
      (tIrq.now 0).fld (IRQ_ROUTE_OWNER (32 * 15 + 30)) ≠ 3 ∧ (tIrq.now 0).mayWrite tIrq.mem ⟨8, true, 27⟩ (IRQ_MASK 0) := by decide

theorem wit_OwnersReachOnlyTheirMaskBits_2 :
    (tIrq.now 0).mayRead tIrq.mem ⟨3, false, 2⟩ (IRQ_MASK 15) ∧ (tIrq.now 0).mayRead tIrq.mem ⟨3, false, 2⟩ (IRQ_PEND 15) := by decide

/-- A descriptor of an operation on slot 0 waits for the strongbox. -/

def tRoot (op : Nat) : State := tstM (Mem.setWord (Mem.setWord [] 0x10000000 op) 0x11560000 0x78) fun d => { d with sbx := { d.sbx with queue := [0x10000000] } }

theorem wit_RootSlotRefusesEveryWrite : ∀ op ∈ [1, 2, 3, 6, 7, 8, 0x20, 0x21, 0x22, 0x23, 0x24],
    let c := sbxCmd (tRoot op).mem 0x10000000
    ((tRoot op).now 0).sbx.queue = 0x10000000 :: [] ∧ ((tRoot op).now 0).guardMem (tRoot op).mem 0x10000000 32 .read = true ∧
      ((tRoot op).now 0).guardMem (tRoot op).mem (0x10000000 + 24) 8 .write = true ∧ c.slot = 0 ∧ c.op = op ∧ ((tRoot op).now 0).gated 2 0 = false ∧
      ((tRoot op).now 0).guardMem (tRoot op).mem c.inAddr c.inLen .read = true := by decide

/-- An edit under way of the entry of page 7, which belongs to coach 2. -/

def tEdit (e i v : Nat) : State := tstM (Mem.setByte (Mem.setWord [] (0x11560000 + 4 * 7) e) 0x10007123 9) fun d =>
  { d with wld := { d.wld with edit := some (i, v) } }

theorem wit_ManifestEditChangesOnlyItsEntry :
    ((tEdit 0x62 7 0x68).now 0).wld.edit = some (7, 0x68) ∧ editResult (tEdit 0x62 7 0x68).mem 7 0x68 = 0 ∧
      entryOwner (Mem.entry (tEdit 0x62 7 0x68).mem 7) ≠ entryOwner 0x68 ∧ editResult (tEdit 0x62 7 0x22).mem 7 0x22 = 0 ∧
      entryOwner (Mem.entry (tEdit 0x62 7 0x22).mem 7) = entryOwner 0x22 ∧ entryGuard (Mem.entry (tEdit 0x62 7 0x22).mem 7) = entryGuard 0x22 ∧
      editResult (tEdit 0x80000062 7 0x68).mem 7 0x68 = 1 ∧ editResult (tEdit 0x62 7 0xC2).mem 7 0xC2 = 2 ∧
      editResult (tEdit 0x62 141312 0x68).mem 141312 0x68 = 3 := by decide

/-- ODO_ADVANCE of an odometer by 4 waits for the strongbox. -/

def tOdo (n : Nat) : State := tstM (Mem.setWord (Mem.setWords [] 0x10000000 [0x29 + 65536 * n, 0, 0, 0x20000000, 8]) 0x11560000 0x78) fun d =>
  { d with sbx := { d.sbx with queue := [0x10000000] } }

theorem wit_OdometersOnlyAdvance : ∀ n ∈ [0, 1, 14, 15, 255],
    let c := sbxCmd (tOdo n).mem 0x10000000
    ((tOdo n).now 0).sbx.queue = 0x10000000 :: [] ∧ ((tOdo n).now 0).guardMem (tOdo n).mem 0x10000000 32 .read = true ∧
      ((tOdo n).now 0).guardMem (tOdo n).mem (0x10000000 + 24) 8 .write = true ∧ c.op = 0x29 ∧ c.inLen = 8 ∧ ((tOdo n).now 0).guardMem (tOdo n).mem c.inAddr c.inLen .read = true ∧
      c.slot = n ∧ ((tOdo n).now 0).odo n + 4 < 2 ^ 64 := by decide

theorem wit_OdometersOnlyAdvance_value :
    leNat (Mem.bytes (tstM (Mem.setWord [] 0x20000000 4) id).mem 0x20000000 8) = 4 := by decide

theorem wit_TimeReadsFormOneInstant :
    (State.reset.now 7).mayRead State.reset.mem ⟨8, true, 0⟩ TIME_NOW_LO ∧
      (match exec (.latchingReadLo 7 ⟨8, true, 0⟩ TIME_NOW_LO) State.reset with
        | .next t => decide ((t.now 9).mayRead t.mem ⟨8, true, 0⟩ TIME_NOW_HI ∧ (t.now 9).mayRead t.mem ⟨8, true, 0⟩ TIME_NOW_FRAC)
        | _ => false) = true := by decide

theorem wit_DeviceTimeFollowsItsMode :
    (∃ d : Dev, d.tim.mode = .servo ∧ sgn 32 (d.rn TIME_FREQ) + d.tim.drift = -80000 ∧ d.tim.rem < 10000000000) ∧ (∃ d : Dev, d.tim.mode = .frozen) ∧
      (∃ d : Dev, d.tim.mode = .heavia ∧ d.tim.baseUp ≤ d.up ∧ d.tim.dev = d.tim.baseDev + heaviaAdvance (d.up - d.tim.baseUp)) ∧
      (∃ d : Dev, d.tim.mode = .stopped ∧ 5 < d.tim.startIn ∧ d.tim.startIn ≤ 20000000) :=
  ⟨⟨{ (State.reset.dev.wr TIME_FREQ (2 ^ 32 - 80000)) with tim := { State.reset.dev.tim with mode := .servo } }, by decide⟩,
    ⟨{ State.reset.dev with tim := { State.reset.dev.tim with mode := .frozen } }, rfl⟩,
    ⟨{ State.reset.dev with up := 5, tim := { State.reset.dev.tim with mode := .heavia } }, by decide⟩, ⟨State.reset.dev, by decide⟩⟩

/-- After seal, with core 2 that of coach 3. -/

def tCoach (f : Dev → Dev) : State := tst fun d => f ({ (d.put (MAN_CORE_CFG_OWNER 2) 3) with boot := { d.boot with phase := .sealed } } : Dev)

theorem wit_RefusedMemoryAccessChangesNothing :
    widthOk 8 = true ∧ (window 0x10000000).isSome = false ∧ ((tCoach id).now 0).frm.beyvoUp = true ∧
      checkAccess [] ((tCoach id).now 0) ⟨3, false, 2⟩ .write 0x10000000 = .refuse true ∧ ((tCoach id).now 0).on MAN_STS_REFUSED = false ∧
      checkAccess [] ((tCoach fun d => d.set MAN_STS_REFUSED).now 0) ⟨3, false, 2⟩ .fetch 0x20000000 = .refuse true ∧
      ((tCoach fun d => d.set MAN_STS_REFUSED).now 0).on MAN_STS_REFUSED = true := by decide

theorem wit_MemoryWriteChangesOnlyItsBytes :
    widthOk 64 = true ∧ (window 0x10000FC0).isSome = false ∧ checkAccess [] (State.reset.now 0) ⟨8, true, 0⟩ .write 0x10000FC0 = .pass ∧
      checkAccess [] (State.reset.now 0) ⟨8, true, 0⟩ .write (0x10000FC0 + 64 - 1) = .pass ∧
      checkAccess [] (State.reset.now 0) ⟨8, true, 0⟩ .read 0x10000FC0 = .pass ∧
      checkAccess [] (State.reset.now 0) ⟨8, true, 0⟩ .read (0x10000FC0 + 64 - 1) = .pass := by decide

theorem wit_UnlatchIsTheWayOutOfLatched :
    (State.reset.now 0).mayWrite [] ⟨8, true, 0⟩ (CHAN_PCTL 39) ∧ (State.reset.now 0).on (CHAN_STS_LATCHED 39) = false ∧
      ((tst fun d => d.set (CHAN_STS_LATCHED 39)).now 0).on (CHAN_STS_LATCHED 39) = true ∧
      ((tst fun d => d.set (CHAN_STS_LATCHED 39)).now 0).on (CHAN_STS_HARNESS 39) = false ∧
      ((tst fun d => d.set (CHAN_STS_LATCHED 39)).now 0).on (CHAN_STS_THERMAL 39) = false ∧
      ((tst fun d => d.set (CHAN_STS_LATCHED 39)).now 0).mayWrite [] ⟨8, true, 0⟩ (CHAN_PCTL 39) ∧
      ((tst fun d => (d.set (CHAN_STS_LATCHED 0)).set (CHAN_STS_HARNESS 0)).now 0).on (CHAN_STS_HARNESS 0) = true ∧
      ((tst fun d => (d.set (CHAN_STS_LATCHED 0)).set (CHAN_STS_HARNESS 0)).now 0).mayWrite [] ⟨8, true, 0⟩ (CHAN_PCTL 0) := by decide

theorem wit_BeyvoResetKeepsTheHeaviaSide :
    ((tst fun d => d.startBeyvoReset 6).now 0).frm.bvReset = some { cause := 6, block := 0, code := 0 } ∧
      ((tst fun d => d.startBeyvoReset 6).now 0).frm.tamperHold = false ∧ ((tst fun d => d.startBeyvoReset 6).now 0).frm.bootHold = false ∧
      ((tst fun d => d.startBeyvoReset 6).now 0).frm.lockedOut = false ∧ ((tst fun d => d.startBeyvoReset 6).now 0).frm.resetNLow = false ∧
      ((tst fun d => { (d.startBeyvoReset 6) with frm := { (d.startBeyvoReset 6).frm with tamperHold := true } }).now 0).frm.tamperHold = true := by decide

theorem wit_WritesFollowTheAccessTypes : (⟨31, 31, .w1c, false⟩ : FieldDesc).lo ≤ (⟨31, 31, .w1c, false⟩ : FieldDesc).hi := by decide

theorem wit_SealedTimetableStaysAsItIs :
    let s := tstM (Mem.setWord [] (0x11560000 + 4 * (137216 + 0x411)) 0x80000009) fun d => { d with boot := { d.boot with phase := .sealed } }
    (s.now 0).boot.phase = .sealed ∧ (s.now 0).mayWrite s.mem ⟨8, true, 27⟩ (STG_TT_LEN 0) ∧
      (s.now 0).mayWrite s.mem ⟨8, true, 27⟩ (STG_TT_GATE 255) ∧ (s.now 0).frm.beyvoUp = true := by decide

theorem wit_OnlyStoringCommandsChangeMemory :
    mayStore (.stageOutFall 0) = false ∧ (match exec (.stageOutFall 0) State.reset with | .next _ => true | _ => false) = true ∧
      mayStore (.unlatch 0 ⟨8, true, 0⟩ 0) = false := by decide

theorem wit_PlainFramesPassThroughTheFabric :
    (∃ (s : State) (dt p ts256 : Nat) (bytes : List Nat) (b : Bool) (g : Dev), let d := s.now dt
    p < 16 ∧ d.on (PORT_STS_LINK p) = true ∧ d.portOwner p ≠ 15 ∧ d.sidAt p ts256 = 0 ∧ d.fld (SID_PORT_STS_STATE p) < 2 ∧ d.towPort ≠ some p ∧ d.on (PORT_CFG_TRUNK p) = false ∧ d.ingressMirrored p bytes = false ∧ 64 ≤ bytes.length ∧ (p = 6 → toolFrame bytes = none) ∧ d.isPtp bytes = false ∧ (d.statRx p bytes.length).secVerify p bytes none = (.pass b, g) ∧ g.isPtp bytes = false) ∧
    (∃ (s : State) (dt id : Nat) (f : Frame), let d := s.now dt
    let e := d.tallyD 0x81 1
    let p := f.wb.port
    let q := d.active.lookup p f.body
    let g := if f.tagged then e else (e.takeFseq q.idMatch p q.cls).2
    let wb := { f.wb with cls := q.cls, epoch := e.fld LKP_STS_EPOCH, fseq := (if f.tagged then f.wb.fseq else (e.takeFseq q.idMatch p q.cls).1) }
    let dests := q.dest.filter (fun t => match q.members with | some m => t ≠ p && bit t m | none => true)
    d.frame id = some f ∧ f.looked = false ∧ f.kind = 0 ∧ bit 19 (d.active.port p 0) = false ∧ q.rule = none ∧ q.drop = none ∧ q.stream = none ∧ q.copyGuard = false ∧ e.towPort = none ∧ dests ≠ []) ∧
    (∃ (s : State) (dt id : Nat) (f : Frame), let d := s.now dt
    d.frame id = some f ∧ f.looked = true ∧ f.tail = false ∧ f.fcsOk = true ∧ f.icvOk = true ∧ f.lenBad = false ∧ f.tooLong = false ∧ f.mir = none ∧ f.rcv = none ∧ f.heldDup = false ∧ f.rest = none) ∧
    (∃ (s : State) (dt p : Nat) (f : Frame) (c : Copy), let d := s.now dt
    let g := d.shaper p
    let body := egressBytes f c (tget 0 g.fab.acfSeq (Config.portMac p + 2 ^ 48 * ((c.acf.map (·.uid)).getD 0)))
    let fl := c.flags ||| (if g.fab.gapNext.contains (flowKey f.src p c.cls) then 256 else 0) ||| (if g.egressMirrored f c then 32 else 0)
    let l := body ++ List.replicate (60 - body.length) 0
    let m := g.modCopy f.id p (fun c => { c with sending := true, flags := fl })
    (p < 16 ∨ (45 ≤ p ∧ p < 48)) ∧ d.sendingClass p = none ∧ (p < 36 → d.on (PORT_STS_LINK p) = true ∧ d.fld (SID_PORT_STS_STATE p) = 0) ∧ d.nextCopy p = some (f, c) ∧ c.port = p ∧ c.mirror = false ∧ f.kind = 0 ∧ g.putsTag c = false ∧ g.txSa p body = none ∧ g.tcEvent f body = none) ∧
    (∃ (s : State) (dt p : Nat) (f : Frame) (c : Copy), let d := s.now dt
    let w := tget { bytes := [], body := [], an := none, stomped := false } d.fab.wire p
    (p < 16 ∨ (45 ≤ p ∧ p < 48)) ∧ d.inProgress p = some (f, c) ∧ f.tail = true ∧ c.port = p ∧ c.bad = false ∧ c.mirror = false) :=
  ⟨⟨tst fun d => (d.set (PORT_STS_LINK 15)).clr (PORT_CFG_OWNER 15), 0, 15, 7, List.replicate 64 1, false, (tst fun d => ((d.set (PORT_STS_LINK 15)).clr (PORT_CFG_OWNER 15)).statRx 15 64).now 0, by decide⟩,
    ⟨tst fun d => ({ d with fab := { (d.holding { tFrame 0 0 15 7 [1, 2] with looked := false }).fab with banks := [(1, [(0x50000, 0x1000), (0x50004, 2), (0x50014, 2)])] } } : Dev), 0, 0, { tFrame 0 0 15 7 [1, 2] with looked := false }, by decide⟩,
    ⟨tst fun d => d.holding { tFrame 0 0 15 7 [1, 2] with tail := false, kind := 1 }, 0, 0, { tFrame 0 0 15 7 [1, 2] with tail := false, kind := 1 }, by decide⟩,
    ⟨tst fun d => (d.set (PORT_STS_LINK 15)).holding (tFrame 0 0 15 7 [1, 2]), 0, 15, tFrame 0 0 15 7 [1, 2], tCopy 15 7, by decide⟩,
    ⟨tst fun d => d.holding { tFrame 0 0 15 7 [1, 2] with copies := [{ tCopy 15 7 with sending := true }] }, 0, 15, { tFrame 0 0 15 7 [1, 2] with copies := [{ tCopy 15 7 with sending := true }] }, { tCopy 15 7 with sending := true }, by decide⟩⟩

theorem wit_CellAndPlaneCommandsTakeEffect :
    (∃ (s : State) (dt p src cls num idx : Nat) (last : Bool), let d := s.now dt
    p < 48 ∧ src < 52 ∧ cls < 8 ∧ num < 4096 ∧ d.fabDown = false ∧ d.expected (flowKey src p cls) = some num ∧ d.frm.beyvoUp = true) ∧
    (∃ (s : State) (dt p src cls e : Nat) (x : GapTimer) (f : Frame) (c : Copy), let d := s.now dt
    let key := flowKey src p cls
    let next := (c.start + f.cells) % 4096
    let g := (d.bump (RSQ_LOST_CNT p)).resolve f.id p false
    let h : Dev := { g with fab := { g.fab with held := g.fab.held.filter (fun y => !(y.flow == key && decide ((y.num + 4096 - e) % 4096 < (next + 4096 - e) % 4096))), gapNext := insertNat key g.fab.gapNext } }
    p < 48 ∧ src < 52 ∧ cls < 8 ∧ x ∈ d.fab.gaps ∧ x.flow = key ∧ x.since + 10 * d.fld RSQ_CTL_GAP ≤ d.up ∧ d.expected key = some e ∧ d.cellCopy src p cls e = some (f, c) ∧ c.sending = false) ∧
    (∃ (s : State) (dt i kind : Nat), let d := s.now dt
    i < 2 ∧ bit i (d.fld FAB_STS_PLANE_UP) = true ∧ kind ≠ 1 ∧ d.frm.beyvoUp = true) ∧
    (∃ (s : State) (dt i v : Nat) (a : Sys2Proof.Acc), let d := s.now dt
    d.mayWrite s.mem a FAB_PLANE_CTL ∧ v % 4 = 2 ^ i ∧ i < 2 ∧ bit i (d.fld FAB_STS_PLANE_UP) = false) ∧
    (∃ (s : State) (dt i : Nat), let d := s.now dt
    i < 2 ∧ i ∈ d.fab.selfTest) ∧
    (∃ (s : State) (dt : Nat), let d := s.now dt
    d.on FAB_MODE_RECOVERY = true ∧ d.fld FAB_MODE_RECOVERY_LEFT = 0) :=
  ⟨⟨tst fun d => ({ d with fab := { d.fab with expect := [(flowKey 51 47 7, 4096)] } } : Dev), 0, 47, 51, 7, 4095, 0, true, by decide⟩,
    ⟨tst fun d => ({ (d.holding { tFrame 0 0 15 7 [1, 2] with looked := true, copies := [{ tCopy 15 7 with passed := 0 }] }) with fab := { (d.holding { tFrame 0 0 15 7 [1, 2] with looked := true, copies := [{ tCopy 15 7 with passed := 0 }] }).fab with gaps := [⟨flowKey 0 15 7, 0⟩], expect := [(flowKey 0 15 7, 1)] } } : Dev), 0x1000000, 15, 0, 7, 0, ⟨flowKey 0 15 7, 0⟩, { tFrame 0 0 15 7 [1, 2] with looked := true, copies := [{ tCopy 15 7 with passed := 0 }] }, { tCopy 15 7 with passed := 0 }, by decide⟩,
    ⟨tst fun d => d.put FAB_STS_PLANE_UP 3, 0, 1, 2, by decide⟩,
    ⟨tst fun d => d.clr FAB_STS_PLANE_UP, 0, 1, 2, ⟨8, true, 0⟩, by decide⟩,
    ⟨tst fun d => ({ d with fab := { d.fab with selfTest := [1] } } : Dev), 0, 1, by decide⟩,
    ⟨tst fun d => (d.set FAB_MODE_RECOVERY).clr FAB_MODE_RECOVERY_LEFT, 0, by decide⟩⟩

theorem wit_WindowAndPairCommandsComplete_part1 :
    (∃ (s : State) (dt n tick : Nat), let d := s.now dt
    n < 256 ∧ d.fld (STG_TT_START_NS n) ≠ 0 ∧ d.stg.lastTick = some tick ∧ tick + d.fld (STG_TT_START_NS n) ≤ d.domNs ∧ (d.ttKind n = 1 ∨ d.ttKind n = 2) ∧ d.ttApplies n d.phase = true ∧ d.skipped (d.fld (STG_TT_CTL_OWNER n)) = false) ∧
    (∃ (s : State) (dt c v : Nat) (a : Sys2Proof.Acc) (w : Win) (rest : List Win), let d := s.now dt
    c < 8 ∧ d.mayWrite s.mem a (STG_DONE c) ∧ bit 0 v = true ∧ d.stg.wins = w :: rest ∧ w.owner = c ∧ w.awaits = true ∧ w.isOpen = true ∧ (∀ x ∈ d.stg.wins, x.owner = c → x.isOpen = true → d.domNs ≤ x.endAt)) ∧
    (∃ (s : State) (dt v : Nat) (a : Sys2Proof.Acc) (w : Win) (rest : List Win), let d := s.now dt
    d.mayWrite s.mem a STG_GDONE ∧ bit 0 v = true ∧ d.stg.wins = w :: rest ∧ w.owner = 8 ∧ w.awaits = true ∧ w.isOpen = true ∧ (∀ x ∈ d.stg.wins, x.owner = 8 → x.isOpen = true → d.domNs ≤ x.endAt)) ∧
    (∃ (s : State) (dt n : Nat) (w : Win) (rest : List Win), let d := s.now dt
    n < 256 ∧ d.stg.wins = w :: rest ∧ w.entry = n ∧ w.isOpen = true ∧ w.awaits = false ∧ w.endAt ≤ d.domNs ∧ (∀ x ∈ rest, x.entry = n → x.isOpen = false) ∧ d.tan.latent = []) ∧
    (∃ (s : State) (dt pair kind addr : Nat) (ad dd td ig : Bool), let d := s.now dt
    pair < 4 ∧ kind < 3 ∧ d.fld (TAN_PAIR_STS_STATE pair) = 1) ∧
    (∃ (s : State) (dt pair : Nat) (l w : List Nat), let d := s.now dt
    pair < 4 ∧ d.fld (TAN_PAIR_STS_STATE pair) = 1 ∧ d.tan.foldSince.any (fun x => x.1 == pair) = true ∧ d.foldInterval pair ≤ d.foldRun pair) ∧
    (∃ (s : State) (dt pair i l : Nat), let d := s.now dt
    pair < 4 ∧ d.tan.fold.find? (fun x => x.1 == pair) = some (i, l, l) ∧ d.fld (TAN_PAIR_STS_STATE pair) = 1 ∧ pair ∉ d.tan.injFold) ∧
    (∃ (s : State) (dt pair rail : Nat) (par : Bool), let d := s.now dt
    pair < 4 ∧ d.fld (TAN_PAIR_STS_STATE pair) = 1) :=
  ⟨⟨tst fun d => ({ (((d.put (STG_TT_CTL_KIND 255) 2).put (STG_TT_START_NS 255) 7).put (STG_TT_CTL_OWNER 255) 8) with tim := { d.tim with dev := 2 ^ 20 }, stg := { d.stg with lastTick := some 5 } } : Dev), 0, 255, 5, by decide⟩,
    ⟨tst fun d => ({ d with stg := { d.stg with wins := [⟨255, 7, 11, 2 ^ 80, true, true⟩] } } : Dev), 0, 7, 1, ⟨8, true, 0⟩, ⟨255, 7, 11, 2 ^ 80, true, true⟩, [], by decide⟩,
    ⟨tst fun d => ({ d with stg := { d.stg with wins := [⟨255, 8, 11, 2 ^ 80, true, true⟩] } } : Dev), 0, 1, ⟨8, true, 0⟩, ⟨255, 8, 11, 2 ^ 80, true, true⟩, [], by decide⟩,
    ⟨tst fun d => ({ d with stg := { d.stg with wins := [⟨255, 7, 11, 0, true, false⟩] } } : Dev), 0, 255, ⟨255, 7, 11, 0, true, false⟩, [], by decide⟩,
    ⟨tst fun d => ({ (d.put (TAN_PAIR_STS_STATE 3) 1) with tan := { d.tan with injBound := [3] } } : Dev), 0, 3, 2, 0, true, true, true, false, by decide⟩,
    ⟨tst fun d => ({ (d.put (TAN_PAIR_STS_STATE 3) 1) with up := 2 ^ 30, tan := { d.tan with foldSince := [(3, 0)] } } : Dev), 0, 3, [1], [2], by decide⟩,
    ⟨tst fun d => ({ (d.put (TAN_PAIR_STS_STATE 3) 1) with tan := { d.tan with fold := [(3, 9, 9)] } } : Dev), 0, 3, 3, 9, by decide⟩,
    ⟨tst fun d => d.put (TAN_PAIR_STS_STATE 3) 1, 0, 3, 0, true, by decide⟩⟩

theorem wit_WindowAndPairCommandsComplete_part2 :
    (∃ (s : State) (dt pair v : Nat) (a : Sys2Proof.Acc), let d := s.now dt
    d.mayWrite s.mem a TAN_INJ ∧ bits 31 16 v = 0x7A9D ∧ bits 3 2 v = 0 ∧ bits 1 0 v = pair ∧ d.on MAN_DBG_STS_GUARD_INV = true ∧ d.fld (TAN_PAIR_STS_STATE pair) = 1) ∧
    (∃ (s : State) (dt pair v : Nat) (a : Sys2Proof.Acc), let d := s.now dt
    d.mayWrite s.mem a TAN_INJ ∧ bits 31 16 v = 0x7A9D ∧ bits 3 2 v = 1 ∧ bits 1 0 v = pair ∧ d.on MAN_DBG_STS_GUARD_INV = true ∧ d.fld (TAN_PAIR_STS_STATE pair) = 1) ∧
    (∃ (s : State) (dt pair v : Nat) (a : Sys2Proof.Acc), let d := s.now dt
    d.mayWrite s.mem a TAN_INJ ∧ bits 31 16 v = 0x7A9D ∧ bits 3 2 v = 2 ∧ bits 1 0 v = pair ∧ d.on MAN_DBG_STS_GUARD_INV = true ∧ d.fld (TAN_PAIR_STS_STATE pair) = 1) :=
  ⟨⟨tst fun d => (d.put (TAN_PAIR_STS_STATE 3) 1).set MAN_DBG_STS_GUARD_INV, 0, 3, 0x7A9D0003, ⟨8, true, 0⟩, by decide⟩,
    ⟨tst fun d => (d.put (TAN_PAIR_STS_STATE 3) 1).set MAN_DBG_STS_GUARD_INV, 0, 3, 0x7A9D0007, ⟨8, true, 0⟩, by decide⟩,
    ⟨tst fun d => (d.put (TAN_PAIR_STS_STATE 3) 1).set MAN_DBG_STS_GUARD_INV, 0, 3, 0x7A9D000B, ⟨8, true, 0⟩, by decide⟩⟩

theorem wit_StrongboxOperationsCompleteTheirDescriptor :
    ∃ (s : State) (dt a op : Nat) (rest : List Nat) (i : Instr), let d := s.now dt
    let c := sbxCmd s.mem a
    d.sbx.queue = a :: rest ∧ d.guardMem s.mem a 32 .read = true ∧ d.guardMem s.mem (a + 24) 8 .write = true ∧ c.op = op ∧ (c.publicKey = true → d.gated 2 0 = false) ∧ (c.outAddr + c.outCap ≤ 0x11560000 ∨ 0x115EA000 ≤ c.outAddr) ∧ (op, i) ∈ [(0x01, Instr.generate dt), (0x02, .derive dt), (0x03, .unwrap dt), (0x04, .wrap dt), (0x05, .publicKey dt),
      (0x06, .ecdh dt), (0x07, .kemEnc dt), (0x08, .kemDec dt), (0x10, .verifyEcdsa dt), (0x11, .verifyMldsa dt),
      (0x12, .verifyHybrid dt), (0x18, .random dt), (0x20, .verifyStaged dt), (0x21, .commit dt), (0x22, .discard dt),
      (0x23, .invalidate dt), (0x24, .erase dt), (0x28, .odoRead dt), (0x29, .odoAdvance dt), (0x30, .debugCert dt)] :=
  ⟨tRoot 1, 0, 0x10000000, 1, [], .generate 0, by decide⟩

theorem wit_CipherAndStrongboxCommandsComplete_part1 :
    (∃ (s : State) (dt l v i : Nat) (a : Sys2Proof.Acc), let d := s.now dt
    l < 4 ∧ d.mayWrite s.mem a (CE_SUBMIT l) ∧ v < 2 ^ 32 ∧ pageIndex v = some i ∧ 0x10000000 ≤ v ∧ v < 0x11800000 ∧ entryOwner (Mem.entry s.mem i) = 8 ∧ entryR (Mem.entry s.mem i) = true ∧ entryW (Mem.entry s.mem i) = true ∧ v % 128 = 0 ∧ (d.lane l).queue.length < 8 ∧ d.laneUp l = true) ∧
    (∃ (s : State) (dt l a : Nat) (rest : List Nat), let d := s.now dt
    l < 4 ∧ (d.lane l).queue = a :: rest ∧ (d.lane l).run = none ∧ d.laneUp l = true ∧ d.gated 1 l = false ∧ (ceCmd s.mem a).op = 0x01) ∧
    (∃ (s : State) (dt l a : Nat) (rest : List Nat), let d := s.now dt
    l < 4 ∧ (d.lane l).queue = a :: rest ∧ (d.lane l).run = none ∧ d.laneUp l = true ∧ d.gated 1 l = false ∧ (ceCmd s.mem a).op = 0x02) ∧
    (∃ (s : State) (dt l a : Nat) (rest : List Nat), let d := s.now dt
    l < 4 ∧ (d.lane l).queue = a :: rest ∧ (d.lane l).run = none ∧ d.laneUp l = true ∧ d.gated 1 l = false ∧ (ceCmd s.mem a).op = 0x03) ∧
    (∃ (s : State) (dt l a : Nat) (rest : List Nat), let d := s.now dt
    l < 4 ∧ (d.lane l).queue = a :: rest ∧ (d.lane l).run = none ∧ d.laneUp l = true ∧ d.gated 1 l = false ∧ (ceCmd s.mem a).op = 0x04) ∧
    (∃ (s : State) (dt l a : Nat) (rest : List Nat), let d := s.now dt
    l < 4 ∧ (d.lane l).queue = a :: rest ∧ (d.lane l).run = none ∧ d.laneUp l = true ∧ d.gated 1 l = false ∧ (ceCmd s.mem a).op = 0x05) ∧
    (∃ (s : State) (dt l a : Nat) (rest : List Nat), let d := s.now dt
    l < 4 ∧ (d.lane l).queue = a :: rest ∧ (d.lane l).run = none ∧ d.laneUp l = true ∧ d.gated 1 l = false ∧ (ceCmd s.mem a).op = 0x10) ∧
    (∃ (s : State) (dt l a : Nat) (rest : List Nat), let d := s.now dt
    l < 4 ∧ (d.lane l).queue = a :: rest ∧ (d.lane l).run = none ∧ d.laneUp l = true ∧ d.gated 1 l = false ∧ (ceCmd s.mem a).op = 0x11) :=
  ⟨⟨tstM (Mem.setWord [] (0x11560000 + 4 * 6143) 0x68) (fun d => d.put CE_STS_LANE_UP 15), 0, 3, 0x117FFF80, 6143, ⟨8, true, 0⟩, by decide⟩,
    ⟨tstM (Mem.setWord [] 0x10000000 0x01) (fun d => (d.put CE_STS_LANE_UP 15).setLane 3 { Lane.reset with queue := [0x10000000] }), 0, 3, 0x10000000, [], by decide⟩,
    ⟨tstM (Mem.setWord [] 0x10000000 0x02) (fun d => (d.put CE_STS_LANE_UP 15).setLane 3 { Lane.reset with queue := [0x10000000] }), 0, 3, 0x10000000, [], by decide⟩,
    ⟨tstM (Mem.setWord [] 0x10000000 0x03) (fun d => (d.put CE_STS_LANE_UP 15).setLane 3 { Lane.reset with queue := [0x10000000] }), 0, 3, 0x10000000, [], by decide⟩,
    ⟨tstM (Mem.setWord [] 0x10000000 0x04) (fun d => (d.put CE_STS_LANE_UP 15).setLane 3 { Lane.reset with queue := [0x10000000] }), 0, 3, 0x10000000, [], by decide⟩,
    ⟨tstM (Mem.setWord [] 0x10000000 0x05) (fun d => (d.put CE_STS_LANE_UP 15).setLane 3 { Lane.reset with queue := [0x10000000] }), 0, 3, 0x10000000, [], by decide⟩,
    ⟨tstM (Mem.setWord [] 0x10000000 0x10) (fun d => (d.put CE_STS_LANE_UP 15).setLane 3 { Lane.reset with queue := [0x10000000] }), 0, 3, 0x10000000, [], by decide⟩,
    ⟨tstM (Mem.setWord [] 0x10000000 0x11) (fun d => (d.put CE_STS_LANE_UP 15).setLane 3 { Lane.reset with queue := [0x10000000] }), 0, 3, 0x10000000, [], by decide⟩⟩

theorem wit_CipherAndStrongboxCommandsComplete_part2 :
    (∃ (s : State) (dt l : Nat) (r : CeRun), let d := s.now dt
    l < 4 ∧ (d.lane l).run = some r ∧ r.why = .output ∧ r.chunks = [] ∧ r.revoked = false ∧ r.prov = false) ∧
    (∃ (s : State) (dt l : Nat) (r : CeRun), let d := s.now dt
    l < 4 ∧ (d.lane l).run = some r ∧ r.why = .output ∧ 1000000 * d.fld CE_CFG_STALL_MS ≤ d.up - r.since ∧ r.revoked = false ∧ r.prov = false) ∧
    (∃ (s : State) (dt l : Nat) (r : CeRun), let d := s.now dt
    l < 4 ∧ (d.lane l).run = some r ∧ r.why = .purge ∧ d.ceArrived r = true ∧ r.cmd.dq ∈ d.dead) ∧
    (∃ (s : State) (dt l : Nat), let d := s.now dt
    l < 4 ∧ (d.lane l).want = true ∧ (d.lane l).run = none) ∧
    (∃ (s : State) (dt v : Nat) (a : Sys2Proof.Acc), let d := s.now dt
    d.mayWrite s.mem a CE_KEYLOAD ∧ bit 19 v = false ∧ bits 9 6 v = 2) ∧
    (∃ (s : State) (dt v : Nat) (a : Sys2Proof.Acc), let d := s.now dt
    d.mayWrite s.mem a CE_KEYLOAD ∧ bit 19 v = true) ∧
    (∃ (s : State) (dt l : Nat), let d := s.now dt
    l < 4 ∧ d.laneUp l = true ∧ d.frm.beyvoUp = true) ∧
    (∃ (s : State) (dt v : Nat) (a : Sys2Proof.Acc), let d := s.now dt
    d.mayWrite s.mem a CE_LANE_CTL) :=
  ⟨⟨tst (fun d => ({ d with up := 1000000000000 } : Dev).setLane 3 { Lane.reset with run := some tRun }), 0, 3, tRun, by decide⟩,
    ⟨tst (fun d => ({ d with up := 1000000000000 } : Dev).setLane 3 { Lane.reset with run := some tRun }), 0, 3, tRun, by decide⟩,
    ⟨tst (fun d => ({ d with dead := [0] } : Dev).setLane 3 { Lane.reset with run := some { tRun with why := .purge } }), 0, 3, { tRun with why := .purge }, by decide⟩,
    ⟨tst (fun d => d.setLane 3 { Lane.reset with want := true }), 0, 3, by decide⟩,
    ⟨State.reset, 0, 0x000000BF, ⟨8, true, 0⟩, by decide⟩,
    ⟨State.reset, 0, 0x0008003F, ⟨8, true, 0⟩, by decide⟩,
    ⟨tst fun d => d.put CE_STS_LANE_UP 15, 0, 3, by decide⟩,
    ⟨State.reset, 0, 15, ⟨8, true, 0⟩, by decide⟩⟩

theorem wit_CipherAndStrongboxCommandsComplete_part3 :
    (∃ (s : State) (dt l : Nat) (pass : Bool), let d := s.now dt
    l < 4 ∧ l ∈ d.ce.testing) ∧
    (∃ (s : State) (dt v i : Nat) (a : Sys2Proof.Acc), let d := s.now dt
    d.mayWrite s.mem a SBX_SUBMIT ∧ v < 2 ^ 32 ∧ pageIndex v = some i ∧ 0x10000000 ≤ v ∧ v < 0x11800000 ∧ entryOwner (Mem.entry s.mem i) = 8 ∧ entryR (Mem.entry s.mem i) = true ∧ entryW (Mem.entry s.mem i) = true ∧ v % 32 = 0 ∧ d.sbx.queue.length < 8) ∧
    (∃ (s : State) (dt : Nat), let d := s.now dt
    d.frm.beyvoUp = true) ∧
    (∃ (s : State) (dt : Nat), let d := s.now dt
    d.frm.beyvoUp = true) ∧
    (∃ (s : State) (dt : Nat) (a : Sys2Proof.Acc), let d := s.now dt
    d.mayRead s.mem a SBX_DRBG ∧ d.sbx.refused = true) ∧
    (∃ (s : State) (dt sources : Nat), let d := s.now dt
    sources &&& d.tamperMask ≠ 0 ∧ d.frm.tamperHold = false) :=
  ⟨⟨tst fun d => ({ d with ce := { d.ce with testing := [3] } } : Dev), 0, 3, true, by decide⟩,
    ⟨tstM (Mem.setWord [] (0x11560000 + 4 * 6143) 0x68) (fun d => d), 0, 0x117FFFE0, 6143, ⟨8, true, 0⟩, by decide⟩,
    ⟨State.reset, 0, by decide⟩,
    ⟨State.reset, 0, by decide⟩,
    ⟨tst (fun d => ({ d with sbx := { d.sbx with refused := true } } : Dev)), 0, ⟨8, true, 0⟩, by decide⟩,
    ⟨State.reset, 0, 16, by decide⟩⟩

theorem wit_BootAndServiceCommandsComplete_part1 :
    (∃ (s : State) (dt unread : Nat) (iOk sOk : Bool) (odo : List (Nat × Option Nat)), let d := s.now dt
    (odo.all fun x => decide (x.1 < 16)) = true ∧ d.boot.phase = .rom ∧ d.frm.devReset = none ∧ d.frm.bvReset = none ∧ d.bootWaits s.mem = false ∧ d.fld SYS_BOOT_STS_BOOTSEL = 3) ∧
    (∃ (s : State) (dt unread h : Nat) (iOk sOk : Bool) (odo : List (Nat × Option Nat)) (rest : List Nat), let d := s.now dt
    let k := (d.bootKeys odo).put FAB_MODE_TEST 0
    let e := (k.putErr 0 (k.candErr s.mem 0)).putErr 1 (k.candErr s.mem 1)
    let cause := d.fld FRM_BOOT_CAUSE_CAUSE
    let b := applyImage h (cause == 5 || cause == 6 || cause == 8 || cause == 9) iOk sOk e s.mem
    let err := verifyErr s.mem h (bit h unread)
    (odo.all fun x => decide (x.1 < 16)) = true ∧ d.boot.phase = .rom ∧ d.frm.devReset = none ∧ d.frm.bvReset = none ∧ d.bootWaits s.mem = false ∧ d.fld SYS_BOOT_STS_BOOTSEL = 0 ∧ e.bootHalves s.mem = h :: rest) ∧
    (∃ (s : State) (dt : Nat), let d := s.now dt
    (d.boot.phase = .rom ∨ d.boot.phase = .applied) ∧ d.bootWaits s.mem = false ∧ d.frm.devReset = none ∧ d.fld SYS_BOOT_STS_RETRY = 3 ∧ d.boot.timerFrom + 5000000000 ≤ d.up) ∧
    (∃ (s : State) (dt unread h : Nat) (iOk sOk : Bool) (odo : List (Nat × Option Nat)) (rest : List Nat), let d := s.now dt
    let k := (d.bootKeys odo).put FAB_MODE_TEST 0
    let e := (k.putErr 0 (k.candErr s.mem 0)).putErr 1 (k.candErr s.mem 1)
    let cause := d.fld FRM_BOOT_CAUSE_CAUSE
    let b := applyImage h (cause == 5 || cause == 6 || cause == 8 || cause == 9) iOk sOk e s.mem
    let err := verifyErr s.mem h (bit h unread)
    (odo.all fun x => decide (x.1 < 16)) = true ∧ d.boot.phase = .rom ∧ d.frm.devReset = none ∧ d.frm.bvReset = none ∧ d.bootWaits s.mem = false ∧ d.fld SYS_BOOT_STS_BOOTSEL = 0 ∧ e.bootHalves s.mem = h :: rest) ∧
    (∃ (s : State) (dt : Nat), let d := s.now dt
    (d.boot.phase = .rom ∨ d.boot.phase = .applied) ∧ d.bootWaits s.mem = false ∧ d.frm.devReset = none ∧ d.fld SYS_BOOT_STS_RETRY ≠ 3 ∧ d.boot.timerFrom + 5000000000 ≤ d.up) ∧
    (∃ (s : State) (dt : Nat), let d := s.now dt
    d.boot.phase = .rom ∧ d.fld SYS_BOOT_STS_BOOTSEL = 2 ∧ d.on SBX_ROOT_CERT = false ∧ d.boot.releasedAt + 10000000000 ≤ d.up) ∧
    (∃ (s : State) (dt failed : Nat), let d := s.now dt
    d.boot.phase = .applied ∧ d.frm.devReset = none ∧ d.frm.bvReset = none) ∧
    (∃ (s : State) (dt c : Nat), let d := s.now dt
    c < 8 ∧ d.startable c = true ∧ d.startCond c = true) :=
  ⟨⟨tst fun d => d.put SYS_BOOT_STS_BOOTSEL 3, 0, 0, true, true, [(0, some 3)], by decide⟩,
    ⟨tstM (Mem.setBytes (Mem.setBytes [] 0x20000000 [84, 67, 72, 90, 67, 78, 83, 84, 1, 0, 0, 1, 101, 22, 0, 0, 0, 1, 0, 0, 1, 0, 0, 0, 7, 0, 0, 0, 3, 0, 0, 0, 0, 0, 0, 0, 0, 0, 0, 0, 0, 0, 0, 0, 0, 0, 0, 0]) 0x20000109 [0]) (fun d => d), 0, 0, 0, true, true, [], [], by decide⟩,
    ⟨tst fun d => d.put SYS_BOOT_STS_RETRY 3, 0x1000000000, by decide⟩,
    ⟨tstM (Mem.setBytes (Mem.setBytes [] 0x20000000 [84, 67, 72, 90, 67, 78, 83, 84, 1, 0, 0, 1, 101, 22, 0, 0, 0, 1, 0, 0, 1, 0, 0, 0, 7, 0, 0, 0, 3, 0, 0, 0, 0, 0, 0, 0, 0, 0, 0, 0, 0, 0, 0, 0, 0, 0, 0, 0]) 0x20000109 [0]) (fun d => d), 0, 0, 0, true, true, [], [], by decide⟩,
    ⟨State.reset, 0x1000000000, by decide⟩,
    ⟨tst fun d => d.put SYS_BOOT_STS_BOOTSEL 2, 0x1000000000, by decide⟩,
    ⟨tst fun d => ({ d with boot := { d.boot with phase := .applied } } : Dev), 0, 15, by decide⟩,
    ⟨tst fun d => ((({ d with boot := { d.boot with phase := .sealed } } : Dev)).set (MAN_COACH_CFG_EN 7)).clr (SYS_COACH_START_NEED 7), 0, 7, by decide⟩⟩

theorem wit_BootAndServiceCommandsComplete_part2 :
    (∃ (s : State) (dt c : Nat), let d := s.now dt
    c < 8 ∧ d.startable c = true ∧ d.fld (SYS_COACH_START_TMO c) ≠ 0 ∧ d.startCond c = false ∧ d.boot.sealedAt + 100000000 * d.fld (SYS_COACH_START_TMO c) ≤ d.up) ∧
    (∃ (s : State) (dt v : Nat) (a : Sys2Proof.Acc), let d := s.now dt
    d.mayWrite s.mem a SYS_CTL ∧ bit 0 v = true) ∧
    (∃ (s : State) (dt v : Nat) (a : Sys2Proof.Acc), let d := s.now dt
    d.mayWrite s.mem a SYS_ROLLBACK_CMT ∧ bits 31 16 v = 0xB10E ∧ d.fld SBX_ROLLBACK_CONSIST < d.boot.rollback ∧ d.boot.rollback < 256) ∧
    (∃ (s : State) (dt v : Nat) (a : Sys2Proof.Acc) (c : FlashCmd), let d := s.now dt
    d.mayWrite s.mem a SYS_FLASH_CMD ∧ bits 1 0 v = 1 ∧ d.on SYS_FLASH_STS_BUSY = false ∧ d.flashStart s.mem v = some c) ∧
    (∃ (s : State) (dt v : Nat) (a : Sys2Proof.Acc) (c : FlashCmd), let d := s.now dt
    d.mayWrite s.mem a SYS_FLASH_CMD ∧ bits 1 0 v = 2 ∧ d.on SYS_FLASH_STS_BUSY = false ∧ d.flashStart s.mem v = some c) ∧
    (∃ (s : State) (dt : Nat) (c : FlashCmd), let d := s.now dt
    d.boot.flash = some c) ∧
    (∃ (s : State) (dt : Nat), let d := s.now dt
    d.inService = true ∧ d.boot.answered = false ∧ d.boot.helloAt.all (fun t => decide (t + 100000000 ≤ d.up)) = true) ∧
    (∃ (s : State) (dt tool offset : Nat) (data : List Nat), let d := s.now dt
    d.inService = true ∧ data.length ≤ 1024 ∧ offset = d.boot.received ∧ d.serviceDone s.mem = false) :=
  ⟨⟨tst fun d => (((({ d with boot := { d.boot with phase := .sealed } } : Dev)).set (MAN_COACH_CFG_EN 7)).put (SYS_COACH_START_TMO 7) 1).set (SYS_COACH_START_GUARD 7), 0x1000000000, 7, by decide⟩,
    ⟨State.reset, 0, 1, ⟨8, true, 0⟩, by decide⟩,
    ⟨tst fun d => ({ d with boot := { d.boot with rollback := 255 } } : Dev), 0, 0xB10E0000, ⟨8, true, 0⟩, by decide⟩,
    ⟨tst fun d => (d.wr SYS_FLASH_ADDR 0x27EF0000).set SYS_BOOT_STS_SERVICE, 0, 0xF1A50001, ⟨8, true, 0⟩, ⟨0x27EF0000, none⟩, by decide⟩,
    ⟨tstM (Mem.setWord [] (0x11560000 + 4 * 1) 8) (fun d => ((((d.wr SYS_FLASH_ADDR 0x27EFFFFC).put SYS_FLASH_LEN_LEN 4).wr SYS_FLASH_SRC 0x10001000).set SYS_BOOT_STS_SERVICE)), 0, 0xF1A50002, ⟨8, true, 0⟩, ⟨0x27EFFFFC, some [0, 0, 0, 0]⟩, by decide⟩,
    ⟨tst fun d => ({ d with boot := { d.boot with flash := some ⟨0x20000000, some [1]⟩ } } : Dev), 0, ⟨0x20000000, some [1]⟩, by decide⟩,
    ⟨tst fun d => d.put SYS_BOOT_STS_BOOTSEL 1, 0, by decide⟩,
    ⟨tst fun d => d.put SYS_BOOT_STS_BOOTSEL 1, 0, 2 ^ 48 - 1, 0, [1, 2], by decide⟩⟩

theorem wit_BootAndServiceCommandsComplete_part3 :
    (∃ (s : State) (dt offset : Nat) (data : List Nat), let d := s.now dt
    d.toolOpen = true ∧ data.length ≤ 1024 ∧ offset = d.boot.cert.length ∧ (d.boot.cert ++ data).length < certLen (d.boot.cert ++ data)) ∧
    (∃ (s : State) (dt : Nat) (cert : List Nat), let d := s.now dt
    d.frm.beyvoUp = true ∧ cert.length ≤ 16384 ∧ (d.boot.phase = .rom ∨ d.boot.phase = .sealed)) :=
  ⟨⟨tst fun d => d.put SYS_BOOT_STS_BOOTSEL 1, 0, 0, [1, 2], by decide⟩,
    ⟨State.reset, 0, [], by decide⟩⟩

theorem wit_DebugAndPowerCommandsComplete_part1 :
    (∃ (s : State) (dt core addr : Nat) (port : Bool) (a : Sys2Proof.Acc), let d := s.now dt
    core < 12 ∧ addr < 2 ^ 64 ∧ d.dbgServed port = true ∧ (d.dbgTaken port 3 core addr).dbgGrant core true = some a) ∧
    (∃ (s : State) (dt core addr : Nat) (port : Bool) (a : Sys2Proof.Acc), let d := s.now dt
    core < 12 ∧ addr < 2 ^ 64 ∧ d.dbgServed port = true ∧ (d.dbgTaken port 4 core addr).dbgGrant core true = some a ∧ core ∈ (d.dbgTaken port 4 core addr).dbg.halted) ∧
    (∃ (s : State) (dt core addr : Nat) (port : Bool) (a : Sys2Proof.Acc), let d := s.now dt
    core < 12 ∧ addr < 2 ^ 64 ∧ d.dbgServed port = true ∧ (d.dbgTaken port 5 core addr).dbgGrant core true = some a) ∧
    (∃ (s : State) (dt core addr : Nat) (port : Bool) (a : Sys2Proof.Acc), let d := s.now dt
    core < 12 ∧ addr < 2 ^ 64 ∧ d.dbgServed port = true ∧ (d.dbgTaken port 1 core addr).dbgGrant core false = some a) ∧
    (∃ (s : State) (dt core addr v : Nat) (port : Bool) (a : Sys2Proof.Acc), let d := s.now dt
    core < 12 ∧ addr < 2 ^ 64 ∧ d.dbgServed port = true ∧ (d.dbgTaken port 2 core addr).dbgGrant core true = some a) ∧
    (∃ (s : State) (dt o v : Nat) (a : Sys2Proof.Acc), let d := s.now dt
    o < 9 ∧ d.mayWrite s.mem a (PWRM_SLEEP_REQ o) ∧ v % 2 = 1) ∧
    (∃ (s : State) (dt o v : Nat) (a : Sys2Proof.Acc), let d := s.now dt
    o < 9 ∧ d.mayWrite s.mem a (PWRM_TOL_US o) ∧ 80000 ≤ v ∧ v < 2 ^ 32) ∧
    (∃ (s : State) (dt core : Nat), let d := s.now dt
    core < 12 ∧ core ∈ d.wld.running) :=
  ⟨⟨tst (fun d => d.set MAN_DBG_STS_GUARD_INV), 0, 11, 7, false, ⟨8, true, 27⟩, by decide⟩,
    ⟨tst (fun d => ({ (d.set MAN_DBG_STS_GUARD_INV) with dbg := { d.dbg with halted := [11] } } : Dev)), 0, 11, 7, false, ⟨8, true, 27⟩, by decide⟩,
    ⟨tst (fun d => d.set MAN_DBG_STS_GUARD_INV), 0, 11, 7, false, ⟨8, true, 27⟩, by decide⟩,
    ⟨tst (fun d => d.set MAN_DBG_STS_GUARD_INV), 0, 11, 2 ^ 64 - 1, false, ⟨8, true, 27⟩, by decide⟩,
    ⟨tst (fun d => d.set MAN_DBG_STS_GUARD_INV), 0, 11, 2 ^ 64 - 1, 7, false, ⟨8, true, 27⟩, by decide⟩,
    ⟨State.reset, 0, 8, 1, ⟨8, true, 0⟩, by decide⟩,
    ⟨State.reset, 0, 8, 80000, ⟨8, true, 0⟩, by decide⟩,
    ⟨tst fun d => ({ (d.put PWRM_STATE_STATE 1) with wld := { d.wld with running := [11] } } : Dev), 0, 11, by decide⟩⟩

theorem wit_DebugAndPowerCommandsComplete_part2 :
    (∃ (s : State) (dt core : Nat), let d := s.now dt
    core < 12 ∧ d.coreCalled core = true ∧ core ∈ d.wld.waiting) ∧
    (∃ (s : State) (dt : Nat), let d := s.now dt
    d.sid.asleep = 1 ∧ d.sid.timer ≠ 0 ∧ d.sid.noted = false ∧ d.sid.enteredAt + 1000000000 * d.sid.timer ≤ d.up) ∧
    (∃ (s : State) (dt bs : Nat) (low ok : Bool), let d := s.now dt
    bs < 4 ∧ d.frm.lockedOut = false) ∧
    (∃ (s : State) (dt : Nat) (below : Bool), let d := s.now dt
    d.hvRuns = true) ∧
    (∃ (s : State) (dt ppm : Nat), let d := s.now dt
    d.frm.beyvoUp = true ∧ d.on CLK_STS_REF = false ∧ ppmSize ppm ≤ 1000) ∧
    (∃ (s : State) (dt ppm : Nat) (edges : Bool), let d := s.now dt
    d.frm.beyvoUp = true ∧ d.on CLK_STS_REF = true ∧ (edges = true → 2000 < ppmSize ppm)) ∧
    (∃ (s : State) (dt pll : Nat), let d := s.now dt
    d.frm.beyvoUp = true) ∧
    (∃ (s : State) (dt u v : Nat) (a : Sys2Proof.Acc), let d := s.now dt
    1 ≤ u ∧ u ≤ 6 ∧ d.mayWrite s.mem a (CLK_GATE u)) :=
  ⟨⟨tst fun d => ({ (d.put PWRM_STATE_STATE 1) with wld := { d.wld with dispatch := [(11, false)], waiting := [11] } } : Dev), 0, 11, by decide⟩,
    ⟨tst fun d => ({ d with sid := { d.sid with asleep := 1, timer := 9 } } : Dev), 0x1000000000, by decide⟩,
    ⟨tst fun d => ({ d with frm := { d.frm with lockedOut := false } } : Dev), 0, 3, true, false, by decide⟩,
    ⟨State.reset, 0, true, by decide⟩,
    ⟨State.reset, 0, 2 ^ 32 - 1000, by decide⟩,
    ⟨tst fun d => d.set CLK_STS_REF, 0, 2 ^ 32 - 2001, true, by decide⟩,
    ⟨State.reset, 0, 2, by decide⟩,
    ⟨State.reset, 0, 6, 1, ⟨8, true, 0⟩, by decide⟩⟩

theorem wit_DebugAndPowerCommandsComplete_part3 :
    (∃ (s : State) (dt u v : Nat) (a : Sys2Proof.Acc), let d := s.now dt
    1 ≤ u ∧ u ≤ 6 ∧ d.mayWrite s.mem a (PWRM_PGATE u) ∧ v % subUnits u &&& d.fld (CLK_GATE_OFF u) = v % subUnits u) ∧
    (∃ (s : State) (dt u j : Nat), let d := s.now dt
    1 ≤ u ∧ u ≤ 6 ∧ j < 4 ∧ d.unitIdle u j = true ∧ bit j (d.fld (CLK_GATE_OFF u)) = true ∧ bit j ((d.set ⟨CLK_GATE u, 8 + j, 8 + j⟩).fld (PWRM_PGATE_OFF u)) = false) :=
  ⟨⟨State.reset, 0, 1, 16, ⟨8, true, 0⟩, by decide⟩,
    ⟨tst fun d => d.put (CLK_GATE_OFF 1) 8, 0, 1, 3, by decide⟩⟩

theorem wit_FaultAndResetCommandsComplete_part1 :
    (∃ (s : State) (dt v : Nat) (a : Sys2Proof.Acc), let d := s.now dt
    d.mayWrite s.mem a FRM_ACK ∧ bits 31 16 v = 0xFA17) ∧
    (∃ (s : State) (dt v : Nat) (a : Sys2Proof.Acc), let d := s.now dt
    d.mayWrite s.mem a FRM_SAFE_CTL ∧ bits 31 16 v = 0x5AFE ∧ bit 0 v = true ∧ d.frm.bootHold = false ∧ d.frm.tamperHold = false ∧ (List.range 8).any d.keepsSafeLow = false) ∧
    (∃ (s : State) (dt c v : Nat) (a : Sys2Proof.Acc), let d := s.now dt
    c < 8 ∧ d.mayWrite s.mem a (FRM_SWFAULT c) ∧ (a.guard = true ∨ bits 7 4 v = 0) ∧ bits 1 0 v = 1 ∧ d.frm.beyvoUp = true) ∧
    (∃ (s : State) (dt v : Nat) (a : Sys2Proof.Acc), let d := s.now dt
    d.mayWrite s.mem a FRM_RESET_CMD ∧ bits 31 16 v = 0xDE5E ∧ bits 1 0 v = 1 ∧ d.frm.devReset = none) ∧
    (∃ (s : State) (dt v : Nat) (a : Sys2Proof.Acc), let d := s.now dt
    d.mayWrite s.mem a FRM_RESET_CMD ∧ bits 31 16 v = 0xDE5E ∧ bits 1 0 v = 2 ∧ d.frm.bvReset = none) ∧
    (∃ (s : State) (dt bs : Nat) (ok : Bool) (r : ResetReq), let d := s.now dt
    bs < 4 ∧ d.frm.devReset = some r ∧ d.frm.tamperHold = false ∧ d.frm.bootHold = false ∧ d.frm.lockedOut = false ∧ (d.frm.meshDue = true → ok = true) ∧ d.fld HPS_SUP_STS_RANGE ≠ 2 ∧ r.cause < 16) ∧
    (∃ (s : State) (dt bs : Nat) (r : ResetReq), let d := s.now dt
    bs < 4 ∧ d.frm.bvReset = some r ∧ d.frm.tamperHold = false ∧ d.frm.bootHold = false ∧ d.frm.lockedOut = false ∧ d.frm.resetNLow = false ∧ d.fld HPS_SUP_STS_RANGE ≠ 2 ∧ r.cause < 16) ∧
    (∃ (s : State) (dt bs : Nat), let d := s.now dt
    bs < 4) :=
  ⟨⟨State.reset, 0, 0xFA170000, ⟨8, true, 0⟩, by decide⟩,
    ⟨State.reset, 0, 0x5AFE0001, ⟨8, true, 0⟩, by decide⟩,
    ⟨tstM (Mem.setWord [] (0x11560000 + 4 * 137247) 0x67) (fun d => ({ (d.put (MAN_CORE_CFG_OWNER 11) 7) with boot := { d.boot with phase := .sealed } } : Dev)), 0, 7, 1, ⟨7, false, 11⟩, by decide⟩,
    ⟨State.reset, 0, 0xDE5E0001, ⟨8, true, 0⟩, by decide⟩,
    ⟨State.reset, 0, 0xDE5E0002, ⟨8, true, 0⟩, by decide⟩,
    ⟨tst fun d => ({ d with frm := { d.frm with devReset := some ⟨2, 0, 0⟩, meshDue := true, bootHold := false, lockedOut := false, tamperHold := false } } : Dev), 0, 3, true, ⟨2, 0, 0⟩, by decide⟩,
    ⟨tst fun d => ({ d with frm := { d.frm with bvReset := some ⟨6, 0, 0⟩, bootHold := false } } : Dev), 0, 3, ⟨6, 0, 0⟩, by decide⟩,
    ⟨State.reset, 0, 3, by decide⟩⟩

theorem wit_FaultAndResetCommandsComplete_part2 :
    (∃ (s : State) (dt us : Nat), let d := s.now dt
    10 ≤ us ∧ d.frm.tamperHold = false ∧ d.frm.devReset = none) ∧
    (∃ (s : State) (dt c v : Nat) (a : Sys2Proof.Acc), let d := s.now dt
    c < 8 ∧ d.mayWrite s.mem a (CA_RESET_REQ c) ∧ bits 31 16 v = 0xC0AC ∧ d.dDegraded c = false ∧ d.coachDown c = false ∧ d.tan.latent.find? (fun x => d.pairOwner x.1 == c) = none) ∧
    (∃ (s : State) (dt c v : Nat) (a : Sys2Proof.Acc), let d := s.now dt
    c < 8 ∧ d.mayWrite s.mem a (FRM_COACH_CTL c) ∧ bits 31 16 v = 0xC0AC ∧ d.on (MAN_COACH_CFG_EN c) = true ∧ bit 0 v = true ∧ bit 1 v = false ∧ bit 2 v = false ∧ d.dDegraded c = false ∧ d.coachDown c = false ∧ d.tan.latent.find? (fun x => d.pairOwner x.1 == c) = none) ∧
    (∃ (s : State) (dt c v : Nat) (a : Sys2Proof.Acc), let d := s.now dt
    c < 8 ∧ d.mayWrite s.mem a (FRM_COACH_CTL c) ∧ bits 31 16 v = 0xC0AC ∧ d.on (MAN_COACH_CFG_EN c) = true ∧ bit 0 v = false ∧ bit 1 v = true ∧ bit 2 v = false ∧ d.dDegraded c = false) ∧
    (∃ (s : State) (dt c v : Nat) (a : Sys2Proof.Acc), let d := s.now dt
    c < 8 ∧ d.mayWrite s.mem a (FRM_COACH_CTL c) ∧ bits 31 16 v = 0xC0AC ∧ d.on (MAN_COACH_CFG_EN c) = true ∧ bit 0 v = false ∧ bit 1 v = false ∧ bit 2 v = true ∧ d.coachDown c = false ∧ d.dDegraded c = false ∧ c ∈ d.frm.dsPolicy) ∧
    (∃ (s : State) (dt c i cause : Nat), let d := s.now dt
    c < 8 ∧ d.frm.coachReset.find? (·.1 == c) = some (i, cause) ∧ d.frm.devReset = none ∧ d.coachInGuard c = false ∧ cause < 16) ∧
    (∃ (s : State) (dt v : Nat) (a : Sys2Proof.Acc), let d := s.now dt
    d.mayWrite s.mem a FRM_CTL ∧ bit 0 v = true) ∧
    (∃ (s : State) (dt v : Nat) (a : Sys2Proof.Acc), let d := s.now dt
    d.mayWrite s.mem a FRM_BLK_RST ∧ bits 31 16 v = 0xB1C0 ∧ bits 2 0 v = 1 ∧ 16 ≤ bits 8 3 v ∧ bits 8 3 v ≤ 35) :=
  ⟨⟨State.reset, 0, 10, by decide⟩,
    ⟨State.reset, 0, 7, 0xC0AC0000, ⟨8, true, 0⟩, by decide⟩,
    ⟨tst fun d => d.set (MAN_COACH_CFG_EN 7), 0, 7, 0xC0AC0001, ⟨8, true, 0⟩, by decide⟩,
    ⟨tst fun d => ({ (d.set (MAN_COACH_CFG_EN 7)) with frm := { d.frm with held := [7] } } : Dev), 0, 7, 0xC0AC0002, ⟨8, true, 0⟩, by decide⟩,
    ⟨tst fun d => ({ (d.set (MAN_COACH_CFG_EN 7)) with frm := { d.frm with dsPolicy := [7] } } : Dev), 0, 7, 0xC0AC0004, ⟨8, true, 0⟩, by decide⟩,
    ⟨tst fun d => ({ d with frm := { d.frm with coachReset := [(7, 5)] } } : Dev), 0, 7, 7, 5, by decide⟩,
    ⟨State.reset, 0, 1, ⟨8, true, 0⟩, by decide⟩,
    ⟨State.reset, 0, 0xB1C00119, ⟨8, true, 0⟩, by decide⟩⟩

theorem wit_FaultAndResetCommandsComplete_part3 :
    (∃ (s : State) (dt v : Nat) (a : Sys2Proof.Acc), let d := s.now dt
    d.mayWrite s.mem a FRM_BLK_RST ∧ bits 31 16 v = 0xB1C0 ∧ bits 2 0 v = 2) ∧
    (∃ (s : State) (dt v : Nat) (a : Sys2Proof.Acc), let d := s.now dt
    d.mayWrite s.mem a FRM_BLK_RST ∧ bits 31 16 v = 0xB1C0 ∧ bits 2 0 v = 3) ∧
    (∃ (s : State) (dt v : Nat) (a : Sys2Proof.Acc), let d := s.now dt
    d.mayWrite s.mem a FRM_BLK_RST ∧ bits 31 16 v = 0xB1C0 ∧ bits 2 0 v = 4 ∧ bits 8 3 v ≤ 31) :=
  ⟨⟨State.reset, 0, 0xB1C00002, ⟨8, true, 0⟩, by decide⟩,
    ⟨State.reset, 0, 0xB1C00003, ⟨8, true, 0⟩, by decide⟩,
    ⟨State.reset, 0, 0xB1C000FC, ⟨8, true, 0⟩, by decide⟩⟩

theorem wit_StageTickFollowsItsOrder :
    (let d := (tst fun d => ({ d with boot := { d.boot with phase := .sealed } } : Dev)).now 0
     d.boot.phase = .sealed ∧ d.frm.beyvoUp = true ∧ d.fld SID_STS_STATE < 2 ∧ d.stg.nextTick ≤ d.domNs) ∧
    (let d : Dev := State.reset.dev.modChan 39 fun c => { c with pend := [⟨0, 1, 9⟩] }
     (d.chan 39).pend = [⟨0, 1, 9⟩] ∧ (d.chan 38).pend = []) ∧
    (let d : Dev := State.reset.dev.put (STG_TT_CTL_KIND 255) 4
     d.ttKind 255 = 4 ∧ d.ttApplies 255 d.phase = true ∧ d.fld (STG_TT_START_NS 255) = 0 ∧ 0 ∈ d.gatePorts 255) ∧
    (let d : Dev := { (State.reset.dev.put (STG_TT_CTL_KIND 255) 1).put (STG_TT_CTL_OWNER 255) 8 with
        stg := { State.reset.dev.stg with lastTick := some 5 } }
     d.ttKind 255 = 1 ∧ d.ttApplies 255 d.phase = true ∧ d.fld (STG_TT_START_NS 255) = 0 ∧ d.stg.lastTick = some 5 ∧
       d.skipped (d.fld (STG_TT_CTL_OWNER 255)) = false) := by decide

theorem wit_OpenWorldReachesNoGoRegister :
    let s := tstM (Mem.setWord [] (0x11560000 + 4 * 137216) 0x69) fun d => { (d.put (MAN_CORE_CFG_OWNER 11) 7) with boot := { d.boot with phase := .sealed } }
    let d := s.now 0
    let a : Sys2Proof.Acc := ⟨7, false, 11⟩
    let addr := 0x4000002C
    let e := d.pageEntry s.mem (137216 + (addr - 0x40000000) / 4096)
    d.actsAs a = true ∧ d.injected a addr = false ∧ d.bootRom a = false ∧
      (descOf addr).any (fun r => r.allGo && decide (r.fields ≠ [])) = true ∧ d.ruleOwner addr = none ∧ entryOwner e = 9 ∧ entryGuard e = false ∧
      ownerOfPage addr = none ∧ d.tallyOwner addr = none ∧ d.frm.beyvoUp = true := by decide

theorem wit_OpenWorldReachesNoGoRegister_2 :
    let s := tstM (Mem.setWord [] (0x11560000 + 4 * 137247) 0x67) (fun d => ({ (d.put (MAN_CORE_CFG_OWNER 11) 7) with boot := { d.boot with phase := .sealed } } : Dev))
    (s.now 0).mayWrite s.mem ⟨7, false, 11⟩ (FRM_SWFAULT 7) ∧ bits 1 0 0x10 = 0 ∧ bits 7 4 0x10 ≠ 0 := by decide
end

section
/-! PROOFS. Bit by bit: what reading a field, putting a field, and a write under an access type give (R11, R13). -/

namespace Sys2Proof.Machine

/-! ### Bits of a field -/

theorem bit_eq_testBit (k n : Nat) : bit k n = n.testBit k := by
  rw [bit, Nat.testBit_eq_decide_div_mod_eq, Bool.beq_eq_decide_eq]

/-- Bits of `x` that `y` sets, taken away from `x`: no borrow crosses from one bit to the next. -/
theorem testBit_sub_and (x y i : Nat) : (x - (x &&& y)).testBit i = (x.testBit i && !y.testBit i) := by
  induction i generalizing x y with
  | zero =>
    have hle : x &&& y ≤ x := Nat.and_le_left
    have hlow := Nat.and_mod_two_eq_one (a := x) (b := y)
    rw [Nat.testBit_zero, Nat.testBit_zero, Nat.testBit_zero, ← decide_not, ← Bool.decide_and, decide_eq_decide]
    omega
  | succ i ih =>
    have hle : x &&& y ≤ x := Nat.and_le_left
    have hlow := Nat.and_mod_two_eq_one (a := x) (b := y)
    have hhalf : (x - (x &&& y)) / 2 = x / 2 - (x / 2 &&& y / 2) := by
      rw [← Nat.and_div_two]; omega
    rw [Nat.testBit_succ, hhalf, ih, ← Nat.testBit_succ, ← Nat.testBit_succ]

theorem testBit_bits (hi lo n i : Nat) : (bits hi lo n).testBit i = (decide (i < hi + 1 - lo) && n.testBit (i + lo)) := by
  rw [bits, Nat.testBit_mod_two_pow, Nat.testBit_div_two_pow]

/-- A field put into a register: its bits are those of the value, the others stay. -/
theorem testBit_putBits (hi lo n v k : Nat) (h : lo ≤ hi) :
    (putBits hi lo n v).testBit k = if lo ≤ k ∧ k ≤ hi then v.testBit (k - lo) else n.testBit k := by
  have hw : hi + 1 = lo + (hi + 1 - lo) := by omega
  have hform : putBits hi lo n v =
      2 ^ lo * (2 ^ (hi + 1 - lo) * (n / 2 ^ (hi + 1)) + v % 2 ^ (hi + 1 - lo)) + n % 2 ^ lo := by
    have hp : (2 : Nat) ^ (hi + 1) = 2 ^ lo * 2 ^ (hi + 1 - lo) := by rw [← pow_add, ← hw]
    unfold putBits
    generalize n / 2 ^ (hi + 1) = q
    rw [hp]; ring
  rw [hform, Nat.testBit_two_pow_mul_add _ (Nat.mod_lt _ (Nat.two_pow_pos lo)),
    Nat.testBit_two_pow_mul_add _ (Nat.mod_lt _ (Nat.two_pow_pos _)), Nat.testBit_mod_two_pow, Nat.testBit_mod_two_pow,
    Nat.testBit_div_two_pow]
  by_cases hlo : k < lo
  · simp [hlo, Nat.not_le.mpr hlo]
  · by_cases hhi : k ≤ hi
    · rw [if_neg hlo, if_pos (by omega), if_pos ⟨by omega, hhi⟩, decide_eq_true (by omega), Bool.true_and]
    · rw [if_neg hlo, if_neg (by omega), if_neg (by omega), show k - lo - (hi + 1 - lo) + (hi + 1) = k by omega]

theorem bit_putBits_inside {hi lo k : Nat} (n v : Nat) (h : lo ≤ hi) (hlo : lo ≤ k) (hhi : k ≤ hi) :
    bit k (putBits hi lo n v) = bit (k - lo) v := by
  rw [bit_eq_testBit, bit_eq_testBit, testBit_putBits _ _ _ _ _ h, if_pos ⟨hlo, hhi⟩]

theorem bit_putBits_outside {hi lo k : Nat} (n v : Nat) (h : lo ≤ hi) (hk : k < lo ∨ hi < k) :
    bit k (putBits hi lo n v) = bit k n := by
  rw [bit_eq_testBit, bit_eq_testBit, testBit_putBits _ _ _ _ _ h, if_neg (by omega)]

theorem bit_bits {hi lo k : Nat} (n : Nat) (hlo : lo ≤ k) (hhi : k ≤ hi) : bit (k - lo) (bits hi lo n) = bit k n := by
  rw [bit_eq_testBit, bit_eq_testBit, testBit_bits, decide_eq_true (by omega), Bool.true_and, Nat.sub_add_cancel hlo]

theorem bit_or (k x y : Nat) : bit k (x ||| y) = (bit k x || bit k y) := by
  simp only [bit_eq_testBit, Nat.testBit_or]

theorem bit_sub_and (k x y : Nat) : bit k (x - (x &&& y)) = (bit k x && !bit k y) := by
  simp only [bit_eq_testBit, testBit_sub_and]

/-! ### A write under an access type -/

/-- Whatever its type, a write puts something into the field's own bits, or leaves the register. -/
theorem FieldDesc.write_eq_putBits (f : FieldDesc) (isSealed : Bool) (v r : Nat) :
    f.write isSealed v r = r ∨ ∃ x, f.write isSealed v r = putBits f.hi f.lo r x := by
  unfold FieldDesc.write
  cases f.acc with
  | ro => exact .inl rfl
  | lk => cases isSealed with
    | true => exact .inl rfl
    | false => exact .inr ⟨_, rfl⟩
  | _ => exact .inr ⟨_, rfl⟩

theorem FieldDesc.bit_write_outside (f : FieldDesc) (isSealed : Bool) (v r : Nat) (h : f.lo ≤ f.hi) {k : Nat}
    (hk : k < f.lo ∨ f.hi < k) : bit k (f.write isSealed v r) = bit k r := by
  obtain hw | ⟨x, hw⟩ := f.write_eq_putBits isSealed v r
  · rw [hw]
  · rw [hw, bit_putBits_outside _ _ h hk]

/-- Settles O47, by the access types: within the field the written bits are read off `putBits`, outside it no type
reaches. -/
theorem writesFollowTheAccessTypes : Obligations.WritesFollowTheAccessTypes := by
  unfold Obligations.WritesFollowTheAccessTypes
  intro f isSealed v r h
  refine ⟨fun k hlo hhi => ?_, fun k hk => f.bit_write_outside isSealed v r h hk⟩
  have hput : ∀ x, bit k (putBits f.hi f.lo r x) = bit (k - f.lo) x := fun x => bit_putBits_inside r x h hlo hhi
  have hfield : ∀ n, bit (k - f.lo) (bits f.hi f.lo n) = bit k n := fun n => bit_bits n hlo hhi
  unfold FieldDesc.write
  cases f.acc with
  | ro => rfl
  | rw | wo => exact (hput _).trans (hfield v)
  | w1c | rws => exact (hput _).trans ((bit_sub_and ..).trans (by rw [hfield, hfield]))
  | w1s => exact (hput _).trans ((bit_or ..).trans (by rw [hfield, hfield]))
  | lk => cases isSealed with
    | true => rfl
    | false => exact (hput _).trans (hfield v)

end Sys2Proof.Machine
end

section
/-! PROOFS. Accesses of cores that are turned away: a width or an alignment that no register accepts (R9), and the Open
world at a register whose every field is GO (R12). -/

namespace Sys2Proof.Machine

open R

/-! ### The commands that make an access -/

theorem exec_registerWrite (s : State) (dt : Nat) (a : Sys2Proof.Acc) (addr width v : Nat) :
    exec (.registerWrite dt a addr width v) s = execRegisterWrite dt a addr width v s := rfl

theorem exec_coreMemoryAccess (s : State) (dt : Nat) (a : Sys2Proof.Acc) (k : AccKind) (addr width v : Nat) :
    exec (.coreMemoryAccess dt a k addr width v) s = execCoreMemoryAccess dt a k addr width v s := rfl

theorem exec_frmSwfault (s : State) (dt : Nat) (a : Sys2Proof.Acc) (page v : Nat) :
    exec (.frmSwfault dt a page v) s = execFrmSwfault dt a page v s := rfl

/-- The state in which an access leaves the block. -/
def State.accessed (s : State) (dt : Nat) (a : Sys2Proof.Acc) (k : AccKind) (addr width v : Nat) : State :=
  let r := (s.now dt).access s.mem a k addr width v
  s.becomesM r.1 r.2

/-- A read or a write completes where its width is one of an access; registerWrite is the write under another name. -/
theorem completes_readOrWrite {s : State} {dt addr width v : Nat} {a : Sys2Proof.Acc} {i : Instr} {P : State → Prop}
    (hwidth : widthOk width = true)
    (hi : i ∈ [Instr.registerWrite dt a addr width v, .coreMemoryAccess dt a .read addr width v,
      .coreMemoryAccess dt a .write addr width v])
    (h : ∀ k, k = .read ∨ k = .write → P (s.accessed dt a k addr width v)) : Completes i s P := by
  simp only [List.mem_cons, List.not_mem_nil, or_false] at hi
  obtain rfl | rfl | rfl := hi
  · exact completes_onAll (exec_registerWrite ..) hwidth (h .write (.inr rfl))
  · exact completes_onAll (exec_coreMemoryAccess ..) hwidth (h .read (.inl rfl))
  · exact completes_onAll (exec_coreMemoryAccess ..) hwidth (h .write (.inr rfl))

/-! ### What a fault of severity 1 of an access does -/

/-- While the Beyvo die runs, the fault of an Open access counts against the accessing coach, with the block (R444). -/
theorem Dev.fld_fault1_access (d : Dev) (a : Sys2Proof.Acc) (addr code : Nat) (hup : d.frm.beyvoUp = true)
    (hg : a.guard = false) (ho : a.owner < 8) :
    (d.fault 1 (blockId addr) code (accWho a)).fld (FRM_CFAULT_COUNT a.owner) =
        (d.fld (FRM_CFAULT_COUNT a.owner) + 1) % 2 ^ 16 ∧
      (d.fault 1 (blockId addr) code (accWho a)).fld (FRM_CFAULT_BLOCK a.owner) = blockId addr := by
  have hwho : accWho a = a.owner := by simp [accWho, hg]
  have h := d.frmCfault_fault (blockId addr) a.owner {} code hup ho
  rw [Nat.mod_eq_of_lt (blockId_lt addr)] at h
  rw [hwho]
  exact h

/-! ### An exception at an access -/

/-- An exception is noted in the worlds' part; one that enters the Guard world also sets IN_GUARD of its core (R341). -/
theorem Dev.raiseExc_eq (d : Dev) (k e : Nat) : (∃ w, d.raiseExc k e = { d with wld := w }) ∨
    ∃ w w', d.raiseExc k e = { (({ d with wld := w } : Dev).set (MAN_CORE_GINFO_IN_GUARD k)) with wld := w' } := by
  unfold Dev.raiseExc Dev.enterGuard
  dsimp only
  split
  · exact .inr ⟨_, _, rfl⟩
  · exact .inl ⟨_, rfl⟩

theorem Dev.rn_raiseExc (d : Dev) (k e : Nat) {b : Nat} (h : b ≠ MAN_CORE_GINFO k) : (d.raiseExc k e).rn b = d.rn b := by
  obtain ⟨w, hw⟩ | ⟨w, w', hw⟩ := d.raiseExc_eq k e
  · rw [hw]; rfl
  · rw [hw]; exact Dev.rn_set_ne _ (MAN_CORE_GINFO_IN_GUARD k) h.symm

@[simp] theorem Dev.raiseExc_bus (d : Dev) (k e : Nat) : (d.raiseExc k e).bus = d.bus := by
  obtain ⟨w, hw⟩ | ⟨w, w', hw⟩ := d.raiseExc_eq k e
  · rw [hw]
  · rw [hw, Dev.set_bus]

@[simp] theorem Dev.raiseExc_chans (d : Dev) (k e : Nat) : (d.raiseExc k e).chans = d.chans := by
  obtain ⟨w, hw⟩ | ⟨w, w', hw⟩ := d.raiseExc_eq k e
  · rw [hw]
  · rw [hw, Dev.set_chans]

@[simp] theorem Dev.raiseExc_fab (d : Dev) (k e : Nat) : (d.raiseExc k e).fab = d.fab := by
  obtain ⟨w, hw⟩ | ⟨w, w', hw⟩ := d.raiseExc_eq k e
  · rw [hw]
  · rw [hw, Dev.set_fab]

@[simp] theorem Dev.busError_rn (d : Dev) (b : Nat) : d.busError.rn b = d.rn b := rfl

/-- An access that ends in a bus error changes no register but the Guard information of its core. -/
theorem Dev.rn_busErrorAt (d : Dev) (core : Nat) {b : Nat} (h : b ≠ MAN_CORE_GINFO core) :
    (d.busErrorAt core).rn b = d.rn b := (d.busError.rn_raiseExc core 2 h).trans (d.busError_rn b)

/-! ### A wrong width -/

theorem badWidth_of_register {addr width : Nat} (hl : addr / 0x10000 ≠ 0x4033) (h : width ≠ 4 ∨ addr % 4 ≠ 0) :
    badWidth addr width = true := by
  unfold badWidth
  rw [if_neg hl]
  simpa using h

/-- An access that a core makes to a register in a wrong width stops before the checks of R333. -/
theorem Dev.access_of_badWidth {d : Dev} {m : Mem} {a : Sys2Proof.Acc} {k : AccKind} {addr width v : Nat}
    (hacts : d.actsAs a = true) (hinj : d.injected a addr = false) (hwin : (window addr).isSome = true)
    (hbad : badWidth addr width = true) : d.access m a k addr width v = (d.widthRefused a addr, m) := by
  unfold Dev.access
  simp only [hacts, hinj, hwin, hbad, Bool.not_true, Bool.false_eq_true, if_true, if_false]

/-- Outside the legacy window a wrong width is a fault of severity 1 of the block, and a bus error (R9). -/
theorem Dev.widthRefused_register {d : Dev} {a : Sys2Proof.Acc} {addr : Nat} (hl : addr / 0x10000 ≠ 0x4033) :
    d.widthRefused a addr = (d.fault 1 (blockId addr) 0 (accWho a)).busErrorAt a.core := by
  unfold Dev.widthRefused; rw [if_neg hl]

/-- Settles O35: the access stops at its width, and neither the fault nor the exception reaches a quiet register. -/
theorem wrongWidthAccessIsRefused : Obligations.WrongWidthAccessIsRefused := by
  unfold Obligations.WrongWidthAccessIsRefused
  intro s dt addr width v a i d hwidth hacts hinj hwin hl hbad hi
  refine completes_readOrWrite hwidth hi fun k _ => ?_
  have hacc := Dev.access_of_badWidth (m := s.mem) (k := k) (v := v) hacts hinj hwin (badWidth_of_register hl hbad)
  rw [Dev.widthRefused_register hl] at hacc
  unfold State.accessed
  rw [hacc]
  have hsev : accWho a < 8 ∨ 1 ≠ 2 := .inr (by decide)
  set e := d.fault 1 (blockId addr) 0 (accWho a)
  have hcnt : FRM_CNT 1 ≠ MAN_CORE_GINFO a.core := by simp only [FRM_CNT, MAN_CORE_GINFO]; omega
  refine ⟨?bus, ⟨rfl, rfl⟩, fun b hb hg => ?regs, ?chans, ?fab, fun hup => ?count, fun hup hg ho => ?coach⟩
  case bus => simp [Dev.busErrorAt]
  case regs => exact BitVec.eq_of_toNat_eq ((e.rn_busErrorAt a.core hg).trans (d.rn_fault hsev hb))
  case chans => exact (Dev.raiseExc_chans ..).trans (Dev.fault_chans _ _ _ _ _ _ hsev)
  case fab => exact (Dev.raiseExc_fab ..).trans (Dev.fault_fab _ _ _ _ _ _ hsev)
  case count => exact (e.rn_busErrorAt a.core hcnt).trans (d.frmCnt1_fault _ _ _ _ hup)
  case coach =>
    have hcf : FRM_CFAULT a.owner ≠ MAN_CORE_GINFO a.core := by simp only [FRM_CFAULT, MAN_CORE_GINFO]; omega
    have hfld : ∀ f : Fld, f.addr = FRM_CFAULT a.owner → (e.busErrorAt a.core).fld f = e.fld f :=
      fun f hf => Dev.fld_of_rn (e.rn_busErrorAt a.core (hf ▸ hcf))
    obtain ⟨hcount, hblock⟩ := d.fld_fault1_access a addr 0 hup hg ho
    exact ⟨(hfld _ rfl).trans hcount, (hfld _ rfl).trans hblock⟩

/-! ### The Open world at a register whose every field is GO -/

theorem window_isSome_of_descOf {addr : Nat} {r : RegDesc} (h : descOf addr = some r) : (window addr).isSome = true := by
  cases hw : window addr with
  | some x => rfl
  | none => simp [descOf, hw] at h

/-- The block's own rules, where no owner rule covers the register, leave R12. -/
theorem Dev.blockCheck_openGo {d : Dev} {a : Sys2Proof.Acc} {addr : Nat} {r : RegDesc} (k : AccKind)
    (hpage : ownerOfPage addr = none) (htally : d.tallyOwner addr = none) (hrule : d.ruleOwner addr = none)
    (hdesc : descOf addr = some r) (hgo : r.allGo = true ∧ (!a.guard) = true ∧ r.fields ≠ []) :
    d.blockCheck a k addr = .openGo := by
  simp only [Dev.blockCheck, hpage, htally, hrule, hdesc, if_pos hgo]

/-- Neither the checks of the manifest nor the block's own let the Open world reach a register whose every field is GO. -/
theorem checkAccess_openGo {m : Mem} {d : Dev} {a : Sys2Proof.Acc} {k : AccKind} {addr : Nat} {r : RegDesc}
    (hacts : d.actsAs a = true) (hinj : d.injected a addr = false) (hrom : d.bootRom a = false)
    (hlo : 0x40000000 ≤ addr) (hhi : addr < 0x41000000) (hdesc : descOf addr = some r)
    (hgo : r.allGo = true ∧ (!a.guard) = true ∧ r.fields ≠ []) (hrule : d.ruleOwner addr = none)
    (hpage : let e := d.pageEntry m (137216 + (addr - 0x40000000) / 4096)
      (entryOwner e = 9 ∧ entryGuard e = false ∧ ownerOfPage addr = none ∧ d.tallyOwner addr = none) ∨
      (entryOwner e ≠ 9 ∧ pageAllows e a k = true)) : checkAccess m d a k addr = .openGo := by
  obtain ⟨x, hx⟩ := Option.isSome_iff_exists.mp (window_isSome_of_descOf hdesc)
  unfold checkAccess
  rw [if_neg (by simp [hacts]), if_neg (by simp [hinj]), if_neg (by simp [hrom]), if_neg (by omega), if_pos ⟨hlo, hhi⟩]
  simp only [hx]
  obtain ⟨ho, hg, hown, htally⟩ | ⟨ho, hallow⟩ := hpage
  · simp only [ho, hg, d.blockCheck_openGo k hown htally hrule hdesc hgo]
    simp
  · simp only [ho, hallow, hrule, hdesc, if_pos hgo]
    simp

/-- What the Open world's access to such a register does (R12): a fault of severity 1, and 0 returned. -/
theorem Dev.access_of_openGo {d : Dev} {m : Mem} {a : Sys2Proof.Acc} {k : AccKind} {addr width v : Nat}
    (hacts : d.actsAs a = true) (hinj : d.injected a addr = false) (hwin : (window addr).isSome = true)
    (hwidth : badWidth addr width = false) (h : checkAccess m d a k addr = .openGo) :
    d.access m a k addr width v = ((d.fault 1 (blockId addr) 0 (accWho a)).returns 0, m) := by
  unfold Dev.access
  simp only [hacts, hinj, hwin, hwidth, h, Bool.not_true, Bool.false_eq_true, if_true, if_false]
  rfl

/-- FRM_SWFAULT with SEV 0 does nothing but report a 1 that the Open world writes into its GO field (R12, R447). -/
theorem Dev.swFault_sev0 {d : Dev} {a : Sys2Proof.Acc} {page v : Nat} (h : bits 1 0 v = 0) :
    d.swFault a page v = if !a.guard ∧ bits 7 4 v ≠ 0 then d.fault 1 0x02 0 (accWho a) else d := by
  unfold Dev.swFault; rw [h]; rfl

/-- Settles O60: the checks answer `openGo`, whose fault reaches no quiet register; of FRM_SWFAULT only the GO field
reports. -/
theorem openWorldReachesNoGoRegister : Obligations.OpenWorldReachesNoGoRegister := by
  unfold Obligations.OpenWorldReachesNoGoRegister
  refine ⟨?access, ?swfault⟩
  case access =>
    intro s dt addr v a r i d e hacts hinj hrom hguard hdesc hgo hfields halign hl hlo hhi hrule hpage hi
    refine completes_readOrWrite (by decide) hi fun k hk => ?_
    have hwidth : badWidth addr 4 = false := by simp [badWidth, hl, halign]
    have hcheck : checkAccess s.mem d a k addr = .openGo := by
      refine checkAccess_openGo hacts hinj hrom hlo hhi hdesc ⟨hgo, by simp [hguard], hfields⟩ hrule ?_
      obtain hshared | ⟨ho, hread, hwrite⟩ := hpage
      · exact .inl hshared
      · obtain rfl | rfl := hk
        · exact .inr ⟨ho, hread⟩
        · exact .inr ⟨ho, hwrite⟩
    have hacc := Dev.access_of_openGo (v := v) hacts hinj (window_isSome_of_descOf hdesc) hwidth hcheck
    unfold State.accessed
    rw [hacc]
    have hsev : accWho a < 8 ∨ 1 ≠ 2 := .inr (by decide)
    exact ⟨rfl, ⟨rfl, rfl⟩, fun b hb => d.rn_fault hsev hb, Dev.fault_chans _ _ _ _ _ _ hsev,
      Dev.fault_fab _ _ _ _ _ _ hsev,
      fun hup => ⟨d.frmCnt1_fault _ _ _ _ hup, fun ho => d.fld_fault1_access a addr 0 hup hguard ho⟩⟩
  case swfault =>
    intro s dt c v a d hc hguard hmay hsev0
    have hpage : decide (c < 9) = true := decide_eq_true (by omega)
    refine completes_onDevM (exec_frmSwfault ..) hpage ?_
    rw [Dev.regWrite_pass hmay, Dev.swFault_sev0 hsev0]
    have hsev : accWho a < 8 ∨ 1 ≠ 2 := .inr (by decide)
    by_cases hv : bits 7 4 v = 0
    · rw [if_neg (by simp [hv])]
      exact ⟨⟨rfl, rfl⟩, fun _ _ => rfl, fun _ => rfl, fun h => absurd hv h⟩
    · rw [if_pos ⟨by simp [hguard], hv⟩]
      exact ⟨⟨rfl, rfl⟩, fun b hb => d.rn_fault (o := {}) hsev hb, fun h => absurd h hv,
        fun _ hup => d.frmCnt1_fault 0x02 (accWho a) {} 0 hup⟩

end Sys2Proof.Machine
end

section
/-! PROOFS. The state after reset reads as the Reset columns give (R15, R42, R449). -/

namespace Sys2Proof.Machine

open R

/-! ### Reset columns of the arrays of owner fields and masks -/

theorem resetWord_timetableCtl {n : Nat} (h0 : 0 < n) (h : n < 256) : resetWord (STG_TT_CTL n) = 0xF0 := by
  have hctl : ∀ m, STG_TT_CTL m = 0x40411008 + 0x10 * m := fun _ => rfl
  have hlen : STG_TT_LEN 0 = 0x40411004 := rfl
  have ha := hctl n
  have hw : STG_TT_CTL n / 0x10000 = 0x4041 := by omega
  rw [resetWord, if_pos hw, if_neg (by omega), if_neg (by rw [hctl 0]; omega),
    if_pos (by rw [hctl 0, hctl 1, hctl 256]; omega)]

theorem resetWord_slotCfg {n : Nat} (h : n < 64) : resetWord (TTA_SLOT_CFG n) = 0xF0000000 := by
  have ha : TTA_SLOT_CFG n = 0x40421000 + 0x20 * n := rfl
  have hw : TTA_SLOT_CFG n / 0x10000 = 0x4042 := by omega
  simp only [resetWord, hw, Nat.reduceEqDiff, if_true, if_false]
  exact if_pos (by omega)

theorem resetWord_chanCfg {i : Nat} (h : i < 40) : resetWord (CHAN_CFG i) = 0xF := by
  have ha : CHAN_CFG i = 0x40810000 + 0x100 * i := rfl
  have hw : CHAN_CFG i / 0x10000 = 0x4081 := by omega
  have hw' : CHAN_CFG i / 0x100000 = 0x408 := by omega
  simp only [resetWord, hw, hw', Nat.reduceEqDiff, if_true, if_false]
  exact if_pos (by omega)

theorem resetWord_lioCfg {n : Nat} (h : n < 32) : resetWord (LIO_CFG n) = 0xF := by
  have ha : LIO_CFG n = 0x40820000 + 0x40 * n := rfl
  have hw : LIO_CFG n / 0x10000 = 0x4082 := by omega
  have hw' : LIO_CFG n / 0x100000 = 0x408 := by omega
  simp only [resetWord, hw, hw', Nat.reduceEqDiff, if_true, if_false]
  exact if_pos (by omega)

theorem resetWord_portCfg {p : Nat} (h : p < 36) : resetWord (PORT_CFG p) = 0xF := by
  have ha : PORT_CFG p = 0x40500000 + 0x1000 * p := rfl
  rw [resetWord, if_neg (by omega), if_neg (by omega), if_neg (by omega), if_pos (by omega), if_pos (by omega)]

theorem resetWord_irqRoute {n : Nat} (h : n < 512) : resetWord (IRQ_ROUTE n) = 0xF := by
  have ha : IRQ_ROUTE n = 0x40050000 + 4 * n := rfl
  have hw : IRQ_ROUTE n / 0x10000 = 0x4005 := by omega
  have hw' : IRQ_ROUTE n / 0x100000 = 0x400 := by omega
  simp only [resetWord, hw, hw', Nat.reduceEqDiff, if_true, if_false]
  exact if_pos (by omega)

theorem resetWord_irqMask {w : Nat} (h : w < 16) : resetWord (IRQ_MASK w) = 0xFFFFFFFF := by
  have ha : IRQ_MASK w = 0x40050800 + 4 * w := rfl
  have hw : IRQ_MASK w / 0x10000 = 0x4005 := by omega
  have hw' : IRQ_MASK w / 0x100000 = 0x400 := by omega
  simp only [resetWord, hw, hw', Nat.reduceEqDiff, if_true, if_false]
  rw [if_neg (by omega), if_pos (by omega)]

theorem resetWord_sysId : resetWord SYS_ID = if Config.gradeE0 then 0x19640 else 0x9640 := rfl

/-! ### The state after reset -/

/-- After reset every register but SYS_READY and those of the TAN window holds the word of its Reset column. -/
theorem Dev.rn_reset {a : Nat} (hs : a ≠ SYS_READY) (ht : a / 0x10000 ≠ 0x4006) :
    Dev.reset.rn a = (resetWord a).toNat := by
  have htan : ∀ p, p < 4 → TAN_PAIR_STS p ≠ a := by intro p hp; simp only [TAN_PAIR_STS]; omega
  simp only [Dev.rn, Dev.reg, Dev.reset, tget, htan, hs.symm, Nat.reduceLT, if_false]

theorem Dev.rn_reset_sysId : Dev.reset.rn SYS_ID = if Config.gradeE0 then 0x19640 else 0x9640 := by
  rw [Dev.rn_reset (by decide) (by decide), resetWord_sysId]
  cases Config.gradeE0 <;> rfl

theorem Dev.rn_reset_irqMask {w : Nat} (h : w < 16) : Dev.reset.rn (IRQ_MASK w) = 0xFFFFFFFF := by
  have ha : IRQ_MASK w = 0x40050800 + 4 * w := rfl
  have hs : SYS_READY = 0x4000001C := rfl
  rw [Dev.rn_reset (by omega) (by omega), resetWord_irqMask h]
  rfl

/-- The value of a field after reset, from the Reset column of its register, which lies above SYS and outside TAN;
`b` spells the register's address. -/
theorem Dev.fld_reset {a hi lo v : Nat} {w : Word} (b : Nat) (ha : a = b) (hw : resetWord a = w)
    (hv : bits hi lo w.toNat = v) (hs : 0x40010000 ≤ b) (ht : b / 0x10000 ≠ 0x4006) : Dev.reset.fld ⟨a, hi, lo⟩ = v := by
  have hready : SYS_READY = 0x4000001C := rfl
  have hrn : Dev.reset.rn a = w.toNat := by rw [Dev.rn_reset (by omega) (by omega), hw]
  rw [Dev.fld, hrn, hv]

/-- Settles O49: the owner fields and masks by the Reset columns of their arrays, the single registers by evaluation. -/
theorem resetLeavesTheStatedValues : Obligations.ResetLeavesTheStatedValues := by
  unfold Obligations.ResetLeavesTheStatedValues
  refine ⟨rfl, rfl, Dev.rn_reset_sysId, by decide, by decide, by decide, by decide, by decide, by decide,
    fun n h h0 => ?timetable, by decide, fun n h => ?slots, fun i h => ?channels, fun n h => ?inputs, fun p h => ?ports,
    fun n h => ?sources, fun w h => Dev.rn_reset_irqMask h, by decide, by decide, by decide, by decide, rfl, rfl, rfl,
    by decide⟩
  case timetable =>
    exact Dev.fld_reset (0x40411008 + 0x10 * n) rfl (resetWord_timetableCtl h0 h) (by decide) (by omega) (by omega)
  case slots =>
    exact Dev.fld_reset (0x40421000 + 0x20 * n) rfl (resetWord_slotCfg h) (by decide) (by omega) (by omega)
  case channels =>
    exact Dev.fld_reset (0x40810000 + 0x100 * i) rfl (resetWord_chanCfg h) (by decide) (by omega) (by omega)
  case inputs =>
    exact Dev.fld_reset (0x40820000 + 0x40 * n) rfl (resetWord_lioCfg h) (by decide) (by omega) (by omega)
  case ports =>
    exact Dev.fld_reset (0x40500000 + 0x1000 * p) rfl (resetWord_portCfg h) (by decide) (by omega) (by omega)
  case sources =>
    exact Dev.fld_reset (0x40050000 + 4 * n) rfl (resetWord_irqRoute h) (by decide) (by omega) (by omega)

end Sys2Proof.Machine
end

section
/-! PROOFS. Which commands run (R30): every command is a change of the device and its memory under one check of its
operands, and that check is `Instr.wf`. -/

namespace Sys2Proof.Machine

/-! ### One check decides the outcome -/

/-- The outcome is a change of the device and its memory guarded by `ok`, the one shape that the meanings have. -/
def State.ChangesWhen (s : State) (ok : Bool) (o : Host.Outcome State Fault Refusal) : Prop :=
  ∃ dt f, o = s.onAll dt ok f

theorem State.changesWhen_onAll (s : State) (dt : Nat) (ok : Bool)
    (f : List Host.Cell → Dev → Dev × List Host.Cell) : s.ChangesWhen ok (s.onAll dt ok f) := ⟨dt, f, rfl⟩

theorem State.changesWhen_onDevM (s : State) (dt : Nat) (ok : Bool) (f : List Host.Cell → Dev → Dev) :
    s.ChangesWhen ok (s.onDevM dt ok f) := ⟨dt, fun m d => (f m d, m), rfl⟩

theorem State.changesWhen_onDev (s : State) (dt : Nat) (ok : Bool) (f : Dev → Dev) :
    s.ChangesWhen ok (s.onDev dt ok f) := ⟨dt, fun m d => (f d, m), rfl⟩

theorem State.changesWhen_sbxRow (s : State) (dt op : Nat) (f : SbxCmd → List Nat → Dev → SbxRes) :
    s.ChangesWhen true (s.sbxRow dt op f) := s.changesWhen_onAll ..

theorem State.changesWhen_ceRow (s : State) (dt l op : Nat) : s.ChangesWhen (l < 4) (s.ceRow dt l op) :=
  s.changesWhen_onAll ..

theorem State.changesWhen_chanCmdRow (s : State) (dt op : Nat) (a : Acc) (i v : Nat) :
    s.ChangesWhen (i < 40) (s.chanCmdRow dt op a i v) := s.changesWhen_onDevM ..

theorem State.ChangesWhen.next_of_true {s : State} {o : Host.Outcome State Fault Refusal}
    (h : s.ChangesWhen true o) : ∃ t, o = .next t := by
  obtain ⟨dt, f, rfl⟩ := h
  exact ⟨_, if_pos rfl⟩

theorem State.ChangesWhen.fault_of_false {s : State} {o : Host.Outcome State Fault Refusal}
    (h : s.ChangesWhen false o) : o = .fault .noSuchResource := by
  obtain ⟨dt, f, rfl⟩ := h
  exact if_neg Bool.false_ne_true

/-! ### The check of every command is `Instr.wf` -/

/-- By the row's meaning: those that may change memory, those that read it (most write a register), the operations of
the Strongbox and of the cipher engine, the commands of a channel, and the rest, which see the device alone. -/
theorem exec_changesWhen_wf (i : Instr) (s : State) : s.ChangesWhen i.wf (exec i s) := by
  unfold exec
  cases i with
  | registerWrite | coreMemoryAccess | latchingReadLo | stageTick | snapshotDelivery | syncReceived | timeAccept
  | slotArm | slotDisarm | slotFire | logbookRecordWrite | frameIngress | frameTailCheck | transmitDescriptorSend
  | receiveDelivery | deliveryReceipt | sampleDelivery | entryComplete | sleepExit | manEditDone | tamperAlarm
  | chunkDeliveryRetry | outputStallTimeout | provisionalRevoke | nonceBlockReserved | laneFault | powerOnReset
  | deviceReset | beyvoReset | bootSequence | flashCommandDone | data | debugRead | debugWrite | supplyRangeChange
  | coachReset | blockResetCanLin | blockResetTally | blockResetOutr | blockResetLio | preciseSample =>
    exact s.changesWhen_onAll ..
  | stgDone | stgGdone | tcapPop | logbSpostGo | logbRdCntWrite | alwaysOnFetch | aoClearWriteOnce | aoClearWholeLog
  | planeReadmit | lkpFlipAtTick | lkpFlipImmediate | lkpFrerRst | cqDb | outrPortNWrite | towArm | towEnable
  | towDisable | linkRestart | cableTest | canRecover | msecTxsaSwitch | linSchedSwitch | linSchedRun
  | portRequestActive | portRequestIgnore | portRequestAsleep | sidConfirm | qClr | cntClr | unlatch | hlkCwWord
  | hlkDsRelease | lioEdgePop | lioFastPop | manEditCmd | remeasurementDone | manGinfoRead | pwrmGuardQuiesced
  | irqClaim | irqEoi | tanInjBoundary | tanInjFold | tanInjSelfTest | sbxSubmit | sbxDrbgRead | ceSubmit
  | ceKeyload | ceKeyloadClr | ceLaneReadmit | bootTimerExpiry | guardGo | sysRollbackCmt | flashErase
  | flashProgram | pwrmSleepReq | pwrmTolUs | clkGateWrite | pwrmPgateWrite | frmAck | frmSafeCtl | frmSwfault
  | frmResetDevice | frmResetBeyvo | caResetReq | frmCoachReset | frmCoachRestart | frmCoachDsRel | frmCtlLock
  | tallyCounterWrite | smpCfgWrite | smpRdWrite =>
    exact s.changesWhen_onDevM ..
  | generate | derive | unwrap | wrap | publicKey | ecdh | kemEnc | kemDec | verifyEcdsa | verifyMldsa | verifyHybrid
  | random | verifyStaged | commit | discard | invalidate | erase | odoRead | odoAdvance | debugCert =>
    exact s.changesWhen_sbxRow ..
  | encrypt | decrypt | macGen | macVerify | hashMsg | msecInstall | msecRemove => exact s.changesWhen_ceRow ..
  | channelCmdOff | channelCmdOn | channelCmdPwm | channelCmdDuty | channelCmdFwd | channelCmdRev =>
    exact s.changesWhen_chanCmdRow ..
  | _ => exact s.changesWhen_onDev ..

/-- Settles O3: the check that a command makes of its operands is `Instr.wf`, and it alone decides the outcome. -/
theorem wellFormedCommandsAlwaysRun : Obligations.WellFormedCommandsAlwaysRun := by
  unfold Obligations.WellFormedCommandsAlwaysRun
  intro i s
  have hcheck : s.ChangesWhen i.wf (exec i s) := exec_changesWhen_wf i s
  constructor <;> intro hwf <;> rw [hwf] at hcheck
  · exact hcheck.next_of_true
  · exact hcheck.fault_of_false

end Sys2Proof.Machine
end

section
/-! PROOFS. A register whose every field is LK keeps its value after seal (R13), the timetable's among them (R45). -/

namespace Sys2Proof.Machine

open R

/-! ### A write that the access types ignore -/

/-- A register written with the value that it holds: no register changes. -/
theorem Dev.rn_wr_rn (d : Dev) (a b : Nat) : (d.wr a (d.rn a)).rn b = d.rn b := by
  rw [Dev.rn_wr]
  split
  next hab => rw [d.rn_mod, hab]
  next => rfl

theorem foldl_write_lk (l : List FieldDesc) (v r : Nat) (h : ∀ f ∈ l, f.acc = .lk) :
    l.foldl (fun x f => f.write true v x) r = r := by
  induction l with
  | nil => rfl
  | cons f l ih =>
    have hf : f.write true v r = r := by simp [FieldDesc.write, h f (by simp)]
    rw [List.foldl_cons, hf, ih fun g hg => h g (by simp [hg])]

/-- Every field is LK and none is GO. -/
def RegDesc.lkOnly (r : RegDesc) : Bool := r.fields != [] && r.fields.all (fun f => f.acc == .lk && !f.go)

theorem RegDesc.lkOnly_iff (r : RegDesc) :
    r.lkOnly = true ↔ r.fields ≠ [] ∧ ∀ f ∈ r.fields, f.acc = .lk ∧ f.go = false := by
  simp only [RegDesc.lkOnly, Bool.and_eq_true, bne_iff_ne, List.all_eq_true, beq_iff_eq, Bool.not_eq_true']

/-- After seal a write to a register of LK fields alone is a fault of severity 0 and leaves the value (R13). -/
theorem Dev.plainWrite_lkOnly {d e : Dev} {a : Sys2Proof.Acc} {addr v : Nat} {r : RegDesc} (hsealed : d.boot.phase = .sealed)
    (hdesc : descOf addr = some r) (hr : r.lkOnly = true) (he : e = d.fault 0 (blockId addr) 0 (accWho a)) :
    d.plainWrite a addr v = e.wr addr (e.rn addr) := by
  obtain ⟨hne, hlk⟩ := r.lkOnly_iff.mp hr
  have hgo : r.fields.filter (fun f => f.go && !a.guard) = [] :=
    List.filter_eq_nil_iff.mpr fun f hf => by simp [(hlk f hf).2]
  have hmine : r.fields.filter (fun f => a.guard || !f.go) = r.fields :=
    List.filter_eq_self.mpr fun f hf => by simp [(hlk f hf).2]
  have hall : r.fields.filter (·.acc == .lk) = r.fields :=
    List.filter_eq_self.mpr fun f hf => by simp [(hlk f hf).1]
  simp only [he, Dev.plainWrite, hdesc, hgo, hmine, hall, hsealed, List.any_nil, Bool.false_eq_true, if_false,
    beq_self_eq_true, Bool.true_or, Bool.and_true, true_and, bne_iff_ne.mpr hne, if_true]
  rw [foldl_write_lk _ _ _ fun f hf => (hlk f hf).1]

/-- A fault of severity 0 counts in FRM_CNT0 (R444). -/
theorem Dev.frmCnt0_fault (d : Dev) (block code owner : Nat) (o : FaultOpt) (h : d.frm.beyvoUp = true) :
    (d.fault 0 block code owner o).rn (FRM_CNT 0) = (d.rn (FRM_CNT 0) + 1) % 2 ^ 32 := by
  unfold Dev.fault
  rw [if_pos h]
  exact (Dev.rn_bump_self ..).trans (by rw [Dev.rn_faultHead _ (by decide)])

/-! ### An access that the checks let through -/

/-- What the checks let through is an access that a core makes and that no injection falsifies. -/
theorem acts_of_checkAccess_pass {m : Mem} {d : Dev} {a : Sys2Proof.Acc} {k : AccKind} {addr : Nat}
    (h : checkAccess m d a k addr = .pass) : d.actsAs a = true ∧ d.injected a addr = false := by
  unfold checkAccess at h
  cases hacts : d.actsAs a with
  | false => rw [if_pos (by simp [hacts])] at h; cases h
  | true => cases hinj : d.injected a addr with
    | true => rw [if_neg (by simp [hacts]), if_pos hinj] at h; cases h
    | false => exact ⟨rfl, rfl⟩

theorem Dev.access_register_pass {d : Dev} {m : Mem} {a : Sys2Proof.Acc} {k : AccKind} {addr width v : Nat}
    (hwin : (window addr).isSome = true) (hwidth : badWidth addr width = false) (h : checkAccess m d a k addr = .pass) :
    d.access m a k addr width v = d.regAccess m a k addr v := by
  obtain ⟨hacts, hinj⟩ := acts_of_checkAccess_pass h
  simp only [Dev.access, hacts, hinj, hwin, hwidth, h, Bool.not_true, Bool.false_eq_true, if_true, if_false]

/-! ### The registers of the timetable -/

theorem RegDesc.base_le_of_has {r : RegDesc} {a : Nat} (h : r.has a = true) : r.base ≤ a := by
  unfold RegDesc.has at h
  exact decide_eq_true_eq.mp (Bool.and_eq_true_iff.mp h).1

theorem RegDesc.eq_base_of_has {r : RegDesc} {a : Nat} (hd : r.dims = []) (h : r.has a = true) : a = r.base := by
  unfold RegDesc.has at h
  rw [hd, Bool.and_eq_true_iff] at h
  obtain ⟨hle, hoff⟩ := h
  have := decide_eq_true_eq.mp hle
  have : a - r.base = 0 := beq_iff_eq.mp hoff
  omega

theorem RegDesc.has_array {b st n a : Nat} (fs : List FieldDesc) (hle : b ≤ a) (hlt : (a - b) / st < n)
    (hmod : (a - b) % st = 0) : (⟨b, [(st, n)], fs⟩ : RegDesc).has a = true := by
  simp [RegDesc.has, dimsMatch, hle, hlt, hmod]

/-- In the STG window a register of another kind is a single one below the timetable's arrays, or lies above them. -/
theorem stg_lkOnly_or_apart : ∀ r ∈ RegTable.stg,
    r.lkOnly = true ∨ (r.base < 0x40411000 ∧ r.dims = []) ∨ 0x40412000 ≤ r.base := by decide

theorem window_stg {x : Nat} (h : x / 0x10000 = 0x4041) : window x = some (0x21, RegTable.stg) := by
  simp only [window, h, Nat.reduceEqDiff, Nat.reduceDiv, if_true, if_false]

theorem arrIdx_eq_none {a base stride n : Nat} (h : a < base ∨ n ≤ (a - base) / stride) : arrIdx a base stride n = none := by
  unfold arrIdx inArr
  rw [if_neg]
  simp only [Bool.and_eq_true, decide_eq_true_eq, not_and_or]
  omega

/-- A write in the array of the timetable has no row of its own. -/
theorem Dev.writeReg_timetable (d : Dev) (m : Mem) (a : Sys2Proof.Acc) {x : Nat} (v : Nat) (hlo : 0x40411000 ≤ x)
    (hhi : x < 0x40412000) : d.writeReg m a x v = (d.plainWrite a x (v % 2 ^ 32), m) := by
  have hman : ∀ v, d.writeMan a x v = d.plainWrite a x v := by
    intro v
    have hdone : arrIdx x (STG_DONE 0) 0x1000 8 = none := arrIdx_eq_none (.inl (by simp only [STG_DONE]; omega))
    have hmask : arrIdx x (IRQ_MASK 0) 4 16 = none := arrIdx_eq_none (.inr (by simp only [IRQ_MASK]; omega))
    have heoi : arrIdx x (IRQ_LC_EOI 0 0) 0x800 24 = none := arrIdx_eq_none (.inr (by simp only [IRQ_LC_EOI]; omega))
    simp only [Dev.writeMan, hdone, hmask, heoi]
    rw [if_neg (by simp only [STG_GDONE]; omega), if_neg (by simp only [MAN_EDIT_CMD]; omega),
      if_neg (by simp only [TAN_INJ]; omega)]
  have hw : x / 0x10000 = 0x4041 := by omega
  have hhv : onHeavia x = false := by simp only [onHeavia, hw]; decide
  simp only [Dev.writeReg, hw, hhv, hman, Nat.reduceDiv, Nat.reduceEqDiff, Nat.reduceLeDiff, Bool.false_eq_true, if_false,
    or_true, if_true]

section Timetable

variable {n x : Nat} (hn : n < 256) (hx : x ∈ [STG_TT_START n, STG_TT_LEN n, STG_TT_CTL n, STG_TT_GATE n])

include hn hx

/-- A register of the timetable (R45): 256 entries of four words. -/
theorem timetable_range : 0x40411000 ≤ x ∧ x < 0x40412000 ∧ x % 4 = 0 := by
  simp only [List.mem_cons, List.not_mem_nil, or_false, STG_TT_START, STG_TT_LEN, STG_TT_CTL, STG_TT_GATE] at hx
  omega

theorem timetable_listed : ∃ r ∈ RegTable.stg, r.has x = true := by
  simp only [List.mem_cons, List.not_mem_nil, or_false, STG_TT_START, STG_TT_LEN, STG_TT_CTL, STG_TT_GATE] at hx
  have hat : ∀ {b : Nat} {fs : List FieldDesc}, x = b + 0x10 * n → (⟨b, [(0x10, 256)], fs⟩ : RegDesc).has x = true :=
    fun h => RegDesc.has_array _ (by omega) (by omega) (by omega)
  obtain h | h | h | h := hx
  · exact ⟨_, RegTable.stg.getElem_mem (n := 14) (by decide), hat h⟩
  · exact ⟨_, RegTable.stg.getElem_mem (n := 15) (by decide), hat h⟩
  · exact ⟨_, RegTable.stg.getElem_mem (n := 16) (by decide), hat h⟩
  · exact ⟨_, RegTable.stg.getElem_mem (n := 17) (by decide), hat h⟩

/-- The register of the timetable that an address names has LK fields alone. -/
theorem timetable_desc : ∃ r, descOf x = some r ∧ r.lkOnly = true := by
  obtain ⟨hlo, hhi, _⟩ := timetable_range hn hx
  obtain ⟨r, hr⟩ := Option.isSome_iff_exists.mp (List.find?_isSome.mpr (timetable_listed hn hx))
  have hhas : r.has x = true := by simpa using List.find?_some hr
  refine ⟨r, ?_, ?_⟩
  · have hres : guardReserved x = false := by
      simp only [guardReserved, Bool.and_eq_false_iff, decide_eq_false_iff_not]; omega
    simp only [descOf, hres, window_stg (show x / 0x10000 = 0x4041 by omega), Bool.false_eq_true, if_false]
    rw [if_neg (by omega), hr]
  · obtain h | ⟨hb, hd⟩ | hb := stg_lkOnly_or_apart r (List.mem_of_find?_eq_some hr)
    · exact h
    · have := RegDesc.eq_base_of_has hd hhas; omega
    · have := RegDesc.base_le_of_has hhas; omega

/-- A write to a register of the timetable that the checks let through, after seal: a fault of severity 0, no more. -/
theorem Dev.access_timetable {d e : Dev} {m : Mem} {a : Sys2Proof.Acc} (v : Nat) (hsealed : d.boot.phase = .sealed)
    (h : d.mayWrite m a x) (he : e = d.fault 0 (blockId x) 0 (accWho a)) : d.access m a .write x 4 v = (e.wr x (e.rn x), m) := by
  obtain ⟨hlo, hhi, halign⟩ := timetable_range hn hx
  obtain ⟨r, hdesc, hlk⟩ := timetable_desc hn hx
  have hwidth : badWidth x 4 = false := by
    unfold badWidth; rw [if_neg (by omega)]; simp [halign]
  have hlive : d.deadAperture x = false := by
    simp only [Dev.deadAperture, Bool.and_eq_false_iff, decide_eq_false_iff_not]; omega
  have hwrite := Dev.plainWrite_lkOnly (v := v % 2 ^ 32) hsealed hdesc hlk he
  rw [Dev.access_register_pass (window_isSome_of_descOf hdesc) hwidth h, Dev.regAccess, hlive, if_neg Bool.false_ne_true,
    if_pos rfl, Dev.writeReg_timetable _ _ _ _ hlo hhi, hwrite]

end Timetable

/-- Settles O48: the write leaves the value that the register holds, and the fault of severity 0 reaches no quiet
register. -/
theorem sealedTimetableStaysAsItIs : Obligations.SealedTimetableStaysAsItIs := by
  unfold Obligations.SealedTimetableStaysAsItIs
  intro s dt n v a x d hsealed hn hx hmay
  obtain ⟨e, he⟩ : ∃ e, e = d.fault 0 (blockId x) 0 (accWho a) := ⟨_, rfl⟩
  have hacc := Dev.access_timetable hn hx v hsealed hmay he
  have hsev : accWho a < 8 ∨ 0 ≠ 2 := .inr (by decide)
  refine completes_onAll (exec_registerWrite ..) (by decide) ?_
  rw [hacc]
  refine ⟨⟨rfl, rfl⟩, ?bus, fun b hb => (e.rn_wr_rn x b).trans ?quiet, fun hup => (e.rn_wr_rn x _).trans ?count⟩
  case bus => rw [Dev.wr_bus, he, Dev.fault_bus _ _ _ _ _ _ hsev]
  case quiet => rw [he, d.rn_fault hsev hb]
  case count => rw [he, d.frmCnt0_fault _ _ _ _ hup]

end Sys2Proof.Machine
end

section
/-! PROOFS. Gates, quiet entries, snapshots and STAGE_OUT (R40, R41, R51–R55, R62–R64). -/

namespace Sys2Proof.Machine

open R

/-! ### What bringing the credits up to date keeps -/

/-- Bringing the credits of a port up to date changes the fabric's credits alone. -/
theorem Dev.shaper_eq (d : Dev) (p : Nat) : ∃ f, d.shaper p = { d with fab := f } := by
  unfold Dev.shaper
  split
  · exact ⟨d.fab, rfl⟩
  · suffices h : ∀ (l : List Nat) (d : Dev) (g : Nat → Dev → FabSt),
        ∃ f, d.each l (fun k d => { d with fab := g k d }) = { d with fab := f } from h _ _ _
    intro l
    induction l with
    | nil => exact fun d _ => ⟨d.fab, rfl⟩
    | cons k l ih => exact fun d g => ih { d with fab := g k d } g

theorem Dev.shapers_eq (d : Dev) (l : List Nat) : ∃ f, d.each l (fun p d => d.shaper p) = { d with fab := f } := by
  induction l generalizing d with
  | nil => exact ⟨d.fab, rfl⟩
  | cons p l ih =>
    obtain ⟨f, hf⟩ := d.shaper_eq p
    obtain ⟨f', hf'⟩ := ih (d.shaper p)
    exact ⟨f', hf'.trans (by rw [hf])⟩

/-! ### Gates -/

theorem tget_foldl_tset (l : List Nat) (v : Nat → Nat) (p : Nat) (g : List (Nat × Nat)) :
    tget 0xFF (l.foldl (fun g q => tset 0xFF (v q) q g) g) p = if p ∈ l then v p else tget 0xFF g p := by
  induction l generalizing g with
  | nil => simp
  | cons q l ih =>
    rw [List.foldl_cons, ih, tget_tset _ _ _ _ _ _ fun _ => rfl]
    by_cases hq : q = p
    · subst hq; simp
    · simp [hq, Ne.symm hq]

/-- Setting gates changes the fabric's credits and the gates alone; each gate set is that of its list. -/
theorem Dev.setGates_eq (d : Dev) (ports : List Nat) (ph off : Nat) :
    ∃ f g, d.setGates ports ph off = { d with fab := f, stg := { d.stg with gates := g } } ∧
      ∀ p, tget 0xFF g p = if p ∈ ports then d.gateAt p ph off else tget 0xFF d.stg.gates p := by
  obtain ⟨f, hf⟩ := d.shapers_eq ports
  refine ⟨f, ports.foldl (fun g p => tset 0xFF (d.gateAt p ph off) p g) d.stg.gates, ?_, fun p => ?_⟩
  · simp only [Dev.setGates, hf]
    rfl
  · exact tget_foldl_tset ports (fun p => d.gateAt p ph off) p d.stg.gates

/-! ### Snapshots -/

/-- A snapshot that cannot cross is reported (R55). -/
theorem Dev.on_snapMiss (d : Dev) : d.snapMiss.on STG_STS_SNAP_MISS = true := by
  have hc : calm STG_STS_SNAP_MISS.addr := by decide
  have hpost : ∀ (e : Dev) (l : List Nat),
      (e.each l (fun c d => d.post 0x21 0x0003 1 c c)).rn STG_STS_SNAP_MISS.addr = e.rn STG_STS_SNAP_MISS.addr :=
    fun e l => Dev.each_keeps (·.rn STG_STS_SNAP_MISS.addr) _ (fun _ d => d.rn_post hc) e l
  have hset : d.snapMiss.on STG_STS_SNAP_MISS = (d.set STG_STS_SNAP_MISS).on STG_STS_SNAP_MISS :=
    Dev.on_of_rn ((hpost _ _).trans (Dev.rn_raiseIf _ _ (by decide) hc))
  rw [hset, Dev.on_set _ _ rfl (by decide)]

theorem Dev.inStage_of_lastTick {d : Dev} {tick off : Nat} (h : d.stg.lastTick = some tick) :
    d.inStage off = decide (tick + off ≤ d.domNs) := by
  simp [Dev.inStage, h]

theorem mem_tput_terase (n v : Nat) (t : List (Nat × Nat)) : (n, v) ∈ tput n v (terase n t) :=
  (mem_tput n v _ _).mpr (.inl rfl)

/-! ### The commands -/

theorem exec_snapshotDelivery (s : State) (dt : Nat) (crossed : Bool) :
    exec (.snapshotDelivery dt crossed) s = execSnapshotDelivery dt crossed s := rfl

theorem exec_stageOutFall (s : State) (dt : Nat) : exec (.stageOutFall dt) s = execStageOutFall dt s := rfl

theorem exec_gateListFlip (s : State) (dt n : Nat) : exec (.gateListFlip dt n) s = execGateListFlip dt n s := rfl

theorem exec_quietStart (s : State) (dt n : Nat) : exec (.quietStart dt n) s = execQuietStart dt n s := rfl

theorem exec_quietEnd (s : State) (dt n : Nat) : exec (.quietEnd dt n) s = execQuietEnd dt n s := rfl

/-- Settles O8, clause by clause: gates and quiet entries touch no register, since the credits that are brought up to date
before them are the fabric's. -/
theorem stageEngineTimedEffects : Obligations.StageEngineTimedEffects := by
  unfold Obligations.StageEngineTimedEffects
  refine ⟨?crossed, ?missed, ?outFall, ?flip, ?quietStart, ?quietEnd⟩
  case crossed =>
    intro s dt tick d htick hup
    have hrun : ¬ d.stg.lastTick.isNone = true := by simp [htick]
    refine completes_onAll (exec_snapshotDelivery ..) rfl ?_
    rw [if_neg hrun, if_pos ⟨rfl, hup⟩]
    exact ⟨rfl, rfl, rfl⟩
  case missed =>
    intro s dt tick crossed d htick hmiss
    have hrun : ¬ d.stg.lastTick.isNone = true := by simp [htick]
    have hcross : ¬ (crossed = true ∧ d.on HLK_STS_UP = true) := by obtain h | h := hmiss <;> simp [h]
    refine completes_onAll (exec_snapshotDelivery ..) rfl ?_
    rw [if_neg hrun, if_neg hcross]
    exact ⟨⟨rfl, rfl⟩, d.on_snapMiss⟩
  case outFall =>
    intro s dt tick d htick hover
    have hin : d.inStage (100 * d.fld STG_OUT_CFG_WIDTH) = true := by simp [Dev.inStage_of_lastTick htick, hover]
    refine completes_onDev (exec_stageOutFall ..) rfl ?_
    rw [if_pos hin]
    exact ⟨⟨rfl, rfl⟩, rfl⟩
  case flip =>
    intro s dt n off d hn hoff hstart hkind happlies
    refine completes_onDev (exec_gateListFlip ..) (decide_eq_true hn) ?_
    rw [hoff]
    dsimp only
    rw [if_pos ⟨hkind, happlies, hstart⟩]
    obtain ⟨f, g, hset, hg⟩ := d.setGates_eq (d.gatePorts n) d.gridPhase off
    rw [hset]
    exact ⟨⟨rfl, rfl⟩, rfl, fun p hp => (hg p).trans (if_pos hp)⟩
  case quietStart =>
    intro s dt n off d hn hoff hstart hoff' hkind happlies
    refine completes_onDev (exec_quietStart ..) (decide_eq_true hn) ?_
    rw [hoff]
    dsimp only
    rw [if_pos ⟨hkind, happlies, hstart, hoff'⟩]
    obtain ⟨f, hf⟩ := d.shapers_eq (List.range 16)
    rw [hf]
    exact ⟨⟨rfl, rfl⟩, rfl, mem_tput_terase ..⟩
  case quietEnd =>
    intro s dt n d hn
    refine completes_onDev (exec_quietEnd ..) (decide_eq_true hn) ?_
    obtain ⟨f, hf⟩ := d.shapers_eq (List.range 16)
    rw [hf]
    have hkept : ∀ x : Nat × Nat, (x.1 ≠ n || decide (d.domNs < x.2)) = true ↔ (x.1 = n → d.domNs < x.2) := by
      intro x
      simp [imp_iff_not_or]
    exact ⟨⟨rfl, rfl⟩, rfl, fun x => List.mem_filter.trans (and_congr_right fun _ => hkept x)⟩

end Sys2Proof.Machine
end

section
/-! PROOFS. What faults, Guard restarts and the drag-shoe states of a coach leave of the tandem pairs: their part of the
state, and the registers of the TAN window. -/

namespace Sys2Proof.Machine

open R

/-! ### The tandem pairs in the state -/

/-- The tandem pairs' part of the state, with the registers of the TAN window (R496). -/
def Dev.pairPart (d : Dev) : TanSt × (Nat → Nat) := (d.tan, fun b => if b / 0x10000 = 0x4006 then d.rn b else 0)

theorem Dev.pairPart_eq {d e : Dev} (ht : e.tan = d.tan) (hr : ∀ b, b / 0x10000 = 0x4006 → e.rn b = d.rn b) :
    e.pairPart = d.pairPart := by
  refine Prod.ext ht (funext fun b => ?_)
  dsimp only [Dev.pairPart]
  split
  next hb => exact hr b hb
  next => rfl

theorem Dev.tan_of_pairPart {d e : Dev} (h : e.pairPart = d.pairPart) : e.tan = d.tan := congrArg Prod.fst h

theorem Dev.rn_of_pairPart {d e : Dev} {b : Nat} (h : e.pairPart = d.pairPart) (hb : b / 0x10000 = 0x4006) :
    e.rn b = d.rn b := by
  simpa [Dev.pairPart, hb] using congrFun (congrArg Prod.snd h) b

theorem quiet_of_tanWindow {b : Nat} (h : b / 0x10000 = 0x4006) : quiet b := by
  unfold quiet calm; omega

theorem Dev.pairPart_wr (d : Dev) {a : Nat} (v : Nat) (h : a / 0x10000 ≠ 0x4006) : (d.wr a v).pairPart = d.pairPart :=
  Dev.pairPart_eq rfl fun _ hb => d.rn_wr_ne v (by rintro rfl; exact h hb)

theorem Dev.pairPart_put (d : Dev) {f : Fld} (v : Nat) (h : f.addr / 0x10000 ≠ 0x4006) :
    (d.put f v).pairPart = d.pairPart := d.pairPart_wr _ h

theorem Dev.pairPart_set (d : Dev) {f : Fld} (h : f.addr / 0x10000 ≠ 0x4006) : (d.set f).pairPart = d.pairPart :=
  d.pairPart_put _ h

theorem Dev.pairPart_clr (d : Dev) {f : Fld} (h : f.addr / 0x10000 ≠ 0x4006) : (d.clr f).pairPart = d.pairPart :=
  d.pairPart_put _ h

theorem Dev.pairPart_bump (d : Dev) {a : Nat} (h : a / 0x10000 ≠ 0x4006) : (d.bump a).pairPart = d.pairPart :=
  d.pairPart_wr _ h

theorem Dev.pairPart_raiseIf (d : Dev) (en : Fld) {src : Nat} (hs : src < 512) :
    (d.raiseIf en src).pairPart = d.pairPart :=
  Dev.pairPart_eq (d.raiseIf_tan en src) fun _ hb => d.rn_raiseIf en hs (quiet_of_tanWindow hb).1

theorem Dev.pairPart_post (d : Dev) (block code sev owner inst : Nat) (data : List Nat) :
    (d.post block code sev owner inst data).pairPart = d.pairPart :=
  Dev.pairPart_eq (d.post_tan ..) fun _ hb => d.rn_post (quiet_of_tanWindow hb).1

theorem Dev.pairPart_postOnce (d : Dev) (block code sev owner inst : Nat) (data : List Nat) (c : Option Nat) :
    (d.postOnce block code sev owner inst data c).pairPart = d.pairPart :=
  Dev.pairPart_eq (congrArg Dev.tan (d.rest_postOnce ..) :) fun _ _ => d.rn_postOnce ..

/-- A change made under a condition keeps the pairs where it keeps them whenever it is made. -/
theorem Dev.pairPart_ite (f : Dev → Dev) (h : ∀ e, (f e).pairPart = e.pairPart) (c : Prop) [Decidable c] (e : Dev) :
    (if c then f e else e).pairPart = e.pairPart := by
  split
  · exact h e
  · rfl

/-! ### A Guard restart (R343) -/

theorem Dev.pairPart_clearGuardHalf (d : Dev) {k : Nat} (hk : k < 12) : (d.clearGuardHalf k).pairPart = d.pairPart := by
  unfold Dev.clearGuardHalf
  dsimp only
  rw [Dev.pairPart_wr _ _ (by simp only [IRQ_LC_STS]; omega), Dev.pairPart_wr _ _ (by simp only [IRQ_LC_PMR]; omega),
    Dev.pairPart_wr _ _ (by simp only [IRQ_LC_CLAIM]; omega)]
  rfl

theorem Dev.clearGuardHalf_tan (d : Dev) (k : Nat) : (d.clearGuardHalf k).tan = d.tan := rfl

theorem Dev.pairPart_updInWindow (d : Dev) {o : Nat} (ho : o ≤ 8) : (d.updInWindow o).pairPart = d.pairPart := by
  unfold Dev.updInWindow
  refine d.pairPart_put _ ?_
  split
  · simp only [STG_CSTS_IN_WINDOW, STG_CSTS]; omega
  · decide

theorem Dev.pairPart_dropWins (d : Dev) {o : Nat} (ho : o ≤ 8) (p : Win → Bool) : (d.dropWins o p).pairPart = d.pairPart :=
  Dev.pairPart_updInWindow _ ho

theorem Dev.dropWins_tan (d : Dev) (o : Nat) (p : Win → Bool) : (d.dropWins o p).tan = d.tan := rfl

theorem Dev.pairPart_clearQueueRegs (d : Dev) (c n : Nat) : (d.clearQueueRegs c n).pairPart = d.pairPart := by
  unfold Dev.clearQueueRegs
  rw [Dev.pairPart_clr _ (by simp only [CQ_GRP_STS]; omega), Dev.pairPart_wr _ _ (by simp only [CQ_BUDGET_LEFT]; omega),
    Dev.pairPart_wr _ _ (by simp only [CQ_STS]; omega), Dev.pairPart_wr _ _ (by simp only [CQ_TAIL]; omega),
    Dev.pairPart_wr _ _ (by simp only [CQ_HEAD]; omega)]

theorem Dev.pairPart_sampleDrop (d : Dev) (k : Nat) : (d.sampleDrop k).pairPart = d.pairPart := by
  have hsts : ∀ j, (⟨OUTR_STS, j, j⟩ : Fld).addr / 0x10000 ≠ 0x4006 := fun _ => (by decide : OUTR_STS / 0x10000 ≠ 0x4006)
  unfold Dev.sampleDrop
  split
  · rfl
  · dsimp only
    rw [Dev.pairPart_postOnce, Dev.pairPart_raiseIf _ _ (by decide), Dev.pairPart_set _ (hsts _),
      Dev.pairPart_bump _ (by simp only [OUTR_DEST_DROP_CNT]; omega), Dev.pairPart_ite _ fun e => e.pairPart_set (hsts _)]

theorem Dev.pairPart_dropWaiting (d : Dev) (gone : Option Nat → Bool) : (d.dropWaiting gone).pairPart = d.pairPart := by
  unfold Dev.dropWaiting
  refine Dev.each_keeps Dev.pairPart _ (fun s d => ?_) d _
  rw [Dev.pairPart_sampleDrop]
  rfl

theorem Dev.pairPart_clearQueues (d : Dev) (c : Nat) (ns : List Nat) : (d.clearQueues c ns).pairPart = d.pairPart := by
  unfold Dev.clearQueues
  exact (Dev.pairPart_dropWaiting ..).trans (Dev.each_keeps Dev.pairPart _ (fun n d => d.pairPart_clearQueueRegs c n) _ ns)

theorem Dev.pairPart_setTow (d : Dev) (st : Nat) : (d.setTow st).pairPart = d.pairPart := by
  unfold Dev.setTow
  split
  · rfl
  · rw [Dev.pairPart_raiseIf _ _ (by decide), Dev.pairPart_put _ _ (by decide), Dev.pairPart_put _ _ (by decide),
      Dev.pairPart_put _ _ (by decide)]

theorem Dev.pairPart_towOwnerReset (d : Dev) (o : Nat) : (d.towOwnerReset o).pairPart = d.pairPart := by
  unfold Dev.towOwnerReset
  split
  · rw [Dev.pairPart_post, Dev.pairPart_setTow]
  · rfl

theorem Dev.pairPart_guardRestart (d : Dev) {k : Nat} (hk : k < 12) : (d.guardRestart k).pairPart = d.pairPart := by
  unfold Dev.guardRestart
  have hg : MAN_CORE_GINFO k / 0x10000 ≠ 0x4006 := by simp only [MAN_CORE_GINFO]; omega
  have hbefore : ∀ (d : Dev) (p : Win → Bool) (ns : List Nat),
      (((((d.clearGuardHalf k).dropWins 8 p).clr STG_GSTS_OVR_CNT_OVF).clearQueues 8 ns).towOwnerReset 8).pairPart =
        d.pairPart := by
    intro d p ns
    rw [Dev.pairPart_towOwnerReset, Dev.pairPart_clearQueues, Dev.pairPart_clr _ (by decide), Dev.pairPart_dropWins _ le_rfl,
      Dev.pairPart_clearGuardHalf _ hk]
  dsimp only
  rw [Dev.pairPart_set _ hg]
  split
  · exact hbefore ..
  · rw [Dev.pairPart_clr _ hg]; exact hbefore ..

/-- On whichever core it is, a Guard restart leaves the pairs' part of the state. -/
theorem Dev.guardRestart_tan (d : Dev) (k : Nat) : (d.guardRestart k).tan = d.tan := by
  unfold Dev.guardRestart
  have hbefore : ∀ (d : Dev) (p : Win → Bool) (ns : List Nat),
      (((((d.clearGuardHalf k).dropWins 8 p).clr STG_GSTS_OVR_CNT_OVF).clearQueues 8 ns).towOwnerReset 8).tan = d.tan := by
    intro d p ns
    rw [Dev.tan_of_pairPart (Dev.pairPart_towOwnerReset ..), Dev.tan_of_pairPart (Dev.pairPart_clearQueues ..), Dev.clr_tan,
      Dev.dropWins_tan, Dev.clearGuardHalf_tan]
  dsimp only
  rw [Dev.set_tan]
  split
  · exact hbefore ..
  · rw [Dev.clr_tan]; exact hbefore ..

/-! ### Faults (R444) -/

theorem Dev.pairPart_startCoachReset (d : Dev) (c cause : Nat) : (d.startCoachReset c cause).pairPart = d.pairPart := by
  unfold Dev.startCoachReset
  split <;> rfl

theorem Dev.pairPart_pin (d : Dev) {f : Fld} (which : Nat) (high : Bool) (hf : f.addr = 0x40010008) :
    (d.pin f which high).pairPart = d.pairPart :=
  Dev.pairPart_eq (congrArg Dev.tan (d.rest_pin f which high) :) fun _ hb => d.rn_pin hf (quiet_of_tanWindow hb).1

/-- Severity 2: the reset of the owner, unless a rule defers it, comes behind counts and pins. -/
theorem Dev.fault2_eq (d : Dev) (owner : Nat) (o : FaultOpt) : ∃ e k, e.pairPart = d.pairPart ∧
    d.fault2 owner o = if o.deferred then e else if owner < 8 then e.faultReset owner o.cause else e.guardRestart k := by
  have hcount : ((d.bump (FRM_CNT 2)).raiseIf FRM_INT_EN_FAULT 2).pairPart = d.pairPart := by
    rw [Dev.pairPart_raiseIf _ _ (by decide), Dev.pairPart_bump _ (by decide)]
  unfold Dev.fault2
  dsimp only
  refine ⟨_, _, ?_, rfl⟩
  split
  · rw [Dev.pairPart_pin _ _ _ (by decide), hcount]
  · exact hcount

theorem Dev.pairPart_faultHead (d : Dev) (sev : Nat) :
    ((d.pend sev).when (1 ≤ sev) (·.tallyD 0x89 1)).pairPart = d.pairPart :=
  Dev.pairPart_eq (congrArg Dev.tan (Dev.when_keeps Dev.rest _ _ (fun d => Dev.rest_tallyD d _ _) _ |>.trans (d.rest_pend sev)) :)
    fun _ hb => d.rn_faultHead (quiet_of_tanWindow hb).1

/-- A fault of severity 2, while the Beyvo die runs and while it is down. -/
theorem Dev.fault_sev2_eq (d : Dev) (block code owner : Nat) (o : FaultOpt) : ∃ e, e.pairPart = d.pairPart ∧
    (d.fault 2 block code owner o = e.fault2 owner o ∨ d.fault 2 block code owner o = e) := by
  unfold Dev.fault
  split
  · exact ⟨_, d.pairPart_faultHead 2, .inl rfl⟩
  · refine ⟨_, ?_, .inr rfl⟩
    have hpin : ∀ (e : Dev) (c : Bool) (f : Fld) (w : Nat) (x : Bool), f.addr = 0x40010008 →
        (e.when c (fun d => d.pin f w x)).pairPart = e.pairPart :=
      fun e c f w x hf => Dev.when_keeps Dev.pairPart _ c (fun d => d.pairPart_pin w x hf) e
    exact (hpin _ _ _ _ _ (by decide)).trans (hpin _ _ _ _ _ (by decide))

/-- A fault leaves the pairs' part of the state, also one of severity 2 that restarts Guard. -/
theorem Dev.fault_keeps_tan (d : Dev) (sev block code owner : Nat) (o : FaultOpt) :
    (d.fault sev block code owner o).tan = d.tan := by
  by_cases h : owner < 8 ∨ sev ≠ 2
  · exact d.fault_tan sev block code owner o h
  · obtain rfl : sev = 2 := by omega
    obtain ⟨e, he, h2 | h2⟩ := d.fault_sev2_eq block code owner o
    · obtain ⟨f, k, hf, h3⟩ := e.fault2_eq owner o
      rw [h2, h3, ← Dev.tan_of_pairPart he, ← Dev.tan_of_pairPart hf, if_neg (show ¬ owner < 8 by omega)]
      split
      · rfl
      · exact f.guardRestart_tan k
    · rw [h2, Dev.tan_of_pairPart he]

/-- A fault whose coach reset a rule defers leaves the pairs and their registers (R49, R359). -/
theorem Dev.pairPart_fault_deferred (d : Dev) (sev block code owner : Nat) {o : FaultOpt} (ho : o.deferred = true) :
    (d.fault sev block code owner o).pairPart = d.pairPart := by
  by_cases h : owner < 8 ∨ sev ≠ 2
  · exact Dev.pairPart_eq (d.fault_tan sev block code owner o h) fun _ hb => d.rn_fault h (quiet_of_tanWindow hb)
  · obtain rfl : sev = 2 := by omega
    obtain ⟨e, he, h2 | h2⟩ := d.fault_sev2_eq block code owner o
    · obtain ⟨f, k, hf, h3⟩ := e.fault2_eq owner o
      rw [h2, h3, if_pos ho, hf, he]
    · rw [h2, he]

theorem Dev.pairPart_faultPost_deferred (d : Dev) (sev block code owner inst : Nat) (data : List Nat) {o : FaultOpt}
    (ho : o.deferred = true) : (d.faultPost sev block code owner inst data o).pairPart = d.pairPart := by
  unfold Dev.faultPost
  rw [Dev.pairPart_fault_deferred _ _ _ _ _ ho, Dev.pairPart_post]

/-! ### The reset of a pair (R356) -/

/-- The pairs' part of the state behind the reset of pair `p`. -/
def TanSt.afterReset (t : TanSt) (p now : Nat) : TanSt :=
  { t with
    latent := terase p t.latent, latentAt := terase p t.latentAt, held := insertNat p t.held, foldAcc := terase p t.foldAcc,
    foldSince := terase p t.foldSince, resetAt := tset 0 (now + 1) p t.resetAt }

theorem Dev.pairPart_pairPost (d : Dev) (p code sev : Nat) (data : List Nat) :
    (d.pairPost p code sev data).pairPart = d.pairPart := Dev.pairPart_post ..

/-- Behind the change of the pair itself, its reset reaches the coach, the leader's Guard half and the logbook. -/
theorem Dev.pairPart_pairReset (d : Dev) {p : Nat} (hp : p < 4) (cause : Nat) :
    (d.pairReset p cause).pairPart =
      ({ (d.clr (TAN_PAIR_STS_LATENT_PEND p)).put (TAN_PAIR_STS_STATE p) (if d.tan.degraded.contains p then 2 else 3) with
        tan := d.tan.afterReset p d.up } : Dev).pairPart := by
  unfold Dev.pairReset
  have hcoach : ∀ (e : Dev) (f : FrmSt) (o cause : Nat),
      (if o < 8 then ({ e with frm := f } : Dev).startCoachReset o cause else e).pairPart = e.pairPart := by
    intro e f o cause
    split
    · rw [Dev.pairPart_startCoachReset]; rfl
    · rfl
  dsimp only
  rw [Dev.pairPart_ite _ fun e => e.pairPart_pairPost p 0x0003 0 [], Dev.pairPart_guardRestart _ (by omega)]
  exact hcoach ..

theorem Dev.pairReset_tan (d : Dev) {p : Nat} (hp : p < 4) (cause : Nat) :
    (d.pairReset p cause).tan = d.tan.afterReset p d.up := Dev.tan_of_pairPart (d.pairPart_pairReset hp cause)

theorem Dev.pairReset_state (d : Dev) {p : Nat} (hp : p < 4) (cause : Nat) :
    (d.pairReset p cause).fld (TAN_PAIR_STS_STATE p) = if d.tan.degraded.contains p then 2 else 3 := by
  have hwin : (TAN_PAIR_STS_STATE p).addr / 0x10000 = 0x4006 := by simp only [TAN_PAIR_STS_STATE, TAN_PAIR_STS]; omega
  refine (Dev.fld_of_rn (Dev.rn_of_pairPart (d.pairPart_pairReset hp cause) hwin)).trans ?_
  refine (Dev.fld_put_self _ (TAN_PAIR_STS_STATE p) _ (Nat.zero_le 1) (Nat.le_of_ble_eq_true rfl)).trans ?_
  split <;> rfl

/-! ### The drag-shoe states of a coach (R362) -/

section Channel

variable (d : Dev) {i : Nat} (hi : i < 40)

theorem Dev.pairPart_modChan (i : Nat) (f : Chan → Chan) : (d.modChan i f).pairPart = d.pairPart := rfl

theorem Dev.pairPart_gates (i : Nat) : (d.gates i).pairPart = d.pairPart := by
  unfold Dev.gates
  split
  · rfl
  · exact d.pairPart_modChan ..

include hi

theorem chanSts_ne_tanWindow : CHAN_STS i / 0x10000 ≠ 0x4006 := by simp only [CHAN_STS]; omega

theorem Dev.pairPart_requestedOff : (d.requestedOff i).pairPart = d.pairPart := by
  have h : ((d.clr (CHAN_STS_RETRY i)).clr (CHAN_STS_SHED i)).pairPart = d.pairPart := by
    rw [Dev.pairPart_clr _ (chanSts_ne_tanWindow hi), Dev.pairPart_clr _ (chanSts_ne_tanWindow hi)]
  unfold Dev.requestedOff
  dsimp only
  split
  · exact (Dev.pairPart_clr _ (show HPS_SHED_LO / 0x10000 ≠ 0x4006 by decide)).trans h
  · exact (Dev.pairPart_clr _ (show HPS_SHED_HI / 0x10000 ≠ 0x4006 by decide)).trans h

theorem Dev.pairPart_turnOn (edge : Bool) : (d.turnOn i edge).pairPart = d.pairPart := by
  have hsts := chanSts_ne_tanWindow hi
  have hfresh : ∀ e : Dev, ((e.clr (CHAN_STS_SC i)).clr (CHAN_STS_OC i)).pairPart = e.pairPart := by
    intro e
    rw [Dev.pairPart_clr _ hsts, Dev.pairPart_clr _ hsts]
  unfold Dev.turnOn
  dsimp only
  rw [Dev.pairPart_modChan, Dev.pairPart_ite _ fun e => e.pairPart_set (f := CHAN_STS_INRUSH i) hsts,
    Dev.pairPart_ite _ hfresh, Dev.pairPart_set _ hsts]

theorem Dev.pairPart_turnOff (edge : Bool) : (d.turnOff i edge).pairPart = d.pairPart := by
  have hsts := chanSts_ne_tanWindow hi
  unfold Dev.turnOff
  dsimp only
  rw [Dev.pairPart_modChan]
  split
  · rw [Dev.pairPart_clr _ hsts]
  · rw [Dev.pairPart_clr _ hsts, Dev.pairPart_clr _ hsts]

theorem Dev.pairPart_updOut (edge : Bool) : (d.updOut i edge).pairPart = d.pairPart := by
  unfold Dev.updOut
  dsimp only
  rw [Dev.pairPart_gates]
  split
  · split
    · exact d.pairPart_turnOn hi edge
    · exact d.pairPart_turnOff hi edge
  · split
    · exact d.pairPart_turnOff hi false
    · rfl

theorem Dev.pairPart_reqChanged (old : Req) : (d.reqChanged i old).pairPart = d.pairPart := by
  have hblock : ∀ (c : Prop) [Decidable c] (e : Dev) (f : Chan → Chan),
      (if c then e else e.modChan i f).pairPart = e.pairPart := by
    intro c _ e f
    split
    · rfl
    · exact e.pairPart_modChan ..
  unfold Dev.reqChanged
  dsimp only
  rw [Dev.pairPart_updOut _ hi, Dev.pairPart_ite _ fun e => e.pairPart_requestedOff hi, hblock]
  split
  · exact d.pairPart_modChan ..
  · split
    · exact d.pairPart_modChan ..
    · rfl

theorem Dev.pairPart_dropPending : (d.dropPending i).pairPart = d.pairPart := by
  have hcmd : CHAN_CMD_STS i / 0x10000 ≠ 0x4006 := by simp only [CHAN_CMD_STS]; omega
  unfold Dev.dropPending Dev.updPend
  split <;> exact Dev.pairPart_wr _ _ hcmd

theorem Dev.pairPart_dsChan (coach : Bool) : (d.dsChan i coach).pairPart = d.pairPart := by
  have hsts := chanSts_ne_tanWindow hi
  have hevt : CHAN_PEVT i / 0x10000 ≠ 0x4006 := by simp only [CHAN_PEVT]; omega
  have hbefore : (((d.dropPending i).set (CHAN_STS_DRAGSHOE i)).chanEvt (CHAN_PEVT_DRAGSHOE i) (CHAN_PINT_EN_DRAGSHOE i)
      i).pairPart = d.pairPart := by
    unfold Dev.chanEvt
    rw [Dev.pairPart_raiseIf _ _ (by omega), Dev.pairPart_set _ hevt, Dev.pairPart_set _ hsts, Dev.pairPart_dropPending _ hi]
  unfold Dev.dsChan
  dsimp only
  rw [Dev.pairPart_reqChanged _ hi, Dev.pairPart_ite _ fun e => e.pairPart_requestedOff hi]
  split
  · exact (Dev.pairPart_modChan ..).trans hbefore
  · exact (Dev.pairPart_modChan ..).trans ((Dev.pairPart_clr _ hsts).trans hbefore)

end Channel

theorem Dev.pairPart_applyDsCoach (d : Dev) (c inst : Nat) : (d.applyDsCoach c inst).pairPart = d.pairPart := by
  unfold Dev.applyDsCoach
  rw [Dev.pairPart_post]
  refine Dev.each_keeps_mem Dev.pairPart _ d _ fun i hi e => e.pairPart_dsChan ?_ true
  simp only [Dev.coachChans, Dev.outputs, List.mem_filter, List.mem_range] at hi
  exact hi.1.1

end Sys2Proof.Machine
end

section
/-! PROOFS. Windows: their start, their DONE and their end (R47–R50). -/

namespace Sys2Proof.Machine

open R

/-- The state with another list of windows. -/
def Dev.withWins (d : Dev) (ws : List Win) : Dev := { d with stg := { d.stg with wins := ws } }

/-! ### The start of a window (R47, R50) -/

/-- The window that entry `n` opens in the stage of the tick at `tick`. -/
def Dev.newWin (d : Dev) (n tick : Nat) : Win :=
  { entry := n, owner := d.fld (STG_TT_CTL_OWNER n), core := d.fld (STG_TT_CTL_CORE n),
    endAt := tick + d.fld (STG_TT_START_NS n) + d.fld (STG_TT_LEN_NS n), isOpen := true, awaits := true }

@[simp] theorem Dev.dispatch_stg (d : Dev) (core : Nat) (guard : Bool) : (d.dispatch core guard).stg = d.stg := by
  unfold Dev.dispatch
  split <;> rfl

section Start

variable {d : Dev} {n tick : Nat} (hkind : d.ttKind n = 1 ∨ d.ttKind n = 2) (happlies : d.ttApplies n d.phase = true)
  (htick : d.stg.lastTick = some tick)

include hkind happlies htick

theorem Dev.windowStart_runs :
    ¬(d.ttKind n ≠ 1 ∧ d.ttKind n ≠ 2 ∨ (!d.ttApplies n d.phase) = true ∨ d.stg.lastTick.isNone = true) := by
  rintro (⟨h1, h2⟩ | h | h)
  · exact hkind.elim h1 h2
  · simp [happlies] at h
  · simp [htick] at h

theorem Dev.windowStart_opens (hskip : d.skipped (d.fld (STG_TT_CTL_OWNER n)) = false) :
    let o := d.fld (STG_TT_CTL_OWNER n)
    let e := d.withWins (d.newWin n tick :: d.stg.wins)
    d.windowStart n = (((((e.put ⟨winSts o, 15, 8⟩ n).clr ⟨winSts o, 4, 4⟩).clr ⟨winSts o, 2, 2⟩).clr
      ⟨winSts o, 1, 1⟩).updInWindow o).dispatch (d.fld (STG_TT_CTL_CORE n)) (d.ttKind n == 2) := by
  have hget : d.stg.lastTick.getD 0 = tick := by rw [htick]; rfl
  unfold Dev.windowStart
  dsimp only
  rw [if_neg (Dev.windowStart_runs hkind happlies htick), if_neg (by simp [hskip]), hget]
  rfl

theorem Dev.windowStart_skips (hskip : d.skipped (d.fld (STG_TT_CTL_OWNER n)) = true) :
    let o := d.fld (STG_TT_CTL_OWNER n)
    d.windowStart n = ((d.put ⟨winSts o, 15, 8⟩ n).set ⟨winSts o, 4, 4⟩).clr ⟨winSts o, 1, 1⟩ := by
  unfold Dev.windowStart
  dsimp only
  rw [if_neg (Dev.windowStart_runs hkind happlies htick), if_pos hskip]

/-- The window that starts is the newest. -/
theorem Dev.windowStart_wins (hskip : d.skipped (d.fld (STG_TT_CTL_OWNER n)) = false) :
    (d.windowStart n).stg.wins = d.newWin n tick :: d.stg.wins := by
  rw [Dev.windowStart_opens hkind happlies htick hskip, Dev.dispatch_stg]
  rfl

end Start

/-! ### DONE (R48) -/

theorem modifyFirst_append {α : Type} {p : α → Bool} (f : α → α) {l r : List α} {x : α} (hl : ∀ y ∈ l, p y = false)
    (hx : p x = true) : modifyFirst p f (l ++ x :: r) = l ++ f x :: r := by
  induction l with
  | nil => simp [modifyFirst, hx]
  | cons y l ih => simp [modifyFirst, hl y (by simp), ih fun z hz => hl z (by simp [hz])]

/-- The windows behind a DONE that takes window `w` off: those that are closed and await none go. -/
def winsAfterDone (newer : List Win) (w : Win) (rest : List Win) : List Win :=
  (newer ++ ({ w with awaits := false } : Win) :: rest).filter (fun x => x.isOpen || x.awaits)

section Done

variable {d : Dev} {o v : Nat} (hdone : bit 0 v = true)
  (hends : ∀ x ∈ d.stg.wins, x.owner = o → x.isOpen = true → d.domNs ≤ x.endAt)

include hends in
theorem Dev.endPassed_eq_self : d.endPassed o = d := by
  have hnone : d.stg.wins.filter (fun w => w.owner == o && w.isOpen && decide (w.endAt < d.domNs)) = [] := by
    refine List.filter_eq_nil_iff.mpr fun x hx => ?_
    simp only [Bool.and_eq_true, beq_iff_eq, decide_eq_true_eq, not_and, not_lt, and_imp]
    exact hends x hx
  unfold Dev.endPassed
  rw [hnone]
  rfl

include hdone hends

/-- A DONE takes the owner's newest window that awaits one off: in time while the window is open, else late. -/
theorem Dev.stgDone_takes {w : Win} {newer rest : List Win} (hwins : d.stg.wins = newer ++ w :: rest)
    (hnewer : ∀ x ∈ newer, x.owner = o → x.awaits = false) (howner : w.owner = o) (hawaits : w.awaits = true) :
    let e := d.withWins (winsAfterDone newer w rest)
    d.stgDone o v = if w.isOpen then (if e.fld ⟨winSts o, 15, 8⟩ = w.entry then e.set ⟨winSts o, 1, 1⟩ else e)
      else (e.set ⟨winSts o, 2, 2⟩).post 0x21 0x0002 0 o w.entry := by
  have hfind : d.stg.wins.find? (fun w => w.owner == o && w.awaits) = some w := by
    rw [hwins, List.find?_append, List.find?_eq_none.mpr]
    · simp [howner, hawaits]
    · intro x hx
      simp only [Bool.and_eq_true, beq_iff_eq, not_and, Bool.not_eq_true]
      exact hnewer x hx
  have hne : ∀ x ∈ newer, (x == w) = false := by
    intro x hx
    rw [beq_eq_false_iff_ne]
    rintro rfl
    simp [hnewer x hx howner] at hawaits
  unfold Dev.stgDone
  rw [if_neg (by simp [hdone]), Dev.endPassed_eq_self hends]
  dsimp only
  rw [hfind, hwins]
  dsimp only
  rw [modifyFirst_append _ hne (by simp)]
  rfl

/-- A DONE with no window awaiting one is recorded unless a window of the owner is open. -/
theorem Dev.stgDone_stray (hnone : ∀ x ∈ d.stg.wins, x.owner = o → x.awaits = false) :
    d.stgDone o v = if d.stg.wins.any (fun x => x.owner == o && x.isOpen) then d else d.post 0x21 0x0008 0 o o := by
  have hfind : d.stg.wins.find? (fun w => w.owner == o && w.awaits) = none := by
    refine List.find?_eq_none.mpr fun x hx => ?_
    simp only [Bool.and_eq_true, beq_iff_eq, not_and, Bool.not_eq_true]
    exact hnone x hx
  unfold Dev.stgDone
  rw [if_neg (by simp [hdone]), Dev.endPassed_eq_self hends]
  dsimp only
  rw [hfind]

end Done

/-! ### The end of a window (R49) -/

theorem Dev.overrun_tan (d : Dev) (w : Win) : (d.overrun w).tan = d.tan := by
  unfold Dev.overrun Dev.countOverrun
  dsimp only
  rw [Dev.faultPost, Dev.fault_keeps_tan, Dev.post_tan, Dev.bumpF_tan]
  split <;> simp

/-- The state in which the newest window is closed. -/
def Dev.newestClosed (d : Dev) (w : Win) (rest : List Win) : Dev :=
  (d.withWins ((({ w with isOpen := false } : Win) :: rest).filter (fun x => x.isOpen || x.awaits))).updInWindow w.owner

section End

variable {d : Dev} {n : Nat} {w : Win} {rest : List Win} (hwins : d.stg.wins = w :: rest) (hentry : w.entry = n)
  (hopen : w.isOpen = true) (hrest : ∀ x ∈ rest, x.entry = n → x.isOpen = false)

include hwins hentry hopen hrest

theorem Dev.windowEnd_eq : d.windowEnd n =
    if w.awaits = true ∧ (!(decide (w.owner < 8) && d.coachDown w.owner)) = true then (d.newestClosed w rest).overrun w
    else d.newestClosed w rest := by
  have hnone : rest.filter (fun w => w.entry == n && w.isOpen) = [] := by
    refine List.filter_eq_nil_iff.mpr fun x hx => ?_
    simp only [Bool.and_eq_true, beq_iff_eq, not_and, Bool.not_eq_true]
    exact hrest x hx
  have hold : d.oldestOpen n = some w := by
    rw [Dev.oldestOpen, hwins, List.filter_cons_of_pos (by simp [hentry, hopen]), hnone]
    rfl
  unfold Dev.windowEnd
  rw [hold, hwins]
  simp only [modifyFirst, beq_self_eq_true, if_true]
  rfl

theorem Dev.windowEnd_tan : (d.windowEnd n).tan = d.tan := by
  rw [Dev.windowEnd_eq hwins hentry hopen hrest]
  split
  · exact Dev.overrun_tan ..
  · rfl

end End

/-! ### The commands -/

theorem exec_windowStart (s : State) (dt n : Nat) : exec (.windowStart dt n) s = execWindowStart dt n s := rfl

theorem exec_stgDone (s : State) (dt : Nat) (a : Sys2Proof.Acc) (c v : Nat) :
    exec (.stgDone dt a c v) s = execStgDone dt a c v s := rfl

theorem exec_stgGdone (s : State) (dt : Nat) (a : Sys2Proof.Acc) (v : Nat) :
    exec (.stgGdone dt a v) s = execStgGdone dt a v s := rfl

theorem exec_windowEnd (s : State) (dt n : Nat) : exec (.windowEnd dt n) s = execWindowEnd dt n s := rfl

/-- A window with a start offset starts once its instant has come. -/
theorem exec_windowStart_due {s : State} {dt n tick : Nat} (hn : n < 256)
    (hoff : (s.now dt).fld (STG_TT_START_NS n) ≠ 0) (htick : (s.now dt).stg.lastTick = some tick)
    (hdue : tick + (s.now dt).fld (STG_TT_START_NS n) ≤ (s.now dt).domNs) :
    exec (.windowStart dt n) s = .next (s.becomes ((s.now dt).windowStart n)) := by
  have hin : (s.now dt).inStage ((s.now dt).fld (STG_TT_START_NS n)) = true := by
    simp [Dev.inStage_of_lastTick htick, hdue]
  have hruns : ¬((s.now dt).fld (STG_TT_START_NS n) = 0 ∨ (!(s.now dt).inStage ((s.now dt).fld (STG_TT_START_NS n))) = true) := by
    simp [hoff, hin]
  rw [exec_windowStart, execWindowStart, State.onDev, if_pos (decide_eq_true hn), if_neg hruns]

theorem exec_stgDone_pass {s : State} {dt c v : Nat} {a : Sys2Proof.Acc} (hc : c < 8)
    (hmay : (s.now dt).mayWrite s.mem a (STG_DONE c)) :
    exec (.stgDone dt a c v) s = .next (s.becomes ((s.now dt).stgDone c v)) := by
  rw [exec_stgDone, execStgDone, State.onDevM, if_pos (decide_eq_true hc), Dev.regWrite_pass hmay]

theorem exec_stgGdone_pass {s : State} {dt v : Nat} {a : Sys2Proof.Acc} (hmay : (s.now dt).mayWrite s.mem a STG_GDONE) :
    exec (.stgGdone dt a v) s = .next (s.becomes ((s.now dt).stgDone 8 v)) := by
  rw [exec_stgGdone, execStgGdone, State.onDevM, if_pos rfl, Dev.regWrite_pass hmay]

/-- The newest window ends at its end, with no deferred pair reset to perform. -/
theorem exec_windowEnd_newest {s : State} {dt n : Nat} {w : Win} {rest : List Win} (hn : n < 256)
    (hwins : (s.now dt).stg.wins = w :: rest) (hentry : w.entry = n) (hopen : w.isOpen = true)
    (hend : w.endAt ≤ (s.now dt).domNs) (hrest : ∀ x ∈ rest, x.entry = n → x.isOpen = false)
    (hlatent : (s.now dt).tan.latent = []) :
    exec (.windowEnd dt n) s = .next (s.becomes ((s.now dt).windowEnd n)) := by
  have hany : (s.now dt).stg.wins.any (fun w => w.entry == n && w.isOpen && decide (w.endAt ≤ (s.now dt).domNs)) = true := by
    simp [hwins, hentry, hopen, hend]
  have hnone : ((s.now dt).windowEnd n).tan.latent = [] := by rw [Dev.windowEnd_tan hwins hentry hopen hrest, hlatent]
  rw [exec_windowEnd, execWindowEnd, State.onDev, if_pos (decide_eq_true hn)]
  dsimp only
  rw [if_pos hany, hnone]
  exact congrArg (fun d => Host.Outcome.next (s.becomes d)) (ite_self _)

theorem winSts_coach {c : Nat} (hc : c < 8) : winSts c = STG_CSTS c := if_pos hc

/-- Settles O7, by what a start, a DONE and an end do to the list of windows. -/
theorem windowsOpenAndCloseByTheirTimetable : Obligations.WindowsOpenAndCloseByTheirTimetable := by
  unfold Obligations.WindowsOpenAndCloseByTheirTimetable
  refine ⟨?opens, ?skipped, ?done, ?gdone, ?stray, ?gstray, ?ends⟩
  case opens =>
    intro s dt n tick d o core w e hn hoff htick hdue hkind happlies hskip
    rw [exec_windowStart_due hn hoff htick hdue, Dev.windowStart_opens hkind happlies htick hskip]
    rfl
  case skipped =>
    intro s dt n tick d o hn hoff htick hdue hkind happlies hskip
    rw [exec_windowStart_due hn hoff htick hdue, Dev.windowStart_skips hkind happlies htick hskip]
  case done =>
    intro s dt c v a w newer rest d e hc hmay hdone hwins hnewer howner hawaits hends
    rw [exec_stgDone_pass hc hmay, Dev.stgDone_takes hdone hends hwins hnewer howner hawaits, winSts_coach hc]
    rfl
  case gdone =>
    intro s dt v a w newer rest d e hmay hdone hwins hnewer howner hawaits hends
    rw [exec_stgGdone_pass hmay, Dev.stgDone_takes hdone hends hwins hnewer howner hawaits]
    rfl
  case stray =>
    intro s dt c v a d hc hmay hdone hnone hends
    rw [exec_stgDone_pass hc hmay, Dev.stgDone_stray hdone hends hnone]
  case gstray =>
    intro s dt v a d hmay hdone hnone hends
    rw [exec_stgGdone_pass hmay, Dev.stgDone_stray hdone hends hnone]
  case ends =>
    intro s dt n w rest d e hn hwins hentry hopen hend hrest hup hlatent
    rw [exec_windowEnd_newest hn hwins hentry hopen hend hrest hlatent, Dev.windowEnd_eq hwins hentry hopen hrest]
    have hnotdown : (!(decide (w.owner < 8) && d.coachDown w.owner)) = true := by
      by_cases h : w.owner < 8 <;> simp [h, hup]
    simp only [hnotdown, and_true]
    rfl

end Sys2Proof.Machine
end

section
/-! PROOFS. The stage tick: its steps in their order (R46), and what each of them does. -/

namespace Sys2Proof.Machine

open R

/-! ### Step 1: the snapshot (R51) -/

theorem Dev.stageMean_stg (d : Dev) (i : Nat) : (d.stageMean i).stg = d.stg := rfl

theorem Dev.modLio_stg (d : Dev) (n : Nat) (f : Lio → Lio) : (d.modLio n f).stg = d.stg := rfl

/-- The snapshot is latched of the device as the tick finds it: counts and means that start anew leave it. -/
theorem Dev.tickLatch_chanLatch (d : Dev) (t : Nat) : (d.tickLatch t).stg.chanLatch = d.latchChans := by
  have hmeans : ∀ e : Dev, (e.each (List.range 40) (fun i d => d.stageMean i)).stg = e.stg :=
    fun e => Dev.each_keeps Dev.stg (fun i d => d.stageMean i) (fun i d => d.stageMean_stg i) e _
  have hcounts : ∀ (e : Dev) (f : Nat → Dev → Lio → Lio),
      (e.each (List.range 32) (fun n d => d.modLio n (f n d))).stg = e.stg :=
    fun e f => Dev.each_keeps Dev.stg (fun n d => d.modLio n (f n d)) (fun n d => d.modLio_stg n (f n d)) e _
  unfold Dev.tickLatch
  dsimp only
  rw [hmeans, hcounts _ fun n d l => { l with count := b2n (d.edgeAt n t) }]

/-! ### Step 2: deferred commands (R56) -/

theorem filter_range_eq_singleton {n i : Nat} (p : Nat → Bool) (hi : i < n) (hp : p i = true)
    (hother : ∀ j, j ≠ i → p j = false) : (List.range n).filter p = [i] := by
  have heq : (List.range n).filter p = (List.range n).filter (· == i) :=
    List.filter_congr fun j _ => by
      by_cases h : j = i
      · simp [h, hp]
      · simp [h, hother j h]
  rw [heq, List.filter_beq, List.count_eq_one_of_mem List.nodup_range (List.mem_range.mpr hi)]
  rfl

/-- The only pending command takes effect when it is due, and waits a tick less when it is not. -/
theorem Dev.applyDeferred_single {d : Dev} {i : Nat} {p : Deferred} (hi : i < 40) (hpend : (d.chan i).pend = [p])
    (hother : ∀ j, j ≠ i → (d.chan j).pend = []) :
    d.applyDeferred = if p.wait = 0 then ((d.modChan i fun c => { c with pend := [] }).updPend i).cmdEffect i p.op p.duty 0
      else (d.modChan i fun c => { c with pend := [{ p with wait := p.wait - 1 }] }).updPend i := by
  have hlist : (List.range 40).filter (fun i => decide ((d.chan i).pend ≠ [])) = [i] :=
    filter_range_eq_singleton _ hi (by simp [hpend]) fun j hj => by simp [hother j hj]
  unfold Dev.applyDeferred
  rw [hlist]
  by_cases hw : p.wait = 0
  · simp [Dev.each, hpend, hw]
  · simp [Dev.each, hpend, hw]

/-! ### Step 4: gates (R63) -/

/-- The entries whose flip comes with the tick itself. -/
def Dev.startFlips (d : Dev) : List Nat :=
  (List.range 256).filter (fun n => d.ttKind n == 4 && d.ttApplies n d.phase && d.fld (STG_TT_START_NS n) == 0)

theorem Dev.tickGates_later (d : Dev) :
    d.tickGates false = d.each d.startFlips (fun n d => d.setGates (d.gatePorts n) d.phase 0) := if_neg Bool.false_ne_true

/-- The flips of several entries, one after the other, change the fabric's credits and the gates alone, and set every gate
that one of them names. -/
theorem Dev.flips_eq (d : Dev) (l : List Nat) :
    ∃ f g, d.each l (fun n d => d.setGates (d.gatePorts n) d.phase 0) = { d with fab := f, stg := { d.stg with gates := g } } ∧
      ∀ p, tget 0xFF g p = if ∃ n ∈ l, p ∈ d.gatePorts n then d.gateAt p d.phase 0 else tget 0xFF d.stg.gates p := by
  induction l generalizing d with
  | nil => exact ⟨d.fab, d.stg.gates, rfl, fun p => by simp⟩
  | cons n l ih =>
    obtain ⟨f, g, hset, hg⟩ := d.setGates_eq (d.gatePorts n) d.phase 0
    obtain ⟨f', g', hrest, hg'⟩ := ih { d with fab := f, stg := { d.stg with gates := g } }
    refine ⟨f', g', ?_, fun p => (hg' p).trans ?_⟩
    · change (d.setGates (d.gatePorts n) d.phase 0).each l _ = _
      rw [hset, hrest]
    · change (if ∃ m ∈ l, p ∈ d.gatePorts m then d.gateAt p d.phase 0 else tget 0xFF g p) = _
      rw [hg p]
      by_cases hl : ∃ m ∈ l, p ∈ d.gatePorts m
      · rw [if_pos hl, if_pos (by obtain ⟨m, hm, hp⟩ := hl; exact ⟨m, List.mem_cons_of_mem _ hm, hp⟩)]
      · simp only [hl, if_false, List.exists_mem_cons_iff, or_false]

/-! ### Step 5: the stage number and STAGE_OUT (R36, R40) -/

/-- Step 5 writes the tick's time and RUNNING: the other registers of the window keep their values. -/
theorem Dev.fld_tickTime (d : Dev) (t : Nat) {f : Fld} (hlo : STG_TICK_LO ≠ f.addr) (hhi : STG_TICK_HI ≠ f.addr)
    (hsts : STG_STS ≠ f.addr) : ((d.wrPair STG_TICK_LO STG_TICK_HI t).set STG_STS_RUNNING).fld f = d.fld f :=
  (Dev.fld_set_ne _ _ _ hsts).trans (Dev.fld_of_rn (d.rn_wrPair_ne t hlo hhi))

theorem Dev.tickStage_stg (d : Dev) (t tick : Nat) : (d.tickStage t tick).stg = { d.stg with
    lastTick := some tick, nextTick := tick + d.fld STG_PERIOD_NS_NS, stepped := 0, realigned := false,
    outHigh := d.on STG_OUT_CFG_EN } := by
  unfold Dev.tickStage
  dsimp only
  rw [Dev.raiseIf_stg, Dev.fld_tickTime _ _ (by decide) (by decide) (by decide), Dev.on,
    Dev.fld_tickTime _ _ (by decide) (by decide) (by decide)]
  rfl

theorem Dev.on_tickStage_running (d : Dev) (t tick : Nat) : (d.tickStage t tick).on STG_STS_RUNNING = true :=
  (Dev.on_of_rn (Dev.rn_raiseIf _ _ (by decide) (by decide))).trans
    ((d.wrPair STG_TICK_LO STG_TICK_HI t).on_set STG_STS_RUNNING rfl (by decide))

/-! ### The tick -/

theorem exec_stageTick (s : State) (dt : Nat) : exec (.stageTick dt) s = execStageTick dt s := rfl

theorem exec_stageTick_due {s : State} {dt : Nat} (h : (s.now dt).boot.phase = .sealed ∧ (s.now dt).frm.beyvoUp = true ∧
      (s.now dt).fld SID_STS_STATE ≠ 3 ∧ (s.now dt).stg.nextTick ≤ (s.now dt).domNs) :
    exec (.stageTick dt) s = .next (s.becomesM ((s.now dt).tick s.mem).1 ((s.now dt).tick s.mem).2) := by
  rw [exec_stageTick, execStageTick, State.onAll, if_pos rfl, if_pos h]

/-- Settles O59: the order by the definition of the tick outside a commit window, the steps one by one. -/
theorem stageTickFollowsItsOrder : Obligations.StageTickFollowsItsOrder := by
  unfold Obligations.StageTickFollowsItsOrder
  refine ⟨?order, ?latch, ?deferred, ?slots, ?firstGates, ?gates, ?stage, ?windows⟩
  case order =>
    intro s dt d tick t a b c k x e f g hsealed hup hsid hdue
    have hruns : d.boot.phase = .sealed ∧ d.frm.beyvoUp = true ∧ d.fld SID_STS_STATE ≠ 3 ∧ d.stg.nextTick ≤ d.domNs :=
      ⟨hsealed, hup, by omega, hdue⟩
    have hgoes : ¬(d.fld SID_STS_STATE == 2) = true := by rw [beq_iff_eq]; omega
    have htick : d.tick s.mem = ((g.each ((List.range 256).filter (fun n => g.fld (STG_TT_START_NS n) == 0))
        (fun n d => d.windowStart n)).pwrmEval, x.2) := if_neg hgoes
    rw [exec_stageTick_due hruns, htick]
  case latch =>
    intro d t i hi
    rw [Dev.tickLatch_chanLatch]
    exact List.mem_map.mpr ⟨i, List.mem_range.mpr hi, rfl⟩
  case deferred =>
    intro d i p hi hpend hother
    exact Dev.applyDeferred_single hi hpend hother
  case slots =>
    intro d m t n hpassed hdue
    simp [Dev.tickSlots, hpassed, hdue]
  case firstGates =>
    intro d p hp
    obtain ⟨f, g, hset, hg⟩ := d.setGates_eq (List.range 48) d.phase 0
    rw [Dev.tickGates, if_pos rfl, hset]
    exact (hg p).trans (if_pos (List.mem_range.mpr hp))
  case gates =>
    intro d n p hn hkind happlies hstart hp
    have hmem : n ∈ d.startFlips := by simp [Dev.startFlips, hn, hkind, happlies, hstart]
    obtain ⟨f, g, hset, hg⟩ := d.flips_eq d.startFlips
    rw [Dev.tickGates_later, hset]
    exact (hg p).trans (if_pos ⟨n, hmem, hp⟩)
  case stage =>
    intro d t tick
    rw [Dev.tickStage_stg]
    exact ⟨d.on_tickStage_running t tick, rfl, rfl, rfl⟩
  case windows =>
    intro d n tick hn hstart hkind happlies htick hskip
    rw [Dev.windowStart_wins hkind happlies htick hskip, Dev.newWin, hstart]
    exact List.mem_cons_self

end Sys2Proof.Machine
end

section
/-! PROOFS. Windows and tandem pairs: what a start, a DONE, an end, a mismatch, a fold, an infrastructure fault and an
injection leave (R47–R49, R355–R361, R364). -/

namespace Sys2Proof.Machine

open R

/-! ### Windows -/

/-- A DONE in time changes the list of windows alone, but for a bit of the owner's status. -/
theorem Dev.stgDone_inTime_stg {d : Dev} {o v : Nat} {w : Win} {rest : List Win} (hdone : bit 0 v = true)
    (hends : ∀ x ∈ d.stg.wins, x.owner = o → x.isOpen = true → d.domNs ≤ x.endAt) (hwins : d.stg.wins = w :: rest)
    (howner : w.owner = o) (hawaits : w.awaits = true) (hopen : w.isOpen = true) :
    (d.stgDone o v).stg.wins = { w with awaits := false } :: rest.filter (fun x => x.isOpen || x.awaits) := by
  rw [Dev.stgDone_takes hdone hends (newer := []) hwins (by simp) howner hawaits, if_pos hopen]
  have hafter : winsAfterDone [] w rest = { w with awaits := false } :: rest.filter (fun x => x.isOpen || x.awaits) := by
    simp [winsAfterDone, hopen]
  split
  · exact hafter
  · exact hafter

/-! ### Pairs -/

theorem mem_insertNat (a : Nat) (l : List Nat) : a ∈ insertNat a l := by
  induction l with
  | nil => simp [insertNat]
  | cons x l ih =>
    unfold insertNat
    split
    next h => simp [h]
    next =>
      split
      · simp
      · simp [ih]

theorem Dev.recause_tan (d : Dev) (p cause : Nat) : (d.recause p cause).tan = d.tan := by
  unfold Dev.recause
  split <;> rfl

theorem Dev.pairSees_of_tandem {d : Dev} {p : Nat} (h : d.fld (TAN_PAIR_STS_STATE p) = 1) : d.pairSees p = true := by
  simp [Dev.pairSees, h]

/-- A mismatch uses a boundary injection on its pair up (R364). -/
theorem Dev.boundary_injBound {d : Dev} {p : Nat} (hp : p < 4) (kind addr : Nat) (ad dd td ig : Bool)
    (hstate : d.fld (TAN_PAIR_STS_STATE p) = 1) : p ∉ (d.boundary p kind ad dd td ig addr).tan.injBound := by
  have hused : ∀ e : Dev, p ∉ e.tan.injBound →
      p ∉ (if e.fld (TAN_PAIR_STS_STATE p) = 1 then e.pairReset p 2 else e.recause p 2).tan.injBound := by
    intro e he
    split
    · rwa [Dev.pairReset_tan _ hp]
    · rwa [Dev.recause_tan]
  unfold Dev.boundary
  rw [if_neg (by simp [Dev.pairSees_of_tandem hstate])]
  refine hused _ ?_
  rw [Dev.tan_of_pairPart (Dev.pairPart_faultPost_deferred _ _ _ _ _ _ _ rfl)]
  simp

/-- An infrastructure fault of a pair in TANDEM (R361). -/
theorem Dev.infraFault_degrades {d : Dev} {p : Nat} (hp : p < 4) (par : Bool) (rail : Nat)
    (hstate : d.fld (TAN_PAIR_STS_STATE p) = 1) : p ∈ (d.infraFault p par rail).tan.degraded ∧
      p ∈ (d.infraFault p par rail).tan.held ∧ (d.infraFault p par rail).fld (TAN_PAIR_STS_STATE p) = 2 := by
  have hwin : (TAN_PAIR_STS_STATE p).addr / 0x10000 = 0x4006 := by simp only [TAN_PAIR_STS_STATE, TAN_PAIR_STS]; omega
  have hreset : ∀ e : Dev, p ∈ e.tan.degraded → let f := (e.recause p 4).pairReset p 4
      p ∈ f.tan.degraded ∧ p ∈ f.tan.held ∧ f.fld (TAN_PAIR_STS_STATE p) = 2 := by
    intro e he
    rw [← e.recause_tan p 4] at he
    dsimp only
    rw [Dev.pairReset_tan _ hp, Dev.pairReset_state _ hp, if_pos (List.contains_iff_mem.mpr he)]
    exact ⟨he, mem_insertNat .., rfl⟩
  have hshoes : ∀ (e : Dev) (c : Prop) [Decidable c] (o : Nat),
      (if c then e.applyDsCoach o 4 else e).pairPart = e.pairPart :=
    fun e c _ o => Dev.pairPart_ite (fun e => e.applyDsCoach o 4) (fun e => e.pairPart_applyDsCoach o 4) c e
  unfold Dev.infraFault
  rw [if_neg (by omega)]
  dsimp only
  rw [Dev.tan_of_pairPart (hshoes ..), Dev.fld_of_rn (Dev.rn_of_pairPart (hshoes ..) hwin)]
  exact hreset _ (mem_insertNat ..)

/-- The pairs' part of the state with an injection of kind `k` that waits for pair `p` (R364). -/
def TanSt.injected (t : TanSt) (k p : Nat) : TanSt :=
  match k with
  | 0 => { t with injBound := insertNat p t.injBound }
  | 1 => { t with injFold := insertNat p t.injFold }
  | _ => { t with injSelf := insertNat p t.injSelf }

/-- A write of TAN_INJ with the key, permitted, into a pair in TANDEM. -/
theorem Dev.tanInj_tan {d : Dev} {a : Sys2Proof.Acc} {v p : Nat} (hkey : bits 31 16 v = 0x7A9D) (hk : bits 3 2 v ≠ 3)
    (hp : bits 1 0 v = p) (hinv : d.on MAN_DBG_STS_GUARD_INV = true) (hstate : d.fld (TAN_PAIR_STS_STATE p) = 1) :
    (d.tanInj a v).tan = d.tan.injected (bits 3 2 v) p := by
  unfold Dev.tanInj
  dsimp only
  rw [if_neg (by simp [hkey, hk]), if_neg (by simp [hinv]), hp, if_neg (by simp [hstate]),
    Dev.tan_of_pairPart (Dev.pairPart_pairPost ..)]
  rfl

theorem Dev.foldDue_of {d : Dev} {p : Nat} (hstate : d.fld (TAN_PAIR_STS_STATE p) = 1)
    (hruns : d.tan.foldSince.any (fun x => x.1 == p) = true) (hlong : d.foldInterval p ≤ d.foldRun p) :
    d.foldDue p = true := by
  simp only [Dev.foldDue, hstate, hruns, hlong, beq_self_eq_true, decide_true, Bool.and_self]

/-! ### The commands -/

theorem exec_boundaryMismatch (s : State) (dt pair kind : Nat) (ad dd td ig : Bool) (addr : Nat) :
    exec (.boundaryMismatch dt pair kind ad dd td ig addr) s = execBoundaryMismatch dt pair kind ad dd td ig addr s := rfl

theorem exec_foldCapture (s : State) (dt pair : Nat) (l w : List Nat) :
    exec (.foldCapture dt pair l w) s = execFoldCapture dt pair l w s := rfl

theorem exec_foldCompare (s : State) (dt pair : Nat) : exec (.foldCompare dt pair) s = execFoldCompare dt pair s := rfl

theorem exec_tandemInfrastructureFault (s : State) (dt pair : Nat) (par : Bool) (rail : Nat) :
    exec (.tandemInfrastructureFault dt pair par rail) s = execTandemInfrastructureFault dt pair par rail s := rfl

theorem exec_tanInjBoundary (s : State) (dt : Nat) (a : Sys2Proof.Acc) (v : Nat) :
    exec (.tanInjBoundary dt a v) s = execTanInjBoundary dt a v s := rfl

theorem exec_tanInjFold (s : State) (dt : Nat) (a : Sys2Proof.Acc) (v : Nat) :
    exec (.tanInjFold dt a v) s = execTanInjFold dt a v s := rfl

theorem exec_tanInjSelfTest (s : State) (dt : Nat) (a : Sys2Proof.Acc) (v : Nat) :
    exec (.tanInjSelfTest dt a v) s = execTanInjSelfTest dt a v s := rfl

/-- A row of TAN_INJ whose write the checks let through. -/
theorem completes_tanInj {s : State} {dt v : Nat} {a : Sys2Proof.Acc} {i : Instr} {P : State → Prop}
    (hi : exec i s = s.onDevM dt true fun m d => d.regWrite m a TAN_INJ (·.tanInj a v))
    (hmay : (s.now dt).mayWrite s.mem a TAN_INJ) (h : P (s.becomes ((s.now dt).tanInj a v))) : Completes i s P :=
  completes_onDevM hi rfl (by rw [Dev.regWrite_pass hmay]; exact h)

/-- Settles O53, command by command. -/
theorem windowAndPairCommandsComplete : Obligations.WindowAndPairCommandsComplete := by
  unfold Obligations.WindowAndPairCommandsComplete
  refine ⟨?starts, ?done, ?gdone, ?ends, ?boundary, ?capture, ?compare, ?infra, ?injBound, ?injFold, ?injSelf⟩
  case starts =>
    intro s dt n tick d hn hoff htick hdue hkind happlies hskip
    exact ⟨_, exec_windowStart_due hn hoff htick hdue, Dev.windowStart_wins hkind happlies htick hskip, rfl, rfl⟩
  case done =>
    intro s dt c v a w rest d hc hmay hdone hwins howner hawaits hopen hends
    exact ⟨_, exec_stgDone_pass hc hmay, Dev.stgDone_inTime_stg hdone hends hwins howner hawaits hopen, rfl, rfl⟩
  case gdone =>
    intro s dt v a w rest d hmay hdone hwins howner hawaits hopen hends
    exact ⟨_, exec_stgGdone_pass hmay, Dev.stgDone_inTime_stg hdone hends hwins howner hawaits hopen, rfl, rfl⟩
  case ends =>
    intro s dt n w rest d hn hwins hentry hopen hawaits hend hrest hlatent
    refine ⟨_, exec_windowEnd_newest hn hwins hentry hopen hend hrest hlatent, ?_⟩
    rw [Dev.windowEnd_eq hwins hentry hopen hrest, if_neg (by simp [hawaits])]
    have hgone : ¬(({ w with isOpen := false } : Win).isOpen || w.awaits) = true := by simp [hawaits]
    exact ⟨List.filter_cons_of_neg (p := fun x : Win => x.isOpen || x.awaits) hgone, rfl, rfl, rfl⟩
  case boundary =>
    intro s dt pair kind addr ad dd td ig d hpair hkind hstate
    exact completes_onDev (exec_boundaryMismatch ..) (by simp [hpair, hkind])
      ⟨Dev.boundary_injBound hpair kind addr ad dd td ig hstate, rfl, rfl⟩
  case capture =>
    intro s dt pair l w d hpair hstate hruns hlong
    refine completes_onDev (exec_foldCapture ..) (decide_eq_true hpair) ?_
    rw [if_pos (Dev.foldDue_of hstate hruns hlong)]
    exact ⟨rfl, rfl, rfl, rfl⟩
  case compare =>
    intro s dt pair i l d hpair hfind hstate hinj
    have hsees : ¬(!d.pairSees pair) = true := by simp [Dev.pairSees_of_tandem hstate]
    have hplain : ¬d.tan.injFold.contains pair = true := by simpa using hinj
    refine completes_onDev (exec_foldCompare ..) (decide_eq_true hpair) ?_
    rw [hfind]
    dsimp only
    rw [if_neg hsees, if_neg hplain, if_pos rfl]
    exact ⟨Dev.rn_bump_self d (TAN_PAIR_FOLD_CNT pair), rfl, rfl, rfl⟩
  case infra =>
    intro s dt pair rail par d hpair hstate
    obtain ⟨hdegraded, hheld, hsplit⟩ := Dev.infraFault_degrades hpair par rail hstate
    exact completes_onDev (exec_tandemInfrastructureFault ..) (decide_eq_true hpair) ⟨hdegraded, hheld, hsplit, rfl, rfl⟩
  case injBound =>
    intro s dt pair v a d hmay hkey hk hp hinv hstate
    refine completes_tanInj (exec_tanInjBoundary ..) hmay ⟨?_, rfl, rfl⟩
    rw [Dev.tanInj_tan hkey (by omega) hp hinv hstate, hk]
    exact mem_insertNat ..
  case injFold =>
    intro s dt pair v a d hmay hkey hk hp hinv hstate
    refine completes_tanInj (exec_tanInjFold ..) hmay ⟨?_, rfl, rfl⟩
    rw [Dev.tanInj_tan hkey (by omega) hp hinv hstate, hk]
    exact mem_insertNat ..
  case injSelf =>
    intro s dt pair v a d hmay hkey hk hp hinv hstate
    refine completes_tanInj (exec_tanInjSelfTest ..) hmay ⟨?_, rfl, rfl⟩
    rw [Dev.tanInj_tan hkey (by omega) hp hinv hstate, hk]
    exact mem_insertNat ..

end Sys2Proof.Machine
end

section
/-! PROOFS. What the passing of time leaves as it was: before a command, waiting cores go on, presented Guard interrupts
take their cores into the Guard world, and the counters of clock cycles count (R430, R341, R457); only then does the time
advance. -/

namespace Sys2Proof.Machine

open R

/-- The state without its registers and without the parts that cores and counters change while time passes. -/
def Dev.restT (d : Dev) : Dev := { d.rest with wld := WorldSt.reset, tan := TanSt.reset }

theorem Dev.restT_of_rest {d e : Dev} (h : d.rest = e.rest) : d.restT = e.restT := by unfold Dev.restT; rw [h]

theorem Dev.tim_of_restT {d e : Dev} (h : d.restT = e.restT) : d.tim = e.tim := (congrArg Dev.tim h :)

/-- Cores that go on change their waiting and the tandem pairs' part alone. -/
theorem Dev.wakeIdle_keeps {β : Type} (g : Dev → β)
    (hwait : ∀ (d : Dev) (l : List Nat), g { d with wld := { d.wld with waiting := l } } = g d)
    (htan : ∀ (d : Dev) (t : TanSt), g { d with tan := t } = g d) (d : Dev) : g d.wakeIdle = g d := by
  have hgoes : ∀ (e : Dev) (k : Nat), g (e.coreGoes k) = g e := by
    intro e k
    unfold Dev.coreGoes Dev.leaderGoes Dev.foldGo
    split
    · exact (htan ..).trans (hwait ..)
    · exact hwait ..
  unfold Dev.wakeIdle
  split
  · rfl
  · refine Dev.each_keeps g _ (fun k e => ?_) d _
    split
    · exact hgoes e k
    · rfl

theorem Dev.restT_wakeIdle (d : Dev) : d.wakeIdle.restT = d.restT :=
  d.wakeIdle_keeps Dev.restT (fun _ _ => rfl) (fun _ _ => rfl)

theorem Dev.restT_enterGuard (d : Dev) (k : Nat) : (d.enterGuard k).restT = d.restT := by
  have h : ∀ (f : Fld) (w : WorldSt), ({ d.set f with wld := w } : Dev).restT = d.restT := fun _ _ => rfl
  exact h ..

theorem Dev.restT_present (d : Dev) : d.present.restT = d.restT := by
  unfold Dev.present
  refine Dev.each_keeps Dev.restT _ (fun k e => ?_) d _
  split
  · exact e.restT_enterGuard k
  · rfl

/-! ### The counters of clock cycles -/

section Counters

variable {β : Type} (g : Dev → β) (htal : ∀ (d : Dev) (t : TalSt), g { d with tal := t } = g d)
  (hadd : ∀ (d : Dev) (ctl ev k : Nat) (ovf : Fld) (src owner inst : Nat), src < 512 →
    0x40070000 ≤ ctl ∧ ctl + 8 < 0x40080000 → ovf.addr / 65536 = 0x4007 →
    g (d.tallyAdd ctl ev k ovf src owner inst) = g d)

include htal

theorem Dev.tallyCond_keeps (d : Dev) (set : Nat → Nat) (cnt : List Nat) (count : Nat → Nat → Dev → Dev) (key n : Nat)
    (holds adds : Bool) (amount : Nat) (counts : Bool) (h : ∀ c ∈ cnt, ∀ k e, g (count c k e) = g e) :
    g (d.tallyCond set cnt count key n holds adds amount counts) = g d := by
  unfold Dev.tallyCond
  split
  · rfl
  · exact (htal ..).trans (Dev.each_keeps_mem g _ d cnt fun c hc e => h c hc _ e)

theorem Dev.smpCount_keeps (d : Dev) (k ev n : Nat) : g (d.smpCount k ev n) = g d := by
  unfold Dev.smpCount
  split
  · exact htal ..
  · rfl

include hadd

theorem Dev.condP_keeps (d : Dev) {p : Nat} (hp : p < 48) (ev n : Nat) (holds adds : Bool) (amount : Nat) :
    g (d.condP p ev n holds adds amount) = g d := by
  refine d.tallyCond_keeps g htal _ _ _ _ _ _ _ _ _ fun m hm k e => hadd _ _ _ _ _ _ _ _ (by decide) ?_ ?_
  · simp only [List.mem_cons, List.not_mem_nil, or_false] at hm
    simp only [TALLY_P_CTL]; omega
  · simp only [TALLY_P_STS]; omega

theorem Dev.condD_keeps (d : Dev) (ev n : Nat) (holds : Bool) : g (d.condD ev n holds) = g d := by
  refine d.tallyCond_keeps g htal _ _ _ _ _ _ _ _ _ fun m hm k e => hadd _ _ _ _ _ _ _ _ (by decide) ?_
    (show TALLY_D_STS / 65536 = 0x4007 by decide)
  have := List.mem_range.mp hm
  simp only [TALLY_D_CTL]; omega

theorem Dev.condC_keeps (d : Dev) {core : Nat} (hcore : core < 12) (n : Nat) : g (d.condC core n) = g d := by
  unfold Dev.condC
  dsimp only
  rw [Dev.tallyCond_keeps g htal, d.smpCount_keeps g htal]
  intro m hm k e
  have := List.mem_range.mp hm
  exact hadd _ _ _ _ _ _ _ _ (by omega) (by simp only [TALLY_C_CTL]; omega) (by simp only [TALLY_C_STS]; omega)

/-- The counters of clock cycles keep whatever a single counter keeps that counts. -/
theorem Dev.tallyCycles_keeps (d : Dev) (dt : Nat) : g (d.tallyCycles dt) = g d := by
  unfold Dev.tallyCycles
  split
  · rfl
  · refine (Dev.condD_keeps g htal hadd ..).trans ((Dev.condD_keeps g htal hadd ..).trans ?_)
    refine (Dev.each_keeps_mem g _ _ _ fun p hp e => ?_).trans (Dev.each_keeps_mem g _ _ _ fun k hk e =>
      e.condC_keeps g htal hadd (List.mem_range.mp hk) _)
    have hp := List.mem_range.mp hp
    exact (Dev.condP_keeps g htal hadd _ hp ..).trans
      ((Dev.condP_keeps g htal hadd _ hp ..).trans (Dev.condP_keeps g htal hadd _ hp ..))

end Counters

theorem Dev.rest_tallyCycles (d : Dev) (dt : Nat) : (d.tallyCycles dt).rest = d.rest :=
  d.tallyCycles_keeps Dev.rest (fun _ _ => rfl) (fun e _ _ _ _ _ _ _ _ _ _ => e.rest_tallyAdd ..) dt

/-! ### The device as time finds it -/

/-- The device before a command, when the time of the command has not yet passed. -/
def Dev.untimed (d : Dev) (dt : Nat) : Dev := d.wakeIdle.present.tallyCycles dt

theorem Dev.pass_eq (d : Dev) (dt : Nat) : d.pass dt = (d.untimed dt).advance dt := rfl

theorem Dev.restT_untimed (d : Dev) (dt : Nat) : (d.untimed dt).restT = d.restT := by
  unfold Dev.untimed
  exact (Dev.restT_of_rest (Dev.rest_tallyCycles ..)).trans ((Dev.restT_present _).trans d.restT_wakeIdle)

theorem Dev.untimed_tim (d : Dev) (dt : Nat) : (d.untimed dt).tim = d.tim := Dev.tim_of_restT (d.restT_untimed dt)

/-- The advance of time changes of the time base's part only what its mode counts by. -/
theorem Dev.advance_tim (d : Dev) (dt : Nat) : ∃ mode dev rem baseDev baseUp startIn, (d.advance dt).tim =
    { d.tim with mode := mode, dev := dev, rem := rem, baseDev := baseDev, baseUp := baseUp, startIn := startIn } := by
  unfold Dev.advance
  dsimp only
  split
  next =>
    split
    · exact ⟨_, _, _, _, _, _, rfl⟩
    · exact ⟨_, _, _, _, _, _, rfl⟩
  next => exact ⟨_, _, _, _, _, _, rfl⟩
  next => exact ⟨_, _, _, _, _, _, rfl⟩
  next => exact ⟨_, _, _, _, _, _, rfl⟩

/-- Whatever the mode of the time, the high words that reads have latched stay latched (R71). -/
theorem Dev.pass_latched (d : Dev) (dt : Nat) : (d.pass dt).tim.latched = d.tim.latched := by
  obtain ⟨_, _, _, _, _, _, h⟩ := (d.untimed dt).advance_tim dt
  rw [d.pass_eq, h, d.untimed_tim]

end Sys2Proof.Machine
end

section
/-! PROOFS. The reads of TIME_NOW_LO, TIME_NOW_HI and TIME_NOW_FRAC (R66, R71). -/

namespace Sys2Proof.Machine

open R

/-- A register that shows the device time, with the highest bit of its one field. -/
def timeNow (x hi : Nat) : Prop := (x, hi) ∈ [(TIME_NOW_LO, 31), (TIME_NOW_HI, 31), (TIME_NOW_FRAC, 15)]

theorem RegDesc.seen_ro (x hi : Nat) (guard : Bool) :
    (⟨x, [], [⟨hi, 0, .ro, false⟩]⟩ : RegDesc).seen guard = 2 ^ (hi + 1) - 1 := by
  cases guard <;> simp [RegDesc.seen, FieldDesc.mask]

/-- The device once the low word of its time is read: the rest of the instant is latched. -/
def Dev.timeLatched (d : Dev) : Dev :=
  (d.latch TIME_NOW_HI (d.ns / 2 ^ 32 % 2 ^ 32)).latch TIME_NOW_FRAC (d.tim.dev % 65536)

theorem Dev.timeLatched_regs (d : Dev) : d.timeLatched.regs = d.regs := rfl
theorem Dev.timeLatched_log (d : Dev) : d.timeLatched.log = d.log := rfl

/-- Of the registers that show the device time a read returns the value in the register's one field; that of the low word
latches the other two. -/
theorem Dev.access_timeNow {d : Dev} {m : Mem} {a : Sys2Proof.Acc} {x hi v : Nat} (hx : timeNow x hi) (h : d.mayRead m a x) :
    d.access m a .read x 4 v =
      ((if x = TIME_NOW_LO then d.timeLatched else d).returns (d.value a x % 2 ^ (hi + 1)), m) := by
  rw [← Nat.and_two_pow_sub_one_eq_mod, ← RegDesc.seen_ro x hi a.guard]
  simp only [timeNow, List.mem_cons, List.not_mem_nil, or_false, Prod.mk.injEq] at hx
  obtain ⟨rfl, rfl⟩ | ⟨rfl, rfl⟩ | ⟨rfl, rfl⟩ := hx
  all_goals
    rw [Dev.access_register_pass rfl rfl h]
    rfl

theorem Dev.value_timeNowLo (d : Dev) (a : Sys2Proof.Acc) : d.value a TIME_NOW_LO = d.ns % 2 ^ 32 := rfl

/-- While the rest of an instant is latched, the high word and the fraction read as those of that instant. -/
theorem Dev.value_latched {d e : Dev} (a : Sys2Proof.Acc) (h : d.tim.latched = e.timeLatched.tim.latched) :
    d.value a TIME_NOW_HI = e.ns / 2 ^ 32 % 2 ^ 32 ∧ d.value a TIME_NOW_FRAC = e.tim.dev % 65536 := by
  unfold Dev.value
  rw [h]
  exact ⟨rfl, rfl⟩

/-- A read of a word of the device time completes with the register's value in its one field. -/
theorem completes_readTimeNow {s : State} {dt x hi v : Nat} {a : Sys2Proof.Acc} (hx : timeNow x hi) (hne : x ≠ TIME_NOW_LO)
    (h : (s.now dt).mayRead s.mem a x) (hvalue : (s.now dt).value a x = v) :
    Completes (.coreMemoryAccess dt a .read x 4 0) s fun u => u.dev.bus = ⟨v % 2 ^ (hi + 1), false⟩ := by
  refine completes_onAll (exec_coreMemoryAccess ..) rfl ?_
  rw [Dev.access_timeNow hx h, if_neg hne, hvalue]
  exact Dev.returns_bus ..

theorem exec_latchingReadLo (s : State) (dt : Nat) (a : Sys2Proof.Acc) (addr : Nat) :
    exec (.latchingReadLo dt a addr) s = execLatchingReadLo dt a addr s := rfl

/-- Settles O41: the read of the low word latches the rest of its instant, and no passing of time touches the latch. -/
theorem timeReadsFormOneInstant : Obligations.TimeReadsFormOneInstant := by
  unfold Obligations.TimeReadsFormOneInstant
  intro s dt dt2 a b d hlo
  refine completes_onAll (exec_latchingReadLo ..) rfl ?_
  rw [Dev.access_timeNow (hi := 31) (by simp [timeNow]) hlo, if_pos rfl, Dev.value_timeNowLo]
  dsimp only
  set v := (s.dev.pass dt).ns % 2 ^ 32 % 2 ^ (31 + 1) with hv
  have hlatched := Dev.value_latched b (Dev.pass_latched (d.timeLatched.returns v) dt2)
  refine ⟨?now, d.timeLatched_regs, d.timeLatched_log, ⟨rfl, rfl⟩, fun h => ?high, fun h => ?frac⟩
  case now => rw [Dev.returns_bus, hv, Nat.mod_mod]
  case high =>
    have hread := completes_readTimeNow (hi := 31) (by simp [timeNow]) (by decide) h hlatched.1
    rwa [Nat.mod_mod] at hread
  case frac =>
    have hread := completes_readTimeNow (hi := 15) (by simp [timeNow]) (by decide) h hlatched.2
    rwa [show 2 ^ (15 + 1) = 65536 from rfl, Nat.mod_mod] at hread

end Sys2Proof.Machine
end

section
/-! PROOFS. What the servo changes besides its own registers: nothing of the device time, of the status bits that a refusal
sets, or of the pending correction (R72, R75–R78). -/

namespace Sys2Proof.Machine

open R

/-! ### The device time, the bits of TIME_STS above the servo's own, and the pending correction -/

/-- The registers of the pending correction, and the limit that decides on it (R76, R77). -/
def pendRegs : List Nat :=
  [TIME_JUMP_LIMIT_NS, TIME_PEND_SEQ, TIME_PEND_OFS_LO, TIME_PEND_OFS_HI, TIME_PEND_GMID_LO, TIME_PEND_GMID_HI]

/-- What a refusal is made of: the device time, the bits of TIME_STS from EXEMPT_AVAIL up, and the pending correction. -/
def Dev.pendPart (d : Dev) : Nat × Nat × (Nat → Nat) :=
  (d.tim.dev, d.fld ⟨TIME_STS, 31, 5⟩, fun b => if b ∈ pendRegs then d.rn b else 0)

theorem Dev.pendPart_eq {d e : Dev} (hdev : e.tim.dev = d.tim.dev)
    (hsts : e.fld ⟨TIME_STS, 31, 5⟩ = d.fld ⟨TIME_STS, 31, 5⟩) (hr : ∀ b ∈ pendRegs, e.rn b = d.rn b) :
    e.pendPart = d.pendPart := by
  unfold Dev.pendPart
  rw [hdev, hsts, Prod.mk.injEq, Prod.mk.injEq]
  refine ⟨rfl, rfl, funext fun b => ?_⟩
  split
  next hb => exact hr b hb
  next => rfl

theorem Dev.devTime_of_pendPart {d e : Dev} (h : e.pendPart = d.pendPart) : e.tim.dev = d.tim.dev := congrArg Prod.fst h

theorem Dev.rn_of_pendPart {d e : Dev} {b : Nat} (h : e.pendPart = d.pendPart) (hb : b ∈ pendRegs) : e.rn b = d.rn b := by
  have hr := congrFun (congrArg (fun p => p.2.2) h) b
  simpa only [Dev.pendPart, hb, if_true] using hr

theorem Dev.on_eq_testBit (d : Dev) (a k : Nat) : d.on ⟨a, k, k⟩ = (d.rn a).testBit k := by
  rw [← bit_eq_testBit]
  simp only [Dev.on, Dev.fld, bits, bit, Nat.add_sub_cancel_left, Nat.pow_one]

theorem Dev.on_of_pendPart {d e : Dev} {k : Nat} (h : e.pendPart = d.pendPart) (hk : 5 ≤ k ∧ k < 32) :
    e.on ⟨TIME_STS, k, k⟩ = d.on ⟨TIME_STS, k, k⟩ := by
  have hfld : e.fld ⟨TIME_STS, 31, 5⟩ = d.fld ⟨TIME_STS, 31, 5⟩ := congrArg (fun p => p.2.1) h
  have hbit := congrArg (Nat.testBit · (k - 5)) hfld
  simp only [Dev.fld, testBit_bits, Nat.sub_add_cancel hk.1] at hbit
  rw [decide_eq_true (by omega), Bool.true_and, Bool.true_and] at hbit
  rw [Dev.on_eq_testBit, Dev.on_eq_testBit, hbit]

/-! ### Operations that keep all of it -/

theorem calm_of_pendRegs : ∀ b ∈ pendRegs, calm b := by decide

theorem Dev.pendPart_of_calm {d e : Dev} (hdev : e.tim.dev = d.tim.dev) (h : ∀ b, calm b → e.rn b = d.rn b) :
    e.pendPart = d.pendPart :=
  Dev.pendPart_eq hdev (Dev.fld_of_rn (h TIME_STS (by decide))) fun b hb => h b (calm_of_pendRegs b hb)

theorem Dev.pendPart_raiseIf (d : Dev) (en : Fld) {src : Nat} (hs : src < 512) :
    (d.raiseIf en src).pendPart = d.pendPart :=
  Dev.pendPart_of_calm (by rw [Dev.raiseIf_tim]) fun _ hb => d.rn_raiseIf en hs hb

theorem Dev.pendPart_post (d : Dev) (block code sev owner inst : Nat) (data : List Nat) :
    (d.post block code sev owner inst data).pendPart = d.pendPart :=
  Dev.pendPart_of_calm (by rw [Dev.post_tim]) fun _ hb => d.rn_post hb

theorem Dev.pendPart_timePost (d : Dev) (code sev : Nat) (ofs : Int) (gm : Nat) :
    (d.timePost code sev ofs gm).pendPart = d.pendPart := d.pendPart_post ..

theorem Dev.pendPart_wr (d : Dev) {a : Nat} (v : Nat) (ha : a ∉ TIME_STS :: pendRegs) :
    (d.wr a v).pendPart = d.pendPart := by
  simp only [List.mem_cons, not_or] at ha
  exact Dev.pendPart_eq rfl (Dev.fld_of_rn (d.rn_wr_ne v ha.1)) fun b hb => d.rn_wr_ne v fun h => ha.2 (h ▸ hb)

theorem Dev.pendPart_put (d : Dev) {f : Fld} (v : Nat) (hf : f.addr ∉ TIME_STS :: pendRegs) :
    (d.put f v).pendPart = d.pendPart := d.pendPart_wr _ hf

/-- STATE, EVER_LOCKED and HOLDOVER_AVAIL, which the servo itself changes, lie below those bits. -/
theorem Dev.pendPart_putLow (d : Dev) {hi lo : Nat} (v : Nat) (hlo : lo ≤ hi) (hhi : hi < 5) :
    (d.put ⟨TIME_STS, hi, lo⟩ v).pendPart = d.pendPart :=
  Dev.pendPart_eq rfl
    (d.fld_put_apart _ _ v hlo (Nat.lt_of_lt_of_le hhi (by decide)) (by decide : (5 : Nat) ≤ 31) (.inl hhi))
    fun b hb => d.rn_put_ne _ v fun h => (by decide : TIME_STS ∉ pendRegs) ((show TIME_STS = b from h) ▸ hb)

theorem Dev.pendPart_ite (f : Dev → Dev) (h : ∀ e, (f e).pendPart = e.pendPart) (c : Prop) [Decidable c] (e : Dev) :
    (if c then f e else e).pendPart = e.pendPart := by
  split
  · exact h e
  · rfl

/-! ### The servo's own changes -/

theorem Dev.primary_lt (d : Dev) : d.primary < 4 := Nat.mod_lt _ (by decide)

theorem Dev.pendPart_fabSynced (d : Dev) : d.fabSynced.pendPart = d.pendPart := by
  unfold Dev.fabSynced Dev.updRegime Dev.clr
  dsimp only
  split
  · exact d.pendPart_put _ (by decide)
  · rw [Dev.pendPart_post, Dev.pendPart_raiseIf _ _ (by decide), Dev.pendPart_put _ _ (by decide),
      Dev.pendPart_put _ _ (by decide)]

theorem domSts_ne {k : Nat} (hk : k < 4) : TIME_DOM_STS k ∉ TIME_STS :: pendRegs := by
  simp only [pendRegs, List.mem_cons, List.not_mem_nil, or_false, TIME_DOM_STS, TIME_STS, TIME_JUMP_LIMIT_NS, TIME_PEND_SEQ,
    TIME_PEND_OFS_LO, TIME_PEND_OFS_HI, TIME_PEND_GMID_LO, TIME_PEND_GMID_HI]
  omega

theorem Dev.pendPart_tsState (d : Dev) (st : Nat) : (d.tsState st).pendPart = d.pendPart := by
  unfold Dev.tsState Dev.set Dev.clr
  dsimp only
  split
  · rfl
  · set e := (((d.put TIME_STS_STATE st).put (TIME_DOM_STS_STATE d.primary) st).raiseIf TIME_INT_EN_STATE 16).put
      STG_STS_LOCKED (b2n (st == 1)) with he
    have hstate : e.pendPart = d.pendPart := by
      rw [he, Dev.pendPart_put _ _ (by decide), Dev.pendPart_raiseIf _ _ (by decide),
        Dev.pendPart_put _ _ (domSts_ne d.primary_lt)]
      exact d.pendPart_putLow _ (by decide) (by decide)
    have hsynced := (Dev.pendPart_ite Dev.fabSynced Dev.pendPart_fabSynced (st = 1 ∨ st = 3) e).trans hstate
    split
    · rw [Dev.pendPart_post, Dev.pendPart_raiseIf _ _ (by decide), Dev.pendPart_put _ _ (by decide),
        Dev.pendPart_put _ _ (by decide), hsynced]
    · split
      · rw [Dev.pendPart_post, Dev.pendPart_raiseIf _ _ (by decide), Dev.pendPart_put _ _ (by decide), hsynced]
      · exact hsynced

theorem Dev.pendPart_drifts (d : Dev) : d.drifts.pendPart = d.pendPart := rfl

theorem Dev.pendPart_freeRun (d : Dev) : d.freeRun.pendPart = d.pendPart := by
  unfold Dev.freeRun
  split
  · rw [Dev.pendPart_drifts, Dev.pendPart_wr _ _ (by decide)]
  · exact d.pendPart_wr _ (by decide)

theorem Dev.pendPart_freshFreq (d : Dev) : d.freshFreq.pendPart = d.pendPart := by
  have hdrawn : ∀ (e : Dev) (k : Nat) (drift lockFreq : Int), ({ e with drawn := k, tim := { e.tim with
    drift := drift, lockFreq := lockFreq } } : Dev).pendPart = e.pendPart := fun _ _ _ _ => rfl
  exact (hdrawn ..).trans (d.pendPart_wr _ (by decide))

theorem Dev.pendPart_loseLock (d : Dev) (ofs : Int) (gm : Nat) : (d.loseLock ofs gm).pendPart = d.pendPart := by
  have hcounts : ∀ (e : Dev), ({ e with tim := { e.tim with good := 0, bad := 0 } } : Dev).pendPart = e.pendPart :=
    fun _ => rfl
  unfold Dev.loseLock
  rw [Dev.pendPart_freeRun, Dev.pendPart_tsState, hcounts]
  refine (Dev.pendPart_putLow _ _ (by decide) (by decide)).trans ?_
  rw [Dev.pendPart_wr _ _ (by decide), Dev.pendPart_timePost]

end Sys2Proof.Machine
end

section
/-! PROOFS. What a Sync of the primary domain and a write of TIME_ACCEPT do to the device time and to the pending correction
(R75–R78). -/

namespace Sys2Proof.Machine

open R

/-! ### Refusals (R76, R77) -/

/-- Every refused Sync: its series, and what is held of a correction that the software may accept. -/
def Dev.refusalHeld (d : Dev) (c : RefCause) (ofs256 : Int) (gm : Nat) : Dev :=
  let e : Dev := { d with tim := { d.tim with series := some (c, gm), good := 0 } }
  if c.info.2.2 then
    ((e.set TIME_STS_PENDING).wrPair TIME_PEND_OFS_LO TIME_PEND_OFS_HI (unsgn 64 (ofs256 / 256))).wrPair
      TIME_PEND_GMID_LO TIME_PEND_GMID_HI gm
  else e

/-- What the first refusal of a series counts and flags, before the servo gives up its state. -/
def Dev.refusalFlagged (d : Dev) (c : RefCause) : Dev :=
  (if c.info.2.2 then d.bump TIME_PEND_SEQ else d).set c.info.1

/-- A refused Sync: the first of a series is flagged and reported, and the time base runs free. -/
theorem Dev.refuseSync_eq (d : Dev) (c : RefCause) (ofs256 : Int) (gm : Nat) :
    d.refuseSync c ofs256 gm =
      let e := d.refusalHeld c ofs256 gm
      let f := ((e.refusalFlagged c).raiseIf TIME_INT_EN_REFUSAL 17).timePost c.info.2.1 1 (ofs256 / 256) gm
      if d.tim.series = some (c, gm) then e
      else if f.fld TIME_STS_STATE = 1 then f.loseLock (ofs256 / 256) gm else f.freeRun := by
  unfold Dev.refuseSync
  simp only [beq_iff_eq]
  rfl

theorem Dev.refuseSync_pendPart (d : Dev) (c : RefCause) (ofs256 : Int) (gm : Nat) :
    (d.refuseSync c ofs256 gm).pendPart =
      (if d.tim.series = some (c, gm) then d.refusalHeld c ofs256 gm
        else (d.refusalHeld c ofs256 gm).refusalFlagged c).pendPart := by
  rw [d.refuseSync_eq]
  dsimp only
  split
  · rfl
  · split
    · rw [Dev.pendPart_loseLock, Dev.pendPart_timePost, Dev.pendPart_raiseIf _ _ (by decide)]
    · rw [Dev.pendPart_freeRun, Dev.pendPart_timePost, Dev.pendPart_raiseIf _ _ (by decide)]

theorem RefCause.flag_eq (c : RefCause) : ∃ k, 8 ≤ k ∧ k < 11 ∧ c.info.1 = ⟨TIME_STS, k, k⟩ := by
  cases c with
  | jump => exact ⟨8, by decide, by decide, rfl⟩
  | gmChange => exact ⟨9, by decide, by decide, rfl⟩
  | backward => exact ⟨10, by decide, by decide, rfl⟩

theorem Dev.refusalHeld_devTime (d : Dev) (c : RefCause) (ofs256 : Int) (gm : Nat) :
    (d.refusalHeld c ofs256 gm).tim.dev = d.tim.dev := by
  unfold Dev.refusalHeld; dsimp only; split <;> rfl

theorem Dev.refusalFlagged_tim (d : Dev) (c : RefCause) : (d.refusalFlagged c).tim = d.tim := by
  unfold Dev.refusalFlagged; split <;> rfl

theorem Dev.refuseSync_devTime (d : Dev) (c : RefCause) (ofs256 : Int) (gm : Nat) :
    (d.refuseSync c ofs256 gm).tim.dev = d.tim.dev := by
  rw [Dev.devTime_of_pendPart (d.refuseSync_pendPart c ofs256 gm)]
  split
  · exact d.refusalHeld_devTime ..
  · rw [Dev.refusalFlagged_tim, Dev.refusalHeld_devTime]

/-- Flagging a refusal changes no other status bit. -/
theorem Dev.refusalFlagged_on (d : Dev) (c : RefCause) {k : Nat} (hk : k < 8) :
    (d.refusalFlagged c).on ⟨TIME_STS, k, k⟩ = d.on ⟨TIME_STS, k, k⟩ := by
  obtain ⟨j, hj, hj', hflag⟩ := c.flag_eq
  unfold Dev.refusalFlagged
  rw [hflag]
  unfold Dev.on
  rw [Dev.fld_set_apart _ _ _ (le_refl j) (show j < 32 by omega) (le_refl k) (.inr (show k < j by omega))]
  split
  · rw [Dev.fld_of_rn (Dev.rn_bump_ne _ (show TIME_PEND_SEQ ≠ TIME_STS by decide))]
  · rfl

theorem Dev.refusalFlagged_rn (d : Dev) (c : RefCause) {b : Nat} (hs : b ≠ TIME_STS) (hq : b ≠ TIME_PEND_SEQ) :
    (d.refusalFlagged c).rn b = d.rn b := by
  obtain ⟨j, _, _, hflag⟩ := c.flag_eq
  unfold Dev.refusalFlagged
  rw [hflag, Dev.rn_set_ne _ _ hs.symm]
  split
  · rw [Dev.rn_bump_ne _ hq.symm]
  · rfl

theorem Dev.refuseSync_on (d : Dev) (c : RefCause) (ofs256 : Int) (gm : Nat) {k : Nat} (hk : 5 ≤ k ∧ k < 8) :
    (d.refuseSync c ofs256 gm).on ⟨TIME_STS, k, k⟩ = (d.refusalHeld c ofs256 gm).on ⟨TIME_STS, k, k⟩ := by
  rw [Dev.on_of_pendPart (d.refuseSync_pendPart c ofs256 gm) (by omega)]
  split
  · rfl
  · exact Dev.refusalFlagged_on _ c hk.2

theorem Dev.refuseSync_rn (d : Dev) (c : RefCause) (ofs256 : Int) (gm : Nat) {b : Nat} (hb : b ∈ pendRegs)
    (hq : b ≠ TIME_PEND_SEQ) : (d.refuseSync c ofs256 gm).rn b = (d.refusalHeld c ofs256 gm).rn b := by
  rw [Dev.rn_of_pendPart (d.refuseSync_pendPart c ofs256 gm) hb]
  split
  · rfl
  · exact Dev.refusalFlagged_rn _ c (fun h => (by decide : TIME_STS ∉ pendRegs) (h ▸ hb)) hq

theorem Dev.pair_wrPair_mod (d : Dev) {lo hi : Nat} (v : Nat) (h : lo ≠ hi) : (d.wrPair lo hi v).pair lo hi = v % 2 ^ 64 := by
  unfold Dev.wrPair Dev.pair
  rw [Dev.rn_wr_self, Dev.rn_wr_ne _ _ (Ne.symm h), Dev.rn_wr_self]
  omega

theorem unsgn_lt (z : Int) : unsgn 64 z < 2 ^ 64 := by
  unfold unsgn; omega

/-- A refused correction that the software may accept stands as pending, with its offset and its master (R76). -/
theorem Dev.refuseSync_pending (d : Dev) {c : RefCause} (ofs256 : Int) (gm : Nat) (hc : c.info.2.2 = true) :
    (d.refuseSync c ofs256 gm).on TIME_STS_PENDING = true ∧
      (d.refuseSync c ofs256 gm).pair TIME_PEND_OFS_LO TIME_PEND_OFS_HI = unsgn 64 (ofs256 / 256) ∧
      (d.refuseSync c ofs256 gm).pair TIME_PEND_GMID_LO TIME_PEND_GMID_HI = gm % 2 ^ 64 := by
  have hheld : d.refusalHeld c ofs256 gm =
      ((({ d with tim := { d.tim with series := some (c, gm), good := 0 } } : Dev).set TIME_STS_PENDING).wrPair
        TIME_PEND_OFS_LO TIME_PEND_OFS_HI (unsgn 64 (ofs256 / 256))).wrPair TIME_PEND_GMID_LO TIME_PEND_GMID_HI gm :=
    if_pos hc
  refine ⟨?status, ?offset, ?master⟩
  case status =>
    refine (d.refuseSync_on c ofs256 gm (k := 6) (by decide)).trans ?_
    rw [hheld, Dev.on_of_rn (Dev.rn_wrPair_ne _ _ (by decide) (by decide)),
      Dev.on_of_rn (Dev.rn_wrPair_ne _ _ (by decide) (by decide))]
    exact Dev.on_set _ _ rfl (by decide)
  case offset =>
    unfold Dev.pair
    rw [Dev.refuseSync_rn _ _ _ _ (by decide) (by decide), Dev.refuseSync_rn _ _ _ _ (by decide) (by decide), hheld,
      Dev.rn_wrPair_ne (b := TIME_PEND_OFS_LO) _ _ (by decide) (by decide),
      Dev.rn_wrPair_ne (b := TIME_PEND_OFS_HI) _ _ (by decide) (by decide)]
    exact Dev.pair_wrPair _ _ (by decide) (unsgn_lt _)
  case master =>
    unfold Dev.pair
    rw [Dev.refuseSync_rn _ _ _ _ (by decide) (by decide), Dev.refuseSync_rn _ _ _ _ (by decide) (by decide), hheld]
    exact Dev.pair_wrPair_mod _ _ (by decide)

/-- A refused backward offset pends nothing (R76). -/
theorem Dev.refuseSync_backward_on (d : Dev) (ofs256 : Int) (gm : Nat) {k : Nat} (hk : 5 ≤ k ∧ k < 8) :
    (d.refuseSync .backward ofs256 gm).on ⟨TIME_STS, k, k⟩ = d.on ⟨TIME_STS, k, k⟩ :=
  d.refuseSync_on .backward ofs256 gm hk

/-- The first refusal of a series flags its cause (R77). -/
theorem Dev.refuseSync_flag (d : Dev) {c : RefCause} (ofs256 : Int) {gm : Nat} (h : d.tim.series ≠ some (c, gm)) :
    (d.refuseSync c ofs256 gm).on c.info.1 = true := by
  obtain ⟨j, hj, hj', hflag⟩ := c.flag_eq
  have hpart := d.refuseSync_pendPart c ofs256 gm
  rw [if_neg h] at hpart
  rw [hflag, Dev.on_of_pendPart hpart (by omega)]
  unfold Dev.refusalFlagged
  rw [hflag]
  exact Dev.on_set _ _ rfl (show j < 32 by omega)

/-- The first refusal of a series whose correction pends counts in TIME_PEND_SEQ (R77). -/
theorem Dev.refuseSync_seq (d : Dev) {c : RefCause} (ofs256 : Int) {gm : Nat} (hc : c.info.2.2 = true)
    (h : d.tim.series ≠ some (c, gm)) :
    (d.refuseSync c ofs256 gm).rn TIME_PEND_SEQ = (d.rn TIME_PEND_SEQ + 1) % 2 ^ 32 := by
  obtain ⟨j, _, _, hflag⟩ := c.flag_eq
  have hpart := d.refuseSync_pendPart c ofs256 gm
  rw [if_neg h] at hpart
  rw [Dev.rn_of_pendPart hpart (by decide)]
  unfold Dev.refusalFlagged Dev.refusalHeld
  rw [if_pos hc, hflag, Dev.rn_set_ne _ _ (show TIME_STS ≠ TIME_PEND_SEQ by decide), Dev.rn_bump_self]
  dsimp only
  rw [if_pos hc, Dev.rn_wrPair_ne _ _ (by decide) (by decide), Dev.rn_wrPair_ne _ _ (by decide) (by decide),
    Dev.rn_set_ne _ _ (by decide)]
  rfl

/-! ### Syncs within the limit (R72, R75) -/

theorem Dev.tsState_devTime (d : Dev) (st : Nat) : (d.tsState st).tim.dev = d.tim.dev :=
  Dev.devTime_of_pendPart (d.pendPart_tsState st)

theorem Dev.freshFreq_devTime (d : Dev) : d.freshFreq.tim.dev = d.tim.dev := Dev.devTime_of_pendPart d.pendPart_freshFreq

theorem Dev.loseLock_devTime (d : Dev) (ofs : Int) (gm : Nat) : (d.loseLock ofs gm).tim.dev = d.tim.dev :=
  Dev.devTime_of_pendPart (d.pendPart_loseLock ofs gm)

theorem Dev.enterLock_devTime (d : Dev) (ofs : Int) (gm : Nat) : (d.enterLock ofs gm).tim.dev = d.tim.dev := by
  unfold Dev.enterLock
  dsimp only
  rw [Dev.devTime_of_pendPart (Dev.pendPart_timePost ..), Dev.tsState_devTime]
  split <;> rfl

theorem Dev.devTime_ite {c : Prop} [Decidable c] {e f : Dev} {t : Nat} (he : e.tim.dev = t) (hf : f.tim.dev = t) :
    (if c then e else f).tim.dev = t := by
  split
  · exact he
  · exact hf

theorem Dev.goodSync_devTime (d : Dev) (ofs256 : Int) (gm : Nat) : (d.goodSync ofs256 gm).tim.dev = d.tim.dev := by
  unfold Dev.goodSync
  dsimp only
  split
  next => exact Dev.devTime_ite ((Dev.freshFreq_devTime _).trans (Dev.enterLock_devTime ..)) (Dev.freshFreq_devTime _)
  next => exact Dev.devTime_ite ((Dev.loseLock_devTime ..).trans (Dev.freshFreq_devTime _)) (Dev.freshFreq_devTime _)
  next => exact (Dev.freshFreq_devTime _).trans (Dev.enterLock_devTime ..)

/-! ### A Sync that the time base hears -/

/-- The device once a Sync of the primary domain is heard: its offset shows, and a pending correction follows it (R77). -/
def Dev.heardSync (d : Dev) (ofs256 : Int) (gm : Nat) : Dev :=
  (d.wr TIME_OFFSET (unsgn 32 (clampInt (-(2 ^ 31 - 1)) (2 ^ 31 - 1) ofs256))).trackPending ofs256 gm

theorem Dev.heardSync_tim (d : Dev) (ofs256 : Int) (gm : Nat) : (d.heardSync ofs256 gm).tim = d.tim := by
  unfold Dev.heardSync Dev.trackPending; split <;> rfl

theorem Dev.heardSync_rn (d : Dev) (ofs256 : Int) (gm : Nat) {b : Nat}
    (hb : b ∉ [TIME_OFFSET, TIME_PEND_OFS_LO, TIME_PEND_OFS_HI]) : (d.heardSync ofs256 gm).rn b = d.rn b := by
  simp only [List.mem_cons, List.not_mem_nil, or_false, not_or] at hb
  obtain ⟨ho, hl, hh⟩ := hb
  unfold Dev.heardSync Dev.trackPending
  split
  · rw [Dev.rn_wrPair_ne _ _ (Ne.symm hl) (Ne.symm hh), Dev.rn_wr_ne _ _ (Ne.symm ho)]
  · exact Dev.rn_wr_ne _ _ (Ne.symm ho)

theorem Dev.heardSync_jumpLimit (d : Dev) (ofs256 : Int) (gm : Nat) : (d.heardSync ofs256 gm).jumpLimit = d.jumpLimit := by
  unfold Dev.jumpLimit; rw [Dev.fld_of_rn (d.heardSync_rn ofs256 gm (by decide))]

/-- A Sync of the primary domain: which of its cases applies (R76). -/
theorem Dev.primarySync_eq (d : Dev) (m : Mem) (ofs256 : Int) (gm : Nat) :
    d.primarySync m ofs256 gm =
      let e := d.heardSync ofs256 gm
      if (d.tim.held.map (fun h => decide (h ≠ gm))).getD false then (e.refuseSync .gmChange ofs256 gm, m)
      else if ofs256 < -(256 * d.jumpLimit) then (e.refuseSync .backward ofs256 gm, m)
      else if d.on TIME_STS_EXEMPT_AVAIL then
        let e : Dev := { (e.clr TIME_STS_EXEMPT_AVAIL) with tim := { e.tim with held := some gm } }
        if 256 * d.jumpLimit < ofs256 then
          let e : Dev := { e with tim := { e.tim with series := none, good := 0 } }
          let r := e.stepTime m ofs256.toNat
          (r.1.timePost 0x0007 0 (ofs256 / 256) gm, r.2)
        else (e.goodSync ofs256 gm, m)
      else if 256 * d.jumpLimit < ofs256 then (e.refuseSync .jump ofs256 gm, m)
      else (e.goodSync ofs256 gm, m) := by
  have htim := d.heardSync_tim ofs256 gm
  have hlim := d.heardSync_jumpLimit ofs256 gm
  have hex : (d.heardSync ofs256 gm).on TIME_STS_EXEMPT_AVAIL = d.on TIME_STS_EXEMPT_AVAIL :=
    Dev.on_of_rn (d.heardSync_rn ofs256 gm (by decide))
  rw [← hlim, ← hex, ← htim]
  rfl

/-- Without the exemption no Sync of the primary domain steps the time (R75). -/
theorem Dev.primarySync_devTime (d : Dev) (m : Mem) (ofs256 : Int) (gm : Nat) (h : d.on TIME_STS_EXEMPT_AVAIL = false) :
    (d.primarySync m ofs256 gm).1.tim.dev = d.tim.dev ∧ (d.primarySync m ofs256 gm).2 = m := by
  have htim := congrArg TimSt.dev (d.heardSync_tim ofs256 gm)
  rw [d.primarySync_eq]
  dsimp only
  rw [h, if_neg Bool.false_ne_true]
  split
  · exact ⟨(Dev.refuseSync_devTime ..).trans htim, rfl⟩
  · split
    · exact ⟨(Dev.refuseSync_devTime ..).trans htim, rfl⟩
    · split
      · exact ⟨(Dev.refuseSync_devTime ..).trans htim, rfl⟩
      · exact ⟨(Dev.goodSync_devTime ..).trans htim, rfl⟩

end Sys2Proof.Machine
end

section
/-! PROOFS. Syncs that the time base hears, and a write of TIME_ACCEPT: the commands (R70, R75–R78). -/

namespace Sys2Proof.Machine

open R

/-! ### Which Syncs are heard -/

/-- The time base hears a Sync of this domain at this port (R70, R85, R87). -/
def Dev.hears (d : Dev) (dom port node : Nat) : Prop :=
  d.on (TIME_DOM_CFG_EN dom) = true ∧ d.ptpTakes port = true ∧ d.slavePort dom = some port ∧
    d.t1sTakes dom port node = true ∧ d.tim.mode = .servo ∧ d.fld (TIME_DOM_STS_STATE dom) ≠ 3

theorem Dev.sync_of_hears {d : Dev} {dom port node : Nat} (h : d.hears dom port node) (m : Mem) (diff256 : Int) (gm : Nat) :
    d.sync m dom port node diff256 gm =
      if dom = d.primary then (d.domGm dom gm).primarySync m (d.syncOffset port diff256) gm
      else ((d.domGm dom gm).secondarySync dom (d.syncOffset port diff256), m) := by
  obtain ⟨hen, htakes, hslave, ht1s, hmode, hstate⟩ := h
  unfold Dev.sync
  rw [if_neg]
  simp [hen, htakes, hslave, ht1s, hmode, hstate]

theorem Dev.domGm_tim (d : Dev) (dom gm : Nat) :
    (d.domGm dom gm).tim = { d.tim with domGm := tset 0 gm dom d.tim.domGm } := by
  unfold Dev.domGm; dsimp only; split <;> rfl

theorem Dev.domGm_rn (d : Dev) {dom gm b : Nat} (hb : b ≠ TIME_DOM_STS dom) : (d.domGm dom gm).rn b = d.rn b := by
  unfold Dev.domGm
  dsimp only
  split
  · exact d.rn_set_ne _ (show TIME_DOM_STS dom ≠ b from hb.symm)
  · rfl

/-- The device once a Sync of domain `dom` from `gm` is heard. -/
def Dev.afterHeard (d : Dev) (dom : Nat) (ofs256 : Int) (gm : Nat) : Dev := (d.domGm dom gm).heardSync ofs256 gm

section Heard

variable (d : Dev) {dom : Nat} (hdom : dom < 4) (ofs256 : Int) (gm : Nat)

theorem Dev.afterHeard_tim : (d.afterHeard dom ofs256 gm).tim = { d.tim with domGm := tset 0 gm dom d.tim.domGm } :=
  (Dev.heardSync_tim ..).trans (d.domGm_tim dom gm)

theorem Dev.afterHeard_series : (d.afterHeard dom ofs256 gm).tim.series = d.tim.series := by rw [d.afterHeard_tim]

theorem Dev.refuseSync_afterHeard_devTime (c : RefCause) :
    ((d.afterHeard dom ofs256 gm).refuseSync c ofs256 gm).tim.dev = d.tim.dev := by
  rw [Dev.refuseSync_devTime, d.afterHeard_tim]

include hdom

theorem Dev.afterHeard_rn {b : Nat} (hb : b ∈ [TIME_STS, TIME_PEND_SEQ]) :
    (d.afterHeard dom ofs256 gm).rn b = d.rn b := by
  have hne : b ∉ [TIME_OFFSET, TIME_PEND_OFS_LO, TIME_PEND_OFS_HI] ∧ b ≠ TIME_DOM_STS dom := by
    simp only [List.mem_cons, List.not_mem_nil, or_false] at hb
    obtain rfl | rfl := hb <;> exact ⟨by decide, by simp only [TIME_STS, TIME_PEND_SEQ, TIME_DOM_STS]; omega⟩
  exact (Dev.heardSync_rn _ _ _ hne.1).trans (d.domGm_rn hne.2)

theorem Dev.afterHeard_on (k : Nat) : (d.afterHeard dom ofs256 gm).on ⟨TIME_STS, k, k⟩ = d.on ⟨TIME_STS, k, k⟩ :=
  Dev.on_of_rn (d.afterHeard_rn hdom ofs256 gm (by decide : TIME_STS ∈ [TIME_STS, TIME_PEND_SEQ]))

end Heard

/-! ### What a Sync of the primary domain comes to -/

/-- The cases of R76 in the order in which they are decided. -/
theorem Dev.sync_primary {d : Dev} {m : Mem} {dom port node gm : Nat} {diff256 : Int} (hdom : dom < 4)
    (hhears : d.hears dom port node) (hprim : dom = d.primary)
    (hex : d.on TIME_STS_EXEMPT_AVAIL = false ∨ d.tim.held ≠ none ∧ d.tim.held ≠ some gm ∨
      d.syncOffset port diff256 < -(256 * d.jumpLimit)) :
    d.sync m dom port node diff256 gm =
      let ofs := d.syncOffset port diff256
      let e := d.afterHeard dom ofs gm
      if d.tim.held ≠ none ∧ d.tim.held ≠ some gm then (e.refuseSync .gmChange ofs gm, m)
      else if ofs < -(256 * d.jumpLimit) then (e.refuseSync .backward ofs gm, m)
      else if 256 * d.jumpLimit < ofs then (e.refuseSync .jump ofs gm, m)
      else (e.goodSync ofs gm, m) := by
  have hheld : (d.domGm dom gm).tim.held = d.tim.held := by rw [d.domGm_tim]
  have hsts : (d.domGm dom gm).rn TIME_STS = d.rn TIME_STS :=
    d.domGm_rn (by simp only [TIME_STS, TIME_DOM_STS]; omega)
  have hlim : (d.domGm dom gm).jumpLimit = d.jumpLimit := by
    unfold Dev.jumpLimit
    rw [Dev.fld_of_rn (d.domGm_rn (show TIME_JUMP_LIMIT_NS ≠ TIME_DOM_STS dom by
      simp only [TIME_JUMP_LIMIT_NS, TIME_DOM_STS]; omega))]
  have hother : (d.tim.held.map (fun h => decide (h ≠ gm))).getD false = true ↔
      d.tim.held ≠ none ∧ d.tim.held ≠ some gm := by
    cases d.tim.held <;> simp
  rw [Dev.sync_of_hears hhears, if_pos hprim, Dev.primarySync_eq, hheld, hlim,
    Dev.on_of_rn (f := TIME_STS_EXEMPT_AVAIL) hsts]
  simp only [hother]
  split
  next => rfl
  next hn =>
    split
    next => rfl
    next hb =>
      obtain h | h | h := hex
      · simp only [h, Bool.false_eq_true, if_false]; rfl
      · exact absurd h hn
      · exact absurd h hb

/-- Without the exemption no Sync of any domain steps the time (R75). -/
theorem Dev.sync_devTime {d : Dev} {dom : Nat} (hdom : dom < 4) (m : Mem) (port node : Nat) (diff256 : Int) (gm : Nat)
    (h : d.on TIME_STS_EXEMPT_AVAIL = false) :
    (d.sync m dom port node diff256 gm).1.tim.dev = d.tim.dev ∧ (d.sync m dom port node diff256 gm).2 = m := by
  have htim : (d.domGm dom gm).tim.dev = d.tim.dev := by rw [d.domGm_tim]
  have hex : (d.domGm dom gm).on TIME_STS_EXEMPT_AVAIL = false :=
    (Dev.on_of_rn (d.domGm_rn (show TIME_STS ≠ TIME_DOM_STS dom by simp only [TIME_STS, TIME_DOM_STS]; omega))).trans h
  unfold Dev.sync
  split
  · exact ⟨rfl, rfl⟩
  · split
    · obtain ⟨hdev, hmem⟩ := (d.domGm dom gm).primarySync_devTime m (d.syncOffset port diff256) gm hex
      exact ⟨hdev.trans htim, hmem⟩
    · exact ⟨htim, rfl⟩

/-! ### A write of TIME_ACCEPT (R78) -/

/-- The device once a pending correction is accepted, before the time follows it. -/
def Dev.accepted (d : Dev) : Dev :=
  let gm := d.pair TIME_PEND_GMID_LO TIME_PEND_GMID_HI
  let e : Dev := { (((d.clr TIME_STS_PENDING).clr TIME_STS_EXEMPT_AVAIL).wrPair TIME_GMID_LO TIME_GMID_HI gm) with
    tim := { d.tim with held := some gm, series := none, good := 0, bad := 0 } }
  ((e.wr TIME_LOCK_SECS d.lockSecs).put TIME_STS_HOLDOVER_AVAIL (b2n (decide (64 ≤ d.lockSecs)))).tsState 0

/-- A write of TIME_ACCEPT is refused (R78): its key, its sequence, no pending correction, or one too far backward. -/
def Dev.acceptRefused (d : Dev) (v : Nat) : Prop :=
  v % 65536 ≠ 0xACCE ∨ v / 65536 ≠ d.rn TIME_PEND_SEQ % 65536 ∨ d.on TIME_STS_PENDING = false ∨
    sgn 64 (d.pair TIME_PEND_OFS_LO TIME_PEND_OFS_HI) < -d.jumpLimit

theorem Dev.timeAccept_of_refused {d : Dev} {v : Nat} (m : Mem) (h : d.acceptRefused v) :
    d.timeAccept m v = (d.acceptFail, m) := by
  unfold Dev.timeAccept
  rw [if_pos]
  simpa [Dev.acceptRefused] using h

theorem Dev.timeAccept_of_accepted {d : Dev} {v : Nat} (m : Mem) (h : ¬d.acceptRefused v) :
    d.timeAccept m v =
      let ofs := sgn 64 (d.pair TIME_PEND_OFS_LO TIME_PEND_OFS_HI)
      let gm := d.pair TIME_PEND_GMID_LO TIME_PEND_GMID_HI
      let f := d.accepted
      let r := if f.jumpLimit < ofs then f.freeRun.stepTime m (256 * ofs.toNat) else (f.freshFreq, m)
      (r.1.timePost 0x0006 0 ofs gm, r.2) := by
  unfold Dev.timeAccept
  rw [if_neg]
  · rfl
  · simpa [Dev.acceptRefused] using h

theorem Dev.acceptFail_pendPart (d : Dev) : d.acceptFail.pendPart = (d.set TIME_STS_ACCEPT_FAIL).pendPart := by
  unfold Dev.acceptFail
  rw [Dev.pendPart_timePost, Dev.pendPart_raiseIf _ _ (by decide)]

theorem Dev.acceptFail_devTime (d : Dev) : d.acceptFail.tim.dev = d.tim.dev := by
  rw [Dev.devTime_of_pendPart d.acceptFail_pendPart, Dev.set_tim]

theorem Dev.acceptFail_on (d : Dev) : d.acceptFail.on TIME_STS_ACCEPT_FAIL = true :=
  (Dev.on_of_pendPart d.acceptFail_pendPart (k := 11) (by decide)).trans (Dev.on_set _ _ rfl (by decide))

theorem Dev.accepted_devTime (d : Dev) : d.accepted.tim.dev = d.tim.dev := Dev.tsState_devTime ..

theorem Dev.accepted_jumpLimit (d : Dev) : d.accepted.jumpLimit = d.jumpLimit := by
  have hretimed : ∀ (e : Dev) (t : TimSt) (b : Nat), ({ e with tim := t } : Dev).rn b = e.rn b := fun _ _ _ => rfl
  unfold Dev.jumpLimit Dev.accepted
  rw [Dev.fld_of_rn]
  rw [Dev.rn_of_pendPart (Dev.pendPart_tsState ..) (by decide), Dev.rn_put_ne _ _ _ (by decide),
    Dev.rn_wr_ne _ _ (by decide), hretimed, Dev.rn_wrPair_ne _ _ (by decide) (by decide), Dev.rn_clr_ne _ _ (by decide),
    Dev.rn_clr_ne _ _ (by decide)]

/-- At or below the limit an accepted correction is left to the rate: no write of TIME_ACCEPT steps the time (R78). -/
theorem Dev.timeAccept_devTime {d : Dev} {v : Nat} (m : Mem)
    (h : sgn 64 (d.pair TIME_PEND_OFS_LO TIME_PEND_OFS_HI) ≤ d.jumpLimit) :
    (d.timeAccept m v).1.tim.dev = d.tim.dev ∧ (d.timeAccept m v).2 = m := by
  by_cases href : d.acceptRefused v
  · rw [Dev.timeAccept_of_refused m href]
    exact ⟨d.acceptFail_devTime, rfl⟩
  · have hrate : ¬d.accepted.jumpLimit < sgn 64 (d.pair TIME_PEND_OFS_LO TIME_PEND_OFS_HI) := by
      rw [d.accepted_jumpLimit]; omega
    rw [Dev.timeAccept_of_accepted m href]
    dsimp only
    rw [if_neg hrate]
    refine ⟨?_, rfl⟩
    rw [Dev.devTime_of_pendPart (Dev.pendPart_timePost ..), Dev.freshFreq_devTime, d.accepted_devTime]

/-! ### The commands -/

theorem exec_syncReceived (s : State) (dt dom port : Nat) (diff256 : Int) (src : SyncFrom) :
    exec (.syncReceived dt dom port diff256 src) s = execSyncReceived dt dom port diff256 src s := rfl

theorem exec_timeAccept (s : State) (dt : Nat) (a : Sys2Proof.Acc) (v : Nat) :
    exec (.timeAccept dt a v) s = execTimeAccept dt a v s := rfl

theorem completes_syncReceived {s : State} {dt dom port : Nat} {diff256 : Int} {src : SyncFrom} {P : State → Prop}
    {r : Dev × Mem} (hdom : dom < 4) (hport : port < 16)
    (hr : (s.now dt).sync s.mem dom port src.node diff256 src.gm = r) (h : P (s.becomesM r.1 r.2)) :
    Completes (.syncReceived dt dom port diff256 src) s P := by
  refine completes_onAll (exec_syncReceived ..) (by simp [hdom, hport]) ?_
  rw [hr]
  exact h

theorem completes_timeAccept {s : State} {dt v : Nat} {a : Sys2Proof.Acc} {P : State → Prop} {r : Dev × Mem}
    (hmay : (s.now dt).mayWrite s.mem a TIME_ACCEPT) (hr : (s.now dt).timeAccept s.mem v = r)
    (h : P (s.becomesM r.1 r.2)) : Completes (.timeAccept dt a v) s P := by
  refine completes_onAll (exec_timeAccept ..) rfl ?_
  rw [Dev.regWriteM_pass hmay, hr]
  exact h

/-- Settles O10: of a heard Sync of the primary domain the cases of R76 in their order, each a refusal that touches the
device time as little as the servo does; of TIME_ACCEPT the refused write, and the accepted one that is left to the rate. -/
theorem noSyncStepsTimeWithoutExemption : Obligations.NoSyncStepsTimeWithoutExemption := by
  unfold Obligations.NoSyncStepsTimeWithoutExemption
  refine ⟨?noStep, ?jump, ?backward, ?otherMaster, ?small, ?refused⟩
  case noStep =>
    intro s dt dom port diff256 src d hdom hport hex
    obtain ⟨hdev, hmem⟩ := Dev.sync_devTime hdom s.mem port src.node diff256 src.gm hex
    exact completes_syncReceived hdom hport rfl ⟨hdev, hmem, rfl⟩
  case jump =>
    intro s dt dom port diff256 src d hdom hport hen htakes hslave ht1s hmode hstate hprim hex hheld hofs
    have hlim : 0 ≤ d.jumpLimit := Int.natCast_nonneg _
    have hsync := Dev.sync_primary (m := s.mem) (gm := src.gm) (diff256 := diff256) hdom
      ⟨hen, htakes, hslave, ht1s, hmode, hstate⟩ hprim (.inl hex)
    dsimp only at hsync
    rw [if_neg (by simp [hheld]), if_neg (by omega), if_pos hofs] at hsync
    obtain ⟨hpend, hpair, _⟩ := (d.afterHeard dom (d.syncOffset port diff256) src.gm).refuseSync_pending (c := .jump)
      (d.syncOffset port diff256) src.gm rfl
    exact completes_syncReceived hdom hport hsync ⟨hpend, hpair, rfl, rfl⟩
  case backward =>
    intro s dt dom port diff256 src d hdom hport hen htakes hslave ht1s hmode hstate hprim hheld hofs
    have hsync := Dev.sync_primary (m := s.mem) (gm := src.gm) (diff256 := diff256) hdom
      ⟨hen, htakes, hslave, ht1s, hmode, hstate⟩ hprim (.inr (.inr hofs))
    dsimp only at hsync
    rw [if_neg (by simp [hheld]), if_pos hofs] at hsync
    set e := d.afterHeard dom (d.syncOffset port diff256) src.gm with he
    have hon : ∀ k, 5 ≤ k ∧ k < 8 → (e.refuseSync .backward (d.syncOffset port diff256) src.gm).on ⟨TIME_STS, k, k⟩ =
        d.on ⟨TIME_STS, k, k⟩ := fun k hk => (e.refuseSync_backward_on _ _ hk).trans (d.afterHeard_on hdom _ _ k)
    refine completes_syncReceived hdom hport hsync
      ⟨d.refuseSync_afterHeard_devTime .., hon 5 (by decide), hon 6 (by decide), fun hnew => ?_, rfl, rfl⟩
    exact e.refuseSync_flag (c := .backward) _ (by rwa [he, d.afterHeard_series])
  case otherMaster =>
    intro s dt dom port diff256 src g d hdom hport hen htakes hslave ht1s hmode hstate hprim hheld hg
    have hother : d.tim.held ≠ none ∧ d.tim.held ≠ some src.gm := by simp [hheld, hg]
    have hsync := Dev.sync_primary (m := s.mem) (gm := src.gm) (diff256 := diff256) hdom
      ⟨hen, htakes, hslave, ht1s, hmode, hstate⟩ hprim (.inr (.inl hother))
    dsimp only at hsync
    rw [if_pos hother] at hsync
    set e := d.afterHeard dom (d.syncOffset port diff256) src.gm with he
    obtain ⟨hpend, hofs, hgm⟩ := e.refuseSync_pending (c := .gmChange) (d.syncOffset port diff256) src.gm rfl
    have hseq : e.rn TIME_PEND_SEQ = d.rn TIME_PEND_SEQ := d.afterHeard_rn hdom _ _ (by decide)
    refine completes_syncReceived hdom hport hsync
      ⟨d.refuseSync_afterHeard_devTime .., hpend, hofs, hgm, fun hnew => ?_, rfl, rfl⟩
    have hfirst : e.tim.series ≠ some (.gmChange, src.gm) := by rwa [he, d.afterHeard_series]
    exact ⟨e.refuseSync_flag (c := .gmChange) _ hfirst, (e.refuseSync_seq (c := .gmChange) _ rfl hfirst).trans (by rw [hseq])⟩
  case small =>
    intro s dt v a d hmay hofs
    obtain ⟨hdev, hmem⟩ := Dev.timeAccept_devTime (v := v) s.mem hofs
    exact completes_timeAccept hmay rfl ⟨hdev, hmem, rfl⟩
  case refused =>
    intro s dt v a d hmay href
    exact completes_timeAccept hmay (Dev.timeAccept_of_refused s.mem href)
      ⟨d.acceptFail_devTime, d.acceptFail_on, rfl, rfl⟩

end Sys2Proof.Machine
end

section
/-! PROOFS. The commands of the time base: Syncs of other domains, lost Syncs, Announces, peer-delay exchanges, TIME_ACCEPT
and the holdover mark (R70, R72, R73, R77, R78, R85). -/

namespace Sys2Proof.Machine

open R

theorem exec_syncReceiptTimeout (s : State) (dt dom : Nat) :
    exec (.syncReceiptTimeout dt dom) s = execSyncReceiptTimeout dt dom s := rfl

theorem exec_announceReceived (s : State) (dt dom : Nat) (h : Heard) :
    exec (.announceReceived dt dom h) s = execAnnounceReceived dt dom h s := rfl

theorem exec_pdelayExchange (s : State) (dt port : Nat) (delay : Option Nat) :
    exec (.pdelayExchange dt port delay) s = execPdelayExchange dt port delay s := rfl

theorem exec_holdoverAvailReached (s : State) (dt : Nat) :
    exec (.holdoverAvailReached dt) s = execHoldoverAvailReached dt s := rfl

/-! ### A row whose operands name resources of the device answers its effect -/

theorem State.onDev_next {s : State} {dt : Nat} {ok : Bool} {f : Dev → Dev} {e : Dev} (hok : ok = true)
    (h : f (s.now dt) = e) : s.onDev dt ok f = .next (s.becomes e) := by
  rw [State.onDev, if_pos hok, h]

theorem State.onDevM_next {s : State} {dt : Nat} {ok : Bool} {f : Mem → Dev → Dev} {e : Dev} (hok : ok = true)
    (h : f s.mem (s.now dt) = e) : s.onDevM dt ok f = .next (s.becomes e) := by
  rw [State.onDevM, if_pos hok, h]

theorem State.onAll_next {s : State} {dt : Nat} {ok : Bool} {f : Mem → Dev → Dev × Mem} {r : Dev × Mem} (hok : ok = true)
    (h : f s.mem (s.now dt) = r) : s.onAll dt ok f = .next (s.becomesM r.1 r.2) := by
  rw [State.onAll, if_pos hok]
  dsimp only
  rw [h]

/-- The same for a row that leaves memory as it was. -/
theorem State.onAll_next_sameMem {s : State} {dt : Nat} {ok : Bool} {f : Mem → Dev → Dev × Mem} {e : Dev} (hok : ok = true)
    (h : f s.mem (s.now dt) = (e, s.mem)) : s.onAll dt ok f = .next (s.becomes e) := State.onAll_next hok h

/-! ### Announces (R72, R85) -/

/-- The Announces that the device holds once a port of a domain has heard one, or has lost its last. -/
def Dev.announced (d : Dev) (dom : Nat) (h : Heard) : Dev :=
  { d with tim := { d.tim with ann := (match h.info with
    | some x => tput (16 * dom + h.port) x (terase (16 * dom + h.port) d.tim.ann)
    | none => terase (16 * dom + h.port) d.tim.ann) } }

theorem Dev.announce_eq {d : Dev} {dom : Nat} {h : Heard} (htakes : h.info.isSome = true → d.ptpTakes h.port = true) :
    d.announce dom h.port h.info = (d.announced dom h).bmca dom := by
  unfold Dev.announce
  rw [if_neg]
  · rfl
  · simpa using htakes

/-- Where no Announce held is better than the device's own vector, the BMCA selects none (R85). -/
theorem Dev.bestMaster_eq_none {d : Dev} {dom : Nat} (hcap : d.on (TIME_DOM_CFG_GM_CAPABLE dom) = true)
    (hown : ∀ x ∈ d.bestAnn dom, d.ownVector dom < annVector x.2 x.1) : d.bestMaster dom = none := by
  unfold Dev.bestMaster
  cases hbest : d.bestAnn dom with
  | none => rfl
  | some x => exact if_pos ⟨hcap, hown x hbest⟩

/-- The device is grandmaster of its primary domain where the BMCA selects no other clock in ACQUIRE (R72). -/
theorem Dev.bmca_grandmaster {d : Dev} {dom : Nat} (hprim : dom = d.primary) (hen : d.on (TIME_DOM_CFG_EN dom) = true)
    (hmode : d.on (TIME_DOM_CFG_MODE dom) = false) (hcap : d.on (TIME_DOM_CFG_GM_CAPABLE dom) = true)
    (hstate : d.fld TIME_STS_STATE = 0) (hbest : d.bestMaster dom = none) : d.bmca dom = d.beGrandmaster := by
  unfold Dev.bmca
  rw [if_neg (by simp [hen, hmode])]
  dsimp only
  rw [hbest]
  dsimp only [Option.map]
  rw [if_neg (by simp [hcap]), if_pos (beq_iff_eq.mpr hprim), if_pos hstate]

/-! ### The commands -/

/-- Settles O9, row by row. -/
theorem timeBaseCommandsTakeEffect : Obligations.TimeBaseCommandsTakeEffect := by
  unfold Obligations.TimeBaseCommandsTakeEffect
  refine ⟨?sync, ?lost, ?announce, ?pdelay, ?accept, ?holdover⟩
  case sync =>
    intro s dt dom port diff256 src d hdom hport hen htakes hslave ht1s hmode hstate hprim e he
    have hsync := Dev.sync_of_hears ⟨hen, htakes, hslave, ht1s, hmode, hstate⟩ s.mem diff256 src.gm
    rw [if_neg hprim] at hsync
    rw [he]
    exact (exec_syncReceived ..).trans (State.onAll_next_sameMem (by simp [hdom, hport]) hsync)
  case lost =>
    intro s dt dom d hdom hprim hstate
    refine (exec_syncReceiptTimeout ..).trans (State.onDev_next (decide_eq_true hdom) ?_)
    rw [if_neg hprim, if_pos hstate]
  case announce =>
    intro s dt dom h d e he hdom hport htakes hprim hen hmode hcap hstate hbest
    obtain rfl : e = d.announced dom h := he
    refine (exec_announceReceived ..).trans (State.onDev_next (by simp [hdom, hport]) ?_)
    rw [Dev.announce_eq htakes, Dev.bmca_grandmaster hprim hen hmode hcap hstate (Dev.bestMaster_eq_none hcap hbest)]
    rfl
  case pdelay =>
    intro s dt port v d hport hptp
    refine (exec_pdelayExchange ..).trans (State.onDev_next (decide_eq_true hport) ?_)
    have hheard : ¬(!(s.now dt).ptpPort port) = true := by rw [show (s.now dt).ptpPort port = true from hptp]; decide
    rw [if_neg hheard]
    simp only [Bool.or_eq_true, Bool.not_eq_true']
    rfl
  case accept =>
    intro s dt v a d ofs gm hmay hkey hseq hpend hlim e he f hf
    have hacc : ¬d.acceptRefused v := by
      rintro (h | h | h | h)
      · exact h hkey
      · exact h hseq
      · simp [hpend] at h
      · exact absurd hlim (not_le.mpr h)
    obtain rfl : f = d.accepted := by rw [hf, he]; rfl
    refine (exec_timeAccept ..).trans ((State.onAll_next rfl
      ((Dev.regWriteM_pass (f := fun m d => d.timeAccept m v) hmay).trans (Dev.timeAccept_of_accepted s.mem hacc))).trans ?_)
    dsimp only
    split <;> rfl
  case holdover =>
    intro s dt d hstate hsecs
    refine (exec_holdoverAvailReached ..).trans (State.onDev_next rfl ?_)
    rw [if_pos ⟨hstate, hsecs⟩]

end Sys2Proof.Machine
end

section
/-! PROOFS. Timed-action slots, TOUT pins and TCAP pins: the commands (R97–R101, R105). -/

namespace Sys2Proof.Machine

open R

theorem exec_slotArm (s : State) (dt : Nat) (a : Sys2Proof.Acc) (n v : Nat) :
    exec (.slotArm dt a n v) s = execSlotArm dt a n v s := rfl

theorem exec_slotDisarm (s : State) (dt : Nat) (a : Sys2Proof.Acc) (n v : Nat) :
    exec (.slotDisarm dt a n v) s = execSlotDisarm dt a n v s := rfl

theorem exec_slotFire (s : State) (dt n : Nat) : exec (.slotFire dt n) s = execSlotFire dt n s := rfl

theorem exec_toutPulseEnd (s : State) (dt k : Nat) : exec (.toutPulseEnd dt k) s = execToutPulseEnd dt k s := rfl

theorem exec_tcapEdge (s : State) (dt k : Nat) (falling : Bool) :
    exec (.tcapEdge dt k falling) s = execTcapEdge dt k falling s := rfl

theorem exec_tcapPop (s : State) (dt : Nat) (a : Sys2Proof.Acc) (k : Nat) :
    exec (.tcapPop dt a k) s = execTcapPop dt a k s := rfl

/-! ### A write of TTA_SLOTn_CMD (R98) -/

/-- The device once a write of TTA_SLOTn_CMD has cleared the sticky bits that it writes 1. -/
def Dev.slotCleared (d : Dev) (n v : Nat) : Dev :=
  d.wr (TTA_SLOT_CMD n) (d.rn (TTA_SLOT_CMD n) - (d.rn (TTA_SLOT_CMD n) &&& (v &&& 0xE00)))

theorem Dev.slotCleared_slot (d : Dev) (n v k : Nat) : (d.slotCleared n v).slot k = d.slot k := by
  unfold Dev.slotCleared Dev.slot; rw [Dev.wr_tta]

theorem Dev.slotCmd_arm {d : Dev} {n v : Nat} (m : Mem) (harm : bit 0 v = true) (hdis : bit 1 v = false)
    (hidle : (d.slot n).armed = false) : d.slotCmd m n v = (d.slotCleared n v).slotArm m n := by
  unfold Dev.slotCmd
  rw [if_neg (by simp [hdis]), if_neg (by simp [hidle])]
  exact if_pos harm

theorem Dev.slotCmd_disarm {d : Dev} {n v : Nat} (m : Mem) (harm : bit 0 v = false) (hdis : bit 1 v = true) :
    d.slotCmd m n v = ((d.slotCleared n v).slotDisarm n, m) := by
  unfold Dev.slotCmd
  rw [if_neg (by simp [harm]), if_neg (by simp [harm])]
  exact (if_neg (by simp [harm])).trans (if_pos hdis)

/-- An arm that passes the checks of R98 and comes no later than the lead time allows. -/
theorem Dev.slotArm_inTime {d : Dev} {n : Nat} {m : Mem} (hok : d.armOk m (d.captureSlot n) = true)
    (hlead : d.ns256 + 256 * leadNs (d.captureSlot n).action ≤ (d.captureSlot n).instant 0) :
    d.slotArm m n = (d.slotArmed n (d.captureSlot n), m) := by
  unfold Dev.slotArm
  rw [if_neg (by simp [hok]), if_neg (by omega)]

/-- A slot whose action is not left with the Heavia die disarms at once (R97). -/
theorem Dev.slotDisarm_tout {d : Dev} {n : Nat} (harmed : (d.slot n).armed = true)
    (hact : (d.slot n).action = 1 ∨ (d.slot n).action = 2) : d.slotDisarm n = d.slotIdle n 0 := by
  unfold Dev.slotDisarm
  obtain h | h := hact <;> simp [harmed, h]

/-! ### The firing of a slot (R99) -/

/-- Where a slot that drives a TOUT pin sets its level (R102). -/
theorem Dev.toutBy_inTime {d : Dev} {n : Nat} {s : Slot} (lvl : Nat) (pulse : List (Nat × Nat) → List (Nat × Nat))
    (hlast : (tget (0, 0) d.tta.last s.target).1 ≠ s.instant s.next) :
    d.toutBy n s false lvl pulse =
      ({ d with tta := { d.tta with
          pulse := pulse d.tta.pulse, last := tset (0, 0) (s.instant s.next, n) s.target d.tta.last } } : Dev).toutPut
        s.target lvl :=
  if_neg fun h => hlast h.1

/-- A one-shot slot with action 1 drives its pin and is unarmed. -/
theorem Dev.slotFire_oneShot {d : Dev} {n : Nat} (m : Mem) (harmed : (d.slot n).armed = true)
    (hact : (d.slot n).action = 1) (hone : (d.slot n).periodic = false) (hleft : (d.slot n).left = 1)
    (hirq : bit 7 (d.slot n).cfg = false) :
    d.slotFire m n =
      ((d.toutBy n (d.slot n) false ((d.slot n).arg % 2) (terase (d.slot n).target)).slotIdle n 0, m) := by
  unfold Dev.slotFire Dev.slotAct
  simp [harmed, hact, hone, hleft, hirq]

/-! ### TCAP (R105) -/

/-- An edge that is taken: selected, apart from the last, with room in the FIFO. -/
theorem Dev.tcapEdge_taken {d : Dev} {k : Nat} {falling : Bool}
    (hapart : ∀ e ∈ (d.tcap k).lastEdge, e + 2560 ≤ d.ns256) (hsel : bit (b2n falling) (d.fld (TTA_TCAP_CFG_EDGE k)) = true)
    (hroom : (d.tcap k).fifo.length < 16) (hirq : d.on (TTA_TCAP_CFG_IRQ_EN k) = false)
    (howned : d.fld (TTA_TCAP_CFG_OWNER k) ≠ 15) :
    d.tcapEdge k falling = d.setTcap k { (d.tcap k) with
      lastEdge := some d.ns256, fifo := (d.tcap k).fifo ++ [{ time256 := d.ns256, falling := falling }], burst := false } := by
  have hlast : ((d.tcap k).lastEdge.map (fun e => decide (e + 2560 ≤ d.ns256))).getD true = true := by
    cases h : (d.tcap k).lastEdge with
    | none => rfl
    | some e => exact decide_eq_true (hapart e h)
  have hquiet : ∀ t : Tcap, ¬((d.setTcap k t).on (TTA_TCAP_CFG_IRQ_EN k) = true) := fun t => by
    rw [show (d.setTcap k t).on (TTA_TCAP_CFG_IRQ_EN k) = d.on (TTA_TCAP_CFG_IRQ_EN k) from Dev.on_of_rn rfl, hirq]
    decide
  unfold Dev.tcapEdge
  rw [if_neg howned, if_neg (by simp [hlast, hsel]), if_pos hroom]
  exact if_neg fun h => hquiet _ h.1

/-- Settles O11, row by row. -/
theorem slotAndPinCommandsTakeEffect : Obligations.SlotAndPinCommandsTakeEffect := by
  unfold Obligations.SlotAndPinCommandsTakeEffect
  refine ⟨?arm, ?disarm, ?fire, ?pulseEnd, ?edge, ?pop⟩
  case arm =>
    intro s dt n v a d hn hmay harm hdis e he hidle hok hlead
    obtain rfl : e = d.slotCleared n v := he
    rw [Dev.slotCleared_slot] at hidle
    refine (exec_slotArm ..).trans (State.onAll_next_sameMem (decide_eq_true hn) ?_)
    exact (Dev.regWriteM_pass hmay).trans ((Dev.slotCmd_arm s.mem harm hdis hidle).trans (Dev.slotArm_inTime hok hlead))
  case disarm =>
    intro s dt n v a d hn hmay harm hdis e he harmed hact
    obtain rfl : e = d.slotCleared n v := he
    rw [← Dev.slotDisarm_tout harmed hact]
    refine (exec_slotDisarm ..).trans (State.onAll_next_sameMem (decide_eq_true hn) ?_)
    exact (Dev.regWriteM_pass hmay).trans (Dev.slotCmd_disarm s.mem harm hdis)
  case fire =>
    intro s dt n d hn harmed hact hone hleft hirq hdue hlast hnone
    refine (exec_slotFire ..).trans (State.onAll_next_sameMem (decide_eq_true hn) ?_)
    rw [hnone]
    dsimp only
    rw [if_pos hdue, Dev.slotFire_oneShot s.mem harmed hact hone hleft hirq, Dev.toutBy_inTime _ _ hlast]
  case pulseEnd =>
    intro s dt k d hk hpulse hover
    exact (exec_toutPulseEnd ..).trans
      (State.onDev_next (decide_eq_true hk) (if_pos ⟨hpulse, decide_eq_true hover⟩))
  case edge =>
    intro s dt k falling d hk hapart hsel hroom hirq howned
    exact (exec_tcapEdge ..).trans
      (State.onDev_next (decide_eq_true hk) (Dev.tcapEdge_taken hapart hsel hroom hirq howned))
  case pop =>
    intro s dt k a e rest d hk hmay hfifo
    refine (exec_tcapPop ..).trans (State.onDevM_next (decide_eq_true hk) ((Dev.regRead_pass hmay).trans ?_))
    unfold Dev.tcapPop
    dsimp only
    rw [hfifo]

end Sys2Proof.Machine
end

section
/-! PROOFS. How device time passes in each mode (R67, R68, R82, R84), and what a lapse of time leaves as it was. All of O42
is here, with the one premise that its statement lacks: the cores that run are cores of the device. -/

namespace Sys2Proof.Machine

open R

/-! ### Registers and records before the time advances -/

theorem Dev.wakeIdle_rn (d : Dev) (b : Nat) : d.wakeIdle.rn b = d.rn b :=
  d.wakeIdle_keeps (·.rn b) (fun _ _ => rfl) (fun _ _ => rfl)

theorem Dev.wakeIdle_running (d : Dev) : d.wakeIdle.wld.running = d.wld.running :=
  d.wakeIdle_keeps (·.wld.running) (fun _ _ => rfl) (fun _ _ => rfl)

theorem Dev.wakeIdle_log (d : Dev) : d.wakeIdle.log = d.log := d.wakeIdle_keeps Dev.log (fun _ _ => rfl) (fun _ _ => rfl)

theorem Dev.present_log (d : Dev) : d.present.log = d.log := by
  have henter : ∀ (e : Dev) (f : Fld) (w : WorldSt), ({ e.set f with wld := w } : Dev).log = e.log := fun _ _ _ => rfl
  unfold Dev.present
  refine Dev.each_keeps Dev.log _ (fun k e => ?_) d _
  split
  · exact henter ..
  · rfl

/-- An entry into the Guard world changes no register but the Guard information of a running core. -/
theorem Dev.present_rn (d : Dev) {b : Nat} (h : ∀ k ∈ d.wld.running, MAN_CORE_GINFO k ≠ b) : d.present.rn b = d.rn b := by
  have henter : ∀ (e : Dev) (f : Fld) (w : WorldSt), f.addr ≠ b → ({ e.set f with wld := w } : Dev).rn b = e.rn b :=
    fun e f _ hf => e.rn_set_ne f hf
  unfold Dev.present
  refine Dev.each_keeps_mem (·.rn b) _ d _ fun k hk e => ?_
  split
  · exact henter _ _ _ (h k hk)
  · rfl

theorem Dev.tallyAdd_queue (d : Dev) (ctl ev k : Nat) (ovf : Fld) (src owner inst : Nat) :
    (d.tallyAdd ctl ev k ovf src owner inst).log.queue = d.log.queue := by
  have hstage : ∀ (e : Dev) (r : Rec), (e.stageAdd r).log.queue = e.log.queue := fun e r => by
    unfold Dev.stageAdd; split <;> rfl
  unfold Dev.tallyAdd
  dsimp only
  split
  · rfl
  · split
    · rfl
    · rw [hstage]
      split
      · rw [Dev.raise_log, Dev.set_log, Dev.wrPair_log]
      · rw [Dev.set_log, Dev.wrPair_log]

theorem Dev.untimed_queue (d : Dev) (dt : Nat) : (d.untimed dt).log.queue = d.log.queue := by
  unfold Dev.untimed
  rw [Dev.tallyCycles_keeps (·.log.queue) (fun _ _ => rfl) (fun e _ _ _ _ _ _ _ _ _ _ => e.tallyAdd_queue ..),
    Dev.present_log, Dev.wakeIdle_log]

theorem Dev.untimed_freq {d : Dev} (h : ∀ k ∈ d.wld.running, k < 12) (dt : Nat) :
    (d.untimed dt).rn TIME_FREQ = d.rn TIME_FREQ := by
  have hcores : ∀ k ∈ d.wakeIdle.wld.running, MAN_CORE_GINFO k ≠ TIME_FREQ := by
    intro k hk
    have := h k (d.wakeIdle_running ▸ hk)
    simp only [MAN_CORE_GINFO, TIME_FREQ]; omega
  unfold Dev.untimed
  rw [Dev.tallyCycles_keeps (·.rn TIME_FREQ) (fun _ _ => rfl)
      (fun e _ _ _ _ _ _ _ hs hc ho => e.rn_tallyAdd hs hc ho (by decide)), Dev.present_rn _ hcores,
    Dev.wakeIdle_rn]

theorem Dev.up_of_restT {d e : Dev} (h : d.restT = e.restT) : d.up = e.up := (congrArg Dev.up h :)
theorem Dev.frm_of_restT {d e : Dev} (h : d.restT = e.restT) : d.frm = e.frm := (congrArg Dev.frm h :)
theorem Dev.chans_of_restT {d e : Dev} (h : d.restT = e.restT) : d.chans = e.chans := (congrArg Dev.chans h :)
theorem Dev.sbx_of_restT {d e : Dev} (h : d.restT = e.restT) : d.sbx = e.sbx := (congrArg Dev.sbx h :)

/-! ### The advance of time, mode by mode -/

theorem Dev.advance_servo {d : Dev} (dt : Nat) (h : d.tim.mode = .servo) :
    d.advance dt =
      let n := d.tim.rem + servoStep dt (sgn 32 (d.rn TIME_FREQ) + d.tim.drift)
      { d with up := d.up + dt, tim := { d.tim with dev := d.tim.dev + n / 10000000000, rem := n % 10000000000 } } := by
  unfold Dev.advance; dsimp only; rw [h]

theorem Dev.advance_heavia {d : Dev} (dt : Nat) (h : d.tim.mode = .heavia) :
    d.advance dt = { d with up := d.up + dt, tim := { d.tim with
      dev := d.tim.baseDev + heaviaAdvance (d.up + dt - d.tim.baseUp) } } := by
  unfold Dev.advance; dsimp only; rw [h]

theorem Dev.advance_frozen {d : Dev} (dt : Nat) (h : d.tim.mode = .frozen) : d.advance dt = { d with up := d.up + dt } := by
  unfold Dev.advance; dsimp only; rw [h]

theorem Dev.advance_beforeStart {d : Dev} {dt : Nat} (h : d.tim.mode = .stopped) (hdt : dt < d.tim.startIn) :
    d.advance dt = { d with up := d.up + dt, tim := { d.tim with startIn := d.tim.startIn - dt } } := by
  unfold Dev.advance; dsimp only; rw [h]; exact if_pos hdt

/-- The device as its time starts, with bit 6 of SYS_READY where an image has been applied (R408). -/
def Dev.timeReady (d : Dev) : Dev :=
  let e : Dev := { d with up := d.up + d.tim.startIn }
  if d.boot.phase == .applied || d.boot.phase == .sealed then e.ready 6 else e

theorem Dev.advance_start {d : Dev} {dt : Nat} (h : d.tim.mode = .stopped) (hdt : d.tim.startIn ≤ dt) :
    d.advance dt =
      let dev := 65536 * (dt - d.tim.startIn)
      { d.timeReady with up := d.up + dt, tim := { d.tim with
          startIn := 0, mode := (if d.timeReady.frm.beyvoUp then .servo else .heavia), dev := dev, baseDev := dev,
          baseUp := d.up + dt } } := by
  unfold Dev.advance; dsimp only; rw [h]; exact if_neg (by omega)

/-! ### The arithmetic of the servo and of the oscillator -/

/-- Within the trim range the servo advances the time by 1 ns per ns, give or take 200 ppm and one unit (R67). -/
theorem servo_within_200ppm {rem dt : Nat} {f : Int} (hlo : -80000 ≤ f) (hhi : f ≤ 80000) (hrem : rem < 10000000000) :
    dt * 65536 * 9998 ≤ 10000 * ((rem + servoStep dt f) / 10000000000 + 1) ∧
      10000 * ((rem + servoStep dt f) / 10000000000) ≤ dt * 65536 * 10002 + 10000 := by
  have hdt : 0 ≤ (dt : Int) * 65536 := by omega
  have hslow : (dt : Int) * 65536 * 9998000000 ≤ (dt : Int) * 65536 * (10000000000 + 25 * f) :=
    mul_le_mul_of_nonneg_left (by omega) hdt
  have hfast : (dt : Int) * 65536 * (10000000000 + 25 * f) ≤ (dt : Int) * 65536 * 10002000000 :=
    mul_le_mul_of_nonneg_left (by omega) hdt
  unfold servoStep
  generalize (dt : Int) * 65536 * (10000000000 + 25 * f) = z at hslow hfast ⊢
  omega

/-- A cycle of the oscillator counts for less than its nominal period, by 20 ppm of it (R82, R83). -/
theorem heaviaAdvance_bounds (e : Nat) :
    heaviaAdvance e ≤ e * 65536 ∧ e * 65536 * 999960 ≤ 1000000 * (heaviaAdvance e + 65536 * 30518) := by
  unfold heaviaAdvance
  omega

theorem heaviaAdvance_mono {e e' : Nat} (h : e ≤ e') : heaviaAdvance e ≤ heaviaAdvance e' := by
  unfold heaviaAdvance
  gcongr

/-! ### What a lapse does to the device time -/

/-- Under the servo, within the trim range: 200 ppm (R67). -/
theorem Dev.pass_servo {d : Dev} (hcores : ∀ k ∈ d.wld.running, k < 12) (dt : Nat) (hmode : d.tim.mode = .servo)
    (hlo : -80000 ≤ sgn 32 (d.rn TIME_FREQ) + d.tim.drift) (hhi : sgn 32 (d.rn TIME_FREQ) + d.tim.drift ≤ 80000)
    (hrem : d.tim.rem < 10000000000) :
    dt * 65536 * 9998 ≤ 10000 * ((d.pass dt).tim.dev - d.tim.dev + 1) ∧
      10000 * ((d.pass dt).tim.dev - d.tim.dev) ≤ dt * 65536 * 10002 + 10000 ∧ (d.pass dt).tim.rem < 10000000000 := by
  rw [d.pass_eq, Dev.advance_servo dt (by rw [d.untimed_tim, hmode])]
  dsimp only
  rw [d.untimed_tim, Dev.untimed_freq hcores, Nat.add_sub_cancel_left]
  obtain ⟨hslow, hfast⟩ := servo_within_200ppm (dt := dt) hlo hhi hrem
  exact ⟨hslow, hfast, Nat.mod_lt _ (by decide)⟩

/-- Frozen, the time stands still (R84). -/
theorem Dev.pass_frozen {d : Dev} (dt : Nat) (hmode : d.tim.mode = .frozen) : (d.pass dt).tim.dev = d.tim.dev := by
  rw [d.pass_eq, Dev.advance_frozen dt (by rw [d.untimed_tim, hmode])]
  dsimp only
  rw [d.untimed_tim]

/-- Under the servo and frozen the time never decreases, whatever the frequency (R68). -/
theorem Dev.devTime_le_pass {d : Dev} (dt : Nat) (hmode : d.tim.mode = .servo ∨ d.tim.mode = .frozen) :
    d.tim.dev ≤ (d.pass dt).tim.dev := by
  obtain h | h := hmode
  · rw [d.pass_eq, Dev.advance_servo dt (by rw [d.untimed_tim, h])]
    dsimp only
    rw [d.untimed_tim]
    exact Nat.le_add_right ..
  · rw [Dev.pass_frozen dt h]

/-- On the oscillator the time is that which was taken over, and what the cycles since then come to (R82). -/
theorem Dev.pass_heavia {d : Dev} (dt : Nat) (hmode : d.tim.mode = .heavia) :
    (d.pass dt).tim.dev = d.tim.baseDev + heaviaAdvance (d.up + dt - d.tim.baseUp) := by
  rw [d.pass_eq, Dev.advance_heavia dt (by rw [d.untimed_tim, hmode])]
  dsimp only
  rw [d.untimed_tim, Dev.up_of_restT (d.restT_untimed dt)]

/-- It is never ahead of the time passed, at most 40 ppm and a cycle behind it, and does not decrease (R68, R82). -/
theorem Dev.pass_heavia_bounds {d : Dev} (dt : Nat) (hmode : d.tim.mode = .heavia) :
    (d.pass dt).tim.dev ≤ d.tim.baseDev + (d.up + dt - d.tim.baseUp) * 65536 ∧
      (d.up + dt - d.tim.baseUp) * 65536 * 999960 ≤ 1000000 * ((d.pass dt).tim.dev - d.tim.baseDev + 65536 * 30518) ∧
      (d.tim.dev = d.tim.baseDev + heaviaAdvance (d.up - d.tim.baseUp) → d.tim.dev ≤ (d.pass dt).tim.dev) := by
  obtain ⟨hahead, hbehind⟩ := heaviaAdvance_bounds (d.up + dt - d.tim.baseUp)
  rw [Dev.pass_heavia dt hmode, Nat.add_sub_cancel_left]
  refine ⟨Nat.add_le_add_left hahead _, hbehind, fun hnow => ?_⟩
  rw [hnow]
  exact Nat.add_le_add_left (heaviaAdvance_mono (by omega)) _

/-- Before its start the time reads as it did (R68). -/
theorem Dev.pass_beforeStart {d : Dev} {dt : Nat} (hmode : d.tim.mode = .stopped) (hdt : dt < d.tim.startIn) :
    (d.pass dt).tim = { d.tim with startIn := d.tim.startIn - dt } := by
  rw [d.pass_eq, Dev.advance_beforeStart (by rw [d.untimed_tim, hmode]) (by rw [d.untimed_tim]; exact hdt)]
  dsimp only
  rw [d.untimed_tim]

@[simp] theorem Dev.ready_frm (d : Dev) (n : Nat) : (d.ready n).frm = d.frm := by
  unfold Dev.ready; split <;> rfl

theorem Dev.timeReady_frm (d : Dev) : d.timeReady.frm = d.frm := by
  unfold Dev.timeReady
  dsimp only
  split
  · exact Dev.ready_frm ..
  · rfl

/-- From its start the time counts from 0, under the servo or on the oscillator as the Beyvo die is up or not (R68). -/
theorem Dev.pass_start {d : Dev} {dt : Nat} (hmode : d.tim.mode = .stopped) (hdt : d.tim.startIn ≤ dt) :
    (d.pass dt).tim.dev = 65536 * (dt - d.tim.startIn) ∧
      (d.pass dt).tim.mode = (if d.frm.beyvoUp then .servo else .heavia) := by
  rw [d.pass_eq, Dev.advance_start (by rw [d.untimed_tim, hmode]) (by rw [d.untimed_tim]; exact hdt)]
  dsimp only
  rw [d.untimed_tim, Dev.timeReady_frm, Dev.frm_of_restT (d.restT_untimed dt)]
  exact ⟨rfl, rfl⟩

/-! ### What a lapse leaves as it was -/

/-- The advance of time keeps all but the instant, the time base's part and, at the start, the ready bits. -/
theorem Dev.advance_keeps (d : Dev) (dt : Nat) :
    (d.advance dt).up = d.up + dt ∧ (d.advance dt).rn TIME_FREQ = d.rn TIME_FREQ ∧ (d.advance dt).chans = d.chans ∧
      (d.advance dt).sbx = d.sbx ∧ (d.advance dt).log = d.log := by
  cases hmode : d.tim.mode with
  | servo => rw [Dev.advance_servo dt hmode]; exact ⟨rfl, rfl, rfl, rfl, rfl⟩
  | heavia => rw [Dev.advance_heavia dt hmode]; exact ⟨rfl, rfl, rfl, rfl, rfl⟩
  | frozen => rw [Dev.advance_frozen dt hmode]; exact ⟨rfl, rfl, rfl, rfl, rfl⟩
  | stopped =>
    by_cases hdt : dt < d.tim.startIn
    · rw [Dev.advance_beforeStart hmode hdt]; exact ⟨rfl, rfl, rfl, rfl, rfl⟩
    · have hready : d.timeReady.rn TIME_FREQ = d.rn TIME_FREQ ∧ d.timeReady.chans = d.chans ∧ d.timeReady.sbx = d.sbx ∧
          d.timeReady.log = d.log := by
        unfold Dev.timeReady Dev.ready
        dsimp only
        split
        · split
          · exact ⟨rfl, rfl, rfl, rfl⟩
          · refine ⟨?_, rfl, rfl, rfl⟩
            rw [Dev.rn_wr_ne _ _ (by decide), Dev.rn_set_ne _ _ (by decide)]
            rfl
        · exact ⟨rfl, rfl, rfl, rfl⟩
      rw [Dev.advance_start hmode (by omega)]
      exact ⟨rfl, hready⟩

/-- A lapse keeps the frequency word, the channels, the strongbox and the waiting records. -/
theorem Dev.pass_keeps {d : Dev} (hcores : ∀ k ∈ d.wld.running, k < 12) (dt : Nat) :
    (d.pass dt).up = d.up + dt ∧ (d.pass dt).rn TIME_FREQ = d.rn TIME_FREQ ∧ (d.pass dt).chans = d.chans ∧
      (d.pass dt).sbx = d.sbx ∧ (d.pass dt).log.queue = d.log.queue := by
  have hrest := d.restT_untimed dt
  obtain ⟨hup, hfreq, hchans, hsbx, hlog⟩ := (d.untimed dt).advance_keeps dt
  rw [d.pass_eq, hup, hfreq, hchans, hsbx, hlog, Dev.untimed_freq hcores, Dev.untimed_queue]
  exact ⟨by rw [Dev.up_of_restT hrest], rfl, Dev.chans_of_restT hrest, Dev.sbx_of_restT hrest, rfl⟩

end Sys2Proof.Machine
end

section
/-! PROOFS. A device state whose frequency word does not survive a lapse: the list of running cores, which R422 fills with
the twelve cores of the device, is a plain list of numbers in the model, and its Guard entries (R341) write the Guard
information of whatever number stands in it. -/

namespace Sys2Proof.Machine

open R

/-- A core number that the device does not have: its Guard information would be the frequency word of the time base. -/
def strayCore : Nat := (TIME_FREQ - MAN_CORE_GINFO 0) / 4

/-- The reset device, but with that number among the running cores, a Guard dispatch pending for it, and its priority
mask open. -/
def strayDev : Dev :=
  { Dev.reset with
    regs := [(IRQ_LC_PMR strayCore 1, 32)]
    wld := { WorldSt.reset with running := [strayCore], dispatch := [(strayCore, true)] } }

/-- The pending dispatch is presented before any time passes, and the entry sets IN_GUARD in the frequency word. -/
theorem strayDev_freq : strayDev.rn TIME_FREQ = 0 ∧ (strayDev.pass 0).rn TIME_FREQ = 2 ^ 20 := by decide

/-- Refutes O42: of `strayDev`, in which a number that is no core of the device runs, a lapse of 0 ns changes the frequency
word. -/
theorem not_deviceTimeFollowsItsMode : ¬ Obligations.DeviceTimeFollowsItsMode := by
  unfold Obligations.DeviceTimeFollowsItsMode
  intro h
  obtain ⟨_, _, _, _, _, _, _, hfreq, _⟩ := h strayDev 0
  obtain ⟨hbefore, hafter⟩ := strayDev_freq
  rw [hbefore, hafter] at hfreq
  exact absurd hfreq (by decide)

end Sys2Proof.Machine
end

section
/-! PROOFS. What posting a record adds to the logbook and to the pending interrupts, and what it can never take away: records
that wait stay in their places at the front of the post queue (R122), and a source that pends stays pending (R348). -/

namespace Sys2Proof.Machine

open R

/-- `e` comes from `d` by events that only add: records behind those of the post queue, and pending sources. -/
structure Dev.Adds (d e : Dev) : Prop where
  queue : d.log.queue <+: e.log.queue
  ovwPosted : e.log.ovwPosted = d.log.ovwPosted
  pending : ∀ w k, w < 16 → d.on ⟨IRQ_PEND w, k, k⟩ = true → e.on ⟨IRQ_PEND w, k, k⟩ = true

/-- Where the logbook and the registers of the interrupt controllers stay, nothing is taken away. -/
theorem Dev.Adds.of_log {d e : Dev} (hlog : e.log = d.log) (hreg : ∀ w, w < 16 → e.rn (IRQ_PEND w) = d.rn (IRQ_PEND w)) :
    d.Adds e :=
  ⟨hlog ▸ List.prefix_rfl, by rw [hlog], fun w _ hw h => (Dev.on_of_rn (hreg w hw)).trans h⟩

theorem Dev.Adds.refl (d : Dev) : d.Adds d := .of_log rfl fun _ _ => rfl

theorem Dev.Adds.trans {d e f : Dev} (h : d.Adds e) (h' : e.Adds f) : d.Adds f :=
  ⟨h.queue.trans h'.queue, h'.ovwPosted.trans h.ovwPosted, fun w k hw hon => h'.pending w k hw (h.pending w k hw hon)⟩

theorem Dev.Adds.ite {d e f : Dev} {c : Prop} [Decidable c] (he : d.Adds e) (hf : d.Adds f) : d.Adds (if c then e else f) := by
  split
  · exact he
  · exact hf

/-! ### Registers and interrupts -/

theorem Dev.adds_wr (d : Dev) {a : Nat} (v : Nat) (h : a / 0x10000 ≠ 0x4005) : d.Adds (d.wr a v) :=
  .of_log rfl fun w hw => d.rn_wr_ne v (by simp only [IRQ_PEND]; omega)

theorem Dev.adds_put (d : Dev) {f : Fld} (v : Nat) (h : f.addr / 0x10000 ≠ 0x4005) : d.Adds (d.put f v) := d.adds_wr _ h

theorem Dev.adds_wrPair (d : Dev) {lo hi : Nat} (v : Nat) (hl : lo / 0x10000 ≠ 0x4005) (hh : hi / 0x10000 ≠ 0x4005) :
    d.Adds (d.wrPair lo hi v) := (d.adds_wr _ hl).trans (Dev.adds_wr _ _ hh)

/-- One bit of a register that is set leaves every bit set that was. -/
theorem Dev.on_set_of_on (d : Dev) {a b j k : Nat} (hj : j < 32) (h : d.on ⟨a, k, k⟩ = true) :
    (d.set ⟨b, j, j⟩).on ⟨a, k, k⟩ = true := by
  by_cases hk : j = k
  · by_cases ha : b = a
    · subst hk ha
      exact d.on_set _ rfl hj
    · exact (Dev.on_of_rn (d.rn_set_ne _ ha)).trans h
  · have hapart : (d.set ⟨b, j, j⟩).fld ⟨a, k, k⟩ = d.fld ⟨a, k, k⟩ :=
      d.fld_set_apart _ _ le_rfl hj le_rfl (Nat.lt_or_gt_of_ne hk)
    rw [Dev.on, hapart]
    exact h

theorem Dev.adds_raise (d : Dev) (src : Nat) : d.Adds (d.raise src) :=
  .ite (.refl d) ⟨List.prefix_rfl, rfl, fun _ _ _ h => d.on_set_of_on (Nat.mod_lt _ (by decide)) h⟩

theorem Dev.adds_raiseIf (d : Dev) (en : Fld) (src : Nat) : d.Adds (d.raiseIf en src) := .ite (d.adds_raise src) (.refl d)

/-- A source that is enabled and routed pends once its event has come (R347, R348). -/
theorem Dev.on_raiseIf {d : Dev} {en : Fld} {src : Nat} (hen : d.on en = true) (hroute : d.fld (IRQ_ROUTE_OWNER src) ≠ 15) :
    (d.raiseIf en src).on ⟨IRQ_PEND (src / 32), src % 32, src % 32⟩ = true := by
  rw [Dev.raiseIf, if_pos hen, Dev.raise, if_neg hroute]
  exact d.on_set _ rfl (Nat.mod_lt _ (by decide))

/-! ### Counted events -/

theorem Dev.adds_stageAdd (d : Dev) (r : Rec) : d.Adds (d.stageAdd r) :=
  .ite (.refl d) ⟨List.prefix_rfl, rfl, fun _ _ _ h => h⟩

theorem Dev.adds_tallyAdd (d : Dev) {ctl ev k : Nat} {ovf : Fld} {src owner inst : Nat}
    (hc : 0x40070000 ≤ ctl ∧ ctl + 8 < 0x40080000) (ho : ovf.addr / 0x10000 = 0x4007) :
    d.Adds (d.tallyAdd ctl ev k ovf src owner inst) := by
  have hcount : ∀ v, d.Adds (d.wrPair (ctl + 4) (ctl + 8) v) := fun v => d.adds_wrPair v (by omega) (by omega)
  have hset : ∀ v, d.Adds ((d.wrPair (ctl + 4) (ctl + 8) v).set ovf) := fun v => (hcount v).trans (Dev.adds_put _ _ (by omega))
  exact .ite (.refl d) (.ite (hcount _) (.trans (.ite ((hset _).trans (Dev.adds_raise ..)) (hset _)) (Dev.adds_stageAdd ..)))

theorem Dev.adds_tallyCount (d : Dev) {ctl ev k : Nat} {ovf : Fld} {src owner inst : Nat} {adds : Bool}
    (hc : 0x40070000 ≤ ctl ∧ ctl + 8 < 0x40080000) (ho : ovf.addr / 0x10000 = 0x4007) :
    d.Adds (d.tallyCount ctl ev k ovf src owner inst adds) := by
  have hpulse : ∀ t : TalSt, d.Adds { d with tal := t } := fun _ => .of_log rfl fun _ _ => rfl
  exact .ite (.refl d) (.ite (hpulse _) ((hpulse _).trans (Dev.adds_tallyAdd _ hc ho)))

theorem Dev.adds_each {α : Type} (d : Dev) (l : List α) (f : α → Dev → Dev) (h : ∀ x ∈ l, ∀ e : Dev, e.Adds (f x e)) :
    d.Adds (d.each l f) := by
  unfold Dev.each
  induction l generalizing d with
  | nil => exact .refl d
  | cons x l ih => exact (h x (by simp) d).trans (ih _ fun y hy => h y (by simp [hy]))

theorem Dev.adds_tallyD (d : Dev) (ev k : Nat) : d.Adds (d.tallyD ev k) := by
  refine d.adds_each _ _ fun n hn e => e.adds_tallyCount ?_ (show TALLY_D_STS / 0x10000 = 0x4007 by decide)
  have := List.mem_range.mp hn
  simp only [TALLY_D_CTL]; omega

/-! ### Records -/

theorem Dev.adds_aoSelect (d : Dev) (r : Rec) : d.Adds (d.aoSelect r) :=
  .ite ⟨List.prefix_rfl, rfl, fun _ _ _ h => h⟩ (.refl d)

theorem Dev.adds_enqueue (d : Dev) (r : Rec) : d.Adds (d.enqueue r) := by
  refine .ite (.of_log rfl fun _ _ => rfl) (.ite ⟨List.prefix_append .., rfl, fun _ _ _ h => h⟩ ?_)
  have hdrop : d.Adds { d with log := { d.log with dropped := d.log.dropped + 1 } } :=
    ⟨List.prefix_rfl, rfl, fun _ _ _ h => h⟩
  exact hdrop.trans (((Dev.adds_wr _ _ (by decide)).trans (Dev.adds_put _ _ (by decide))).trans (Dev.adds_raiseIf ..))

theorem Dev.adds_postRaw (d : Dev) (r : Rec) : d.Adds (d.postRaw r) :=
  .ite (((d.adds_aoSelect _).trans (Dev.adds_enqueue ..)).trans (Dev.adds_tallyD ..)) (d.adds_aoSelect _)

theorem Dev.adds_pinTo (d : Dev) {f : Fld} (which : Nat) (high : Bool) (hf : f.addr = FRM_STS) :
    d.Adds (d.pinTo f which high) :=
  .ite (.refl d) (((d.adds_put _ (by rw [hf]; decide)).trans (Dev.adds_raiseIf ..)).trans (Dev.adds_postRaw ..))

theorem Dev.adds_pin (d : Dev) {f : Fld} (which : Nat) (high : Bool) (hf : f.addr = FRM_STS) : d.Adds (d.pin f which high) :=
  .ite (d.adds_pinTo which high hf)
    (((d.adds_pinTo which high hf).trans (Dev.adds_put _ _ (by decide))).trans (Dev.adds_pinTo _ 0 false rfl))

theorem Dev.adds_pend (d : Dev) (sev : Nat) : d.Adds (d.pend sev) :=
  .ite ((d.adds_put _ (by decide)).trans (Dev.adds_pin _ 0 _ rfl)) (.refl d)

theorem Dev.adds_post (d : Dev) (block code sev owner inst : Nat) (data : List Nat) :
    d.Adds (d.post block code sev owner inst data) := (d.adds_postRaw _).trans (Dev.adds_pend ..)

/-! ### Where a posted record goes -/

theorem Dev.aoSelect_queue (d : Dev) (r : Rec) : (d.aoSelect r).log.queue = d.log.queue := by
  unfold Dev.aoSelect; split <;> rfl

theorem Dev.aoSelect_frm (d : Dev) (r : Rec) : (d.aoSelect r).frm = d.frm := (congrArg Dev.frm (d.rest_aoSelect r) :)

theorem Dev.enqueue_queue {d : Dev} (r : Rec) (hready : bit 18 (d.rn SYS_READY) = true) (hroom : d.log.queue.length < 64) :
    (d.enqueue r).log.queue = d.log.queue ++ [r] := by
  rw [Dev.enqueue, if_neg (by simp [hready]), if_pos hroom]

/-- A record posted while LOGB is ready and the queue has room comes right behind those that wait (R122). -/
theorem Dev.post_queue {d : Dev} (block code sev owner inst : Nat) (data : List Nat)
    (hready : bit 18 (d.rn SYS_READY) = true) (hup : d.frm.beyvoUp = true) (hroom : d.log.queue.length < 64) :
    ∃ x more, (d.post block code sev owner inst data).log.queue = d.log.queue ++ x :: more ∧ x.block = block ∧ x.code = code := by
  set r := d.mkRec block code sev owner inst data
  obtain ⟨x, hx⟩ : ∃ x, x = if d.aoSelects r then { r with flags := r.flags + 2 } else r := ⟨_, rfl⟩
  have hsame : x.block = block ∧ x.code = code := by
    rw [hx]; split <;> exact ⟨rfl, rfl⟩
  have hraw : d.postRaw r = ((d.aoSelect x).enqueue x).tallyD 0x84 1 := by
    unfold Dev.postRaw; rw [← hx]; exact if_pos (by rwa [Dev.aoSelect_frm])
  have henq : ((d.aoSelect x).enqueue x).log.queue = d.log.queue ++ [x] := by
    rw [Dev.enqueue_queue x (by rwa [Dev.rn_aoSelect]) (by rwa [Dev.aoSelect_queue]), Dev.aoSelect_queue]
  have hafter : ((d.aoSelect x).enqueue x).Adds (d.post block code sev owner inst data) := by
    rw [Dev.post, Dev.postRec, hraw]
    exact (Dev.adds_tallyD ..).trans (Dev.adds_pend ..)
  obtain ⟨more, hmore⟩ := hafter.queue
  exact ⟨x, more, by rw [← hmore, henq, List.append_assoc, List.singleton_append], hsame⟩

end Sys2Proof.Machine
end

section
/-! PROOFS. The write of the oldest posted record to the main ring (R115, R120, R121): the slot it takes, and the overwrite of
the oldest unread record in a full ring. -/

namespace Sys2Proof.Machine

open R

/-- No register shows the logbook's part of the state. -/
theorem Dev.rn_withLog (d : Dev) (l : LogSt) (b : Nat) : ({ d with log := l } : Dev).rn b = d.rn b := rfl

/-! ### The overwrite rule (R121) -/

/-- The unread records fill the ring: 65,536 of them, by counts that wrap (R121). -/
def Dev.ringFull (d : Dev) : Prop := (d.rn LOGB_WR_CNT + 2 ^ 32 - d.rn LOGB_RD_CNT) % 2 ^ 32 = 65536

/-- The device once it has counted an overwrite, before any report of it. -/
def Dev.overwritten (d : Dev) : Dev :=
  (((d.bump LOGB_RD_CNT).bump LOGB_OVW_CNT).set LOGB_STS_OVERWRITE).raiseIf LOGB_INT_EN_OVERWRITE 353

theorem Dev.overwritten_log (d : Dev) : d.overwritten.log = d.log := Dev.raiseIf_log ..

theorem Dev.overwrite_of_not_full {d : Dev} (h : ¬d.ringFull) : d.overwrite = d := if_neg h

theorem Dev.overwrite_of_reported {d : Dev} (hfull : d.ringFull) (h : d.log.ovwPosted = true) : d.overwrite = d.overwritten :=
  (if_pos hfull).trans (if_pos ((congrArg LogSt.ovwPosted d.overwritten_log).trans h))

/-- The first overwrite is reported. -/
theorem Dev.overwrite_of_unreported {d : Dev} (hfull : d.ringFull) (h : d.log.ovwPosted = false) :
    d.overwrite = ({ d.overwritten with log := { d.log with ovwPosted := true } } : Dev).post 0x60 0x0001 0 9 0 := by
  have hnot : ¬d.overwritten.log.ovwPosted = true := by rw [d.overwritten_log, h]; decide
  rw [← d.overwritten_log]
  exact (if_pos hfull).trans (if_neg hnot)

/-- In a full ring the next record to be written has the slot of the oldest unread one. -/
theorem Dev.ringAddr_of_full {d : Dev} (h : d.ringFull) : ringAddr (d.rn LOGB_WR_CNT) = ringAddr (d.rn LOGB_RD_CNT) := by
  have := d.rn_lt LOGB_WR_CNT
  have := d.rn_lt LOGB_RD_CNT
  unfold Dev.ringFull at h
  unfold ringAddr
  omega

theorem Dev.rn_overwritten (d : Dev) {b : Nat} (hb : calm b) :
    d.overwritten.rn b = ((d.bump LOGB_RD_CNT).bump LOGB_OVW_CNT).rn b := by
  rw [Dev.overwritten, Dev.rn_raiseIf _ _ (by decide) hb, Dev.rn_set_ne]
  simp only [LOGB_STS_OVERWRITE, LOGB_STS]
  unfold calm at hb; omega

/-- Whether it is reported or not, an overwrite leaves the registers as its counting did. -/
theorem Dev.rn_overwrite_of_full {d : Dev} (hfull : d.ringFull) {b : Nat} (hb : calm b) :
    d.overwrite.rn b = ((d.bump LOGB_RD_CNT).bump LOGB_OVW_CNT).rn b := by
  cases h : d.log.ovwPosted with
  | true => rw [Dev.overwrite_of_reported hfull h, d.rn_overwritten hb]
  | false =>
    rw [Dev.overwrite_of_unreported hfull h, Dev.rn_post _ hb, Dev.rn_withLog, d.rn_overwritten hb]

theorem Dev.rn_overwrite (d : Dev) {b : Nat} (hb : calm b) (hrd : LOGB_RD_CNT ≠ b) (hovw : LOGB_OVW_CNT ≠ b) :
    d.overwrite.rn b = d.rn b := by
  by_cases hfull : d.ringFull
  · rw [Dev.rn_overwrite_of_full hfull hb, Dev.rn_bump_ne _ hovw, Dev.rn_bump_ne _ hrd]
  · rw [Dev.overwrite_of_not_full hfull]

theorem Dev.overwrite_ovwPosted {d : Dev} (hfull : d.ringFull) : d.overwrite.log.ovwPosted = true := by
  cases h : d.log.ovwPosted with
  | true => rw [Dev.overwrite_of_reported hfull h, d.overwritten_log, h]
  | false => rw [Dev.overwrite_of_unreported hfull h, (Dev.adds_post ..).ovwPosted]

/-- The source of the overwrite, enabled and routed, pends after it. -/
theorem Dev.overwrite_pends {d : Dev} (hfull : d.ringFull) (hen : d.on LOGB_INT_EN_OVERWRITE = true)
    (hroute : d.fld (IRQ_ROUTE_OWNER 353) ≠ 15) : d.overwrite.on ⟨IRQ_PEND 11, 1, 1⟩ = true := by
  have hkept : ∀ {b : Nat}, LOGB_RD_CNT ≠ b → LOGB_OVW_CNT ≠ b → LOGB_STS ≠ b →
      (((d.bump LOGB_RD_CNT).bump LOGB_OVW_CNT).set LOGB_STS_OVERWRITE).rn b = d.rn b := fun hrd hovw hsts =>
    (Dev.rn_set_ne _ _ hsts).trans ((Dev.rn_bump_ne _ hovw).trans (Dev.rn_bump_ne _ hrd))
  have hpend : d.overwritten.on ⟨IRQ_PEND 11, 1, 1⟩ = true := by
    refine Dev.on_raiseIf ?_ ?_
    · rwa [Dev.on_of_rn (hkept (by decide) (by decide) (by decide))]
    · rwa [Dev.fld_of_rn (hkept (by decide) (by decide) (by decide))]
  cases h : d.log.ovwPosted with
  | true => rwa [Dev.overwrite_of_reported hfull h]
  | false =>
    rw [Dev.overwrite_of_unreported hfull h]
    exact (Dev.adds_post ..).pending 11 1 (by decide) hpend

/-- The record of the first overwrite joins the post queue behind those that wait (R121, R122). -/
theorem Dev.overwrite_queue {d : Dev} (hfull : d.ringFull) (hposted : d.log.ovwPosted = false)
    (hready : bit 18 (d.rn SYS_READY) = true) (hup : d.frm.beyvoUp = true) (hroom : d.log.queue.length < 64) :
    ∃ x more, d.overwrite.log.queue = d.log.queue ++ x :: more ∧ x.block = 0x60 ∧ x.code = 1 := by
  rw [Dev.overwrite_of_unreported hfull hposted]
  refine Dev.post_queue _ _ _ _ _ _ ?_ ?_ hroom
  · rwa [Dev.rn_withLog, d.rn_overwritten (by decide), Dev.rn_bump_ne _ (by decide), Dev.rn_bump_ne _ (by decide)]
  · exact (congrArg FrmSt.beyvoUp (Dev.raiseIf_frm ..)).trans hup

/-! ### The write of the oldest record (R120) -/

/-- The device with these records left in the post queue. -/
def Dev.withQueue (d : Dev) (rest : List Rec) : Dev := { d with log := { d.log with queue := rest } }

theorem Dev.rn_withQueue (d : Dev) (rest : List Rec) (b : Nat) : (d.withQueue rest).rn b = d.rn b := rfl

/-- The device once the record at the front of the post queue has been written, `rest` waiting behind it. -/
def Dev.recordWritten (d : Dev) (rest : List Rec) : Dev := ((d.withQueue rest).overwrite.bump LOGB_WR_CNT).logThresh

theorem exec_logbookRecordWrite (s : State) (dt : Nat) :
    exec (.logbookRecordWrite dt) s = execLogbookRecordWrite dt s := rfl

/-- With a record waiting, the row takes it off the queue and writes its words to the ring at LOGB_WR_CNT. -/
theorem exec_logbookRecordWrite_of_queue {s : State} {dt : Nat} {r : Rec} {rest : List Rec}
    (hqueue : (s.now dt).log.queue = r :: rest) :
    exec (.logbookRecordWrite dt) s = .next (s.becomesM ((s.now dt).recordWritten rest)
      (Mem.setWords s.mem (ringAddr ((s.now dt).rn LOGB_WR_CNT)) r.words)) := by
  unfold Dev.recordWritten Dev.withQueue
  rw [exec_logbookRecordWrite, execLogbookRecordWrite, State.onAll, if_pos rfl, hqueue]

/-- A statement about the row is one about what it leaves of the device and of memory. -/
theorem completes_logbookRecordWrite {s : State} {dt : Nat} {r : Rec} {rest : List Rec} {P : State → Prop}
    (hqueue : (s.now dt).log.queue = r :: rest)
    (h : ∀ e m, e = (s.now dt).recordWritten rest →
      m = Mem.setWords s.mem (ringAddr ((s.now dt).rn LOGB_WR_CNT)) r.words → P (s.becomesM e m)) :
    Completes (.logbookRecordWrite dt) s P :=
  ⟨_, exec_logbookRecordWrite_of_queue hqueue, h _ _ rfl rfl⟩

theorem Dev.rn_logThresh (d : Dev) {b : Nat} (hb : calm b) : d.logThresh.rn b = d.rn b := by
  unfold Dev.logThresh
  split
  · exact d.rn_raiseIf _ (by decide) hb
  · rfl

/-- Behind the overwrite rule the write counts in LOGB_WR_CNT and may raise the threshold's source: nothing is taken away. -/
theorem Dev.overwrite_adds_recordWritten (d : Dev) (rest : List Rec) :
    (d.withQueue rest).overwrite.Adds (d.recordWritten rest) :=
  (Dev.adds_wr _ _ (by decide)).trans (.ite (Dev.adds_raiseIf ..) (.refl _))

theorem Dev.recordWritten_log (d : Dev) (rest : List Rec) :
    (d.recordWritten rest).log = (d.withQueue rest).overwrite.log := by
  unfold Dev.recordWritten Dev.logThresh
  split
  · rw [Dev.raiseIf_log, Dev.bump_log]
  · rw [Dev.bump_log]

/-- Written or overwriting, a record counts one in LOGB_WR_CNT (R120). -/
theorem Dev.wrCnt_recordWritten (d : Dev) (rest : List Rec) :
    (d.recordWritten rest).rn LOGB_WR_CNT = (d.rn LOGB_WR_CNT + 1) % 2 ^ 32 := by
  rw [Dev.recordWritten, Dev.rn_logThresh _ (by decide), Dev.rn_bump_self,
    Dev.rn_overwrite _ (by decide) (by decide) (by decide), Dev.rn_withQueue]

/-- In a full ring the registers other than LOGB_WR_CNT are left as the overwrite's counting left them. -/
theorem Dev.rn_recordWritten_of_full {d : Dev} (rest : List Rec) (hfull : d.ringFull) {b : Nat} (hb : calm b)
    (hne : LOGB_WR_CNT ≠ b) : (d.recordWritten rest).rn b = ((d.bump LOGB_RD_CNT).bump LOGB_OVW_CNT).rn b := by
  rw [Dev.recordWritten, Dev.rn_logThresh _ hb, Dev.rn_bump_ne _ hne]
  exact Dev.rn_overwrite_of_full (d := d.withQueue rest) hfull hb

theorem Rec.words_length (r : Rec) : r.words.length = 8 := rfl

/-- Byte `i` of a record's 32 bytes in memory (R115). -/
theorem Mem.byte_setWords_record (m : Mem) (a : Nat) (r : Rec) {i : Nat} (hi : i < 32) :
    Mem.byte (Mem.setWords m a r.words) (a + i) = BitVec.ofNat 8 ((r.words.flatMap (leBytes 4)).getD i 0) := by
  have hlen : i < (r.words.flatMap (leBytes 4)).length := by rwa [flatMap_leBytes_length, r.words_length]
  rw [Mem.setWords, Mem.byte_setBytes_inside _ _ _ _ hlen, List.getD_eq_getElem _ _ hlen]

/-- Settles O13: the words of the record are all that the row stores, and the overwrite rule leaves LOGB_WR_CNT. -/
theorem recordWriteTouchesOnlyItsRingSlot : Obligations.RecordWriteTouchesOnlyItsRingSlot := by
  unfold Obligations.RecordWriteTouchesOnlyItsRingSlot
  intro s dt r rest d hqueue
  refine completes_logbookRecordWrite hqueue fun e m he hm => ⟨fun x hx => ?outside, fun i hi => ?inside, rfl, ?count⟩
  case outside => rw [hm, Mem.byte_setWords_outside _ _ _ _ hx]
  case inside => rw [hm, Mem.byte_setWords_record _ _ _ hi]
  case count => rw [he, Dev.wrCnt_recordWritten]

/-! ### Guard's consumed count (R121) -/

theorem exec_logbRdCntWrite (s : State) (dt : Nat) (a : Sys2Proof.Acc) (v : Nat) :
    exec (.logbRdCntWrite dt a v) s = execLogbRdCntWrite dt a v s := rfl

/-- A consumed count that is not beyond LOGB_WR_CNT is taken, and the next overwrite is reported again. -/
theorem exec_logbRdCntWrite_taken {s : State} {dt v : Nat} {a : Sys2Proof.Acc}
    (hmay : (s.now dt).mayWrite s.mem a LOGB_RD_CNT)
    (hv : ((s.now dt).rn LOGB_WR_CNT + 2 ^ 32 - v % 2 ^ 32) % 2 ^ 32 < 2 ^ 31) :
    exec (.logbRdCntWrite dt a v) s = .next (s.becomes
      (({ s.now dt with log := { (s.now dt).log with ovwPosted := false } } : Dev).wr LOGB_RD_CNT v)) :=
  (exec_logbRdCntWrite ..).trans (State.onDevM_next rfl ((Dev.regWrite_pass hmay).trans (if_pos hv)))

/-- Settles O36: of the write the slot, the counts, the source and the report of the first overwrite; of the consumed count
that it is taken. -/
theorem fullRingOverwritesOldestRecord : Obligations.FullRingOverwritesOldestRecord := by
  unfold Obligations.FullRingOverwritesOldestRecord
  refine ⟨?overwrite, ?consumed⟩
  case overwrite =>
    intro s dt r rest d hqueue hfull
    obtain ⟨f, hf⟩ : ∃ f, f = d.withQueue rest := ⟨_, rfl⟩
    have hfull' : f.ringFull := hf ▸ hfull
    have hslot := Dev.ringAddr_of_full hfull
    refine completes_logbookRecordWrite hqueue fun e m he hm => ?_
    have hlog : e.log = f.overwrite.log := by rw [he, hf]; exact d.recordWritten_log rest
    have hcount : ∀ b, calm b → LOGB_WR_CNT ≠ b → e.rn b = ((d.bump LOGB_RD_CNT).bump LOGB_OVW_CNT).rn b :=
      fun b hb hne => by rw [he]; exact Dev.rn_recordWritten_of_full rest hfull hb hne
    refine ⟨hslot, ?mem, ?rdCnt, ?ovwCnt, ?source, ?posted, ?silent, ?report⟩
    case mem => rw [← hslot, hm]
    case rdCnt =>
      rw [hcount _ (by decide) (by decide), Dev.rn_bump_ne _ (by decide), Dev.rn_bump_self]
    case ovwCnt =>
      rw [hcount _ (by decide) (by decide), Dev.rn_bump_self, Dev.rn_bump_ne _ (by decide)]
    case source =>
      intro hen hroute
      have hadds : f.overwrite.Adds e := by rw [he, hf]; exact d.overwrite_adds_recordWritten rest
      exact hadds.pending 11 1 (by decide) (Dev.overwrite_pends hfull' (hf ▸ hen) (hf ▸ hroute))
    case posted => rw [hlog, Dev.overwrite_ovwPosted hfull']
    case silent =>
      intro hposted
      rw [hlog, Dev.overwrite_of_reported hfull' (hf ▸ hposted), f.overwritten_log, hf, Dev.withQueue]
    case report =>
      intro hposted hready hup hroom
      obtain ⟨x, more, hx, hrec⟩ := Dev.overwrite_queue hfull' (hf ▸ hposted) (hf ▸ hready) (hf ▸ hup) (hf ▸ hroom)
      exact ⟨x, more, by rw [hlog, hx, hf, Dev.withQueue], hrec⟩
  case consumed =>
    intro s dt v a d hmay hv
    exact ⟨_, exec_logbRdCntWrite_taken hmay hv, rfl, Dev.rn_wr_self .., rfl, rfl⟩

end Sys2Proof.Machine
end

section
/-! PROOFS. The commands of the logbook and of the always-on log (R118, R120–R127), and what a down H-link does to them (R27,
R310). -/

namespace Sys2Proof.Machine

open R

theorem exec_droppedRecordsReport (s : State) (dt : Nat) :
    exec (.droppedRecordsReport dt) s = execDroppedRecordsReport dt s := rfl

theorem exec_logbSpostGo (s : State) (dt : Nat) (a : Sys2Proof.Acc) (page v : Nat) :
    exec (.logbSpostGo dt a page v) s = execLogbSpostGo dt a page v s := rfl

theorem exec_alwaysOnWrite (s : State) (dt : Nat) (cut : Bool) :
    exec (.alwaysOnWrite dt cut) s = execAlwaysOnWrite dt cut s := rfl

theorem exec_alwaysOnFetch (s : State) (dt : Nat) (a : Sys2Proof.Acc) (v : Nat) :
    exec (.alwaysOnFetch dt a v) s = execAlwaysOnFetch dt a v s := rfl

theorem exec_alwaysOnFetchDone (s : State) (dt : Nat) :
    exec (.alwaysOnFetchDone dt) s = execAlwaysOnFetchDone dt s := rfl

theorem exec_aoClearWriteOnce (s : State) (dt : Nat) (a : Sys2Proof.Acc) (v : Nat) :
    exec (.aoClearWriteOnce dt a v) s = execAoClearWriteOnce dt a v s := rfl

theorem exec_aoClearWholeLog (s : State) (dt : Nat) (a : Sys2Proof.Acc) (v : Nat) :
    exec (.aoClearWholeLog dt a v) s = execAoClearWholeLog dt a v s := rfl

/-! ### LOGB_AO_CLR (R127) -/

/-- The write carries the key, the fill of the write-once region and this scope (R127). -/
def Dev.clearMatches (d : Dev) (v scope : Nat) : Prop :=
  bits 15 0 v = 0xA0C1 ∧ bits 21 16 v = d.fld LOGB_AO_STS_WO_FILL ∧ bits 23 22 v = scope

/-- While the H-link is down, the write to the Heavia die is lost whatever its scope (R310). -/
theorem Dev.aoClear_linkDown {d : Dev} {v scope : Nat} (hm : d.clearMatches v scope) (hdown : d.on HLK_STS_UP = false) :
    d.aoClear v scope = d.discarded := (if_pos hm).trans (if_pos (by rw [hdown]; rfl))

theorem Dev.aoClear_linkUp {d : Dev} {v scope : Nat} (hm : d.clearMatches v scope) (hup : d.on HLK_STS_UP = true) :
    d.aoClear v scope =
      if scope = 0 then
        (({ d with log := { d.log with
            ao := d.log.ao.filter (fun e => 32 ≤ e.1), aoNew := d.log.aoNew.filter (32 ≤ ·) } } : Dev).clr
          LOGB_AO_STS_WO_FILL).aoClearRecord 0
      else (({ d with log := { d.log with ao := [], aoNew := [] } } : Dev).wr LOGB_AO_STS 0x2000).aoClearRecord 1 :=
  (if_pos hm).trans (if_neg (by rw [hup]; decide))

/-- A write to LOGB_AO_CLR that the checks let through has the effect of its scope's command. -/
theorem exec_aoClearWriteOnce_pass {s : State} {dt v : Nat} {a : Sys2Proof.Acc} {e : Dev}
    (hmay : (s.now dt).mayWrite s.mem a LOGB_AO_CLR) (h : (s.now dt).aoClear v 0 = e) :
    exec (.aoClearWriteOnce dt a v) s = .next (s.becomes e) :=
  (exec_aoClearWriteOnce ..).trans (State.onDevM_next rfl ((Dev.regWrite_pass hmay).trans h))

theorem exec_aoClearWholeLog_pass {s : State} {dt v : Nat} {a : Sys2Proof.Acc} {e : Dev}
    (hmay : (s.now dt).mayWrite s.mem a LOGB_AO_CLR) (h : (s.now dt).aoClear v 1 = e) :
    exec (.aoClearWholeLog dt a v) s = .next (s.becomes e) :=
  (exec_aoClearWholeLog ..).trans (State.onDevM_next rfl ((Dev.regWrite_pass hmay).trans h))

/-- Settles O12, row by row. -/
theorem logbookCommandsTakeEffect : Obligations.LogbookCommandsTakeEffect := by
  unfold Obligations.LogbookCommandsTakeEffect
  refine ⟨?recordWrite, ?dropped, ?spost, ?rdCnt, ?aoWrite, ?fetch, ?fetched, ?clearOnce, ?clearAll, ?linkDown, ?fetchWaits⟩
  case recordWrite =>
    intro s dt r rest d hqueue
    exact exec_logbookRecordWrite_of_queue hqueue
  case dropped =>
    intro s dt d hdrops hroom
    exact (exec_droppedRecordsReport ..).trans (State.onDev_next rfl (if_pos ⟨hdrops, hroom⟩))
  case spost =>
    intro s dt page v a d hpage hmay
    exact (exec_logbSpostGo ..).trans (State.onDevM_next (decide_eq_true hpage) (Dev.regWrite_pass hmay))
  case rdCnt =>
    intro s dt v a d hmay hv
    exact exec_logbRdCntWrite_taken hmay hv
  case aoWrite =>
    intro s dt cut r rest d hqueue
    refine (exec_alwaysOnWrite ..).trans (State.onDev_next rfl ?_)
    rw [hqueue]
  case fetch =>
    intro s dt v a d hmay
    exact (exec_alwaysOnFetch ..).trans (State.onDevM_next rfl (Dev.regWrite_pass hmay))
  case fetched =>
    intro s dt d hbusy hup
    exact (exec_alwaysOnFetchDone ..).trans (State.onDev_next rfl (if_pos ⟨hbusy, hup⟩))
  case clearOnce =>
    intro s dt v a d hmay hkey hseq hscope hup
    exact exec_aoClearWriteOnce_pass hmay ((Dev.aoClear_linkUp ⟨hkey, hseq, hscope⟩ hup).trans (if_pos rfl))
  case clearAll =>
    intro s dt v a d hmay hkey hseq hscope hup
    exact exec_aoClearWholeLog_pass hmay ((Dev.aoClear_linkUp ⟨hkey, hseq, hscope⟩ hup).trans (if_neg (by decide)))
  case linkDown =>
    intro s dt v a d hmay hdown hkey hseq hscope
    split
    next h0 => exact exec_aoClearWriteOnce_pass hmay (Dev.aoClear_linkDown ⟨hkey, hseq, h0⟩ hdown)
    next h0 =>
      have h1 : bits 23 22 v = 1 := by omega
      exact exec_aoClearWholeLog_pass hmay (Dev.aoClear_linkDown ⟨hkey, hseq, h1⟩ hdown)
  case fetchWaits =>
    intro s dt d hdown
    have hwait : ¬(d.on LOGB_AO_ESTS_BUSY = true ∧ d.on HLK_STS_UP = true) := by simp [hdown]
    exact (exec_alwaysOnFetchDone ..).trans (State.onDev_next rfl (if_neg hwait))

end Sys2Proof.Machine
end

section
/-! PROOFS. Cells, planes and the regime: what an expected cell, a gap timer, a plane's fault and return and the end of a
recovery do (R131, R157, R188, R189). -/

namespace Sys2Proof.Machine

open R

theorem exec_cellArrival (s : State) (dt p src cls num idx : Nat) (last : Bool) :
    exec (.cellArrival dt p src cls num idx last) s = execCellArrival dt p src cls num idx last s := rfl

theorem exec_gapTimeout (s : State) (dt p src cls : Nat) :
    exec (.gapTimeout dt p src cls) s = execGapTimeout dt p src cls s := rfl

theorem exec_planeFault (s : State) (dt i kind : Nat) : exec (.planeFault dt i kind) s = execPlaneFault dt i kind s := rfl

theorem exec_planeReadmit (s : State) (dt v : Nat) (a : Sys2Proof.Acc) :
    exec (.planeReadmit dt a v) s = execPlaneReadmit dt a v s := rfl

theorem exec_planeSelfTestDone (s : State) (dt i : Nat) (pass : Bool) :
    exec (.planeSelfTestDone dt i pass) s = execPlaneSelfTestDone dt i pass s := rfl

theorem exec_recoveryExpired (s : State) (dt : Nat) : exec (.recoveryExpired dt) s = execRecoveryExpired dt s := rfl

/-! ### The parts of a flow's key (R187) -/

theorem flowKey_src {src p cls : Nat} (hp : p < 48) (hcls : cls < 8) : flowKey src p cls / 384 = src := by
  unfold flowKey; omega

theorem flowPort_flowKey {src p cls : Nat} (hp : p < 48) (hcls : cls < 8) : flowPort (flowKey src p cls) = p := by
  unfold flowPort flowKey; omega

theorem flowKey_cls {src p cls : Nat} (hcls : cls < 8) : flowKey src p cls % 8 = cls := by
  unfold flowKey; omega

/-! ### The resequencer (R188, R189) -/

/-- A cell with the expected number is passed, and the held cells behind it. -/
theorem Dev.cellArrival_expected {d : Dev} {p src cls num : Nat} (idx : Nat) (hdown : d.fabDown = false)
    (hexp : d.expected (flowKey src p cls) = some num) :
    d.cellArrival p src cls num idx =
      (Dev.passHeld (flowKey src p cls) 512 (d.passCell (flowKey src p cls) num)).gapTimer (flowKey src p cls) true := by
  have hahead : (num + 4096 - num) % 4096 = 0 := by omega
  unfold Dev.cellArrival
  simp only [hdown, hexp, Bool.false_eq_true, if_false, Option.isNone_some, Option.getD_some, hahead, if_true]

/-- The missing cell of a copy that has not started: the copy is lost with its held cells, and the flow goes on behind it. -/
theorem Dev.declareLost_waiting {d : Dev} {p src cls e : Nat} {f : Frame} {c : Copy} (hp : p < 48) (hcls : cls < 8)
    (hexp : d.expected (flowKey src p cls) = some e) (hcopy : d.cellCopy src p cls e = some (f, c))
    (hwaits : c.sending = false) :
    d.declareLost (flowKey src p cls) =
      let key := flowKey src p cls
      let next := (c.start + f.cells) % 4096
      let g := (d.bump (RSQ_LOST_CNT p)).resolve f.id p false
      let h : Dev := { g with fab := { g.fab with held := g.fab.held.filter (fun y => !(y.flow == key && decide ((y.num + 4096 - e) % 4096 < (next + 4096 - e) % 4096))), gapNext := insertNat key g.fab.gapNext } }
      (Dev.passHeld key 512 ((((h.setExpected key next).bump (RSQ_GAP_CNT p)).set RSQ_STS_LOST).raiseIf RSQ_INT_EN_LOST 132
        |>.postOnce 0x12 0x0001 0 9 p [1] (some 0))).gapTimer key true := by
  unfold Dev.declareLost
  simp only [hexp, flowPort_flowKey hp hcls, flowKey_src hp hcls, flowKey_cls hcls, hcopy, hwaits, Bool.false_eq_true,
    false_and, if_false]

/-! ### Planes (R131) -/

/-- A write that names one plane, out of service, starts its self-test. -/
theorem Dev.planeReadmit_of_out {d : Dev} {i v : Nat} (hi : i < 2) (hv : v % 4 = 2 ^ i)
    (hout : bit i (d.fld FAB_STS_PLANE_UP) = false) :
    d.planeReadmit v = { d with fab := { d.fab with selfTest := insertNat i d.fab.selfTest } } := by
  obtain rfl | rfl : i = 0 ∨ i = 1 := by omega
  · have h0 : bit 0 v = true := by simp only [bit, beq_iff_eq]; omega
    have h1 : bit 1 v = false := by simp only [bit, beq_eq_false_iff_ne]; omega
    simp [Dev.planeReadmit, Dev.each, h0, h1, hout]
  · have h0 : bit 0 v = false := by simp only [bit, beq_eq_false_iff_ne]; omega
    have h1 : bit 1 v = true := by simp only [bit, beq_iff_eq]; omega
    simp [Dev.planeReadmit, Dev.each, h0, h1, hout]

/-- Settles O52, row by row. -/
theorem cellAndPlaneCommandsTakeEffect : Obligations.CellAndPlaneCommandsTakeEffect := by
  unfold Obligations.CellAndPlaneCommandsTakeEffect
  refine ⟨?cell, ?gap, ?fault, ?readmit, ?selfTest, ?recovery⟩
  case cell =>
    intro s dt p src cls num idx last d hp hsrc hcls hnum hdown hexp hup
    have hok : (decide (p < 48) && decide (src < 52) && decide (cls < 8) && decide (num < 4096)) = true := by
      simp [hp, hsrc, hcls, hnum]
    exact (exec_cellArrival ..).trans (State.onDev_next hok ((if_pos hup).trans (Dev.cellArrival_expected idx hdown hexp)))
  case gap =>
    intro s dt p src cls e x f c d key next g h hp hsrc hcls hx hflow hrun hexp hcopy hwaits
    have hok : (decide (p < 48) && decide (src < 52) && decide (cls < 8)) = true := by simp [hp, hsrc, hcls]
    have hdue : d.fab.gaps.any (fun y => y.flow == key && d.passed y.since (10 * d.fld RSQ_CTL_GAP)) = true :=
      List.any_eq_true.mpr ⟨x, hx, by simp [hflow, Dev.passed, hrun]⟩
    exact (exec_gapTimeout ..).trans
      (State.onDev_next hok ((if_pos hdue).trans (Dev.declareLost_waiting hp hcls hexp hcopy hwaits)))
  case fault =>
    intro s dt i kind d hi hin hkind hup
    refine (exec_planeFault ..).trans (State.onDev_next (decide_eq_true hi) ?_)
    rw [if_neg (by simp [d, hin, hup])]
    simp only [if_neg hkind]
    rfl
  case readmit =>
    intro s dt i v a d hmay hv hi hout
    exact (exec_planeReadmit ..).trans
      (State.onDevM_next rfl ((Dev.regWrite_pass hmay).trans (Dev.planeReadmit_of_out hi hv hout)))
  case selfTest =>
    intro s dt i d hi htest
    have hruns : ¬(!d.fab.selfTest.contains i) = true := by simp [htest]
    exact (exec_planeSelfTestDone ..).trans (State.onDev_next (decide_eq_true hi) (if_neg hruns))
  case recovery =>
    intro s dt d hon hleft
    exact (exec_recoveryExpired ..).trans (State.onDev_next rfl (if_pos ⟨hon, hleft⟩))

end Sys2Proof.Machine
end

section
/-! PROOFS. Banks, FRER instances and stream gates: what flips, the copy after a flip, the drain timeout, FRER resets and
gate changes do (R148, R150, R161–R165). -/

namespace Sys2Proof.Machine

open R

theorem exec_lkpFlipAtTick (s : State) (dt v : Nat) (a : Sys2Proof.Acc) :
    exec (.lkpFlipAtTick dt a v) s = execLkpFlipAtTick dt a v s := rfl

theorem exec_lkpFlipImmediate (s : State) (dt v : Nat) (a : Sys2Proof.Acc) :
    exec (.lkpFlipImmediate dt a v) s = execLkpFlipImmediate dt a v s := rfl

theorem exec_flipInstant (s : State) (dt : Nat) : exec (.flipInstant dt) s = execFlipInstant dt s := rfl

theorem exec_syncCopyDone (s : State) (dt : Nat) : exec (.syncCopyDone dt) s = execSyncCopyDone dt s := rfl

theorem exec_drainTimeout (s : State) (dt : Nat) : exec (.drainTimeout dt) s = execDrainTimeout dt s := rfl

theorem exec_lkpFrerRst (s : State) (dt v : Nat) (a : Sys2Proof.Acc) :
    exec (.lkpFrerRst dt a v) s = execLkpFrerRst dt a v s := rfl

theorem exec_frerResetTimeout (s : State) (dt i : Nat) : exec (.frerResetTimeout dt i) s = execFrerResetTimeout dt i s := rfl

theorem exec_streamGateChange (s : State) (dt g i : Nat) :
    exec (.streamGateChange dt g i) s = execStreamGateChange dt g i s := rfl

theorem State.sameMem_becomes (s : State) (e : Dev) : s.sameMem (s.becomes e) := ⟨rfl, rfl⟩

theorem Dev.rn_withFab (d : Dev) (f : FabSt) (b : Nat) : ({ d with fab := f } : Dev).rn b = d.rn b := rfl

theorem Dev.fld_withFab (d : Dev) (f : FabSt) (g : Fld) : ({ d with fab := f } : Dev).fld g = d.fld g := rfl

/-! ### A write to LKP_FLIP (R161, R162) -/

/-- A flip at the tick that is asked for while none waits and no bank drains waits for its tick. -/
theorem Dev.flipWrite_atTick {d : Dev} {v : Nat} (hkey : bits 31 16 v = 0xE90C) (hmode : bits 1 0 v = 1)
    (hpend : d.on LKP_STS_PENDING = false) (hdrain : d.fld LKP_STS_DRAIN_BANK = 3) :
    d.flipWrite v = { (d.set LKP_STS_PENDING) with fab := { d.fab with flip := some 1 } } := by
  have hfree : ¬({ d.set LKP_STS_PENDING with fab := { d.fab with flip := some 1 } } : Dev).fld LKP_STS_DRAIN_BANK ≠ 3 := by
    rw [Dev.fld_withFab, Dev.fld_set_apart _ _ _ (by decide) (by decide) (by decide) (by decide)]
    exact not_not_intro hdrain
  have hwrite : ¬(bits 31 16 v ≠ 0xE90C ∨ bits 1 0 v = 0 ∨ bits 1 0 v = 3) := by simp [hkey, hmode]
  have hwaits : ¬d.on LKP_STS_PENDING = true := by simp [hpend]
  have htick : ¬(bits 1 0 v = 2 ∧ d.canFlip = true) := by simp [hmode]
  unfold Dev.flipWrite
  dsimp only
  rw [if_neg hwrite, if_neg hwaits, if_neg htick, hmode, if_neg hfree]

/-- An immediate flip into a free bank takes effect at once. -/
theorem Dev.flipWrite_immediate {d : Dev} {v : Nat} (hkey : bits 31 16 v = 0xE90C) (hmode : bits 1 0 v = 2)
    (hpend : d.on LKP_STS_PENDING = false) (hcan : d.canFlip = true) : d.flipWrite v = d.doFlip := by
  unfold Dev.flipWrite
  simp [hkey, hmode, hpend, hcan]

theorem exec_lkpFlipImmediate_pass {s : State} {dt v : Nat} {a : Sys2Proof.Acc} {e : Dev}
    (hmay : (s.now dt).mayWrite s.mem a LKP_FLIP) (h : (s.now dt).flipWrite v = e) :
    exec (.lkpFlipImmediate dt a v) s = .next (s.becomes e) :=
  (exec_lkpFlipImmediate ..).trans (State.onDevM_next rfl ((Dev.regWrite_pass hmay).trans h))

/-! ### The flip instant (R161, R165) -/

/-- LKP_STS after the instant: SHADOW becomes ACTIVE, the epoch counts one, the old bank drains where frames of its epoch
are held, and the third bank is in SYNC. -/
def Dev.flipSts (d : Dev) : Dev :=
  let f := (((d.put LKP_STS_ACTIVE_BANK (d.fld LKP_STS_SHADOW_BANK)).put LKP_STS_EPOCH (d.fld LKP_STS_EPOCH + 1)).put
    LKP_STS_DRAIN_BANK (if d.drainCount (d.fld LKP_STS_EPOCH) = 0 then 3 else d.fld LKP_STS_ACTIVE_BANK)).put LKP_STS_SHADOW_BANK 3
  (((f.set LKP_STS_SYNC).clr LKP_STS_PENDING).clr LKP_STS_BUSY).set LKP_STS_FLIP_DONE

/-- The fabric's part after the instant. -/
def Dev.flipFab (d : Dev) : FabSt :=
  { d.fab with sync := some (3 - d.fld LKP_STS_ACTIVE_BANK - d.fld LKP_STS_SHADOW_BANK), flip := none, drainTicks := 0 }

/-- The device once the banks have changed their roles, before the flip is reported. -/
def Dev.flipped (d : Dev) : Dev := { d.flipSts with fab := d.flipFab }

theorem Dev.doFlip_eq (d : Dev) :
    d.doFlip = ((d.flipped.when (d.flipped.on FAB_MODE_RECOVERY) (·.put FAB_MODE_RECOVERY_LEFT 1000)).raiseIf
      LKP_INT_EN_FLIP 131).post 0x11 0x0001 0 9 ((d.fld LKP_STS_EPOCH + 1) % 256)
        [d.fld LKP_STS_EPOCH, d.drainCount (d.fld LKP_STS_EPOCH)] := by
  unfold Dev.doFlip Dev.flipped Dev.flipSts Dev.flipFab
  simp only [Dev.put_fab]

/-- The report of a flip leaves the fabric alone. -/
theorem Dev.doFlip_fab (d : Dev) : d.doFlip.fab = d.flipFab := by
  have hleft : (d.flipped.when (d.flipped.on FAB_MODE_RECOVERY) (·.put FAB_MODE_RECOVERY_LEFT 1000)).fab = d.flipped.fab :=
    Dev.when_keeps Dev.fab _ _ (fun e => e.put_fab _ _) _
  rw [Dev.doFlip_eq, Dev.post_fab, Dev.raiseIf_fab, hleft, Dev.flipped]

/-- Nor does it change a register that no record changes, but for RECOVERY_LEFT. -/
theorem Dev.rn_doFlip (d : Dev) {b : Nat} (hb : calm b) (hmode : FAB_MODE ≠ b) : d.doFlip.rn b = d.flipSts.rn b := by
  rw [Dev.doFlip_eq, Dev.rn_post _ hb, Dev.rn_raiseIf _ _ (by decide) hb,
    Dev.when_keeps (·.rn b) (·.put FAB_MODE_RECOVERY_LEFT 1000) _ (fun e => e.rn_put_ne _ _ hmode), Dev.flipped,
    Dev.rn_withFab]

theorem Dev.rn_flipSts_ne (d : Dev) {b : Nat} (hb : LKP_STS ≠ b) : d.flipSts.rn b = d.rn b := by
  unfold Dev.flipSts
  rw [Dev.rn_set_ne _ _ hb, Dev.rn_clr_ne _ _ hb, Dev.rn_clr_ne _ _ hb, Dev.rn_set_ne _ _ hb, Dev.rn_put_ne _ _ _ hb,
    Dev.rn_put_ne _ _ _ hb, Dev.rn_put_ne _ _ _ hb, Dev.rn_put_ne _ _ _ hb]

/-- What the instant leaves in LKP_STS, field by field (R161). -/
theorem Dev.flipSts_fields (d : Dev) :
    d.flipSts.fld LKP_STS_ACTIVE_BANK = d.fld LKP_STS_SHADOW_BANK ∧
    d.flipSts.fld LKP_STS_EPOCH = (d.fld LKP_STS_EPOCH + 1) % 256 ∧
    d.flipSts.fld LKP_STS_DRAIN_BANK =
      (if d.drainCount (d.fld LKP_STS_EPOCH) = 0 then 3 else d.fld LKP_STS_ACTIVE_BANK) ∧
    d.flipSts.fld LKP_STS_SHADOW_BANK = 3 ∧ d.flipSts.fld LKP_STS_SYNC = 1 ∧ d.flipSts.fld LKP_STS_FLIP_DONE = 1 ∧
    d.flipSts.fld LKP_STS_PENDING = 0 ∧ d.flipSts.fld LKP_STS_BUSY = 0 := by
  have hactive : d.fld LKP_STS_ACTIVE_BANK < 4 := Nat.mod_lt _ (by decide)
  have hshadow : d.fld LKP_STS_SHADOW_BANK < 4 := Nat.mod_lt _ (by decide)
  unfold Dev.flipSts Dev.set Dev.clr
  simp (disch := decide) only [Dev.fld_put_apart, Dev.fld_put_self]
  refine ⟨Nat.mod_eq_of_lt hshadow, rfl, Nat.mod_eq_of_lt ?_, rfl, rfl, rfl, rfl, rfl⟩
  split
  · decide
  · exact hactive

theorem Dev.doFlip_fields (d : Dev) :
    d.doFlip.fld LKP_STS_ACTIVE_BANK = d.fld LKP_STS_SHADOW_BANK ∧
    d.doFlip.fld LKP_STS_EPOCH = (d.fld LKP_STS_EPOCH + 1) % 256 ∧
    d.doFlip.fld LKP_STS_DRAIN_BANK =
      (if d.drainCount (d.fld LKP_STS_EPOCH) = 0 then 3 else d.fld LKP_STS_ACTIVE_BANK) ∧
    d.doFlip.fld LKP_STS_SHADOW_BANK = 3 ∧ d.doFlip.on LKP_STS_SYNC = true ∧ d.doFlip.on LKP_STS_FLIP_DONE = true ∧
    d.doFlip.on LKP_STS_PENDING = false ∧ d.doFlip.on LKP_STS_BUSY = false := by
  have hfld : ∀ f : Fld, f.addr = LKP_STS → d.doFlip.fld f = d.flipSts.fld f := fun f hf =>
    Dev.fld_of_rn (by rw [hf]; exact d.rn_doFlip (by decide) (by decide))
  obtain ⟨hactive, hepoch, hdrain, hshadow, hsync, hdone, hpending, hbusy⟩ := d.flipSts_fields
  have hon : ∀ f : Fld, f.addr = LKP_STS → d.doFlip.on f = (d.flipSts.fld f == 1) := fun f hf => by rw [Dev.on, hfld f hf]
  exact ⟨(hfld _ rfl).trans hactive, (hfld _ rfl).trans hepoch, (hfld _ rfl).trans hdrain, (hfld _ rfl).trans hshadow,
    (hon _ rfl).trans (by rw [hsync]; rfl), (hon _ rfl).trans (by rw [hdone]; rfl),
    (hon _ rfl).trans (by rw [hpending]; rfl), (hon _ rfl).trans (by rw [hbusy]; rfl)⟩

/-- Settles O15, row by row; that a flip asked for in SYNC waits is the model's choice (log entry 125). -/
theorem bankAndStreamCommandsTakeEffect : Obligations.BankAndStreamCommandsTakeEffect := by
  unfold Obligations.BankAndStreamCommandsTakeEffect
  refine ⟨?atTick, ?immediate, ?flipEffect, ?instant, ?copied, ?drain, ?frerRst, ?frerTimeout, ?gate⟩
  case atTick =>
    intro s dt v a d hmay hkey hmode hpend hdrain
    exact (exec_lkpFlipAtTick ..).trans
      (State.onDevM_next rfl ((Dev.regWrite_pass hmay).trans (Dev.flipWrite_atTick hkey hmode hpend hdrain)))
  case immediate =>
    intro s dt v a d hmay hkey hmode hpend hcan
    exact exec_lkpFlipImmediate_pass hmay (Dev.flipWrite_immediate hkey hmode hpend hcan)
  case flipEffect =>
    intro s dt v a d hmay hkey hmode hpend hcan
    obtain ⟨hactive, hepoch, hdrain, hshadow, hsync, hdone, hpending, hbusy⟩ := d.doFlip_fields
    refine ⟨_, exec_lkpFlipImmediate_pass hmay (Dev.flipWrite_immediate hkey hmode hpend hcan), ?_⟩
    exact ⟨hactive, hepoch, hdrain, hshadow, hsync, hdone, hpending, hbusy, congrArg FabSt.flip d.doFlip_fab,
      congrArg FabSt.sync d.doFlip_fab, s.sameMem_becomes _⟩
  case instant =>
    intro s dt d hpend hcan hdue
    have hsoon : d.fab.flip = some 2 ∨ (decide (d.stg.nextTick ≤ d.domNs + 2) && d.boot.phase == .sealed) = true := by
      simpa using hdue
    exact (exec_flipInstant ..).trans (State.onDev_next rfl (if_pos ⟨hpend, hcan, hsoon⟩))
  case copied =>
    intro s dt i d hsync hflip
    refine (exec_syncCopyDone ..).trans (State.onDev_next rfl ?_)
    unfold Dev.syncDone
    simp [d, hsync, hflip]
  case drain =>
    intro s dt d hdrains htime
    exact (exec_drainTimeout ..).trans (State.onDev_next rfl (if_neg (by simp [d, hdrains, htime])))
  case frerRst =>
    intro s dt v a d hmay hkey
    refine (exec_lkpFrerRst ..).trans (State.onDevM_next rfl ((Dev.regWrite_pass hmay).trans ?_))
    unfold Dev.frerRst
    simp [hkey]
  case frerTimeout =>
    intro s dt i d hi htake htime
    exact (exec_frerResetTimeout ..).trans (State.onDev_next (decide_eq_true hi) (if_neg (by simp [d, htake, Dev.passed, htime])))
  case gate =>
    intro s dt g i d hg hi hentry
    exact (exec_streamGateChange ..).trans (State.onDev_next (by simp [hg, hi]) (if_pos (.inr hentry.symm)))

end Sys2Proof.Machine
end

section
/-! PROOFS. A plain frame on its way through the fabric: its arrival, its lookup, its tail, and the start and the end of a copy
(R106–R110, R139, R140, R154–R156, R185, R187, R194). -/

namespace Sys2Proof.Machine

open R

theorem exec_frameIngress (s : State) (dt p ts256 : Nat) (bytes : List Nat) (sec : Option SecTag) :
    exec (.frameIngress dt p ts256 bytes sec) s = execFrameIngress dt p ts256 bytes sec s := rfl

theorem exec_frameLookup (s : State) (dt id : Nat) : exec (.frameLookup dt id) s = execFrameLookup dt id s := rfl

theorem exec_frameTailCheck (s : State) (dt id : Nat) (trunc : Bool) (ce : Nat) (ue : Option Nat) :
    exec (.frameTailCheck dt id trunc ce ue) s = execFrameTailCheck dt id trunc ce ue s := rfl

theorem exec_egressFrameStart (s : State) (dt p : Nat) : exec (.egressFrameStart dt p) s = execEgressFrameStart dt p s := rfl

theorem exec_egressCopyDone (s : State) (dt p : Nat) : exec (.egressCopyDone dt p) s = execEgressCopyDone dt p s := rfl

/-! ### Arrival (R108, R237, R238) -/

/-- A frame that is none of the boot ROM's tool goes from the MAC into the fabric. -/
theorem Dev.frameAtMac_of_notTool {d : Dev} {p ts256 : Nat} {bytes : List Nat} {sec : Option SecTag} (m : Mem)
    (htool : p = 6 → toolFrame bytes = none) :
    d.frameAtMac m p ts256 bytes sec = (d.frameIngress p ts256 bytes sec, m) := by
  have hown : ∀ c : Prop, [Decidable c] → (c → p = 6) → (if c then toolFrame bytes else none) = none := by
    intro c _ hc
    split
    next h => exact htool (hc h)
    next => rfl
  unfold Dev.frameAtMac
  dsimp only
  rw [hown _ (fun h => h.1)]

theorem exec_frameIngress_of_notTool {s : State} {dt p ts256 : Nat} {bytes : List Nat} {e : Dev} (hp : p < 16)
    (htool : p = 6 → toolFrame bytes = none) (h : (s.now dt).frameIngress p ts256 bytes none = e) :
    exec (.frameIngress dt p ts256 bytes none) s = .next (s.becomes e) :=
  (exec_frameIngress ..).trans
    (State.onAll_next_sameMem (decide_eq_true hp) ((Dev.frameAtMac_of_notTool _ htool).trans (by rw [h])))

/-- The frame of an arrival without waybill tag, with the flag CRYPT where MACsec protected it. -/
def Dev.plainFrame (g : Dev) (p ts256 : Nat) (bytes : List Nat) (b : Bool) : Frame :=
  { g.newFrame p p 0 (g.portOwner p) ts256 bytes with
    wb := (if b then (g.newFrame p p 0 (g.portOwner p) ts256 bytes).wb.flag 10
      else (g.newFrame p p 0 (g.portOwner p) ts256 bytes).wb),
    fcsOk := fcsRight bytes none, icvOk := true, wire := bytes.length, tagged := false, mir := none }

theorem Dev.frameIngress_plain {d g : Dev} {p ts256 : Nat} {bytes : List Nat} {b : Bool}
    (hlink : d.on (PORT_STS_LINK p) = true) (howner : d.portOwner p ≠ 15) (hsid : d.sidAt p ts256 = 0)
    (hstate : d.fld (SID_PORT_STS_STATE p) < 2) (htow : d.towPort ≠ some p) (htrunk : d.on (PORT_CFG_TRUNK p) = false)
    (hmir : d.ingressMirrored p bytes = false) (hlen : 64 ≤ bytes.length) (hptp : d.isPtp bytes = false)
    (hsec : (d.statRx p bytes.length).secVerify p bytes none = (.pass b, g)) (hptp' : g.isPtp bytes = false) :
    d.frameIngress p ts256 bytes none = g.enter (g.plainFrame p ts256 bytes b) := by
  have hnotow : (d.towPort == some p) = false := by simp [htow]
  have hopen : ¬((!d.on (PORT_STS_LINK p)) = true ∨ d.portOwner p = 15 ∨ 2 ≤ d.sidAt p ts256 ∨
      2 ≤ d.fld (SID_PORT_STS_STATE p)) := by simp [hlink, howner, hsid, hstate]
  have hlong : ¬bytes.length + 0 < 64 := by omega
  unfold Dev.frameIngress
  simp only [hnotow, htrunk, Bool.false_and, Bool.false_eq_true, if_false]
  rw [if_neg hopen]
  simp only [Dev.when, hmir, hsid, hptp, hsec, hptp', Bool.false_eq_true, if_false, Nat.add_zero, and_false]
  rw [if_neg (by omega), if_neg (by decide)]
  cases b <;> rfl

/-! ### Lookup (R110, R140, R152) -/

/-- The destinations of a frame that lookup neither drops nor copies to Guard (R140 step 5, R146). -/
def Decision.plainDests (q : Decision) (p : Nat) : List Nat :=
  q.dest.filter (fun t => match q.members with | some m => t ≠ p && bit t m | none => true)

/-- The copy for destination `t` of a frame that is under no stream and no CAN filter entry (R152, R153). -/
def Dev.plainCopy (g : Dev) (p : Nat) (q : Decision) (t : Nat) : Copy :=
  { port := t, cls := q.cls, de := false, queue := g.rxQueue t q.cls, start := 0, passed := 0,
    cut := (g.cutDecision p t q.noExpress).1, thresh := (g.cutDecision p t q.noExpress).2,
    early := decide (36 ≤ t) && !g.stored p t q.noExpress, readyAt := 0, sending := false, bad := false, kept := none,
    flags := if (g.cutDecision p t q.noExpress).1 then 128 else 0, untag := bit t q.untag, rtag := .keep, acf := q.acf,
    mirror := false }

/-- The frame once it is looked up under the decision `q`, with its flow sequence number. -/
def Frame.plainLooked (f : Frame) (q : Decision) (epoch fseq : Nat) : Frame :=
  { f with looked := true, wb := { f.wb with cls := q.cls, epoch := epoch, fseq := fseq }, vid := q.vid, pcp := q.pcp,
           stream := none, maxSdu := 0, rcv := none, heldDup := false, attempted := q.plainDests f.wb.port }

/-- The flow sequence number of a frame, and the device once it is taken (R110, R114). -/
def Dev.plainFseq (d : Dev) (f : Frame) (q : Decision) : Nat × Dev :=
  if f.tagged then (f.wb.fseq, d) else d.takeFseq q.idMatch f.wb.port q.cls

theorem Dev.lookup_plain {d : Dev} {id : Nat} {f : Frame} {q : Decision} {n : Nat × Dev}
    (hq : d.active.lookup f.wb.port f.body = q) (hn : (d.tallyD 0x81 1).plainFseq f q = n)
    (hkind : f.kind = 0) (hacf : bit 19 (d.active.port f.wb.port 0) = false) (hrule : q.rule = none)
    (hdrop : q.drop = none) (hstream : q.stream = none) (hguard : q.copyGuard = false)
    (htow : (d.tallyD 0x81 1).towPort = none) :
    d.lookup id f =
      let F := f.plainLooked q ((d.tallyD 0x81 1).fld LKP_STS_EPOCH) n.1
      ((((n.2.modFrame id fun _ => F).when (q.plainDests f.wb.port ≠ [])
        (fun d => (d.sample f.wb.port q.cls 0 none id f.body F.wb).sidFrame f.wb.port)).admitAll id
          ((q.plainDests f.wb.port).map (n.2.plainCopy f.wb.port q))).settle id) := by
  have hcar : f.kind ≠ 1 := by omega
  have hskip : ((0 : Nat) != 0) = false := rfl
  have hword : ∀ k, bit k 0 = false := by simp [bit]
  have hexcl : ∀ l : List Nat, l.any (fun t => (none : Option Nat) == some t) = false := fun l => by simp
  have hpass : (RecVerdict.pass == RecVerdict.duplicate) = false := rfl
  unfold Dev.lookup Dev.lookupAs
  simp only [hacf, hcar, hskip, hword, hpass, Dev.when, Bool.and_false, Bool.false_and, Bool.false_eq_true, if_false, b2n,
    Option.isSome_none, Option.map_none, Option.getD_none, false_and, hq, hrule, hdrop, hstream, hguard, htow, reduceCtorEq,
    not_false_eq_true, decide_true, List.filter_true, hexcl, Bool.not_false, Bool.true_and, ne_eq]
  subst hn hq
  rfl

theorem exec_frameLookup_of_frame {s : State} {dt id : Nat} {f : Frame} (hf : (s.now dt).frame id = some f)
    (hlooked : f.looked = false) : exec (.frameLookup dt id) s = .next (s.becomes ((s.now dt).lookup id f)) := by
  refine (exec_frameLookup ..).trans (State.onDev_next rfl ?_)
  rw [hf]
  exact if_neg (by simp [hlooked])

/-! ### The tail (R155, R156, R187) -/

/-- The row for a frame that is looked up and whose tail has not come yet. -/
theorem exec_frameTailCheck_looked {s : State} {dt id ce : Nat} {trunc : Bool} {ue : Option Nat} {f : Frame}
    (hf : (s.now dt).frame id = some f) (hlooked : f.looked = true) (htail : f.tail = false) :
    exec (.frameTailCheck dt id trunc ce ue) s = .next (s.becomesM ((s.now dt).tailCheck f trunc ce ue)
      (if f.bad trunc ue.isSome then (s.now dt).strictTrace s.mem f else s.mem)) := by
  refine (exec_frameTailCheck ..).trans ?_
  unfold execFrameTailCheck
  rw [State.onAll, if_pos rfl]
  simp only [hf, htail, hlooked, Bool.false_eq_true, if_false, if_true, Option.getD_some]

/-- A frame that nothing at its tail speaks against is good (R156). -/
theorem Frame.bad_eq_false {f : Frame} (hfcs : f.fcsOk = true) (hicv : f.icvOk = true) (hlen : f.lenBad = false)
    (hsdu : f.tooLong = false) : f.bad false false = false := by
  simp [Frame.bad, hfcs, hicv, hlen, hsdu]

/-- What the tail of a good frame does that is no duplicate under recovery and owes no mirror copy. -/
theorem Dev.tailFrame_good {d : Dev} {f : Frame} {trunc : Bool} (hmir : f.mir = none) (hrcv : f.rcv = none) :
    d.tailFrame f false trunc =
      ((((d.advanceFlows f.id).modFrame f.id (fun x => { x with tail := true })).sampleTail f.id none false).settle
        f.id).drained := by
  unfold Dev.tailFrame Dev.releaseDup
  simp only [hmir, hrcv, Bool.not_false, Bool.false_eq_true, true_or, if_true, false_and, if_false]

theorem Dev.tailCheck_good {d : Dev} {f : Frame} (hfcs : f.fcsOk = true) (hicv : f.icvOk = true) (hlen : f.lenBad = false)
    (hsdu : f.tooLong = false) (hmir : f.mir = none) (hrcv : f.rcv = none) (hrest : f.rest = none) :
    d.tailCheck f false 0 none =
      ((((((if f.wb.port < 36 ∧ f.eth ≠ 0 then d.bwIn f.wb.port f.wire else d).advanceFlows f.id).modFrame f.id
        (fun x => { x with tail := true })).sampleTail f.id none false).settle f.id).drained) := by
  unfold Dev.tailCheck Dev.eccErrors
  simp only [Option.isSome_none, Frame.bad_eq_false hfcs hicv hlen hsdu, Dev.tailFrame_good hmir hrcv, hfcs, hlen, hsdu, hrest,
    Dev.when, Bool.not_true, Bool.and_false, Bool.false_eq_true, if_false, if_true, Bool.and_eq_true, decide_eq_true_eq,
    bne_iff_ne]

theorem exec_frameTailCheck_good {s : State} {dt id : Nat} {f : Frame} (hf : (s.now dt).frame id = some f)
    (hlooked : f.looked = true) (htail : f.tail = false) (hfcs : f.fcsOk = true) (hicv : f.icvOk = true)
    (hlen : f.lenBad = false) (hsdu : f.tooLong = false) (hmir : f.mir = none) (hrcv : f.rcv = none) (hrest : f.rest = none) :
    exec (.frameTailCheck dt id false 0 none) s = .next (s.becomes
      ((((((if f.wb.port < 36 ∧ f.eth ≠ 0 then (s.now dt).bwIn f.wb.port f.wire else s.now dt).advanceFlows f.id).modFrame f.id
        (fun x => { x with tail := true })).sampleTail f.id none false).settle f.id).drained)) := by
  rw [exec_frameTailCheck_looked hf hlooked htail, Dev.tailCheck_good hfcs hicv hlen hsdu hmir hrcv hrest,
    Option.isSome_none, Frame.bad_eq_false hfcs hicv hlen hsdu]
  rfl

/-! ### The start and the end of a copy (R154, R156, R185, R194) -/

theorem portOk_iff {p : Nat} : (decide (p < 16) || decide (45 ≤ p) && decide (p < 48)) = true ↔ p < 16 ∨ (45 ≤ p ∧ p < 48) := by
  simp

/-- The bytes of a copy before they are padded. -/
def Dev.startBytes (g : Dev) (f : Frame) (c : Copy) : List Nat :=
  egressBytes f c (tget 0 g.fab.acfSeq (Config.portMac c.port + 2 ^ 48 * ((c.acf.map (·.uid)).getD 0)))

theorem Dev.startCopy_plain {d : Dev} {f : Frame} {c : Copy} (hmir : c.mirror = false) (hkind : f.kind = 0)
    (htag : (d.shaper c.port).putsTag c = false)
    (hsa : (d.shaper c.port).txSa c.port ((d.shaper c.port).startBytes f c) = none)
    (htc : (d.shaper c.port).tcEvent f ((d.shaper c.port).startBytes f c) = none) :
    d.startCopy f c =
      let p := c.port
      let g := d.shaper p
      let body := g.startBytes f c
      let fl := c.flags ||| (if g.fab.gapNext.contains (flowKey f.src p c.cls) then 256 else 0) |||
        (if g.egressMirrored f c then 32 else 0)
      let l := body ++ List.replicate (60 - body.length) 0
      let m := g.modCopy f.id p (fun c => { c with sending := true, flags := fl })
      ({ m with fab := { m.fab with gapNext := m.fab.gapNext.filter (· ≠ flowKey f.src p c.cls), wire := tput p { bytes := l ++ fcs l, body := body, an := none, stomped := false } (terase p m.fab.wire) } } : Dev).sample p c.cls 1 (some p) f.id body { f.wb with flags := f.wb.flags ||| fl } := by
  have hnotAcf : (f.kind == 1) = false := by rw [hkind]; rfl
  unfold Dev.startBytes at *
  unfold Dev.startCopy Dev.transparent
  simp only [hnotAcf, hmir, htag, hsa, htc, Bool.false_and, Bool.false_eq_true, if_false, false_and, Option.isSome_none]

theorem exec_egressFrameStart_next {s : State} {dt p : Nat} {f : Frame} {c : Copy} (hp : p < 16 ∨ (45 ≤ p ∧ p < 48))
    (hidle : (s.now dt).sendingClass p = none)
    (hup : p < 36 → (s.now dt).on (PORT_STS_LINK p) = true ∧ (s.now dt).fld (SID_PORT_STS_STATE p) = 0)
    (hnext : (s.now dt).nextCopy p = some (f, c)) :
    exec (.egressFrameStart dt p) s = .next (s.becomes ((s.now dt).startCopy f c)) := by
  refine (exec_egressFrameStart ..).trans (State.onDev_next (portOk_iff.mpr hp) ?_)
  rw [if_neg, hnext]
  rintro (h | ⟨hlt, h⟩)
  · simp [hidle] at h
  · simp [hup hlt] at h

/-- The row for a copy in transmission whose frame has its tail. -/
theorem exec_egressCopyDone_sent {s : State} {dt p : Nat} {f : Frame} {c : Copy} (hp : p < 16 ∨ (45 ≤ p ∧ p < 48))
    (hsends : (s.now dt).inProgress p = some (f, c)) (htail : f.tail = true) :
    exec (.egressCopyDone dt p) s = .next (s.becomes ((s.now dt).copyDone f c)) := by
  refine (exec_egressCopyDone ..).trans (State.onDev_next (portOk_iff.mpr hp) ?_)
  rw [hsends]
  exact if_pos htail

theorem Dev.copyDone_good {d : Dev} {f : Frame} {c : Copy} (hbad : c.bad = false) (hmir : c.mirror = false) :
    d.copyDone f c =
      let p := c.port
      let w := tget { bytes := [], body := [], an := none, stomped := false } d.fab.wire p
      let e : Dev := { d with fab := { d.fab with wire := tput p w (terase p d.fab.wire) } }
      ((((e.tallyP p 0x41 f.cells).countTx p (w.bytes.length + (if w.an.isSome then e.secBytes p else 0)) f.wb.len).sampleTail
        f.id (some p) false).resolve f.id p (decide (p < 36))) := by
  unfold Dev.copyDone
  simp only [hbad, hmir, Bool.not_false, if_true, Bool.false_eq_true, if_false, Bool.true_and]

/-- Settles O51, row by row. -/
theorem plainFramesPassThroughTheFabric : Obligations.PlainFramesPassThroughTheFabric := by
  unfold Obligations.PlainFramesPassThroughTheFabric
  refine ⟨?ingress, ?lookup, ?tail, ?start, ?done⟩
  case ingress =>
    intro s dt p ts256 bytes b g d hp hlink howner hsid hstate htow htrunk hmir hlen htool hptp hsec hptp'
    exact exec_frameIngress_of_notTool hp htool
      (Dev.frameIngress_plain hlink howner hsid hstate htow htrunk hmir hlen hptp hsec hptp')
  case lookup =>
    intro s dt id f d e p q g wb dests hf hlooked hkind hacf hrule hdrop hstream hguard htow hdests
    have hn : e.plainFseq f q = (wb.fseq, g) := by
      cases htag : f.tagged <;> simp [Dev.plainFseq, wb, g, p, htag]
    have hany : q.plainDests p ≠ [] := hdests
    rw [exec_frameLookup_of_frame hf hlooked,
      Dev.lookup_plain (q := q) rfl hn hkind hacf hrule hdrop hstream hguard htow]
    dsimp only [Dev.when]
    rw [if_pos (decide_eq_true hany)]
    rfl
  case tail =>
    intro s dt id f d hf hlooked htail hfcs hicv hlen hsdu hmir hrcv hheld hrest
    exact exec_frameTailCheck_good hf hlooked htail hfcs hicv hlen hsdu hmir hrcv hrest
  case start =>
    intro s dt p f c d g body fl l m hp hidle hup hnext hport hmir hkind htag hsa htc
    subst hport
    rw [exec_egressFrameStart_next hp hidle hup hnext, Dev.startCopy_plain hmir hkind htag hsa htc]
    rfl
  case done =>
    intro s dt p f c d w hp hsends htail hport hbad hmir
    subst hport
    rw [exec_egressCopyDone_sent hp hsends htail, Dev.copyDone_good hbad hmir]

end Sys2Proof.Machine
end

section
/-! SUPPORT. What the operations of the fabric leave of the frames it holds (R184, R187, R192, R194). -/

namespace Sys2Proof.Machine

open R

/-! ### The frame of a handle -/

/-- A frame is found by its handle among the frames that the fabric holds. -/
theorem Dev.frame_of_frames {d e : Dev} (h : e.fab.frames = d.fab.frames) (id : Nat) : e.frame id = d.frame id := by
  unfold Dev.frame; rw [h]

theorem Dev.frame_of_fab {d e : Dev} (h : e.fab = d.fab) (id : Nat) : e.frame id = d.frame id :=
  Dev.frame_of_frames (by rw [h]) id

theorem Dev.id_of_frame {d : Dev} {id : Nat} {f : Frame} (h : d.frame id = some f) : f.id = id := by
  simpa using List.find?_some h

theorem Dev.mem_of_frame {d : Dev} {id : Nat} {f : Frame} (h : d.frame id = some f) : f ∈ d.fab.frames :=
  List.mem_of_find?_eq_some h

/-- A change of the frames with a handle changes the frame that it finds, where the change keeps the handle. -/
theorem Dev.frame_modFrame {d : Dev} {id : Nat} {φ : Frame → Frame} (hφ : ∀ x, x.id = id → (φ x).id = id) :
    (d.modFrame id φ).frame id = (d.frame id).map φ := by
  suffices h : ∀ l : List Frame, (l.map (fun x => if x.id = id then φ x else x)).find? (·.id == id) =
      (l.find? (·.id == id)).map φ from h _
  intro l
  induction l with
  | nil => rfl
  | cons x l ih =>
    by_cases hx : x.id = id
    · simp [hx, hφ x hx]
    · simpa [hx] using ih

theorem Dev.frame_modFrame_some {d : Dev} {id : Nat} {f : Frame} (φ : Frame → Frame) (hf : d.frame id = some f)
    (hφ : ∀ x, x.id = id → (φ x).id = id) : (d.modFrame id φ).frame id = some (φ f) := by
  rw [Dev.frame_modFrame hφ, hf]; rfl

/-- A frame that is not resolved stays in the fabric (R192). -/
theorem Dev.settle_of_held {d : Dev} {id : Nat} {f : Frame} (hf : d.frame id = some f)
    (hheld : f.tail = false ∨ f.copies ≠ []) : d.settle id = d := by
  have hstays : ¬(f.looked = true ∧ f.tail = true ∧ (!f.heldDup) = true ∧ f.copies = []) := by
    rintro ⟨-, htail, -, hnone⟩
    obtain h | h := hheld
    · simp [h] at htail
    · exact h hnone
  unfold Dev.settle
  rw [hf]
  exact if_neg hstays

/-- A frame that a settling leaves was there before it. -/
theorem Dev.frame_of_settle {d : Dev} {id : Nat} {g : Frame} (h : (d.settle id).frame id = some g) :
    d.frame id = some g := by
  cases hf : d.frame id with
  | none =>
    have hnone : d.settle id = d := by unfold Dev.settle; rw [hf]
    rw [hnone, hf] at h
    exact h
  | some f =>
    by_cases hheld : f.looked = true ∧ f.tail = true ∧ (!f.heldDup) = true ∧ f.copies = []
    · have hgone : (d.settle id).fab.frames = d.fab.frames.filter (·.id ≠ id) := by
        unfold Dev.settle
        rw [hf]
        dsimp only
        rw [if_pos hheld]
        cases f.sendQ with
        | none => rfl
        | some q => dsimp only; split <;> rfl
      have hmem := Dev.mem_of_frame h
      rw [hgone] at hmem
      exact absurd (Dev.id_of_frame h) (by simpa using (List.mem_filter.mp hmem).2)
    · have hsame : d.settle id = d := by unfold Dev.settle; rw [hf]; exact if_neg hheld
      rwa [hsame, hf] at h

/-! ### Operations that leave the frames -/

theorem Dev.shaper_frames (d : Dev) (p : Nat) : (d.shaper p).fab.frames = d.fab.frames := by
  unfold Dev.shaper
  split
  · rfl
  · refine Dev.each_keeps (fun d => d.fab.frames) _ ?_ d _
    exact fun _ _ => rfl

theorem Dev.bufLow_fab (d : Dev) : d.bufLow.fab = d.fab := by
  unfold Dev.bufLow
  split
  · exact Dev.put_fab ..
  · rfl

theorem Dev.bwIn_fab (d : Dev) (p k : Nat) : (d.bwIn p k).fab = d.fab := by unfold Dev.bwIn; split <;> rfl

theorem Dev.bwOut_fab (d : Dev) (p k : Nat) : (d.bwOut p k).fab = d.fab := by unfold Dev.bwOut; split <;> rfl

theorem Dev.statRx_fab (d : Dev) (p bytes : Nat) : (d.statRx p bytes).fab = d.fab := rfl

theorem Dev.countRx_fab (d : Dev) (p bytes : Nat) : (d.countRx p bytes).fab = d.fab := Dev.bwIn_fab ..

theorem Dev.portErr_fab (d : Dev) (p reg : Nat) : (d.portErr p reg).fab = d.fab := by
  unfold Dev.portErr; split <;> simp

theorem Dev.advanceFlows_frames (d : Dev) (id : Nat) : (d.advanceFlows id).fab.frames = d.fab.frames := by
  unfold Dev.advanceFlows
  split
  · rfl
  · refine Dev.each_keeps (fun d => d.fab.frames) _ ?_ d _
    exact fun _ _ => rfl

theorem Dev.doFlip_frames (d : Dev) : d.doFlip.fab.frames = d.fab.frames := by
  rw [Dev.doFlip_fab, Dev.flipFab]

theorem Dev.drained_frames (d : Dev) : d.drained.fab.frames = d.fab.frames := by
  have hfree : ((d.put LKP_STS_DRAIN_BANK 3).clr LKP_STS_BUSY).fab = d.fab := by rw [Dev.clr_fab, Dev.put_fab]
  unfold Dev.drained
  split
  · dsimp only
    split
    · rw [Dev.doFlip_frames, hfree]
    · rw [hfree]
  · rfl

theorem Dev.withSamples_frames (d : Dev) (l : List Sample) :
    ({ d with fab := { d.fab with samples := l } } : Dev).fab.frames = d.fab.frames := rfl

theorem Dev.setCount_frames (d : Dev) (p k v : Nat) : (d.setCount p k v).fab.frames = d.fab.frames := by
  rw [Dev.setCount, Dev.put_fab]

/-- Loading a counter changes that counter and its port's LFSR. -/
theorem Dev.reload_eq (d : Dev) (p k : Nat) :
    ∃ l v, d.reload p k = ({ d with fab := { d.fab with lfsr := l } } : Dev).setCount p k v := by
  by_cases hoff : d.fld (OUTR_PORT_N_N p k) = 0
  · exact ⟨d.fab.lfsr, _, if_pos hoff⟩
  · by_cases hplain : (!d.on (OUTR_PORT_CFG_LFSR p)) = true
    · exact ⟨d.fab.lfsr, _, (if_neg hoff).trans (if_pos hplain)⟩
    · exact ⟨_, _, (if_neg hoff).trans (if_neg hplain)⟩

theorem Dev.reload_frames (d : Dev) (p k : Nat) : (d.reload p k).fab.frames = d.fab.frames := by
  obtain ⟨l, v, h⟩ := d.reload_eq p k
  rw [h, Dev.setCount_frames]

theorem Dev.sample_frames (d : Dev) (p k point : Nat) (egress : Option Nat) (id : Nat) (bytes : List Nat) (wb : Waybill) :
    (d.sample p k point egress id bytes wb).fab.frames = d.fab.frames := by
  unfold Dev.sample
  split
  · rfl
  · split
    · exact (Dev.reload_frames ..).trans (Dev.withSamples_frames ..)
    · exact Dev.setCount_frames ..

theorem Dev.sampleTail_frames (d : Dev) (id : Nat) (egress : Option Nat) (bad : Bool) :
    (d.sampleTail id egress bad).fab.frames = d.fab.frames := rfl

theorem Dev.sidFrame_fab (d : Dev) (p : Nat) : (d.sidFrame p).fab = d.fab := by
  unfold Dev.sidFrame
  split
  · dsimp only; split <;> rfl
  · rfl

theorem Dev.edrop_fab (d : Dev) (p : Nat) (c : EDrop) : (d.edrop p c).fab = d.fab := by simp [Dev.edrop]

theorem Dev.qStatus_fab (d : Dev) (q : Nat) (f : Nat → Nat → Fld) : (d.qStatus q f).fab = d.fab := by
  simp [Dev.qStatus, Dev.qGroup]

theorem Dev.qDrop_fab (d : Dev) (q : Nat) : (d.qDrop q).fab = d.fab := by simp [Dev.qDrop, Dev.qStatus_fab]

theorem Dev.tcUncorrected_fab (d : Dev) (p : Nat) : (d.tcUncorrected p).fab = d.fab := by
  rw [Dev.tcUncorrected, Dev.post_fab, Dev.set_fab]

theorem Dev.stomp_fab (d : Dev) (p : Nat) : (d.stomp p).fab = d.fab := by simp [Dev.stomp]

theorem Dev.takeFseq_frames (d : Dev) (st : Option Nat) (p k : Nat) : (d.takeFseq st p k).2.fab.frames = d.fab.frames := by
  unfold Dev.takeFseq; cases st <;> rfl

theorem Dev.rn_takeFseq (d : Dev) (st : Option Nat) (p k b : Nat) : (d.takeFseq st p k).2.rn b = d.rn b := by
  unfold Dev.takeFseq; cases st <;> rfl

theorem Dev.plainFseq_frames (d : Dev) (f : Frame) (q : Decision) : (d.plainFseq f q).2.fab.frames = d.fab.frames := by
  unfold Dev.plainFseq
  split
  · rfl
  · exact d.takeFseq_frames ..

theorem Dev.rn_plainFseq (d : Dev) (f : Frame) (q : Decision) (b : Nat) : (d.plainFseq f q).2.rn b = d.rn b := by
  unfold Dev.plainFseq
  split
  · rfl
  · exact d.rn_takeFseq ..

/-! ### Admission (R184, R187) -/

/-- A frame with a copy more, and its flow's start number. -/
def Frame.withCopy (f : Frame) (c : Copy) (key start : Nat) : Frame :=
  { f with copies := f.copies ++ [{ c with start := start }], flows := f.flows ++ [(key, start)] }

/-- An admission leaves the frame as it was, or gives it the copy. -/
theorem Dev.frame_admitCopy {d : Dev} {id : Nat} {f : Frame} (c : Copy) (hf : d.frame id = some f) :
    (d.admitCopy id c).frame id = some f ∨ ∃ key start, (d.admitCopy id c).frame id = some (f.withCopy c key start) := by
  unfold Dev.admitCopy
  rw [hf]
  dsimp only
  split
  next =>
    refine .inl ((Dev.frame_of_fab ?_ id).trans hf)
    rw [Dev.when_keeps Dev.fab _ _ (fun e => e.tcUncorrected_fab _), Dev.postOnce_fab, Dev.bump_fab]
  next =>
    cases d.refuses c with
    | some r => exact .inl ((Dev.frame_of_fab (d.edrop_fab ..) id).trans hf)
    | none =>
      cases d.qRefuses c with
      | some budget =>
        refine .inl ((Dev.frame_of_fab ?_ id).trans hf)
        dsimp only
        rw [Dev.edrop_fab, Dev.when_keeps Dev.fab (·.qBudgetPost _) _ (fun e => e.postOnce_fab ..), Dev.qDrop_fab]
      | none =>
        have hcounted : ∀ ev, (((d.shaper c.port).tallyP c.port 0x40 f.cells).tallyP c.port ev 1).frame id = some f := fun ev =>
          (Dev.frame_of_frames (by rw [Dev.tallyP_fab, Dev.tallyP_fab, Dev.shaper_frames]) id).trans hf
        exact .inr ⟨_, _, (Dev.frame_of_fab (Dev.bufLow_fab _) id).trans
          (Dev.frame_modFrame_some _ (hcounted _) fun _ hx => hx)⟩

/-- What every admission keeps of a frame holds of it when all its copies have been admitted or dropped. -/
theorem Dev.frame_admitAll {id : Nat} {P : Frame → Prop} (cs : List Copy)
    (hP : ∀ f c key start, c ∈ cs → P f → P (f.withCopy c key start)) {d : Dev} {f : Frame} (hf : d.frame id = some f)
    (h : P f) : ∃ g, (d.admitAll id cs).frame id = some g ∧ P g := by
  unfold Dev.admitAll Dev.each
  induction cs generalizing d f with
  | nil => exact ⟨f, hf, h⟩
  | cons c cs ih =>
    have hrest : ∀ f c' key start, c' ∈ cs → P f → P (f.withCopy c' key start) := fun f c' key start hc' =>
      hP f c' key start (by simp [hc'])
    obtain hsame | ⟨key, start, hadm⟩ := Dev.frame_admitCopy c hf
    · exact ih hrest hsame h
    · exact ih hrest hadm (hP f c key start (by simp) h)

/-! ### Mirror copies and resolved copies (R192, R194, R207, R208) -/

/-- A mirror copy enters behind the frames that the fabric holds. -/
theorem Dev.mirror_frames (d : Dev) (body : List Nat) (bad : Bool) (src : Nat) :
    ∃ l, (d.mirror body bad src).fab.frames = d.fab.frames ++ l := by
  unfold Dev.mirror
  split
  · exact ⟨[], (List.append_nil _).symm⟩
  · dsimp only
    split
    · refine ⟨[], ?_⟩
      rw [Dev.postOnce_fab, Dev.raiseIf_fab, Dev.set_fab, Dev.set_fab, Dev.put_fab, Dev.bump_fab, List.append_nil]
    · exact ⟨_, by rw [Dev.tallyP_fab, Dev.bufLow_fab]⟩

/-- It does not take the place of the frame whose copy it mirrors. -/
theorem Dev.frame_egressMirror (d : Dev) (id p : Nat) (bad : Bool) : (d.egressMirror id p bad).frame id = d.frame id := by
  unfold Dev.egressMirror
  cases hf : d.frame id with
  | none => exact hf
  | some f =>
    cases hc : f.copy p with
    | none => simpa [hc] using hf
    | some c =>
      simp only [hc, Option.bind_some, Option.map_some]
      split
      · obtain ⟨l, hl⟩ := d.mirror_frames
          (keptBytes f c (tget { bytes := [], body := [], an := none, stomped := false } d.fab.wire p).body) bad f.wb.port
        unfold Dev.frame at hf ⊢
        rw [hl, List.find?_append, hf]
        rfl
      · exact hf

/-- A frame without its copies at a port. -/
def Frame.without (f : Frame) (p : Nat) (delivered : Bool) : Frame :=
  { f with copies := f.copies.filter (·.port ≠ p),
           delivered := if delivered then insertNat p f.delivered else f.delivered }

/-- The frame that a resolution leaves in the fabric is that of before, without its copies at the port. -/
theorem Dev.frame_of_resolve {d : Dev} {id p : Nat} {delivered : Bool} {g : Frame}
    (h : (d.resolve id p delivered).frame id = some g) : ∃ f, d.frame id = some f ∧ g = f.without p delivered := by
  obtain ⟨e, he⟩ : ∃ e, e = ((d.shaper p).sampleTail id (some p) (!delivered)).egressMirror id p (!delivered) := ⟨_, rfl⟩
  have hframe : e.frame id = d.frame id := by
    rw [he, Dev.frame_egressMirror]
    exact Dev.frame_of_frames (d.shaper_frames p) id
  have hres : d.resolve id p delivered =
      (((e.modFrame id (·.without p delivered)).unload id p).settle id).drained := by rw [he]; rfl
  rw [hres, Dev.frame_of_frames (Dev.drained_frames _)] at h
  have hmod := Dev.frame_of_settle h
  rw [Dev.frame_of_fab (show ((e.modFrame id (·.without p delivered)).unload id p).fab =
    (e.modFrame id (·.without p delivered)).fab from rfl),
    Dev.frame_modFrame (φ := (·.without p delivered)) (fun _ hx => hx), hframe] at hmod
  obtain ⟨f, hf, hg⟩ := Option.map_eq_some_iff.mp hmod
  exact ⟨f, hf, hg.symm⟩

end Sys2Proof.Machine
end

section
/-! SUPPORT. The registers of the ports that the fabric's operations leave, and the copies of a bad frame (R156). -/

namespace Sys2Proof.Machine

open R

/-! ### Registers of the ports -/

/-- A register of the window of an Ethernet, CAN or LIN port. -/
abbrev portReg (b : Nat) : Prop := b / 0x100000 = 0x405

theorem calm_of_portReg {b : Nat} (hb : portReg b) : calm b := by unfold portReg at hb; unfold calm; omega

theorem ne_of_portReg {a b : Nat} (hb : portReg b) (ha : a < 0x40500000) : a ≠ b := by unfold portReg at hb; omega

theorem Dev.rn_shaper (d : Dev) (p b : Nat) : (d.shaper p).rn b = d.rn b := by
  obtain ⟨f, hf⟩ := d.shaper_eq p
  rw [hf, Dev.rn_withFab]

theorem Dev.rn_bwIn (d : Dev) (p k b : Nat) : (d.bwIn p k).rn b = d.rn b := by unfold Dev.bwIn; split <;> rfl

theorem Dev.rn_advanceFlows (d : Dev) (id b : Nat) : (d.advanceFlows id).rn b = d.rn b := by
  unfold Dev.advanceFlows
  split
  · rfl
  · refine Dev.each_keeps (·.rn b) _ ?_ d _
    exact fun _ _ => rfl

theorem Dev.rn_modFrame (d : Dev) (id : Nat) (φ : Frame → Frame) (b : Nat) : (d.modFrame id φ).rn b = d.rn b := rfl

theorem Dev.rn_sampleTail (d : Dev) (id : Nat) (egress : Option Nat) (bad : Bool) (b : Nat) :
    (d.sampleTail id egress bad).rn b = d.rn b := rfl

theorem Dev.rn_settle (d : Dev) (id b : Nat) : (d.settle id).rn b = d.rn b := by
  unfold Dev.settle
  split
  · rfl
  · split
    · dsimp only
      split
      · split <;> rfl
      · rfl
    · rfl

theorem Dev.rn_tallyP (d : Dev) {p ev k b : Nat} (hp : p < 48) (h : calm b) : (d.tallyP p ev k).rn b = d.rn b := by
  unfold Dev.tallyP
  refine Dev.each_keeps_mem (·.rn b) _ d _ (fun m hm d => Dev.rn_tallyCount _ (by decide) ?_ ?_ h)
  · simp only [List.mem_cons, List.not_mem_nil, or_false] at hm
    simp only [TALLY_P_CTL]; omega
  · simp only [TALLY_P_STS]; omega

theorem Dev.rn_bufLow (d : Dev) {b : Nat} (hb : FAB_BUF_LOW ≠ b) : d.bufLow.rn b = d.rn b := by
  unfold Dev.bufLow
  split
  · exact d.rn_put_ne _ _ hb
  · rfl

theorem Dev.rn_doFlip_ne (d : Dev) {b : Nat} (hb : calm b) (hmode : FAB_MODE ≠ b) (hsts : LKP_STS ≠ b) :
    d.doFlip.rn b = d.rn b := (d.rn_doFlip hb hmode).trans (d.rn_flipSts_ne hsts)

theorem Dev.rn_drained (d : Dev) {b : Nat} (hb : calm b) (hmode : FAB_MODE ≠ b) (hsts : LKP_STS ≠ b) :
    d.drained.rn b = d.rn b := by
  have hfree : ((d.put LKP_STS_DRAIN_BANK 3).clr LKP_STS_BUSY).rn b = d.rn b := by
    rw [Dev.rn_clr_ne _ _ hsts, Dev.rn_put_ne _ _ _ hsts]
  unfold Dev.drained
  split
  · dsimp only
    split
    · rw [Dev.rn_doFlip_ne _ hb hmode hsts, hfree]
    · exact hfree
  · rfl

/-- The analysis port of the tow mirror is one of the ports 1 to 16 (R208). -/
theorem Dev.towPort_le {d : Dev} {p : Nat} (h : d.towPort = some p) : p ≤ 16 := by
  have hlt : d.fld TOW_L_ANALYSIS_PORT < 16 := Nat.mod_lt _ (by decide)
  unfold Dev.towPort at h
  split at h
  · cases h; omega
  · cases h

/-- What becomes of one copy of a bad frame (R156). -/
def Dev.badCopy (d : Dev) (f : Frame) (kept : Option Nat) (c : Copy) : Dev :=
  if c.sending ∧ c.port < 36 then (d.markBad f.id c.port kept).stomp c.port
  else if 36 ≤ c.port ∧ c.cut then d.markBad f.id c.port kept
  else d.resolve f.id c.port false

theorem Dev.badCopies_eq (d : Dev) (f : Frame) (kept : Copy → Option Nat) :
    d.badCopies f kept = d.each f.copies (fun c e => e.badCopy f (kept c) c) := rfl

section PortRegs

variable {b : Nat} (hb : portReg b)
include hb

theorem Dev.rn_mirror (d : Dev) (body : List Nat) (bad : Bool) (src : Nat) : (d.mirror body bad src).rn b = d.rn b := by
  have hc := calm_of_portReg hb
  have hne : ∀ {a : Nat}, a < 0x40500000 → a ≠ b := ne_of_portReg hb
  unfold Dev.mirror
  split
  · rfl
  next p hp =>
    have hport : p ≤ 16 := by
      split at hp
      · exact Dev.towPort_le hp
      · cases hp
    dsimp only
    split
    · rw [Dev.rn_postOnce, Dev.rn_raiseIf _ _ (by decide) hc, Dev.rn_set_ne _ _ (hne (by decide)),
        Dev.rn_set_ne _ _ (hne (by decide)), Dev.rn_put_ne _ _ _ (hne (by decide)), Dev.rn_bump_ne _ (hne (by decide))]
    · rw [Dev.rn_tallyP _ (by omega) hc, Dev.rn_bufLow _ (hne (by decide)), Dev.rn_withFab]

theorem Dev.rn_egressMirror (d : Dev) (id p : Nat) (bad : Bool) : (d.egressMirror id p bad).rn b = d.rn b := by
  unfold Dev.egressMirror
  split
  · split
    · exact Dev.rn_mirror hb ..
    · rfl
  · rfl

theorem Dev.rn_resolve (d : Dev) (id p : Nat) (delivered : Bool) : (d.resolve id p delivered).rn b = d.rn b := by
  obtain ⟨e, he⟩ : ∃ e, e = ((d.shaper p).sampleTail id (some p) (!delivered)).egressMirror id p (!delivered) := ⟨_, rfl⟩
  have hres : d.resolve id p delivered =
      (((e.modFrame id (·.without p delivered)).unload id p).settle id).drained := by rw [he]; rfl
  have hmod : ((e.modFrame id (·.without p delivered)).unload id p).rn b = e.rn b := rfl
  rw [hres, Dev.rn_drained _ (calm_of_portReg hb) (ne_of_portReg hb (by decide)) (ne_of_portReg hb (by decide)), Dev.rn_settle,
    hmod, he, Dev.rn_egressMirror hb]
  exact d.rn_shaper p b

theorem Dev.rn_stomp (d : Dev) {p : Nat} (hp : p < 36) : (d.stomp p).rn b = d.rn b := by
  have hc := calm_of_portReg hb
  unfold Dev.stomp
  rw [Dev.rn_postOnce, Dev.rn_raiseIf _ _ (by decide) hc, Dev.rn_set_ne _ _ (ne_of_portReg hb (by decide)),
    Dev.rn_tallyP _ (by omega) hc, Dev.rn_bump_ne _ (ne_of_portReg hb (by decide))]

theorem Dev.rn_badCopy (d : Dev) (f : Frame) (kept : Option Nat) (c : Copy) : (d.badCopy f kept c).rn b = d.rn b := by
  have hmark : (d.markBad f.id c.port kept).rn b = d.rn b := rfl
  unfold Dev.badCopy
  split
  next h => exact (Dev.rn_stomp hb _ h.2).trans hmark
  next =>
    split
    · exact hmark
    · exact Dev.rn_resolve hb ..

theorem Dev.rn_badCopies (d : Dev) (f : Frame) (kept : Copy → Option Nat) : (d.badCopies f kept).rn b = d.rn b :=
  Dev.each_keeps (·.rn b) (fun c e => e.badCopy f (kept c) c) (fun c e => e.rn_badCopy hb f (kept c) c) d _

end PortRegs

/-! ### The copies of a bad frame (R156) -/

/-- A copy is found bad: what its frame holds of it. -/
def Frame.spoil (f : Frame) (p : Nat) (kept : Option Nat) : Frame :=
  { f with copies := f.copies.map (fun c =>
      if c.port = p then
        { c with
          bad := true, flags := c.flags ||| 1,
          kept := (match kept with
            | some n => some n
            | none => c.kept) }
      else c) }

theorem Dev.frame_markBad (d : Dev) (id p : Nat) (kept : Option Nat) :
    (d.markBad id p kept).frame id = (d.frame id).map (·.spoil p kept) := by
  refine (Dev.frame_of_frames (d := d.modFrame id (·.spoil p kept)) ?_ id).trans (Dev.frame_modFrame (fun _ hx => hx))
  rfl

/-- Every copy of the frame is bad, but for those at the ports of `l`. -/
def Frame.badBut (l : List Nat) (g : Frame) : Prop := ∀ c ∈ g.copies, c.bad = true ∨ c.port ∈ l

theorem Frame.badBut_spoil {g : Frame} {p : Nat} {l : List Nat} (kept : Option Nat) (h : g.badBut (p :: l)) :
    (g.spoil p kept).badBut l := by
  intro c hc
  obtain ⟨c', hc', rfl⟩ := List.mem_map.mp hc
  split
  next => exact .inl rfl
  next hp =>
    obtain hbad | hport := h c' hc'
    · exact .inl hbad
    · exact .inr ((List.mem_cons.mp hport).resolve_left hp)

theorem Frame.badBut_without {g : Frame} {p : Nat} {l : List Nat} (delivered : Bool) (h : g.badBut (p :: l)) :
    (g.without p delivered).badBut l := by
  intro c hc
  obtain ⟨hc', hp⟩ := List.mem_filter.mp hc
  obtain hbad | hport := h c hc'
  · exact .inl hbad
  · exact .inr ((List.mem_cons.mp hport).resolve_left (by simpa using hp))

/-- A copy of a bad frame is bad or gone once its turn has come. -/
theorem Dev.badBut_badCopy {d : Dev} {f x : Frame} {kept : Option Nat} {c : Copy} {l : List Nat}
    (hd : ∀ y, d.frame f.id = some y → y.badBut (c.port :: l)) (hx : (d.badCopy f kept c).frame f.id = some x) :
    x.badBut l := by
  have hspoiled : ∀ e : Dev, e.fab = (d.markBad f.id c.port kept).fab → e.frame f.id = some x → x.badBut l := by
    intro e he hx
    rw [Dev.frame_of_fab he, Dev.frame_markBad] at hx
    obtain ⟨y, hy, rfl⟩ := Option.map_eq_some_iff.mp hx
    exact Frame.badBut_spoil _ (hd y hy)
  unfold Dev.badCopy at hx
  split at hx
  next => exact hspoiled _ (Dev.stomp_fab ..) hx
  next =>
    split at hx
    next => exact hspoiled _ rfl hx
    next =>
      obtain ⟨y, hy, rfl⟩ := Dev.frame_of_resolve hx
      exact Frame.badBut_without _ (hd y hy)

/-- The copies that a bad frame has left are bad. -/
theorem Dev.badCopies_bad {d : Dev} {f g : Frame} {kept : Copy → Option Nat}
    (hd : ∀ x, d.frame f.id = some x → x.badBut (f.copies.map (·.port)))
    (hg : (d.badCopies f kept).frame f.id = some g) : ∀ c ∈ g.copies, c.bad = true := by
  suffices h : g.badBut [] from fun c hc => (h c hc).resolve_right List.not_mem_nil
  rw [Dev.badCopies_eq, Dev.each] at hg
  generalize f.copies = l at hd hg
  induction l generalizing d with
  | nil => exact hd g hg
  | cons c l ih => exact ih (fun x hx => Dev.badBut_badCopy hd hx) hg

end Sys2Proof.Machine
end

section
/-! PROOFS. What the fabric holds after the arrival, the lookup, the tail, the start and the end of a frame, and what the
counters say of it (R108, R139, R140, R146, R152, R155, R156, R185, R194, R238, R240). -/

namespace Sys2Proof.Machine

open R

/-- A statement about a row that leaves memory as it was is one about the device. -/
theorem completes_of_becomes {s : State} {i : Instr} {e : Dev} {P : State → Prop} (h : exec i s = .next (s.becomes e))
    (hP : P (s.becomes e)) : Completes i s P := ⟨_, h, hP⟩

/-! ### Arrivals that end at the port (R238, R240) -/

/-- While the tow mirror is off, no frame that arrives owes it a copy. -/
theorem Dev.ingressMirrored_of_towOff {d : Dev} (h : d.towPort = none) (p : Nat) (l : List Nat) :
    d.ingressMirrored p l = false := by
  simp [Dev.ingressMirrored, Dev.towTakes, h]

theorem Dev.frameIngress_linkDown {d : Dev} {p ts256 : Nat} {bytes : List Nat} {sec : Option SecTag}
    (hlink : d.on (PORT_STS_LINK p) = false) : d.frameIngress p ts256 bytes sec = d :=
  if_pos (.inl (by rw [hlink]; rfl))

/-- An arrival at a port whose link is down ends at the MAC. -/
theorem Dev.frameAtMac_linkDown {d : Dev} {p : Nat} (m : Mem) (ts256 : Nat) (bytes : List Nat) (sec : Option SecTag)
    (hlink : d.on (PORT_STS_LINK p) = false) : d.frameAtMac m p ts256 bytes sec = (d, m) := by
  unfold Dev.frameAtMac
  dsimp only
  rw [if_neg (by simp [hlink]), Dev.frameIngress_linkDown hlink]

section Arrival

variable {d : Dev} {p ts256 : Nat} {bytes : List Nat}
  (hlink : d.on (PORT_STS_LINK p) = true) (howner : d.portOwner p ≠ 15) (hstate : d.fld (SID_PORT_STS_STATE p) < 2)
  (htow : d.towPort = none)
include hlink howner hstate

/-- Nothing at the port turns a frame away before it is counted. -/
theorem Dev.ingress_open (hsid : d.sidAt p ts256 < 2) :
    ¬((!d.on (PORT_STS_LINK p)) = true ∨ d.portOwner p = 15 ∨ 2 ≤ d.sidAt p ts256 ∨
      2 ≤ d.fld (SID_PORT_STS_STATE p)) := by simp [hlink, howner, hsid, hstate]

include htow

theorem Dev.frameIngress_short (hsid : d.sidAt p ts256 < 2) (hlen : bytes.length < 64) :
    d.frameIngress p ts256 bytes none = d.portErr p (PORT_RX_LEN_ERR p) := by
  unfold Dev.frameIngress
  simp only [Dev.ingressMirrored_of_towOff htow, htow, Dev.when, Bool.false_eq_true, if_false, reduceCtorEq, beq_iff_eq,
    Nat.add_zero]
  rw [if_neg (Dev.ingress_open hlink howner hstate hsid), if_pos hlen]

theorem Dev.frameIngress_ignored (hsid : d.sidAt p ts256 = 1) (hlen : 64 ≤ bytes.length)
    (hptp : (d.countRx p bytes.length).isPtp bytes = false) :
    d.frameIngress p ts256 bytes none = (d.countRx p bytes.length).bump (SID_PORT_IGN_CNT p) := by
  unfold Dev.frameIngress
  simp only [Dev.ingressMirrored_of_towOff htow, htow, Dev.when, Bool.false_eq_true, if_false, reduceCtorEq, beq_iff_eq,
    Nat.add_zero, hptp, false_and]
  rw [if_neg (Dev.ingress_open hlink howner hstate (by omega)), if_neg (by omega), if_pos hsid]

end Arrival

/-! ### Counters of a port -/

theorem Dev.rn_portErr_ne (d : Dev) {p reg b : Nat} (hp : p < 36) (hb : calm b) (hreg : reg ≠ b) (hsts : PORT_STS p ≠ b) :
    (d.portErr p reg).rn b = d.rn b := by
  unfold Dev.portErr
  split
  · rfl
  · rw [Dev.rn_raiseIf _ _ (by omega) hb, Dev.rn_set_ne _ _ hsts, Dev.rn_bump_ne _ hreg]

theorem Dev.rn_portErr_self {d : Dev} {p reg : Nat} (hp : p < 36) (hb : calm reg) (hsts : PORT_STS p ≠ reg)
    (hrun : d.on (SID_PORT_STS_FROZEN p) = false) : (d.portErr p reg).rn reg = (d.rn reg + 1) % 2 ^ 32 := by
  rw [Dev.portErr, if_neg (by simp [hrun]), Dev.rn_raiseIf _ _ (by omega) hb, Dev.rn_set_ne _ _ hsts, Dev.rn_bump_self]

/-- A received frame counts in four registers of its port. -/
theorem Dev.rn_statRx (d : Dev) {p bytes b : Nat} (hb : b < PORT_RX_FRM_LO p ∨ PORT_RX_BYTE_HI p < b) :
    (d.statRx p bytes).rn b = d.rn b := by
  simp only [PORT_RX_FRM_LO, PORT_RX_BYTE_HI] at hb
  unfold Dev.statRx Dev.addPair
  rw [Dev.rn_wrPair_ne, Dev.rn_wrPair_ne] <;>
    simp only [PORT_RX_FRM_LO, PORT_RX_FRM_HI, PORT_RX_BYTE_LO, PORT_RX_BYTE_HI] <;> omega

theorem Dev.rn_countRx (d : Dev) {p bytes b : Nat} (hb : b < PORT_RX_FRM_LO p ∨ PORT_RX_BYTE_HI p < b) :
    (d.countRx p bytes).rn b = d.rn b := (Dev.rn_statRx _ hb).trans (d.rn_bwIn ..)

/-- Whether a frame belongs to the time base depends on the registers of the four domains alone (R85). -/
theorem Dev.isPtp_of_rn {d e : Dev} (h : ∀ b, b < 0x40500000 → e.rn b = d.rn b) (l : List Nat) : e.isPtp l = d.isPtp l := by
  unfold Dev.isPtp
  congr 1
  rw [Bool.eq_iff_iff, List.any_eq_true, List.any_eq_true]
  refine exists_congr fun k => and_congr_right fun hk => ?_
  have hcfg : e.rn (TIME_DOM_CFG k) = d.rn (TIME_DOM_CFG k) :=
    h _ (by have := List.mem_range.mp hk; simp only [TIME_DOM_CFG]; omega)
  rw [Dev.on_of_rn (f := TIME_DOM_CFG_EN k) hcfg, Dev.fld_of_rn (f := TIME_DOM_CFG_NUMBER k) hcfg]

/-- At a port without MACsec a frame passes as it is (R220). -/
theorem Dev.secVerify_off {d : Dev} {p : Nat} (h : d.msecOn p = false) (l : List Nat) (sec : Option SecTag) :
    d.secVerify p l sec = (.pass false, d) := if_pos (.inl (by rw [h]; rfl))

theorem Dev.isPtp_statRx (d : Dev) (p k : Nat) (l : List Nat) : (d.statRx p k).isPtp l = d.isPtp l :=
  Dev.isPtp_of_rn (fun b hb => d.rn_statRx (.inl (by simp only [PORT_RX_FRM_LO]; omega))) l

theorem Dev.isPtp_countRx (d : Dev) (p k : Nat) (l : List Nat) : (d.countRx p k).isPtp l = d.isPtp l :=
  Dev.isPtp_of_rn (fun b hb => d.rn_countRx (.inl (by simp only [PORT_RX_FRM_LO]; omega))) l

theorem Dev.msecOn_statRx (d : Dev) (p k : Nat) : (d.statRx p k).msecOn p = d.msecOn p := by
  unfold Dev.msecOn
  rw [Dev.on_of_rn (f := PORT_MSEC_CFG_EN p) (d.rn_statRx (.inr ?_))]
  simp only [PORT_RX_BYTE_HI, PORT_MSEC_CFG_EN, PORT_MSEC_CFG]; omega

/-! ### A frame that enters (R108) -/

theorem Dev.enter_fab (g : Dev) {f : Frame} (hp : f.wb.port < 36) :
    (g.enter f).fab.next = g.fab.next + 1 ∧ (g.enter f).fab.frames = g.fab.frames ++ [{ f with id := g.fab.next }] := by
  have hext : (g.when (36 ≤ f.wb.port) (·.bwIn f.wb.port f.wb.len)) = g := if_neg (by simp; omega)
  unfold Dev.enter
  dsimp only
  rw [hext]
  exact ⟨rfl, rfl⟩

/-! ### A frame that a DROP rule meets (R140) -/

theorem Dev.lookup_ruleDrop {d : Dev} {id r : Nat} {f : Frame} {q : Decision} {n : Nat × Dev}
    (hq : d.active.lookup f.wb.port f.body = q)
    (hn : (((d.tallyD 0x81 1).bump (LKP_CLS_HIT r)).bump LKP_CLS_DROP_CNT).plainFseq f q = n)
    (hkind : f.kind = 0) (hacf : bit 19 (d.active.port f.wb.port 0) = false) (hrule : q.rule = some r)
    (hdrop : q.drop = some .rule) :
    d.lookup id f = (n.2.modFrame id (fun _ => { f with
      looked := true, drains := false,
      wb := { f.wb with
        cls := q.cls, epoch := ((d.tallyD 0x81 1).bump (LKP_CLS_HIT r)).fld LKP_STS_EPOCH, fseq := n.1 } })).settle id := by
  have hcar : f.kind ≠ 1 := by omega
  unfold Dev.lookup Dev.lookupAs
  simp only [hacf, hcar, Dev.when, Bool.and_false, Bool.false_eq_true, if_false, b2n, Option.isSome_none, false_and,
    hq, hrule, hdrop]
  subst hn hq
  rfl

/-! ### The tail of a bad frame (R156) -/

theorem Dev.tailFrame_bad {d : Dev} {f : Frame} (hmir : f.mir = none) (hrcv : f.rcv = none) (hheld : f.heldDup = false) :
    d.tailFrame f true false =
      (((((d.advanceFlows f.id).modFrame f.id (fun x => { x with tail := true })).sampleTail f.id none true).badCopies f
        (fun _ => none)).settle f.id).drained := by
  unfold Dev.tailFrame Dev.releaseDup
  simp only [hmir, hrcv, hheld, Bool.not_true, Bool.false_eq_true, or_self, and_false, if_false]

/-- A frame that is too long for its stream counts there (R147). -/
def Dev.countTooLong (d : Dev) (f : Frame) : Dev :=
  match f.stream with
  | some s => d.qci s 1
  | none => d

/-- The errors of a frame with a wrong FCS, before its copies are dealt with. -/
def Dev.tailErrors (d : Dev) (f : Frame) : Dev :=
  (((d.when (f.wb.port < 36 && f.eth != 0) (·.bwIn f.wb.port f.wire)).portErr f.wb.port (PORT_RX_ERR f.wb.port)).when
    (f.wb.port < 36 && f.lenBad) (·.portErr f.wb.port (PORT_RX_LEN_ERR f.wb.port))).when f.tooLong
      (·.countTooLong f)

theorem Dev.tailCheck_wrongFcs {d : Dev} {f : Frame} (hport : f.wb.port < 36) (hfcs : f.fcsOk = false) :
    d.tailCheck f false 0 none = (d.tailErrors f).tailFrame f true false := by
  have hbad : f.bad false false = true := by simp [Frame.bad, hfcs]
  unfold Dev.tailCheck Dev.eccErrors Dev.tailErrors
  simp only [Option.isSome_none, hbad, hfcs, hport, Dev.when, decide_true, Bool.true_and, Bool.not_false, if_true]
  rfl

theorem Dev.countTooLong_fab (d : Dev) (f : Frame) : (d.countTooLong f).fab = d.fab := by
  unfold Dev.countTooLong
  split
  · exact Dev.bump_fab ..
  · rfl

/-- LKP_QCI_CNTs.1 lies 4 bytes behind a multiple of 16, PORT_RX_ERRp at one. -/
theorem Dev.rn_countTooLong (d : Dev) (f : Frame) (p : Nat) :
    (d.countTooLong f).rn (PORT_RX_ERR p) = d.rn (PORT_RX_ERR p) := by
  unfold Dev.countTooLong
  split
  · exact d.rn_bump_ne (by simp only [LKP_QCI_CNT, PORT_RX_ERR]; omega)
  · rfl

theorem Dev.tailErrors_fab (d : Dev) (f : Frame) : (d.tailErrors f).fab = d.fab := by
  rw [Dev.tailErrors, Dev.when_keeps Dev.fab (·.countTooLong f) _ (fun e => e.countTooLong_fab f),
    Dev.when_keeps Dev.fab (·.portErr _ _) _ (fun e => e.portErr_fab _ _), Dev.portErr_fab,
    Dev.when_keeps Dev.fab (·.bwIn _ _) _ (fun e => e.bwIn_fab _ _)]

theorem Dev.rn_tailErrors {d : Dev} {f : Frame} (hport : f.wb.port < 36)
    (hrun : d.on (SID_PORT_STS_FROZEN f.wb.port) = false) :
    (d.tailErrors f).rn (PORT_RX_ERR f.wb.port) = (d.rn (PORT_RX_ERR f.wb.port) + 1) % 2 ^ 32 := by
  obtain ⟨p, hp⟩ : ∃ p, p = f.wb.port := ⟨_, rfl⟩
  rw [← hp] at hport hrun ⊢
  obtain ⟨e, he⟩ : ∃ e, e = d.when (p < 36 && f.eth != 0) (·.bwIn p f.wire) := ⟨_, rfl⟩
  have hrn : ∀ b, e.rn b = d.rn b := fun b => by
    rw [he]; exact Dev.when_keeps (·.rn b) (·.bwIn p f.wire) _ (fun e => e.rn_bwIn ..) d
  have hcalm : calm (PORT_RX_ERR p) := calm_of_portReg (by simp only [portReg, PORT_RX_ERR]; omega)
  have hsts : PORT_STS p ≠ PORT_RX_ERR p := by simp only [PORT_STS, PORT_RX_ERR]; omega
  have hlen : PORT_RX_LEN_ERR p ≠ PORT_RX_ERR p := by simp only [PORT_RX_LEN_ERR, PORT_RX_ERR]; omega
  rw [Dev.tailErrors, ← hp, ← he,
    Dev.when_keeps (·.rn (PORT_RX_ERR p)) (·.countTooLong f) _ (fun e => e.rn_countTooLong f p),
    Dev.when_keeps (·.rn (PORT_RX_ERR p)) (·.portErr p (PORT_RX_LEN_ERR p)) _
      (fun e => e.rn_portErr_ne hport hcalm hlen hsts),
    Dev.rn_portErr_self hport hcalm hsts ((Dev.on_of_rn (hrn _)).trans hrun), hrn]

/-! ### A copy in transmission -/

theorem Dev.sendingClass_of_mem {d : Dev} {p : Nat} {f : Frame} {c : Copy} (hf : f ∈ d.fab.frames) (hc : c ∈ f.copies)
    (hport : c.port = p) (hsends : c.sending = true) : (d.sendingClass p).isSome = true := by
  unfold Dev.sendingClass
  rw [Option.isSome_map, List.find?_isSome]
  exact ⟨c, List.mem_flatMap.mpr ⟨f, hf, hc⟩, by simp [hport, hsends]⟩

/-- The next copy of a port is one that the fabric holds. -/
theorem Dev.mem_of_nextCopy {d : Dev} {p : Nat} {f : Frame} {c : Copy} (h : d.nextCopy p = some (f, c)) :
    f ∈ d.fab.frames ∧ c ∈ f.copies ∧ c.port = p := by
  obtain ⟨k, -, hk⟩ := List.exists_of_findSome?_eq_some h
  have hfound : (d.copiesAt p k).find? (fun x => d.copyReady x.1 x.2) = some (f, c) := by
    unfold Dev.eligible at hk
    split at hk
    next => cases hk
    next f' c' hfound =>
      obtain ⟨-, hpair⟩ := Option.ite_none_right_eq_some.mp hk
      rw [← hpair]; exact hfound
  obtain ⟨f', hf', hc'⟩ := List.mem_flatMap.mp (List.mem_of_find?_eq_some hfound)
  obtain ⟨c', hc', hpair⟩ := List.mem_map.mp hc'
  cases hpair
  obtain ⟨hc, hport⟩ := List.mem_filter.mp hc'
  exact ⟨List.mem_of_mem_filter hf', hc, by simpa using (Bool.and_eq_true_iff.mp hport).1⟩

/-- A copy is in transmission once it is marked so. -/
theorem Dev.sendingClass_modCopy {d : Dev} {p : Nat} {f : Frame} {c : Copy} {φ : Copy → Copy} (hf : f ∈ d.fab.frames)
    (hc : c ∈ f.copies) (hport : c.port = p) (hφ : (φ c).port = p ∧ (φ c).sending = true) :
    ((d.modCopy f.id p φ).sendingClass p).isSome = true := by
  refine Dev.sendingClass_of_mem (f := { f with copies := f.copies.map (fun c => if c.port = p then φ c else c) }) (c := φ c)
    (List.mem_map.mpr ⟨f, hf, if_pos rfl⟩) (List.mem_map.mpr ⟨c, hc, if_pos hport⟩) hφ.1 hφ.2

theorem Dev.sendingClass_of_frames {d e : Dev} (h : e.fab.frames = d.fab.frames) (p : Nat) :
    e.sendingClass p = d.sendingClass p := by
  unfold Dev.sendingClass; rw [h]

theorem Dev.reload_wire (d : Dev) (p k : Nat) : (d.reload p k).fab.wire = d.fab.wire := by
  obtain ⟨l, v, h⟩ := d.reload_eq p k
  rw [h, Dev.setCount, Dev.put_fab]

theorem Dev.sample_wire (d : Dev) (p k point : Nat) (egress : Option Nat) (id : Nat) (bytes : List Nat) (wb : Waybill) :
    (d.sample p k point egress id bytes wb).fab.wire = d.fab.wire := by
  unfold Dev.sample
  split
  · rfl
  · split
    · exact Dev.reload_wire ..
    · rw [Dev.setCount, Dev.put_fab]

/-! ### What each row leaves -/

/-- What a frame that a DROP rule meets leaves: two counts, and the frame without a copy (R140). -/
theorem Dev.lookup_ruleDrop_leaves {d : Dev} {id r : Nat} {f : Frame} {q : Decision} (hf : d.frame id = some f)
    (htail : f.tail = false) (hq : d.active.lookup f.wb.port f.body = q) (hkind : f.kind = 0)
    (hacf : bit 19 (d.active.port f.wb.port 0) = false) (hrule : q.rule = some r) (hdrop : q.drop = some .rule)
    (hr : r < 512) :
    (d.lookup id f).rn LKP_CLS_DROP_CNT = (d.rn LKP_CLS_DROP_CNT + 1) % 2 ^ 32 ∧
    (d.lookup id f).rn (LKP_CLS_HIT r) = (d.rn (LKP_CLS_HIT r) + 1) % 2 ^ 32 ∧
    ((d.lookup id f).frame id).map (fun g => (g.looked, g.copies)) = some (true, f.copies) := by
  have hid := Dev.id_of_frame hf
  obtain ⟨e, he⟩ : ∃ e, e = ((d.tallyD 0x81 1).bump (LKP_CLS_HIT r)).bump LKP_CLS_DROP_CNT := ⟨_, rfl⟩
  have hne : LKP_CLS_HIT r ≠ LKP_CLS_DROP_CNT := by simp only [LKP_CLS_HIT, LKP_CLS_DROP_CNT]; omega
  have hcalm : calm (LKP_CLS_HIT r) := by simp only [LKP_CLS_HIT, calm]; omega
  have hheld : (e.plainFseq f q).2.frame id = some f := by
    rw [Dev.frame_of_frames (Dev.plainFseq_frames ..), he]
    exact (Dev.frame_of_fab (by rw [Dev.bump_fab, Dev.bump_fab, Dev.tallyD_fab]) id).trans hf
  rw [Dev.lookup_ruleDrop hq (by rw [← he]) hkind hacf hrule hdrop]
  generalize (((d.tallyD 0x81 1).bump (LKP_CLS_HIT r)).fld LKP_STS_EPOCH) = epoch
  have hmod := Dev.frame_modFrame_some (fun _ => { f with
      looked := true, drains := false,
      wb := { f.wb with cls := q.cls, epoch := epoch, fseq := (e.plainFseq f q).1 } }) hheld
      (fun _ _ => hid)
  rw [Dev.settle_of_held hmod (.inl htail), hmod]
  have hrn : ∀ φ b, ((e.plainFseq f q).2.modFrame id φ).rn b = e.rn b := fun φ b => Dev.rn_plainFseq ..
  rw [hrn, hrn, he, Dev.rn_bump_self, Dev.rn_bump_ne _ hne, Dev.rn_tallyD _ (by decide), Dev.rn_bump_ne _ hne.symm,
    Dev.rn_bump_self, Dev.rn_tallyD _ hcalm]
  exact ⟨rfl, rfl, rfl⟩

/-- What a lookup leaves of a frame: its destinations, and copies of its class to them alone. -/
def Frame.LookedAs (q : Decision) (dests : List Nat) (epoch : Nat) (g : Frame) : Prop :=
  (g.looked, g.wb.cls, g.wb.epoch, g.vid, g.pcp, g.attempted) = (true, q.cls, epoch, q.vid, q.pcp, dests) ∧
  g.tail = false ∧ ∀ c ∈ g.copies, c.port ∈ dests ∧ c.cls = q.cls

theorem Frame.lookedAs_withCopy {q : Decision} {dests : List Nat} {epoch key start : Nat} {g : Frame} {c : Copy}
    (hc : c.port ∈ dests ∧ c.cls = q.cls) (h : g.LookedAs q dests epoch) :
    (g.withCopy c key start).LookedAs q dests epoch := by
  obtain ⟨hsame, htail, hcopies⟩ := h
  refine ⟨hsame, htail, fun x hx => ?_⟩
  obtain hold | hnew := List.mem_append.mp hx
  · exact hcopies x hold
  · rw [List.mem_singleton.mp hnew]; exact hc

theorem Dev.towPort_tallyD (d : Dev) (ev k : Nat) : (d.tallyD ev k).towPort = d.towPort := by
  unfold Dev.towPort
  rw [Dev.fld_of_rn (f := TOW_STS_STATE) (d.rn_tallyD (by decide)),
    Dev.fld_of_rn (f := TOW_L_ANALYSIS_PORT) (d.rn_tallyD (by decide))]

/-- A frame that no rule, drop, stream or copy guard concerns is looked up with a copy to each destination that takes it. -/
theorem Dev.lookup_plain_leaves {d : Dev} {id : Nat} {f : Frame} {q : Decision} (hf : d.frame id = some f)
    (htail : f.tail = false) (hcopies : f.copies = []) (hq : d.active.lookup f.wb.port f.body = q) (hkind : f.kind = 0)
    (hacf : bit 19 (d.active.port f.wb.port 0) = false) (hrule : q.rule = none) (hdrop : q.drop = none)
    (hstream : q.stream = none) (hguard : q.copyGuard = false) (htow : d.towPort = none) :
    ∃ g, (d.lookup id f).frame id = some g ∧ g.LookedAs q (q.plainDests f.wb.port) (d.fld LKP_STS_EPOCH) := by
  obtain ⟨n, hn⟩ : ∃ n, (d.tallyD 0x81 1).plainFseq f q = n := ⟨_, rfl⟩
  have hheld : n.2.frame id = some f := by
    rw [← hn, Dev.frame_of_frames (Dev.plainFseq_frames ..)]
    exact (Dev.frame_of_fab (Dev.tallyD_fab ..) id).trans hf
  rw [Dev.lookup_plain hq hn hkind hacf hrule hdrop hstream hguard ((d.towPort_tallyD ..).trans htow),
    Dev.fld_of_rn (f := LKP_STS_EPOCH) (d.rn_tallyD (by decide))]
  obtain ⟨F, hF⟩ : ∃ F, F = f.plainLooked q (d.fld LKP_STS_EPOCH) n.1 := ⟨_, rfl⟩
  have hid : F.id = id := by
    have h := Dev.id_of_frame hf
    rw [hF]; exact h
  have hlooked : F.LookedAs q (q.plainDests f.wb.port) (d.fld LKP_STS_EPOCH) := by
    rw [hF]
    refine ⟨rfl, htail, fun c hc => ?_⟩
    have hnone : c ∈ f.copies := hc
    rw [hcopies] at hnone
    cases hnone
  rw [← hF]
  dsimp only
  have hmod := Dev.frame_modFrame_some (fun _ => F) hheld (fun _ _ => hid)
  obtain ⟨e, he⟩ : ∃ e, e = (n.2.modFrame id fun _ => F).when (q.plainDests f.wb.port ≠ [])
    (fun d => (d.sample f.wb.port q.cls 0 none id f.body F.wb).sidFrame f.wb.port) := ⟨_, rfl⟩
  have hsampled : e.frame id = some F := by
    rw [he, Dev.frame_of_frames (Dev.when_keeps (fun d => d.fab.frames) _ _ (fun x => ?_) _), hmod]
    rw [Dev.sidFrame_fab, Dev.sample_frames]
  rw [← he]
  obtain ⟨g, hg, hsame, htail', hcopies'⟩ := Dev.frame_admitAll ((q.plainDests f.wb.port).map (n.2.plainCopy f.wb.port q))
    (P := Frame.LookedAs q (q.plainDests f.wb.port) (d.fld LKP_STS_EPOCH)) (fun _ c _ _ hc h => by
      obtain ⟨t, ht, rfl⟩ := List.mem_map.mp hc
      exact Frame.lookedAs_withCopy ⟨ht, rfl⟩ h) hsampled hlooked
  exact ⟨g, by rw [Dev.settle_of_held hg (.inl htail'), hg], hsame, htail', hcopies'⟩

/-- A frame whose tail is noted. -/
theorem Dev.frame_tailNoted {d : Dev} {f : Frame} (hf : d.frame f.id = some f) (bad : Bool) :
    (((d.advanceFlows f.id).modFrame f.id (fun x => { x with tail := true })).sampleTail f.id none bad).frame f.id =
      some { f with tail := true } := by
  rw [Dev.frame_of_frames (Dev.sampleTail_frames ..)]
  refine Dev.frame_modFrame_some (fun x => { x with tail := true }) ?_ (fun _ hx => hx)
  rw [Dev.frame_of_frames (Dev.advanceFlows_frames ..), hf]

/-- The tail of a bad frame counts at its port, and leaves its copies bad (R156). -/
theorem Dev.tailCheck_wrongFcs_leaves {d : Dev} {f : Frame} (hf : d.frame f.id = some f) (hport : f.wb.port < 36)
    (hfcs : f.fcsOk = false) (hmir : f.mir = none) (hrcv : f.rcv = none) (hheld : f.heldDup = false)
    (hrun : d.on (SID_PORT_STS_FROZEN f.wb.port) = false) :
    (d.tailCheck f false 0 none).rn (PORT_RX_ERR f.wb.port) = (d.rn (PORT_RX_ERR f.wb.port) + 1) % 2 ^ 32 ∧
    ∀ g, (d.tailCheck f false 0 none).frame f.id = some g → ∀ c ∈ g.copies, c.bad = true := by
  have hb : portReg (PORT_RX_ERR f.wb.port) := by simp only [portReg, PORT_RX_ERR]; omega
  obtain ⟨e, he⟩ : ∃ e, e = ((((d.tailErrors f).advanceFlows f.id).modFrame f.id (fun x => { x with tail := true })).sampleTail
    f.id none true) := ⟨_, rfl⟩
  have hrn : e.rn (PORT_RX_ERR f.wb.port) = (d.rn (PORT_RX_ERR f.wb.port) + 1) % 2 ^ 32 := by
    rw [he, Dev.rn_sampleTail, Dev.rn_modFrame, Dev.rn_advanceFlows, Dev.rn_tailErrors hport hrun]
  have hframe : e.frame f.id = some { f with tail := true } := by
    rw [he, Dev.frame_tailNoted]
    rw [Dev.frame_of_fab (Dev.tailErrors_fab ..), hf]
  rw [Dev.tailCheck_wrongFcs hport hfcs, Dev.tailFrame_bad hmir hrcv hheld, ← he]
  refine ⟨?_, fun g hg => ?_⟩
  · rw [Dev.rn_drained _ (calm_of_portReg hb) (ne_of_portReg hb (by decide)) (ne_of_portReg hb (by decide)), Dev.rn_settle,
      Dev.rn_badCopies hb, hrn]
  · rw [Dev.frame_of_frames (Dev.drained_frames _)] at hg
    refine Dev.badCopies_bad (fun x hx c hc => .inr ?_) (Dev.frame_of_settle hg)
    rw [hframe] at hx
    cases hx
    exact List.mem_map_of_mem hc

/-- The tail of a good frame that has copies left is noted. -/
theorem Dev.tailGood_leaves {d : Dev} {f : Frame} (hf : d.frame f.id = some f) (hcopies : f.copies ≠ []) (c : Prop)
    [Decidable c] :
    (((((if c then d.bwIn f.wb.port f.wire else d).advanceFlows f.id).modFrame f.id
      (fun x => { x with tail := true })).sampleTail f.id none false).settle f.id).drained.frame f.id =
      some { f with tail := true } := by
  have hheld : (if c then d.bwIn f.wb.port f.wire else d).frame f.id = some f := by
    split
    · rw [Dev.frame_of_fab (Dev.bwIn_fab ..), hf]
    · exact hf
  have hframe := Dev.frame_tailNoted hheld false
  rw [Dev.frame_of_frames (Dev.drained_frames _), Dev.settle_of_held hframe (.inr hcopies), hframe]

/-- The next copy of an idle port is in transmission, with its bytes padded to 60 and its FCS on the wire (R154, R185). -/
theorem Dev.startCopy_plain_leaves {d : Dev} {f : Frame} {c : Copy} (hf : f ∈ d.fab.frames) (hc : c ∈ f.copies)
    (hmir : c.mirror = false) (hkind : f.kind = 0)
    (htag : (d.shaper c.port).putsTag c = false)
    (hsa : (d.shaper c.port).txSa c.port ((d.shaper c.port).startBytes f c) = none)
    (htc : (d.shaper c.port).tcEvent f ((d.shaper c.port).startBytes f c) = none) {l : List Nat}
    (hl : l = (d.shaper c.port).startBytes f c ++ List.replicate (60 - ((d.shaper c.port).startBytes f c).length) 0) :
    ((d.startCopy f c).sendingClass c.port).isSome = true ∧
    (tget { bytes := [], body := [], an := none, stomped := false } (d.startCopy f c).fab.wire c.port).bytes =
      l ++ fcs l := by
  rw [Dev.startCopy_plain hmir hkind htag hsa htc]
  dsimp only
  rw [← hl]
  refine ⟨?_, ?_⟩
  · rw [Dev.sendingClass_of_frames (Dev.sample_frames ..)]
    refine Dev.sendingClass_modCopy (d := d.shaper c.port) ?_ hc rfl ⟨rfl, rfl⟩
    rw [Dev.shaper_frames]; exact hf
  · rw [Dev.sample_wire]
    dsimp only
    rw [tget_tput_self _ _ _ _ (terase_keys _ _)]

/-- Once a copy is done, its frame has none left at the port, and a good one at an external port is delivered (R194). -/
theorem Dev.copyDone_leaves {d : Dev} {f g : Frame} {c : Copy} (hg : (d.copyDone f c).frame f.id = some g) :
    (∀ x ∈ g.copies, x.port ≠ c.port) ∧ (c.bad = false → c.port < 36 → c.port ∈ g.delivered) := by
  obtain ⟨x, -, rfl⟩ := Dev.frame_of_resolve hg
  refine ⟨fun y hy => by simpa using (List.mem_filter.mp hy).2, fun hbad hport => ?_⟩
  have hdel : (!c.bad && decide (c.port < 36)) = true := by simp [hbad, hport]
  unfold Frame.without
  rw [if_pos hdel]
  exact mem_insertNat ..

/-- Settles O14, row by row. -/
theorem fabricCommandsTakeEffect : Obligations.FabricCommandsTakeEffect := by
  unfold Obligations.FabricCommandsTakeEffect
  refine ⟨?down, ?short, ?ignored, ?plain, ?unknown, ?ruleDrop, ?looked, ?badTail, ?goodTail, ?start, ?noStart, ?done⟩
  case down =>
    intro s dt p ts256 bytes d hp hlink
    exact (exec_frameIngress ..).trans
      (State.onAll_next_sameMem (decide_eq_true hp) (Dev.frameAtMac_linkDown _ ts256 bytes none hlink))
  case short =>
    intro s dt p ts256 bytes d hp hlink howner hstate htow htool hsid hrun hlen
    have hcalm : calm (PORT_RX_LEN_ERR p) := calm_of_portReg (by simp only [portReg, PORT_RX_LEN_ERR]; omega)
    have hsts : PORT_STS p ≠ PORT_RX_LEN_ERR p := by simp only [PORT_STS, PORT_RX_LEN_ERR]; omega
    refine completes_of_becomes (exec_frameIngress_of_notTool hp htool
      (Dev.frameIngress_short hlink howner hstate htow (by rw [hsid]; decide) hlen))
      ⟨?_, Dev.portErr_fab .., s.sameMem_becomes _⟩
    exact Dev.rn_portErr_self (by omega) hcalm hsts hrun
  case ignored =>
    intro s dt p ts256 bytes d hp hlink howner hstate htow htool hsid hlen hptp
    refine completes_of_becomes (exec_frameIngress_of_notTool hp htool
      (Dev.frameIngress_ignored hlink howner hstate htow hsid hlen ((Dev.isPtp_countRx ..).trans hptp)))
      ⟨?_, (Dev.bump_fab ..).trans (Dev.countRx_fab ..), s.sameMem_becomes _⟩
    rw [Dev.rn_bump_self, Dev.rn_countRx _ (.inr (by simp only [PORT_RX_BYTE_HI, SID_PORT_IGN_CNT]; omega))]
  case plain =>
    intro s dt p ts256 bytes d hp hlink howner hstate htow htool hsid hlen hptp htrunk hmsec
    obtain ⟨g, hg⟩ : ∃ g, g = d.statRx p bytes.length := ⟨_, rfl⟩
    have hfab : g.fab = d.fab := by rw [hg]; exact Dev.statRx_fab ..
    have hptp' : g.isPtp bytes = false := by rw [hg, Dev.isPtp_statRx, hptp]
    have hsec : (d.statRx p bytes.length).secVerify p bytes none = (.pass false, g) := by
      rw [hg, Dev.secVerify_off ((Dev.msecOn_statRx ..).trans hmsec)]
    have hport : (g.plainFrame p ts256 bytes false).wb.port < 36 := Nat.lt_trans hp (by decide)
    obtain ⟨hnext, hframes⟩ := g.enter_fab hport
    rw [hfab] at hnext hframes
    refine completes_of_becomes (exec_frameIngress_of_notTool hp htool (Dev.frameIngress_plain hlink howner hsid hstate
      (by rw [htow]; nofun) htrunk (Dev.ingressMirrored_of_towOff htow ..) hlen hptp hsec hptp'))
      ⟨hnext, ?_, ?_, ?_, s.sameMem_becomes _⟩
    · rw [hframes, List.dropLast_concat]
    · rw [hframes, List.getLast?_concat]; rfl
    · rw [hframes, List.getLast?_concat]; rfl
  case unknown =>
    intro s dt id d hnone
    refine (exec_frameLookup ..).trans (State.onDev_next rfl ?_)
    rw [hnone]
  case ruleDrop =>
    intro s dt id r f d hf hlooked htail hkind hcopies hacf hdrop hrule hr
    obtain ⟨hcnt, hhit, hframe⟩ := Dev.lookup_ruleDrop_leaves hf htail rfl hkind hacf hrule hdrop hr
    rw [hcopies] at hframe
    exact completes_of_becomes (exec_frameLookup_of_frame hf hlooked) ⟨hcnt, hhit, hframe, s.sameMem_becomes _⟩
  case looked =>
    intro s dt id f d q dests hf hlooked htail hkind hcopies hacf hrule hdrop hstream hguard htow
    obtain ⟨g, hg, hsame, -, hcs⟩ := Dev.lookup_plain_leaves hf htail hcopies rfl hkind hacf hrule hdrop hstream hguard htow
    refine completes_of_becomes (exec_frameLookup_of_frame hf hlooked) ⟨?_, ?_, s.sameMem_becomes _⟩
    · rw [hg]; exact congrArg some hsame
    · rw [hg]
      refine List.all_eq_true.mpr fun c hc => ?_
      obtain ⟨hport, hcls⟩ := hcs c hc
      exact Bool.and_eq_true_iff.mpr ⟨List.contains_iff_mem.mpr hport, beq_iff_eq.mpr hcls⟩
  case badTail =>
    intro s dt id f d hf hlooked htail hheld hmir hrcv hfcs hport hrun
    obtain rfl := Dev.id_of_frame hf
    obtain ⟨hcnt, hbad⟩ := Dev.tailCheck_wrongFcs_leaves hf hport hfcs hmir hrcv hheld hrun
    refine ⟨_, exec_frameTailCheck_looked hf hlooked htail, rfl, hcnt, ?_⟩
    rw [List.all_eq_true]
    intro c hc
    obtain hnone | ⟨g, hg⟩ := Option.eq_none_or_eq_some ((d.tailCheck f false 0 none).frame f.id)
    · rw [hnone] at hc; cases hc
    · rw [hg] at hc; exact hbad g hg c hc
  case goodTail =>
    intro s dt id f d hf hlooked htail hfcs hicv hlen hsdu hmir hrcv hheld hrest hcopies
    obtain rfl := Dev.id_of_frame hf
    refine completes_of_becomes (exec_frameTailCheck_good hf hlooked htail hfcs hicv hlen hsdu hmir hrcv hrest)
      ⟨?_, s.sameMem_becomes _⟩
    rw [Dev.tailGood_leaves hf hcopies]; rfl
  case start =>
    intro s dt p f c d g body l hp hidle hup hnext hport hmir hkind htag hsa htc
    subst hport
    obtain ⟨hf, hc, -⟩ := Dev.mem_of_nextCopy hnext
    obtain ⟨hsends, hwire⟩ := Dev.startCopy_plain_leaves (l := l) hf hc hmir hkind htag hsa htc rfl
    exact completes_of_becomes (exec_egressFrameStart_next hp hidle hup hnext) ⟨hsends, hwire, s.sameMem_becomes _⟩
  case noStart =>
    intro s dt p d hp hnone
    refine (exec_egressFrameStart ..).trans (State.onDev_next (portOk_iff.mpr hp) ?_)
    obtain hsends | hnone := hnone
    · exact if_pos (.inl hsends)
    · rw [hnone, ite_self]
  case done =>
    intro s dt p f c d hp hsends htail hport
    subst hport
    obtain hnone | ⟨g, hg⟩ := Option.eq_none_or_eq_some ((d.copyDone f c).frame f.id)
    · refine completes_of_becomes (exec_egressCopyDone_sent hp hsends htail) ⟨?_, fun _ _ => ?_, s.sameMem_becomes _⟩
      · rw [hnone]; rfl
      · rw [hnone]; rfl
    · obtain ⟨hgone, hdel⟩ := Dev.copyDone_leaves hg
      refine completes_of_becomes (exec_egressCopyDone_sent hp hsends htail)
        ⟨?_, fun hbad hlt => ?_, s.sameMem_becomes _⟩
      · rw [hg]
        exact List.all_eq_true.mpr fun x hx => bne_iff_ne.mpr (hgone x hx)
      · rw [hg]
        exact List.contains_iff_mem.mpr (hdel hbad hlt)

end Sys2Proof.Machine
end

section
/-! PROOFS. Endpoint queues and samplers: what doorbells, transmission, delivery, receipts, samples and writes of N do where
they apply (R169, R171, R173, R178, R194, R195, R197, R199). -/

namespace Sys2Proof.Machine

open R

theorem exec_cqDb (s : State) (dt q v : Nat) (a : Sys2Proof.Acc) : exec (.cqDb dt a q v) s = execCqDb dt a q v s := rfl

theorem exec_transmitDescriptorSend (s : State) (dt o : Nat) :
    exec (.transmitDescriptorSend dt o) s = execTransmitDescriptorSend dt o s := rfl

theorem exec_receiveDelivery (s : State) (dt id p : Nat) :
    exec (.receiveDelivery dt id p) s = execReceiveDelivery dt id p s := rfl

theorem exec_deliveryReceipt (s : State) (dt : Nat) : exec (.deliveryReceipt dt) s = execDeliveryReceipt dt s := rfl

theorem exec_sampleDelivery (s : State) (dt k : Nat) : exec (.sampleDelivery dt k) s = execSampleDelivery dt k s := rfl

theorem exec_outrPortNWrite (s : State) (dt p k v : Nat) (a : Sys2Proof.Acc) :
    exec (.outrPortNWrite dt a p k v) s = execOutrPortNWrite dt a p k v s := rfl

/-! ### Doorbells (R169) -/

/-- A doorbell that moves TAIL forward within the ring: TAIL takes the count, the queue is no longer dead (R183), and none of
its completions is pending any more. -/
def Dev.rung (d : Dev) (q v : Nat) : Dev :=
  { (d.put (CQ_TAIL_COUNT (qOwner q) (qIdx q)) (v % 65536)) with
    dead := d.dead.filter (· ≠ q), fab := { d.fab with donePend := d.fab.donePend.filter (· ≠ q) } }

theorem Dev.doorbell_forward {d : Dev} {q v : Nat} (hrole : d.qRole q ≠ 0)
    (hahead : (v % 65536 + 65536 - d.qTail q) % 65536 < 32768)
    (hring : (v % 65536 + 65536 - d.qHead q) % 65536 ≤ d.ringSize q) :
    d.doorbell q v = ((d.rung q v).qGroup q).qEmpty q := by
  have hback : ¬(decide (32768 ≤ (v % 65536 + 65536 - d.qTail q) % 65536) = true ∨
      d.ringSize q < (v % 65536 + 65536 - d.qHead q) % 65536) := by
    rw [decide_eq_true_eq]; omega
  exact (if_neg hrole).trans (if_neg hback)

/-! ### Transmission (R173) -/

/-- The round-robin position of class `k` at the port of owner `o` moves past queue `n`. -/
def Dev.turnPast (d : Dev) (o k n : Nat) : Dev := { d with fab := { d.fab with rr := tset 0 (n + 1) (8 * o + k) d.fab.rr } }

/-- Where the first queue in the order of R173 holds nothing back for its budget, it sends, and the round-robin position of
its class moves past it. -/
theorem Dev.sendFirst_cons_of_sent {d : Dev} {m : Mem} {o n : Nat} {rest : List Nat} {x : Dev × Mem}
    (hx : d.sendHead m (64 * o + n) false = x) (hsent : x.1.on (CQ_STS_BUDGET_HOLD o n) = false) :
    Dev.sendFirst o (n :: rest) d m = (x.1.turnPast o (d.fld (CQ_CFG_CLASS o n)) n, x.2) := by
  subst hx
  exact if_neg (Bool.eq_false_iff.mp hsent)

/-! ### Delivery (R178) -/

/-- A copy that takes a posted descriptor is written as far as it has arrived. -/
theorem Dev.delivery_of_taken {d : Dev} {m : Mem} {p q : Nat} {f : Frame} {c : Copy} {r : Dev × Mem × Bool}
    (hidle : d.inProgress p = none) (hnext : d.nextDelivery p = some (f, c)) (hqueue : c.queue = some q)
    (hr : Dev.takeHead q (d.qPosted q) d m = r) (htaken : r.2.2 = true) :
    d.delivery m f.id p =
      (r.1.modCopy f.id p (fun c => { c with sending := true })).writeCopy r.2.1 f { c with sending := true } q := by
  unfold Dev.delivery
  rw [hidle, hnext]
  dsimp only
  rw [hqueue]
  dsimp only
  rw [if_neg (not_not_intro rfl), hr, if_pos htaken]

/-! ### Receipts (R194, R195) -/

/-- The queue that a sender's receipts go to. -/
def Dev.receiptQueue (d : Dev) (sendQ : Nat) : Nat :=
  64 * qOwner sendQ + d.fld (CQ_CFG_RCPT (qOwner sendQ) (qIdx sendQ)) % (if qOwner sendQ = 8 then 16 else 64)

/-- The receipt of R195 in the descriptor at the head of queue `e`. -/
def Dev.receiptWords (d : Dev) (m : Mem) (e : Nat) (r : Receipt) : List Nat :=
  [portMask r.delivered % 2 ^ 32, portMask r.delivered / 2 ^ 32 + 65536 * (portMask r.attempted / 2 ^ 32),
    1 + 2 * b2n (bit 1 (d.headWord m e 2)) + 16 * 3 + 4096 * r.sendQ, portMask r.attempted % 2 ^ 32] ++
    (if portMask r.delivered ≠ portMask r.attempted then r.wb.flag 3 else r.wb).words

/-- The oldest receipt no longer waits. -/
def Dev.receiptTaken (d : Dev) (rest : List Receipt) : Dev := { d with fab := { d.fab with receipts := rest } }

/-- The oldest receipt of a living sender completes the descriptor at the head of its event queue. -/
theorem exec_deliveryReceipt_written {s : State} {dt : Nat} {r : Receipt} {rest : List Receipt} {g : Dev} {e : Nat}
    (hfirst : (s.now dt).fab.receipts = r :: rest) (hg : (s.now dt).receiptTaken rest = g)
    (halive : (s.now dt).coachDown (qOwner r.sendQ) = false) (hdead : r.sendQ ∉ (s.now dt).dead)
    (he : (s.now dt).receiptQueue r.sendQ = e) (hrole : (s.now dt).qRole e = 4) (hposted : (s.now dt).qPosted e ≠ 0) :
    exec (.deliveryReceipt dt) s =
      .next (s.becomesM (g.complete s.mem e (g.receiptWords s.mem e r)).1
        (g.complete s.mem e (g.receiptWords s.mem e r)).2) := by
  subst hg he
  refine (exec_deliveryReceipt ..).trans (State.onAll_next rfl ?_)
  dsimp only
  rw [hfirst]
  have hspeaks : ¬(((s.now dt).receiptTaken rest).coachDown (qOwner r.sendQ) = true ∨
      ((s.now dt).receiptTaken rest).dead.contains r.sendQ = true) := by
    rintro (hdown | hmem)
    · exact Bool.false_ne_true (halive.symm.trans hdown)
    · exact hdead (List.contains_iff_mem.mp hmem)
  have htakes : ¬((s.now dt).qRole ((s.now dt).receiptQueue r.sendQ) ≠ 4 ∨
      (s.now dt).qPosted ((s.now dt).receiptQueue r.sendQ) = 0) := not_or.mpr ⟨not_not_intro hrole, hposted⟩
  exact (if_neg hspeaks).trans (if_neg htakes)

/-! ### Samples (R199, R201) -/

/-- The samples that wait for queue `q`, whichever destinations name it (R201). -/
def Dev.samplesWaiting (d : Dev) (q : Nat) : Nat :=
  (d.fab.samples.filter (fun x => x.waiting && decide (x.dest < 4) && d.fld (OUTR_DEST_CFG_QUEUE x.dest) == q)).length

/-- The oldest sample that waits for a destination whose queue holds a descriptor is written, unless it is refused. -/
theorem exec_sampleDelivery_waiting {s : State} {dt k q : Nat} {x : Sample} (hk : k < 4)
    (hq : (s.now dt).fld (OUTR_DEST_CFG_QUEUE k) = q) (hposted : (s.now dt).qPosted q ≠ 0)
    (holdest : ((s.now dt).fab.samples.filter (fun x => x.waiting && x.dest == k)).head? = some x)
    (hup : (s.now dt).fabDown = false)
    (htakes : (s.now dt).sampleRefused k q ((s.now dt).samplesWaiting q) x = false) :
    exec (.sampleDelivery dt k) s =
      .next (s.becomesM ((s.now dt).sampleWrite s.mem k q x).1 ((s.now dt).sampleWrite s.mem k q x).2) := by
  subst hq
  have hsome : (s.now dt).fab.samples.filter (fun x => x.waiting && x.dest == k) ≠ [] :=
    List.ne_nil_of_mem (List.mem_of_head? holdest)
  refine (exec_sampleDelivery ..).trans (State.onAll_next (decide_eq_true hk) ?_)
  dsimp only
  rw [if_neg (Bool.eq_false_iff.mp hup), if_pos ⟨hposted, hsome⟩, holdest]
  exact (if_neg (Bool.eq_false_iff.mp htakes)).trans (if_neg hposted)

/-! ### The commands -/

/-- Settles O16, row by row. -/
theorem queueCommandsTakeEffect : Obligations.QueueCommandsTakeEffect := by
  unfold Obligations.QueueCommandsTakeEffect
  refine ⟨?doorbell, ?transmit, ?deliver, ?receipt, ?sample, ?loadN⟩
  case doorbell =>
    intro s dt q v a d hq hmay hrole hahead hring e he
    subst he
    exact (exec_cqDb ..).trans (State.onDevM_next (decide_eq_true hq)
      ((Dev.regWrite_pass hmay).trans (Dev.doorbell_forward hrole hahead hring)))
  case transmit =>
    intro s dt o n rest d ho horder hsent x hx
    refine (exec_transmitDescriptorSend ..).trans 
      (State.onAll_next (r := (x.1.turnPast o (d.fld (CQ_CFG_CLASS o n)) n, x.2)) (decide_eq_true ho) ?_)
    rw [horder]
    exact Dev.sendFirst_cons_of_sent hx.symm (hx ▸ hsent)
  case deliver =>
    intro s dt id p q f c d hfrom hto hidle hnext hqueue hid r hr htaken
    subst hid
    exact (exec_receiveDelivery ..).trans (State.onAll_next (by simp [hfrom, hto])
      (Dev.delivery_of_taken hidle hnext hqueue hr.symm htaken))
  case receipt =>
    intro s dt r rest d hfirst halive hdead e he hrole hposted x hx
    subst hx
    exact exec_deliveryReceipt_written hfirst rfl halive hdead he.symm hrole hposted
  case sample =>
    intro s dt k x d hk hposted holdest hup htakes
    exact exec_sampleDelivery_waiting hk rfl hposted holdest hup htakes
  case loadN =>
    intro s dt p k v a d hp hk hmay
    exact (exec_outrPortNWrite ..).trans (State.onDevM_next (by simp [hp, hk]) (Dev.regWrite_pass hmay))

end Sys2Proof.Machine
end

section
/-! PROOFS. The tow mirror: its changes of state at legacy writes and at the end of the arm window, and what they leave as it
was (R205, R206). -/

namespace Sys2Proof.Machine

open R

theorem exec_towArm (s : State) (dt v : Nat) (a : Sys2Proof.Acc) : exec (.towArm dt a v) s = execTowArm dt a v s := rfl

theorem exec_towEnable (s : State) (dt v : Nat) (a : Sys2Proof.Acc) :
    exec (.towEnable dt a v) s = execTowEnable dt a v s := rfl

theorem exec_towDisable (s : State) (dt v : Nat) (a : Sys2Proof.Acc) :
    exec (.towDisable dt a v) s = execTowDisable dt a v s := rfl

theorem exec_towArmExpiry (s : State) (dt : Nat) : exec (.towArmExpiry dt) s = execTowArmExpiry dt s := rfl

/-! ### Taking a state -/

/-- Of the registers that no interrupt changes, a change of state reaches TOW_STS and TOW_LEGACY_CTL alone. -/
theorem Dev.rn_setTow (d : Dev) (st : Nat) {b : Nat} (hc : calm b) (hsts : TOW_STS ≠ b) (hctl : TOW_LEGACY_CTL ≠ b) :
    (d.setTow st).rn b = d.rn b := by
  unfold Dev.setTow
  split
  · rfl
  · rw [Dev.rn_raiseIf _ _ (by decide) hc, Dev.rn_put_ne _ _ _ hctl, Dev.rn_put_ne _ _ _ hctl, Dev.rn_put_ne _ _ _ hsts]

theorem Dev.fld_setTow (d : Dev) {st : Nat} (hst : st < 4) : (d.setTow st).fld TOW_STS_STATE = st := by
  unfold Dev.setTow
  split
  next h => exact h
  next =>
    rw [Dev.fld_of_rn (Dev.rn_raiseIf _ _ (by decide) (by decide)), Dev.fld_put_ne _ _ _ _ (by decide),
      Dev.fld_put_ne _ _ _ _ (by decide), Dev.fld_put_self _ _ _ (by decide) (by decide)]
    exact Nat.mod_eq_of_lt hst

/-- The record of a change of state leaves the state that was taken. -/
theorem Dev.fld_setTow_post (d : Dev) {st : Nat} (hst : st < 4) (block code sev owner inst : Nat) (data : List Nat) :
    ((d.setTow st).post block code sev owner inst data).fld TOW_STS_STATE = st :=
  (Dev.fld_of_rn (Dev.rn_post _ (by decide))).trans (d.fld_setTow hst)

/-- An error turns the mirror off. -/
theorem Dev.fld_towErr (d : Dev) (cfg : Bool) : (d.towErr cfg).fld TOW_STS_STATE = 0 := Dev.fld_setTow_post _ (by decide) ..

/-- A sequence error is recorded in TOW_L_STS. -/
theorem Dev.on_towErr_seqErr (d : Dev) : (d.towErr false).on TOW_L_STS_SEQ_ERR = true := by
  have hkept : (d.towErr false).rn TOW_L_STS = (d.set TOW_L_STS_SEQ_ERR).rn TOW_L_STS :=
    (Dev.rn_post _ (by decide)).trans (Dev.rn_setTow _ _ (by decide) (by decide) (by decide))
  exact (Dev.on_of_rn hkept).trans (d.on_set _ rfl (by decide))

/-! ### Legacy writes to TOW_LEGACY_CTL (R205, R206) -/

section LegacyWrite

variable {d : Dev} {v : Nat} (hopen : d.on TOW_STS_SEALED_OFF = false) (hclock : d.gated 4 0 = false)
include hopen hclock

theorem Dev.fld_towCtl_arm (harm : bit 0 v = true) (hen : bit 1 v = false) (hdis : bit 2 v = false)
    (hst : d.fld TOW_STS_STATE ≠ 2) : (d.towCtl v).fld TOW_STS_STATE = 1 := by
  have heq : d.towCtl v = ({ d with fab := { d.fab with towArm := d.up } } : Dev).setTow 1 := by
    simp [Dev.towCtl, hopen, hclock, harm, hen, hdis, hst]
  rw [heq]
  exact Dev.fld_setTow _ (by decide)

theorem Dev.fld_towCtl_enable (harm : bit 0 v = false) (hen : bit 1 v = true) (hdis : bit 2 v = false)
    (hst : d.fld TOW_STS_STATE = 1) (hchecks : d.towChecks = true) : (d.towCtl v).fld TOW_STS_STATE = 2 := by
  have heq : d.towCtl v = (d.setTow 2).post 0x14 0x0001 0 9 (d.fld TOW_L_ANALYSIS_PORT) := by
    simp [Dev.towCtl, hopen, hclock, harm, hen, hdis, hst, hchecks]
  rw [heq]
  exact Dev.fld_setTow_post _ (by decide) ..

theorem Dev.fld_towCtl_disable (harm : bit 0 v = false) (hdis : bit 2 v = true) : (d.towCtl v).fld TOW_STS_STATE = 0 := by
  have heq : d.towCtl v =
      if d.fld TOW_STS_STATE = 2 then (d.setTow 0).post 0x14 0x0002 0 9 0 else d.setTow 0 := by
    simp [Dev.towCtl, hopen, hclock, harm, hdis]
  rw [heq]
  split
  · exact Dev.fld_setTow_post _ (by decide) ..
  · exact Dev.fld_setTow _ (by decide)

end LegacyWrite

/-! ### Registers outside the two windows of the mirror -/

section Outside

variable {b : Nat} (hc : calm b) (htow : b / 65536 ≠ 0x4032) (hlegacy : b / 65536 ≠ 0x4033)
include hc htow hlegacy

theorem Dev.rn_setTow_outside (d : Dev) (st : Nat) : (d.setTow st).rn b = d.rn b :=
  d.rn_setTow st hc (by simp only [TOW_STS]; omega) (by simp only [TOW_LEGACY_CTL]; omega)

theorem Dev.rn_setTow_post_outside (d : Dev) (st block code sev owner inst : Nat) (data : List Nat) :
    ((d.setTow st).post block code sev owner inst data).rn b = d.rn b :=
  (Dev.rn_post _ hc).trans (d.rn_setTow_outside hc htow hlegacy st)

theorem Dev.rn_towErr_outside (d : Dev) (cfg : Bool) : (d.towErr cfg).rn b = d.rn b := by
  have hsts : (if cfg then TOW_L_STS_CFG_ERR else TOW_L_STS_SEQ_ERR).addr ≠ b := by
    cases cfg <;> simp [TOW_L_STS_CFG_ERR, TOW_L_STS_SEQ_ERR, TOW_L_STS] <;> omega
  exact (Dev.rn_setTow_post_outside hc htow hlegacy ..).trans (d.rn_set_ne _ hsts)

/-- Whatever a legacy write asks for, it ends in a change of state, in an error or in nothing. -/
theorem Dev.rn_towCtl_outside (d : Dev) (v : Nat) : (d.towCtl v).rn b = d.rn b := by
  have hset : ∀ (e : Dev) (st : Nat), (e.setTow st).rn b = e.rn b := fun e => e.rn_setTow_outside hc htow hlegacy
  have hpost : ∀ st code inst, ((d.setTow st).post 0x14 code 0 9 inst).rn b = d.rn b :=
    fun st code inst => d.rn_setTow_post_outside hc htow hlegacy st 0x14 code 0 9 inst []
  have herr : ∀ cfg, (d.towErr cfg).rn b = d.rn b := d.rn_towErr_outside hc htow hlegacy
  unfold Dev.towCtl
  dsimp only
  split_ifs
  · rfl
  · exact herr _
  · exact hpost ..
  · exact hset ..
  · exact hset ..
  · exact herr _
  · exact hpost ..
  · exact herr _
  · rfl

end Outside

/-! ### The commands -/

/-- What the commands of the mirror leave as it was: memory, the waiting commands, and every quiet register outside the two
windows of the mirror; `d` is the device as the command found it. -/
def State.sameButTow (s t : State) (d : Dev) : Prop :=
  s.sameMem t ∧ ∀ b, quiet b → b / 65536 ≠ 0x4032 → b / 65536 ≠ 0x4033 → t.dev.rn b = d.rn b

/-- A command that is a legacy write completes with what TOW_LEGACY_CTL makes of the value written. -/
theorem completes_towWrite {s : State} {dt v st : Nat} {a : Sys2Proof.Acc} {i : Instr}
    (he : exec i s = s.onDevM dt true fun m d => d.regWrite m a TOW_LEGACY_CTL (·.towCtl v))
    (hmay : (s.now dt).mayWrite s.mem a TOW_LEGACY_CTL) (hst : ((s.now dt).towCtl v).fld TOW_STS_STATE = st) :
    Completes i s fun t => s.sameButTow t (s.now dt) ∧ t.dev.fld TOW_STS_STATE = st :=
  completes_of_becomes (he.trans (State.onDevM_next rfl (Dev.regWrite_pass hmay)))
    ⟨⟨s.sameMem_becomes _, fun _ hq htow hlegacy => Dev.rn_towCtl_outside hq.1 htow hlegacy _ v⟩, hst⟩

/-- A millisecond after the ARM write an armed mirror ends in a sequence error. -/
theorem exec_towArmExpiry_due {s : State} {dt : Nat} (hst : (s.now dt).fld TOW_STS_STATE = 1)
    (hclock : (s.now dt).gated 4 0 = false) (hdue : (s.now dt).fab.towArm + 1000000 ≤ (s.now dt).up) :
    exec (.towArmExpiry dt) s = .next (s.becomes ((s.now dt).towErr false)) :=
  (exec_towArmExpiry ..).trans (State.onDev_next rfl (if_pos ⟨hst, by simp [hclock], decide_eq_true hdue⟩))

/-- Settles O17: the three writes by the case of TOW_LEGACY_CTL that applies, the arm window by the error that ends it. -/
theorem towMirrorCommandsTakeEffect : Obligations.TowMirrorCommandsTakeEffect := by
  unfold Obligations.TowMirrorCommandsTakeEffect
  intro keeps
  refine ⟨?arm, ?enable, ?disable, ?expiry⟩
  case arm =>
    intro s dt v a d hmay hopen hclock harm hen hdis hst
    exact completes_towWrite (exec_towArm ..) hmay (Dev.fld_towCtl_arm hopen hclock harm hen hdis hst)
  case enable =>
    intro s dt v a d hmay hopen hclock harm hen hdis hst hchecks
    exact completes_towWrite (exec_towEnable ..) hmay (Dev.fld_towCtl_enable hopen hclock harm hen hdis hst hchecks)
  case disable =>
    intro s dt v a d hmay hopen hclock harm hen hdis
    exact completes_towWrite (exec_towDisable ..) hmay (Dev.fld_towCtl_disable hopen hclock harm hdis)
  case expiry =>
    intro s dt d hst hclock hdue
    exact completes_of_becomes (exec_towArmExpiry_due hst hclock hdue)
      ⟨⟨s.sameMem_becomes _, fun _ hq htow hlegacy => d.rn_towErr_outside hq.1 htow hlegacy false⟩,
        d.fld_towErr false, d.on_towErr_seqErr⟩

end Sys2Proof.Machine
end

section
/-! PROOFS. Links of the network ports, PORT_CTL, the BEACONs of 10BASE-T1S and the transmit AN: what their commands do where
they apply (R211, R214, R215, R216, R217, R218, R219, R223, R228). -/

namespace Sys2Proof.Machine

open R

theorem exec_linkUp (s : State) (dt p rate sqi : Nat) (master : Bool) :
    exec (.linkUp dt p rate sqi master) s = execLinkUp dt p rate sqi master s := rfl

theorem exec_linkDown (s : State) (dt p : Nat) : exec (.linkDown dt p) s = execLinkDown dt p s := rfl

theorem exec_trainingFailure (s : State) (dt p : Nat) : exec (.trainingFailure dt p) s = execTrainingFailure dt p s := rfl

theorem exec_crankLimitExit (s : State) (dt : Nat) : exec (.crankLimitExit dt) s = execCrankLimitExit dt s := rfl

theorem exec_linkRestart (s : State) (dt p v : Nat) (a : Sys2Proof.Acc) :
    exec (.linkRestart dt a p v) s = execLinkRestart dt a p v s := rfl

theorem exec_canRecover (s : State) (dt p v : Nat) (a : Sys2Proof.Acc) :
    exec (.canRecover dt a p v) s = execCanRecover dt a p v s := rfl

theorem exec_cableTest (s : State) (dt p v : Nat) (a : Sys2Proof.Acc) :
    exec (.cableTest dt a p v) s = execCableTest dt a p v s := rfl

theorem exec_cableTestDone (s : State) (dt p cable dist : Nat) :
    exec (.cableTestDone dt p cable dist) s = execCableTestDone dt p cable dist s := rfl

theorem exec_plcaBeaconLoss (s : State) (dt p : Nat) : exec (.plcaBeaconLoss dt p) s = execPlcaBeaconLoss dt p s := rfl

theorem exec_plcaBeaconReturn (s : State) (dt p : Nat) :
    exec (.plcaBeaconReturn dt p) s = execPlcaBeaconReturn dt p s := rfl

theorem exec_msecTxsaSwitch (s : State) (dt p v : Nat) (a : Sys2Proof.Acc) :
    exec (.msecTxsaSwitch dt a p v) s = execMsecTxsaSwitch dt a p v s := rfl

/-! ### Coming up (R214, R215) -/

/-- What a PHY of one rate shows once it has trained: its rate, its role and its signal quality. -/
def Dev.phyTrained (d : Dev) (p rate sqi : Nat) (master : Bool) : Dev :=
  { ((((d.put (FAB_PORT_CFG_RATE p) rate).put (PORT_PHY_STS_TRAIN p) 2).put (PORT_PHY_STS_MASTER p)
      (b2n (d.isMaster p master))).put (PORT_PHY_STS_SQI p) sqi) with
    prt := { d.prt with lastRate := tset 0 rate p d.prt.lastRate, fails := terase p d.prt.fails } }

/-- The role depends on PORT_PHY_CFG, not on the rate. -/
theorem Dev.isMaster_putRate (d : Dev) (p rate : Nat) (master : Bool) :
    (d.put (FAB_PORT_CFG_RATE p) rate).isMaster p master = d.isMaster p master := by
  rw [Dev.isMaster, Dev.isMaster, Dev.fld_put_ne]
  simp only [FAB_PORT_CFG_RATE, FAB_PORT_CFG, PORT_PHY_CFG_MS, PORT_PHY_CFG]
  omega

theorem Dev.upRate_t2 (d : Dev) {p : Nat} (rate : Nat) (hfrom : 2 ≤ p) (hto : p < 14) :
    d.upRate p rate = if p < 6 then 3 else 2 := by
  rw [Dev.upRate, if_pos hfrom, fixedRate, if_pos hto]

/-- A T2 port that may come up and is down comes up as its PHY has trained. -/
theorem Dev.linkUp_t2 {d : Dev} {p rate sqi : Nat} {master : Bool} (hfrom : 2 ≤ p) (hto : p < 14) (hon : d.portOn p = true)
    (hdown : d.on (PORT_STS_LINK p) = false) :
    d.linkUp p rate sqi master = (d.phyTrained p (if p < 6 then 3 else 2) sqi master).linkSet p true := by
  have hcan : ¬16 ≤ p := by omega
  have hlin : ¬28 ≤ p := by omega
  have hphy : p < 16 := by omega
  have ht10 : ¬p < 2 := by omega
  simp [Dev.linkUp, hon, hdown, hcan, hlin, hphy, hto, ht10, Dev.phyTrained, d.upRate_t2 rate hfrom hto, d.isMaster_putRate]

/-! ### The crank limit (R216) -/

/-- Whether a port may come up depends on its configuration, its siding state and the boot phase alone. -/
theorem Dev.portOn_put (d : Dev) {f : Fld} {p : Nat} (v : Nat) (hcfg : f.addr ≠ PORT_CFG p) (hsid : f.addr ≠ SID_PORT_STS p)
    (hboot : f.addr ≠ SYS_BOOT_STS) : (d.put f v).portOn p = d.portOn p := by
  have hused : (d.put f v).portUsed p = d.portUsed p := by
    rw [Dev.portUsed, Dev.portUsed, Dev.on_of_rn (f := PORT_CFG_EN p) (Dev.rn_put_ne _ _ _ hcfg), Dev.fld_put_ne _ _ _ _ hcfg]
  have hserv : (d.put f v).inService = d.inService := by
    rw [Dev.inService, Dev.inService, Dev.fld_put_ne _ _ _ _ hboot, Dev.put_boot]
  rw [Dev.portOn, Dev.portOn, hused, hserv, Dev.fld_put_ne _ _ _ _ hsid, Dev.put_sid]

theorem Dev.portOn_clr_crankLimit (d : Dev) (p q : Nat) : (d.clr (PORT_STS_CRANK_LIMIT p)).portOn q = d.portOn q :=
  d.portOn_put 0 (by simp only [PORT_STS_CRANK_LIMIT, PORT_STS, PORT_CFG]; omega)
    (by simp only [PORT_STS_CRANK_LIMIT, PORT_STS, SID_PORT_STS]; omega)
    (by simp only [PORT_STS_CRANK_LIMIT, PORT_STS, SYS_BOOT_STS]; omega)

/-- A T10 port leaves the crank limit but keeps its rate until a restart. -/
def Dev.crankFreed (d : Dev) (p : Nat) : Dev :=
  { (d.clr (PORT_STS_CRANK_LIMIT p)) with prt := { d.prt with crankHeld := insertNat p d.prt.crankHeld } }

theorem Dev.rn_crankFreed (d : Dev) (p : Nat) {b : Nat} (h : PORT_STS p ≠ b) :
    (d.crankFreed p).rn b = d.rn b := d.rn_clr_ne _ h

/-- What leaving crank does to a T10 port (the step of `execCrankLimitExit`). -/
def Dev.crankLeave (d : Dev) (p : Nat) : Dev :=
  if !d.on (PORT_STS_CRANK_LIMIT p) then d
  else
    let d := d.clr (PORT_STS_CRANK_LIMIT p)
    if !d.portOn p then d
    else if d.on (PORT_PHY_CFG_UPSHIFT p) then (d.linkSet p false).train p (d.maxRate p)
    else { d with prt := { d.prt with crankHeld := insertNat p d.prt.crankHeld } }

/-- The row frees both T10 ports, port 0 first, unless the supply is still in crank. -/
theorem exec_crankLimitExit_eq (s : State) (dt : Nat) :
    exec (.crankLimitExit dt) s = s.onDev dt true fun d =>
      if d.fld HPS_SUP_STS_RANGE = 1 ∨ d.fld HPS_SUP_STS_RANGE = 2 then d else (d.crankLeave 0).crankLeave 1 := rfl

theorem Dev.crankLeave_unlimited {d : Dev} {p : Nat} (h : d.on (PORT_STS_CRANK_LIMIT p) = false) : d.crankLeave p = d :=
  if_pos (by simp [h])

theorem Dev.crankLeave_held {d : Dev} {p : Nat} (hlim : d.on (PORT_STS_CRANK_LIMIT p) = true)
    (hup : d.on (PORT_PHY_CFG_UPSHIFT p) = false) (hon : d.portOn p = true) : d.crankLeave p = d.crankFreed p := by
  have hkeep : (d.clr (PORT_STS_CRANK_LIMIT p)).on (PORT_PHY_CFG_UPSHIFT p) = false :=
    (Dev.on_of_rn (d.rn_clr_ne _ (by
      simp only [PORT_STS_CRANK_LIMIT, PORT_STS, PORT_PHY_CFG_UPSHIFT, PORT_PHY_CFG]; omega))).trans hup
  simp [Dev.crankLeave, Dev.crankFreed, hlim, hkeep, d.portOn_clr_crankLimit, hon]

/-! ### PORT_CTL (R217, R228) -/

/-- LINK_RESTART alone restarts the link of a port that may come up. -/
theorem Dev.portCtl_restart {d : Dev} {p v : Nat} (hp : p < 16) (hrestart : bit 0 v = true) (htest : bit 2 v = false)
    (hon : d.portOn p = true) : d.portCtl p v = d.linkRestart p := by
  have hcan : ¬16 ≤ p := by omega
  simp [Dev.portCtl, hp, hcan, hrestart, htest, hon]

/-- CAN_RECOVER starts the recovery of a controller that is bus-off, whatever the other bits are. -/
theorem Dev.portCtl_recover {d : Dev} {p v : Nat} (hfrom : 16 ≤ p) (hto : p < 28) (hrecover : bit 1 v = true)
    (hoff : d.fld (PORT_CAN_STS_STATE p) = 3) :
    d.portCtl p v = { d with prt := { d.prt with recovering := insertNat p d.prt.recovering } } := by
  have hphy : ¬p < 16 := by omega
  simp [Dev.portCtl, hphy, hfrom, hto, hrecover, hoff]

/-- CABLE_TEST starts the test of a port that may come up and is down. -/
theorem Dev.portCtl_test {d : Dev} {p v : Nat} (hp : p < 16) (hrestart : bit 0 v = false) (htest : bit 2 v = true)
    (hdown : d.on (PORT_STS_LINK p) = false) (hon : d.portOn p = true) : d.portCtl p v = d.put (PORT_PHY_STS_TRAIN p) 4 := by
  have hcan : ¬16 ≤ p := by omega
  simp [Dev.portCtl, hp, hcan, hrestart, htest, hdown, hon]

/-- A restart of a T10 port ends what the crank limit held back, and trains from its highest rate. -/
theorem Dev.linkRestart_t10 {d : Dev} {p : Nat} (hp : p < 2) :
    d.linkRestart p = (let e : Dev := { d with prt := { d.prt with crankHeld := d.prt.crankHeld.filter (· ≠ p) } }
      (e.linkSet p false).train p (e.maxRate p)) := by
  simp only [Dev.linkRestart, if_pos hp]

/-! ### The commands -/

/-- Settles O18, row by row; that a link that comes up at its rate shows no change of rate is the model's choice (log entry
130). -/
theorem linkCommandsTakeEffect : Obligations.LinkCommandsTakeEffect := by
  unfold Obligations.LinkCommandsTakeEffect
  refine ⟨?up, ?down, ?failure, ?crank, ?crankIdle, ?restart, ?recover, ?test, ?testDone, ?loss, ?back, ?txsa⟩
  case up =>
    intro s dt p rate sqi master d hfrom hto hon hdown
    exact (exec_linkUp ..).trans (State.onDev_next (decide_eq_true (by omega)) (Dev.linkUp_t2 hfrom hto hon hdown))
  case down =>
    intro s dt p d hfrom hto hup
    refine (exec_linkDown ..).trans (State.onDev_next (decide_eq_true hto) ?_)
    exact (if_neg (by simpa using hup)).trans (if_neg (by omega))
  case failure =>
    intro s dt p d hp hon hdown
    refine (exec_trainingFailure ..).trans (State.onDev_next (decide_eq_true hp) ?_)
    refine (if_neg (by simp [d, hdown, hon])).trans ?_
    have hthird : ∀ n, 3 ≤ n + 1 ↔ 2 ≤ n := fun _ => Nat.succ_le_succ_iff
    simp only [d, hthird]
  case crank =>
    intro s dt d hlow hhigh hlim hup hother hon
    have hsecond : (d.crankFreed 0).on (PORT_STS_CRANK_LIMIT 1) = false :=
      (Dev.on_of_rn (d.rn_crankFreed 0 (by decide))).trans hother
    refine (exec_crankLimitExit_eq ..).trans (State.onDev_next rfl ((if_neg (not_or.mpr ⟨hlow, hhigh⟩)).trans ?_))
    rw [Dev.crankLeave_held hlim hup hon, Dev.crankLeave_unlimited hsecond]
    rfl
  case crankIdle =>
    intro s dt d hidle
    refine (exec_crankLimitExit_eq ..).trans (State.onDev_next rfl ?_)
    by_cases hcrank : d.fld HPS_SUP_STS_RANGE = 1 ∨ d.fld HPS_SUP_STS_RANGE = 2
    · exact if_pos hcrank
    · obtain ⟨hfirst, hsecond⟩ := (or_assoc.mpr hidle).resolve_left hcrank
      rw [if_neg hcrank, Dev.crankLeave_unlimited hfirst, Dev.crankLeave_unlimited hsecond]
  case restart =>
    intro s dt p v a d hp hmay hv hon
    have hrestart : bit 0 v = true := by simp only [bit, beq_iff_eq]; omega
    have htest : bit 2 v = false := by simp only [bit, beq_eq_false_iff_ne]; omega
    exact (exec_linkRestart ..).trans (State.onDevM_next (decide_eq_true (by omega)) ((Dev.regWrite_pass hmay).trans
      ((Dev.portCtl_restart (by omega) hrestart htest hon).trans (Dev.linkRestart_t10 hp))))
  case recover =>
    intro s dt p v a d hfrom hto hmay hrecover hoff
    exact (exec_canRecover ..).trans (State.onDevM_next (decide_eq_true (by omega))
      ((Dev.regWrite_pass hmay).trans (Dev.portCtl_recover hfrom hto hrecover hoff)))
  case test =>
    intro s dt p v a d hp hmay hrestart htest hdown hon
    exact (exec_cableTest ..).trans (State.onDevM_next (decide_eq_true (by omega))
      ((Dev.regWrite_pass hmay).trans (Dev.portCtl_test hp hrestart htest hdown hon)))
  case testDone =>
    intro s dt p cable dist d hp htrain
    exact (exec_cableTestDone ..).trans (State.onDev_next (decide_eq_true hp) (if_neg (not_not_intro htrain)))
  case loss =>
    intro s dt p d hp hen hnode hsts
    exact (exec_plcaBeaconLoss ..).trans (State.onDev_next (by simpa using hp) (if_pos ⟨hen, hnode, hsts⟩))
  case back =>
    intro s dt p d hp hen hnode hon
    exact (exec_plcaBeaconReturn ..).trans (State.onDev_next (by simpa using hp) (if_pos ⟨hen, hnode, hon⟩))
  case txsa =>
    intro s dt p v a d hp hmay
    exact (exec_msecTxsaSwitch ..).trans (State.onDevM_next (decide_eq_true hp) (Dev.regWrite_pass hmay))

end Sys2Proof.Machine
end

section
/-! PROOFS. CAN and LIN: frames, errors, transmit buffers and attempts of a CAN controller, transceiver faults, and the
headers, responses and schedule of a LIN port where their commands apply (R226–R235). -/

namespace Sys2Proof.Machine

open R

theorem exec_canFrameReceived (s : State) (dt p ts256 : Nat) (car : List Nat) :
    exec (.canFrameReceived dt p ts256 car) s = execCanFrameReceived dt p ts256 car s := rfl

theorem exec_canReceiveError (s : State) (dt p lec : Nat) (by8 : Bool) :
    exec (.canReceiveError dt p lec by8) s = execCanReceiveError dt p lec by8 s := rfl

theorem exec_canTxBufferLoad (s : State) (dt p : Nat) : exec (.canTxBufferLoad dt p) s = execCanTxBufferLoad dt p s := rfl

theorem exec_canTxAttemptEnd (s : State) (dt p : Nat) (how : CanEnd) :
    exec (.canTxAttemptEnd dt p how) s = execCanTxAttemptEnd dt p how s := rfl

theorem exec_busOffRecoveryDone (s : State) (dt p : Nat) :
    exec (.busOffRecoveryDone dt p) s = execBusOffRecoveryDone dt p s := rfl

theorem exec_transceiverFault (s : State) (dt p k : Nat) :
    exec (.transceiverFault dt p k) s = execTransceiverFault dt p k s := rfl

theorem exec_linCarriageEgress (s : State) (dt p : Nat) :
    exec (.linCarriageEgress dt p) s = execLinCarriageEgress dt p s := rfl

theorem exec_linHeaderReceived (s : State) (dt p ts256 pid : Nat) (syncOk : Bool) :
    exec (.linHeaderReceived dt p ts256 syncOk pid) s = execLinHeaderReceived dt p ts256 syncOk pid s := rfl

theorem exec_linResponseReceived (s : State) (dt p : Nat) (how : LinEnd) :
    exec (.linResponseReceived dt p how) s = execLinResponseReceived dt p how s := rfl

theorem exec_linScheduleSlot (s : State) (dt n : Nat) : exec (.linScheduleSlot dt n) s = execLinScheduleSlot dt n s := rfl

theorem exec_linSchedRun (s : State) (dt p v : Nat) (a : Sys2Proof.Acc) :
    exec (.linSchedRun dt a p v) s = execLinSchedRun dt a p v s := rfl

theorem exec_linSchedSwitch (s : State) (dt p v : Nat) (a : Sys2Proof.Acc) :
    exec (.linSchedSwitch dt a p v) s = execLinSchedSwitch dt a p v s := rfl

theorem canPort_range {p : Nat} (hfrom : 16 ≤ p) (hto : p < 28) :
    (decide (16 ≤ p) && decide (p < 28)) = true := by simp [hfrom, hto]

theorem linPort_range {p : Nat} (hfrom : 28 ≤ p) (hto : p < 36) :
    (decide (28 ≤ p) && decide (p < 36)) = true := by simp [hfrom, hto]

/-! ### Reception by a CAN controller (R226, R228, R239) -/

/-- The receive error counter of an error-active controller after a frame without error (R228). -/
def Dev.recLowered (d : Dev) (p : Nat) : Dev :=
  (d.put (PORT_CAN_STS_REC p) (d.fld (PORT_CAN_STS_REC p) - 1)).canConfine p (d.fld (PORT_CAN_STS_TEC p))

/-- A frame of a format that the controller takes is counted, lowers REC and enters the fabric. -/
theorem Dev.canReceive_active {d e : Dev} {p ts256 : Nat} {car : List Nat} (hup : d.on (PORT_STS_LINK p) = true)
    (howner : d.portOwner p ≠ 15) (hbegan : d.sidAt p ts256 = 0) (hends : d.fld (SID_PORT_STS_STATE p) < 2)
    (hformat : d.canFormat p car = true) (he : d.countRx p (carDlen car) = e) (hrec : e.fld (PORT_CAN_STS_REC p) ≤ 127)
    (hcounts : e.canFrozen p = false) : d.canReceive p ts256 car = (e.recLowered p).injectCarriage p ts256 car := by
  have hhears : ¬((!d.on (PORT_STS_LINK p)) = true ∨ d.portOwner p = 15 ∨ 2 ≤ d.sidAt p ts256 ∨
      2 ≤ d.fld (SID_PORT_STS_STATE p)) := by simp [hup, howner, hbegan, hends]
  have hactive : ¬d.sidAt p ts256 = 1 := by omega
  rw [Dev.canReceive]
  dsimp only
  rw [if_neg hhears, if_neg (by simp [hformat]), he, if_neg hactive, if_neg (by simp [hcounts]), if_neg (by omega)]
  rfl

/-! ### Transmission by a CAN controller (R227, R228) -/

/-- Class 7 comes first: with a head copy there and no gate that closes, no other class is looked at. -/
theorem findSome?_classes_of_first {α : Type} {g : Nat → Option α} {x : α} (h : g 7 = some x) :
    [7, 6, 5, 4, 3, 2, 1, 0].findSome? g = some x := by rw [List.findSome?_cons, h]

/-- A copy is started and its frame takes the buffer behind those in use. -/
def Dev.canLoad (d : Dev) (p : Nat) (f : Frame) (c : Copy) : Dev :=
  let e := d.startBus f c
  { e with prt := { e.prt with
    canBuf := tset [] (d.canBufs p ++ [{ frame := f.id, dur := e.canDur p f.bytes, attempts := 0 }]) p e.prt.canBuf } }

theorem exec_canTxBufferLoad_first {s : State} {dt p : Nat} {f : Frame} {c : Copy} (hfrom : 16 ≤ p) (hto : p < 28)
    (hup : (s.now dt).on (PORT_STS_LINK p) = true) (hawake : (s.now dt).fld (SID_PORT_STS_STATE p) = 0)
    (hacting : p ∉ (s.now dt).sid.acting) (hfree : ((s.now dt).canBufs p).length < 4)
    (hopen : (s.now dt).nextClose p 7 = none) (hhead : (s.now dt).busHead p 7 = some (f, c)) :
    exec (.canTxBufferLoad dt p) s = .next (s.becomes ((s.now dt).canLoad p f c)) := by
  refine (exec_canTxBufferLoad ..).trans (State.onDev_next (canPort_range hfrom hto) ?_)
  dsimp only
  rw [if_neg (by simp [hup, hawake, hacting, hfree]), findSome?_classes_of_first (x := (f, c))]
  · rfl
  · simp [hhead, hopen]

theorem exec_canTxAttemptEnd_ok {s : State} {dt p : Nat} {b : CanBuf} {f : Frame} {e : Dev} (hfrom : 16 ≤ p) (hto : p < 28)
    (hup : (s.now dt).on (PORT_STS_LINK p) = true) (hawake : (s.now dt).fld (SID_PORT_STS_STATE p) = 0)
    (hfront : (s.now dt).canFront p = some (b, f)) (he : ((s.now dt).dropBuf p b).countTx p (carDlen f.bytes) f.wb.len = e)
    (hcounts : e.canFrozen p = false) :
    exec (.canTxAttemptEnd dt p .ok) s = .next (s.becomes
      (let x := (e.canConfine p ((s.now dt).fld (PORT_CAN_STS_TEC p) - 1)).tallyP p 0x41 f.cells
      (x.sampleTail f.id (some p) (x.copyBad f.id p)).resolve f.id p (!x.copyBad f.id p))) := by
  refine (exec_canTxAttemptEnd ..).trans (State.onDev_next (canPort_range hfrom hto) ?_)
  dsimp only
  rw [if_neg (by simp [hup, hawake]), hfront]
  dsimp only
  rw [he, if_neg (by simp [hcounts])]

/-! ### The schedule of a LIN commander (R233, R235) -/

/-- RUN starts a schedule that stands still from its beginning. -/
theorem Dev.linSched_run {d : Dev} {p v : Nat} (hstill : d.on (PORT_LIN_SCHED_RUN p) = false) (hrun : bit 8 v = true)
    (hswitch : bit 1 v = false) :
    d.linSched p v = { (d.put (PORT_LIN_SCHED_RUN p) 1) with prt := { d.prt with
      linLeft := terase p d.prt.linLeft, linDue := d.prt.linDue.filter (· ≠ p) } } := by
  simp [Dev.linSched, hstill, hrun, hswitch, b2n]

/-- SWITCH asks for the other table where RUN stays as it is and no change is pending. -/
theorem Dev.linSched_switch {d e : Dev} {p v : Nat} (he : d.put (PORT_LIN_SCHED_RUN p) (b2n (bit 8 v)) = e)
    (hrun : bit 8 v = d.on (PORT_LIN_SCHED_RUN p)) (hswitch : bit 1 v = true)
    (hpend : e.on (PORT_LIN_SCHED_PENDING p) = false) : d.linSched p v = e.set (PORT_LIN_SCHED_PENDING p) := by
  have hkept : ¬((!d.on (PORT_LIN_SCHED_RUN p)) = true ∧ bit 8 v = true) := by simp [hrun]
  rw [Dev.linSched]
  dsimp only
  rw [he, if_neg hkept, if_pos ⟨hswitch, by simp [hpend]⟩]

/-! ### Headers and responses (R230, R231, R232, R235) -/

/-- A responder whose link is up hears a header with a good sync field and parity, and publishes nothing under its
identifier. -/
theorem exec_linHeaderReceived_heard {s : State} {dt p ts256 pid : Nat} (hfrom : 28 ≤ p) (hto : p < 36)
    (hrole : (s.now dt).on (PORT_LIN_CFG_ROLE p) = false) (hup : (s.now dt).on (PORT_STS_LINK p) = true)
    (hparity : linPid (pid % 64) = pid % 256) (hpub : (s.now dt).linPublishes p (pid % 64) = false) :
    exec (.linHeaderReceived dt p ts256 true pid) s = .next (s.becomes ((s.now dt).linStart p
      { id := pid % 64, type := 0, ts256 := ts256, pub := false, gts := false,
        st := (s.now dt).fld (SID_PORT_STS_STATE p) })) := by
  refine (exec_linHeaderReceived ..).trans (State.onDev_next (linPort_range hfrom hto) ?_)
  simp [hrole, hup, hparity, hpub]

/-- A subscribed response that stays away is an error, and no more where it is not reported. -/
theorem Dev.linResponse_missing {d e : Dev} {p : Nat} {n : LinNow} (hup : d.on (PORT_STS_LINK p) = true)
    (hbusy : d.linBusy p = some n) (he : d.linEnd p = e) (hsub : e.fld (PORT_LIN_ID_DIR p n.id) = 2)
    (hquiet : (e.linError p (PORT_LIN_STS_NO_RESP p)).on (PORT_LIN_ID_REPORT_NO_RESP p n.id) = false) :
    d.linResponse p .missing = e.linError p (PORT_LIN_STS_NO_RESP p) := by
  rw [Dev.linResponse, if_pos hup, hbusy]
  dsimp only
  rw [he, if_neg (by simp [hsub]), if_neg (by simp [hquiet])]

theorem exec_linCarriageEgress_published {s : State} {dt p : Nat} {f : Frame} {c : Copy} (hfrom : 28 ≤ p) (hto : p < 36)
    (hhead : (s.now dt).busHead p 7 = some (f, c)) (hdir : (s.now dt).fld (PORT_LIN_ID_DIR p (carId f.bytes % 64)) = 1)
    (hlen : carDlen f.bytes = (s.now dt).fld (PORT_LIN_ID_LEN p (carId f.bytes % 64))) :
    exec (.linCarriageEgress dt p) s = .next (s.becomes (((((((s.now dt).startBus f c).setLinPub p (carId f.bytes % 64)
      { data := (f.bytes.drop 16).take (carDlen f.bytes), fresh := true }).countTx p (carDlen f.bytes) f.wb.len).tallyP
      p 0x41 f.cells).sampleTail f.id (some p) false).resolve f.id p true)) := by
  refine (exec_linCarriageEgress ..).trans (State.onDev_next (linPort_range hfrom hto) ?_)
  dsimp only
  rw [findSome?_classes_of_first hhead]
  exact if_neg (not_or.mpr ⟨not_not_intro hdir, not_not_intro hlen⟩)

/-! ### The commands -/

/-- Settles O19, row by row; the steps of TEC and REC, the protected identifier and the duration of a CAN frame are PRESUMED
(log entries 71 and 25). -/
theorem busCommandsTakeEffect : Obligations.BusCommandsTakeEffect := by
  unfold Obligations.BusCommandsTakeEffect
  refine ⟨?received, ?error, ?exception, ?load, ?sent, ?recovered, ?trx, ?trxUnused, ?egress, ?sync, ?parity, ?heard,
    ?missing, ?slot, ?run, ?switch⟩
  case received =>
    intro s dt p ts256 car d hfrom hto hup howner hbegan hends hformat hrec hcounts
    exact (exec_canFrameReceived ..).trans (State.onDev_next (canPort_range hfrom hto)
      (Dev.canReceive_active hup howner hbegan hends hformat rfl hrec hcounts))
  case error =>
    intro s dt p lec by8 d hfrom hto hlec hlec0 hup hcounts
    refine (exec_canReceiveError ..).trans (State.onDev_next (by simp [hfrom, hto, hlec]) ?_)
    exact (if_neg (by simp [d, hup])).trans ((if_neg hlec0).trans (if_neg (by simp [d, hcounts])))
  case exception =>
    intro s dt p by8 d hfrom hto hup
    refine (exec_canReceiveError ..).trans (State.onDev_next (by simp [hfrom, hto]) ?_)
    exact (if_neg (by simp [d, hup])).trans (if_pos rfl)
  case load =>
    intro s dt p f c d hfrom hto hup hawake hacting hfree hopen hhead
    exact exec_canTxBufferLoad_first hfrom hto hup hawake hacting hfree hopen hhead
  case sent =>
    intro s dt p b f d hfrom hto hup hawake hfront hcounts
    exact exec_canTxAttemptEnd_ok hfrom hto hup hawake hfront rfl hcounts
  case recovered =>
    intro s dt p d hfrom hto hoff hrecovering
    refine (exec_busOffRecoveryDone ..).trans (State.onDev_next (canPort_range hfrom hto) ?_)
    exact if_neg (not_or.mpr ⟨not_not_intro hoff, by rw [hrecovering]; exact Bool.false_ne_true⟩)
  case trx =>
    intro s dt p k d hfrom hto hk hdie hused
    refine (exec_transceiverFault ..).trans (State.onDev_next (by simp [hfrom, hto, hk]) ?_)
    exact if_neg (by simp [d, hdie, hused])
  case trxUnused =>
    intro s dt p k d hfrom hto hk hidle
    refine (exec_transceiverFault ..).trans (State.onDev_next (by simp [hfrom, hto, hk]) ?_)
    exact if_pos (by simpa using hidle)
  case egress =>
    intro s dt p f c d hfrom hto hhead hdir hlen
    exact exec_linCarriageEgress_published hfrom hto hhead hdir hlen
  case sync =>
    intro s dt p ts256 pid syncOk d hfrom hto hrole hup hsync
    refine (exec_linHeaderReceived ..).trans (State.onDev_next (linPort_range hfrom hto) ?_)
    exact (if_neg (by simp [d, hrole, hup])).trans (if_pos (by simp [hsync]))
  case parity =>
    intro s dt p ts256 pid syncOk d hfrom hto hrole hup hsync hparity
    refine (exec_linHeaderReceived ..).trans (State.onDev_next (linPort_range hfrom hto) ?_)
    exact (if_neg (by simp [d, hrole, hup])).trans ((if_neg (by simp [hsync])).trans (if_pos hparity))
  case heard =>
    intro s dt p ts256 pid syncOk d hfrom hto hrole hup hsync hparity hpub
    subst hsync
    exact exec_linHeaderReceived_heard hfrom hto hrole hup hparity hpub
  case missing =>
    intro s dt p n d hfrom hto hup hbusy hsub hquiet
    exact (exec_linResponseReceived ..).trans (State.onDev_next (linPort_range hfrom hto)
      (Dev.linResponse_missing hup hbusy rfl hsub hquiet))
  case slot =>
    intro s dt n d hn hn0 hkind hwork happlies hfrom hto hinstant
    exact (exec_linScheduleSlot ..).trans (State.onDev_next (decide_eq_true hn)
      (if_pos ⟨hkind, hwork, hn0, happlies, hfrom, hto, hinstant⟩))
  case run =>
    intro s dt p v a d hfrom hto hmay hstill hrun hswitch
    exact (exec_linSchedRun ..).trans (State.onDevM_next (linPort_range hfrom hto)
      ((Dev.regWrite_pass hmay).trans (Dev.linSched_run hstill hrun hswitch)))
  case switch =>
    intro s dt p v a d hfrom hto hmay hrun hswitch hpend
    exact (exec_linSchedSwitch ..).trans (State.onDevM_next (linPort_range hfrom hto)
      ((Dev.regWrite_pass hmay).trans (Dev.linSched_switch rfl hrun hswitch hpend)))

end Sys2Proof.Machine
end

section
/-! PROOFS. The siding: requests and acknowledgements of ports, the ends of the sleep handshake, wakes out of a sleep state,
confirmation windows, lockouts and the transceivers' fail-safe, where their commands apply (R240–R247, R249, R254–R256,
R258, R259). -/

namespace Sys2Proof.Machine

open R

theorem exec_portRequestActive (s : State) (dt p v : Nat) (a : Sys2Proof.Acc) :
    exec (.portRequestActive dt a p v) s = execPortRequestActive dt a p v s := rfl

theorem exec_portRequestIgnore (s : State) (dt p v : Nat) (a : Sys2Proof.Acc) :
    exec (.portRequestIgnore dt a p v) s = execPortRequestIgnore dt a p v s := rfl

theorem exec_portRequestAsleep (s : State) (dt p v : Nat) (a : Sys2Proof.Acc) :
    exec (.portRequestAsleep dt a p v) s = execPortRequestAsleep dt a p v s := rfl

theorem exec_portSleepAck (s : State) (dt p : Nat) : exec (.portSleepAck dt p) s = execPortSleepAck dt p s := rfl

theorem exec_entryComplete (s : State) (dt : Nat) : exec (.entryComplete dt) s = execEntryComplete dt s := rfl

theorem exec_preSleepTimeout (s : State) (dt : Nat) : exec (.preSleepTimeout dt) s = execPreSleepTimeout dt s := rfl

theorem exec_wakeDetected (s : State) (dt src : Nat) (sig : WakeSignal) :
    exec (.wakeDetected dt src sig) s = execWakeDetected dt src sig s := rfl

theorem exec_sleepExit (s : State) (dt bootsel : Nat) (meshOk : Bool) :
    exec (.sleepExit dt bootsel meshOk) s = execSleepExit dt bootsel meshOk s := rfl

theorem exec_sidConfirm (s : State) (dt v : Nat) (a : Sys2Proof.Acc) :
    exec (.sidConfirm dt a v) s = execSidConfirm dt a v s := rfl

theorem exec_confirmationWindowEnd (s : State) (dt src : Nat) :
    exec (.confirmationWindowEnd dt src) s = execConfirmationWindowEnd dt src s := rfl

theorem exec_lockoutExpiry (s : State) (dt src : Nat) :
    exec (.lockoutExpiry dt src) s = execLockoutExpiry dt src s := rfl

theorem exec_transceiverFsTimeout (s : State) (dt p : Nat) :
    exec (.transceiverFsTimeout dt p) s = execTransceiverFsTimeout dt p s := rfl

theorem Dev.passed_iff {d : Dev} {t ns : Nat} : d.passed t ns = true ↔ t + ns ≤ d.up := decide_eq_true_iff

/-! ### Requests (R240, R241) -/

/-- The device once SID_PORTp_CTL holds a request without AT_TICK. -/
def Dev.holdsRequest (d : Dev) (p req : Nat) : Dev := (d.put (SID_PORT_CTL_REQ p) req).put (SID_PORT_CTL_AT_TICK p) 0

/-- Outside a handshake, a request that does not wait for the tick takes effect at once. -/
theorem Dev.sidCtl_now {d : Dev} {p v req : Nat} (hv : v % 8 = req) (hreq : req < 3)
    (hrun : (d.holdsRequest p req).fld SID_STS_STATE = 0) : d.sidCtl p v = (d.holdsRequest p req).portRequest p req := by
  have hbits : bits 1 0 v = req := by simp only [bits]; omega
  have htick : bit 2 v = false := by simp only [bit, beq_eq_false_iff_ne]; omega
  have hstate : ¬(d.holdsRequest p req).fld SID_STS_STATE ≠ 0 := not_not_intro hrun
  rw [Dev.sidCtl, hbits, htick]
  exact (if_neg (by omega)).trans ((if_neg hstate).trans (if_neg Bool.false_ne_true))

/-- The write of such a request, which the three rows of a request share. -/
theorem State.portRequest_next {s : State} {dt p v req : Nat} {a : Sys2Proof.Acc} (hp : p < 36)
    (hmay : (s.now dt).mayWrite s.mem a (SID_PORT_CTL p)) (hv : v % 8 = req) (hreq : req < 3)
    (hrun : ((s.now dt).holdsRequest p req).fld SID_STS_STATE = 0) :
    s.onDevM dt (p < 36) (fun m d => d.regWrite m a (SID_PORT_CTL p) (·.sidCtl p v)) =
      .next (s.becomes (((s.now dt).holdsRequest p req).portRequest p req)) :=
  State.onDevM_next (decide_eq_true hp) ((Dev.regWrite_pass hmay).trans (Dev.sidCtl_now hv hreq hrun))

/-! ### Wakes in a sleep state (R249, R254) -/

/-- An armed source that works and finds a wake in the signal wakes. -/
theorem Dev.wakeDetected_seen {d e : Dev} {src cause : Nat} {sig : WakeSignal} {c : WakeCfg}
    (harmed : d.srcArmed src = some c) (hworks : d.srcWorks src c.mode = true)
    (hseen : d.wakeSeen src c sig = (some cause, e)) : d.wakeDetected src sig = e.wakeBy src cause := by
  rw [Dev.wakeDetected, harmed]
  dsimp only
  rw [if_neg (by simp [hworks]), hseen]

/-- Once a wake has been noted, a later one leaves SID_WAKE_CAUSE as it is. -/
theorem Dev.wakeAsleep_noted {d : Dev} {src : Nat} (cause : Nat) (hnoted : d.sid.noted = true)
    (hlater : d.goesFirst src = false) :
    d.wakeAsleep src cause =
      ((({ (d.wakeAll src) with sid := { d.sid with noted := true } } : Dev).wakePost src cause).confirmOpen src).standbyPort
        src := by
  rw [Dev.wakeAsleep, if_neg (by simp [hnoted, hlater])]

/-! ### Confirmation (R255) -/

/-- The owner of a port, or Guard, confirms its wake within the window. -/
theorem Dev.sidConfirm_inWindow {d : Dev} {a : Sys2Proof.Acc} {v src : Nat} (hv : bits 5 0 v = src) (hsrc : src < 36)
    (hwho : a.guard = true ∨ a.owner = d.portOwner src) (hopen : d.fld (SID_SRC_STS_STATE src) = 1) :
    d.sidConfirm a v = ((d.put (SID_SRC_STS_STATE src) 0).clr (SID_SRC_STS_FW_CNT src)).confEnd src := by
  have hmay : ¬((!a.guard) = true ∧ a.owner ≠ d.portOwner src) := by
    rintro ⟨hguard, howner⟩
    exact hwho.elim (by simpa using hguard) howner
  rw [Dev.sidConfirm, hv]
  exact (if_neg (by omega)).trans ((if_neg hmay).trans (if_pos hopen))

/-- A confirmation window of SID_CONFIRM_MS has passed unconfirmed. -/
theorem exec_confirmationWindowEnd_due {s : State} {dt src : Nat} {e : Dev} (hsrc : src < 36)
    (hopen : (s.now dt).fld (SID_SRC_STS_STATE src) = 1)
    (hdue : tget 0 (s.now dt).sid.confAt src - 1 + 1000000 * ((s.now dt).sidKept.confirm % 65536) ≤ (s.now dt).up)
    (he : (if (s.now dt).fld (SID_SRC_STS_FW_CNT src) + 1 < (s.now dt).sidKept.fw % 16 then
        ((s.now dt).confEnd src).falseWake src ((s.now dt).fld (SID_SRC_STS_FW_CNT src) + 1)
      else ((s.now dt).confEnd src).lockOut src (bits 31 16 (s.now dt).sidKept.fw)) = e) :
    exec (.confirmationWindowEnd dt src) s = .next (s.becomes e) := by
  refine (exec_confirmationWindowEnd ..).trans (State.onDev_next (decide_eq_true hsrc) ((if_neg ?_).trans he))
  simp [hopen, Dev.passed_iff.mpr hdue]

/-! ### The transceivers' fail-safe (R259) -/

theorem Dev.srcOwner_port (d : Dev) {p : Nat} (hp : p < 36) : d.srcOwner p = d.portOwner p := if_pos hp

/-- While the Beyvo die is off, such a record goes to the always-on log alone. -/
theorem Dev.postAo_beyvoOff {d : Dev} (r : Rec) (hoff : d.frm.beyvoUp = false) (hroom : d.log.aoQueue.length < 16) :
    d.postAo r = { d with log := { d.log with aoQueue := d.log.aoQueue ++ [r] } } := by
  rw [Dev.postAo, if_pos hroom]
  exact if_neg (by simp [hoff])

/-- The device once a transceiver has left standby. -/
def Dev.outOfStandby (d : Dev) (p : Nat) : Dev := { d with sid := { d.sid with standby := terase p d.sid.standby } }

/-- The device once the sleep of a transceiver waits for the siding controller. -/
def Dev.pendsFsSleep (d : Dev) (p : Nat) : Dev := { d with sid := { d.sid with fsPend := insertNat p d.sid.fsPend } }

/-- Code 0x000B of a port, as it stands in the always-on log. -/
def Dev.fsRec (d : Dev) (p : Nat) : Rec := d.mkRec 0x31 0x000B 1 (d.portOwner p) p [] 2

/-- The record of a transceiver's fall to sleep does not depend on its standby. -/
theorem Dev.fsRec_outOfStandby (d : Dev) {p : Nat} (hp : p < 36) :
    (d.outOfStandby p).mkRec 0x31 0x000B 1 ((d.outOfStandby p).srcOwner p) p [] 2 = d.fsRec p := by
  rw [Dev.srcOwner_port _ hp]
  rfl

/-- A transceiver that has stood in standby for T_FS_MS, with the Beyvo die off, falls to sleep. -/
theorem exec_transceiverFsTimeout_beyvoOff {s : State} {dt p : Nat} {d : Dev} (hd : s.now dt = d) (hfrom : 16 ≤ p)
    (hto : p < 36) (hstandby : tget 0 d.sid.standby p ≠ 0)
    (hdue : tget 0 d.sid.standby p - 1 + 1000000 * (d.sidKept.fs % 65536) ≤ d.up) (hoff : d.frm.beyvoUp = false)
    (hroom : d.log.aoQueue.length < 16) :
    exec (.transceiverFsTimeout dt p) s = .next (s.becomes (Dev.pendsFsSleep
      { d.outOfStandby p with log := { d.log with aoQueue := d.log.aoQueue ++ [d.fsRec p] } } p)) := by
  have hpost : (d.outOfStandby p).postAo
      ((d.outOfStandby p).mkRec 0x31 0x000B 1 ((d.outOfStandby p).srcOwner p) p [] 2) =
      { d.outOfStandby p with log := { d.log with aoQueue := d.log.aoQueue ++ [d.fsRec p] } } := by
    rw [Dev.fsRec_outOfStandby _ hto]
    exact Dev.postAo_beyvoOff _ hoff hroom
  refine (exec_transceiverFsTimeout ..).trans (State.onDev_next (by simp [hfrom, hto]) ?_)
  rw [hd]
  refine (if_neg (by simp [hstandby, Dev.passed_iff.mpr hdue])).trans ((if_neg ?_).trans
    (congrArg (Dev.pendsFsSleep · p) hpost))
  exact ne_true_of_eq_false ((congrArg (·.frm.beyvoUp) hpost).trans hoff)

/-! ### The commands -/

/-- Settles O20, row by row; source 0x3F of an abort that no source brings, and that code 0x000B goes to the always-on log
whatever R124 selects, are the model's choices (log entries 47 and 48, DEDUCED). -/
theorem sidingCommandsTakeEffect : Obligations.SidingCommandsTakeEffect := by
  unfold Obligations.SidingCommandsTakeEffect
  refine ⟨?active, ?ignore, ?asleep, ?ack, ?entry, ?timeout, ?wake, ?exit, ?confirm, ?falseWake, ?lockOut, ?unlock, ?failSafe⟩
  case active =>
    intro s dt p v a d hp hmay hv hrun
    exact (exec_portRequestActive ..).trans (State.portRequest_next hp hmay hv (by decide) hrun)
  case ignore =>
    intro s dt p v a d hp hmay hv hrun
    exact (exec_portRequestIgnore ..).trans (State.portRequest_next hp hmay hv (by decide) hrun)
  case asleep =>
    intro s dt p v a d hp hmay hv hrun
    exact (exec_portRequestAsleep ..).trans (State.portRequest_next hp hmay hv (by decide) hrun)
  case ack =>
    intro s dt p d hp hacting
    refine (exec_portSleepAck ..).trans (State.onDev_next (decide_eq_true (by omega)) ?_)
    have hwaits : ¬((!d.sid.acting.contains p) = true ∨ (16 ≤ p ∧ p < 28 ∧ d.canBufs p ≠ [])) := by
      simp [hacting, Nat.not_le.mpr hp]
    exact (if_neg hwaits).trans (if_neg (by omega))
  case entry =>
    intro s dt d hentry
    exact (exec_entryComplete ..).trans (State.onAll_next (r := (d.asleep (d.fld SID_STS_TARGET), Mem.flashOnly s.mem)) rfl
      (if_neg (not_not_intro hentry)))
  case timeout =>
    intro s dt d hpre habort hdue
    refine (exec_preSleepTimeout ..).trans (State.onDev_next rfl ?_)
    exact (if_neg (by simp [d, hpre, Dev.passed_iff.mpr hdue])).trans (if_pos habort)
  case wake =>
    intro s dt src cause sig c e d hsrc harmed hworks hseen hsentinel hnoted hlater
    refine (exec_wakeDetected ..).trans (State.onDev_next (decide_eq_true hsrc) ?_)
    have hasleep : e.sid.asleep ≠ 0 := by omega
    exact (Dev.wakeDetected_seen harmed hworks hseen).trans
      ((if_pos hasleep).trans (Dev.wakeAsleep_noted cause hnoted hlater))
  case exit =>
    intro s dt bootsel meshOk d hboot hsentinel hnoted
    refine (exec_sleepExit ..).trans (State.onAll_next
      (r := (d.exitSleep.start { cause := 8, block := 0, code := 0 } bootsel, Mem.atBoot s.mem)) (decide_eq_true hboot) ?_)
    refine (if_neg (by simp [d, hsentinel, hnoted])).trans ((if_neg (by simp [d, hsentinel])).trans ?_)
    rw [hsentinel]
  case confirm =>
    intro s dt v a d hmay hsrc hwho hopen
    exact (exec_sidConfirm ..).trans (State.onDevM_next rfl
      ((Dev.regWrite_pass hmay).trans (Dev.sidConfirm_inWindow rfl hsrc hwho hopen)))
  case falseWake =>
    intro s dt src d hsrc hopen hbelow hdue
    exact exec_confirmationWindowEnd_due hsrc hopen hdue (if_pos hbelow)
  case lockOut =>
    intro s dt src d hsrc hopen hlimit hdue
    exact exec_confirmationWindowEnd_due hsrc hopen hdue (if_neg (Nat.not_lt.mpr hlimit))
  case unlock =>
    intro s dt src d hsrc hlocked hnotParked hdue
    exact (exec_lockoutExpiry ..).trans (State.onDev_next (decide_eq_true hsrc)
      (if_pos ⟨hlocked, hnotParked, Dev.passed_iff.mpr hdue⟩))
  case failSafe =>
    intro s dt p d hfrom hto hstandby hdue hoff hroom
    exact exec_transceiverFsTimeout_beyvoOff rfl hfrom hto hstandby hdue hoff hroom

end Sys2Proof.Machine
end

section
/-! PROOFS. The power channels: immediate commands, the starts of cadence periods, the edges of pulses, the clears of
CHAN_CTL and the readings, where their rows apply (R57, R269, R270, R272, R273, R276, R278, R280). -/

namespace Sys2Proof.Machine

open R

theorem exec_channelCmdOff (s : State) (dt i v : Nat) (a : Sys2Proof.Acc) :
    exec (.channelCmdOff dt a i v) s = s.chanCmdRow dt 1 a i v := rfl

theorem exec_channelCmdOn (s : State) (dt i v : Nat) (a : Sys2Proof.Acc) :
    exec (.channelCmdOn dt a i v) s = s.chanCmdRow dt 2 a i v := rfl

theorem exec_channelCmdPwm (s : State) (dt i v : Nat) (a : Sys2Proof.Acc) :
    exec (.channelCmdPwm dt a i v) s = s.chanCmdRow dt 3 a i v := rfl

theorem exec_channelCmdDuty (s : State) (dt i v : Nat) (a : Sys2Proof.Acc) :
    exec (.channelCmdDuty dt a i v) s = s.chanCmdRow dt 4 a i v := rfl

theorem exec_channelCmdFwd (s : State) (dt i v : Nat) (a : Sys2Proof.Acc) :
    exec (.channelCmdFwd dt a i v) s = s.chanCmdRow dt 5 a i v := rfl

theorem exec_channelCmdRev (s : State) (dt i v : Nat) (a : Sys2Proof.Acc) :
    exec (.channelCmdRev dt a i v) s = s.chanCmdRow dt 6 a i v := rfl

theorem exec_cadencePeriodStart (s : State) (dt c : Nat) (edge : Option Nat) :
    exec (.cadencePeriodStart dt c edge) s = execCadencePeriodStart dt c edge s := rfl

theorem exec_pwmOffEdge (s : State) (dt i : Nat) : exec (.pwmOffEdge dt i) s = execPwmOffEdge dt i s := rfl

theorem exec_qClr (s : State) (dt i : Nat) (a : Sys2Proof.Acc) : exec (.qClr dt a i) s = execQClr dt a i s := rfl

theorem exec_cntClr (s : State) (dt i : Nat) (a : Sys2Proof.Acc) : exec (.cntClr dt a i) s = execCntClr dt a i s := rfl

theorem exec_senseReading (s : State) (dt i : Nat) (cur volt voltOdd supply tj : Int) :
    exec (.senseReading dt i cur volt voltOdd supply tj) s = execSenseReading dt i cur volt voltOdd supply tj s := rfl

/-! ### Immediate commands (R57, R269, R270) -/

/-- R269 refuses no immediate command of a known OP that suits the channel. -/
theorem Dev.cmdRefusal_immediate_eq_zero {d : Dev} {i op : Nat} (hmode : d.fld (CHAN_CFG_MODE i) = 0)
    (hodd : d.pairOdd i = false) (hop : op < 7) (hpair : op = 5 ∨ op = 6 → d.pairEven i = true)
    (hpwm : op = 3 ∨ op = 4 → d.pairEven i = false ∧ d.on (CHAN_PWM_EN i) = true) : d.cmdRefusal i op 1 = 0 := by
  have hdir : ¬((op = 5 ∨ op = 6) ∧ (!d.pairEven i) = true) := by
    rintro ⟨hdirOp, hnotPair⟩
    simp [hpair hdirOp] at hnotPair
  have hduty : ¬((op = 3 ∨ op = 4) ∧ (d.pairEven i = true ∨ (!d.on (CHAN_PWM_EN i)) = true)) := by
    rintro ⟨hpwmOp, hno⟩
    obtain ⟨hsingle, hen⟩ := hpwm hpwmOp
    simp [hsingle, hen] at hno
  have hknown : ¬(op = 7 ∨ 2 ≤ 1) := by omega
  rw [Dev.cmdRefusal, if_neg (not_not_intro hmode), if_neg (by simp [hodd]), if_neg hdir, if_neg hduty, if_neg hknown]

/-- The channel once an immediate command has discarded the pending deferred ones (R57) and acted. -/
def Dev.immediateCmd (d : Dev) (i op duty : Nat) : Dev :=
  ((d.modChan i fun c => { c with pend := [] }).updPend i).cmdEffect i op duty 2

/-- On a channel that has an owner, a command of MODE 1 that R269 does not refuse acts at once. -/
theorem Dev.chanCmd_immediate {d : Dev} {i op v : Nat} (hop : op ≠ 0) (howner : d.chanOwner i ≠ 15)
    (hv : bits 4 3 v = 1) (haccepted : d.cmdRefusal i op 1 = 0) :
    d.chanCmd i op v = d.immediateCmd i op (bits 31 16 v) := by
  have hactive : ¬(op = 0 ∨ d.chanOwner i = 15) := not_or.mpr ⟨hop, howner⟩
  rw [Dev.chanCmd, if_neg hactive, hv]
  exact (if_neg (not_not_intro haccepted)).trans (if_pos rfl)

/-- The write of such a command, which the six rows share. -/
theorem State.chanCmdRow_immediate {s : State} {dt i op v : Nat} {a : Sys2Proof.Acc} (hi : i < 40)
    (hmay : (s.now dt).mayWrite s.mem a (CHAN_CMD i)) (howner : (s.now dt).chanOwner i ≠ 15)
    (hmode : (s.now dt).fld (CHAN_CFG_MODE i) = 0) (hodd : (s.now dt).pairOdd i = false) (hv : bits 4 3 v = 1)
    (hop : op ≠ 0 ∧ op < 7) (hpair : op = 5 ∨ op = 6 → (s.now dt).pairEven i = true)
    (hpwm : op = 3 ∨ op = 4 → (s.now dt).pairEven i = false ∧ (s.now dt).on (CHAN_PWM_EN i) = true) :
    s.chanCmdRow dt op a i v = .next (s.becomes ((s.now dt).immediateCmd i op (bits 31 16 v))) :=
  have haccepted := Dev.cmdRefusal_immediate_eq_zero hmode hodd hop.2 hpair hpwm
  State.onDevM_next (decide_eq_true hi)
    ((Dev.regWrite_pass hmay).trans (Dev.chanCmd_immediate hop.1 howner hv haccepted))

/-! ### The edges of a pulse (R273) -/

/-- The on-edge whose instant has come. -/
theorem Dev.pwmOn_due {d : Dev} {i start : Nat} (hat : (d.chan i).onAt = some start) (hdue : start ≤ d.cadNs) :
    d.pwmOn i = (d.modChan i fun x => { x with
      onAt := none,
      offAt := some (start + tOn ((d.chan i).pwmDuty.getD 0) (d.cadPeriod (d.requested i).cad)),
      pwmLvl := true }).updOut i true := by
  have hnow : (d.chan i).onAt.filter (· ≤ d.cadNs) = some start := by simp [hat, hdue]
  rw [Dev.pwmOn, hnow]

/-! ### Readings (R276, R278, R279) -/

/-- A reading of a channel that is neither an input nor an output goes into its registers and means alone. -/
theorem Dev.sense_unused {d : Dev} {i : Nat} {cur volt voltOdd tj : Int} (supply : Int) (hsingle : d.pairOdd i = false)
    (hnoInput : (d.takeReading i cur volt voltOdd tj).fld (CHAN_CFG_MODE i) ≠ 1)
    (hnoOutput : (d.takeReading i cur volt voltOdd tj).isOutput i = false) :
    d.sense i cur volt voltOdd supply tj = d.takeReading i cur volt voltOdd tj :=
  (if_neg (ne_true_of_eq_false hsingle)).trans ((if_neg hnoInput).trans (if_neg (ne_true_of_eq_false hnoOutput)))

/-- The odd channel of a pair gives its temperature; without an output beside it no junction is checked. -/
theorem Dev.sense_pairOdd {d : Dev} {i : Nat} (cur volt voltOdd supply : Int) {tj : Int} (hodd : d.pairOdd i = true)
    (hnoOutput : (d.put (CHAN_TJ_TEMP i) (unsgn 16 tj)).isOutput (i - 1) = false) :
    d.sense i cur volt voltOdd supply tj = d.put (CHAN_TJ_TEMP i) (unsgn 16 tj) :=
  (if_pos hodd).trans (if_neg (ne_true_of_eq_false hnoOutput))

/-- While the Heavia die runs, the row of a reading is the reading. -/
theorem exec_senseReading_next {s : State} {dt i : Nat} {cur volt voltOdd supply tj : Int} {e : Dev} (hi : i < 40)
    (hruns : (s.now dt).hvRuns = true) (he : (s.now dt).sense i cur volt voltOdd supply tj = e) :
    exec (.senseReading dt i cur volt voltOdd supply tj) s = .next (s.becomes e) :=
  (exec_senseReading ..).trans (State.onDev_next (decide_eq_true hi) ((if_pos hruns).trans he))

/-! ### The commands -/

/-- Settles O21, row by row; how a command acts under a drag-shoe state, in SHED or in RETRY, and that means are rounded
down are the model's choices (log entries 33, DEDUCED, and 13, DESIGN CHOICE). -/
theorem channelCommandsTakeEffect : Obligations.ChannelCommandsTakeEffect := by
  unfold Obligations.ChannelCommandsTakeEffect
  refine ⟨?off, ?on, ?pwm, ?duty, ?fwd, ?rev, ?period, ?onEdge, ?offEdge, ?charge, ?count, ?unused, ?odd⟩
  case off =>
    intro s dt i v a d hi hmay howner hmode hodd hv
    exact (exec_channelCmdOff ..).trans (State.chanCmdRow_immediate hi hmay howner hmode hodd hv (by decide)
      (by simp) (by simp))
  case on =>
    intro s dt i v a d hi hmay howner hmode hodd hv
    exact (exec_channelCmdOn ..).trans (State.chanCmdRow_immediate hi hmay howner hmode hodd hv (by decide)
      (by simp) (by simp))
  case pwm =>
    intro s dt i v a d hi hmay howner hmode hodd hsingle hen hv
    exact (exec_channelCmdPwm ..).trans (State.chanCmdRow_immediate hi hmay howner hmode hodd hv (by decide)
      (by simp) fun _ => ⟨hsingle, hen⟩)
  case duty =>
    intro s dt i v a d hi hmay howner hmode hodd hsingle hen hv
    exact (exec_channelCmdDuty ..).trans (State.chanCmdRow_immediate hi hmay howner hmode hodd hv (by decide)
      (by simp) fun _ => ⟨hsingle, hen⟩)
  case fwd =>
    intro s dt i v a d hi hmay howner hmode hodd hpair hv
    exact (exec_channelCmdFwd ..).trans (State.chanCmdRow_immediate hi hmay howner hmode hodd hv (by decide)
      (fun _ => hpair) (by simp))
  case rev =>
    intro s dt i v a d hi hmay howner hmode hodd hpair hv
    exact (exec_channelCmdRev ..).trans (State.chanCmdRow_immediate hi hmay howner hmode hodd hv (by decide)
      (fun _ => hpair) (by simp))
  case period =>
    intro s dt c d hc hdue
    exact (exec_cadencePeriodStart ..).trans (State.onDev_next (by simp [hc]) (if_neg (by simp [d, hdue])))
  case onEdge =>
    intro s dt c i start d hc hi hat hdue
    exact (exec_cadencePeriodStart ..).trans (State.onDev_next (by simp [hc, hi]) (Dev.pwmOn_due hat hdue))
  case offEdge =>
    intro s dt i e d hi hat hdue
    have hends : (d.chan i).offAt.any (· ≤ d.cadNs) = true := by simp [hat, hdue]
    exact (exec_pwmOffEdge ..).trans (State.onDev_next (decide_eq_true hi) (if_pos hends))
  case charge =>
    intro s dt i a d hi hmay
    exact (exec_qClr ..).trans (State.onDevM_next (decide_eq_true hi) (Dev.regWrite_pass hmay))
  case count =>
    intro s dt i a d hi hmay
    exact (exec_cntClr ..).trans (State.onDevM_next (decide_eq_true hi) (Dev.regWrite_pass hmay))
  case unused =>
    intro s dt i cur volt voltOdd supply tj d hi hsingle hnoInput hnoOutput hruns
    exact exec_senseReading_next hi hruns (Dev.sense_unused supply hsingle hnoInput hnoOutput)
  case odd =>
    intro s dt i cur volt voltOdd supply tj d hi hodd hnoOutput hruns
    exact exec_senseReading_next hi hruns (Dev.sense_pairOdd cur volt voltOdd supply hodd hnoOutput)

end Sys2Proof.Machine
end

section
/-! PROOFS. The queue of waiting commands and memory under every command: steps and the queue (log entries 2 and 14), the
commands that leave memory as it is, and the canonical form of memory (R493), which every step keeps. -/

namespace Sys2Proof.Machine

/-! ### Steps and the queue -/

/-- Settles O1: the queue's front is the command, and the rest is what the state held. -/
theorem frontCommandRunsAsExec : Obligations.FrontCommandRunsAsExec := fun _ _ => rfl

/-- Settles O2: the idle step of log entry 2. -/
theorem emptyQueueIdles : Obligations.EmptyQueueIdles := by
  unfold Obligations.EmptyQueueIdles
  intro s hempty
  rw [step, hempty]

/-- Settles O6. -/
theorem resetMemoryCanonical : Obligations.ResetMemoryCanonical := ⟨Mem.wf_nil, rfl, rfl⟩

/-- Settles O4: a command is a change of the device and its memory alone (`exec_changesWhen_wf`). -/
theorem execKeepsWaitingCommands : Obligations.ExecKeepsWaitingCommands := by
  unfold Obligations.ExecKeepsWaitingCommands
  intro i s t hnext
  obtain ⟨dt, f, hf⟩ := exec_changesWhen_wf i s
  rw [hf, State.onAll] at hnext
  split at hnext
  · cases hnext
    rfl
  · cases hnext

/-! ### Commands that store nothing -/

/-- The outcome is a change of the device alone, made with memory in view. -/
def State.KeepsMem (s : State) (o : Host.Outcome State Fault Refusal) : Prop := ∃ dt ok f, o = s.onDevM dt ok f

theorem State.keepsMem_onDevM (s : State) (dt : Nat) (ok : Bool) (f : List Host.Cell → Dev → Dev) :
    s.KeepsMem (s.onDevM dt ok f) := ⟨dt, ok, f, rfl⟩

theorem State.keepsMem_onDev (s : State) (dt : Nat) (ok : Bool) (f : Dev → Dev) : s.KeepsMem (s.onDev dt ok f) :=
  ⟨dt, ok, fun _ d => f d, rfl⟩

theorem State.keepsMem_chanCmdRow (s : State) (dt op : Nat) (a : Acc) (i v : Nat) :
    s.KeepsMem (s.chanCmdRow dt op a i v) := s.keepsMem_onDevM ..

theorem State.KeepsMem.mem_eq {s t : State} {o : Host.Outcome State Fault Refusal} (h : s.KeepsMem o)
    (ho : o = .next t) : t.mem = s.mem := by
  obtain ⟨dt, ok, f, rfl⟩ := h
  rw [State.onDevM] at ho
  split at ho
  · cases ho
    rfl
  · cases ho

/-- By the row's meaning: those that `mayStore` lists, those that see memory (most write a register), the commands of a
channel, and the rest, which see the device alone. -/
theorem exec_keepsMem {i : Instr} (hi : mayStore i = false) (s : State) : s.KeepsMem (exec i s) := by
  unfold exec
  cases i with
  | registerWrite | coreMemoryAccess | latchingReadLo | stageTick | snapshotDelivery | syncReceived | timeAccept
  | slotArm | slotDisarm | slotFire | logbookRecordWrite | frameIngress | frameTailCheck | transmitDescriptorSend
  | receiveDelivery | deliveryReceipt | sampleDelivery | entryComplete | sleepExit | manEditDone | tamperAlarm
  | chunkDeliveryRetry | outputStallTimeout | provisionalRevoke | nonceBlockReserved | laneFault | powerOnReset
  | deviceReset | beyvoReset | bootSequence | flashCommandDone | data | debugRead | debugWrite | supplyRangeChange
  | coachReset | blockResetCanLin | blockResetTally | blockResetOutr | blockResetLio | preciseSample
  | generate | derive | unwrap | wrap | publicKey | ecdh | kemEnc | kemDec | verifyEcdsa | verifyMldsa | verifyHybrid
  | random | verifyStaged | commit | discard | invalidate | erase | odoRead | odoAdvance | debugCert
  | encrypt | decrypt | macGen | macVerify | hashMsg | msecInstall | msecRemove => exact absurd hi (Ne.symm Bool.false_ne_true)
  | stgDone | stgGdone | tcapPop | logbSpostGo | logbRdCntWrite | alwaysOnFetch | aoClearWriteOnce | aoClearWholeLog
  | planeReadmit | lkpFlipAtTick | lkpFlipImmediate | lkpFrerRst | cqDb | outrPortNWrite | towArm | towEnable
  | towDisable | linkRestart | cableTest | canRecover | msecTxsaSwitch | linSchedSwitch | linSchedRun
  | portRequestActive | portRequestIgnore | portRequestAsleep | sidConfirm | qClr | cntClr | unlatch | hlkCwWord
  | hlkDsRelease | lioEdgePop | lioFastPop | manEditCmd | remeasurementDone | manGinfoRead | pwrmGuardQuiesced
  | irqClaim | irqEoi | tanInjBoundary | tanInjFold | tanInjSelfTest | sbxSubmit | sbxDrbgRead | ceSubmit
  | ceKeyload | ceKeyloadClr | ceLaneReadmit | bootTimerExpiry | guardGo | sysRollbackCmt | flashErase
  | flashProgram | pwrmSleepReq | pwrmTolUs | clkGateWrite | pwrmPgateWrite | frmAck | frmSafeCtl | frmSwfault
  | frmResetDevice | frmResetBeyvo | caResetReq | frmCoachReset | frmCoachRestart | frmCoachDsRel | frmCtlLock
  | tallyCounterWrite | smpCfgWrite | smpRdWrite =>
    exact s.keepsMem_onDevM ..
  | channelCmdOff | channelCmdOn | channelCmdPwm | channelCmdDuty | channelCmdFwd | channelCmdRev =>
    exact s.keepsMem_chanCmdRow ..
  | _ => exact s.keepsMem_onDev ..

/-- Settles O50: a command outside the list changes the device alone. -/
theorem onlyStoringCommandsChangeMemory : Obligations.OnlyStoringCommandsChangeMemory := by
  unfold Obligations.OnlyStoringCommandsChangeMemory
  intro i s t hi hnext
  exact (exec_keepsMem hi s).mem_eq hnext

end Sys2Proof.Machine
end

section
/-! PROOFS. The canonical form of memory (R493): every operation of the block that answers memory keeps it, and so does
every step. -/

namespace Sys2Proof.Machine

open R

/-- A change made under a condition keeps what it keeps whenever it is made. -/
theorem kept_ite {α : Type} {Q : α → Prop} {c : Prop} [Decidable c] {x y : α} (hx : Q x) (hy : Q y) :
    Q (if c then x else y) := by
  split
  · exact hx
  · exact hy

/-- An answer under a condition keeps the canonical form where both of its branches do. -/
theorem wf_snd_ite {c : Prop} [Decidable c] {x y : Dev × Mem} (hx : Mem.wf x.2 = true) (hy : Mem.wf y.2 = true) :
    Mem.wf (if c then x else y).2 = true := by
  split
  · exact hx
  · exact hy

/-! ### Queues and frames -/

section Fabric

variable {d : Dev} {m : Mem}

theorem Dev.snapWrite_wf (h : Mem.wf m = true) : Mem.wf (d.snapWrite m) = true :=
  Mem.wf_foldl _ (fun _ _ hm => Mem.wf_setWords _ _ _ hm) _ _ h

theorem Dev.complete_wf (q : Nat) (ws : List Nat) (h : Mem.wf m = true) : Mem.wf (d.complete m q ws).2 = true :=
  Mem.wf_setWords _ _ _ h

theorem Dev.partWrite_wf (f : Frame) (c : Copy) (q : Nat) (h : Mem.wf m = true) : Mem.wf (d.partWrite m f c q) = true :=
  Mem.wf_setBytes _ _ _ h

theorem Dev.strictTrace_wf (f : Frame) (h : Mem.wf m = true) : Mem.wf (d.strictTrace m f) = true := by
  refine Mem.wf_foldl _ (fun m c hm => ?_) _ _ h
  split
  · split
    · exact Dev.partWrite_wf _ _ _ hm
    · exact hm
  · exact hm

theorem Dev.sendHead_wf (q : Nat) (late : Bool) (h : Mem.wf m = true) : Mem.wf (d.sendHead m q late).2 = true := by
  unfold Dev.sendHead
  exact wf_snd_ite (Dev.complete_wf _ _ h) (wf_snd_ite (Dev.complete_wf _ _ h) (wf_snd_ite (Dev.complete_wf _ _ h)
    (wf_snd_ite h (wf_snd_ite (Dev.complete_wf _ _ h) (wf_snd_ite (Dev.complete_wf _ _ h) (Dev.complete_wf _ _ h))))))

theorem Dev.sendFirst_wf {o : Nat} {l : List Nat} (h : Mem.wf m = true) : Mem.wf (Dev.sendFirst o l d m).2 = true := by
  induction l generalizing d m with
  | nil => exact h
  | cons n r ih =>
    have hsent := Dev.sendHead_wf (d := d) (64 * o + n) false h
    rw [Dev.sendFirst]
    split
    · exact ih hsent
    · exact hsent

theorem wf_taken_ite {c : Prop} [Decidable c] {α : Type} {x y : Dev × Mem × α} (hx : Mem.wf x.2.1 = true)
    (hy : Mem.wf y.2.1 = true) : Mem.wf (if c then x else y).2.1 = true := by
  split
  · exact hx
  · exact hy

theorem Dev.takeHead_wf {q k : Nat} (h : Mem.wf m = true) : Mem.wf (Dev.takeHead q k d m).2.1 = true := by
  induction k generalizing d m with
  | zero => exact h
  | succ k ih =>
    rw [Dev.takeHead]
    exact wf_taken_ite h (wf_taken_ite h (ih (Dev.complete_wf _ _ h)))

theorem Dev.receive_wf {q kind cls dq : Nat} {bytes wb : List Nat} {bad : Bool} (h : Mem.wf m = true) :
    Mem.wf (Dev.receive q bytes kind cls dq bad wb d m).2.1 = true := by
  have htaken := Dev.takeHead_wf (q := q) (k := d.qPosted q) (d := d) h
  unfold Dev.receive
  generalize Dev.takeHead q (d.qPosted q) d m = r at htaken ⊢
  obtain ⟨e, m', taken⟩ := r
  refine wf_taken_ite htaken ?_
  dsimp only
  refine Dev.complete_wf _ _ ?_
  exact Mem.wf_setBytes _ _ _ htaken

theorem Dev.deliver_wf {f : Frame} {c : Copy} {q : Nat} (h : Mem.wf m = true) : Mem.wf (d.deliver m f c q).2 = true := by
  unfold Dev.deliver
  dsimp only
  split <;> exact Dev.receive_wf h

theorem Dev.writeCopy_wf {f : Frame} {c : Copy} {q : Nat} (h : Mem.wf m = true) :
    Mem.wf (d.writeCopy m f c q).2 = true := by
  unfold Dev.writeCopy
  split
  · exact Dev.deliver_wf h
  · exact Dev.partWrite_wf _ _ _ h

theorem Dev.delivery_wf {id p : Nat} (h : Mem.wf m = true) : Mem.wf (d.delivery m id p).2 = true := by
  unfold Dev.delivery
  split
  · split
    · split
      · exact Dev.writeCopy_wf h
      · exact h
    · exact h
  · split
    · exact h
    · split
      · exact h
      · dsimp only
        split_ifs
        · exact h
        · exact Dev.writeCopy_wf (Dev.takeHead_wf h)
        · exact Dev.takeHead_wf h

theorem Dev.sampleWrite_wf {k q : Nat} {x : Sample} (h : Mem.wf m = true) : Mem.wf (d.sampleWrite m k q x).2 = true := by
  unfold Dev.sampleWrite
  dsimp only
  split <;> exact Dev.receive_wf h

end Fabric

/-! ### The strongbox and the cipher engine -/

section Crypto

variable {d : Dev} {m : Mem}

theorem Dev.sbxDone_wf {a st gen : Nat} {out : List Nat} (h : Mem.wf m = true) :
    Mem.wf (d.sbxDone m a st gen out).2 = true := by
  unfold Dev.sbxDone
  dsimp only
  split
  · exact Mem.wf_setWords _ _ _ h
  · exact h

theorem SbxRes.close_wf {r : SbxRes} {a : Nat} (h : Mem.wf m = true) : Mem.wf (r.close m a).2 = true := Dev.sbxDone_wf h

theorem Dev.sbxRun_wf {a : Nat} {f : SbxCmd → List Nat → Dev → SbxRes} (h : Mem.wf m = true) :
    Mem.wf (d.sbxRun m a f).2 = true := by
  unfold Dev.sbxRun
  dsimp only
  repeat' refine kept_ite (Q := fun r : Dev × Mem => Mem.wf r.2 = true) (SbxRes.close_wf h) ?_
  exact SbxRes.close_wf (Mem.wf_setBytes _ _ _ h)

theorem Dev.ceRecord_wf {l desc st gen : Nat} {prov revoked : Bool} {nonce result : List Nat} (h : Mem.wf m = true) :
    Mem.wf (d.ceRecord m l desc st gen prov revoked nonce result).2 = true :=
  Mem.wf_setWord _ _ _ (Mem.wf_setBytes _ _ _ h)

theorem Dev.ceEnd_wf {l : Nat} {r : CeRun} {revoked : Bool} (h : Mem.wf m = true) :
    Mem.wf (d.ceEnd m l r revoked).2 = true := Dev.ceRecord_wf (l := l) h

theorem Dev.ceFinish_wf {l : Nat} {r : CeRun} (h : Mem.wf m = true) : Mem.wf (d.ceFinish m l r).2 = true := by
  unfold Dev.ceFinish
  dsimp only
  split
  · exact h
  · exact Dev.ceEnd_wf h

theorem Dev.ceAbort_wf {l st : Nat} (h : Mem.wf m = true) : Mem.wf (d.ceAbort m l st).2 = true := by
  unfold Dev.ceAbort
  split
  · exact h
  · split
    · exact h
    · exact Dev.ceFinish_wf h

theorem Dev.ceDeliver_wf {l : Nat} {r : CeRun} {cs : List (List Nat × Bool)} (h : Mem.wf m = true) :
    Mem.wf (Dev.ceDeliver l r cs d m).2 = true := by
  induction cs generalizing d r with
  | nil => exact Dev.ceFinish_wf h
  | cons c rest ih =>
    rw [Dev.ceDeliver]
    dsimp only
    split
    · exact h
    · exact ih

theorem Dev.ceRetry_wf {l : Nat} (h : Mem.wf m = true) : Mem.wf (d.ceRetry m l).2 = true := by
  unfold Dev.ceRetry
  split
  · exact h
  · split
    · exact Dev.ceDeliver_wf h
    · exact h

theorem Dev.ceCompute_wf {l : Nat} {r : CeRun} {iv : List Nat} (h : Mem.wf m = true) :
    Mem.wf (d.ceCompute m l r iv).2 = true := by
  unfold Dev.ceCompute
  dsimp only
  split
  · exact Dev.ceDeliver_wf h
  · split
    · exact Dev.ceDeliver_wf h
    · split
      · split <;> exact Dev.ceDeliver_wf h
      · exact Dev.ceDeliver_wf h
  · exact Dev.ceFinish_wf h
  · exact Dev.ceFinish_wf h
  · exact wf_snd_ite (Dev.ceFinish_wf h) (Dev.ceFinish_wf h)

theorem Dev.ceGo_wf {l : Nat} {r : CeRun} {gen : Bool} (h : Mem.wf m = true) : Mem.wf (d.ceGo m l r gen).2 = true := by
  unfold Dev.ceGo
  split
  · dsimp only
    split
    · exact h
    · exact Dev.ceCompute_wf h
  · exact Dev.ceCompute_wf h

theorem Dev.reserved_wf {l : Nat} (h : Mem.wf m = true) : Mem.wf (d.reserved m l).2 = true := by
  unfold Dev.reserved
  dsimp only
  split
  · exact h
  · split
    · split
      · exact Dev.ceGo_wf h
      · exact h
    · exact h

theorem Dev.ceStart_wf {l a : Nat} (h : Mem.wf m = true) : Mem.wf (d.ceStart m l a).2 = true := by
  unfold Dev.ceStart
  dsimp only
  split
  · exact Dev.ceRecord_wf h
  · split
    · exact Dev.ceRecord_wf h
    · exact Dev.ceGo_wf h

theorem Dev.purge_wf {q pos : Nat} (h : Mem.wf m = true) : Mem.wf (d.purge m q pos) = true :=
  Mem.wf_setWord _ _ _ (Mem.wf_setWord _ _ _ (Mem.wf_setBytes _ _ _ h))

theorem Dev.cePurge_wf {r : CeRun} (h : Mem.wf m = true) : Mem.wf (d.cePurge m r).2.2 = true :=
  Mem.wf_foldl _ (fun _ _ hm => Dev.purge_wf hm) _ _ h

theorem Dev.ceNotice_wf {l : Nat} {r : CeRun} (h : Mem.wf m = true) : Mem.wf (d.ceNotice m l r).2 = true := by
  unfold Dev.ceNotice
  dsimp only
  split_ifs
  · exact Dev.ceEnd_wf h
  · exact h
  · exact Dev.ceEnd_wf (Dev.complete_wf _ _ h)

theorem Dev.ceAbortAll_wf {st : Nat} {ls : List Nat} (h : Mem.wf m = true) :
    Mem.wf (Dev.ceAbortAll st ls d m).2 = true := by
  induction ls generalizing d m with
  | nil => exact h
  | cons l rest ih => exact ih (Dev.ceAbort_wf h)

theorem Dev.ceRefuseAll_wf {l st : Nat} {as : List Nat} (h : Mem.wf m = true) :
    Mem.wf (Dev.ceRefuseAll l st as d m).2 = true := by
  induction as generalizing d m with
  | nil => exact h
  | cons a rest ih => exact ih (Dev.ceRecord_wf h)

theorem Dev.laneFault_wf {l : Nat} (h : Mem.wf m = true) : Mem.wf (d.laneFault m l).2 = true :=
  Dev.ceRefuseAll_wf (Dev.ceAbortAll_wf (Dev.ceAbort_wf h))

theorem Dev.tamperKeys_wf (h : Mem.wf m = true) : Mem.wf (d.tamperKeys m).2 = true := Dev.ceAbortAll_wf h

theorem Dev.ceOwnerReset_wf {c : Nat} {ls : List Nat} (h : Mem.wf m = true) :
    Mem.wf (Dev.ceOwnerReset c ls d m).2 = true := by
  induction ls generalizing d m with
  | nil => exact h
  | cons l rest ih =>
    exact ih (Dev.ceRefuseAll_wf (wf_snd_ite (Dev.ceAbort_wf h) h))

end Crypto

/-! ### Slots, time and the stage tick -/

section Time

variable {d : Dev} {m : Mem}

theorem Dev.slotAct_wf {n t : Nat} {x : Slot} {late : Bool} (h : Mem.wf m = true) :
    Mem.wf (d.slotAct m n x t late).2 = true := by
  unfold Dev.slotAct
  generalize (if bit 7 x.cfg = true then d.raise (24 + bits 10 8 x.cfg) else d) = e
  generalize (if late = true then 2 ^ 80 else t) = held
  split
  · exact h
  · exact h
  · exact h
  · exact h
  · exact wf_snd_ite h (Dev.sendHead_wf _ _ h)
  · dsimp only
    exact Mem.wf_setWords _ _ _ h
  · exact h

theorem Dev.slotLate_wf {n : Nat} {x : Slot} {step : Bool} (h : Mem.wf m = true) :
    Mem.wf (d.slotLate m n x step).2 = true := by
  unfold Dev.slotLate
  exact wf_snd_ite (wf_snd_ite (Dev.slotAct_wf h) (Dev.slotAct_wf h)) (wf_snd_ite (wf_snd_ite h h) h)

theorem Dev.slotArm_wf {n : Nat} (h : Mem.wf m = true) : Mem.wf (d.slotArm m n).2 = true := by
  unfold Dev.slotArm
  exact wf_snd_ite h (wf_snd_ite (Dev.slotLate_wf h) h)

theorem Dev.slotCmd_wf {n v : Nat} (h : Mem.wf m = true) : Mem.wf (d.slotCmd m n v).2 = true := by
  unfold Dev.slotCmd
  exact wf_snd_ite h (wf_snd_ite h (wf_snd_ite (Dev.slotArm_wf h) (wf_snd_ite h h)))

theorem Dev.slotFire_wf {n : Nat} (h : Mem.wf m = true) : Mem.wf (d.slotFire m n).2 = true := by
  unfold Dev.slotFire
  exact wf_snd_ite h (wf_snd_ite (Dev.slotAct_wf h) (wf_snd_ite (Dev.slotAct_wf h) (Dev.slotAct_wf h)))

theorem Dev.passedFire_wf {n : Nat} {x : Slot} (h : Mem.wf m = true) : Mem.wf (d.passedFire m n x).2 = true :=
  Dev.slotAct_wf h

/-- A fold over the device and its memory keeps the canonical form where each of its steps does. -/
theorem wf_foldl_both {α : Type} (f : Dev × Mem → α → Dev × Mem)
    (hf : ∀ r x, Mem.wf r.2 = true → Mem.wf (f r x).2 = true) (l : List α) (r : Dev × Mem) (h : Mem.wf r.2 = true) :
    Mem.wf (l.foldl f r).2 = true := by
  induction l generalizing r with
  | nil => exact h
  | cons x rest ih => exact ih _ (hf _ _ h)

theorem Dev.stepSlots_wf (h : Mem.wf m = true) : Mem.wf (d.stepSlots m).2 = true :=
  wf_foldl_both _ (fun _ _ hr => Dev.slotLate_wf hr) _ _ h

theorem Dev.stepTime_wf {ofs256 : Nat} (h : Mem.wf m = true) : Mem.wf (d.stepTime m ofs256).2 = true := Dev.stepSlots_wf h

theorem Dev.primarySync_wf {ofs256 : Int} {gm : Nat} (h : Mem.wf m = true) :
    Mem.wf (d.primarySync m ofs256 gm).2 = true := by
  unfold Dev.primarySync
  exact wf_snd_ite h (wf_snd_ite h (wf_snd_ite (wf_snd_ite (Dev.stepTime_wf h) h) (wf_snd_ite h h)))

theorem Dev.sync_wf {dom port node gm : Nat} {diff256 : Int} (h : Mem.wf m = true) :
    Mem.wf (d.sync m dom port node diff256 gm).2 = true := by
  unfold Dev.sync
  split_ifs
  · exact h
  · exact Dev.primarySync_wf h
  · exact h

theorem Dev.timeAccept_wf {v : Nat} (h : Mem.wf m = true) : Mem.wf (d.timeAccept m v).2 = true := by
  unfold Dev.timeAccept
  exact wf_snd_ite h (wf_snd_ite (Dev.stepTime_wf h) h)

theorem Dev.entryStart_wf (h : Mem.wf m = true) : Mem.wf (d.entryStart m).2 = true := Dev.ceAbortAll_wf h

theorem Dev.tickSlots_wf {t : Nat} (h : Mem.wf m = true) : Mem.wf (d.tickSlots m t).2 = true :=
  wf_foldl_both _ (fun _ _ hr => Dev.slotFire_wf hr) _ _ (wf_foldl_both _ (fun _ _ hr => Dev.passedFire_wf hr) _ _ h)

theorem Dev.tick_wf (h : Mem.wf m = true) : Mem.wf (d.tick m).2 = true := by
  unfold Dev.tick
  extract_lets tick t ending first d1 d2 x
  have hx : Mem.wf x.2 = true := by
    unfold x
    exact Dev.tickSlots_wf h
  clear_value x
  split
  · exact Dev.entryStart_wf hx
  · exact hx

end Time

/-! ### Edits, resets and the boot ROM -/

section Boot

variable {d : Dev} {m : Mem}

theorem editMem_wf {i v : Nat} (h : Mem.wf m = true) : Mem.wf (editMem m i v) = true := by
  unfold editMem
  refine Mem.wf_setWord _ _ _ ?_
  split
  · exact Mem.wf_zero _ _ _ h
  · exact h

theorem Mem.wf_scrubAll {guard : Bool} (h : Mem.wf m = true) : Mem.wf (Mem.scrubAll m guard) = true := Mem.wf_scrub _ _ h

theorem Dev.resetUnits_wf {c : Nat} (h : Mem.wf m = true) : Mem.wf (d.resetUnits m c).2 = true := by
  unfold Dev.resetUnits
  dsimp only
  exact Dev.ceOwnerReset_wf h

theorem Dev.tallyReset_wf (h : Mem.wf m = true) : Mem.wf (d.tallyReset m).2 = true := by
  unfold Dev.tallyReset
  dsimp only
  exact Mem.wf_zero _ _ _ h

theorem Dev.blkRst_wf {v : Nat} (h : Mem.wf m = true) : Mem.wf (Dev.blkRst v m d).2 = true := by
  unfold Dev.blkRst
  refine wf_snd_ite h ?_
  dsimp only
  split
  · exact h
  · exact Dev.tallyReset_wf h
  · exact h
  · exact h

theorem Dev.smpDue_wf {k addr opcode latency : Nat} (h : Mem.wf m = true) :
    Mem.wf (d.smpDue m k addr opcode latency).2 = true := by
  unfold Dev.smpDue
  exact wf_snd_ite (Mem.wf_setWords _ _ _ h) (wf_snd_ite (Mem.wf_setWords _ _ _ h) (wf_snd_ite h h))

theorem Dev.smpFree_succ (k n : Nat) (d : Dev) (m : Mem) :
    Dev.smpFree k (n + 1) d m =
      (let x := d.fresh 64
      let y := x.2.fresh 32
      let z := y.2.fresh 16
      let r := z.2.smpDue m k x.1 y.1 z.1
      Dev.smpFree k n r.1 r.2) := by
  delta Dev.smpFree
  rfl

theorem Dev.smpFree_wf {k n : Nat} (h : Mem.wf m = true) : Mem.wf (Dev.smpFree k n d m).2 = true := by
  induction n generalizing d m with
  | zero => exact h
  | succ n ih =>
    rw [Dev.smpFree_succ]
    exact ih (Dev.smpDue_wf h)

theorem Dev.bootEntries_wf (h : Mem.wf m = true) : Mem.wf (d.bootEntries m) = true :=
  Mem.wf_foldl _ (fun _ _ hm => Mem.wf_setWord _ _ _ (Mem.wf_setWord _ _ _ hm)) _ _
    (Mem.wf_foldl _ (fun _ _ hm => Mem.wf_setWord _ _ _ hm) _ _ h)

variable {b : Built}

/-- The next step of an application keeps the canonical form where it does so itself. -/
theorem Built.andThen_wf {f : Built → Built} (hf : ∀ b, Mem.wf b.mem = true → Mem.wf (f b).mem = true)
    (h : Mem.wf b.mem = true) : Mem.wf (b.andThen f).mem = true := by
  unfold Built.andThen
  split
  · exact hf b h
  · exact h

/-- So does a fold of such steps. -/
theorem Built.foldl_wf {α : Type} (f : Built → α → Built) (hf : ∀ b x, Mem.wf b.mem = true → Mem.wf (f b x).mem = true)
    (l : List α) (h : Mem.wf b.mem = true) : Mem.wf (l.foldl f b).mem = true := by
  induction l generalizing b with
  | nil => exact h
  | cons x rest ih => exact ih (hf _ _ h)

theorem putWord_wf {a v : Nat} (h : Mem.wf b.mem = true) : Mem.wf (putWord b a v).mem = true := by
  unfold putWord
  split_ifs
  · exact Mem.wf_setWord _ _ _ h
  all_goals exact h

theorem applyWords_wf {cmp : Bool} {s : Sect} {ws : List (Nat × Nat)} (h : Mem.wf b.mem = true) :
    Mem.wf (applyWords cmp s ws b).mem = true := by
  unfold applyWords
  dsimp only
  split_ifs
  · exact h
  · exact h
  · exact h
  · exact Built.foldl_wf _ (fun _ _ hb => putWord_wf hb) _ h

theorem keyRecords_mem (s : Sect) (n : Nat) (l : List Nat) : (keyRecords s n l b).mem = b.mem := by
  induction n generalizing l b with
  | zero => cases l <;> rfl
  | succ n ih =>
    cases l with
    | nil => rfl
    | cons x xs =>
      rw [keyRecords]
      dsimp only
      split_ifs
      · rfl
      · rfl
      · rw [ih]
      · rfl
      · simp

theorem Built.afterSect_wf {t : Nat} (h : Mem.wf b.mem = true) : Mem.wf (b.afterSect t).mem = true := by
  unfold Built.afterSect
  split
  case h_2 => exact Dev.bootEntries_wf h
  all_goals exact h

theorem applySect_wf {cmp : Bool} {s : Sect} (h : Mem.wf b.mem = true) : Mem.wf (applySect cmp s b).mem = true := by
  unfold applySect
  split
  · exact h
  · dsimp only
    refine Built.andThen_wf (fun _ hb => hb) (Built.andThen_wf (fun b hb => ?keys) (Built.andThen_wf (fun b hb => ?rules)
      (Built.andThen_wf (fun _ hb => Built.afterSect_wf hb) (applyWords_wf h))))
    case keys => rwa [keyRecords_mem]
    case rules => split <;> exact hb

theorem applyType_wf {cmp : Bool} {l : List Sect} {bad : Option (Nat × Nat)} {t : Nat} (h : Mem.wf b.mem = true) :
    Mem.wf (applyType cmp l bad b t).mem = true := by
  refine Built.andThen_wf (fun b hb => ?_) h
  split
  · exact applySect_wf hb
  · split
    · exact hb
    · split
      · exact hb
      · dsimp only
        split <;> exact hb

theorem loadImage_wf {s : Sect} (h : Mem.wf b.mem = true) : Mem.wf (loadImage s b).mem = true := by
  unfold loadImage
  dsimp only
  have hloaded {x v} : Mem.wf (Mem.setBytes b.mem x v) = true := Mem.wf_setBytes _ _ _ h
  exact kept_ite (Q := fun r : Built => Mem.wf r.mem = true) h (kept_ite (Q := fun r : Built => Mem.wf r.mem = true) h
    (kept_ite (Q := fun r : Built => Mem.wf r.mem = true) hloaded hloaded))

theorem applyImage_wf {half : Nat} {cmp imageOk sleepOk : Bool} (h : Mem.wf m = true) :
    Mem.wf (applyImage half cmp imageOk sleepOk d m).mem = true := by
  unfold applyImage
  dsimp only
  refine Built.andThen_wf (fun _ hb => hb) (Built.andThen_wf (fun b hb => ?cross)
    (Built.foldl_wf _ (fun _ _ hb => Built.andThen_wf (fun _ hc => loadImage_wf hc) hb) _
      (Built.andThen_wf (fun b hb => ?ends) (Built.foldl_wf _ (fun _ _ hb => applyType_wf hb) _ h))))
  case cross => split <;> exact hb
  case ends =>
    split
    · exact hb
    · split <;> exact hb

theorem tryImages_wf {cmp imageOk sleepOk : Bool} {unread : Nat} {hs : List Nat} (h : Mem.wf m = true) :
    Mem.wf (tryImages cmp imageOk sleepOk unread hs d m).2 = true := by
  induction hs generalizing d m with
  | nil => exact h
  | cons half rest ih =>
    unfold tryImages
    extract_lets e b
    have hbuilt : Mem.wf b.mem = true := by
      simp only [b]
      split
      · exact h
      · exact applyImage_wf h
    exact wf_snd_ite hbuilt (wf_snd_ite h (ih (Mem.wf_zero _ _ _ hbuilt)))

theorem Dev.bootRun_wf {pufOk imageOk sleepOk : Bool} {unread : Nat} {odo : List (Nat × Option Nat)}
    (h : Mem.wf m = true) : Mem.wf (d.bootRun m pufOk unread imageOk sleepOk odo).2 = true := by
  unfold Dev.bootRun
  dsimp only
  split
  · exact h
  · split
    · exact h
    · split
      · exact h
      · exact tryImages_wf h
      · exact tryImages_wf h

theorem Dev.serviceData_wf {tool offset : Nat} {bytes : List Nat} (h : Mem.wf m = true) :
    Mem.wf (d.serviceData m tool offset bytes).2 = true := by
  unfold Dev.serviceData
  dsimp only
  split
  · exact h
  · split
    · exact h
    · exact Mem.wf_setBytes _ _ _ h

end Boot

/-! ### Accesses -/

section Accesses

variable {d : Dev} {m : Mem} {a : Sys2Proof.Acc} {k : AccKind} {addr v : Nat}

theorem Dev.regWriteM_wf {f : Mem → Dev → Dev × Mem} (hf : ∀ d, Mem.wf (f m d).2 = true) (h : Mem.wf m = true) :
    Mem.wf (d.regWriteM m a addr f).2 = true := by
  unfold Dev.regWriteM
  split
  · exact hf d
  · exact h

theorem Dev.writeSysFrm_wf (h : Mem.wf m = true) : Mem.wf (d.writeSysFrm m a addr v).2 = true := by
  unfold Dev.writeSysFrm
  refine wf_snd_ite h (wf_snd_ite h (wf_snd_ite h (wf_snd_ite h (wf_snd_ite h (wf_snd_ite h
    (wf_snd_ite (Dev.blkRst_wf h) ?_))))))
  split
  · exact h
  · refine wf_snd_ite h ?_
    split
    · exact h
    · exact wf_snd_ite h h

theorem Dev.writeReg_wf (h : Mem.wf m = true) : Mem.wf (d.writeReg m a addr v).2 = true := by
  unfold Dev.writeReg
  generalize v % 2 ^ 32 = u
  dsimp only
  have hslot := Dev.slotCmd_wf (d := d) (n := (addr - 0x40421000) / 0x20) (v := u) h
  exact wf_snd_ite h (wf_snd_ite h (wf_snd_ite (Dev.writeSysFrm_wf h) (wf_snd_ite h (wf_snd_ite h (wf_snd_ite h
    (wf_snd_ite h (wf_snd_ite h (wf_snd_ite (Dev.timeAccept_wf h) (wf_snd_ite (wf_snd_ite (wf_snd_ite hslot h) h)
      (wf_snd_ite h (wf_snd_ite h (wf_snd_ite h h))))))))))))

theorem Dev.regAccess_wf (h : Mem.wf m = true) : Mem.wf (d.regAccess m a k addr v).2 = true := by
  unfold Dev.regAccess
  split_ifs
  · exact h
  · exact Dev.writeReg_wf h
  all_goals exact h

theorem Dev.memAccess_wf {width : Nat} (h : Mem.wf m = true) : Mem.wf (d.memAccess m a k addr width v).2 = true := by
  unfold Dev.memAccess
  exact wf_snd_ite (Mem.wf_setBytes _ _ _ h) (wf_snd_ite h h)

theorem Dev.access_wf {width : Nat} (h : Mem.wf m = true) : Mem.wf (d.access m a k addr width v).2 = true := by
  unfold Dev.access
  split
  · exact h
  · split
    · exact h
    · split
      · split
        · exact h
        · split
          · exact Dev.regAccess_wf h
          · exact h
      · split
        · split
          · exact Dev.memAccess_wf h
          · exact h
        · exact h

theorem Dev.dbgAccess_wf (h : Mem.wf m = true) : Mem.wf (d.dbgAccess m a k addr v).2 = true := by
  unfold Dev.dbgAccess
  dsimp only
  split
  · exact h
  · split
    · exact Dev.access_wf h
    · exact h

theorem Dev.dbgMove_wf {port : Bool} {op core : Nat} (h : Mem.wf m = true) :
    Mem.wf (d.dbgMove m port op core addr v).2 = true := by
  unfold Dev.dbgMove
  split
  · exact h
  · dsimp only
    split
    · exact h
    · exact Dev.dbgAccess_wf h

theorem Dev.debugFrame_wf {tool : Nat} {w : List Nat} (h : Mem.wf m = true) : Mem.wf (d.debugFrame m tool w).2 = true := by
  unfold Dev.debugFrame
  dsimp only
  split
  · exact h
  · split
    · exact Dev.dbgMove_wf h
    · exact h

theorem Dev.frameAtMac_wf {p ts256 : Nat} {bytes : List Nat} {sec : Option SecTag} (h : Mem.wf m = true) :
    Mem.wf (d.frameAtMac m p ts256 bytes sec).2 = true := by
  unfold Dev.frameAtMac
  dsimp only
  generalize (if p = 6 ∧ d.on (PORT_STS_LINK p) ∧ d.sidAt p ts256 < 2 ∧ d.towPort ≠ some p ∧ fcsRight bytes sec = true then
    toolFrame bytes else none) = own
  split
  · split_ifs
    · exact Dev.debugFrame_wf h
    · exact Dev.serviceData_wf h
    · exact h
    · exact h
  · exact h

end Accesses

/-! ### The commands -/

/-- The outcome is a change of the device and its memory that keeps the canonical form. -/
def State.KeepsCanonical (s : State) (o : Host.Outcome State Fault Refusal) : Prop :=
  ∃ dt ok f, o = s.onAll dt ok f ∧ ∀ m d, Mem.wf m = true → Mem.wf (f m d).2 = true

theorem State.keepsCanonical_onAll (s : State) (dt : Nat) (ok : Bool) {f : List Host.Cell → Dev → Dev × List Host.Cell}
    (hf : ∀ m d, Mem.wf m = true → Mem.wf (f m d).2 = true) : s.KeepsCanonical (s.onAll dt ok f) := ⟨dt, ok, f, rfl, hf⟩

theorem State.KeepsMem.keepsCanonical {s : State} {o : Host.Outcome State Fault Refusal} (h : s.KeepsMem o) :
    s.KeepsCanonical o := by
  obtain ⟨dt, ok, f, rfl⟩ := h
  exact ⟨dt, ok, fun m d => (f m d, m), rfl, fun _ _ hm => hm⟩

theorem State.KeepsCanonical.canonical {s t : State} {o : Host.Outcome State Fault Refusal} (h : s.KeepsCanonical o)
    (ho : o = .next t) (hs : s.canonical) : t.canonical := by
  obtain ⟨dt, ok, f, rfl, hf⟩ := h
  rw [State.onAll] at ho
  split at ho
  · cases ho
    exact hf _ _ hs
  · cases ho

theorem State.keepsCanonical_sbxRow (s : State) (dt op : Nat) (f : SbxCmd → List Nat → Dev → SbxRes) :
    s.KeepsCanonical (s.sbxRow dt op f) := by
  refine s.keepsCanonical_onAll _ _ fun m d h => ?_
  split
  · exact h
  · dsimp only
    split
    · exact Dev.sbxRun_wf h
    · exact h

theorem State.keepsCanonical_ceRow (s : State) (dt l op : Nat) : s.KeepsCanonical (s.ceRow dt l op) := by
  refine s.keepsCanonical_onAll _ _ fun m d h => ?_
  split
  · exact h
  · dsimp only
    split
    · exact Dev.ceStart_wf h
    · exact h

/-- A register write whose effect may write memory. -/
theorem State.keepsCanonical_regWriteM (s : State) (dt : Nat) (ok : Bool) (a : Acc) (addr : Nat)
    {f : Mem → Dev → Dev × Mem} (hf : ∀ m d, Mem.wf m = true → Mem.wf (f m d).2 = true) :
    s.KeepsCanonical (s.onAll dt ok fun m d => d.regWriteM m a addr f) :=
  s.keepsCanonical_onAll _ _ fun m _ h => Dev.regWriteM_wf (fun d => hf m d h) h

theorem execLogbookRecordWrite_keepsCanonical (s : State) (dt : Nat) :
    s.KeepsCanonical (execLogbookRecordWrite dt s) := by
  refine s.keepsCanonical_onAll _ _ fun m d h => ?_
  split
  · exact h
  · exact Mem.wf_setWords _ _ _ h

theorem execSlotFire_keepsCanonical (s : State) (dt n : Nat) :
    s.KeepsCanonical (execSlotFire dt n s) := by
  refine s.keepsCanonical_onAll _ _ fun m d h => ?_
  split
  · exact Dev.passedFire_wf h
  · exact wf_snd_ite (Dev.slotFire_wf h) h

theorem execFrameTailCheck_keepsCanonical (s : State) (dt id : Nat) (trunc : Bool) (ce : Nat) (ue : Option Nat) :
    s.KeepsCanonical (execFrameTailCheck dt id trunc ce ue s) := by
  refine s.keepsCanonical_onAll _ _ fun m d h => ?_
  have htrace (c : Prop) [Decidable c] (d : Dev) (f : Frame) : Mem.wf (if c then d.strictTrace m f else m) = true := by
    split
    · exact Dev.strictTrace_wf f h
    · exact h
  split
  · exact wf_snd_ite (htrace ..) (htrace ..)
  · exact h

theorem execDeliveryReceipt_keepsCanonical (s : State) (dt : Nat) :
    s.KeepsCanonical (execDeliveryReceipt dt s) := by
  refine s.keepsCanonical_onAll _ _ fun m d h => ?_
  split
  · exact h
  · exact wf_snd_ite h (wf_snd_ite h (Dev.complete_wf _ _ h))

theorem execSampleDelivery_keepsCanonical (s : State) (dt k : Nat) :
    s.KeepsCanonical (execSampleDelivery dt k s) := by
  refine s.keepsCanonical_onAll _ _ fun m d h => ?_
  dsimp only
  split
  · exact h
  · exact wf_snd_ite h (wf_snd_ite h (Dev.sampleWrite_wf h))

theorem execManEditDone_keepsCanonical (s : State) (dt : Nat) :
    s.KeepsCanonical (execManEditDone dt s) := by
  refine s.keepsCanonical_onAll _ _ fun m d h => ?_
  split
  · exact h
  · exact wf_snd_ite (editMem_wf h) h

theorem execOutputStallTimeout_keepsCanonical (s : State) (dt l : Nat) :
    s.KeepsCanonical (execOutputStallTimeout dt l s) := by
  refine s.keepsCanonical_onAll _ _ fun m d h => ?_
  split
  · exact h
  · exact wf_snd_ite (Dev.ceAbort_wf h) h

theorem execProvisionalRevoke_keepsCanonical (s : State) (dt l : Nat) :
    s.KeepsCanonical (execProvisionalRevoke dt l s) := by
  refine s.keepsCanonical_onAll _ _ fun m d h => ?_
  split
  · exact h
  · exact wf_snd_ite h (wf_snd_ite (Dev.ceNotice_wf (Dev.cePurge_wf h)) (wf_snd_ite (Dev.ceNotice_wf h) h))

theorem execDeviceReset_keepsCanonical (s : State) (dt bootsel : Nat) (meshOk : Bool) :
    s.KeepsCanonical (execDeviceReset dt bootsel meshOk s) := by
  refine s.keepsCanonical_onAll _ _ fun m d h => ?_
  split
  · exact h
  · exact wf_snd_ite h (wf_snd_ite (Dev.tamperKeys_wf h) (Mem.wf_atBoot _ (Mem.wf_scrubAll h)))

theorem execBeyvoReset_keepsCanonical (s : State) (dt bootsel : Nat) :
    s.KeepsCanonical (execBeyvoReset dt bootsel s) := by
  refine s.keepsCanonical_onAll _ _ fun m d h => ?_
  split
  · exact h
  · exact wf_snd_ite h (Mem.wf_atBoot _ (Mem.wf_scrubAll h))

theorem execFlashCommandDone_keepsCanonical (s : State) (dt : Nat) (ok : Bool) :
    s.KeepsCanonical (execFlashCommandDone dt ok s) := by
  refine s.keepsCanonical_onAll _ _ fun m d h => ?_
  split
  · exact h
  · exact Mem.wf_setBytes _ _ _ h

theorem execCoachReset_keepsCanonical (s : State) (dt c : Nat) :
    s.KeepsCanonical (execCoachReset dt c s) := by
  refine s.keepsCanonical_onAll _ _ fun m d h => ?_
  split
  · exact h
  · refine wf_snd_ite h ?_
    dsimp only
    refine Mem.wf_scrub _ _ ?_
    exact Dev.resetUnits_wf h

theorem execSupplyRangeChange_keepsCanonical (s : State) (dt range : Nat) (low : Bool) (bootsel : Nat) (meshOk : Bool) :
    s.KeepsCanonical (execSupplyRangeChange dt range low bootsel meshOk s) := by
  refine s.keepsCanonical_onAll _ _ fun m d h => wf_snd_ite h (wf_snd_ite (Mem.wf_flashOnly _ h)
    (wf_snd_ite (Dev.tamperKeys_wf h) ?_))
  dsimp only
  split_ifs
  · exact Mem.wf_atBoot _ h
  · exact Mem.wf_scrubAll h
  · exact h

theorem execPreciseSample_keepsCanonical (s : State) (dt core count addr opcode latency : Nat) :
    s.KeepsCanonical (execPreciseSample dt core count addr opcode latency s) := by
  refine s.keepsCanonical_onAll _ _ fun m d h => ?_
  dsimp only
  refine wf_snd_ite h (wf_snd_ite h (Dev.smpDue_wf ?_))
  exact Dev.smpFree_wf h

/-- By the row's meaning; a command that stores nothing keeps memory itself. -/
theorem exec_keepsCanonical (i : Instr) (s : State) : s.KeepsCanonical (exec i s) := by
  by_cases hstores : mayStore i = false
  · exact (exec_keepsMem hstores s).keepsCanonical
  unfold exec
  cases i with
  | registerWrite | coreMemoryAccess | latchingReadLo =>
    exact s.keepsCanonical_onAll _ _ fun _ _ h => Dev.access_wf h
  | slotArm | slotDisarm => exact s.keepsCanonical_regWriteM _ _ _ _ fun _ _ h => Dev.slotCmd_wf h
  | blockResetCanLin | blockResetTally | blockResetOutr | blockResetLio =>
    exact s.keepsCanonical_regWriteM _ _ _ _ fun _ _ h => Dev.blkRst_wf h
  | timeAccept => exact s.keepsCanonical_regWriteM _ _ _ _ fun _ _ h => Dev.timeAccept_wf h
  | syncReceived => exact s.keepsCanonical_onAll _ _ fun _ _ h => Dev.sync_wf h
  | transmitDescriptorSend => exact s.keepsCanonical_onAll _ _ fun _ _ h => Dev.sendFirst_wf h
  | receiveDelivery => exact s.keepsCanonical_onAll _ _ fun _ _ h => Dev.delivery_wf h
  | frameIngress => exact s.keepsCanonical_onAll _ _ fun _ _ h => Dev.frameAtMac_wf h
  | chunkDeliveryRetry => exact s.keepsCanonical_onAll _ _ fun _ _ h => Dev.ceRetry_wf h
  | nonceBlockReserved => exact s.keepsCanonical_onAll _ _ fun _ _ h => Dev.reserved_wf h
  | bootSequence => exact s.keepsCanonical_onAll _ _ fun _ _ h => Dev.bootRun_wf h
  | data => exact s.keepsCanonical_onAll _ _ fun _ _ h => Dev.serviceData_wf h
  | debugRead | debugWrite => exact s.keepsCanonical_onAll _ _ fun _ _ h => Dev.dbgMove_wf h
  | generate | derive | unwrap | wrap | publicKey | ecdh | kemEnc | kemDec | verifyEcdsa | verifyMldsa | verifyHybrid
  | random | verifyStaged | commit | discard | invalidate | erase | odoRead | odoAdvance | debugCert =>
    exact s.keepsCanonical_sbxRow ..
  | encrypt | decrypt | macGen | macVerify | hashMsg | msecInstall | msecRemove => exact s.keepsCanonical_ceRow ..
  | powerOnReset => exact s.keepsCanonical_onAll _ _ fun _ _ h => Mem.wf_flashOnly _ h
  | stageTick => exact s.keepsCanonical_onAll _ _ fun _ _ h => wf_snd_ite (Dev.tick_wf h) h
  | entryComplete => exact s.keepsCanonical_onAll _ _ fun _ _ h => wf_snd_ite h (Mem.wf_flashOnly _ h)
  | laneFault => exact s.keepsCanonical_onAll _ _ fun _ _ h => wf_snd_ite (Dev.laneFault_wf h) h
  | tamperAlarm => exact s.keepsCanonical_onAll _ _ fun _ _ h => wf_snd_ite h (Dev.tamperKeys_wf h)
  | snapshotDelivery =>
    exact s.keepsCanonical_onAll _ _ fun _ _ h => wf_snd_ite h (wf_snd_ite (Dev.snapWrite_wf h) h)
  | sleepExit =>
    exact s.keepsCanonical_onAll _ _ fun _ _ h => wf_snd_ite h (wf_snd_ite (Dev.tamperKeys_wf h) (Mem.wf_atBoot _ h))
  | logbookRecordWrite => exact execLogbookRecordWrite_keepsCanonical ..
  | slotFire => exact execSlotFire_keepsCanonical ..
  | frameTailCheck => exact execFrameTailCheck_keepsCanonical ..
  | deliveryReceipt => exact execDeliveryReceipt_keepsCanonical ..
  | sampleDelivery => exact execSampleDelivery_keepsCanonical ..
  | manEditDone => exact execManEditDone_keepsCanonical ..
  | outputStallTimeout => exact execOutputStallTimeout_keepsCanonical ..
  | provisionalRevoke => exact execProvisionalRevoke_keepsCanonical ..
  | deviceReset => exact execDeviceReset_keepsCanonical ..
  | beyvoReset => exact execBeyvoReset_keepsCanonical ..
  | flashCommandDone => exact execFlashCommandDone_keepsCanonical ..
  | coachReset => exact execCoachReset_keepsCanonical ..
  | supplyRangeChange => exact execSupplyRangeChange_keepsCanonical ..
  | preciseSample => exact execPreciseSample_keepsCanonical ..
  | _ => exact absurd rfl hstores

/-- Settles O5: a step idles or is a command, and every command keeps the canonical form. -/
theorem memoryCanonicalKeptByEveryStep : Obligations.MemoryCanonicalKeptByEveryStep := by
  unfold Obligations.MemoryCanonicalKeptByEveryStep
  intro s t hs hstep
  rw [step] at hstep
  split at hstep
  · cases hstep
    exact hs
  · exact (exec_keepsCanonical _ _).canonical hstep hs

end Sys2Proof.Machine
end

section
/-! PROOFS. The protection layers: what the output stage, a trip and the models change of a channel and leave of the other
channels, and the rows of trips, restarts, unlatching, tests, the models and the budgeter (R288–R308). -/

namespace Sys2Proof.Machine

open R

theorem exec_shortCircuitTrip (s : State) (dt i : Nat) (seen : ScInput) :
    exec (.shortCircuitTrip dt i seen) s = execShortCircuitTrip dt i seen s := rfl

theorem exec_reverseBlockEnd (s : State) (dt i : Nat) : exec (.reverseBlockEnd dt i) s = execReverseBlockEnd dt i s := rfl

theorem exec_modelUpdate (s : State) (dt : Nat) : exec (.modelUpdate dt) s = execModelUpdate dt s := rfl

theorem exec_retryRestart (s : State) (dt i : Nat) : exec (.retryRestart dt i) s = execRetryRestart dt i s := rfl

theorem exec_retryCountClear (s : State) (dt i : Nat) : exec (.retryCountClear dt i) s = execRetryCountClear dt i s := rfl

theorem exec_unlatch (s : State) (dt i : Nat) (a : Sys2Proof.Acc) : exec (.unlatch dt a i) s = execUnlatch dt a i s := rfl

theorem exec_pullUpTest (s : State) (dt i : Nat) (low : Bool) :
    exec (.pullUpTest dt i low) s = execPullUpTest dt i low s := rfl

theorem exec_pullUpTestEnd (s : State) (dt i : Nat) (volt : Int) :
    exec (.pullUpTestEnd dt i volt) s = execPullUpTestEnd dt i volt s := rfl

theorem exec_budgeterUpdate (s : State) (dt logic : Nat) :
    exec (.budgeterUpdate dt logic) s = execBudgeterUpdate dt logic s := rfl

theorem exec_budgetRelease (s : State) (dt : Nat) : exec (.budgetRelease dt) s = execBudgetRelease dt s := rfl

theorem exec_retainedStateWrite (s : State) (dt : Nat) :
    exec (.retainedStateWrite dt) s = execRetainedStateWrite dt s := rfl

/-! ### What the output stage cannot undo

A property of the state that no write of the output stage of channel `i` undoes stays true behind every function of that
stage. Which writes there are is said once, here; a proof then only shows that its property survives each of them. -/

/-- A change of a channel's state that leaves its models. -/
def Chan.KeepsModels (f : Chan → Chan) : Prop :=
  ∀ c, (f c).theta = c.theta ∧ (f c).phi = c.phi ∧ (f c).mCnt = c.mCnt ∧ (f c).mSq = c.mSq

/-- The output stage of channel `i` (R271) keeps `P`: it changes OUT and INRUSH, clears SC and OC, and changes the
channel's state but for its models. -/
structure Dev.KeptByOutput (i : Nat) (P : Dev → Prop) : Prop where
  out : ∀ {d} v, P d → P (d.put (CHAN_STS_OUT i) v)
  inrush : ∀ {d} v, P d → P (d.put (CHAN_STS_INRUSH i) v)
  sc : ∀ {d}, P d → P (d.clr (CHAN_STS_SC i))
  oc : ∀ {d}, P d → P (d.clr (CHAN_STS_OC i))
  chan : ∀ {d} {f : Chan → Chan}, Chan.KeepsModels f → P d → P (d.modChan i f)

/-- A request of OFF for channel `i` (R299) keeps `P` as well: it clears RETRY and SHED. -/
structure Dev.KeptByRequest (i : Nat) (P : Dev → Prop) : Prop extends Dev.KeptByOutput i P where
  retry : ∀ {d}, P d → P (d.clr (CHAN_STS_RETRY i))
  shed : ∀ {d}, P d → P (d.clr (CHAN_STS_SHED i))
  shedLo : ∀ {d}, P d → P (d.clr ⟨HPS_SHED_LO, i, i⟩)
  shedHi : ∀ {d}, P d → P (d.clr ⟨HPS_SHED_HI, i - 32, i - 32⟩)

/-- A trip of channel `i` (R295) keeps `P` as well: it sets protection bits, counts, and reports. -/
structure Dev.KeptByTrip (i : Nat) (P : Dev → Prop) : Prop extends Dev.KeptByOutput i P where
  thermal : ∀ {d} v, P d → P (d.put (CHAN_STS_THERMAL i) v)
  latched : ∀ {d}, P d → P (d.set (CHAN_STS_LATCHED i))
  retry : ∀ {d} v, P d → P (d.put (CHAN_STS_RETRY i) v)
  retryCnt : ∀ {d} v, P d → P (d.put (CHAN_STS_RETRY_CNT i) v)
  event : ∀ {d} k v, P d → P (d.put ⟨CHAN_PEVT i, k, k⟩ v)
  source : ∀ {d} en, P d → P (d.raiseIf en (256 + i))
  count : ∀ {d}, P d → P (d.bump (CHAN_TRIP_CNT i))
  record : ∀ {d} code sev owner data, P d → P (d.post 0x51 code sev owner i data)

/-- The harness limits of channel `i` (R292) keep `P` as well: they change HARNESS. -/
structure Dev.KeptByHarness (i : Nat) (P : Dev → Prop) : Prop extends Dev.KeptByTrip i P where
  harness : ∀ {d} v, P d → P (d.put (CHAN_STS_HARNESS i) v)

/-- The models of channel `i` (R290–R294) keep `P` as well: they write CHAN_MODEL_T and the models. -/
structure Dev.KeptByModels (i : Nat) (P : Dev → Prop) : Prop extends Dev.KeptByHarness i P where
  modelT : ∀ {d} v, P d → P (d.wr (CHAN_MODEL_T i) v)
  models : ∀ {d} f, P d → P (d.modChan i f)

/-- A temperature limit of channel `i` in the models' unit. -/
def Dev.limitT (d : Dev) (f : Fld) : Int := ((d.fld f * kelvin : Nat) : Int)

/-- Channel `i` once R292 has warned of its wire. -/
def Dev.harnessWarned (d : Dev) (i : Nat) : Dev :=
  if d.fld (CHAN_HARN_LIM_T_WARN i) ≠ 0 ∧ d.limitT (CHAN_HARN_LIM_T_WARN i) ≤ d.wireT i ∧ !(d.chan i).warned then
    ((d.modChan i fun c => { c with warned := true }).chanEvt (CHAN_PEVT_HARN_WARN i) (CHAN_PINT_EN_HARN_WARN i)
      i).chanPost i 0x0011 0
  else if d.wireT i ≤ d.limitT (CHAN_HARN_LIM_T_WARN i) - 5 * (kelvin : Int) then
    d.modChan i fun c => { c with warned := false }
  else d

/-- Behind the warning, R292 compares the wire with its limits. -/
theorem Dev.checkHarness_eq (d : Dev) (i : Nat) : d.checkHarness i =
    if d.limitT (CHAN_HARN_LIM_T_MAX i) ≤ d.wireT i ∧ !(d.harnessWarned i).on (CHAN_STS_HARNESS i) then
      if (d.harnessWarned i).out i then (d.harnessWarned i).trip i 2
      else ((d.harnessWarned i).set (CHAN_STS_HARNESS i)).updOut i
    else if (d.harnessWarned i).on (CHAN_STS_HARNESS i) ∧ d.wireT i ≤ d.limitT (CHAN_HARN_LIM_T_RESTART i) then
      (((d.harnessWarned i).clr (CHAN_STS_HARNESS i)).freed i).updOut i
    else d.harnessWarned i := rfl

section Output

variable {i : Nat} {P : Dev → Prop} {d : Dev}

/-- What every element's change keeps, the changes of a whole list keep. -/
theorem Dev.kept_each {α : Type} {f : α → Dev → Dev} {l : List α} (h : ∀ x ∈ l, ∀ {d}, P d → P (f x d)) (hd : P d) :
    P (d.each l f) := by
  induction l generalizing d with
  | nil => exact hd
  | cons x xs ih => exact ih (fun y hy => h y (List.mem_cons_of_mem x hy)) (h x List.mem_cons_self hd)

theorem Dev.KeptByOutput.gates (h : Dev.KeptByOutput i P) (hd : P d) : P (d.gates i) :=
  kept_ite hd (h.chan (fun _ => ⟨rfl, rfl, rfl, rfl⟩) hd)

theorem Dev.KeptByOutput.turnOn (h : Dev.KeptByOutput i P) (edge : Bool) (hd : P d) : P (d.turnOn i edge) := by
  have hon : P (d.set (CHAN_STS_OUT i)) := h.out _ hd
  unfold Dev.turnOn
  exact h.chan (fun _ => ⟨rfl, rfl, rfl, rfl⟩)
    (kept_ite (h.inrush _ (kept_ite (h.oc (h.sc hon)) hon)) (kept_ite (h.oc (h.sc hon)) hon))

theorem Dev.KeptByOutput.turnOff (h : Dev.KeptByOutput i P) (edge : Bool) (hd : P d) : P (d.turnOff i edge) := by
  have hoff : P (d.clr (CHAN_STS_OUT i)) := h.out _ hd
  unfold Dev.turnOff
  exact h.chan (fun _ => ⟨rfl, rfl, rfl, rfl⟩) (kept_ite hoff (h.inrush _ hoff))

theorem Dev.KeptByOutput.updOut (h : Dev.KeptByOutput i P) (edge : Bool) (hd : P d) : P (d.updOut i edge) := by
  unfold Dev.updOut
  exact h.gates (kept_ite (kept_ite (h.turnOn edge hd) (h.turnOff edge hd)) (kept_ite (h.turnOff false hd) hd))

theorem Dev.KeptByRequest.requestedOff (h : Dev.KeptByRequest i P) (hd : P d) : P (d.requestedOff i) := by
  unfold Dev.requestedOff
  exact kept_ite (h.shedLo (h.shed (h.retry hd))) (h.shedHi (h.shed (h.retry hd)))

theorem Dev.KeptByRequest.reqChanged (h : Dev.KeptByRequest i P) (old : Req) (hd : P d) : P (d.reqChanged i old) := by
  have hpwm : ∀ (r : Req) (lvl : Bool),
      P (if r.kind = 2 ∧ (old.kind ≠ 2 ∨ old.cad ≠ r.cad) then d.modChan i fun c => { c.stopPwm with pwmLvl := lvl }
        else if r.kind ≠ 2 ∧ old.kind = 2 then d.modChan i Chan.stopPwm else d) := fun _ _ =>
    kept_ite (h.chan (fun _ => ⟨rfl, rfl, rfl, rfl⟩) hd) (kept_ite (h.chan (fun _ => ⟨rfl, rfl, rfl, rfl⟩) hd) hd)
  have hblock : ∀ {e : Dev} (r : Req), P e → P (if r.kind = 1 then e else e.modChan i fun c => { c with blocking := false }) :=
    fun _ he => kept_ite he (h.chan (fun _ => ⟨rfl, rfl, rfl, rfl⟩) he)
  unfold Dev.reqChanged
  exact h.updOut _ (kept_ite (h.requestedOff (hblock _ (hpwm _ _))) (hblock _ (hpwm _ _)))

theorem Dev.KeptByTrip.chanEvt (h : Dev.KeptByTrip i P) (k : Nat) (en : Fld) (hd : P d) :
    P (d.chanEvt ⟨CHAN_PEVT i, k, k⟩ en i) := h.source en (h.event k _ hd)

theorem Dev.KeptByTrip.chanPost (h : Dev.KeptByTrip i P) (code sev : Nat) (data : List Nat) (hd : P d) :
    P (d.chanPost i code sev data) := h.record _ _ _ _ hd

/-- Behind the bit of its cause, a trip keeps `P`. -/
theorem Dev.KeptByTrip.trip (h : Dev.KeptByTrip i P) (cause : Nat) (data : List Nat)
    (hd : P (d.set ⟨CHAN_STS i, 8 + cause, 8 + cause⟩)) : P (d.trip i cause data) := by
  have hreported := h.chanPost (5 + cause) 1 data (h.count (h.chanEvt cause ⟨CHAN_PINT_EN i, cause, cause⟩ hd))
  unfold Dev.trip
  exact h.updOut false (kept_ite (h.chan (fun _ => ⟨rfl, rfl, rfl, rfl⟩) (h.retry _ (h.retryCnt _ hreported)))
    (h.chanPost _ _ _ (h.chanEvt _ _ (h.retry _ (h.latched hreported)))))

theorem Dev.KeptByTrip.checkJunction (h : Dev.KeptByTrip i P) (hd : P d) : P (d.checkJunction i) := by
  unfold Dev.checkJunction
  exact kept_ite (kept_ite (h.trip 3 _ (h.thermal _ hd)) (h.updOut false (h.thermal _ hd)))
    (kept_ite (h.updOut false (h.chan (fun _ => ⟨rfl, rfl, rfl, rfl⟩) (h.thermal _ hd))) hd)

theorem Dev.KeptByTrip.harnessWarned (h : Dev.KeptByTrip i P) (hd : P d) : P (d.harnessWarned i) := by
  unfold Dev.harnessWarned
  exact kept_ite (h.chanPost _ _ _ (h.chanEvt _ _ (h.chan (fun _ => ⟨rfl, rfl, rfl, rfl⟩) hd)))
    (kept_ite (h.chan (fun _ => ⟨rfl, rfl, rfl, rfl⟩) hd) hd)

theorem Dev.KeptByHarness.checkHarness (h : Dev.KeptByHarness i P) (hd : P d) : P (d.checkHarness i) := by
  have hwarned := h.harnessWarned hd
  rw [Dev.checkHarness_eq]
  exact kept_ite (kept_ite (h.trip 2 [] (h.harness _ hwarned)) (h.updOut false (h.harness _ hwarned)))
    (kept_ite (h.updOut false (h.chan (fun _ => ⟨rfl, rfl, rfl, rfl⟩) (h.harness _ hwarned))) hwarned)

theorem Dev.KeptByModels.modelStep (h : Dev.KeptByModels i P) (hd : P d) : P (d.modelStep i) := by
  unfold Dev.modelStep
  exact h.checkJunction (h.checkHarness (h.modelT _ (h.models _ hd)))

end Output

/-! ### What they keep -/

theorem Dev.chan_modChan_self (d : Dev) (i : Nat) (f : Chan → Chan) : (d.modChan i f).chan i = f (d.chan i) :=
  tget_tset_self ..

theorem Dev.chan_modChan_ne (d : Dev) {i j : Nat} (f : Chan → Chan) (h : i ≠ j) : (d.modChan i f).chan j = d.chan j :=
  tget_tset_ne _ _ _ _ h

theorem Dev.chan_of_chans {d e : Dev} (h : e.chans = d.chans) (i : Nat) : e.chan i = d.chan i := by
  unfold Dev.chan; rw [h]

theorem Dev.chan_put (d : Dev) (f : Fld) (v i : Nat) : (d.put f v).chan i = d.chan i := Dev.chan_of_chans (d.put_chans f v) i

theorem Dev.chan_wr (d : Dev) (a v i : Nat) : (d.wr a v).chan i = d.chan i := Dev.chan_of_chans (d.wr_chans a v) i

theorem Dev.rn_modChan (d : Dev) (i : Nat) (f : Chan → Chan) (b : Nat) : (d.modChan i f).rn b = d.rn b := rfl

theorem Dev.fld_modChan (d : Dev) (i : Nat) (f : Chan → Chan) (g : Fld) : (d.modChan i f).fld g = d.fld g :=
  Dev.fld_of_rn (d.rn_modChan ..)

section Kept

variable {i : Nat}

/-- The models of a channel leave every other channel's state. -/
theorem Dev.keptByModels_chan {j : Nat} (hij : i ≠ j) (c : Chan) : Dev.KeptByModels i fun e => e.chan j = c where
  out _ he := (Dev.chan_put ..).trans he
  inrush _ he := (Dev.chan_put ..).trans he
  sc he := (Dev.chan_put ..).trans he
  oc he := (Dev.chan_put ..).trans he
  chan _ he := (Dev.chan_modChan_ne _ _ hij).trans he
  thermal _ he := (Dev.chan_put ..).trans he
  latched he := (Dev.chan_put ..).trans he
  retry _ he := (Dev.chan_put ..).trans he
  retryCnt _ he := (Dev.chan_put ..).trans he
  event _ _ he := (Dev.chan_put ..).trans he
  source en he := (Dev.chan_of_chans (Dev.raiseIf_chans _ en _) j).trans he
  count he := (Dev.chan_wr ..).trans he
  record _ _ _ _ he := (Dev.chan_of_chans (Dev.post_chans ..) j).trans he
  harness _ he := (Dev.chan_put ..).trans he
  modelT _ he := (Dev.chan_wr ..).trans he
  models _ he := (Dev.chan_modChan_ne _ _ hij).trans he

/-- The models of a channel leave every register but CHAN_STS, CHAN_PEVT, CHAN_TRIP_CNT and CHAN_MODEL_T of the channel and
those that records, interrupts and counted events change. -/
theorem Dev.keptByModels_rn {b : Nat} (hi : i < 40) (hb : calm b) (hsts : CHAN_STS i ≠ b) (hevt : CHAN_PEVT i ≠ b)
    (hcnt : CHAN_TRIP_CNT i ≠ b) (hmodel : CHAN_MODEL_T i ≠ b) (x : Nat) : Dev.KeptByModels i fun e => e.rn b = x where
  out v he := (Dev.rn_put_ne _ _ v hsts).trans he
  inrush v he := (Dev.rn_put_ne _ _ v hsts).trans he
  sc he := (Dev.rn_clr_ne _ _ hsts).trans he
  oc he := (Dev.rn_clr_ne _ _ hsts).trans he
  chan _ he := (Dev.rn_modChan ..).trans he
  thermal v he := (Dev.rn_put_ne _ _ v hsts).trans he
  latched he := (Dev.rn_set_ne _ _ hsts).trans he
  retry v he := (Dev.rn_put_ne _ _ v hsts).trans he
  retryCnt v he := (Dev.rn_put_ne _ _ v hsts).trans he
  event _ v he := (Dev.rn_put_ne _ _ v hevt).trans he
  source en he := (Dev.rn_raiseIf _ en (by omega) hb).trans he
  count he := (Dev.rn_bump_ne _ hcnt).trans he
  record _ _ _ _ he := (Dev.rn_post _ hb).trans he
  harness v he := (Dev.rn_put_ne _ _ v hsts).trans he
  modelT v he := (Dev.rn_wr_ne _ v hmodel).trans he
  models _ he := (Dev.rn_modChan ..).trans he

/-- Trips and the harness limits leave the channel's harness model and the sums of the millisecond. -/
theorem Dev.keptByHarness_theta (th cnt sq : Nat) :
    Dev.KeptByHarness i fun e => (e.chan i).theta = th ∧ (e.chan i).mCnt = cnt ∧ (e.chan i).mSq = sq where
  out _ he := (Dev.chan_put ..).symm ▸ he
  inrush _ he := (Dev.chan_put ..).symm ▸ he
  sc he := (Dev.chan_put ..).symm ▸ he
  oc he := (Dev.chan_put ..).symm ▸ he
  chan {d f} hf he := by
    obtain ⟨hth, -, hcnt, hsq⟩ := hf (d.chan i)
    rw [Dev.chan_modChan_self, hth, hcnt, hsq]; exact he
  thermal _ he := (Dev.chan_put ..).symm ▸ he
  latched he := (Dev.chan_put ..).symm ▸ he
  retry _ he := (Dev.chan_put ..).symm ▸ he
  retryCnt _ he := (Dev.chan_put ..).symm ▸ he
  event _ _ he := (Dev.chan_put ..).symm ▸ he
  source {d} en he := by rw [Dev.chan_of_chans (d.raiseIf_chans en _)]; exact he
  count he := (Dev.chan_wr ..).symm ▸ he
  record {d} _ _ _ _ he := by rw [Dev.chan_of_chans (d.post_chans ..)]; exact he
  harness _ he := (Dev.chan_put ..).symm ▸ he

theorem chanSts_calm (hi : i < 40) : calm (CHAN_STS i) := by
  unfold calm; simp only [CHAN_STS]; omega

theorem chanPevt_ne_chanSts (i j : Nat) : CHAN_PEVT i ≠ CHAN_STS j := by simp only [CHAN_PEVT, CHAN_STS]; omega

theorem chanTripCnt_ne_chanSts (i j : Nat) : CHAN_TRIP_CNT i ≠ CHAN_STS j := by simp only [CHAN_TRIP_CNT, CHAN_STS]; omega

theorem Dev.fld_put_outside (d : Dev) {f g : Fld} (v : Nat) (hf : f.lo ≤ f.hi ∧ f.hi < 32) (hg : g.lo ≤ g.hi)
    (h : f.hi < g.lo ∨ g.hi < f.lo) {x : Nat} (hx : d.fld g = x) : (d.put f v).fld g = x :=
  (d.fld_put_apart f g v hf.1 hf.2 hg h).trans hx

/-- A trip leaves HARNESS, where THERMAL is its cause as well. -/
theorem Dev.keptByTrip_harness (hi : i < 40) (x : Nat) : Dev.KeptByTrip i fun e => e.fld (CHAN_STS_HARNESS i) = x where
  out v he := Dev.fld_put_outside _ v (by decide : 3 ≤ 3 ∧ 3 < 32) (le_refl 10) (by decide : 3 < 10 ∨ 10 < 3) he
  inrush v he := Dev.fld_put_outside _ v (by decide : 7 ≤ 7 ∧ 7 < 32) (le_refl 10) (by decide : 7 < 10 ∨ 10 < 7) he
  sc he := Dev.fld_put_outside _ 0 (by decide : 8 ≤ 8 ∧ 8 < 32) (le_refl 10) (by decide : 8 < 10 ∨ 10 < 8) he
  oc he := Dev.fld_put_outside _ 0 (by decide : 9 ≤ 9 ∧ 9 < 32) (le_refl 10) (by decide : 9 < 10 ∨ 10 < 9) he
  chan _ he := (Dev.fld_modChan ..).trans he
  thermal v he := Dev.fld_put_outside _ v (by decide : 11 ≤ 11 ∧ 11 < 32) (le_refl 10) (by decide : 11 < 10 ∨ 10 < 11) he
  latched he := Dev.fld_put_outside _ _ (by decide : 12 ≤ 12 ∧ 12 < 32) (le_refl 10) (by decide : 12 < 10 ∨ 10 < 12) he
  retry v he := Dev.fld_put_outside _ v (by decide : 13 ≤ 13 ∧ 13 < 32) (le_refl 10) (by decide : 13 < 10 ∨ 10 < 13) he
  retryCnt v he := Dev.fld_put_outside _ v (by decide : 24 ≤ 27 ∧ 27 < 32) (le_refl 10) (by decide : 27 < 10 ∨ 10 < 24) he
  event _ v he := (Dev.fld_put_ne _ _ _ v (chanPevt_ne_chanSts i i)).trans he
  source en he := (Dev.fld_of_rn (Dev.rn_raiseIf _ en (by omega) (chanSts_calm hi))).trans he
  count he := (Dev.fld_of_rn (Dev.rn_bump_ne _ (chanTripCnt_ne_chanSts i i))).trans he
  record _ _ _ _ he := (Dev.fld_of_rn (Dev.rn_post _ (chanSts_calm hi))).trans he

end Kept

/-! ### The millisecond of the models (R290, R292) -/

/-- The temperature rise of the channel's wire once its millisecond is taken (R290). -/
def Dev.nextTheta (d : Dev) (i : Nat) : Nat :=
  relax (d.chan i).theta (d.wireDrive i (if (d.chan i).mCnt = 0 then 0 else (d.chan i).mSq / (d.chan i).mCnt))
    (100 * d.fld (CHAN_HARN_CFG_TAU i))

/-- What the harness model of channel `i` reads: the channel, its HARNESS, limits and wire, and the ambient temperature. -/
structure Dev.SameHarness (i : Nat) (d e : Dev) : Prop where
  chan : e.chan i = d.chan i
  sts : e.rn (CHAN_STS i) = d.rn (CHAN_STS i)
  cfg : e.rn (CHAN_HARN_CFG i) = d.rn (CHAN_HARN_CFG i)
  lim : e.rn (CHAN_HARN_LIM i) = d.rn (CHAN_HARN_LIM i)
  amb : e.rn HPS_AMB_CFG = d.rn HPS_AMB_CFG

section Millisecond

variable {d e : Dev} {i : Nat}

theorem Dev.SameHarness.nextTheta (h : Dev.SameHarness i d e) : e.nextTheta i = d.nextTheta i := by
  have htau : e.fld (CHAN_HARN_CFG_TAU i) = d.fld (CHAN_HARN_CFG_TAU i) := Dev.fld_of_rn h.cfg
  have hwire : e.fld (CHAN_HARN_CFG_WIRE i) = d.fld (CHAN_HARN_CFG_WIRE i) := Dev.fld_of_rn h.cfg
  have hderate : e.fld (CHAN_HARN_CFG_DERATE i) = d.fld (CHAN_HARN_CFG_DERATE i) := Dev.fld_of_rn h.cfg
  unfold Dev.nextTheta Dev.wireDrive
  rw [h.chan, htau, hwire, hderate]

/-- The other channels' models leave what the channel's own reads. -/
theorem Dev.SameHarness.modelStep_ne (h : Dev.SameHarness i d e) (hi : i < 40) {j : Nat} (hj : j < 40) (hji : j ≠ i) :
    Dev.SameHarness i d (e.modelStep j) where
  chan := (Dev.keptByModels_chan hji _).modelStep h.chan
  sts := (Dev.keptByModels_rn hj (chanSts_calm hi) (by simp only [CHAN_STS]; omega)
    (chanPevt_ne_chanSts j i) (chanTripCnt_ne_chanSts j i) (by simp only [CHAN_MODEL_T, CHAN_STS]; omega) _).modelStep h.sts
  cfg := (Dev.keptByModels_rn hj (by unfold calm; simp only [CHAN_HARN_CFG]; omega)
    (by simp only [CHAN_STS, CHAN_HARN_CFG]; omega) (by simp only [CHAN_PEVT, CHAN_HARN_CFG]; omega)
    (by simp only [CHAN_TRIP_CNT, CHAN_HARN_CFG]; omega) (by simp only [CHAN_MODEL_T, CHAN_HARN_CFG]; omega) _).modelStep h.cfg
  lim := (Dev.keptByModels_rn hj (by unfold calm; simp only [CHAN_HARN_LIM]; omega)
    (by simp only [CHAN_STS, CHAN_HARN_LIM]; omega) (by simp only [CHAN_PEVT, CHAN_HARN_LIM]; omega)
    (by simp only [CHAN_TRIP_CNT, CHAN_HARN_LIM]; omega) (by simp only [CHAN_MODEL_T, CHAN_HARN_LIM]; omega) _).modelStep h.lim
  amb := (Dev.keptByModels_rn hj (by decide) (by simp only [CHAN_STS, HPS_AMB_CFG]; omega)
    (by simp only [CHAN_PEVT, HPS_AMB_CFG]; omega) (by simp only [CHAN_TRIP_CNT, HPS_AMB_CFG]; omega)
    (by simp only [CHAN_MODEL_T, HPS_AMB_CFG]; omega) _).modelStep h.amb

/-- The channel with its models relaxed and CHAN_MODEL_T following, before the limits are checked. -/
def Dev.relaxed (d : Dev) (i : Nat) : Dev :=
  let ms := if (d.chan i).mCnt = 0 then 0 else (d.chan i).mSq / (d.chan i).mCnt
  let ph := if i < 24 then 0 else relax (d.chan i).phi (d.juncDrive i ms) (d.fld (CHAN_GDJ_TAU_TAU_MS i))
  (d.modChan i fun c => { c with theta := d.nextTheta i, phi := ph, mCnt := 0, mSq := 0 }).updModelT i

theorem Dev.modelStep_eq (d : Dev) (i : Nat) : d.modelStep i = ((d.relaxed i).checkHarness i).checkJunction i := rfl

theorem Dev.chan_relaxed (d : Dev) (i : Nat) :
    ((d.relaxed i).chan i).theta = d.nextTheta i ∧ ((d.relaxed i).chan i).mCnt = 0 ∧ ((d.relaxed i).chan i).mSq = 0 := by
  unfold Dev.relaxed Dev.updModelT
  dsimp only
  rw [Dev.chan_wr, Dev.chan_modChan_self]
  exact ⟨rfl, rfl, rfl⟩

theorem Dev.rn_relaxed (d : Dev) (i : Nat) {b : Nat} (h : CHAN_MODEL_T i ≠ b) : (d.relaxed i).rn b = d.rn b :=
  (Dev.rn_wr_ne _ _ h).trans (Dev.rn_modChan ..)

/-- The millisecond of a channel leaves its θ relaxed and its sums at 0. -/
theorem Dev.chan_modelStep (d : Dev) (i : Nat) :
    ((d.modelStep i).chan i).theta = d.nextTheta i ∧ ((d.modelStep i).chan i).mCnt = 0 ∧
      ((d.modelStep i).chan i).mSq = 0 := by
  have h := Dev.keptByHarness_theta (i := i) (d.nextTheta i) 0 0
  rw [Dev.modelStep_eq]
  exact h.checkJunction (h.checkHarness (d.chan_relaxed i))

/-- A wire at its limit sets HARNESS, by a trip where the output conducts (R292). -/
theorem Dev.checkHarness_reached (hi : i < 40) (hoff : d.on (CHAN_STS_HARNESS i) = false)
    (hmax : ((d.fld (CHAN_HARN_LIM_T_MAX i) * kelvin : Nat) : Int) ≤ d.wireT i) :
    (d.checkHarness i).on (CHAN_STS_HARNESS i) = true := by
  have hset : ∀ e : Dev, (e.set (CHAN_STS_HARNESS i)).fld (CHAN_STS_HARNESS i) = 1 := fun e =>
    e.fld_set_self (CHAN_STS_HARNESS i) (le_refl 10) (by decide : 10 < 32)
  have hkept := Dev.keptByTrip_harness hi 1
  have hwarned : (d.harnessWarned i).on (CHAN_STS_HARNESS i) = false :=
    (congrArg (· == 1) ((Dev.keptByTrip_harness hi _).harnessWarned rfl)).trans hoff
  rw [Dev.checkHarness_eq, if_pos ⟨hmax, by rw [hwarned]; rfl⟩]
  refine beq_iff_eq.mpr ?_
  split
  · exact hkept.trip 2 [] (hset _)
  · exact hkept.updOut false (hset _)

/-- The millisecond of a channel whose wire comes to its limit leaves HARNESS set. -/
theorem Dev.modelStep_reached (hi : i < 40) (hoff : d.on (CHAN_STS_HARNESS i) = false)
    (hmax : ((d.fld (CHAN_HARN_LIM_T_MAX i) * kelvin : Nat) : Int) ≤ d.tAmb + (d.nextTheta i : Int)) :
    (d.modelStep i).on (CHAN_STS_HARNESS i) = true := by
  have hsts : (d.relaxed i).rn (CHAN_STS i) = d.rn (CHAN_STS i) :=
    d.rn_relaxed i (by simp only [CHAN_MODEL_T, CHAN_STS]; omega)
  have hlim : (d.relaxed i).rn (CHAN_HARN_LIM i) = d.rn (CHAN_HARN_LIM i) :=
    d.rn_relaxed i (by simp only [CHAN_MODEL_T, CHAN_HARN_LIM]; omega)
  have hamb : (d.relaxed i).rn HPS_AMB_CFG = d.rn HPS_AMB_CFG :=
    d.rn_relaxed i (by simp only [CHAN_MODEL_T, HPS_AMB_CFG]; omega)
  have hwire : (d.relaxed i).wireT i = d.tAmb + (d.nextTheta i : Int) := by
    unfold Dev.wireT Dev.tAmb
    rw [(d.chan_relaxed i).1, Dev.fld_of_rn (f := HPS_AMB_CFG_T_AMB) hamb]
  have hreached : ((d.relaxed i).checkHarness i).on (CHAN_STS_HARNESS i) = true := by
    refine Dev.checkHarness_reached hi ((Dev.on_of_rn hsts).trans hoff) ?_
    rw [hwire, Dev.fld_of_rn (f := CHAN_HARN_LIM_T_MAX i) hlim]
    exact hmax
  rw [Dev.modelStep_eq]
  exact beq_iff_eq.mpr ((Dev.keptByTrip_harness hi 1).checkJunction (beq_iff_eq.mp hreached))

end Millisecond

/-- What element `i` of a list leaves holds behind the whole list, where the other elements keep both what `i` reads and
what it leaves. -/
theorem Dev.each_at {α : Type} {f : α → Dev → Dev} {l : List α} {i : α} {V Q : Dev → Prop} {d : Dev} (hnd : l.Nodup)
    (hmem : i ∈ l) (hreads : ∀ j ∈ l, j ≠ i → ∀ {e}, V e → V (f j e)) (hstep : ∀ {e}, V e → Q (f i e))
    (hkeeps : ∀ j ∈ l, j ≠ i → ∀ {e}, Q e → Q (f j e)) (hd : V d) : Q (d.each l f) := by
  induction l generalizing d with
  | nil => exact absurd hmem List.not_mem_nil
  | cons x xs ih =>
    obtain ⟨hx, hxs⟩ := List.nodup_cons.mp hnd
    by_cases hxi : x = i
    · subst hxi
      have hlater : ∀ j ∈ xs, ∀ {e}, Q e → Q (f j e) := fun j hj =>
        hkeeps j (List.mem_cons_of_mem x hj) (by rintro rfl; exact hx hj)
      exact Dev.kept_each (l := xs) hlater (hstep hd)
    · exact ih hxs ((List.mem_cons.mp hmem).resolve_left (Ne.symm hxi))
        (fun j hj => hreads j (List.mem_cons_of_mem x hj)) (fun j hj => hkeeps j (List.mem_cons_of_mem x hj))
        (hreads x List.mem_cons_self hxi hd)

theorem Dev.mem_outputs {d : Dev} {i : Nat} : i ∈ d.outputs ↔ i < 40 ∧ d.isOutput i = true := by
  simp [Dev.outputs]

theorem Dev.outputs_nodup (d : Dev) : d.outputs.Nodup := List.nodup_range.filter _

/-- The millisecond of all outputs, seen from one of them: what its own step leaves and the others keep, holds. -/
theorem Dev.eachModel_at {d : Dev} {i : Nat} {Q : Dev → Prop} (hi : i < 40) (hout : d.isOutput i = true)
    (hstep : ∀ {e}, Dev.SameHarness i d e → Q (e.modelStep i))
    (hkeeps : ∀ {j}, j < 40 → j ≠ i → ∀ {e}, Q e → Q (e.modelStep j)) : Q (d.each d.outputs fun i d => d.modelStep i) :=
  Dev.each_at d.outputs_nodup (Dev.mem_outputs.mpr ⟨hi, hout⟩)
    (fun _ hj hji _ he => he.modelStep_ne hi (Dev.mem_outputs.mp hj).1 hji) hstep
    (fun _ hj hji _ => hkeeps (Dev.mem_outputs.mp hj).1 hji) ⟨rfl, rfl, rfl, rfl, rfl⟩

/-! ### UNLATCH (R298) -/

/-- A clear of a field keeps the value of a field that stands apart from it, and its own value of 0. -/
theorem Dev.fld_clr_kept (d : Dev) {a h l h' l' x : Nat} (hf : l ≤ h ∧ h < 32) (hg : l' ≤ h')
    (hap : (h < l' ∨ h' < l) ∨ (h' = h ∧ l' = l) ∧ x = 0) (hx : d.fld ⟨a, h', l'⟩ = x) :
    (d.clr ⟨a, h, l⟩).fld ⟨a, h', l'⟩ = x := by
  rcases hap with hap | ⟨⟨rfl, rfl⟩, rfl⟩
  · exact d.fld_put_outside 0 hf hg hap hx
  · exact d.fld_clr_self ⟨a, h', l'⟩ hf.1 hf.2

section Request

variable {i hi lo x : Nat} (hf : lo ≤ hi) (hbits : ∀ k ∈ [3, 7, 13, 14], k < lo ∨ hi < k)
  (hclr : ∀ k ∈ [8, 9], (k < lo ∨ hi < k) ∨ (hi = k ∧ lo = k) ∧ x = 0)

include hf hclr in
/-- The output stage leaves a field of CHAN_STS apart from OUT and INRUSH, also SC or OC at 0. -/
theorem Dev.keptByOutput_fld (hout : ∀ k ∈ [3, 7], k < lo ∨ hi < k) :
    Dev.KeptByOutput i fun e => e.fld ⟨CHAN_STS i, hi, lo⟩ = x where
  out v he := Dev.fld_put_outside _ v (by decide : 3 ≤ 3 ∧ 3 < 32) hf (hout 3 (by decide)) he
  inrush v he := Dev.fld_put_outside _ v (by decide : 7 ≤ 7 ∧ 7 < 32) hf (hout 7 (by decide)) he
  sc he := Dev.fld_clr_kept _ (by decide : 8 ≤ 8 ∧ 8 < 32) hf (hclr 8 (by decide)) he
  oc he := Dev.fld_clr_kept _ (by decide : 9 ≤ 9 ∧ 9 < 32) hf (hclr 9 (by decide)) he
  chan _ he := (Dev.fld_modChan ..).trans he

include hf hbits hclr in
/-- A change of the requested state leaves such a field apart from RETRY and SHED. -/
theorem Dev.keptByRequest_fld : Dev.KeptByRequest i fun e => e.fld ⟨CHAN_STS i, hi, lo⟩ = x where
  toKeptByOutput := Dev.keptByOutput_fld hf hclr fun k hk => hbits k (by
    rcases List.mem_pair.mp hk with rfl | rfl <;> decide)
  retry he := Dev.fld_put_outside _ 0 (by decide : 13 ≤ 13 ∧ 13 < 32) hf (hbits 13 (by decide)) he
  shed he := Dev.fld_put_outside _ 0 (by decide : 14 ≤ 14 ∧ 14 < 32) hf (hbits 14 (by decide)) he
  shedLo he := (Dev.fld_clr_ne _ _ _ (by simp only [HPS_SHED_LO, CHAN_STS]; omega)).trans he
  shedHi he := (Dev.fld_clr_ne _ _ _ (by simp only [HPS_SHED_HI, CHAN_STS]; omega)).trans he

end Request

/-- A channel's record leaves its CHAN_STS. -/
theorem Dev.fld_chanPost (d : Dev) {i : Nat} (hi : i < 40) {f : Fld} (hf : f.addr = CHAN_STS i) (code sev : Nat)
    (data : List Nat) : (d.chanPost i code sev data).fld f = d.fld f :=
  Dev.fld_of_rn (Dev.rn_post _ (hf ▸ chanSts_calm hi))

/-- The channel once UNLATCH has cleared what it clears, before the output follows. -/
def Dev.unlatched (d : Dev) (i : Nat) : Dev :=
  ((((d.clr (CHAN_STS_LATCHED i)).clr (CHAN_STS_RETRY_CNT i)).clr (CHAN_STS_SC i)).clr (CHAN_STS_OC i)).clr (CHAN_STS_CMD i)

section Unlatch

variable {d : Dev} {i : Nat}

theorem Dev.unlatch_still (hlatched : d.on (CHAN_STS_LATCHED i) = false) : d.unlatch i = d :=
  if_pos (by rw [hlatched]; rfl)

theorem Dev.unlatch_refused (hlatched : d.on (CHAN_STS_LATCHED i) = true)
    (hhot : d.on (CHAN_STS_HARNESS i) = true ∨ d.on (CHAN_STS_THERMAL i) = true) :
    d.unlatch i = (d.chanEvt (CHAN_PEVT_UNLATCH_REF i) (CHAN_PINT_EN_UNLATCH_REF i) i).chanPost i 0x000C 0 :=
  (if_neg (by rw [hlatched]; decide)).trans (if_pos hhot)

theorem Dev.unlatch_done (hlatched : d.on (CHAN_STS_LATCHED i) = true) (hharness : d.on (CHAN_STS_HARNESS i) = false)
    (hthermal : d.on (CHAN_STS_THERMAL i) = false) :
    d.unlatch i = ((d.unlatched i).reqChanged i (d.requested i)).chanPost i 0x000B 0 :=
  (if_neg (by rw [hlatched]; decide)).trans (if_neg (by rw [hharness, hthermal]; decide))

/-- What the clears of UNLATCH leave at 0: the five fields, each behind the later clears. -/
theorem Dev.fld_unlatched (d : Dev) (i : Nat) : (d.unlatched i).fld (CHAN_STS_LATCHED i) = 0 ∧
    (d.unlatched i).fld (CHAN_STS_RETRY_CNT i) = 0 ∧ (d.unlatched i).fld (CHAN_STS_SC i) = 0 ∧
    (d.unlatched i).fld (CHAN_STS_OC i) = 0 ∧ (d.unlatched i).fld (CHAN_STS_CMD i) = 0 := by
  have hself : ∀ (e : Dev) {h l : Nat}, l ≤ h ∧ h < 32 → (e.clr ⟨CHAN_STS i, h, l⟩).fld ⟨CHAN_STS i, h, l⟩ = 0 :=
    fun e h l hf => e.fld_clr_self ⟨CHAN_STS i, h, l⟩ hf.1 hf.2
  have hretry := (hself (d.clr (CHAN_STS_LATCHED i)) (by decide : 24 ≤ 27 ∧ 27 < 32))
  have hlatched : ((d.clr (CHAN_STS_LATCHED i)).clr (CHAN_STS_RETRY_CNT i)).fld (CHAN_STS_LATCHED i) = 0 :=
    Dev.fld_clr_kept _ (by decide : 24 ≤ 27 ∧ 27 < 32) (le_refl 12) (by decide) (hself d (by decide : 12 ≤ 12 ∧ 12 < 32))
  have hrest : ∀ (e : Dev) {h l : Nat}, l ≤ h → 9 < l → e.fld ⟨CHAN_STS i, h, l⟩ = 0 →
      (((e.clr (CHAN_STS_SC i)).clr (CHAN_STS_OC i)).clr (CHAN_STS_CMD i)).fld ⟨CHAN_STS i, h, l⟩ = 0 :=
    fun e h l hf hl he => Dev.fld_clr_kept _ (by decide : 0 ≤ 2 ∧ 2 < 32) hf (.inl (.inl (by omega)))
      (Dev.fld_clr_kept _ (by decide : 9 ≤ 9 ∧ 9 < 32) hf (.inl (.inl (by omega)))
        (Dev.fld_clr_kept _ (by decide : 8 ≤ 8 ∧ 8 < 32) hf (.inl (.inl (by omega))) he))
  refine ⟨hrest _ (le_refl 12) (by decide) hlatched, hrest _ (by decide : 24 ≤ 27) (by decide) hretry, ?_, ?_, ?_⟩
  · exact Dev.fld_clr_kept _ (by decide : 0 ≤ 2 ∧ 2 < 32) (le_refl 8) (by decide)
      (Dev.fld_clr_kept _ (by decide : 9 ≤ 9 ∧ 9 < 32) (le_refl 8) (by decide) (hself _ (by decide : 8 ≤ 8 ∧ 8 < 32)))
  · exact Dev.fld_clr_kept _ (by decide : 0 ≤ 2 ∧ 2 < 32) (le_refl 9) (by decide) (hself _ (by decide : 9 ≤ 9 ∧ 9 < 32))
  · exact hself _ (by decide : 0 ≤ 2 ∧ 2 < 32)

/-- Behind the change of the requested state and the record, what UNLATCH clears is clear. -/
theorem Dev.fld_unlatch_done {h l : Nat} (hi : i < 40) (hf : l ≤ h) (hbits : ∀ k ∈ [3, 7, 13, 14], k < l ∨ h < k)
    (hclr : ∀ k ∈ [8, 9], (k < l ∨ h < k) ∨ (h = k ∧ l = k) ∧ 0 = 0)
    (h0 : (d.unlatched i).fld ⟨CHAN_STS i, h, l⟩ = 0) (old : Req) :
    (((d.unlatched i).reqChanged i old).chanPost i 0x000B 0).fld ⟨CHAN_STS i, h, l⟩ = 0 :=
  (Dev.fld_chanPost _ hi rfl ..).trans ((Dev.keptByRequest_fld hf hbits hclr).reqChanged old h0)

end Unlatch

/-- Settles O45. -/
theorem unlatchIsTheWayOutOfLatched : Obligations.UnlatchIsTheWayOutOfLatched := by
  unfold Obligations.UnlatchIsTheWayOutOfLatched
  intro s dt i a d hi hmay
  refine ⟨_, (exec_unlatch ..).trans (State.onDevM_next (decide_eq_true hi) (Dev.regWrite_pass hmay)),
    State.sameMem_becomes .., ?_, ?_, ?_⟩
  · intro hlatched
    exact Dev.unlatch_still hlatched
  · intro hlatched hhot
    have hevt : calm (CHAN_PEVT i) := by unfold calm; simp only [CHAN_PEVT]; omega
    dsimp only [State.becomes]
    rw [Dev.unlatch_refused hlatched hhot]
    refine ⟨?_, ?_, ?_⟩
    · exact (Dev.rn_post _ (chanSts_calm hi)).trans ((Dev.rn_raiseIf _ _ (by omega) (chanSts_calm hi)).trans
        (Dev.rn_set_ne _ _ (chanPevt_ne_chanSts i i)))
    · exact (Dev.on_of_rn ((Dev.rn_post _ hevt).trans (Dev.rn_raiseIf _ _ (by omega) hevt))).trans
        (Dev.on_set _ (CHAN_PEVT_UNLATCH_REF i) rfl (Nat.lt_of_sub_eq_succ rfl))
    · exact (Dev.post_chans ..).trans (Dev.raiseIf_chans ..)
  · intro hlatched hharness hthermal
    obtain ⟨h0latched, h0retry, h0sc, h0oc, h0cmd⟩ := d.fld_unlatched i
    dsimp only [State.becomes]
    rw [Dev.unlatch_done hlatched hharness hthermal]
    have hone : ∀ {e : Dev} {f : Fld}, e.fld f = 0 → e.on f = false := fun h => by unfold Dev.on; rw [h]; rfl
    refine ⟨hone ?_, ?_, hone ?_, hone ?_, ?_⟩
    · exact Dev.fld_unlatch_done hi (le_refl 12) (by decide) (by decide) h0latched _
    · exact Dev.fld_unlatch_done hi (by decide : 24 ≤ 27) (by decide) (by decide) h0retry _
    · exact Dev.fld_unlatch_done hi (le_refl 8) (by decide) (by decide) h0sc _
    · exact Dev.fld_unlatch_done hi (le_refl 9) (by decide) (by decide) h0oc _
    · exact Dev.fld_unlatch_done hi (by decide : 0 ≤ 2) (by decide) (by decide) h0cmd _

/-! ### The budgeter's millisecond (R305–R307) -/

section Budget

variable (d : Dev) (logic : Nat)

/-- The state once the budgeter has its estimates in the registers and its events reported, before it sheds. -/
def Dev.budgetNoted : Dev :=
  let est := d.estimates logic
  let high := reached est d.shedThr
  let d := d.budRegs logic est
  let d := d.each (List.range 40) (fun i d => d.modChan i fun c => { c with bCnt := 0, bSum := 0, bSq := 0 })
  let d := d.put HPS_BUD_STS_OVER (b2n (high ≠ []))
  let d := d.each (high.filter (fun k => !d.hv.budOver.contains k)) (fun k d => d.post 0x53 0x0001 0 8 k)
  let below := (List.range 5).all (fun k => est.getD k 0 < d.relThr.getD k 0)
  let was := d.hv.budBelow
  let d := if below ∧ !was then d.post 0x53 0x0003 0 8 0 else d
  let d : Dev := { d with hv := { d.hv with
    budOver := high, budBelow := below, budRelMs := if below ∧ was then d.hv.budRelMs + 1 else 0 } }
  d.exhausted high

/-- Of several estimates at their thresholds the first that has a candidate names the candidates (log entry 95). -/
theorem Dev.budget_eq : d.budget logic =
    match (reached (d.estimates logic) d.shedThr).find? (fun k => !((d.budgetNoted logic).shedCands k).isEmpty) with
    | none => d.budgetNoted logic
    | some k =>
      match (d.budgetNoted logic).shedPick ((d.budgetNoted logic).shedCands k) with
      | some i => (d.budgetNoted logic).shed i
      | none => d.budgetNoted logic := rfl

/-- A register behind the budgeter's records and the report of exhausted estimates. -/
theorem Dev.rn_exhausted (high : List Nat) {b : Nat} (hb : calm b) (hsts : HPS_BUD_STS ≠ b) :
    (d.exhausted high).rn b = d.rn b :=
  Dev.each_keeps (·.rn b) _ (fun _ _ => (Dev.rn_post _ hb).trans ((Dev.rn_raiseIf _ _ (by decide) hb).trans
    (Dev.rn_set_ne _ _ hsts))) _ _

theorem Dev.over_exhausted (high : List Nat) : (d.exhausted high).fld HPS_BUD_STS_OVER = d.fld HPS_BUD_STS_OVER :=
  Dev.each_keeps (·.fld HPS_BUD_STS_OVER) _ (fun _ _ => (Dev.fld_of_rn ((Dev.rn_post _ (by decide)).trans
    (Dev.rn_raiseIf _ _ (by decide) (by decide)))).trans
      (Dev.fld_set_apart _ HPS_BUD_STS_EXHAUSTED HPS_BUD_STS_OVER (by decide) (by decide) (by decide) (by decide))) _ _

/-- The sums of the millisecond start anew in every channel. -/
def Dev.sumsAnew : Dev :=
  d.each (List.range 40) (fun i d => d.modChan i fun c => { c with bCnt := 0, bSum := 0, bSq := 0 })

theorem Dev.rn_sumsAnew (b : Nat) : d.sumsAnew.rn b = d.rn b :=
  Dev.each_keeps (·.rn b) _ (fun i d => d.rn_modChan i _ b) _ _

/-- What the registers of R305, OVER and the new sums leave, and only records and `hv` change before estimates without a
candidate are reported. -/
theorem Dev.rn_budgetNoted_eq {b : Nat} (hb : calm b) (hsts : HPS_BUD_STS ≠ b) : (d.budgetNoted logic).rn b =
    ((d.budRegs logic (d.estimates logic)).sumsAnew.put HPS_BUD_STS_OVER
      (b2n (reached (d.estimates logic) d.shedThr ≠ []))).rn b := by
  unfold Dev.budgetNoted
  refine (Dev.rn_exhausted _ _ hb hsts).trans ?_
  refine kept_ite (Q := fun e : Dev => e.rn b = _) ((Dev.rn_post _ hb).trans ?_) ?_
  all_goals exact Dev.each_keeps (·.rn b) _ (fun _ _ => Dev.rn_post _ hb) _ _

theorem Dev.rn_budgetNoted {b : Nat} (hb : calm b) (hsts : HPS_BUD_STS ≠ b) :
    (d.budgetNoted logic).rn b = (d.budRegs logic (d.estimates logic)).rn b :=
  (d.rn_budgetNoted_eq logic hb hsts).trans ((Dev.rn_put_ne _ _ _ hsts).trans (Dev.rn_sumsAnew ..))

theorem Dev.over_budgetNoted :
    (d.budgetNoted logic).on HPS_BUD_STS_OVER = decide (reached (d.estimates logic) d.shedThr ≠ []) := by
  have hover : (d.budgetNoted logic).fld HPS_BUD_STS_OVER = b2n (reached (d.estimates logic) d.shedThr ≠ []) := by
    unfold Dev.budgetNoted
    refine (Dev.over_exhausted _ _).trans ?_
    have hput : ∀ (e : Dev) (c : Bool), (e.put HPS_BUD_STS_OVER (b2n c)).fld HPS_BUD_STS_OVER = b2n c := by
      intro e c
      refine (e.fld_put_self HPS_BUD_STS_OVER _ (by decide) (by decide)).trans ?_
      cases c <;> rfl
    have hpost : ∀ (e : Dev) (block code sev owner inst : Nat),
        (e.post block code sev owner inst).fld HPS_BUD_STS_OVER = e.fld HPS_BUD_STS_OVER := fun e _ _ _ _ _ =>
      Dev.fld_of_rn (e.rn_post (by decide))
    refine kept_ite (Q := fun e : Dev => e.fld HPS_BUD_STS_OVER = _) ((hpost ..).trans ?_) ?_
    all_goals exact (Dev.each_keeps (·.fld HPS_BUD_STS_OVER) _ (fun _ _ => hpost ..) _ _).trans (hput ..)
  unfold Dev.on
  rw [hover]
  cases decide (reached (d.estimates logic) d.shedThr ≠ []) <;> rfl

theorem Dev.rn_budRegs_ne {b : Nat} (est : List Nat) (hp : HPS_BUD_P ≠ b) (hi : HPS_BUD_I ≠ b) (hg : HPS_GRP_I ≠ b) :
    (d.budRegs logic est).rn b = d.rn b :=
  (Dev.rn_wr_ne _ _ hg).trans ((Dev.rn_wr_ne _ _ hi).trans (Dev.rn_wr_ne _ _ hp))

/-- The registers of R305 hold the estimates, each up to what its field holds. -/
theorem Dev.rn_budRegs (est : List Nat) :
    (d.budRegs logic est).rn HPS_BUD_P = min (est.getD 0 0) 65535 + 65536 * min logic 65535 ∧
    (d.budRegs logic est).rn HPS_BUD_I = min (est.getD 1 0) 4095 ∧
    (d.budRegs logic est).rn HPS_GRP_I =
      min (est.getD 2 0) 1023 + 1024 * min (est.getD 3 0) 1023 + 1048576 * min (est.getD 4 0) 1023 := by
  unfold Dev.budRegs
  dsimp only
  refine ⟨?_, ?_, ?_⟩
  · rw [Dev.rn_wr_ne _ _ (by decide), Dev.rn_wr_ne _ _ (by decide), Dev.rn_wr_self]; omega
  · rw [Dev.rn_wr_ne _ _ (by decide), Dev.rn_wr_self]; omega
  · rw [Dev.rn_wr_self]; omega

/-- The budgeter's reports leave the registers of the channels. -/
theorem Dev.rn_budgetNoted_window {b : Nat} (hb : b / 0x10000 = 0x4081) : (d.budgetNoted logic).rn b = d.rn b :=
  (d.rn_budgetNoted logic (by unfold calm; omega) (by simp only [HPS_BUD_STS]; omega)).trans
    (d.rn_budRegs_ne logic _ (by simp only [HPS_BUD_P]; omega) (by simp only [HPS_BUD_I]; omega)
      (by simp only [HPS_GRP_I]; omega))

end Budget

/-! ### Whom the budgeter sheds (R306) -/

section Candidates

variable {d e : Dev} (h : ∀ b, b / 0x10000 = 0x4081 → e.rn b = d.rn b)

include h

theorem Dev.isOutput_of_window {i : Nat} (hi : i < 40) : e.isOutput i = d.isOutput i := by
  have hcfg : e.rn (CHAN_CFG i) = d.rn (CHAN_CFG i) := h _ (by simp only [CHAN_CFG]; omega)
  have hpair : e.rn (CHAN_GD_CFG (i - 1)) = d.rn (CHAN_GD_CFG (i - 1)) := h _ (by simp only [CHAN_GD_CFG]; omega)
  unfold Dev.isOutput Dev.pairOdd
  rw [Dev.fld_of_rn (f := CHAN_CFG_MODE i) hcfg, Dev.fld_of_rn (f := CHAN_CFG_OWNER i) hcfg,
    Dev.on_of_rn (f := CHAN_GD_CFG_PAIR (i - 1)) hpair]

/-- The candidates under an estimate hang on the registers of the channels alone. -/
theorem Dev.shedCands_of_window (k : Nat) : e.shedCands k = d.shedCands k := by
  unfold Dev.shedCands
  refine List.filter_congr fun i hi => ?_
  have h40 : i < 40 := by
    split at hi <;> simp only [List.mem_map, List.mem_range] at hi <;> omega
  have hsts : e.rn (CHAN_STS i) = d.rn (CHAN_STS i) := h _ (by simp only [CHAN_STS]; omega)
  have hprio : e.rn (CHAN_SHED_CFG i) = d.rn (CHAN_SHED_CFG i) := h _ (by simp only [CHAN_SHED_CFG]; omega)
  unfold Dev.out
  rw [Dev.isOutput_of_window h h40, Dev.on_of_rn (f := CHAN_STS_OUT i) hsts, Dev.on_of_rn (f := CHAN_STS_LATCHED i) hsts,
    Dev.on_of_rn (f := CHAN_STS_SHED i) hsts, Dev.fld_of_rn (f := CHAN_SHED_CFG_SHED_PRIO i) hprio]

omit h in
theorem Dev.mem_shedCands {k i : Nat} (hi : i ∈ d.shedCands k) : i < 40 := by
  have hgroup := (List.mem_filter.mp hi).1
  split at hgroup <;> simp only [List.mem_map, List.mem_range] at hgroup <;> omega

/-- One step of the choice among candidates, by the lowest SHED_PRIO. -/
def Dev.shedBetter (d : Dev) (b : Option Nat) (i : Nat) : Option Nat :=
  match b with
  | none => some i
  | some j => if d.fld (CHAN_SHED_CFG_SHED_PRIO i) ≤ d.fld (CHAN_SHED_CFG_SHED_PRIO j) then some i else some j

omit h in
theorem Dev.shedPick_eq (l : List Nat) : d.shedPick l = l.foldl d.shedBetter none := rfl

omit h in
theorem Dev.mem_shedBetter {l : List Nat} {b : Option Nat} {i j : Nat} (hb : ∀ k ∈ b, k ∈ l) (hi : i ∈ l)
    (hj : j ∈ d.shedBetter b i) : j ∈ l := by
  unfold Dev.shedBetter at hj
  split at hj
  · simp_all
  · split at hj <;> simp_all

omit h in
theorem Dev.mem_foldl_shedBetter {l m : List Nat} {b : Option Nat} {i : Nat} (hl : ∀ k ∈ l, k ∈ m)
    (hb : ∀ k ∈ b, k ∈ m) (hi : l.foldl d.shedBetter b = some i) : i ∈ m := by
  induction l generalizing b with
  | nil => exact hb i hi
  | cons x xs ih =>
    exact ih (fun k hk => hl k (List.mem_cons_of_mem x hk)) (fun k hk => Dev.mem_shedBetter hb (hl x List.mem_cons_self) hk) hi

omit h in
theorem Dev.mem_of_shedPick {l : List Nat} {i : Nat} (hi : d.shedPick l = some i) : i ∈ l :=
  Dev.mem_foldl_shedBetter (fun _ hk => hk) (by simp) hi

/-- The choice among channels hangs on their registers alone. -/
theorem Dev.foldl_shedBetter_of_window {l : List Nat} {b : Option Nat} (hl : ∀ i ∈ l, i ∈ List.range 40)
    (hb : ∀ i ∈ b, i ∈ List.range 40) : l.foldl e.shedBetter b = l.foldl d.shedBetter b := by
  have hprio : ∀ i ∈ List.range 40, e.fld (CHAN_SHED_CFG_SHED_PRIO i) = d.fld (CHAN_SHED_CFG_SHED_PRIO i) := by
    intro i hi
    have h40 := List.mem_range.mp hi
    exact Dev.fld_of_rn (h _ (by simp only [CHAN_SHED_CFG_SHED_PRIO, CHAN_SHED_CFG]; omega))
  induction l generalizing b with
  | nil => rfl
  | cons x xs ih =>
    have hx := hl x List.mem_cons_self
    have hstep : e.shedBetter b x = d.shedBetter b x := by
      unfold Dev.shedBetter
      split
      · rfl
      next j => rw [hprio x hx, hprio j (hb j rfl)]
    rw [List.foldl_cons, List.foldl_cons, hstep]
    exact ih (fun i hi => hl i (List.mem_cons_of_mem x hi)) fun i hi => Dev.mem_shedBetter hb hx hi

theorem Dev.shedPick_of_window {k : Nat} : e.shedPick (d.shedCands k) = d.shedPick (d.shedCands k) :=
  Dev.foldl_shedBetter_of_window h (fun _ hi => List.mem_range.mpr (Dev.mem_shedCands hi)) (by simp)

end Candidates

/-- Behind the budgeter's reports the candidates and the pick among them are those of before. -/
theorem Dev.budget_sheds {d : Dev} {logic k i : Nat}
    (hk : (reached (d.estimates logic) d.shedThr).find? (fun k => !(d.shedCands k).isEmpty) = some k)
    (hi : d.shedPick (d.shedCands k) = some i) : d.budget logic = (d.budgetNoted logic).shed i := by
  have hwin : ∀ b, b / 0x10000 = 0x4081 → (d.budgetNoted logic).rn b = d.rn b := fun _ hb => d.rn_budgetNoted_window logic hb
  have hcands : (d.budgetNoted logic).shedCands = d.shedCands := funext (Dev.shedCands_of_window hwin)
  rw [Dev.budget_eq, hcands, hk]
  dsimp only
  rw [Dev.shedPick_of_window hwin, hi]

/-- With no threshold reached nobody is shed. -/
theorem Dev.budget_below {d : Dev} {logic : Nat} (h : reached (d.estimates logic) d.shedThr = []) :
    d.budget logic = d.budgetNoted logic := by
  rw [Dev.budget_eq, h]
  rfl

/-! ### The channel that is shed (R306) -/

theorem Dev.rn_put_congr {d e : Dev} {f : Fld} (v : Nat) (h : d.rn f.addr = e.rn f.addr) :
    (d.put f v).rn f.addr = (e.put f v).rn f.addr := by
  unfold Dev.put
  rw [Dev.rn_wr_self, Dev.rn_wr_self, h]

section Shed

variable (d : Dev) {i : Nat} (hi : i < 40)

theorem shedFld_addr (i : Nat) : (shedFld i).addr = HPS_SHED_LO ∨ (shedFld i).addr = HPS_SHED_HI := by
  unfold shedFld
  split
  · exact .inl rfl
  · exact .inr rfl

theorem shedFld_bit (hi : i < 40) : (shedFld i).lo = (shedFld i).hi ∧ (shedFld i).hi < 32 := by
  unfold shedFld
  split
  · exact ⟨rfl, by assumption⟩
  · exact ⟨rfl, by dsimp only; omega⟩

/-- A channel that is shed, before its output follows. -/
def Dev.shedNoted (d : Dev) (i : Nat) : Dev :=
  (((((d.set (CHAN_STS_SHED i)).set (shedFld i)).chanEvt (CHAN_PEVT_SHED i) (CHAN_PINT_EN_SHED i) i).chanPost i 0x0012 0).set
    HPS_BUD_STS_SHED).raiseIf HPS_INT_EN_BUD 296

theorem Dev.shed_eq (d : Dev) (i : Nat) : d.shed i = (d.shedNoted i).updOut i := rfl

include hi

/-- The record and the sources of a channel that is shed leave what it has noted of it. -/
theorem Dev.rn_shedNoted {b : Nat} (hb : calm b) (hevt : CHAN_PEVT i ≠ b) (hsts : HPS_BUD_STS ≠ b) :
    (d.shedNoted i).rn b = ((d.set (CHAN_STS_SHED i)).set (shedFld i)).rn b :=
  (Dev.rn_raiseIf _ _ (by decide) hb).trans ((Dev.rn_set_ne _ _ hsts).trans ((Dev.rn_post _ hb).trans
    ((Dev.rn_raiseIf _ _ (by omega) hb).trans (Dev.rn_set_ne _ _ hevt))))

/-- The output that follows leaves every register but CHAN_STS. -/
theorem Dev.rn_shed {b : Nat} (hb : calm b) (hsts : CHAN_STS i ≠ b) (hevt : CHAN_PEVT i ≠ b) (hcnt : CHAN_TRIP_CNT i ≠ b)
    (hmodel : CHAN_MODEL_T i ≠ b) : (d.shed i).rn b = (d.shedNoted i).rn b :=
  (Dev.keptByModels_rn hi hb hsts hevt hcnt hmodel _).updOut false rfl

theorem Dev.on_shed : (d.shed i).on (CHAN_STS_SHED i) = true := by
  have hnoted : (d.shedNoted i).rn (CHAN_STS i) = (d.set (CHAN_STS_SHED i)).rn (CHAN_STS i) :=
    (d.rn_shedNoted hi (chanSts_calm hi) (chanPevt_ne_chanSts i i) (by simp only [HPS_BUD_STS, CHAN_STS]; omega)).trans
      (Dev.rn_set_ne _ _ (by rcases shedFld_addr i with h | h <;> rw [h] <;> simp only [HPS_SHED_LO, HPS_SHED_HI, CHAN_STS] <;> omega))
  have hset : (d.shedNoted i).fld (CHAN_STS_SHED i) = 1 :=
    (Dev.fld_of_rn (f := CHAN_STS_SHED i) hnoted).trans (d.fld_set_self (CHAN_STS_SHED i) (le_refl 14) (by decide : 14 < 32))
  exact beq_iff_eq.mpr ((Dev.keptByOutput_fld (le_refl 14) (by decide) (by decide)).updOut false hset)

theorem Dev.on_shed_shedFld : (d.shed i).on (shedFld i) = true := by
  obtain ⟨hbit, hlt⟩ := shedFld_bit hi
  have hrn : (d.shed i).rn (shedFld i).addr = ((d.set (CHAN_STS_SHED i)).set (shedFld i)).rn (shedFld i).addr := by
    rcases shedFld_addr i with h | h <;> rw [h]
    all_goals
      exact (d.rn_shed hi (by decide) (by simp only [CHAN_STS, HPS_SHED_LO, HPS_SHED_HI]; omega)
        (by simp only [CHAN_PEVT, HPS_SHED_LO, HPS_SHED_HI]; omega) (by simp only [CHAN_TRIP_CNT, HPS_SHED_LO, HPS_SHED_HI]; omega)
        (by simp only [CHAN_MODEL_T, HPS_SHED_LO, HPS_SHED_HI]; omega)).trans
        (d.rn_shedNoted hi (by decide) (by simp only [CHAN_PEVT, HPS_SHED_LO, HPS_SHED_HI]; omega) (by decide))
  exact (Dev.on_of_rn hrn).trans (Dev.on_set _ _ hbit hlt)

/-- A channel that is shed shows in HPS_BUD_STS.SHED, and nothing else of the register changes. -/
theorem Dev.rn_shed_budSts : (d.shed i).rn HPS_BUD_STS = (d.set HPS_BUD_STS_SHED).rn HPS_BUD_STS := by
  have hbefore : ((((d.set (CHAN_STS_SHED i)).set (shedFld i)).chanEvt (CHAN_PEVT_SHED i) (CHAN_PINT_EN_SHED i) i).chanPost i
      0x0012 0).rn HPS_BUD_STS = d.rn HPS_BUD_STS := by
    refine (Dev.rn_post _ (by decide)).trans ((Dev.rn_raiseIf _ _ (by omega) (by decide)).trans ?_)
    rw [Dev.rn_set_ne _ _ (by simp only [CHAN_PEVT_SHED, CHAN_PEVT, HPS_BUD_STS]; omega),
      Dev.rn_set_ne _ _ (by rcases shedFld_addr i with h | h <;> rw [h] <;> decide),
      Dev.rn_set_ne _ _ (by simp only [CHAN_STS_SHED, CHAN_STS, HPS_BUD_STS]; omega)]
  refine (d.rn_shed hi (by decide) (by simp only [CHAN_STS, HPS_BUD_STS]; omega) (by simp only [CHAN_PEVT, HPS_BUD_STS]; omega)
    (by simp only [CHAN_TRIP_CNT, HPS_BUD_STS]; omega) (by simp only [CHAN_MODEL_T, HPS_BUD_STS]; omega)).trans ?_
  refine (Dev.rn_raiseIf _ _ (by decide) (by decide)).trans ?_
  exact Dev.rn_put_congr (f := HPS_BUD_STS_SHED) _ hbefore

theorem Dev.on_shed_budSts : (d.shed i).on HPS_BUD_STS_SHED = true :=
  (Dev.on_of_rn (d.rn_shed_budSts hi)).trans (d.on_set HPS_BUD_STS_SHED rfl (by decide))

theorem Dev.over_shed : (d.shed i).on HPS_BUD_STS_OVER = d.on HPS_BUD_STS_OVER :=
  (Dev.on_of_rn (d.rn_shed_budSts hi)).trans (congrArg (· == 1)
    (d.fld_set_apart HPS_BUD_STS_SHED HPS_BUD_STS_OVER (by decide) (by decide) (by decide) (by decide)))

/-- Shedding leaves the estimates in their registers. -/
theorem Dev.rn_shed_estimate {b : Nat} (hb : b = HPS_BUD_P ∨ b = HPS_BUD_I ∨ b = HPS_GRP_I) : (d.shed i).rn b = d.rn b := by
  have hrange : 0x40830010 ≤ b ∧ b ≤ 0x40830018 := by
    rcases hb with rfl | rfl | rfl <;> decide
  have hcalm : calm b := by unfold calm; omega
  refine (d.rn_shed hi hcalm (by simp only [CHAN_STS]; omega) (by simp only [CHAN_PEVT]; omega)
    (by simp only [CHAN_TRIP_CNT]; omega) (by simp only [CHAN_MODEL_T]; omega)).trans ?_
  refine (d.rn_shedNoted hi hcalm (by simp only [CHAN_PEVT]; omega) (by simp only [HPS_BUD_STS]; omega)).trans ?_
  rw [Dev.rn_set_ne _ _ (by rcases shedFld_addr i with h | h <;> rw [h] <;> simp only [HPS_SHED_LO, HPS_SHED_HI] <;> omega),
    Dev.rn_set_ne _ _ (by simp only [CHAN_STS_SHED, CHAN_STS]; omega)]

end Shed

/-- Whether it sheds or not, the budgeter leaves its registers as it noted them. -/
theorem Dev.budget_noted (d : Dev) (logic : Nat) {P : Dev → Prop} (h : P (d.budgetNoted logic))
    (hshed : ∀ i, i < 40 → P ((d.budgetNoted logic).shed i)) : P (d.budget logic) := by
  rw [Dev.budget_eq]
  split
  · exact h
  next k _ =>
    split
    next i hi => exact hshed i (Dev.mem_shedCands (Dev.mem_of_shedPick hi))
    · exact h

theorem Dev.rn_budget (d : Dev) (logic : Nat) {b : Nat} (hb : b = HPS_BUD_P ∨ b = HPS_BUD_I ∨ b = HPS_GRP_I) :
    (d.budget logic).rn b = (d.budRegs logic (d.estimates logic)).rn b := by
  have hnoted : (d.budgetNoted logic).rn b = (d.budRegs logic (d.estimates logic)).rn b := by
    rcases hb with rfl | rfl | rfl <;> exact d.rn_budgetNoted logic (by decide) (by decide)
  exact d.budget_noted logic (P := fun e => e.rn b = _) hnoted fun i hi => (Dev.rn_shed_estimate _ hi hb).trans hnoted

theorem Dev.over_budget (d : Dev) (logic : Nat) :
    (d.budget logic).on HPS_BUD_STS_OVER = decide (reached (d.estimates logic) d.shedThr ≠ []) :=
  d.budget_noted logic (P := fun e => e.on HPS_BUD_STS_OVER = _) (d.over_budgetNoted logic) fun _ hi =>
    (Dev.over_shed _ hi).trans (d.over_budgetNoted logic)

/-! ### The commands -/

/-- Every row of the budgeter while the Heavia die runs. -/
theorem completes_budgeterUpdate {s : State} {dt logic : Nat} {P : State → Prop} (hruns : (s.now dt).hvRuns = true)
    (h : P (s.becomes ((s.now dt).budget logic))) : Completes (.budgeterUpdate dt logic) s P :=
  ⟨_, (exec_budgeterUpdate ..).trans (State.onDev_next rfl (if_pos hruns)), h⟩

/-- Settles O22, row by row; the order in which estimates name the candidates, which of them goes first, the rounding of
the models and the cycle that a restart waits for are the model's choices (log entries 95, 35, 13 and 112). -/
theorem protectionCommandsTakeEffect : Obligations.ProtectionCommandsTakeEffect := by
  unfold Obligations.ProtectionCommandsTakeEffect
  refine ⟨?trip, ?unblock, ?models, ?theta, ?harness, ?restart, ?good, ?unlatch, ?unlatchRefused, ?test, ?testEnd, ?budget,
    ?estimates, ?below, ?shed, ?release, ?retain⟩
  case trip =>
    intro s dt i seen d hi hout hon hcrossed
    exact (exec_shortCircuitTrip ..).trans (State.onDev_next (decide_eq_true hi) (if_pos ⟨hout, hon, hcrossed⟩))
  case unblock =>
    intro s dt i d hi hblocking hfwd
    exact (exec_reverseBlockEnd ..).trans (State.onDev_next (decide_eq_true hi) (if_pos ⟨hblocking, hfwd⟩))
  case models =>
    intro s dt d
    exact (exec_modelUpdate ..).trans (State.onDev_next rfl rfl)
  case theta =>
    intro s dt i d ms th hi hout
    have hth := Dev.eachModel_at (Q := fun e => (e.chan i).theta = d.nextTheta i ∧ (e.chan i).mCnt = 0 ∧ (e.chan i).mSq = 0)
      hi hout (fun {e} he => he.nextTheta ▸ e.chan_modelStep i)
      fun {j} _ hji {e} he => ((Dev.keptByModels_chan hji (e.chan i)).modelStep rfl).symm ▸ he
    obtain ⟨htheta, hcnt, hsq⟩ := hth
    exact ⟨_, (exec_modelUpdate ..).trans (State.onDev_next rfl rfl), htheta, hcnt, hsq, State.sameMem_becomes ..⟩
  case harness =>
    intro s dt i d ms th hi hout hoff hmax
    refine ⟨_, (exec_modelUpdate ..).trans (State.onDev_next rfl rfl), ?_, State.sameMem_becomes ..⟩
    refine Dev.eachModel_at (Q := fun e => e.on (CHAN_STS_HARNESS i) = true) hi hout (fun {e} he => ?_) fun {j} hj hji {e} he => ?_
    · refine Dev.modelStep_reached hi ((Dev.on_of_rn he.sts).trans hoff) ?_
      rw [he.nextTheta, Dev.fld_of_rn (f := CHAN_HARN_LIM_T_MAX i) he.lim, Dev.tAmb,
        Dev.fld_of_rn (f := HPS_AMB_CFG_T_AMB) he.amb]
      exact hmax
    · have hsts := (Dev.keptByModels_rn hj (chanSts_calm hi) (by simp only [CHAN_STS]; omega) (chanPevt_ne_chanSts j i)
        (chanTripCnt_ne_chanSts j i) (by simp only [CHAN_MODEL_T, CHAN_STS]; omega) (e.rn (CHAN_STS i))).modelStep rfl
      exact (Dev.on_of_rn hsts).trans he
  case restart =>
    intro s dt i d hi hretry hdelay hfreed hlatched hshed hharness hthermal hkind
    exact (exec_retryRestart ..).trans (State.onDev_next (decide_eq_true hi) (if_pos
      ⟨hretry, hdelay, hfreed, by simp [d, hlatched], by simp [d, hshed], by simp [d, hharness], by simp [d, hthermal], hkind⟩))
  case good =>
    intro s dt i d hi henv hheld hlong
    exact (exec_retryCountClear ..).trans (State.onDev_next (decide_eq_true hi) (if_pos ⟨henv, by simp [d, hheld], hlong⟩))
  case unlatch =>
    intro s dt i a d hi hmay hlatched hharness hthermal
    exact (exec_unlatch ..).trans (State.onDevM_next (decide_eq_true hi)
      ((Dev.regWrite_pass hmay).trans (Dev.unlatch_done hlatched hharness hthermal)))
  case unlatchRefused =>
    intro s dt i a d hi hmay hlatched hhot
    exact (exec_unlatch ..).trans (State.onDevM_next (decide_eq_true hi)
      ((Dev.regWrite_pass hmay).trans (Dev.unlatch_refused hlatched hhot)))
  case test =>
    intro s dt i d hi hout hen hoff hmay hdue
    exact (exec_pullUpTest ..).trans (State.onDev_next (decide_eq_true hi) (if_pos
      ⟨hout, hen, by simp [d, hoff], .inl (by simp [d, hmay]), rfl, hdue⟩))
  case testEnd =>
    intro s dt i volt d hi htesting hlen
    exact (exec_pullUpTestEnd ..).trans (State.onDev_next (decide_eq_true hi) (if_pos ⟨htesting, hlen⟩))
  case budget =>
    intro s dt logic d hruns
    exact (exec_budgeterUpdate ..).trans (State.onDev_next rfl (if_pos hruns))
  case estimates =>
    intro s dt logic d est hruns
    obtain ⟨hp, hi, hg⟩ := d.rn_budRegs logic est
    exact completes_budgeterUpdate hruns ⟨(d.rn_budget logic (.inl rfl)).trans hp, (d.rn_budget logic (.inr (.inl rfl))).trans hi,
      (d.rn_budget logic (.inr (.inr rfl))).trans hg, d.over_budget logic, State.sameMem_becomes ..⟩
  case below =>
    intro s dt logic d est hnone hruns
    refine completes_budgeterUpdate hruns fun i hi => ⟨?_, State.sameMem_becomes ..⟩
    refine (congrArg (fun e : Dev => e.on (CHAN_STS_SHED i)) (Dev.budget_below hnone)).trans (Dev.on_of_rn ?_)
    exact d.rn_budgetNoted_window logic (by simp only [CHAN_STS_SHED, CHAN_STS]; omega)
  case shed =>
    intro s dt logic k i d est hk hpick hruns
    have hi := Dev.mem_shedCands (Dev.mem_of_shedPick hpick)
    refine completes_budgeterUpdate hruns ?_
    rw [Dev.budget_sheds hk hpick]
    exact ⟨Dev.on_shed _ hi, Dev.on_shed_shedFld _ hi, Dev.on_shed_budSts _ hi, State.sameMem_becomes ..⟩
  case release =>
    intro s dt i d hbelow hlong hpick
    refine (exec_budgetRelease ..).trans (State.onDev_next rfl ((if_pos ⟨hbelow, hlong⟩).trans ?_))
    rw [hpick]
  case retain =>
    intro s dt d hruns
    exact (exec_retainedStateWrite ..).trans (State.onDev_next rfl (if_neg (by simp [d, hruns])))

end Sys2Proof.Machine
end

section
/-! PROOFS. The H-link, the coachman watchdog and the coast, and the low-power inputs, where their rows apply (R309–R316,
R318–R323). -/

namespace Sys2Proof.Machine

open R

theorem exec_hlinkCrcError (s : State) (dt bad good : Nat) (again : Bool) :
    exec (.hlinkCrcError dt bad good again) s = execHlinkCrcError dt bad good again s := rfl

theorem exec_hlinkUp (s : State) (dt lanes : Nat) : exec (.hlinkUp dt lanes) s = execHlinkUp dt lanes s := rfl

theorem exec_hlkCwWord (s : State) (dt v : Nat) (a : Sys2Proof.Acc) : exec (.hlkCwWord dt a v) s = execHlkCwWord dt a v s := rfl

theorem exec_watchdogWindowEnd (s : State) (dt : Nat) : exec (.watchdogWindowEnd dt) s = execWatchdogWindowEnd dt s := rfl

theorem exec_hlkDsRelease (s : State) (dt v : Nat) (a : Sys2Proof.Acc) :
    exec (.hlkDsRelease dt a v) s = execHlkDsRelease dt a v s := rfl

theorem exec_coastStart (s : State) (dt : Nat) : exec (.coastStart dt) s = execCoastStart dt s := rfl

theorem exec_coastExpiry (s : State) (dt : Nat) : exec (.coastExpiry dt) s = execCoastExpiry dt s := rfl

theorem exec_lioConversion (s : State) (dt n ua : Nat) (mv : Int) (openSwitch : Bool) :
    exec (.lioConversion dt n mv ua openSwitch) s = execLioConversion dt n mv ua openSwitch s := rfl

theorem exec_lioEdge (s : State) (dt n held256 : Nat) (uv : Int) :
    exec (.lioEdge dt n uv held256) s = execLioEdge dt n uv held256 s := rfl

theorem exec_lioEdgePop (s : State) (dt n : Nat) (a : Sys2Proof.Acc) : exec (.lioEdgePop dt a n) s = execLioEdgePop dt a n s := rfl

theorem exec_lioFastSample (s : State) (dt n k : Nat) : exec (.lioFastSample dt n k) s = execLioFastSample dt n k s := rfl

theorem exec_lioFastPop (s : State) (dt n : Nat) (a : Sys2Proof.Acc) : exec (.lioFastPop dt a n) s = execLioFastPop dt a n s := rfl

/-! ### Coachman words (R311, R312) -/

section Words

variable {d : Dev} {v : Nat}

theorem Dev.cwWord_unarmed (standby : Dev → Dev) (harmed : d.on HLK_CW_STS_ARMED = false) : d.cwWord v standby = d :=
  if_pos (by rw [harmed]; rfl)

/-- The correct word, from a watchdog for which no word is early. -/
theorem Dev.cwWord_correct (standby : Dev → Dev) (harmed : d.on HLK_CW_STS_ARMED = true)
    (hword : v = coachmanWord (d.fld HLK_CW_SEED_SEED) (d.fld HLK_CW_SEED_SEQ) (d.fld HLK_CW_CFG_KEY))
    (hearly : d.on HLK_CW_CFG_EARLY = false) : d.cwWord v standby = d.cwCorrect :=
  (if_neg (by rw [harmed]; decide)).trans (if_pos ⟨hword, by rw [hearly]; rfl⟩)

/-- The state once a wrong word is counted and reported. -/
def Dev.cwWronged (d : Dev) : Dev :=
  (((d.bump HLK_CW_ERR_CNT).set HLK_CW_STS_WRONG).raiseIf HLK_CW_INT_EN_EN 297).post 0x50 0x0005 1 8 (d.fld HLK_CW_SEED_SEQ)

/-- Another word: the second of a window is a miss. -/
theorem Dev.cwWord_wrong (standby : Dev → Dev) (harmed : d.on HLK_CW_STS_ARMED = true)
    (hword : v ≠ coachmanWord (d.fld HLK_CW_SEED_SEED) (d.fld HLK_CW_SEED_SEQ) (d.fld HLK_CW_CFG_KEY)) :
    d.cwWord v standby = if d.cwWronged.hv.cwWrong = 0 then { d.cwWronged with hv := { d.cwWronged.hv with cwWrong := 1 } }
      else d.cwWronged.cwMiss standby :=
  (if_neg (by rw [harmed]; decide)).trans (if_neg fun h => hword h.1)

/-- A release with its key under cause 1 or 2 behind two correct words waits for the tick (R315). -/
theorem Dev.dsCtl_accepted (hkey : bits 31 16 v = 0xD5A0) (hgo : bit 0 v = true)
    (hcause : d.fld HLK_DS_STS_CAUSE = 1 ∨ d.fld HLK_DS_STS_CAUSE = 2) (hgood : 2 ≤ d.hv.cwGood) :
    d.dsCtl v = { d with hv := { d.hv with dsRelease := true } } :=
  (if_neg (by rw [hkey, hgo]; decide)).trans (if_pos ⟨hcause, hgood⟩)

/-- A coast of COAST_MS begins where neither states nor a coast apply (R316). -/
theorem Dev.coastStart_begins (happlied : d.on HLK_DS_STS_APPLIED = false) (hcoast : d.on HLK_DS_STS_COAST = false)
    (hms : d.fld HLK_COAST_CFG_COAST_MS ≠ 0) : d.coastStart = (d.dropRelease.clr HLK_CW_STS_ARMED).coastBegin :=
  (if_neg (show ¬(d.on HLK_DS_STS_APPLIED = true ∨ d.on HLK_DS_STS_COAST = true) by rw [happlied, hcoast]; decide)).trans
    (if_neg hms)

end Words

/-- Settles O23. -/
theorem linkAndWatchdogCommandsTakeEffect : Obligations.LinkAndWatchdogCommandsTakeEffect := by
  unfold Obligations.LinkAndWatchdogCommandsTakeEffect
  refine ⟨?crc, ?up, ?unarmed, ?correct, ?wrong, ?window, ?release, ?coast, ?expiry⟩
  case crc =>
    intro s dt bad good again d hup hbeyvo
    exact (exec_hlinkCrcError ..).trans (State.onDev_next rfl (if_neg (by simp [d, hup, hbeyvo])))
  case up =>
    intro s dt lanes d hup hlanes hbeyvo
    exact (exec_hlinkUp ..).trans (State.onDev_next rfl ((if_neg (by simp [d, hbeyvo])).trans
      ((if_neg (by simp [d, hup])).trans (if_neg hlanes))))
  case unarmed =>
    intro s dt v a d hmay harmed
    exact (exec_hlkCwWord ..).trans (State.onDevM_next rfl
      ((Dev.regWrite_pass hmay).trans (Dev.cwWord_unarmed _ harmed)))
  case correct =>
    intro s dt v a d hmay harmed hword hearly
    exact (exec_hlkCwWord ..).trans (State.onDevM_next rfl
      ((Dev.regWrite_pass hmay).trans (Dev.cwWord_correct _ harmed hword hearly)))
  case wrong =>
    intro s dt v a d hmay harmed hword
    exact (exec_hlkCwWord ..).trans (State.onDevM_next rfl
      ((Dev.regWrite_pass hmay).trans (Dev.cwWord_wrong _ harmed hword)))
  case window =>
    intro s dt d harmed hend
    exact (exec_watchdogWindowEnd ..).trans (State.onDev_next rfl (if_pos ⟨harmed, Dev.passed_iff.mpr hend⟩))
  case release =>
    intro s dt v a d hmay hkey hgo hcause hgood
    exact (exec_hlkDsRelease ..).trans (State.onDevM_next rfl
      ((Dev.regWrite_pass hmay).trans (Dev.dsCtl_accepted hkey hgo hcause hgood)))
  case coast =>
    intro s dt d happlied hcoast hms hruns
    refine (exec_coastStart ..).trans (State.onDev_next rfl ((if_pos hruns).trans ?_))
    rw [Dev.coastStart_begins happlied hcoast hms]
  case expiry =>
    intro s dt d hcoast hend
    exact (exec_coastExpiry ..).trans (State.onDev_next rfl (if_pos ⟨hcoast, Dev.passed_iff.mpr hend⟩))

/-! ### Low-power inputs (R318–R323) -/

section Inputs

variable {d : Dev} {n : Nat}

/-- A conversion in range (R318). -/
theorem Dev.lioConvert_inRange {mv : Int} (ua : Nat) (openSwitch : Bool) (hon : d.lioOn n = true) (hdue : d.lioDue n = true)
    (hmv : mv ≤ 65532) : d.lioConvert n mv ua openSwitch =
      (((d.modLio n fun l => { l with convAt := some d.up }).put (LIO_STS_VALUE n) (mv / 4).toNat).put
        (LIO_STS_SAT n) 0).wetCheck n ua openSwitch := by
  have habove : decide (65532 < mv) = false := decide_eq_false (by omega)
  rw [Dev.lioConvert, if_neg (by simp [hon, hdue])]
  simp only [habove]
  rfl

/-- An edge with room in the FIFO (R321). -/
theorem Dev.lioEdge_room {high : Bool} {crossed256 : Nat} {e : Dev}
    (he : (((d.updLevel n high).lioEvt (LIO_EVT_EDGE n) (LIO_INT_EN_EDGE n) n).modLio n fun l =>
      { l with count := (l.count + 1) % 2 ^ 32, lastEdge := some crossed256 }) = e)
    (hcompares : d.lioCompares n = true) (hlevel : d.on (LIO_STS_LEVEL n) ≠ high) (hroom : (e.lio n).edges.length < 8) :
    d.lioEdge n high crossed256 =
      e.modLio n fun l => { l with edges := l.edges ++ [{ time256 := crossed256, falling := !high }] } := by
  subst he
  exact (if_neg (by rw [hcompares]; simpa using hlevel)).trans (if_pos hroom)

/-- A voltage that has stood beyond its threshold for the debounce time, 1 µs or more after the last edge (R320). -/
theorem Dev.lioCross_edge {uv : Int} {held256 : Nat} {high : Bool} (hside : d.lioSide n uv = some high)
    (hheld : 256 * d.lioDeb n ≤ held256) (hcompares : d.lioCompares n = true) (hlevel : d.on (LIO_STS_LEVEL n) ≠ high)
    (hruns : d.tim.mode ≠ .frozen)
    (hlast : (d.lio n).lastEdge.all (fun t => decide (t + 256000 ≤ d.ns256 - held256)) = true) :
    d.lioCross n uv held256 = d.lioEdge n high (d.ns256 - held256) := by
  have hfar : (d.lio n).lastEdge.any (fun t => d.ns256 - held256 < t + 256000 && t ≤ d.ns256 - held256) = false := by
    cases h : (d.lio n).lastEdge with
    | none => rfl
    | some t =>
      have ht : t + 256000 ≤ d.ns256 - held256 := by simpa [h] using hlast
      simp only [Option.any_some]
      rw [decide_eq_false (Nat.not_lt.mpr ht), Bool.false_and]
  have hact : ¬(held256 < 256 * d.lioDeb n ∨ (!d.lioCompares n) = true ∨ d.on (LIO_STS_LEVEL n) = high) := by
    rw [hcompares]
    exact not_or.mpr ⟨Nat.not_lt.mpr hheld, not_or.mpr ⟨Bool.false_ne_true, hlevel⟩⟩
  rw [Dev.lioCross, hside]
  dsimp only
  rw [if_neg hact, if_neg hruns, if_neg (by rw [hfar]; decide)]

theorem Dev.lioEdgePop_cons {e : Edge} {rest : List Edge} (he : (d.lio n).edges = e :: rest) : d.lioEdgePop n =
    ((((d.modLio n fun l => { l with edges := rest }).wr (LIO_EDGE_LO n) (e.time256 / 256)).wr (LIO_EDGE_HI n)
      (e.time256 / 256 / 2 ^ 32)).wr (LIO_EDGE_INFO n) (e.time256 % 256 + 256 * b2n e.falling + 512 + 65536 * rest.length +
        (d.lio n).edgeOvf * 2 ^ 24)).returns (e.time256 / 256 % 2 ^ 32) := by
  rw [Dev.lioEdgePop, he]

theorem Dev.lioFastPop_cons {v : Nat} {rest : List Nat} (hv : (d.lio n).fast = v :: rest) : d.lioFastPop n =
    (((d.modLio n fun l => { l with fast := rest }).put (LIO_FAST_STS_FILL n) rest.length).wr (LIO_FAST n) v).returns v := by
  rw [Dev.lioFastPop, hv]

theorem Dev.lioFastPop_nil (hv : (d.lio n).fast = []) : d.lioFastPop n = (d.wr (LIO_FAST n) 0).returns 0 := by
  rw [Dev.lioFastPop, hv]

/-- A fast sample with room in the FIFO (R323). -/
theorem Dev.lioFast_room {k : Nat} {e : Dev} (he : (d.modLio n fun l => { l with fastAt := some (d.stg.lastTick.getD 0, k) }) = e)
    (hon : d.lioOn n = true) (hdue : d.fastDue n k = true) (hfast : d.fld (LIO_TIM_FAST n) ≠ 0)
    (hroom : (e.lio n).fast.length < 32) : d.lioFast n k =
      (let v := e.fld (LIO_STS_VALUE n) + 65536 * e.fld (LIO_STS_LEVEL n) + 2 ^ 20 * (k % 1024) + 2 ^ 30 + 2 ^ 31 * (e.rn STG_NUM % 2)
       let f := e.modLio n fun l => { l with fast := l.fast ++ [v] }
       f.put (LIO_FAST_STS_FILL n) (f.lio n).fast.length) := by
  subst he
  exact (if_neg (by simp [hon, hdue, hfast])).trans (if_pos hroom)

end Inputs

/-- Settles O24, row by row; whether a crossing within 1 µs of the last edge is resolved is left open (log entry 114). -/
theorem lowPowerInputCommandsTakeEffect : Obligations.LowPowerInputCommandsTakeEffect := by
  unfold Obligations.LowPowerInputCommandsTakeEffect
  refine ⟨?conversion, ?edge, ?edgePop, ?sample, ?pop, ?popNone⟩
  case conversion =>
    intro s dt n ua mv openSwitch d hn hon hmv hdue
    exact (exec_lioConversion ..).trans (State.onDev_next (decide_eq_true hn) (Dev.lioConvert_inRange ua openSwitch hon hdue hmv))
  case edge =>
    intro s dt n held256 uv high d e hn hside hheld hcompares hlevel hruns hlast hroom
    exact (exec_lioEdge ..).trans (State.onDev_next (decide_eq_true hn)
      ((Dev.lioCross_edge hside hheld hcompares hlevel hruns hlast).trans (Dev.lioEdge_room rfl hcompares hlevel hroom)))
  case edgePop =>
    intro s dt n a e rest d hn hmay he
    exact (exec_lioEdgePop ..).trans (State.onDevM_next (decide_eq_true hn)
      ((Dev.regRead_pass hmay).trans (Dev.lioEdgePop_cons he)))
  case sample =>
    intro s dt n k d hn hon hdue hfast hroom
    exact (exec_lioFastSample ..).trans (State.onDev_next (decide_eq_true hn) (Dev.lioFast_room rfl hon hdue hfast hroom))
  case pop =>
    intro s dt n v a rest d hn hmay hv
    exact (exec_lioFastPop ..).trans (State.onDevM_next (decide_eq_true hn)
      ((Dev.regRead_pass hmay).trans (Dev.lioFastPop_cons hv)))
  case popNone =>
    intro s dt n a d hn hmay hv
    exact (exec_lioFastPop ..).trans (State.onDevM_next (decide_eq_true hn)
      ((Dev.regRead_pass hmay).trans (Dev.lioFastPop_nil hv)))

end Sys2Proof.Machine
end

section
/-! PROOFS. Accesses of a core to memory (R333, R335, R493), and manifest edits (R337, R338). -/

namespace Sys2Proof.Machine

open R

/-! ### Memory that the checks let an access reach -/

/-- An access to memory whose first and last byte the checks let through. -/
theorem Dev.access_memory_pass {d : Dev} {m : Mem} {a : Sys2Proof.Acc} {k : AccKind} {addr width : Nat} (v : Nat)
    (hwin : (window addr).isSome = false) (hfirst : checkAccess m d a k addr = .pass)
    (hlast : checkAccess m d a k (addr + width - 1) = .pass) :
    d.access m a k addr width v = d.memAccess m a k addr width v := by
  obtain ⟨hacts, hinj⟩ := acts_of_checkAccess_pass hfirst
  simp only [Dev.access, hacts, hinj, hwin, hfirst, hlast, Bool.not_true, Bool.false_eq_true, if_false]

theorem Dev.memAccess_write (d : Dev) (m : Mem) (a : Sys2Proof.Acc) (addr width v : Nat) :
    (d.memAccess m a .write addr width v).2 = Mem.setBytes m addr (leBytes width v) := by
  unfold Dev.memAccess
  dsimp only
  rw [if_pos rfl]

theorem Dev.memAccess_mem {k : AccKind} (hk : k ≠ .write) (d : Dev) (m : Mem) (a : Sys2Proof.Acc) (addr width v : Nat) :
    (d.memAccess m a k addr width v).2 = m := by
  unfold Dev.memAccess
  dsimp only
  rw [if_neg hk]
  split <;> rfl

theorem Dev.memAccess_err (d : Dev) (m : Mem) (a : Sys2Proof.Acc) (k : AccKind) (addr width v : Nat) :
    (d.memAccess m a k addr width v).1.bus.err = false := by
  unfold Dev.memAccess
  dsimp only
  split
  · rfl
  · split <;> rfl

theorem Dev.memAccess_data {k : AccKind} (hk : k ≠ .write) (d : Dev) (m : Mem) (a : Sys2Proof.Acc) {addr : Nat} (width v : Nat)
    (haddr : 0x40000 ≤ addr) : (d.memAccess m a k addr width v).1.bus.data = leNat (Mem.bytes m addr width) := by
  unfold Dev.memAccess
  dsimp only
  rw [if_neg hk, if_neg (Nat.not_lt.mpr haddr)]
  rfl

/-- A byte of a little-endian value. -/
theorem leBytes_getElem (n v j : Nat) (h : j < (leBytes n v).length) : (leBytes n v)[j] = v / 256 ^ j % 256 := by
  induction n generalizing v j with
  | zero => exact absurd h (Nat.not_lt_zero j)
  | succ n ih =>
    cases j with
    | zero => simp [leBytes]
    | succ j =>
      have hj : j < (leBytes n (v / 256)).length := Nat.lt_of_succ_lt_succ h
      exact (ih (v / 256) j hj).trans (by rw [Nat.div_div_eq_div_mul, ← Nat.pow_succ'])

/-- Settles O44; that memory is little-endian, the widths of an access and that its first and last byte are checked are the
model's choices (log entries 36, 17 and 16, DEDUCED). -/
theorem memoryWriteChangesOnlyItsBytes : Obligations.MemoryWriteChangesOnlyItsBytes := by
  unfold Obligations.MemoryWriteChangesOnlyItsBytes
  intro s dt addr width v a k d hwidth hwin hfirst hlast
  refine completes_onAll (exec_coreMemoryAccess ..) hwidth ?_
  rw [Dev.access_memory_pass v hwin hfirst hlast]
  refine ⟨Dev.memAccess_err .., rfl, ?_, fun hk => Dev.memAccess_mem hk .., fun hk haddr => Dev.memAccess_data hk _ _ _ _ _ haddr⟩
  rintro rfl
  dsimp only
  rw [Dev.memAccess_write]
  refine ⟨fun x hx => Mem.byte_setBytes_outside _ _ _ _ (by rwa [leBytes_length]), fun j hj => ?_⟩
  rw [Mem.byte_setBytes_inside _ _ _ _ (by rwa [leBytes_length]), leBytes_getElem]
  exact BitVec.eq_of_toNat_eq (by simp)

/-! ### An access that the check refuses (R335) -/

/-- Only an address outside control space is refused with a bus error where no window lies. -/
theorem outside_control_of_refused {m : Mem} {d : Dev} {a : Sys2Proof.Acc} {k : AccKind} {addr : Nat}
    (hwin : (window addr).isSome = false) (h : checkAccess m d a k addr = .refuse true) :
    ¬(0x40000000 ≤ addr ∧ addr < 0x41000000) := by
  intro hcontrol
  have hnone : window addr = none := by simpa using hwin
  unfold checkAccess Dev.romCheck at h
  rw [hwin, hnone, if_pos hcontrol, if_pos hcontrol, if_neg (show ¬(0x48000000 ≤ addr ∧ addr < 0x48900000) by omega),
    if_neg Bool.false_ne_true] at h
  split at h
  · exact absurd h (by decide)
  · split at h
    · exact absurd h (by decide)
    · split at h
      · exact absurd h (by decide)
      · exact Bool.false_ne_true (Verdict.refuse.inj h)

theorem gatedBlock_none {addr : Nat} (h : ¬(0x40000000 ≤ addr ∧ addr < 0x41000000)) : gatedBlock addr = none :=
  if_neg (by omega)

/-- Such a refusal is an exception of the core behind what every refusal counts and reports. -/
theorem Dev.turnedAway_refused {m : Mem} {d : Dev} {a : Sys2Proof.Acc} {k : AccKind} {addr : Nat}
    (hwin : (window addr).isSome = false) (h : checkAccess m d a k addr = .refuse true) :
    d.turnedAway a k addr (.refuse true) = (d.refused a k addr).busErrorAt a.core := by
  unfold Dev.turnedAway
  dsimp only
  rw [gatedBlock_none (outside_control_of_refused hwin h)]
  rfl

/-- What the check does not pass stops the access before memory. -/
theorem Dev.access_memory_refused {d : Dev} {m : Mem} {a : Sys2Proof.Acc} {k : AccKind} {addr width : Nat} (v : Nat)
    (hwin : (window addr).isSome = false) (h : checkAccess m d a k addr = .refuse true) :
    d.access m a k addr width v = ((d.refused a k addr).busErrorAt a.core, m) := by
  have hacts : d.actsAs a = true := by
    cases hacts : d.actsAs a with
    | true => rfl
    | false => unfold checkAccess at h; rw [if_pos (by simp [hacts])] at h; cases h
  have hinj : d.injected a addr = false := by
    cases hinj : d.injected a addr with
    | false => rfl
    | true => unfold checkAccess at h; rw [if_neg (by simp [hacts]), if_pos hinj] at h; cases h
  rw [← Dev.turnedAway_refused hwin h]
  simp only [Dev.access, hacts, hinj, hwin, h, Bool.not_true, Bool.false_eq_true, if_false]

theorem Dev.rn_smpCount (d : Dev) (k ev n b : Nat) : (d.smpCount k ev n).rn b = d.rn b := by
  unfold Dev.smpCount
  split <;> rfl

/-- A core's event leaves every register but those of counts, records and interrupts. -/
theorem Dev.rn_tallyC (d : Dev) {core : Nat} (ev k : Nat) {b : Nat} (hc : core < 12) (hb : calm b) :
    (d.tallyC core ev k).rn b = d.rn b := by
  unfold Dev.tallyC
  dsimp only
  split
  · exact d.rn_smpCount ..
  · refine (Dev.each_keeps_mem (·.rn b) _ _ _ fun n hn e => ?_).trans (d.rn_smpCount ..)
    have h8 := List.mem_range.mp hn
    exact e.rn_tallyCount (by omega) (by simp only [TALLY_C_CTL]; omega) (by simp only [TALLY_C_STS]; omega) hb

/-- The registers of a refusal before its fault: the count, and the latch of the first. -/
def Dev.refusalLatched (d : Dev) (a : Sys2Proof.Acc) (k : AccKind) (addr : Nat) : Dev :=
  let d := (d.bump MAN_REFUSE_CNT).when (a.core < 12) (·.tallyC a.core 0x0D 1)
  if d.on MAN_STS_REFUSED then d else
    (d.wrPair MAN_LAST_ADDR_LO MAN_LAST_ADDR_HI addr).wr MAN_LAST_INFO
      ((accWho a) + 16 * b2n a.guard + 32 * (kindCode k) + 256 * (a.core % 16))

theorem Dev.refused_eq (d : Dev) (a : Sys2Proof.Acc) (k : AccKind) (addr : Nat) : d.refused a k addr =
    ((((d.refusalLatched a k addr).set MAN_STS_REFUSED).raiseIf MAN_INT_EN_REFUSED 360).fault 1 0x05 0x0001 (accWho a)).postOnce
      0x05 0x0001 1 (accWho a) (accWho a) [addr % 2 ^ 32, addr / 2 ^ 32, 1, 0] (some 2) := rfl

section Refusal

variable (d : Dev) (a : Sys2Proof.Acc) (k : AccKind) (addr : Nat)

theorem Dev.rn_refusalCounted {b : Nat} (hb : calm b) :
    ((d.bump MAN_REFUSE_CNT).when (a.core < 12) (·.tallyC a.core 0x0D 1)).rn b = (d.bump MAN_REFUSE_CNT).rn b := by
  unfold Dev.when
  split
  next h => exact Dev.rn_tallyC _ _ _ (decide_eq_true_eq.mp h) hb
  next => rfl

/-- The fault and the exception reach no quiet register but the Guard information of the core. -/
theorem Dev.rn_refused_quiet {b : Nat} (hb : quiet b) (hsts : MAN_STS ≠ b) :
    (d.refused a k addr).rn b = (d.refusalLatched a k addr).rn b := by
  rw [Dev.refused_eq, Dev.rn_postOnce, Dev.rn_fault _ (.inr (by decide)) hb, Dev.rn_raiseIf _ _ (by decide) hb.1,
    Dev.rn_set_ne _ _ hsts]

theorem Dev.rn_refusalLatched {b : Nat} (hb : calm b) (hcnt : MAN_REFUSE_CNT ≠ b) (hlo : MAN_LAST_ADDR_LO ≠ b)
    (hhi : MAN_LAST_ADDR_HI ≠ b) (hinfo : MAN_LAST_INFO ≠ b) : (d.refusalLatched a k addr).rn b = d.rn b := by
  have hcounted := (d.rn_refusalCounted a hb).trans (d.rn_bump_ne hcnt)
  unfold Dev.refusalLatched
  exact kept_ite (Q := fun e : Dev => e.rn b = d.rn b) hcounted
    ((Dev.rn_wr_ne _ _ hinfo).trans ((Dev.rn_wrPair_ne _ _ hlo hhi).trans hcounted))

/-- MAN_LAST_* takes the address of the first refusal alone. -/
theorem Dev.pair_refused (haddr : addr < 2 ^ 64) :
    (d.on MAN_STS_REFUSED = false → (d.refused a k addr).pair MAN_LAST_ADDR_LO MAN_LAST_ADDR_HI = addr) ∧
    (d.on MAN_STS_REFUSED = true →
      (d.refused a k addr).pair MAN_LAST_ADDR_LO MAN_LAST_ADDR_HI = d.pair MAN_LAST_ADDR_LO MAN_LAST_ADDR_HI ∧
        (d.refused a k addr).rn MAN_LAST_INFO = d.rn MAN_LAST_INFO) := by
  have hlo := d.rn_refused_quiet a k addr (b := MAN_LAST_ADDR_LO) (by decide) (by decide)
  have hhi := d.rn_refused_quiet a k addr (b := MAN_LAST_ADDR_HI) (by decide) (by decide)
  have hinfo := d.rn_refused_quiet a k addr (b := MAN_LAST_INFO) (by decide) (by decide)
  have hon : ((d.bump MAN_REFUSE_CNT).when (a.core < 12) (·.tallyC a.core 0x0D 1)).on MAN_STS_REFUSED = d.on MAN_STS_REFUSED :=
    Dev.on_of_rn ((d.rn_refusalCounted a (by decide)).trans (d.rn_bump_ne (by decide)))
  unfold Dev.pair
  rw [hlo, hhi, hinfo]
  refine ⟨fun hfirst => ?_, fun hlater => ?_⟩
  · unfold Dev.refusalLatched
    dsimp only
    rw [if_neg (by rw [hon, hfirst]; decide), Dev.rn_wr_ne _ _ (by decide), Dev.rn_wr_ne _ _ (by decide)]
    exact Dev.pair_wrPair _ _ (by decide) haddr
  · have hcounted : ∀ b, calm b → MAN_REFUSE_CNT ≠ b → (d.refusalLatched a k addr).rn b = d.rn b := fun b hb hne => by
      unfold Dev.refusalLatched
      dsimp only
      rw [if_pos (hon.trans hlater)]
      exact (d.rn_refusalCounted a hb).trans (d.rn_bump_ne hne)
    rw [hcounted _ (by decide) (by decide), hcounted _ (by decide) (by decide), hcounted _ (by decide) (by decide)]
    exact ⟨rfl, rfl⟩

/-- The refusal is counted, and shows in MAN_STS. -/
theorem Dev.rn_refused_count : (d.refused a k addr).rn MAN_REFUSE_CNT = (d.rn MAN_REFUSE_CNT + 1) % 2 ^ 32 := by
  rw [d.rn_refused_quiet a k addr (by decide) (by decide)]
  have hcounted := (d.rn_refusalCounted a (b := MAN_REFUSE_CNT) (by decide)).trans (d.rn_bump_self MAN_REFUSE_CNT)
  unfold Dev.refusalLatched
  exact kept_ite (Q := fun e : Dev => e.rn MAN_REFUSE_CNT = _) hcounted
    ((Dev.rn_wr_ne _ _ (by decide)).trans ((Dev.rn_wrPair_ne _ _ (by decide) (by decide)).trans hcounted))

theorem Dev.on_refused : (d.refused a k addr).on MAN_STS_REFUSED = true := by
  rw [Dev.refused_eq]
  refine (Dev.on_of_rn ?_).trans (Dev.on_set (d.refusalLatched a k addr) MAN_STS_REFUSED rfl (by decide))
  rw [Dev.rn_postOnce, Dev.rn_fault _ (.inr (by decide)) (by decide), Dev.rn_raiseIf _ _ (by decide) (by decide)]

/-- The refusal is a fault of severity 1 (R444). -/
theorem Dev.frmCnt1_refused (hup : d.frm.beyvoUp = true) :
    (d.refused a k addr).rn (FRM_CNT 1) = (d.rn (FRM_CNT 1) + 1) % 2 ^ 32 := by
  have hfrm : (((d.refusalLatched a k addr).set MAN_STS_REFUSED).raiseIf MAN_INT_EN_REFUSED 360).frm = d.frm := by
    rw [Dev.raiseIf_frm, Dev.set_frm]
    have hcounted : ((d.bump MAN_REFUSE_CNT).when (a.core < 12) (·.tallyC a.core 0x0D 1)).frm = d.frm :=
      Dev.when_keeps Dev.frm (·.tallyC a.core 0x0D 1) _ (fun e => (congrArg Dev.frm (e.rest_tallyC ..) :)) _
    unfold Dev.refusalLatched
    exact kept_ite (Q := fun e : Dev => e.frm = d.frm) hcounted hcounted
  rw [Dev.refused_eq, Dev.rn_postOnce, Dev.frmCnt1_fault _ _ _ _ _ (by rw [hfrm]; exact hup),
    Dev.rn_raiseIf _ _ (by decide) (by decide), Dev.rn_set_ne _ _ (by decide),
    Dev.rn_refusalLatched _ _ _ _ (by decide) (by decide) (by decide) (by decide) (by decide)]

end Refusal

/-- The first element that meets a condition stands changed in the list. -/
theorem exists_mem_modifyFirst {α : Type} {p : α → Bool} (f : α → α) {l : List α} (h : l.any p = true) :
    ∃ x, p x = true ∧ f x ∈ modifyFirst p f l := by
  induction l with
  | nil => exact absurd h Bool.false_ne_true
  | cons y ys ih =>
    unfold modifyFirst
    by_cases hy : p y = true
    · exact ⟨y, hy, by rw [if_pos hy]; exact List.mem_cons_self⟩
    · rw [if_neg hy]
      obtain ⟨x, hx, hmem⟩ := ih (by simpa [hy] using h)
      exact ⟨x, hx, List.mem_cons_of_mem y hmem⟩

/-- A count of events changes a record's data alone. -/
theorem StageRec.add_record (s : StageRec) (k : Nat) : (s.add k).record.block = s.record.block ∧
    (s.add k).record.code = s.record.code ∧ (s.add k).record.owner = s.record.owner := by
  unfold StageRec.add
  split <;> exact ⟨rfl, rfl, rfl⟩

/-- A record posted once per stage stands in the stage's list, by its first event or with a later one counted (R502). -/
theorem Dev.mem_stage_postOnce (d : Dev) (block code sev owner inst : Nat) (data : List Nat) (c : Option Nat) :
    ∃ x ∈ (d.postOnce block code sev owner inst data c).log.stage,
      x.record.block = block ∧ x.record.code = code ∧ x.record.owner = owner := by
  unfold Dev.postOnce
  dsimp only
  split
  next hany =>
    obtain ⟨x, hx, hmem⟩ := exists_mem_modifyFirst (·.add 1) hany
    obtain ⟨hblock, hcode, howner⟩ := x.add_record 1
    simp only [Bool.and_eq_true, beq_iff_eq] at hx
    obtain ⟨⟨⟨h1, h2⟩, h3⟩, -⟩ := hx
    exact ⟨_, hmem, hblock.trans h1, hcode.trans h2, howner.trans h3⟩
  next => exact ⟨_, List.mem_append_right _ List.mem_cons_self, rfl, rfl, rfl⟩

/-- An exception is noted; where it enters the Guard world, that leaves the note. -/
theorem Dev.raiseExc_exc (d : Dev) (k e : Nat) : tget 0 (d.raiseExc k e).wld.exc k = e := by
  unfold Dev.raiseExc
  dsimp only
  split <;> exact tget_tset_self ..

theorem Dev.raiseExc_log (d : Dev) (k e : Nat) : (d.raiseExc k e).log = d.log := by
  obtain ⟨w, hw⟩ | ⟨w, w', hw⟩ := d.raiseExc_eq k e
  · rw [hw]
  · rw [hw, Dev.set_log]

/-- An access that ends in a bus error changes no register but the Guard information of one of the twelve cores. -/
theorem Dev.rn_busErrorAt_outside (d : Dev) (core : Nat) {b : Nat} (h : b < 0x40040100 ∨ 0x40040130 ≤ b) :
    (d.busErrorAt core).rn b = d.rn b := by
  by_cases hcore : core < 12
  · exact d.rn_busErrorAt core (by simp only [MAN_CORE_GINFO]; omega)
  · unfold Dev.busErrorAt Dev.raiseExc
    dsimp only
    rw [decide_eq_false hcore, Bool.false_and, Bool.false_and, if_neg Bool.false_ne_true]
    rfl

/-- Settles O43, on the record of the stage's list; it asks of the list that the record stands in it. -/
theorem refusedMemoryAccessChangesNothing : Obligations.RefusedMemoryAccessChangesNothing := by
  unfold Obligations.RefusedMemoryAccessChangesNothing
  intro s dt addr width v a k d hwidth hwin hcheck haddr
  refine completes_onAll (exec_coreMemoryAccess ..) hwidth ?_
  rw [Dev.access_memory_refused v hwin hcheck]
  have hrn : ∀ b, b < 0x40040100 → ((d.refused a k addr).busErrorAt a.core).rn b = (d.refused a k addr).rn b :=
    fun b hb => Dev.rn_busErrorAt_outside _ _ (.inl hb)
  have hpair : ((d.refused a k addr).busErrorAt a.core).pair MAN_LAST_ADDR_LO MAN_LAST_ADDR_HI =
      (d.refused a k addr).pair MAN_LAST_ADDR_LO MAN_LAST_ADDR_HI := by
    unfold Dev.pair; rw [hrn _ (by decide), hrn _ (by decide)]
  obtain ⟨hfirst, hlater⟩ := d.pair_refused a k addr haddr
  refine ⟨Dev.raiseExc_bus .., Dev.raiseExc_exc .., ⟨rfl, rfl⟩, ?count, ?shown, ?first, ?later, ?fault, ?record⟩
  case count => exact (hrn _ (by decide)).trans (d.rn_refused_count a k addr)
  case shown => exact (Dev.on_of_rn (hrn _ (by decide))).trans (d.on_refused a k addr)
  case first => exact fun h => hpair.trans (hfirst h)
  case later => exact fun h => ⟨hpair.trans (hlater h).1, (hrn _ (by decide)).trans (hlater h).2⟩
  case fault => exact fun hup => (hrn _ (by decide)).trans (d.frmCnt1_refused a k addr hup)
  case record =>
    dsimp only [Dev.busErrorAt]
    rw [Dev.raiseExc_log]
    exact Dev.mem_stage_postOnce ..

/-! ### Manifest edits (R337, R338) -/

theorem exec_manEditDone (s : State) (dt : Nat) : exec (.manEditDone dt) s = execManEditDone dt s := rfl

/-- The device once an edit has ended with a result, before its record. -/
def Dev.editEnded (d : Dev) (r : Nat) : Dev :=
  (((({ d with wld := { d.wld with edit := none } } : Dev).clr MAN_EDIT_STS_BUSY).put MAN_EDIT_STS_RESULT r).set
    MAN_STS_EDIT_DONE).raiseIf MAN_INT_EN_EDIT_DONE 361

theorem exec_manEditDone_done {s : State} {dt i v : Nat} (hedit : (s.now dt).wld.edit = some (i, v))
    (h : editResult s.mem i v = 0) : exec (.manEditDone dt) s =
      .next (s.becomesM (((s.now dt).editEnded 0).post 0x05 0x0002 0 9 i [i]) (editMem s.mem i v)) := by
  refine (exec_manEditDone ..).trans (State.onAll_next (r := (_, _)) rfl ?_)
  dsimp only
  rw [hedit]
  dsimp only
  rw [if_pos h, h]
  rfl

theorem exec_manEditDone_refused {s : State} {dt i v : Nat} (hedit : (s.now dt).wld.edit = some (i, v))
    (h : editResult s.mem i v ≠ 0) : exec (.manEditDone dt) s =
      .next (s.becomesM (((s.now dt).editEnded (editResult s.mem i v)).post 0x05 0x0003 1 9 (editResult s.mem i v)) s.mem) := by
  refine (exec_manEditDone ..).trans (State.onAll_next (r := (_, _)) rfl ?_)
  dsimp only
  rw [hedit]
  exact if_neg h

/-- What an edit that has ended shows, behind its record. -/
theorem Dev.editEnded_shows (d : Dev) {r : Nat} (hr : r < 4) (block code sev owner inst : Nat) (data : List Nat) :
    ((d.editEnded r).post block code sev owner inst data).wld.edit = none ∧
    ((d.editEnded r).post block code sev owner inst data).on MAN_EDIT_STS_BUSY = false ∧
    ((d.editEnded r).post block code sev owner inst data).on MAN_STS_EDIT_DONE = true ∧
    ((d.editEnded r).post block code sev owner inst data).fld MAN_EDIT_STS_RESULT = r := by
  have hpost : ∀ {b : Nat}, calm b → ((d.editEnded r).post block code sev owner inst data).rn b =
      ((((({ d with wld := { d.wld with edit := none } } : Dev).clr MAN_EDIT_STS_BUSY).put MAN_EDIT_STS_RESULT r).set
        MAN_STS_EDIT_DONE)).rn b := fun hb => (Dev.rn_post _ hb).trans (Dev.rn_raiseIf _ _ (by decide) hb)
  have hsts : ∀ {e : Dev}, (e.set MAN_STS_EDIT_DONE).rn MAN_EDIT_STS = e.rn MAN_EDIT_STS := Dev.rn_set_ne _ _ (by decide)
  refine ⟨?_, ?_, ?_, ?_⟩
  · rw [Dev.post_wld, Dev.editEnded, Dev.raiseIf_wld, Dev.set_wld, Dev.put_wld, Dev.clr_wld]
  · refine (Dev.on_of_rn (f := MAN_EDIT_STS_BUSY) ((hpost (by decide)).trans hsts)).trans ?_
    refine (congrArg (· == 1) (Dev.fld_put_apart _ MAN_EDIT_STS_RESULT MAN_EDIT_STS_BUSY r (by decide) (by decide) (by decide)
      (by decide))).trans ?_
    exact Dev.on_clr _ MAN_EDIT_STS_BUSY (by decide) (by decide)
  · exact (Dev.on_of_rn (hpost (by decide))).trans (Dev.on_set _ MAN_STS_EDIT_DONE rfl (by decide))
  · refine (Dev.fld_of_rn (f := MAN_EDIT_STS_RESULT) ((hpost (by decide)).trans hsts)).trans ?_
    exact (Dev.fld_put_self _ MAN_EDIT_STS_RESULT r (by decide) (by decide)).trans (Nat.mod_eq_of_lt hr)

theorem editResult_lt (m : Mem) (i v : Nat) : editResult m i v < 4 := by
  unfold editResult
  split
  · decide
  · split
    · decide
    · split <;> decide

theorem editMoves_iff (m : Mem) (i v : Nat) : editMoves m i v = true ↔
    entryOwner (Mem.entry m i) ≠ entryOwner v ∨ entryGuard (Mem.entry m i) ≠ entryGuard v := by
  simp [editMoves]

theorem Mem.word_setWord (m : Mem) (a v : Nat) : Mem.word (Mem.setWord m a v) a = v % 2 ^ 32 :=
  Mem.word_setWords m a 0 [v] Nat.one_pos

/-- The entry holds its new value. -/
theorem entry_editMem (m : Mem) (i : Nat) {v : Nat} (hv : v < 2 ^ 32) : Mem.entry (editMem m i v) i = v := by
  unfold Mem.entry editMem
  exact (Mem.word_setWord ..).trans (Nat.mod_eq_of_lt hv)

/-- Outside the entry an edit clears the page where it gives it away, and changes no other byte. -/
theorem byte_editMem (m : Mem) (i v : Nat) {x : Nat} (hx : x < 0x11560000 + 4 * i ∨ 0x11560000 + 4 * i + 4 ≤ x) :
    Mem.byte (editMem m i v) x =
      if editMoves m i v = true ∧ (pageOf i).1 ≤ x ∧ x < (pageOf i).1 + (pageOf i).2 then memByte x else Mem.byte m x := by
  unfold editMem
  refine (Mem.byte_setWord_outside _ _ _ _ hx).trans ?_
  by_cases hmoves : editMoves m i v = true
  · rw [if_pos hmoves, Mem.byte_zero]
    simp only [hmoves, true_and]
  · rw [if_neg hmoves, if_neg fun h => hmoves h.1]

/-- Settles O39; the order in which an edit's refusals are looked for is the model's choice (log entry 59, DEDUCED). -/
theorem manifestEditChangesOnlyItsEntry : Obligations.ManifestEditChangesOnlyItsEntry := by
  unfold Obligations.ManifestEditChangesOnlyItsEntry
  intro s dt i v d hedit hv
  by_cases hr : editResult s.mem i v = 0
  · obtain ⟨hnone, hbusy, hdone, hresult⟩ := d.editEnded_shows (show 0 < 4 by decide) 0x05 0x0002 0 9 i [i]
    refine ⟨_, exec_manEditDone_done hedit hr, hnone, hbusy, hdone, hresult.trans hr.symm, rfl, fun h => absurd hr h, fun _ => ?_⟩
    refine ⟨entry_editMem s.mem i hv, fun x hx => ⟨fun howner hworld => ?_, fun hpage => ?_, fun ⟨hmoves, hpage⟩ => ?_⟩⟩
    · refine (byte_editMem s.mem i v hx).trans (if_neg fun h => ?_)
      rcases (editMoves_iff ..).mp h.1 with h | h
      · exact h howner
      · exact h hworld
    · exact (byte_editMem s.mem i v hx).trans (if_neg fun h => by omega)
    · exact (byte_editMem s.mem i v hx).trans (if_pos ⟨(editMoves_iff ..).mpr hmoves, hpage⟩)
  · obtain ⟨hnone, hbusy, hdone, hresult⟩ := d.editEnded_shows (editResult_lt s.mem i v) 0x05 0x0003 1 9 (editResult s.mem i v) []
    exact ⟨_, exec_manEditDone_refused hedit hr, hnone, hbusy, hdone, hresult, rfl, fun _ => rfl, fun h => absurd h hr⟩

end Sys2Proof.Machine
end

section
/-! PROOFS. Worlds, re-measurement, quiescing and interrupts, where their rows apply, and the bits of IRQ_MASKw and IRQ_PENDw
that an owner reaches (R337–R350). -/

namespace Sys2Proof.Machine

open R

theorem exec_manEditCmd (s : State) (dt v : Nat) (a : Sys2Proof.Acc) : exec (.manEditCmd dt a v) s = execManEditCmd dt a v s := rfl

theorem exec_gcall (s : State) (dt core imm : Nat) : exec (.gcall dt core imm) s = execGcall dt core imm s := rfl

theorem exec_gret (s : State) (dt core : Nat) : exec (.gret dt core) s = execGret dt core s := rfl

theorem exec_guardTimeLimitExpiry (s : State) (dt core : Nat) :
    exec (.guardTimeLimitExpiry dt core) s = execGuardTimeLimitExpiry dt core s := rfl

theorem exec_remeasurementDone (s : State) (dt core : Nat) :
    exec (.remeasurementDone dt core) s = execRemeasurementDone dt core s := rfl

theorem exec_manGinfoRead (s : State) (dt core : Nat) (a : Sys2Proof.Acc) :
    exec (.manGinfoRead dt a core) s = execManGinfoRead dt a core s := rfl

theorem exec_pwrmGuardQuiesced (s : State) (dt v : Nat) (a : Sys2Proof.Acc) :
    exec (.pwrmGuardQuiesced dt a v) s = execPwrmGuardQuiesced dt a v s := rfl

theorem exec_guardQuiesceTimeout (s : State) (dt : Nat) : exec (.guardQuiesceTimeout dt) s = execGuardQuiesceTimeout dt s := rfl

theorem exec_interruptRaised (s : State) (dt src : Nat) : exec (.interruptRaised dt src) s = execInterruptRaised dt src s := rfl

theorem exec_irqClaim (s : State) (dt core : Nat) (a : Sys2Proof.Acc) (g : Bool) :
    exec (.irqClaim dt a core g) s = execIrqClaim dt a core g s := rfl

theorem exec_irqEoi (s : State) (dt core v : Nat) (a : Sys2Proof.Acc) (g : Bool) :
    exec (.irqEoi dt a core g v) s = execIrqEoi dt a core g v s := rfl

section Claims

variable {d : Dev} {core src v : Nat} {g : Bool}

theorem Dev.claim_none (h : d.presented core g = none) : d.claim core g = d.returns 0x3FF := by
  rw [Dev.claim, h]

/-- A claim of an Open source (R349). -/
theorem Dev.claim_open {e : Dev} (h : d.presented core false = some src) (hsrc : src ≠ 512)
    (he : d.clr ⟨IRQ_PEND (src / 32), src % 32, src % 32⟩ = e) : d.claim core false =
      ((({ e with wld := { e.wld with active := (core, false, src) :: e.wld.active } } : Dev).updActive core false).tallyC
        core 0x0A 1).returns src := by
  subst he
  rw [Dev.claim, h]
  simp only [if_neg hsrc, Bool.false_eq_true, false_and, if_false]

theorem Dev.eoi_active (h : (core, g, bits 9 0 v) ∈ d.wld.active) : d.eoi core g v =
    ({ d with wld := { d.wld with active := d.wld.active.erase (core, g, bits 9 0 v) } } : Dev).updActive core g :=
  if_pos (by simpa using h)

theorem Dev.eoi_err (h : (core, g, bits 9 0 v) ∉ d.wld.active) : d.eoi core g v =
    (d.set (IRQ_LC_STS_EOI_ERR core (b2n g))).post 0x06 0x0001 1 9 core :=
  if_neg (by simpa using h)

end Claims

/-- Settles O25, row by row; that the fault of the quiesce timeout names no core, what core event a claim counts as, and that
the calls act while the Beyvo die runs are the model's choices (log entries 59 and 118, DEDUCED). -/
theorem worldAndInterruptCommandsTakeEffect : Obligations.WorldAndInterruptCommandsTakeEffect := by
  unfold Obligations.WorldAndInterruptCommandsTakeEffect
  refine ⟨?edit, ?editDone, ?editRefused, ?call, ?ret, ?limit, ?inTime, ?measured, ?ginfo, ?quiesced, ?timeout, ?raised, ?reserved,
    ?claimNone, ?claim, ?eoi, ?eoiErr⟩
  case edit =>
    intro s dt v a d hmay hkey hgo hbusy
    exact (exec_manEditCmd ..).trans (State.onDevM_next rfl ((Dev.regWrite_pass hmay).trans
      (if_pos ⟨hkey, hgo, by simp [d, hbusy]⟩)))
  case editDone =>
    intro s dt i v d hedit hr
    exact exec_manEditDone_done hedit hr
  case editRefused =>
    intro s dt i v d hedit hr
    exact exec_manEditDone_refused hedit hr
  case call =>
    intro s dt core imm d hcore hopen hmeasured hup
    exact (exec_gcall ..).trans (State.onDev_next (decide_eq_true hcore) ((if_neg (by simp [d, hup])).trans
      ((if_neg (ne_true_of_eq_false hopen)).trans (if_neg (ne_true_of_eq_false hmeasured)))))
  case ret =>
    intro s dt core d hcore howner hguard hup
    exact (exec_gret ..).trans (State.onDev_next (decide_eq_true hcore) ((if_neg (by simp [d, hup])).trans
      (if_neg (not_or.mpr ⟨howner, by simp [d, hguard]⟩))))
  case limit =>
    intro s dt core d hcore hruns hlate
    exact (exec_guardTimeLimitExpiry ..).trans (State.onDev_next (decide_eq_true hcore)
      (if_neg (not_or.mpr ⟨hruns, Nat.not_le.mpr hlate⟩)))
  case inTime =>
    intro s dt core d hcore hearly
    exact (exec_guardTimeLimitExpiry ..).trans (State.onDev_next (decide_eq_true hcore) (if_pos (.inr hearly)))
  case measured =>
    intro s dt core d hcore hmeasuring
    exact (exec_remeasurementDone ..).trans (State.onDevM_next (decide_eq_true hcore) (if_neg (by simp [d, hmeasuring])))
  case ginfo =>
    intro s dt core a d hcore hmay
    exact (exec_manGinfoRead ..).trans (State.onDevM_next (decide_eq_true hcore) (Dev.regRead_pass hmay))
  case quiesced =>
    intro s dt v a d hmay hkey hwaits
    exact (exec_pwrmGuardQuiesced ..).trans (State.onDevM_next rfl ((Dev.regWrite_pass hmay).trans (if_pos ⟨hkey, hwaits⟩)))
  case timeout =>
    intro s dt t d hwaits hdue
    have hover : d.wld.quiesceAt.any (d.passed · 0) = true := by
      rw [hwaits]; exact Dev.passed_iff.mpr hdue
    exact (exec_guardQuiesceTimeout ..).trans (State.onDev_next rfl (if_pos hover))
  case raised =>
    intro s dt src d hsrc hreal
    exact (exec_interruptRaised ..).trans (State.onDev_next (decide_eq_true hsrc) (if_pos hreal))
  case reserved =>
    intro s dt src d hsrc hreal
    exact (exec_interruptRaised ..).trans (State.onDev_next (decide_eq_true hsrc) (if_neg (ne_true_of_eq_false hreal)))
  case claimNone =>
    intro s dt core g a d hcore hmay hnone
    exact (exec_irqClaim ..).trans (State.onDevM_next (decide_eq_true hcore)
      ((Dev.regRead_pass hmay).trans (Dev.claim_none hnone)))
  case claim =>
    intro s dt core src a d hcore hmay hsome hsrc
    exact (exec_irqClaim ..).trans (State.onDevM_next (decide_eq_true hcore)
      ((Dev.regRead_pass hmay).trans (Dev.claim_open hsome hsrc rfl)))
  case eoi =>
    intro s dt core v g a d hcore hmay hactive
    exact (exec_irqEoi ..).trans (State.onDevM_next (decide_eq_true hcore)
      ((Dev.regWrite_pass hmay).trans (Dev.eoi_active hactive)))
  case eoiErr =>
    intro s dt core v g a d hcore hmay hactive
    exact (exec_irqEoi ..).trans (State.onDevM_next (decide_eq_true hcore)
      ((Dev.regWrite_pass hmay).trans (Dev.eoi_err hactive)))

/-! ### The bits of an owner (R350) -/

theorem maskOf_range_succ (p : Nat → Bool) (n : Nat) : maskOf ((List.range (n + 1)).filter p) =
    maskOf ((List.range n).filter p) + if p n then 2 ^ n else 0 := by
  unfold maskOf
  rw [List.range_succ, List.filter_append, List.foldl_append]
  by_cases h : p n = true
  · rw [List.filter_cons_of_pos h, if_pos h]; rfl
  · rw [List.filter_cons_of_neg h, if_neg h]; rfl

theorem maskOf_range_lt (p : Nat → Bool) (n : Nat) : maskOf ((List.range n).filter p) < 2 ^ n := by
  induction n with
  | zero => exact Nat.one_pos
  | succ n ih =>
    rw [maskOf_range_succ, Nat.pow_succ]
    split <;> omega

/-- The mask of the numbers below `n` that meet a condition. -/
theorem testBit_maskOf_range (p : Nat → Bool) (n k : Nat) :
    (maskOf ((List.range n).filter p)).testBit k = (decide (k < n) && p k) := by
  induction n with
  | zero => simp [maskOf]
  | succ n ih =>
    have hlt := maskOf_range_lt p n
    rw [maskOf_range_succ]
    by_cases hp : p n = true
    · rw [if_pos hp, Nat.add_comm]
      rcases Nat.lt_trichotomy k n with hk | rfl | hk
      · rw [Nat.testBit_two_pow_add_gt hk, ih]
        simp [hk, Nat.lt_succ_of_lt hk]
      · rw [Nat.testBit_two_pow_add_eq, Nat.testBit_lt_two_pow hlt]
        simp [hp]
      · rw [Nat.testBit_lt_two_pow (show 2 ^ n + maskOf ((List.range n).filter p) < 2 ^ k from
          lt_of_lt_of_le (by rw [Nat.pow_succ]; omega) (Nat.pow_le_pow_right (by decide) hk : 2 ^ (n + 1) ≤ 2 ^ k))]
        simp [Nat.not_lt.mpr hk]
    · rw [if_neg hp, Nat.add_zero, ih]
      rcases Nat.lt_trichotomy k n with hk | rfl | hk
      · simp [hk, Nat.lt_succ_of_lt hk]
      · simp [hp]
      · simp [Nat.not_lt.mpr hk, Nat.not_lt.mpr (Nat.le_of_lt hk)]

/-- The accessor reaches bit `k` of word `w`: the source is routed to it, or it is Guard. -/
theorem Dev.testBit_irqBits (d : Dev) (a : Sys2Proof.Acc) (w : Nat) {k : Nat} (hk : k < 32) :
    (d.irqBits a w).testBit k = decide (a.guard = true ∨ d.fld (IRQ_ROUTE_OWNER (32 * w + k)) = a.owner) := by
  unfold Dev.irqBits
  split
  next hg =>
    rw [show (0xFFFFFFFF : Nat) = 2 ^ 32 - 1 by decide, Nat.testBit_two_pow_sub_one]
    simp [hk, hg]
  next hg =>
    rw [testBit_maskOf_range]
    simp [hk, hg, beq_eq_decide]

/-- A write of IRQ_MASKw keeps the bits that the accessor does not reach. -/
theorem Dev.bit_irqMask (d : Dev) (a : Sys2Proof.Acc) (w v : Nat) {k : Nat} (hk : k < 32) :
    bit k ((d.irqMask a w v).rn (IRQ_MASK w)) =
      if a.guard = true ∨ d.fld (IRQ_ROUTE_OWNER (32 * w + k)) = a.owner then bit k v else bit k (d.rn (IRQ_MASK w)) := by
  have hones : (0xFFFFFFFF : Nat).testBit k = true := by
    rw [show (0xFFFFFFFF : Nat) = 2 ^ 32 - 1 by decide, Nat.testBit_two_pow_sub_one]; simp [hk]
  unfold Dev.irqMask
  rw [Dev.rn_wr_self]
  simp only [bit_eq_testBit, Nat.testBit_mod_two_pow, hk, decide_true, Bool.true_and, Nat.testBit_or, Nat.testBit_and,
    Nat.testBit_xor, hones, d.testBit_irqBits a w hk]
  split
  next h => simp [h]
  next h => simp [h]

theorem Dev.rn_irqMask_ne (d : Dev) (a : Sys2Proof.Acc) (w v : Nat) {b : Nat} (h : b ≠ IRQ_MASK w) :
    (d.irqMask a w v).rn b = d.rn b := d.rn_wr_ne _ h.symm

/-- An element of an array of registers. -/
theorem arrIdx_eq_some {a base stride n i : Nat} (hs : 0 < stride) (ha : a = base + stride * i) (hi : i < n) :
    arrIdx a base stride n = some i := by
  subst ha
  simp [arrIdx, inArr, hi, Nat.mul_div_cancel_left i hs]

section MaskRegister

variable {w : Nat} (hw : w < 16)

include hw

theorem irqMask_window : IRQ_MASK w / 0x10000 = 0x4005 := by simp only [IRQ_MASK]; omega

/-- A write of IRQ_MASKw has a row of its own. -/
theorem Dev.writeReg_irqMask (d : Dev) (m : Mem) (a : Sys2Proof.Acc) (v : Nat) :
    d.writeReg m a (IRQ_MASK w) v = (d.irqMask a w (v % 2 ^ 32), m) := by
  have hwin := irqMask_window hw
  have hdone : arrIdx (IRQ_MASK w) (STG_DONE 0) 0x1000 8 = none := arrIdx_eq_none (.inl (by simp only [IRQ_MASK, STG_DONE]; omega))
  have hmask : arrIdx (IRQ_MASK w) (IRQ_MASK 0) 4 16 = some w := arrIdx_eq_some (by decide) rfl hw
  have hhv : onHeavia (IRQ_MASK w) = false := by simp only [onHeavia, hwin]; decide
  have hman : ∀ v, d.writeMan a (IRQ_MASK w) v = d.irqMask a w v := by
    intro v
    simp only [Dev.writeMan, hdone, hmask]
    rw [if_neg (by simp only [IRQ_MASK, STG_GDONE]; omega), if_neg (by simp only [IRQ_MASK, MAN_EDIT_CMD]; omega)]
  simp only [Dev.writeReg, hwin, hhv, hman, Nat.reduceDiv, Nat.reduceEqDiff, Nat.reduceLeDiff, Bool.false_eq_true, if_false,
    or_false, if_true]

end MaskRegister

/-! ### A register that reads without an effect -/

/-- The registers whose read has no row of its own, neither an effect nor a free value. -/
def readsPlainly (addr : Nat) : Bool :=
  !inShadow addr && (arrIdx addr (LIO_EDGE_LO 0) 0x40 32).isNone && (arrIdx addr (LIO_FAST 0) 0x40 32).isNone &&
    (arrIdx addr (TTA_TCAP_TS_LO 0) 0x10 8).isNone && addr != SBX_DRBG && (arrIdx addr (MAN_CORE_GINFO 0) 4 12).isNone &&
    (arrIdx addr (IRQ_LC_CLAIM 0 0) 0x800 24).isNone && addr != FAB_BUF_LOW && (arrIdx addr (RSQ_OCC 0) 0x10 48).isNone &&
    addr != HPS_VBAT && (arrIdx addr (PORT_SYM_ERR 0) 0x1000 36).isNone && (arrIdx addr (PORT_PHY_STS 0) 0x1000 14).isNone

theorem Dev.readReg_plain {d : Dev} {addr : Nat} (a : Sys2Proof.Acc) (h : readsPlainly addr = true)
    (hinert : d.inertPage addr = false) : d.readReg a addr = d.plainRead a addr := by
  simp only [readsPlainly, Bool.and_eq_true, Bool.not_eq_true', bne_iff_ne, Option.isNone_iff_eq_none] at h
  obtain ⟨⟨⟨⟨⟨⟨⟨⟨⟨⟨⟨hshadow, hedge⟩, hfast⟩, htcap⟩, hdrbg⟩, hginfo⟩, hclaim⟩, hlow⟩, hocc⟩, hvbat⟩, hsym⟩, hphy⟩ := h
  simp only [Dev.readReg, hshadow, hinert, hedge, hfast, htcap, if_neg hdrbg, hginfo, hclaim, if_neg hlow, hocc, if_neg hvbat,
    hsym, hphy, Bool.false_eq_true, if_false]

section MaskRead

variable {w x : Nat} (hw : w < 16) (hx : x = IRQ_MASK w ∨ x = IRQ_PEND w)

include hw hx

/-- Nothing but the bits of R350 stands between a read of IRQ_MASKw or IRQ_PENDw and the register. -/
theorem irqRead_plain : readsPlainly x = true ∧ latchable x = false ∧ latchesHi x = false ∧ x / 0x10000 = 0x4005 ∧ x % 4 = 0 := by
  have hall : ∀ w < 16, ∀ x ∈ [IRQ_MASK w, IRQ_PEND w],
      readsPlainly x = true ∧ latchable x = false ∧ latchesHi x = false ∧ x / 0x10000 = 0x4005 ∧ x % 4 = 0 := by decide
  exact hall w hw x (by simpa using hx)

theorem descOf_irqRead : ∃ r, descOf x = some r ∧ ∀ guard, r.seen guard = 0xFFFFFFFF := by
  have hall : ∀ w < 16, ∀ x ∈ [IRQ_MASK w, IRQ_PEND w],
      (descOf x).any (fun r => r.seen false == 0xFFFFFFFF && r.seen true == 0xFFFFFFFF) = true := by decide
  obtain ⟨r, hr, hseen⟩ := (Option.any_eq_true _ _).mp (hall w hw x (by simpa using hx))
  simp only [Bool.and_eq_true, beq_iff_eq] at hseen
  refine ⟨r, hr, fun guard => ?_⟩
  cases guard
  · exact hseen.1
  · exact hseen.2

theorem Dev.shown_irqRead (d : Dev) (a : Sys2Proof.Acc) : d.shown a x = d.rn x &&& d.irqBits a w := by
  obtain ⟨-, -, -, hwin, -⟩ := irqRead_plain hw hx
  have hhv : onHeavia x = false := by simp only [onHeavia, hwin]; decide
  have hcfg : arrIdx x (MAN_CORE_CFG 0) 4 12 = none := arrIdx_eq_none (.inr (by simp only [MAN_CORE_CFG]; omega))
  unfold Dev.shown Dev.shownSys
  simp only [hwin, hhv, hcfg, Nat.reduceLeDiff, Bool.false_eq_true, false_and, or_self, if_false]
  obtain rfl | rfl := hx
  · simp only [arrIdx_eq_some (show 0 < 4 by decide) (show IRQ_MASK w = IRQ_MASK 0 + 4 * w from rfl) hw]
  · simp only [arrIdx_eq_none (show IRQ_PEND w < IRQ_MASK 0 ∨ 16 ≤ (IRQ_PEND w - IRQ_MASK 0) / 4 by
        simp only [IRQ_PEND, IRQ_MASK]; omega),
      arrIdx_eq_some (show 0 < 4 by decide) (show IRQ_PEND w = IRQ_PEND 0 + 4 * w from rfl) hw]

/-- IRQ_MASKw and IRQ_PENDw read the bits that the accessor reaches, and the read does nothing else (R350). -/
theorem Dev.access_irqRead {d : Dev} {m : Mem} {a : Sys2Proof.Acc} (hmay : d.mayRead m a x) :
    d.access m a .read x 4 0 = (d.returns (d.rn x &&& d.irqBits a w &&& 0xFFFFFFFF), m) := by
  obtain ⟨hplain, hlatchable, hlatches, hwin, halign⟩ := irqRead_plain hw hx
  obtain ⟨r, hdesc, hseen⟩ := descOf_irqRead hw hx
  have hwidth : badWidth x 4 = false := by
    unfold badWidth; rw [if_neg (by omega)]; simp [halign]
  have hlive : d.deadAperture x = false := by
    simp only [Dev.deadAperture, Bool.and_eq_false_iff, decide_eq_false_iff_not]; omega
  have hinert : d.inertPage x = false := by simp [Dev.inertPage, hwin]
  have hshadow : inShadow x = false := by
    simp only [inShadow, Bool.and_eq_false_iff, decide_eq_false_iff_not]; omega
  have htime : x ≠ TIME_NOW_LO := by simp only [TIME_NOW_LO]; omega
  have hread : d.readReg a x = d.returns (d.rn x &&& d.irqBits a w &&& 0xFFFFFFFF) := by
    rw [Dev.readReg_plain a hplain hinert]
    simp only [Dev.plainRead, hdesc, hseen, Dev.value, hlatchable, hlatches, if_neg htime, Bool.false_eq_true, if_false,
      d.shown_irqRead hw hx a]
  rw [Dev.access_register_pass (window_isSome_of_descOf hdesc) hwidth hmay]
  simp only [Dev.regAccess, hlive, hshadow, hread, hwin, Nat.reduceEqDiff, Bool.false_eq_true, false_and, if_false, reduceCtorEq]

end MaskRead

/-- A write of IRQ_MASKw that the checks let through. -/
theorem Dev.access_irqMask {d : Dev} {m : Mem} {a : Sys2Proof.Acc} {w v : Nat} (hw : w < 16) (hmay : d.mayWrite m a (IRQ_MASK w)) :
    d.access m a .write (IRQ_MASK w) 4 v = (d.irqMask a w (v % 2 ^ 32), m) := by
  obtain ⟨-, -, -, hwin, halign⟩ := irqRead_plain hw (.inl rfl)
  obtain ⟨r, hdesc, -⟩ := descOf_irqRead hw (.inl rfl)
  have hwidth : badWidth (IRQ_MASK w) 4 = false := by
    unfold badWidth; rw [if_neg (by omega)]; simp [halign]
  have hlive : d.deadAperture (IRQ_MASK w) = false := by
    simp only [Dev.deadAperture, Bool.and_eq_false_iff, decide_eq_false_iff_not]; omega
  rw [Dev.access_register_pass (window_isSome_of_descOf hdesc) hwidth hmay, Dev.regAccess, hlive,
    if_neg Bool.false_ne_true, if_pos rfl, Dev.writeReg_irqMask hw]

/-- Settles O37. -/
theorem ownersReachOnlyTheirMaskBits : Obligations.OwnersReachOnlyTheirMaskBits := by
  unfold Obligations.OwnersReachOnlyTheirMaskBits
  refine ⟨?write, ?read⟩
  case write =>
    intro s dt w v a d hw hv hmay
    refine completes_onAll (exec_registerWrite ..) (by decide) ?_
    rw [Dev.access_irqMask hw hmay, Nat.mod_eq_of_lt hv]
    exact ⟨fun k hk => d.bit_irqMask a w v hk, fun b hb => d.rn_irqMask_ne a w v hb, rfl, rfl, rfl⟩
  case read =>
    intro s dt w x a d hw hx hmay
    refine completes_onAll (exec_coreMemoryAccess ..) (by decide) ?_
    rw [Dev.access_irqRead hw hx hmay]
    refine ⟨rfl, fun k hk => ?_, rfl, rfl, rfl, rfl⟩
    have hones : (0xFFFFFFFF : Nat).testBit k = true := by
      rw [show (0xFFFFFFFF : Nat) = 2 ^ 32 - 1 by decide, Nat.testBit_two_pow_sub_one]; simp [hk]
    rw [bit_eq_testBit]
    simp only [Dev.returns, Nat.testBit_and, hones, d.testBit_irqBits a w hk, bit_eq_testBit, Bool.and_true]
    split
    next h => simp [h]
    next h => simp [h]

end Sys2Proof.Machine
end

section
/-! PROOFS. The tandem pairs' commands, where their rows apply (R355–R364). -/

namespace Sys2Proof.Machine

open R

section Tandem

variable {d : Dev} {p : Nat}

theorem Dev.boundary_unseen {kind addr : Nat} {ad dd td ig : Bool} (h : d.pairSees p = false) :
    d.boundary p kind ad dd td ig addr = d := if_pos (by simp [h])

/-- A further boundary mismatch of a pair that has noted its first (R355, R356). -/
theorem Dev.boundary_again {kind addr : Nat} {ad dd td ig : Bool} {e f g : Dev}
    (he : (d.bump (TAN_PAIR_BMIS_CNT p)).pairEvt p (TAN_PAIR_STS_BMIS p) = e)
    (hf : ({ e with tan := { e.tan with injBound := e.tan.injBound.filter (· ≠ p) } } : Dev) = f)
    (hg : f.faultPost 2 0x07 0x0001 (if ig then 8 else f.pairOwner p) p [f.rn (TAN_PAIR_FIRST_INFO p), addr % 2 ^ 32]
      { core := some (2 * p), cause := 2, deferred := true } = g)
    (hstate : d.fld (TAN_PAIR_STS_STATE p) = 1) (hnoted : d.on (TAN_PAIR_STS_BMIS p) = true)
    (hstill : g.fld (TAN_PAIR_STS_STATE p) = 1) : d.boundary p kind ad dd td ig addr = g.pairReset p 2 := by
  subst he hf hg
  rw [Dev.boundary, if_neg (by simp [Dev.pairSees_of_tandem hstate])]
  dsimp only
  rw [if_pos hnoted]
  exact if_pos hstill

/-- The device once a comparison is counted and its capture dropped. -/
def Dev.foldCounted (d : Dev) (p : Nat) : Dev :=
  { (d.bump (TAN_PAIR_FOLD_CNT p)) with
    tan := { d.tan with fold := terase p d.tan.fold, injFold := d.tan.injFold.filter (· ≠ p) } }

/-- A comparison of the captured CRCs, none falsified (R358, R359). -/
theorem exec_foldCompare_next {s : State} {dt i l w : Nat} (hp : p < 4)
    (hfold : (s.now dt).tan.fold.find? (fun x => x.1 == p) = some (i, l, w)) (hsees : (s.now dt).pairSees p = true)
    (hinj : p ∉ (s.now dt).tan.injFold) : exec (.foldCompare dt p) s =
      .next (s.becomes (if l = w then (s.now dt).foldCounted p else ((s.now dt).foldCounted p).latent p l w)) := by
  refine (exec_foldCompare ..).trans (State.onDev_next (decide_eq_true hp) ?_)
  dsimp only
  rw [hfold]
  have hplain : ¬(s.now dt).tan.injFold.contains p = true := by simpa using hinj
  dsimp only
  rw [if_neg (by simp [hsees]), if_neg hplain]
  rfl

/-- An infrastructure fault of a pair that is not in TANDEM. -/
theorem Dev.infraFault_degraded {par : Bool} {rail : Nat} (h : d.fld (TAN_PAIR_STS_STATE p) = 2) : d.infraFault p par rail = d :=
  if_pos (by rw [h]; decide)

/-- An injection into a TANDEM pair with its key and Guard's grant (R364). -/
theorem Dev.tanInj_accepted {a : Sys2Proof.Acc} {v k : Nat} (hkey : bits 31 16 v = 0x7A9D) (hkind : bits 3 2 v = k) (hk : k ≠ 3)
    (hgrant : d.on MAN_DBG_STS_GUARD_INV = true) (hstate : d.fld (TAN_PAIR_STS_STATE (bits 1 0 v)) = 1) : d.tanInj a v =
      ({ d with tan := d.tan.injected k (bits 1 0 v) } : Dev).pairPost (bits 1 0 v) 0x0007 0 [k] := by
  subst hkind
  rw [Dev.tanInj, if_neg (by simp [hkey, hk]), if_neg (by simp [hgrant]), if_neg (by rw [hstate]; decide)]
  rfl

end Tandem

/-- Settles O26, row by row; the words of the controllers in a fold are the model's choice (log entry 116, DESIGN CHOICE). -/
theorem tandemCommandsTakeEffect : Obligations.TandemCommandsTakeEffect := by
  unfold Obligations.TandemCommandsTakeEffect
  refine ⟨?unseen, ?boundary, ?capture, ?equal, ?different, ?degraded, ?infra, ?injBound, ?injFold, ?injSelf⟩
  case unseen =>
    intro s dt p kind addr ad dd td ig d hp hkind hunseen
    exact (exec_boundaryMismatch ..).trans (State.onDev_next (by simp [hp, hkind]) (Dev.boundary_unseen hunseen))
  case boundary =>
    intro s dt p kind addr ad dd td ig d e f g hp hkind hstate hnoted hstill
    exact (exec_boundaryMismatch ..).trans (State.onDev_next (by simp [hp, hkind])
      (Dev.boundary_again rfl rfl rfl hstate hnoted hstill))
  case capture =>
    intro s dt p l w d hp hstate hsince hrun
    exact (exec_foldCapture ..).trans (State.onDev_next (decide_eq_true hp) (if_pos (Dev.foldDue_of hstate hsince hrun)))
  case equal =>
    intro s dt p i l d hp hfold hsees hinj
    rw [exec_foldCompare_next hp hfold hsees hinj, if_pos rfl]
    rfl
  case different =>
    intro s dt p i l w d hp hfold hsees hinj hne
    rw [exec_foldCompare_next hp hfold hsees hinj, if_neg hne]
    rfl
  case degraded =>
    intro s dt p rail par d hp hstate
    exact (exec_tandemInfrastructureFault ..).trans (State.onDev_next (decide_eq_true hp) (Dev.infraFault_degraded hstate))
  case infra =>
    intro s dt p rail par d hp hstate
    exact (exec_tandemInfrastructureFault ..).trans (State.onDev_next (decide_eq_true hp) rfl)
  case injBound =>
    intro s dt v a d hmay hkey hkind hgrant hstate
    exact (exec_tanInjBoundary ..).trans (State.onDevM_next rfl
      ((Dev.regWrite_pass hmay).trans (Dev.tanInj_accepted hkey hkind (by decide) hgrant hstate)))
  case injFold =>
    intro s dt v a d hmay hkey hkind hgrant hstate
    exact (exec_tanInjFold ..).trans (State.onDevM_next rfl
      ((Dev.regWrite_pass hmay).trans (Dev.tanInj_accepted hkey hkind (by decide) hgrant hstate)))
  case injSelf =>
    intro s dt v a d hmay hkey hkind hgrant hstate
    exact (exec_tanInjSelfTest ..).trans (State.onDevM_next rfl
      ((Dev.regWrite_pass hmay).trans (Dev.tanInj_accepted hkey hkind (by decide) hgrant hstate)))

end Sys2Proof.Machine
end

section
/-! PROOFS. The strongbox: how a descriptor is taken, run and completed (R385), root slot and odometers (R368, R382). -/

namespace Sys2Proof.Machine

open R

/-! ### What no operation of the strongbox touches -/

/-- The commands in flight under a slot's key learn that it is revoked (R375). -/
def Dev.runsRevoked (d : Dev) (s : Nat) : Dev :=
  { d with ce := { d.ce with lanes := d.ce.lanes.map (fun l => (l.1, { l.2 with run := l.2.run.map (fun r =>
      if r.slot = some s then { r with revoked := true } else r) })) } }

/-- A slot that is revoked holds neither key nor shadow (R375). -/
def SbSlot.cleared (x : SbSlot) (state : Nat) : SbSlot :=
  { x with state := state, shadow := none, last := none, k := { x.k with key := [], salt := [] } }

theorem Dev.revokeSlot_eq (d : Dev) (s : Nat) :
    d.revokeSlot s = (((d.runsRevoked s).removeSas s).setKeySlot s ((d.keySlot s).cleared 2)).settleSlot s := rfl

/-- Two states of one command of the strongbox: worlds and manifest edit, channels, fabric and waiting descriptors. -/
structure SbxKeeps (d e : Dev) : Prop where
  wld : e.wld = d.wld
  chans : e.chans = d.chans
  fab : e.fab = d.fab
  queue : e.sbx.queue = d.sbx.queue

namespace SbxKeeps

theorem refl (d : Dev) : SbxKeeps d d := ⟨rfl, rfl, rfl, rfl⟩

theorem trans {d e g : Dev} (h : SbxKeeps d e) (h' : SbxKeeps e g) : SbxKeeps d g :=
  ⟨h'.wld.trans h.wld, h'.chans.trans h.chans, h'.fab.trans h.fab, h'.queue.trans h.queue⟩

theorem each {α : Type} {d : Dev} (l : List α) {f : α → Dev → Dev} (hf : ∀ x e, SbxKeeps e (f x e)) : SbxKeeps d (d.each l f) := by
  unfold Dev.each
  induction l generalizing d with
  | nil => exact refl d
  | cons x r ih => exact (hf x d).trans ih

theorem post (d : Dev) (block code sev owner inst : Nat) (data : List Nat) :
    SbxKeeps d (d.post block code sev owner inst data) := by
  constructor <;> simp

theorem postOnce (d : Dev) (block code sev owner inst : Nat) (data : List Nat) (c : Option Nat) :
    SbxKeeps d (d.postOnce block code sev owner inst data c) := by
  constructor <;> simp

theorem sbxPost (d : Dev) (code sev owner inst : Nat) (data : List Nat) : SbxKeeps d (d.sbxPost code sev owner inst data) :=
  post ..

theorem ofSbx (d : Dev) {x : SbxSt} (h : x.queue = d.sbx.queue) : SbxKeeps d { d with sbx := x } := ⟨rfl, rfl, rfl, h⟩

theorem ofCe (d : Dev) (x : CeSt) : SbxKeeps d { d with ce := x } := ⟨rfl, rfl, rfl, rfl⟩

theorem fresh (d : Dev) (w : Nat) : SbxKeeps d (d.fresh w).2 := ⟨rfl, rfl, rfl, rfl⟩

theorem refused (d : Dev) (k : AccKind) (addr : Nat) : SbxKeeps d (d.refused sbxAcc k addr) := by
  have hfault : ∀ (e : Dev) (b c w : Nat), SbxKeeps e (e.fault 1 b c w) := fun e b c w =>
    have hsev : w < 8 ∨ 1 ≠ 2 := .inr (by decide)
    ⟨Dev.fault_wld _ _ _ _ _ _ hsev, Dev.fault_chans _ _ _ _ _ _ hsev, Dev.fault_fab _ _ _ _ _ _ hsev,
      congrArg (·.queue) (Dev.fault_sbx _ _ _ _ _ _ hsev)⟩
  have hlatch : ∀ e : Dev, SbxKeeps d e →
      SbxKeeps d ((((e.set MAN_STS_REFUSED).raiseIf MAN_INT_EN_REFUSED 360).fault 1 0x05 0x0001 (accWho sbxAcc)).postOnce
        0x05 0x0001 1 (accWho sbxAcc) (accWho sbxAcc) [addr % 2 ^ 32, addr / 2 ^ 32, 1, 0] (some 2)) := by
    intro e he
    refine he.trans (SbxKeeps.trans (e := (e.set MAN_STS_REFUSED).raiseIf MAN_INT_EN_REFUSED 360) ?_ ((hfault _ _ _ _).trans (e := Dev.fault _ 1 0x05 0x0001 (accWho sbxAcc)) ?_))
    · constructor <;> simp
    · exact postOnce ..
  unfold Dev.refused
  dsimp only
  refine hlatch _ ?_
  rw [Dev.when, if_neg (show ¬decide (sbxAcc.core < 12) = true by decide)]
  refine kept_ite (Q := SbxKeeps d) ?_ ?_
  · constructor <;> simp
  · constructor <;> simp

theorem guardDenied (d : Dev) (m : Mem) (addr len : Nat) (k : AccKind) : SbxKeeps d (d.guardDenied m addr len k) :=
  refused ..

theorem writeImage (d : Dev) : SbxKeeps d d.writeImage := by
  unfold Dev.writeImage
  split <;> exact ⟨rfl, rfl, rfl, rfl⟩

theorem setKeySlot (d : Dev) (s : Nat) (x : SbSlot) : SbxKeeps d (d.setKeySlot s x) :=
  (ofSbx d (x := { d.sbx with slots := tset SbSlot.empty x s d.sbx.slots }) rfl).trans (writeImage _)

theorem settleSlot (d : Dev) (s : Nat) : SbxKeeps d (d.settleSlot s) := by
  unfold Dev.settleSlot
  dsimp only
  refine kept_ite (Q := SbxKeeps d) (refl d) (kept_ite (Q := SbxKeeps d) (setKeySlot ..) (kept_ite (Q := SbxKeeps d) (setKeySlot ..)
    (kept_ite (Q := SbxKeeps d) ((setKeySlot ..).trans (sbxPost ..)) (refl d))))

theorem retireSlot (d : Dev) (s : Nat) : SbxKeeps d (d.retireSlot s) :=
  (setKeySlot ..).trans ((sbxPost ..).trans (settleSlot ..))

theorem takeUse (d : Dev) (s : Nat) (l : Option Nat) : SbxKeeps d (d.takeUse s l) := by
  unfold Dev.takeUse
  dsimp only
  exact kept_ite (Q := SbxKeeps d) (refl d) (kept_ite (Q := SbxKeeps d) (setKeySlot ..) (kept_ite (Q := SbxKeeps d) (setKeySlot ..)
    ((setKeySlot ..).trans (retireSlot ..))))

theorem removeSa (d : Dev) (key : Nat) : SbxKeeps d (d.removeSa key) := by
  unfold Dev.removeSa
  dsimp only
  refine SbxKeeps.trans ?_ (post ..)
  exact kept_ite (Q := SbxKeeps d) ⟨rfl, rfl, rfl, rfl⟩ ⟨rfl, rfl, rfl, rfl⟩

theorem removeSas (d : Dev) (s : Nat) : SbxKeeps d (d.removeSas s) := each _ fun _ e => removeSa e _

theorem revokeSlot (d : Dev) (s : Nat) : SbxKeeps d (d.revokeSlot s) := by
  rw [Dev.revokeSlot_eq]
  exact (ofCe d _).trans ((removeSas ..).trans ((setKeySlot ..).trans (settleSlot ..)))

theorem drbgBytes (d : Dev) (n : Nat) : SbxKeeps d (d.drbgBytes n).2 := ⟨rfl, rfl, rfl, rfl⟩

theorem agreedSalt (d : Dev) (attr : Nat) : SbxKeeps d (d.agreedSalt attr).2 := by
  unfold Dev.agreedSalt
  split
  · exact fresh d 32
  · exact refl d

theorem odoAdvance (d : Dev) (n k : Nat) : SbxKeeps d (d.odoAdvance n k) := ⟨rfl, rfl, rfl, rfl⟩

theorem cert (d : Dev) (c : List Nat) : SbxKeeps d (d.cert c).2 := by
  unfold Dev.cert
  dsimp only
  split
  · exact SbxKeeps.trans (by constructor <;> simp) (sbxPost ..)
  · exact sbxPost ..

theorem place (d : Dev) (c : SbxCmd) (k : SbKey) : SbxKeeps d (d.place c k) := by
  unfold Dev.place
  split <;> exact setKeySlot ..

end SbxKeeps

/-! ### A descriptor that Guard may read and complete -/

/-- The device once the descriptor at the head has left the queue (R385). -/
def Dev.sbxTaken (d : Dev) : Dev :=
  ({ d with sbx := { d.sbx with queue := d.sbx.queue.drop 1 } } : Dev).put SBX_STS_QFILL (d.sbx.queue.drop 1).length

theorem Dev.sbxTaken_sbx (d : Dev) : d.sbxTaken.sbx = { d.sbx with queue := d.sbx.queue.drop 1 } := rfl

/-- A slot is of the strongbox's own state. -/
theorem Dev.keySlot_of_slots {d e : Dev} (h : e.sbx.slots = d.sbx.slots) (s : Nat) : e.keySlot s = d.keySlot s :=
  congrArg (tget SbSlot.empty · s) h

theorem Dev.guardMem_of_wld {d e : Dev} (h : e.wld = d.wld) (m : Mem) (addr len : Nat) (k : AccKind) :
    e.guardMem m addr len k = d.guardMem m addr len k := by
  unfold Dev.guardMem Dev.guardFault Dev.pageEntry
  rw [h]

theorem Dev.guardMem_sbxTaken (d : Dev) (m : Mem) (addr len : Nat) (k : AccKind) :
    d.sbxTaken.guardMem m addr len k = d.guardMem m addr len k := Dev.guardMem_of_wld rfl ..

/-- STATUS as the descriptor gets it: a free one where the spec states none. -/
def SbxRes.status (r : SbxRes) : Nat := if r.st = stOpen then 1 + (r.dev.fresh 8).1 % 0x12 else r.st

/-- The device once STATUS is drawn. -/
def SbxRes.drawn (r : SbxRes) : Dev := if r.st = stOpen then (r.dev.fresh 8).2 else r.dev

/-- GEN as the descriptor gets it. -/
def SbxRes.genOut (r : SbxRes) : Nat := r.gen.getD (r.drawn.fresh 16).1

/-- The device once STATUS and GEN are drawn. -/
def SbxRes.settled (r : SbxRes) : Dev := if r.gen.isSome then r.drawn else (r.drawn.fresh 16).2

theorem SbxRes.close_eq (r : SbxRes) (m : Mem) (a : Nat) :
    r.close m a = r.settled.sbxDone m a r.status r.genOut r.out := by
  obtain ⟨st, out, gen, d⟩ := r
  unfold SbxRes.close SbxRes.settled SbxRes.status SbxRes.genOut SbxRes.drawn
  cases gen <;> split <;> rfl

theorem SbxRes.settled_keeps (r : SbxRes) {Q : Dev → Prop} (h : Q r.dev) (hfresh : ∀ e w, Q e → Q (e.fresh w).2) : Q r.settled := by
  have hdrawn : Q r.drawn := kept_ite (hfresh _ _ h) h
  exact kept_ite hdrawn (hfresh _ _ hdrawn)

theorem SbxRes.settled_sbx (r : SbxRes) : r.settled.sbx = r.dev.sbx :=
  r.settled_keeps (Q := fun e => e.sbx = r.dev.sbx) rfl fun _ _ h => h

theorem SbxRes.settled_wld (r : SbxRes) : r.settled.wld = r.dev.wld :=
  r.settled_keeps (Q := fun e => e.wld = r.dev.wld) rfl fun _ _ h => h

theorem SbxRes.settled_chans (r : SbxRes) : r.settled.chans = r.dev.chans :=
  r.settled_keeps (Q := fun e => e.chans = r.dev.chans) rfl fun _ _ h => h

theorem SbxRes.settled_fab (r : SbxRes) : r.settled.fab = r.dev.fab :=
  r.settled_keeps (Q := fun e => e.fab = r.dev.fab) rfl fun _ _ h => h

/-- A command whose descriptor Guard may write completes: the words 6 and 7, DONE and its interrupt (R385). -/
theorem SbxRes.close_writes (r : SbxRes) {m : Mem} {a : Nat} (h : r.dev.guardMem m (a + 24) 8 .write = true) :
    r.close m a = (((r.settled.set SBX_STS_DONE).raiseIf SBX_INT_EN_DONE 240).tallyD 0x85 1,
      Mem.setWords m (a + 24) [r.out.length, r.status + 256 + 65536 * r.genOut]) := by
  have h' : r.settled.guardMem m (a + 24) 8 .write = true := (Dev.guardMem_of_wld r.settled_wld ..).trans h
  rw [r.close_eq]
  unfold Dev.sbxDone
  rw [h']
  rfl

/-- What a completed command leaves: the strongbox as the operation left it, the words, DONE, and no other unit touched. -/
structure SbxRes.Closed (r : SbxRes) (a : Nat) (e : Dev) (m : Mem) : Prop where
  sbx : e.sbx = r.dev.sbx
  chans : e.chans = r.dev.chans
  fab : e.fab = r.dev.fab
  done : e.on SBX_STS_DONE = true
  length : Mem.word m (a + 24) = r.out.length % 2 ^ 32
  word : Mem.word m (a + 28) = (r.status + 256 + 65536 * r.genOut) % 2 ^ 32

theorem SbxRes.closed (r : SbxRes) {m : Mem} {a : Nat} (h : r.dev.guardMem m (a + 24) 8 .write = true) :
    r.Closed a (r.close m a).1 (r.close m a).2 := by
  rw [r.close_writes h]
  have hcalm : calm SBX_STS_DONE.addr := by decide
  refine ⟨?_, ?_, ?_, ?_, Mem.word_setWords m (a + 24) 0 _ (by simp), Mem.word_setWords m (a + 24) 1 _ (by simp)⟩
  · simpa using r.settled_sbx
  · simpa using r.settled_chans
  · simpa using r.settled_fab
  · exact (Dev.on_of_rn ((Dev.rn_tallyD _ hcalm).trans (Dev.rn_raiseIf _ _ (by decide) hcalm))).trans
      (Dev.on_set _ _ rfl (by decide))

/-- The descriptor at the head runs its operation. -/
theorem State.sbxRow_runs {s : State} {dt op a : Nat} {rest : List Nat} {f : SbxCmd → List Nat → Dev → SbxRes} {i : Instr}
    {P : State → Prop} (he : exec i s = s.sbxRow dt op f) (hq : (s.now dt).sbx.queue = a :: rest) (hop : (sbxCmd s.mem a).op = op)
    (hgate : (sbxCmd s.mem a).publicKey = true → (s.now dt).gated 2 0 = false)
    (h : P { s with dev := ((s.now dt).sbxRun s.mem a f).1, mem := ((s.now dt).sbxRun s.mem a f).2 }) : Completes i s P := by
  have hopen : (!((sbxCmd s.mem a).publicKey && (s.now dt).gated 2 0)) = true := by
    cases hp : (sbxCmd s.mem a).publicKey
    · rfl
    · rw [hgate hp]; rfl
  refine completes_onAll he rfl ?_
  dsimp only
  rw [hq]
  dsimp only
  rwa [if_pos ⟨.inl hop, hopen⟩]

/-- The bytes that an operation takes from its input buffer. -/
def SbxCmd.input (c : SbxCmd) (m : Mem) : List Nat := if sbxReads c.op then Mem.bytes m c.inAddr c.inLen else []

theorem Mem.setBytes_nil (m : Mem) (a : Nat) : Mem.setBytes m a [] = m := rfl

theorem Dev.guardMem_empty (d : Dev) (m : Mem) (addr : Nat) (k : AccKind) : d.guardMem m addr 0 k = true := by
  unfold Dev.guardMem Dev.guardFault
  rw [if_pos rfl]
  rfl

theorem Dev.sbxRun_eq (d : Dev) (m : Mem) (a : Nat) (f : SbxCmd → List Nat → Dev → SbxRes) :
    d.sbxRun m a f =
      let c := sbxCmd m a
      let e := d.sbxTaken
      let r := f c (c.input m) e
      if !e.guardMem m a 32 .read then ((e.guardDenied m a 32 .read).sbxNo 0x01).close m a
      else if !sbxOps.contains c.op then (e.sbxNo 0x02).close m a
      else if sbxReads c.op ∧ !e.guardMem m c.inAddr c.inLen .read then
        ((e.guardDenied m c.inAddr c.inLen .read).sbxNo 0x01).close m a
      else if r.st ≠ 0 then r.close m a
      else if c.outCap < r.out.length then (e.sbxNo 0x12).close m a
      else if !e.guardMem m c.outAddr r.out.length .write then
        ((e.guardDenied m c.outAddr r.out.length .write).sbxNo 0x01).close m a
      else r.close (Mem.setBytes m c.outAddr r.out) a := rfl

/-- A known operation whose buffers Guard may use and whose output fits in its buffer. -/
theorem Dev.sbxRun_runs {d : Dev} {m : Mem} {a : Nat} {f : SbxCmd → List Nat → Dev → SbxRes}
    (hread : d.guardMem m a 32 .read = true) (hop : (sbxCmd m a).op ∈ sbxOps)
    (hin : sbxReads (sbxCmd m a).op = true → d.guardMem m (sbxCmd m a).inAddr (sbxCmd m a).inLen .read = true)
    (hout : (f (sbxCmd m a) ((sbxCmd m a).input m) d.sbxTaken).out = []) :
    d.sbxRun m a f = (f (sbxCmd m a) ((sbxCmd m a).input m) d.sbxTaken).close m a := by
  have hknown : sbxOps.contains (sbxCmd m a).op = true := List.contains_iff_mem.mpr hop
  have hbuffer : ¬((sbxReads (sbxCmd m a).op = true) ∧ (!d.sbxTaken.guardMem m (sbxCmd m a).inAddr (sbxCmd m a).inLen .read) = true) := by
    rintro ⟨hreads, hno⟩
    rw [d.guardMem_sbxTaken, hin hreads] at hno
    exact absurd hno (by decide)
  rw [Dev.sbxRun_eq]
  dsimp only
  rw [d.guardMem_sbxTaken, hread, hknown, if_neg (by decide), if_neg (by decide), if_neg hbuffer, hout]
  split
  · rfl
  · rw [List.length_nil, if_neg (Nat.not_lt_zero _), Dev.guardMem_empty, if_neg (by decide), Mem.setBytes_nil]

/-- A row of the strongbox whose operation comes to `r`, with no output. -/
theorem State.sbxRow_completes {s : State} {dt op a : Nat} {rest : List Nat} {f : SbxCmd → List Nat → Dev → SbxRes} {i : Instr}
    {P : State → Prop} (he : exec i s = s.sbxRow dt op f) (hq : (s.now dt).sbx.queue = a :: rest)
    (hread : (s.now dt).guardMem s.mem a 32 .read = true) (hwrite : (s.now dt).guardMem s.mem (a + 24) 8 .write = true)
    (hop : (sbxCmd s.mem a).op = op) (hknown : op ∈ sbxOps)
    (hgate : (sbxCmd s.mem a).publicKey = true → (s.now dt).gated 2 0 = false)
    (hin : sbxReads op = true → (s.now dt).guardMem s.mem (sbxCmd s.mem a).inAddr (sbxCmd s.mem a).inLen .read = true)
    {r : SbxRes} (hr : f (sbxCmd s.mem a) ((sbxCmd s.mem a).input s.mem) (s.now dt).sbxTaken = r) (hout : r.out = [])
    (hkeeps : r.dev.wld = (s.now dt).wld)
    (h : ∀ t : State, t.pending = s.pending → r.Closed a t.dev t.mem → P t) : Completes i s P := by
  subst hr
  refine State.sbxRow_runs he hq hop hgate (h _ rfl ?_)
  rw [Dev.sbxRun_runs hread (hop ▸ hknown) (hop ▸ hin) hout]
  exact SbxRes.closed _ ((Dev.guardMem_of_wld hkeeps ..).trans hwrite)

/-! ### Root slot (R368) -/

/-- A command that ends with a STATUS alone: no slot, odometer or fuse changes. -/
theorem SbxRes.Closed.word_no {d e : Dev} {m : Mem} {a st : Nat} (h : (d.sbxNo st).Closed a e m) (hst : st < 256) :
    Mem.word m (a + 28) % 512 = st + 256 := by
  have hopen : (d.sbxNo st).status = st := if_neg (show st ≠ 256 by omega)
  rw [h.word, hopen]
  omega

theorem rootSlot_derives (test : Bool) : (rootSlot test).k.type = 4 ∧ (rootSlot test).k.usage 8 = true ∧ (rootSlot test).k.owner = 8 ∧
    (∀ b, b < 8 → 3 < b → (rootSlot test).k.usage b = false) :=
  ⟨(by decide : bits 3 0 (attrOf (4 + 2 ^ 8 + 8 * 2 ^ 10)) = 4), (by decide : bit 8 (attrOf (4 + 2 ^ 8 + 8 * 2 ^ 10)) = true), (by decide : bits 13 10 (attrOf (4 + 2 ^ 8 + 8 * 2 ^ 10)) = 8),
    (by decide : ∀ b < 8, 3 < b → bit b (attrOf (4 + 2 ^ 8 + 8 * 2 ^ 10)) = false)⟩

theorem Dev.slotStatus_root (d : Dev) {c : SbxCmd} (h : c.slot = 0) : d.slotStatus c = 0x03 := if_pos h

theorem Dev.placeStatus_root (d : Dev) {c : SbxCmd} (attr : Nat) (h : c.slot = 0) : d.placeStatus c attr = 0x03 :=
  (if_neg fun ⟨hne, _⟩ => hne h).trans (d.slotStatus_root h)

/-- What an operation comes to for slot 0. -/
def RefusesRoot (f : SbxCmd → List Nat → Dev → SbxRes) : Prop := ∀ c input d, c.slot = 0 → f c input d = d.sbxNo 0x03

theorem refusesRoot_of_placeStatus {f : SbxCmd → List Nat → Dev → SbxRes} {attr : SbxCmd → Nat}
    {g : SbxCmd → List Nat → Dev → SbxRes}
    (h : ∀ c input d, f c input d = if d.placeStatus c (attr c) ≠ 0 then d.sbxNo (d.placeStatus c (attr c)) else g c input d) :
    RefusesRoot f := by
  intro c input d hc
  rw [h, d.placeStatus_root _ hc]
  rfl

theorem refusesRoot_unwrap : RefusesRoot sbxUnwrap := by
  intro c input d hc
  unfold sbxUnwrap
  dsimp only
  rw [d.slotStatus_root hc]
  rfl

/-- The row of each operation that writes, stages, invalidates or erases a slot, and its refusal of slot 0. -/
theorem sbxRow_of_rootOp {s : State} {dt op : Nat} {i : Instr}
    (h : (op, i) ∈ [(0x01, Instr.generate dt), (0x02, .derive dt), (0x03, .unwrap dt), (0x06, .ecdh dt), (0x07, .kemEnc dt),
      (0x08, .kemDec dt), (0x20, .verifyStaged dt), (0x21, .commit dt), (0x22, .discard dt), (0x23, .invalidate dt), (0x24, .erase dt)]) :
    ∃ f, exec i s = s.sbxRow dt op f ∧ op ∈ sbxOps ∧ RefusesRoot f := by
  simp only [List.mem_cons, Prod.mk.injEq, List.not_mem_nil, or_false] at h
  rcases h with ⟨rfl, rfl⟩ | ⟨rfl, rfl⟩ | ⟨rfl, rfl⟩ | ⟨rfl, rfl⟩ | ⟨rfl, rfl⟩ | ⟨rfl, rfl⟩ | ⟨rfl, rfl⟩ | ⟨rfl, rfl⟩ | ⟨rfl, rfl⟩ |
    ⟨rfl, rfl⟩ | ⟨rfl, rfl⟩
  · exact ⟨sbxGenerate, rfl, by decide, refusesRoot_of_placeStatus fun _ _ _ => rfl⟩
  · exact ⟨sbxDerive, rfl, by decide, refusesRoot_of_placeStatus fun _ _ _ => rfl⟩
  · exact ⟨sbxUnwrap, rfl, by decide, refusesRoot_unwrap⟩
  · exact ⟨sbxEcdh, rfl, by decide, refusesRoot_of_placeStatus fun _ _ _ => rfl⟩
  · exact ⟨sbxKemEnc, rfl, by decide, refusesRoot_of_placeStatus fun _ _ _ => rfl⟩
  · exact ⟨sbxKemDec, rfl, by decide, refusesRoot_of_placeStatus fun _ _ _ => rfl⟩
  · exact ⟨sbxVerifyStaged, rfl, by decide, fun _ _ _ hc => if_pos hc⟩
  · exact ⟨sbxCommit, rfl, by decide, fun _ _ _ hc => if_pos hc⟩
  · exact ⟨sbxDiscard, rfl, by decide, fun _ _ _ hc => if_pos hc⟩
  · exact ⟨sbxInvalidate, rfl, by decide, fun _ _ _ hc => if_pos hc⟩
  · exact ⟨sbxErase, rfl, by decide, fun _ _ _ hc => if_pos hc⟩

/-- Settles O38; that BAD_SLOT comes before every other refusal of the operation is the model's choice (log entry 62). -/
theorem rootSlotRefusesEveryWrite : Obligations.RootSlotRefusesEveryWrite := by
  unfold Obligations.RootSlotRefusesEveryWrite
  refine ⟨rootSlot_derives, ?_⟩
  intro s dt a op rest i d c hq hread hwrite hslot hop hgate hin hrow
  obtain ⟨f, he, hknown, hroot⟩ := sbxRow_of_rootOp hrow
  refine State.sbxRow_completes he hq hread hwrite hop hknown hgate hin (hroot _ _ _ hslot) rfl rfl ?_
  intro t _ ht
  have hsbx : t.dev.sbx = { d.sbx with queue := rest } := ht.sbx.trans (by rw [Dev.sbxNo, Dev.sbxTaken_sbx, hq, List.drop_one]; rfl)
  exact ⟨ht.word_no (by decide), ht.length, by rw [hsbx], by rw [hsbx], by rw [hsbx], by rw [hsbx]⟩

/-! ### Odometers (R382, R383) -/

/-- How many numbers meet a condition that holds from 0 up to some number. -/
theorem lt_length_filter_range {p : Nat → Bool} (hp : ∀ i j, i ≤ j → p j = true → p i = true) {n j : Nat} (hj : j < n) :
    j < ((List.range n).filter p).length ↔ p j = true := by
  induction n with
  | zero => omega
  | succ n ih =>
    rw [List.range_succ, List.filter_append, List.length_append]
    have hle : ((List.range n).filter p).length ≤ n := (List.length_filter_le ..).trans_eq List.length_range
    cases hn : p n with
    | true =>
      have hall : (List.range n).filter p = List.range n :=
        List.filter_eq_self.mpr fun i hi => hp i n (List.mem_range.mp hi).le hn
      simp only [hall, List.length_range, List.filter_cons, hn, if_true, List.filter_nil, List.length_singleton, hj, true_iff]
      exact hp j n (by omega) hn
    | false =>
      simp only [List.filter_cons, hn, Bool.false_eq_true, if_false, List.filter_nil, List.length_nil, Nat.add_zero]
      rcases Nat.lt_succ_iff_lt_or_eq.mp hj with h | rfl
      · exact ih h
      · simp only [hn, Bool.false_eq_true, iff_false, Nat.not_lt, hle]

/-- Fuse `j` is blown at a value that reaches its threshold. -/
theorem lt_blownAt {v j : Nat} (hj : j < 32) : j < blownAt v ↔ 4 ^ (j + 1) ≤ v := by
  unfold blownAt
  rw [lt_length_filter_range (fun i j hij h => ?_) hj, decide_eq_true_iff]
  exact decide_eq_true ((Nat.pow_le_pow_right (by decide) (Nat.succ_le_succ hij)).trans (of_decide_eq_true h))

theorem Dev.odoAdvance_odo (d : Dev) (n k : Nat) : (d.odoAdvance n k).odo n = (d.odo n + k) % 2 ^ 64 := tget_tset_self ..

theorem Dev.odoAdvance_odo_ne (d : Dev) {n j : Nat} (k : Nat) (h : j ≠ n) : (d.odoAdvance n k).odo j = d.odo j :=
  tget_tset_ne _ _ _ _ h.symm

theorem Dev.odoAdvance_fuses (d : Dev) (n k : Nat) :
    tget 0 (d.odoAdvance n k).sbx.fuses n = max (tget 0 d.sbx.fuses n) (blownAt ((d.odo n + k) % 2 ^ 64)) := tget_tset_self ..

theorem Dev.odoAdvance_fuses_ne (d : Dev) {n j : Nat} (k : Nat) (h : j ≠ n) :
    tget 0 (d.odoAdvance n k).sbx.fuses j = tget 0 d.sbx.fuses j := tget_tset_ne _ _ _ _ h.symm

theorem Mem.length_bytes (m : Mem) (a n : Nat) : (Mem.bytes m a n).length = n := by
  induction n generalizing a with
  | zero => rfl
  | succ n ih => exact congrArg Nat.succ (ih (a + 1))

theorem SbxRes.Closed.word_st {r : SbxRes} {e : Dev} {m : Mem} {a st : Nat} (h : r.Closed a e m) (hst : r.st = st) (hlt : st < 256) :
    Mem.word m (a + 28) % 512 = st + 256 := by
  have hopen : r.status = st := (if_neg (show r.st ≠ 256 by omega)).trans hst
  rw [h.word, hopen]
  omega

/-- Settles O40. -/
theorem odometersOnlyAdvance : Obligations.OdometersOnlyAdvance := by
  unfold Obligations.OdometersOnlyAdvance
  intro s dt a rest d c k hq hread hwrite hop hlen hin
  have hinput : c.input s.mem = Mem.bytes s.mem c.inAddr c.inLen := if_pos (by rw [hop]; rfl)
  have hgate : c.publicKey = true → d.gated 2 0 = false := by
    intro h
    simp [SbxCmd.publicKey, hop] at h
  refine ⟨fun hlo hhi hk hk' hsum => ?_, fun hslot => ?_⟩
  case refine_1 =>
    have hr : sbxOdoAdvance c (c.input s.mem) d.sbxTaken = ⟨0, [], none, d.sbxTaken.odoAdvance c.slot k⟩ := by
      unfold sbxOdoAdvance
      rw [hinput, if_neg (by omega), if_neg (by rw [Mem.length_bytes]; omega), if_neg (by omega)]
    refine State.sbxRow_completes rfl hq hread hwrite hop (by decide) hgate (fun _ => hin) hr rfl rfl ?_
    intro t _ ht
    have hodo : ∀ n, t.dev.odo n = (d.sbxTaken.odoAdvance c.slot k).odo n := fun n => congrArg (fun x : SbxSt => tget 0 x.odo n) ht.sbx
    have hfuses : ∀ n, tget 0 t.dev.sbx.fuses n = tget 0 (d.sbxTaken.odoAdvance c.slot k).sbx.fuses n :=
      fun n => congrArg (fun x : SbxSt => tget 0 x.fuses n) ht.sbx
    have hv : (d.odo c.slot + k) % 2 ^ 64 = d.odo c.slot + k := Nat.mod_eq_of_lt hsum
    refine ⟨ht.word_st rfl (by decide), ?_, fun j hj => ?_, fun n hn => ⟨?_, ?_⟩, congrArg (·.slots) ht.sbx⟩
    · exact (hodo _).trans ((Dev.odoAdvance_odo ..).trans hv)
    · rw [hfuses, Dev.odoAdvance_fuses, lt_max_iff]
      change j < tget 0 d.sbx.fuses c.slot ∨ j < blownAt ((d.odo c.slot + k) % 2 ^ 64) ↔ _
      rw [hv, lt_blownAt hj]
    · exact (hodo n).trans (Dev.odoAdvance_odo_ne _ _ hn)
    · exact (hfuses n).trans (Dev.odoAdvance_fuses_ne _ _ hn)
  case refine_2 =>
    have hr : sbxOdoAdvance c (c.input s.mem) d.sbxTaken = d.sbxTaken.sbxNo 0x03 := if_pos (by omega)
    refine State.sbxRow_completes rfl hq hread hwrite hop (by decide) hgate (fun _ => hin) hr rfl rfl ?_
    intro t _ ht
    exact ⟨ht.word_no (by decide), congrArg (·.odo) ht.sbx, congrArg (·.fuses) ht.sbx, congrArg (·.slots) ht.sbx⟩

end Sys2Proof.Machine
end

section
/-! PROOFS. What the key operations of the strongbox do to the key slots (R366–R375). -/

namespace Sys2Proof.Machine

open R

/-! ### A slot under each change -/

theorem Dev.writeImage_slots (d : Dev) : d.writeImage.sbx.slots = d.sbx.slots := by
  unfold Dev.writeImage
  split <;> rfl

theorem Dev.writeImage_ce (d : Dev) : d.writeImage.ce = d.ce := by
  unfold Dev.writeImage
  split <;> rfl

theorem Dev.keySlot_setKeySlot (d : Dev) (s : Nat) (x : SbSlot) (j : Nat) :
    (d.setKeySlot s x).keySlot j = if s = j then x else d.keySlot j :=
  (Dev.keySlot_of_slots (Dev.writeImage_slots _) j).trans (tget_tset _ _ _ _ _ _ fun _ => rfl)

theorem Dev.setKeySlot_ce (d : Dev) (s : Nat) (x : SbSlot) : (d.setKeySlot s x).ce = d.ce := Dev.writeImage_ce _

theorem Dev.keySlot_sbxPost (d : Dev) (code sev owner inst : Nat) (data : List Nat) (j : Nat) :
    (d.sbxPost code sev owner inst data).keySlot j = d.keySlot j :=
  Dev.keySlot_of_slots (congrArg (·.slots) (Dev.post_sbx ..)) j

theorem Dev.sbxPost_ce (d : Dev) (code sev owner inst : Nat) (data : List Nat) :
    (d.sbxPost code sev owner inst data).ce = d.ce := Dev.post_ce ..

theorem Dev.slotBusy_of_ce {d e : Dev} (h : e.ce = d.ce) (s : Nat) : e.slotBusy s = d.slotBusy s := by
  unfold Dev.slotBusy
  rw [h]

/-- What becomes of a slot whose last operation may have ended (R367, R375). -/
def SbSlot.settled (x : SbSlot) (busy : Bool) : SbSlot :=
  if busy then x
  else if x.state = 2 then SbSlot.empty
  else if x.state = 3 ∧ (x.k.key ≠ [] ∨ x.k.salt ≠ []) then { x with k := { x.k with key := [], salt := [] } }
  else if x.state = 4 then SbSlot.empty
  else x

theorem Dev.keySlot_settleSlot (d : Dev) (s j : Nat) :
    (d.settleSlot s).keySlot j = if s = j then (d.keySlot s).settled (d.slotBusy s) else d.keySlot j := by
  have hself : d.keySlot j = if s = j then d.keySlot s else d.keySlot j := by split <;> simp_all
  unfold Dev.settleSlot SbSlot.settled
  dsimp only
  split
  · exact hself
  · split
    · exact d.keySlot_setKeySlot ..
    · split
      · exact d.keySlot_setKeySlot ..
      · split
        · exact (Dev.keySlot_sbxPost ..).trans (d.keySlot_setKeySlot ..)
        · exact hself

theorem Dev.settleSlot_ce (d : Dev) (s : Nat) : (d.settleSlot s).ce = d.ce := by
  unfold Dev.settleSlot
  dsimp only
  exact kept_ite (Q := fun e : Dev => e.ce = d.ce) rfl (kept_ite (Q := fun e : Dev => e.ce = d.ce) (d.setKeySlot_ce ..)
    (kept_ite (Q := fun e : Dev => e.ce = d.ce) (d.setKeySlot_ce ..)
      (kept_ite (Q := fun e : Dev => e.ce = d.ce) ((Dev.sbxPost_ce ..).trans (d.setKeySlot_ce ..)) rfl)))

theorem Dev.keySlot_retireSlot (d : Dev) (s j : Nat) :
    (d.retireSlot s).keySlot j =
      if s = j then SbSlot.settled { d.keySlot s with state := 3, last := none } (d.slotBusy s) else d.keySlot j := by
  unfold Dev.retireSlot
  dsimp only
  rw [Dev.keySlot_settleSlot, Dev.keySlot_sbxPost, Dev.keySlot_sbxPost, Dev.keySlot_setKeySlot, Dev.keySlot_setKeySlot,
    if_pos rfl, Dev.slotBusy_of_ce ((Dev.sbxPost_ce ..).trans (d.setKeySlot_ce ..))]
  split <;> rfl

/-- A use leaves every other slot as it was. -/
theorem Dev.keySlot_takeUse_ne (d : Dev) {s j : Nat} (l : Option Nat) (h : s ≠ j) : (d.takeUse s l).keySlot j = d.keySlot j := by
  have hset : ∀ x, (d.setKeySlot s x).keySlot j = d.keySlot j := fun x => (d.keySlot_setKeySlot ..).trans (if_neg h)
  unfold Dev.takeUse
  dsimp only
  exact kept_ite (Q := fun e : Dev => e.keySlot j = d.keySlot j) rfl (kept_ite (Q := fun e : Dev => e.keySlot j = d.keySlot j) (hset _)
    (kept_ite (Q := fun e : Dev => e.keySlot j = d.keySlot j) (hset _)
      ((Dev.keySlot_retireSlot ..).trans ((if_neg h).trans (hset _)))))

/-- A slot whose USE has no limit is as before. -/
theorem Dev.takeUse_unlimited (d : Dev) {s : Nat} (l : Option Nat) (h : (d.keySlot s).k.use = 0xFFFFFFFF) : d.takeUse s l = d :=
  if_pos h

theorem Dev.keySlot_takeUse_counted (d : Dev) {s : Nat} (l : Option Nat) (hone : (d.keySlot s).k.use ≠ 1)
    (hmax : (d.keySlot s).k.use ≠ 0xFFFFFFFF) :
    (d.takeUse s l).keySlot s = { d.keySlot s with k := { (d.keySlot s).k with use := (d.keySlot s).k.use - 1 } } := by
  unfold Dev.takeUse
  dsimp only
  rw [if_neg hmax, if_pos hone, Dev.keySlot_setKeySlot, if_pos rfl]

theorem SbSlot.settled_retired (x : SbSlot) (busy : Bool) :
    (SbSlot.settled { x with state := 3, last := none } busy).state = 3 ∧
      (SbSlot.settled { x with state := 3, last := none } busy).k.use = x.k.use := by
  unfold SbSlot.settled
  cases busy with
  | true => exact ⟨rfl, rfl⟩
  | false =>
    rw [if_neg (by decide), if_neg (show ¬3 = 2 by decide)]
    split
    · exact ⟨rfl, rfl⟩
    · rw [if_neg (show ¬3 = 4 by decide)]
      exact ⟨rfl, rfl⟩

/-- The last use of a command that ends in the same step retires the slot (R367). -/
theorem Dev.keySlot_takeUse_last (d : Dev) {s : Nat} (h : (d.keySlot s).k.use = 1) :
    ((d.takeUse s).keySlot s).state = 3 ∧ ((d.takeUse s).keySlot s).k.use = 0 := by
  unfold Dev.takeUse
  dsimp only
  rw [if_neg (by omega), if_neg (fun hne => hne h), if_neg (by decide), Dev.keySlot_retireSlot, if_pos rfl, Dev.keySlot_setKeySlot,
    if_pos rfl]
  exact (SbSlot.settled_retired ..).imp id fun huse => huse.trans (by rw [h])

/-- A use taken of a slot: USE counts down, not from 0xFFFFFFFF, and at 0 the slot is RETIRED (R367). -/
theorem Dev.takeUse_counts (d : Dev) (s : Nat) :
    ((d.keySlot s).k.use = 0xFFFFFFFF → (d.takeUse s).keySlot s = d.keySlot s) ∧
      (1 < (d.keySlot s).k.use → (d.keySlot s).k.use < 0xFFFFFFFF →
        (d.takeUse s).keySlot s = { d.keySlot s with k := { (d.keySlot s).k with use := (d.keySlot s).k.use - 1 } }) ∧
      ((d.keySlot s).k.use = 1 → ((d.takeUse s).keySlot s).state = 3 ∧ ((d.takeUse s).keySlot s).k.use = 0) :=
  ⟨fun h => by rw [d.takeUse_unlimited none h], fun h h' => d.keySlot_takeUse_counted none (by omega) (by omega),
    d.keySlot_takeUse_last⟩

/-- A slot of which a command that ends in the same step has taken a use (R367). -/
def SbSlot.used (x : SbSlot) (busy : Bool) : SbSlot :=
  if x.k.use = 0xFFFFFFFF then x
  else if x.k.use ≠ 1 then { x with k := { x.k with use := x.k.use - 1 } }
  else SbSlot.settled { x with k := { x.k with use := x.k.use - 1 }, state := 3, last := none } busy

theorem Dev.keySlot_takeUse (d : Dev) (s j : Nat) :
    (d.takeUse s).keySlot j = if s = j then (d.keySlot s).used (d.slotBusy s) else d.keySlot j := by
  by_cases hj : s = j
  · subst hj
    rw [if_pos rfl]
    unfold Dev.takeUse SbSlot.used
    dsimp only
    split
    · rfl
    · split
      · exact (d.keySlot_setKeySlot ..).trans (if_pos rfl)
      · rw [if_neg (by decide), Dev.keySlot_retireSlot, if_pos rfl, Dev.keySlot_setKeySlot, if_pos rfl,
          Dev.slotBusy_of_ce (d.setKeySlot_ce ..)]
  · rw [if_neg hj, d.keySlot_takeUse_ne none hj]

theorem Dev.keySlot_takeUse_sbxTaken (d : Dev) (s j : Nat) : (d.sbxTaken.takeUse s).keySlot j = (d.takeUse s).keySlot j :=
  (Dev.keySlot_takeUse ..).trans (d.keySlot_takeUse ..).symm

/-! ### Revocation (R375) -/

theorem Dev.removeSa_sbx (d : Dev) (key : Nat) : (d.removeSa key).sbx = d.sbx ∧ (d.removeSa key).ce = d.ce := by
  unfold Dev.removeSa
  dsimp only
  rw [Dev.post_sbx, Dev.post_ce]
  exact kept_ite (Q := fun e : Dev => e.sbx = d.sbx ∧ e.ce = d.ce) ⟨rfl, rfl⟩ ⟨rfl, rfl⟩

theorem Dev.removeSas_sbx (d : Dev) (s : Nat) : (d.removeSas s).sbx = d.sbx ∧ (d.removeSas s).ce = d.ce := by
  unfold Dev.removeSas
  exact ⟨Dev.each_keeps (·.sbx) _ (fun _ e => (e.removeSa_sbx _).1) .., Dev.each_keeps (·.ce) _ (fun _ e => (e.removeSa_sbx _).2) ..⟩

theorem Dev.slotBusy_runsRevoked (d : Dev) (s j : Nat) : (d.runsRevoked s).slotBusy j = d.slotBusy j := by
  unfold Dev.slotBusy Dev.runsRevoked
  dsimp only
  rw [List.any_map]
  congr 1
  funext l
  simp only [Function.comp]
  cases l.2.run with
  | none => rfl
  | some r =>
    simp only [Option.map_some]
    split <;> rfl

theorem Dev.keySlot_revokeSlot (d : Dev) (s j : Nat) :
    (d.revokeSlot s).keySlot j = if s = j then ((d.keySlot s).cleared 2).settled (d.slotBusy s) else d.keySlot j := by
  rw [Dev.revokeSlot_eq, Dev.keySlot_settleSlot, Dev.keySlot_setKeySlot, Dev.keySlot_setKeySlot, if_pos rfl,
    Dev.slotBusy_of_ce (Dev.setKeySlot_ce ..), Dev.slotBusy_of_ce (Dev.removeSas_sbx ..).2, Dev.slotBusy_runsRevoked]
  split
  · rfl
  · exact Dev.keySlot_of_slots (congrArg (·.slots) (Dev.removeSas_sbx ..).1) j

theorem SbSlot.settled_cleared_revoked (x : SbSlot) (busy : Bool) :
    (x.cleared 2).settled busy = if busy then x.cleared 2 else SbSlot.empty := by
  cases busy <;> rfl

theorem SbSlot.settled_cleared_erasing (x : SbSlot) (busy : Bool) :
    (x.cleared 4).settled busy = if busy then x.cleared 4 else SbSlot.empty := by
  cases busy <;> rfl

/-- A slot that holds no key any more: REVOKED or EMPTY (R375). -/
def SbSlot.gone (x : SbSlot) : Prop := x.state = 2 ∨ x = SbSlot.empty

theorem SbSlot.gone_settled (x : SbSlot) (busy : Bool) : ((x.cleared 2).settled busy).gone := by
  rw [SbSlot.settled_cleared_revoked]
  cases busy
  · exact .inr rfl
  · exact .inl rfl

/-- The slots of a list are revoked in turn: those of the list are gone, and the others as before. -/
theorem Dev.keySlot_revokeSlots (d : Dev) (l : List Nat) (j : Nat) :
    (j ∉ l → (d.each l fun t d => d.revokeSlot t).keySlot j = d.keySlot j) ∧
      (j ∈ l ∨ (d.keySlot j).gone → ((d.each l fun t d => d.revokeSlot t).keySlot j).gone) := by
  unfold Dev.each
  induction l generalizing d with
  | nil => exact ⟨fun _ => rfl, fun h => h.resolve_left (List.not_mem_nil)⟩
  | cons s r ih =>
    obtain ⟨ihout, ihin⟩ := ih (d.revokeSlot s)
    refine ⟨fun h => ?_, fun h => ihin ?_⟩
    · rw [List.mem_cons, not_or] at h
      exact (ihout h.2).trans ((d.keySlot_revokeSlot s j).trans (if_neg fun e => h.1 e.symm))
    · rw [Dev.keySlot_revokeSlot]
      by_cases hs : s = j
      · rw [if_pos hs]
        exact .inr (SbSlot.gone_settled ..)
      · rw [if_neg hs]
        exact h.imp_left fun hmem => (List.mem_cons.mp hmem).resolve_left fun e => hs e.symm

/-! ### The slots derived from a slot, at every depth (R375) -/

/-- Slot `j` was derived from slot `i`. -/
def Dev.derivedFrom (d : Dev) (i j : Nat) : Prop := (d.keySlot j).state ≠ 0 ∧ (d.keySlot j).k.parent = some i

/-- One round of `descend`: the children of the slots of a list, in the order of the slots, join it. -/
def withChildren (slots : List (Nat × SbSlot)) (l : List Nat) : List Nat :=
  slots.foldl (fun l x =>
    match x.2.k.parent with
    | some p => if l.contains p && x.2.state != 0 then insertNat x.1 l else l
    | none => l) l

theorem descend_succ (slots : List (Nat × SbSlot)) (l : List Nat) (n : Nat) :
    descend slots l (n + 1) = descend slots (withChildren slots l) n := rfl

theorem subset_insertNat (a : Nat) (l : List Nat) : l ⊆ insertNat a l := by
  induction l with
  | nil => exact List.nil_subset _
  | cons x r ih =>
    unfold insertNat
    split
    · exact List.Subset.refl _
    · split
      · exact List.subset_cons_self ..
      · exact List.cons_subset_cons _ ih

theorem subset_withChildren (slots : List (Nat × SbSlot)) (l : List Nat) : l ⊆ withChildren slots l := by
  unfold withChildren
  induction slots generalizing l with
  | nil => exact List.Subset.refl l
  | cons x r ih =>
    refine List.Subset.trans ?_ (ih _)
    dsimp only
    split
    · split
      · exact subset_insertNat _ _
      · exact List.Subset.refl l
    · exact List.Subset.refl l

theorem mem_withChildren {slots : List (Nat × SbSlot)} {l : List Nat} {i : Nat} {x : Nat × SbSlot} (hx : x ∈ slots)
    (hp : x.2.k.parent = some i) (hs : x.2.state ≠ 0) (hi : i ∈ l) : x.1 ∈ withChildren slots l := by
  unfold withChildren
  induction slots generalizing l with
  | nil => cases hx
  | cons y r ih =>
    rcases List.mem_cons.mp hx with rfl | hx
    · refine subset_withChildren r _ ?_
      dsimp only
      rw [hp]
      dsimp only
      rw [if_pos (by simp [hi, hs])]
      exact mem_insertNat ..
    · refine ih hx ?_
      exact subset_withChildren [y] l hi

theorem subset_descend (slots : List (Nat × SbSlot)) (l : List Nat) (n : Nat) : l ⊆ descend slots l n := by
  induction n generalizing l with
  | zero => exact List.Subset.refl l
  | succ n ih => exact List.Subset.trans (subset_withChildren slots l) (ih _)

/-- A list that holds the children of its slots. -/
def Dev.closedUnder (d : Dev) (l : List Nat) : Prop := ∀ i j, i ∈ l → d.derivedFrom i j → j ∈ l

/-- A slot that reads as other than empty stands among the slots. -/
theorem Dev.mem_slots_of_state {d : Dev} {j : Nat} (h : (d.keySlot j).state ≠ 0) : (j, d.keySlot j) ∈ d.sbx.slots := by
  unfold Dev.keySlot at h ⊢
  generalize d.sbx.slots = slots at h ⊢
  induction slots with
  | nil => exact absurd (rfl : SbSlot.empty.state = 0) h
  | cons x r ih =>
    obtain ⟨k, v⟩ := x
    unfold tget at h ⊢
    by_cases hk : k = j
    · rw [if_pos hk, hk]
      exact List.mem_cons_self
    · rw [if_neg hk] at h ⊢
      exact List.mem_cons_of_mem _ (ih h)

theorem Dev.mem_withChildren_of_derivedFrom {d : Dev} {l : List Nat} {i j : Nat} (hi : i ∈ l) (h : d.derivedFrom i j) :
    j ∈ withChildren d.sbx.slots l := mem_withChildren (d.mem_slots_of_state h.1) h.2 h.1 hi

/-- How many slots of the device a list holds. -/
def Dev.slotsIn (d : Dev) (l : List Nat) : Finset Nat := (d.sbx.slots.map (·.1)).toFinset ∩ l.toFinset

/-- A list that is not closed holds one slot more after a round. -/
theorem Dev.card_slotsIn_withChildren {d : Dev} {l : List Nat} (h : ¬d.closedUnder l) :
    (d.slotsIn l).card < (d.slotsIn (withChildren d.sbx.slots l)).card := by
  obtain ⟨i, j, hi, hij, hj⟩ : ∃ i j, i ∈ l ∧ d.derivedFrom i j ∧ j ∉ l := by
    simpa [Dev.closedUnder] using h
  refine Finset.card_lt_card ((Finset.ssubset_iff_of_subset ?_).mpr ⟨j, ?_, ?_⟩)
  · exact Finset.inter_subset_inter_left fun x hx => List.mem_toFinset.mpr (subset_withChildren _ _ (List.mem_toFinset.mp hx))
  · rw [Dev.slotsIn, Finset.mem_inter, List.mem_toFinset, List.mem_toFinset]
    exact ⟨List.mem_map_of_mem (d.mem_slots_of_state hij.1), Dev.mem_withChildren_of_derivedFrom hi hij⟩
  · rw [Dev.slotsIn, Finset.mem_inter, List.mem_toFinset, List.mem_toFinset]
    exact fun hmem => hj hmem.2

/-- After `n` rounds one of the lists so far is closed, or the last holds `n` slots. -/
theorem Dev.descend_closed_or_grows (d : Dev) (l : List Nat) (n : Nat) :
    (∃ k, d.closedUnder k ∧ l ⊆ k ∧ k ⊆ descend d.sbx.slots l n) ∨
      (∀ k, descend d.sbx.slots l n = k → n + (d.slotsIn l).card ≤ (d.slotsIn k).card) := by
  induction n generalizing l with
  | zero => exact .inr fun k hk => by subst hk; exact (Nat.zero_add _).le
  | succ n ih =>
    rw [descend_succ]
    by_cases hc : d.closedUnder l
    · exact .inl ⟨l, hc, List.Subset.refl l, List.Subset.trans (subset_withChildren _ l) (subset_descend ..)⟩
    · have hgrows := Dev.card_slotsIn_withChildren hc
      refine (ih (withChildren d.sbx.slots l)).imp ?_ fun h k hk => ?_
      · rintro ⟨k, hk, hl, hsub⟩
        exact ⟨k, hk, List.Subset.trans (subset_withChildren _ l) hl, hsub⟩
      · exact le_trans (by omega) (h k hk)

/-- As many rounds as there are slots reach every slot derived from one of the list. -/
theorem Dev.exists_closed_descend (d : Dev) (l : List Nat) :
    ∃ k, d.closedUnder k ∧ l ⊆ k ∧ k ⊆ descend d.sbx.slots l d.sbx.slots.length := by
  refine (d.descend_closed_or_grows l d.sbx.slots.length).elim id fun h => ?_
  refine ⟨_, ?_, subset_descend .., List.Subset.refl _⟩
  intro i j _ hij
  have hcard : (d.sbx.slots.map (·.1)).toFinset.card ≤ (d.slotsIn (descend d.sbx.slots l d.sbx.slots.length)).card :=
    ((List.toFinset_card_le _).trans_eq (List.length_map _)).trans ((Nat.le_add_right ..).trans (h _ rfl))
  have hall : d.slotsIn (descend d.sbx.slots l d.sbx.slots.length) = (d.sbx.slots.map (·.1)).toFinset :=
    Finset.eq_of_subset_of_card_le Finset.inter_subset_left hcard
  have hj : j ∈ (d.sbx.slots.map (·.1)).toFinset :=
    List.mem_toFinset.mpr (List.mem_map_of_mem (d.mem_slots_of_state hij.1))
  rw [← hall, Dev.slotsIn, Finset.mem_inter] at hj
  exact List.mem_toFinset.mp hj.2

/-- Every other slot derived from a slot, at any depth, is one of its descendants. -/
theorem Dev.mem_descendants {d : Dev} {s j : Nat} (h : Relation.TransGen d.derivedFrom s j) (hj : j ≠ s) : j ∈ d.descendants s := by
  obtain ⟨k, hclosed, hs, hsub⟩ := d.exists_closed_descend [s]
  have hmem : j ∈ k := by
    clear hj
    induction h with
    | single hsj => exact hclosed _ _ (hs List.mem_cons_self) hsj
    | tail _ hij ih => exact hclosed _ _ ih hij
  exact List.mem_filter.mpr ⟨hsub hmem, decide_eq_true hj⟩

theorem Dev.ne_of_mem_descendants {d : Dev} {s j : Nat} (h : j ∈ d.descendants s) : j ≠ s :=
  of_decide_eq_true (List.mem_filter.mp h).2

/-! ### STATUS of the commands that do what they are asked -/

/-- A slot that may take a new key: occupied with SHADOW, empty without (R372). -/
def Dev.takesKey (d : Dev) (c : SbxCmd) : Prop :=
  (c.shadow = true ∧ ((d.keySlot c.slot).state = 1 ∨ (d.keySlot c.slot).state = 3)) ∨ (c.shadow = false ∧ (d.keySlot c.slot).state = 0)

theorem Dev.slotStatus_zero {d : Dev} {c : SbxCmd} (hslot : c.slot ≠ 0) (h : d.takesKey c) : d.slotStatus c = 0 := by
  unfold Dev.slotStatus
  dsimp only
  rw [if_neg hslot]
  obtain ⟨hshadow, hstate⟩ | ⟨hshadow, hstate⟩ := h
  · rw [if_pos hshadow]
    obtain hstate | hstate := hstate
    · rw [if_neg (by omega), SbSlot.stateStatus, hstate]
      rfl
    · exact if_pos hstate
  · rw [hshadow, if_neg Bool.false_ne_true, if_neg (fun h => h hstate)]

theorem Dev.placeStatus_zero {d : Dev} {c : SbxCmd} {attr : Nat} (hslot : c.slot ≠ 0) (hattr : attrOk attr = true) (h : d.takesKey c) :
    d.placeStatus c attr = 0 :=
  (if_neg fun ⟨_, hno⟩ => by rw [hattr] at hno; exact absurd hno (by decide)).trans (Dev.slotStatus_zero hslot h)

theorem SbSlot.useStatus_zero {x : SbSlot} {b owner : Nat} (hstate : x.state = 1) (huse : x.k.use ≠ 0) (hb : x.k.usage b = true)
    (howner : x.k.owner = owner) : x.useStatus (some b) owner = 0 := by
  have hactive : x.stateStatus = 0 := by rw [SbSlot.stateStatus, hstate]; rfl
  unfold SbSlot.useStatus
  dsimp only
  rw [hactive, if_neg (fun h => h rfl), if_neg huse, hb, if_neg (by decide), if_neg (fun h => h howner)]

/-- The slot that takes a new key: as its unverified shadow, or as its key with GEN 1 (R372). -/
theorem Dev.keySlot_place (d : Dev) (c : SbxCmd) (k : SbKey) (j : Nat) :
    (d.place c k).keySlot j =
      if c.slot = j then (if c.shadow then { d.keySlot c.slot with shadow := some (k, false) }
        else { k := k, gen := 1, state := 1, shadow := none, last := none })
      else d.keySlot j := by
  unfold Dev.place
  dsimp only
  split <;> exact d.keySlot_setKeySlot ..

theorem SbxRes.Closed.keySlot {r : SbxRes} {e : Dev} {m : Mem} {a : Nat} (h : r.Closed a e m) (j : Nat) :
    e.keySlot j = r.dev.keySlot j := Dev.keySlot_of_slots (congrArg (·.slots) h.sbx) j

/-- STATUS as it stands in word 7. -/
theorem SbxRes.Closed.bits_word {r : SbxRes} {e : Dev} {m : Mem} {a st : Nat} (h : r.Closed a e m) (hst : r.st = st) (hlt : st < 256) :
    bits 7 0 (Mem.word m (a + 28)) = st := by
  have := h.word_st hst hlt
  simp only [bits]
  omega

theorem SbxRes.Closed.bits_word_open {r : SbxRes} {e : Dev} {m : Mem} {a : Nat} (h : r.Closed a e m) (hst : r.st = stOpen) :
    bits 7 0 (Mem.word m (a + 28)) ≠ 0 := by
  have hopen : r.status = 1 + (r.dev.fresh 8).1 % 0x12 := if_pos hst
  rw [h.word, hopen]
  simp only [bits]
  omega

theorem SbxCmd.publicKey_false {c : SbxCmd} (hop : c.op ∉ [5, 6, 7, 8, 0x10, 0x11, 0x12, 0x30, 1, 0x20]) : c.publicKey = false := by
  simp only [List.mem_cons, List.not_mem_nil, or_false, not_or] at hop
  simp [SbxCmd.publicKey, hop]

theorem SbxCmd.publicKey_symmetric {c : SbxCmd} (hop : c.op = 1) (hecc : bits 3 0 c.attr ≠ 5) (hkem : bits 3 0 c.attr ≠ 6) :
    c.publicKey = false := by
  simp [SbxCmd.publicKey, hop, hecc, hkem]

theorem SbxCmd.publicKey_value {c : SbxCmd} (hop : c.op = 0x20) (hslot2 : c.slot2 = 0xFF) : c.publicKey = false := by
  simp [SbxCmd.publicKey, hop, hslot2]

theorem SbxCmd.gate_open {c : SbxCmd} {d : Dev} (h : c.publicKey = false) : c.publicKey = true → d.gated 2 0 = false :=
  fun h' => absurd (h.symm.trans h') Bool.false_ne_true

/-! ### The operations -/

/-- The key that GENERATE draws (R371, R381). -/
def Dev.generated (d : Dev) (c : SbxCmd) : SbKey :=
  { attr := c.attr, use := c.use, parent := none, key := (d.drbgBytes (keyLen c.attr)).1,
    salt := if bit 16 c.attr then ((d.drbgBytes (keyLen c.attr)).2.drbgBytes 4).1 else [] }

/-- The device once that key is drawn. -/
def Dev.keyDrawn (d : Dev) (c : SbxCmd) : Dev :=
  if bit 16 c.attr then ((d.drbgBytes (keyLen c.attr)).2.drbgBytes 4).2 else (d.drbgBytes (keyLen c.attr)).2

theorem Dev.keyDrawn_keySlot (d : Dev) (c : SbxCmd) (j : Nat) : (d.keyDrawn c).keySlot j = d.keySlot j := by
  unfold Dev.keyDrawn
  split <;> rfl

theorem Dev.keyDrawn_wld (d : Dev) (c : SbxCmd) : (d.keyDrawn c).wld = d.wld := by
  unfold Dev.keyDrawn
  split <;> rfl

theorem sbxGenerate_symmetric {c : SbxCmd} {d : Dev} (input : List Nat) (hslot : c.slot ≠ 0) (hecc : bits 3 0 c.attr ≠ 5)
    (hkem : bits 3 0 c.attr ≠ 6) (hattr : attrOk c.attr = true) (hdrbg : d.sbx.refused = false) (h : d.takesKey c) :
    let r := sbxGenerate c input d
    r.st = 0 ∧ r.out = [] ∧ r.dev.wld = d.wld ∧
      ∀ j, r.dev.keySlot j = if c.slot = j then (if c.shadow then { d.keySlot c.slot with shadow := some (d.generated c, false) }
        else { k := d.generated c, gen := 1, state := 1, shadow := none, last := none }) else d.keySlot j := by
  intro r
  have hr : r = { (d.keyDrawn c).sbxNew c (d.generated c) [] with st := 0 } := by
    change sbxGenerate c input d = _
    unfold sbxGenerate
    dsimp only
    rw [Dev.placeStatus_zero hslot hattr h, if_neg (fun h => h rfl), hdrbg, if_neg Bool.false_ne_true,
      if_neg (not_or.mpr ⟨hecc, hkem⟩)]
    unfold Dev.generated Dev.keyDrawn
    cases bit 16 c.attr <;> rfl
  rw [hr]
  refine ⟨rfl, rfl, (SbxKeeps.place ..).wld.trans (d.keyDrawn_wld c), fun j => ?_⟩
  change ((d.keyDrawn c).place c (d.generated c)).keySlot j = _
  rw [Dev.keySlot_place, Dev.keyDrawn_keySlot, Dev.keyDrawn_keySlot]

theorem sbxGenerate_occupied {c : SbxCmd} {d : Dev} (input : List Nat) (hslot : c.slot ≠ 0) (hattr : attrOk c.attr = true)
    (hshadow : c.shadow = false) (hstate : (d.keySlot c.slot).state ≠ 0) : sbxGenerate c input d = d.sbxNo 0x0D := by
  have hst : d.placeStatus c c.attr = 0x0D := by
    unfold Dev.placeStatus Dev.slotStatus
    dsimp only
    rw [if_neg (by simp [hattr]), if_neg hslot, hshadow, if_neg Bool.false_ne_true, if_pos hstate]
  unfold sbxGenerate
  dsimp only
  rw [hst, if_pos (by decide)]

/-- The key that DERIVE makes (R371), in the byte order of the model's choice (log entry 63, DEDUCED). -/
def Dev.derived (d : Dev) (c : SbxCmd) (input : List Nat) : SbKey :=
  let n := keyLen c.attr + (if bit 16 c.attr then 4 else 0)
  let m := kdf c.prf (d.keySlot c.slot2).k.key (input ++ [bits 13 10 c.attr, bits 3 0 c.attr] ++ beBytes 4 (8 * n)) n
  { attr := c.attr, use := c.use, parent := some c.slot2, key := m.take (keyLen c.attr), salt := m.drop (keyLen c.attr) }

theorem sbxDerive_derives {c : SbxCmd} {d : Dev} {input : List Nat} (hslot : c.slot ≠ 0) (hattr : attrOk c.attr = true)
    (h : d.takesKey c) (huse : (d.keySlot c.slot2).useStatus (some 8) c.owner = 0)
    (howner : (d.keySlot c.slot2).k.owner = bits 13 10 c.attr ∨ (d.keySlot c.slot2).k.owner = 8)
    (htype : (d.keySlot c.slot2).k.type = 4 ∨ (c.prf = true ∧ (d.keySlot c.slot2).k.type = 3)) (hlen : input.length ≤ 128) :
    sbxDerive c input d = (d.takeUse c.slot2).sbxNew c (d.derived c input) [] (some (d.keySlot c.slot2).gen) := by
  unfold sbxDerive
  dsimp only
  rw [Dev.placeStatus_zero hslot hattr h, if_neg (fun h => h rfl), huse, if_neg (fun h => h rfl), if_neg (by tauto), if_neg ?_,
    if_neg (by omega)]
  · rfl
  · rintro ⟨hne, hprf⟩
    obtain ⟨hprf', htype⟩ := htype.resolve_left hne
    rw [hprf'] at hprf
    exact hprf.elim (by decide) fun hne => hne htype

/-- What a new key that was made with a parent's key leaves: the slot that takes it, the parent's count, the other slots. -/
theorem Dev.keySlot_place_takeUse (d : Dev) (c : SbxCmd) (k : SbKey) :
    let e := (d.takeUse c.slot2).place c k
    let p := d.keySlot c.slot2
    e.keySlot c.slot = (if c.shadow then { (d.takeUse c.slot2).keySlot c.slot with shadow := some (k, false) }
        else { k := k, gen := 1, state := 1, shadow := none, last := none }) ∧
      (c.slot2 ≠ c.slot → (p.k.use = 0xFFFFFFFF → e.keySlot c.slot2 = p) ∧
        (1 < p.k.use → p.k.use < 0xFFFFFFFF → e.keySlot c.slot2 = { p with k := { p.k with use := p.k.use - 1 } }) ∧
        (p.k.use = 1 → (e.keySlot c.slot2).state = 3 ∧ (e.keySlot c.slot2).k.use = 0)) ∧
      (∀ j, j ≠ c.slot → j ≠ c.slot2 → e.keySlot j = d.keySlot j) := by
  dsimp only
  have hother : ∀ j, j ≠ c.slot → ((d.takeUse c.slot2).place c k).keySlot j = (d.takeUse c.slot2).keySlot j :=
    fun j hj => (Dev.keySlot_place ..).trans (if_neg hj.symm)
  refine ⟨(Dev.keySlot_place ..).trans (if_pos rfl), fun hne => ?_, fun j hj hj' => ?_⟩
  · rw [hother _ hne]
    exact d.takeUse_counts c.slot2
  · exact (hother j hj).trans (d.keySlot_takeUse_ne none hj'.symm)

/-- The key of a blob that opens (R385), in the record layout of the model's choice (log entry 63, DEDUCED). -/
def unwrapped (c : SbxCmd) (plain : List Nat) : SbKey :=
  { attr := attrOf (leNat (plain.take 4)), use := c.use, parent := none,
    key := (plain.drop 4).take (keyLen (attrOf (leNat (plain.take 4)))), salt := plain.drop (4 + keyLen (attrOf (leNat (plain.take 4)))) }

/-- A blob whose attributes and length are right. -/
def wellWrapped (plain : List Nat) : Prop :=
  attrOk (attrOf (leNat (plain.take 4))) = true ∧
    plain.length = 4 + keyLen (attrOf (leNat (plain.take 4))) + (if bit 16 (attrOf (leNat (plain.take 4))) then 4 else 0)

theorem sbxUnwrap_opens {c : SbxCmd} {d : Dev} {input : List Nat} (hslot : c.slot ≠ 0) (h : d.takesKey c)
    (huse : (d.keySlot c.slot2).useStatus (some 9) c.owner = 0) (htype : (d.keySlot c.slot2).k.type = 2) :
    sbxUnwrap c input d =
      match Config.unwrap (d.keySlot c.slot2).k.key input with
      | none => ((d.takeUse c.slot2).sbxNo stOpen).using (d.keySlot c.slot2).gen
      | some plain =>
        if !attrOk (attrOf (leNat (plain.take 4))) then ((d.takeUse c.slot2).sbxNo stOpen).using (d.keySlot c.slot2).gen
        else if plain.length ≠ 4 + keyLen (attrOf (leNat (plain.take 4))) + (if bit 16 (attrOf (leNat (plain.take 4))) then 4 else 0) then
          ((d.takeUse c.slot2).sbxNo 0x12).using (d.keySlot c.slot2).gen
        else (d.takeUse c.slot2).sbxNew c (unwrapped c plain) [] (some (d.keySlot c.slot2).gen) := by
  unfold sbxUnwrap
  dsimp only
  rw [Dev.slotStatus_zero hslot h, if_neg (fun h => h rfl), huse, if_neg (fun h => h rfl), if_neg (fun h => h htype)]
  cases Config.unwrap (d.keySlot c.slot2).k.key input <;> rfl

/-- A blob that opens with attributes and length right places its key. -/
theorem sbxUnwrap_places {c : SbxCmd} {d : Dev} {input plain : List Nat} (hslot : c.slot ≠ 0) (h : d.takesKey c)
    (huse : (d.keySlot c.slot2).useStatus (some 9) c.owner = 0) (htype : (d.keySlot c.slot2).k.type = 2)
    (hplain : Config.unwrap (d.keySlot c.slot2).k.key input = some plain) (hwell : wellWrapped plain) :
    sbxUnwrap c input d = (d.takeUse c.slot2).sbxNew c (unwrapped c plain) [] (some (d.keySlot c.slot2).gen) := by
  rw [sbxUnwrap_opens hslot h huse htype, hplain]
  dsimp only
  rw [if_neg (by rw [hwell.1]; decide), if_neg (fun hne => hne hwell.2)]

/-- Any other blob has used the key, and no slot but the key's changes. -/
theorem sbxUnwrap_fails {c : SbxCmd} {d : Dev} {input : List Nat} (hslot : c.slot ≠ 0) (h : d.takesKey c)
    (huse : (d.keySlot c.slot2).useStatus (some 9) c.owner = 0) (htype : (d.keySlot c.slot2).k.type = 2)
    (hbad : ∀ plain, Config.unwrap (d.keySlot c.slot2).k.key input = some plain → ¬wellWrapped plain) :
    ∃ st, sbxUnwrap c input d = ((d.takeUse c.slot2).sbxNo st).using (d.keySlot c.slot2).gen ∧
      (Config.unwrap (d.keySlot c.slot2).k.key input = none → st = stOpen) := by
  rw [sbxUnwrap_opens hslot h huse htype]
  cases hu : Config.unwrap (d.keySlot c.slot2).k.key input with
  | none => exact ⟨stOpen, rfl, fun _ => rfl⟩
  | some plain =>
    dsimp only
    by_cases hattr : attrOk (attrOf (leNat (plain.take 4))) = true
    · refine ⟨0x12, ?_, fun h => absurd h (by simp)⟩
      rw [if_neg (by rw [hattr]; decide), if_pos fun hlen => hbad plain hu ⟨hattr, hlen⟩]
    · refine ⟨stOpen, ?_, fun _ => rfl⟩
      rw [if_pos (by simp [hattr])]

theorem sbxVerifyStaged_value {c : SbxCmd} {d : Dev} {input : List Nat} {k : SbKey} {was : Bool} (hslot : c.slot ≠ 0)
    (hslot2 : c.slot2 = 0xFF) (hlen : input.length = 8) (h : (d.keySlot c.slot).shadow = some (k, was)) :
    sbxVerifyStaged c input d =
      { st := if input == (Config.prf true k.key (ascii "TCHZKCV")).take 8 then 0 else 0x0A, out := [],
        gen := some (d.keySlot c.slot).gen,
        dev := d.setKeySlot c.slot { d.keySlot c.slot with
          shadow := some (k, input == (Config.prf true k.key (ascii "TCHZKCV")).take 8) } } := by
  unfold sbxVerifyStaged
  dsimp only
  rw [if_neg hslot, h]
  dsimp only
  rw [if_pos hslot2, if_neg (fun hne => hne hlen)]

/-- The GEN of a key that is put in place of another (R374). -/
def SbSlot.nextGen (x : SbSlot) : Nat := if x.gen = 65535 then 1 else x.gen + 1

theorem sbxCommit_verified {c : SbxCmd} {d : Dev} (input : List Nat) {k : SbKey} (hslot : c.slot ≠ 0)
    (hstate : (d.keySlot c.slot).state = 1 ∨ (d.keySlot c.slot).state = 3) (h : (d.keySlot c.slot).shadow = some (k, true)) :
    sbxCommit c input d =
      { st := 0, out := [], gen := some (d.keySlot c.slot).nextGen,
        dev := ((d.setKeySlot c.slot { k := k, gen := (d.keySlot c.slot).nextGen, state := 1, shadow := none, last := none }).each
          (d.descendants c.slot) fun t d => d.revokeSlot t).sbxPost 0x0004 0 k.owner c.slot [(d.keySlot c.slot).nextGen] } := by
  unfold sbxCommit
  dsimp only
  rw [if_neg hslot, if_neg (by omega), h]
  rfl

theorem sbxCommit_unverified {c : SbxCmd} {d : Dev} (input : List Nat) (hslot : c.slot ≠ 0)
    (hstate : (d.keySlot c.slot).state = 1 ∨ (d.keySlot c.slot).state = 3)
    (h : (d.keySlot c.slot).shadow.any (fun y => y.2) = false) : sbxCommit c input d = d.sbxNo 0x0B := by
  unfold sbxCommit
  dsimp only
  rw [if_neg hslot, if_neg (by omega)]
  split
  next hsome => rw [hsome] at h; exact absurd h (by simp)
  next => rfl

theorem sbxInvalidate_revokes {c : SbxCmd} {d : Dev} (input : List Nat) (hslot : c.slot ≠ 0)
    (hstate : (d.keySlot c.slot).state = 1 ∨ (d.keySlot c.slot).state = 3) :
    sbxInvalidate c input d =
      { st := 0, out := [], gen := some (d.keySlot c.slot).gen,
        dev := (d.each (c.slot :: d.descendants c.slot) fun t d => d.revokeSlot t).sbxPost 0x0002 0 (d.keySlot c.slot).k.owner c.slot
          [(c.slot :: d.descendants c.slot).length] } := by
  unfold sbxInvalidate
  dsimp only
  rw [if_neg hslot, if_neg (by omega)]

theorem sbxErase_erases {c : SbxCmd} {d : Dev} (input : List Nat) (hslot : c.slot ≠ 0)
    (hstate : (d.keySlot c.slot).state = 1 ∨ (d.keySlot c.slot).state = 3) (h : d.descendants c.slot = []) :
    sbxErase c input d =
      { st := 0, out := [], gen := some (d.keySlot c.slot).gen,
        dev := ((d.removeSas c.slot).setKeySlot c.slot ((d.keySlot c.slot).cleared 4)).settleSlot c.slot } := by
  unfold sbxErase
  dsimp only
  rw [if_neg hslot, if_neg (by omega), if_neg (fun hne => hne h)]
  rfl

theorem sbxErase_parent {c : SbxCmd} {d : Dev} (input : List Nat) {j : Nat} (hslot : c.slot ≠ 0)
    (hstate : (d.keySlot c.slot).state = 1 ∨ (d.keySlot c.slot).state = 3) (hj : j ≠ c.slot) (h : d.derivedFrom c.slot j) :
    sbxErase c input d = d.sbxNo 0x0C := by
  have hchild : j ∈ d.descendants c.slot := Dev.mem_descendants (.single h) hj
  unfold sbxErase
  dsimp only
  rw [if_neg hslot, if_neg (by omega), if_pos (List.ne_nil_of_mem hchild)]

theorem Dev.keySlot_erased (d : Dev) (s j : Nat) :
    (((d.removeSas s).setKeySlot s ((d.keySlot s).cleared 4)).settleSlot s).keySlot j =
      if s = j then (if d.slotBusy s then (d.keySlot s).cleared 4 else SbSlot.empty) else d.keySlot j := by
  rw [Dev.keySlot_settleSlot, Dev.keySlot_setKeySlot, if_pos rfl, SbSlot.settled_cleared_erasing,
    Dev.slotBusy_of_ce ((Dev.setKeySlot_ce ..).trans (Dev.removeSas_sbx ..).2)]
  split
  · rfl
  · rename_i hne
    rw [Dev.keySlot_setKeySlot, if_neg hne]
    exact Dev.keySlot_of_slots (congrArg (·.slots) (Dev.removeSas_sbx ..).1) j

/-- A slot that is invalidated: EMPTY, or REVOKED while a command runs under its key; its descendants gone, the others as before. -/
theorem Dev.keySlot_invalidated (d : Dev) (s : Nat) :
    let e := d.each (s :: d.descendants s) fun t d => d.revokeSlot t
    e.keySlot s = (if d.slotBusy s then (d.keySlot s).cleared 2 else SbSlot.empty) ∧
      (∀ j, j ≠ s → Relation.TransGen d.derivedFrom s j → (e.keySlot j).gone) ∧
      (∀ j, j ≠ s → j ∉ d.descendants s → e.keySlot j = d.keySlot j) := by
  have hself : s ∉ d.descendants s := fun h => Dev.ne_of_mem_descendants h rfl
  have heach : (d.each (s :: d.descendants s) fun t d => d.revokeSlot t) =
      (d.revokeSlot s).each (d.descendants s) fun t d => d.revokeSlot t := rfl
  dsimp only
  refine ⟨?_, fun j hj hder => (d.keySlot_revokeSlots _ j).2 (.inl (List.mem_cons_of_mem _ (Dev.mem_descendants hder hj))),
    fun j hj hno => (d.keySlot_revokeSlots _ j).1 fun h => (List.mem_cons.mp h).elim hj hno⟩
  rw [heach, ((d.revokeSlot s).keySlot_revokeSlots _ s).1 hself, Dev.keySlot_revokeSlot, if_pos rfl, SbSlot.settled_cleared_revoked]

/-- A slot that takes its shadow's key: its descendants gone, the others as before. -/
theorem Dev.keySlot_committed (d : Dev) (s : Nat) (x : SbSlot) :
    let e := (d.setKeySlot s x).each (d.descendants s) fun t d => d.revokeSlot t
    e.keySlot s = x ∧ (∀ j, j ≠ s → Relation.TransGen d.derivedFrom s j → (e.keySlot j).gone) ∧
      (∀ j, j ≠ s → j ∉ d.descendants s → e.keySlot j = d.keySlot j) := by
  have hself : s ∉ d.descendants s := fun h => Dev.ne_of_mem_descendants h rfl
  dsimp only
  refine ⟨?_, fun j hj hder => ((d.setKeySlot s x).keySlot_revokeSlots _ j).2 (.inl (Dev.mem_descendants hder hj)), fun j hj hno => ?_⟩
  · rw [((d.setKeySlot s x).keySlot_revokeSlots _ s).1 hself, Dev.keySlot_setKeySlot, if_pos rfl]
  · rw [((d.setKeySlot s x).keySlot_revokeSlots _ j).1 hno, Dev.keySlot_setKeySlot, if_neg hj.symm]

/-- Settles O27, row by row; the layout of an UNWRAP record and the byte order of DERIVE's input are the model's choices (log
entry 63, DEDUCED). -/
theorem keyOperationsChangeTheKeySlots : Obligations.KeyOperationsChangeTheKeySlots := by
  unfold Obligations.KeyOperationsChangeTheKeySlots
  refine ⟨?generate, ?derive, ?unwrap, ?occupied, ?verifyStaged, ?commit, ?notStaged, ?discard, ?invalidate, ?erase, ?hasChildren⟩
  case generate =>
    intro s dt a rest d c x r k hq hread hwrite hop hslot hecc hkem hattr hdrbg hplace
    obtain ⟨hst, hout, hwld, hslots⟩ := sbxGenerate_symmetric (d := d.sbxTaken) (c.input s.mem) hslot hecc hkem hattr hdrbg hplace
    refine State.sbxRow_completes rfl hq hread hwrite hop (by decide) 
      (SbxCmd.gate_open (SbxCmd.publicKey_symmetric hop hecc hkem)) (fun h => absurd h (by decide)) rfl hout
      hwld fun t hp ht => ⟨?_, fun j hj => ?_, ht.bits_word hst (by decide), hp⟩
    · exact (ht.keySlot _).trans ((hslots _).trans (if_pos rfl))
    · exact (ht.keySlot _).trans ((hslots _).trans (if_neg hj.symm))
  case derive =>
    intro s dt a rest d c x p n m k hq hread hwrite hop hslot hin hattr hplace hstate huse husage howner hown htype hlen
    have hinput : c.input s.mem = Mem.bytes s.mem c.inAddr c.inLen := if_pos (by rw [hop]; rfl)
    have hr := sbxDerive_derives (d := d.sbxTaken) (input := c.input s.mem) hslot hattr hplace
      (SbSlot.useStatus_zero hstate huse husage howner) hown htype (by rw [hinput, Mem.length_bytes]; exact hlen)
    obtain ⟨hself, hparent, hother⟩ := Dev.keySlot_place_takeUse d.sbxTaken c (d.sbxTaken.derived c (c.input s.mem))
    refine State.sbxRow_completes rfl hq hread hwrite hop (by decide) (SbxCmd.gate_open (SbxCmd.publicKey_false (by rw [hop]; decide)))
      (fun _ => hin) hr rfl ((SbxKeeps.takeUse ..).trans (SbxKeeps.place ..)).wld fun t hp ht => ?_
    have hk : d.sbxTaken.derived c (c.input s.mem) = k := by rw [hinput]; rfl
    rw [hk, Dev.keySlot_takeUse_sbxTaken] at hself
    rw [hk] at hparent hother ht
    refine ⟨(ht.keySlot _).trans hself, ?_, fun j hj hj' => (ht.keySlot j).trans (hother j hj hj'), ht.bits_word rfl (by decide), hp⟩
    rw [ht.keySlot]
    exact hparent
  case unwrap =>
    intro s dt a rest d c x p hq hread hwrite hop hslot hin hplace hstate huse husage howner htype
    have hinput : c.input s.mem = Mem.bytes s.mem c.inAddr c.inLen := if_pos (by rw [hop]; rfl)
    have hgate : c.publicKey = true → d.gated 2 0 = false := SbxCmd.gate_open (SbxCmd.publicKey_false (by rw [hop]; decide))
    have hst := SbSlot.useStatus_zero hstate huse husage howner
    by_cases hwell : ∃ plain, Config.unwrap p.k.key (c.input s.mem) = some plain ∧ wellWrapped plain
    · obtain ⟨plain, hplain, hwell⟩ := hwell
      obtain ⟨hself, hparent, hother⟩ := Dev.keySlot_place_takeUse d.sbxTaken c (unwrapped c plain)
      rw [Dev.keySlot_takeUse_sbxTaken] at hself
      refine State.sbxRow_completes rfl hq hread hwrite hop (by decide) hgate (fun _ => hin)
        (sbxUnwrap_places (d := d.sbxTaken) hslot hplace hst htype hplain hwell) rfl
        ((SbxKeeps.takeUse ..).trans (SbxKeeps.place ..)).wld fun t hp ht => ?_
      rw [← hinput]
      refine ⟨fun plain' hplain' _ _ => ?_, fun hnone => absurd (hnone.symm.trans hplain) (by simp), ?_,
        fun j hj hj' => (ht.keySlot j).trans (hother j hj hj'), hp⟩
      · obtain rfl : plain = plain' := Option.some.inj (hplain.symm.trans hplain')
        exact ⟨(ht.keySlot _).trans hself, ht.bits_word rfl (by decide)⟩
      · rw [ht.keySlot]
        exact hparent
    · obtain ⟨st, hr, hopen⟩ := sbxUnwrap_fails (d := d.sbxTaken) hslot hplace hst htype
        fun plain hplain hw => hwell ⟨plain, hplain, hw⟩
      refine State.sbxRow_completes rfl hq hread hwrite hop (by decide) hgate (fun _ => hin) hr rfl (SbxKeeps.takeUse ..).wld
        fun t hp ht => ?_
      have hslots : ∀ j, t.dev.keySlot j = (d.takeUse c.slot2).keySlot j := fun j =>
        (ht.keySlot j).trans (d.keySlot_takeUse_sbxTaken ..)
      rw [← hinput]
      refine ⟨fun plain hplain hattr hlen => absurd ⟨plain, hplain, hattr, hlen⟩ hwell, fun hnone => ⟨?_, fun hne => ?_⟩,
        fun hne => ?_, fun j hj hj' => (hslots j).trans (d.keySlot_takeUse_ne none hj'.symm), hp⟩
      · exact ht.bits_word_open (hopen hnone)
      · exact (hslots _).trans (d.keySlot_takeUse_ne none hne.symm)
      · rw [hslots]
        exact d.takeUse_counts c.slot2
  case occupied =>
    intro s dt a rest d c x hq hread hwrite hop hslot hecc hkem hattr hshadow hstate
    refine State.sbxRow_completes rfl hq hread hwrite hop (by decide) (SbxCmd.gate_open (SbxCmd.publicKey_symmetric hop hecc hkem))
      (fun h => absurd h (by decide)) (sbxGenerate_occupied (d := d.sbxTaken) _ hslot hattr hshadow hstate) rfl rfl fun t hp ht => ?_
    exact ⟨congrArg (·.slots) ht.sbx, ht.bits_word rfl (by decide), hp⟩
  case verifyStaged =>
    intro s dt a rest was k d c x hq hread hwrite hop hslot hslot2 hin hlen hshadow
    have hinput : c.input s.mem = Mem.bytes s.mem c.inAddr 8 := (if_pos (by rw [hop]; rfl)).trans (by rw [hlen])
    have hr := sbxVerifyStaged_value (d := d.sbxTaken) (input := c.input s.mem) hslot hslot2 (by rw [hinput, Mem.length_bytes]) hshadow
    rw [hinput] at hr
    refine State.sbxRow_completes rfl hq hread hwrite hop (by decide) (SbxCmd.gate_open (SbxCmd.publicKey_value hop hslot2))
      (fun _ => hin) ((congrArg (sbxVerifyStaged c · d.sbxTaken) hinput).trans hr) rfl (SbxKeeps.setKeySlot ..).wld fun t hp ht => ?_
    refine ⟨(ht.keySlot _).trans ((Dev.keySlot_setKeySlot ..).trans (if_pos rfl)),
      fun j hj => (ht.keySlot j).trans ((Dev.keySlot_setKeySlot ..).trans (if_neg hj.symm)), ht.bits_word rfl ?_, hp⟩
    split <;> decide
  case commit =>
    intro s dt a rest k d c x g hq hread hwrite hop hslot hgen hstate hshadow
    obtain ⟨hself, hgone, hother⟩ := Dev.keySlot_committed d.sbxTaken c.slot
      { k := k, gen := g, state := 1, shadow := none, last := none }
    refine State.sbxRow_completes rfl hq hread hwrite hop (by decide)
      (SbxCmd.gate_open (SbxCmd.publicKey_false (by rw [hop]; decide))) (fun h => absurd h (by decide))
      (sbxCommit_verified (d := d.sbxTaken) _ hslot hstate hshadow) rfl
      ((SbxKeeps.setKeySlot ..).trans ((SbxKeeps.each _ fun t e => SbxKeeps.revokeSlot e t).trans (SbxKeeps.sbxPost ..))).wld
      fun t hp ht => ?_
    have hslots := fun j => (ht.keySlot j).trans (Dev.keySlot_sbxPost ..)
    have hword : Mem.word t.mem (a + 28) = (0 + 256 + 65536 * g) % 2 ^ 32 := ht.word
    have hg : g < 65536 := by
      change (if x.gen = 65535 then 1 else x.gen + 1) < 65536
      split <;> omega
    exact ⟨(hslots _).trans hself, fun j hj hder => by rw [hslots]; exact hgone j hj hder,
      fun j hj hno => (hslots j).trans (hother j hj hno), by omega, hp⟩
  case notStaged =>
    intro s dt a rest d c x hq hread hwrite hop hslot hstate hshadow
    refine State.sbxRow_completes rfl hq hread hwrite hop (by decide)
      (SbxCmd.gate_open (SbxCmd.publicKey_false (by rw [hop]; decide))) (fun h => absurd h (by decide))
      (sbxCommit_unverified (d := d.sbxTaken) _ hslot hstate hshadow) rfl rfl fun t hp ht => ?_
    exact ⟨congrArg (·.slots) ht.sbx, ht.bits_word rfl (by decide), hp⟩
  case discard =>
    intro s dt a rest d c x hq hread hwrite hop hslot
    refine State.sbxRow_completes rfl hq hread hwrite hop (by decide)
      (SbxCmd.gate_open (SbxCmd.publicKey_false (by rw [hop]; decide))) (fun h => absurd h (by decide)) (if_neg hslot) rfl
      (SbxKeeps.setKeySlot ..).wld fun t hp ht => ?_
    exact ⟨(ht.keySlot _).trans ((Dev.keySlot_setKeySlot ..).trans (if_pos rfl)),
      fun j hj => (ht.keySlot j).trans ((Dev.keySlot_setKeySlot ..).trans (if_neg hj.symm)), ht.bits_word rfl (by decide), hp⟩
  case invalidate =>
    intro s dt a rest d c x hq hread hwrite hop hslot hstate
    obtain ⟨hself, hgone, hother⟩ := Dev.keySlot_invalidated d.sbxTaken c.slot
    refine State.sbxRow_completes rfl hq hread hwrite hop (by decide)
      (SbxCmd.gate_open (SbxCmd.publicKey_false (by rw [hop]; decide))) (fun h => absurd h (by decide))
      (sbxInvalidate_revokes (d := d.sbxTaken) _ hslot hstate) rfl
      ((SbxKeeps.each _ fun t e => SbxKeeps.revokeSlot e t).trans (SbxKeeps.sbxPost ..)).wld fun t hp ht => ?_
    have hslots := fun j => (ht.keySlot j).trans (Dev.keySlot_sbxPost ..)
    exact ⟨(hslots _).trans hself, fun j hj hder => by rw [hslots]; exact hgone j hj hder,
      fun j hj hno => (hslots j).trans (hother j hj hno), ht.bits_word rfl (by decide), hp⟩
  case erase =>
    intro s dt a rest d c x hq hread hwrite hop hslot hstate hnone
    refine State.sbxRow_completes rfl hq hread hwrite hop (by decide)
      (SbxCmd.gate_open (SbxCmd.publicKey_false (by rw [hop]; decide))) (fun h => absurd h (by decide))
      (sbxErase_erases (d := d.sbxTaken) _ hslot hstate hnone) rfl
      ((SbxKeeps.removeSas ..).trans ((SbxKeeps.setKeySlot ..).trans (SbxKeeps.settleSlot ..))).wld fun t hp ht => ?_
    exact ⟨(ht.keySlot _).trans ((Dev.keySlot_erased ..).trans (if_pos rfl)),
      fun j hj => (ht.keySlot j).trans ((Dev.keySlot_erased ..).trans (if_neg hj.symm)), ht.bits_word rfl (by decide), hp⟩
  case hasChildren =>
    intro s dt a j rest d c x hq hread hwrite hop hslot hstate hj hchild hparent
    refine State.sbxRow_completes rfl hq hread hwrite hop (by decide)
      (SbxCmd.gate_open (SbxCmd.publicKey_false (by rw [hop]; decide))) (fun h => absurd h (by decide))
      (sbxErase_parent (d := d.sbxTaken) _ hslot hstate hj ⟨hchild, hparent⟩) rfl rfl fun t hp ht => ?_
    exact ⟨congrArg (·.slots) ht.sbx, ht.bits_word rfl (by decide), hp⟩

end Sys2Proof.Machine
end

section
/-! PROOFS. Every operation of the strongbox completes its descriptor (R385); submissions, random numbers, tamper alarms
(R376, R377, R381). -/

namespace Sys2Proof.Machine

open R

/-! ### What an operation comes to -/

/-- An operation that keeps worlds, channels, fabric and waiting descriptors and whose STATUS fits in its byte. -/
structure SbxRes.Proper (d : Dev) (r : SbxRes) : Prop where
  keeps : SbxKeeps d r.dev
  st : r.st ≤ stOpen

namespace SbxRes.Proper

theorem no {d e : Dev} {st : Nat} (h : SbxKeeps d e) (hst : st ≤ stOpen) : (e.sbxNo st).Proper d := ⟨h, hst⟩

theorem done {d : Dev} {r : SbxRes} (h : SbxKeeps d r.dev) (hst : r.st = 0) : r.Proper d := ⟨h, hst.trans_le (Nat.zero_le _)⟩

theorem failed {d e : Dev} {st : Nat} (h : SbxKeeps d e) (hst : st ≤ stOpen) (gen : Nat) : ((e.sbxNo st).using gen).Proper d := ⟨h, hst⟩

theorem sbxNew {d e : Dev} (h : SbxKeeps d e) (c : SbxCmd) (k : SbKey) (out : List Nat) (used : Option Nat) :
    (e.sbxNew c k out used).Proper d := done (h.trans (SbxKeeps.place ..)) rfl

theorem ite {d : Dev} {p : Prop} [Decidable p] {r q : SbxRes} (hr : r.Proper d) (hq : q.Proper d) :
    SbxRes.Proper d (if p then r else q) := kept_ite hr hq

end SbxRes.Proper

theorem SbSlot.stateStatus_le (x : SbSlot) : x.stateStatus ≤ stOpen := by
  unfold SbSlot.stateStatus
  split <;> decide

theorem SbSlot.useStatus_le (x : SbSlot) (b : Option Nat) (owner : Nat) : x.useStatus b owner ≤ stOpen := by
  have hstatus := x.stateStatus_le
  unfold SbSlot.useStatus
  exact kept_ite (Q := fun n : Nat => n ≤ stOpen) hstatus (kept_ite (Q := fun n : Nat => n ≤ stOpen) (by decide)
    (kept_ite (Q := fun n : Nat => n ≤ stOpen) (by decide) (kept_ite (Q := fun n : Nat => n ≤ stOpen) (by decide) (by decide))))

theorem Dev.slotStatus_le (d : Dev) (c : SbxCmd) : d.slotStatus c ≤ stOpen := by
  unfold Dev.slotStatus
  exact kept_ite (Q := fun n : Nat => n ≤ stOpen) (by decide) (kept_ite (Q := fun n : Nat => n ≤ stOpen)
    (kept_ite (Q := fun n : Nat => n ≤ stOpen) (by decide) (SbSlot.stateStatus_le _))
    (kept_ite (Q := fun n : Nat => n ≤ stOpen) (by decide) (by decide)))

theorem Dev.placeStatus_le (d : Dev) (c : SbxCmd) (attr : Nat) : d.placeStatus c attr ≤ stOpen :=
  kept_ite (Q := fun n : Nat => n ≤ stOpen) (le_refl _) (d.slotStatus_le c)

/-! ### The 20 operations -/

/-- An operation of the strongbox keeps what none touches. -/
def SbxProper (f : SbxCmd → List Nat → Dev → SbxRes) : Prop := ∀ c input d, (f c input d).Proper d

theorem sbxGenerate_proper : SbxProper sbxGenerate := by
  intro c input d
  have hdrawn : SbxKeeps d (d.keyDrawn c) := by
    unfold Dev.keyDrawn
    split
    · exact (SbxKeeps.drbgBytes ..).trans (SbxKeeps.drbgBytes ..)
    · exact SbxKeeps.drbgBytes ..
  unfold sbxGenerate
  refine .ite (.no (.refl d) (d.placeStatus_le ..)) (.ite (.no (.refl d) (by decide)) ?_)
  dsimp only
  refine .sbxNew ?_ ..
  unfold Dev.keyDrawn at hdrawn
  split at hdrawn <;> simp_all

theorem sbxDerive_proper : SbxProper sbxDerive := by
  intro c input d
  unfold sbxDerive
  exact .ite (.no (.refl d) (d.placeStatus_le ..)) (.ite (.no (.refl d) (SbSlot.useStatus_le ..)) (.ite (.no (.refl d) (by decide))
    (.ite (.no (.refl d) (by decide)) (.ite (.no (.refl d) (by decide)) (.sbxNew (SbxKeeps.takeUse ..) ..)))))

theorem sbxUnwrap_proper : SbxProper sbxUnwrap := by
  intro c input d
  have huse : SbxKeeps d (d.takeUse c.slot2) := SbxKeeps.takeUse ..
  unfold sbxUnwrap
  refine .ite (.no (.refl d) (d.slotStatus_le ..)) (.ite (.no (.refl d) (SbSlot.useStatus_le ..)) (.ite (.no (.refl d) (by decide)) ?_))
  dsimp only
  split
  · exact .failed huse (by decide) _
  · exact .ite (.failed huse (by decide) _) (.ite (.failed huse (by decide) _) (.sbxNew huse ..))

theorem sbxWrap_proper : SbxProper sbxWrap := by
  intro c input d
  unfold sbxWrap
  exact .ite (.no (.refl d) (SbSlot.stateStatus_le _)) (.ite (.no (.refl d) (by decide)) (.ite (.no (.refl d) (SbSlot.useStatus_le ..))
    (.ite (.no (.refl d) (by decide)) (.done (SbxKeeps.takeUse ..) rfl))))

theorem sbxPublic_proper : SbxProper sbxPublic := by
  intro c input d
  unfold sbxPublic
  exact .ite (.no (.refl d) (SbSlot.useStatus_le ..)) (.ite (.no (.refl d) (by decide)) (.done (SbxKeeps.takeUse ..) rfl))

theorem sbxEcdh_proper : SbxProper sbxEcdh := by
  intro c input d
  have huse : SbxKeeps d (d.takeUse c.slot2) := SbxKeeps.takeUse ..
  unfold sbxEcdh
  refine .ite (.no (.refl d) (d.placeStatus_le ..)) (.ite (.no (.refl d) (SbSlot.useStatus_le ..)) (.ite (.no (.refl d) (by decide))
    (.ite (.no (.refl d) (by decide)) ?_)))
  dsimp only
  split
  · exact .failed huse (by decide) _
  · exact .sbxNew (huse.trans (SbxKeeps.agreedSalt ..)) ..

theorem sbxKemEnc_proper : SbxProper sbxKemEnc := by
  intro c input d
  unfold sbxKemEnc
  exact .ite (.no (.refl d) (d.placeStatus_le ..)) (.ite (.no (.refl d) (by decide)) (.ite (.no (.refl d) (by decide))
    (.sbxNew ((SbxKeeps.ofSbx d (x := { d.sbx with drbg := d.sbx.drbg + 8 }) rfl).trans (SbxKeeps.agreedSalt ..)) ..)))

theorem sbxKemDec_proper : SbxProper sbxKemDec := by
  intro c input d
  unfold sbxKemDec
  exact .ite (.no (.refl d) (d.placeStatus_le ..)) (.ite (.no (.refl d) (SbSlot.useStatus_le ..)) (.ite (.no (.refl d) (by decide))
    (.ite (.no (.refl d) (by decide)) (.sbxNew ((SbxKeeps.takeUse ..).trans (SbxKeeps.agreedSalt ..)) ..))))

theorem sbxVerify_proper (slot keys total : Nat) (mgmt : Bool) (c : SbxCmd) (input : List Nat)
    (sigOk : List Nat → List Nat → List Nat → Bool) (d : Dev) : (sbxVerify slot keys total mgmt c input sigOk d).Proper d := by
  unfold sbxVerify
  exact .ite (.no (.refl d) (by decide)) (.ite (.no (.refl d) (SbSlot.useStatus_le ..)) (.ite (.no (.refl d) (by decide))
    ⟨SbxKeeps.takeUse .., kept_ite (Q := fun n : Nat => n ≤ stOpen) (by decide) (by decide)⟩))

theorem sbxRandom_proper : SbxProper sbxRandom := by
  intro c input d
  unfold sbxRandom
  exact .ite (.no (.refl d) (by decide)) (.done (SbxKeeps.drbgBytes ..) rfl)

theorem sbxVerifyStaged_proper : SbxProper sbxVerifyStaged := by
  intro c input d
  have hverdict : ∀ b : Bool, (if b then 0 else 0x0A) ≤ stOpen := by decide
  unfold sbxVerifyStaged
  refine .ite (.no (.refl d) (by decide)) ?_
  split
  · exact .no (.refl d) (by decide)
  · refine .ite (.ite (.no (.refl d) (by decide)) ⟨SbxKeeps.setKeySlot .., hverdict _⟩) ?_
    have hr := sbxVerify_proper c.slot2 2049 5502 true c input hybridOk d
    exact .ite hr ⟨hr.keeps.trans (SbxKeeps.setKeySlot ..), hverdict _⟩

theorem sbxCommit_proper : SbxProper sbxCommit := by
  intro c input d
  unfold sbxCommit
  refine .ite (.no (.refl d) (by decide)) (.ite (.no (.refl d) (SbSlot.stateStatus_le _)) ?_)
  split
  · exact .done ((SbxKeeps.setKeySlot ..).trans ((SbxKeeps.each _ fun t e => SbxKeeps.revokeSlot e t).trans (SbxKeeps.sbxPost ..))) rfl
  · exact .no (.refl d) (by decide)

theorem sbxDiscard_proper : SbxProper sbxDiscard := by
  intro c input d
  unfold sbxDiscard
  exact .ite (.no (.refl d) (by decide)) (.done (SbxKeeps.setKeySlot ..) rfl)

theorem sbxInvalidate_proper : SbxProper sbxInvalidate := by
  intro c input d
  unfold sbxInvalidate
  exact .ite (.no (.refl d) (by decide)) (.ite (.no (.refl d) (SbSlot.stateStatus_le _))
    (.done ((SbxKeeps.each _ fun t e => SbxKeeps.revokeSlot e t).trans (SbxKeeps.sbxPost ..)) rfl))

theorem sbxErase_proper : SbxProper sbxErase := by
  intro c input d
  unfold sbxErase
  exact .ite (.no (.refl d) (by decide)) (.ite (.no (.refl d) (SbSlot.stateStatus_le _)) (.ite (.no (.refl d) (by decide))
    (.done ((SbxKeeps.removeSas ..).trans ((SbxKeeps.setKeySlot ..).trans (SbxKeeps.settleSlot ..))) rfl)))

theorem sbxOdoRead_proper : SbxProper sbxOdoRead := by
  intro c input d
  unfold sbxOdoRead
  exact .ite (.no (.refl d) (by decide)) (.done (.refl d) rfl)

theorem sbxOdoAdvance_proper : SbxProper sbxOdoAdvance := by
  intro c input d
  unfold sbxOdoAdvance
  exact .ite (.no (.refl d) (by decide)) (.ite (.no (.refl d) (by decide)) (.ite (.no (.refl d) (by decide))
    (.done (SbxKeeps.odoAdvance ..) rfl)))

theorem sbxDebugCert_proper : SbxProper sbxDebugCert := fun _ _ _ =>
  ⟨SbxKeeps.cert .., kept_ite (Q := fun n : Nat => n ≤ stOpen) (by decide) (by decide)⟩

/-- The row of each operation of R385. -/
theorem sbxRow_of_op {s : State} {dt op : Nat} {i : Instr}
    (h : (op, i) ∈ [(0x01, Instr.generate dt), (0x02, .derive dt), (0x03, .unwrap dt), (0x04, .wrap dt), (0x05, .publicKey dt),
      (0x06, .ecdh dt), (0x07, .kemEnc dt), (0x08, .kemDec dt), (0x10, .verifyEcdsa dt), (0x11, .verifyMldsa dt),
      (0x12, .verifyHybrid dt), (0x18, .random dt), (0x20, .verifyStaged dt), (0x21, .commit dt), (0x22, .discard dt),
      (0x23, .invalidate dt), (0x24, .erase dt), (0x28, .odoRead dt), (0x29, .odoAdvance dt), (0x30, .debugCert dt)]) :
    ∃ f, exec i s = s.sbxRow dt op f ∧ SbxProper f := by
  simp only [List.mem_cons, Prod.mk.injEq, List.not_mem_nil, or_false] at h
  rcases h with ⟨rfl, rfl⟩ | ⟨rfl, rfl⟩ | ⟨rfl, rfl⟩ | ⟨rfl, rfl⟩ | ⟨rfl, rfl⟩ | ⟨rfl, rfl⟩ | ⟨rfl, rfl⟩ | ⟨rfl, rfl⟩ | ⟨rfl, rfl⟩ |
    ⟨rfl, rfl⟩ | ⟨rfl, rfl⟩ | ⟨rfl, rfl⟩ | ⟨rfl, rfl⟩ | ⟨rfl, rfl⟩ | ⟨rfl, rfl⟩ | ⟨rfl, rfl⟩ | ⟨rfl, rfl⟩ | ⟨rfl, rfl⟩ | ⟨rfl, rfl⟩ |
    ⟨rfl, rfl⟩
  · exact ⟨_, rfl, sbxGenerate_proper⟩
  · exact ⟨_, rfl, sbxDerive_proper⟩
  · exact ⟨_, rfl, sbxUnwrap_proper⟩
  · exact ⟨_, rfl, sbxWrap_proper⟩
  · exact ⟨_, rfl, sbxPublic_proper⟩
  · exact ⟨_, rfl, sbxEcdh_proper⟩
  · exact ⟨_, rfl, sbxKemEnc_proper⟩
  · exact ⟨_, rfl, sbxKemDec_proper⟩
  · exact ⟨_, rfl, fun _ _ _ => sbxVerify_proper ..⟩
  · exact ⟨_, rfl, fun _ _ _ => sbxVerify_proper ..⟩
  · exact ⟨_, rfl, fun _ _ _ => sbxVerify_proper ..⟩
  · exact ⟨_, rfl, sbxRandom_proper⟩
  · exact ⟨_, rfl, sbxVerifyStaged_proper⟩
  · exact ⟨_, rfl, sbxCommit_proper⟩
  · exact ⟨_, rfl, sbxDiscard_proper⟩
  · exact ⟨_, rfl, sbxInvalidate_proper⟩
  · exact ⟨_, rfl, sbxErase_proper⟩
  · exact ⟨_, rfl, sbxOdoRead_proper⟩
  · exact ⟨_, rfl, sbxOdoAdvance_proper⟩
  · exact ⟨_, rfl, sbxDebugCert_proper⟩

/-! ### Output outside the manifest -/

theorem Mem.bytes_congr {m m' : Mem} {a n : Nat} (h : ∀ x, a ≤ x → x < a + n → Mem.byte m' x = Mem.byte m x) :
    Mem.bytes m' a n = Mem.bytes m a n := by
  induction n generalizing a with
  | zero => rfl
  | succ n ih =>
    unfold Mem.bytes
    rw [h a (le_refl a) (by omega), ih fun x hx hx' => h x (by omega) (by omega)]

/-- A string outside the manifest leaves every entry. -/
theorem Mem.entry_setBytes_outside (m : Mem) (a : Nat) (l : List Nat) {i : Nat} (hi : i < 141312)
    (h : a + l.length ≤ 0x11560000 ∨ 0x115EA000 ≤ a) : Mem.entry (Mem.setBytes m a l) i = Mem.entry m i := by
  unfold Mem.entry Mem.word
  rw [Mem.bytes_congr fun x hx hx' => Mem.byte_setBytes_outside m a x l (by omega)]

theorem Dev.pageEntry_congr {d : Dev} {m m' : Mem} {i : Nat} (h : Mem.entry m' i = Mem.entry m i) :
    d.pageEntry m' i = d.pageEntry m i := by
  unfold Dev.pageEntry editResult editMoves
  rw [h]

theorem Dev.guardMem_congr {d : Dev} {m m' : Mem} (h : ∀ i < 141312, Mem.entry m' i = Mem.entry m i) (addr len : Nat) (k : AccKind) :
    d.guardMem m' addr len k = d.guardMem m addr len k := by
  have hpage : ∀ i, (decide (137216 ≤ i) || !pageAllows (d.pageEntry m' i) sbxAcc k) =
      (decide (137216 ≤ i) || !pageAllows (d.pageEntry m i) sbxAcc k) := by
    intro i
    by_cases hi : 137216 ≤ i
    · rw [decide_eq_true hi]
      rfl
    · rw [Dev.pageEntry_congr (h i (by omega))]
  unfold Dev.guardMem Dev.guardFault
  simp only [hpage]

/-! ### Completion -/

theorem SbxRes.Closed.bit_done {d : Dev} {r : SbxRes} (hr : r.Proper d) {e : Dev} {m : Mem} {a : Nat} (h : r.Closed a e m) :
    bit 8 (Mem.word m (a + 28)) = true := by
  have hst := hr.st
  have hlt : r.status < 256 := by
    unfold SbxRes.status
    split
    · omega
    · simp only [stOpen] at *
      omega
  rw [h.word]
  unfold bit
  rw [beq_iff_eq]
  omega

/-- Whatever the outcome, it is some operation's, closed in a memory whose manifest is as before. -/
theorem Dev.sbxRun_closes {d : Dev} {m : Mem} {a : Nat} {f : SbxCmd → List Nat → Dev → SbxRes} (hf : SbxProper f)
    (hout : (sbxCmd m a).outAddr + (sbxCmd m a).outCap ≤ 0x11560000 ∨ 0x115EA000 ≤ (sbxCmd m a).outAddr) :
    ∃ (r : SbxRes) (m' : Mem), d.sbxRun m a f = r.close m' a ∧ r.Proper d.sbxTaken ∧ ∀ i < 141312, Mem.entry m' i = Mem.entry m i := by
  have hdenied : ∀ addr len k, (((d.sbxTaken.guardDenied m addr len k).sbxNo 0x01)).Proper d.sbxTaken :=
    fun addr len k => .no (SbxKeeps.guardDenied ..) (by decide)
  rw [Dev.sbxRun_eq]
  dsimp only
  split
  · exact ⟨_, m, rfl, hdenied .., fun _ _ => rfl⟩
  · split
    · exact ⟨_, m, rfl, .no (.refl _) (by decide), fun _ _ => rfl⟩
    · split
      · exact ⟨_, m, rfl, hdenied .., fun _ _ => rfl⟩
      · split
        · exact ⟨_, m, rfl, hf .., fun _ _ => rfl⟩
        · split
          · exact ⟨_, m, rfl, .no (.refl _) (by decide), fun _ _ => rfl⟩
          · split
            · exact ⟨_, m, rfl, hdenied .., fun _ _ => rfl⟩
            · rename_i hcap _
              refine ⟨_, _, rfl, hf .., fun i hi => Mem.entry_setBytes_outside _ _ _ hi ?_⟩
              omega

/-- Settles O54. -/
theorem strongboxOperationsCompleteTheirDescriptor : Obligations.StrongboxOperationsCompleteTheirDescriptor := by
  unfold Obligations.StrongboxOperationsCompleteTheirDescriptor
  intro s dt a op rest i d c hq hread hwrite hop hgate hout hrow
  obtain ⟨f, he, hf⟩ := sbxRow_of_op hrow
  refine State.sbxRow_runs he hq hop hgate ?_
  obtain ⟨r, m', hr, hproper, hentries⟩ := Dev.sbxRun_closes (d := d) hf hout
  rw [hr]
  have hclosed := r.closed (m := m') (a := a)
    ((Dev.guardMem_of_wld hproper.keeps.wld ..).trans ((Dev.guardMem_congr hentries ..).trans hwrite))
  refine ⟨?_, hclosed.bit_done hproper, hclosed.done, hclosed.chans.trans hproper.keeps.chans, hclosed.fab.trans hproper.keeps.fab, rfl⟩
  exact (congrArg (·.queue) hclosed.sbx).trans (hproper.keeps.queue.trans (congrArg (List.drop 1) hq))

/-! ### Submissions, random numbers, tamper alarms -/

theorem exec_sbxSubmit (dt : Nat) (a : Sys2Proof.Acc) (v : Nat) (s : State) :
    exec (.sbxSubmit dt a v) s = s.onDevM dt true fun m d => d.regWrite m a SBX_SUBMIT (·.sbxSubmit m (v % 2 ^ 32)) := rfl

theorem exec_trngHealthFailure (dt : Nat) (s : State) :
    exec (.trngHealthFailure dt) s = s.onDev dt true fun d => if d.frm.beyvoUp then d.healthFail else d := rfl

theorem exec_drbgReseedRetry (dt : Nat) (ok : Bool) (s : State) :
    exec (.drbgReseedRetry dt ok) s =
      s.onDev dt true fun d => if ok ∧ d.frm.beyvoUp then { d with sbx := { d.sbx with refused := false } } else d := rfl

theorem exec_sbxDrbgRead (dt : Nat) (a : Sys2Proof.Acc) (s : State) :
    exec (.sbxDrbgRead dt a) s = s.onDevM dt true fun m d => d.regRead m a SBX_DRBG (·.drbgRead) := rfl

theorem exec_tamperAlarm (dt sources : Nat) (s : State) :
    exec (.tamperAlarm dt sources) s = s.onAll dt true fun m d =>
      if sources &&& d.tamperMask = 0 ∨ d.frm.tamperHold then (d, m)
      else ((d.tamperKeys m).1.tamperHold (sources &&& d.tamperMask), (d.tamperKeys m).2) := rfl

/-- A descriptor in a Guard page of SRAM with R and W, with room in the queue, waits as the last (R385). -/
theorem Dev.sbxSubmit_waits {d : Dev} {m : Mem} {v i : Nat} (hpage : pageIndex v = some i) (hlo : 0x10000000 ≤ v)
    (hhi : v < 0x11800000) (howner : entryOwner (Mem.entry m i) = 8) (hr : entryR (Mem.entry m i) = true)
    (hw : entryW (Mem.entry m i) = true) (halign : v % 32 = 0) (hroom : d.sbx.queue.length < 8) :
    d.sbxSubmit m v =
      ({ d with sbx := { d.sbx with queue := d.sbx.queue ++ [v] } } : Dev).put SBX_STS_QFILL (d.sbx.queue.length + 1) := by
  have hlen : (d.sbx.queue ++ [v]).length = d.sbx.queue.length + 1 := List.length_append
  unfold Dev.sbxSubmit
  rw [← hlen]
  refine if_pos ⟨?_, halign, hroom⟩
  simp [hpage, hlo, hhi, howner, hr, hw]

theorem Dev.sbxSubmit_full {d : Dev} (m : Mem) (v : Nat) (h : 8 ≤ d.sbx.queue.length) :
    d.sbxSubmit m v = (d.set SBX_STS_SUBMIT_REF).raiseIf SBX_INT_EN_SUBMIT_REF 241 := by
  unfold Dev.sbxSubmit
  exact if_neg fun ⟨_, _, hroom⟩ => absurd hroom (Nat.not_lt.mpr h)

/-- Settles O28, row by row. -/
theorem strongboxCommandsTakeEffect : Obligations.StrongboxCommandsTakeEffect := by
  unfold Obligations.StrongboxCommandsTakeEffect
  refine ⟨?submit, ?full, ?health, ?reseed, ?refusedRead, ?read, ?tamper, ?untampered⟩
  case submit =>
    intro s dt v i a d hmay hv hpage hlo hhi howner hr hw halign hroom
    refine (exec_sbxSubmit ..).trans (State.onDevM_next rfl ((Dev.regWrite_pass hmay).trans ?_))
    rw [Nat.mod_eq_of_lt hv]
    exact Dev.sbxSubmit_waits hpage hlo hhi howner hr hw halign hroom
  case full =>
    intro s dt v a d hmay hfull
    exact (exec_sbxSubmit ..).trans (State.onDevM_next rfl ((Dev.regWrite_pass hmay).trans (Dev.sbxSubmit_full _ _ hfull)))
  case health =>
    intro s dt d hup
    exact (exec_trngHealthFailure ..).trans (State.onDev_next rfl (if_pos hup))
  case reseed =>
    intro s dt d hup
    exact (exec_drbgReseedRetry ..).trans (State.onDev_next rfl (if_pos ⟨rfl, hup⟩))
  case refusedRead =>
    intro s dt a d hmay href
    exact (exec_sbxDrbgRead ..).trans (State.onDevM_next rfl ((Dev.regRead_pass hmay).trans (if_pos href)))
  case read =>
    intro s dt a d hmay href
    refine (exec_sbxDrbgRead ..).trans (State.onDevM_next rfl ((Dev.regRead_pass hmay).trans (if_neg ?_)))
    exact ne_true_of_eq_false href
  case tamper =>
    intro s dt sources d hsrc hhold
    refine (exec_tamperAlarm ..).trans (State.onAll_next (r := (_, _)) rfl (if_neg ?_))
    exact not_or.mpr ⟨hsrc, ne_true_of_eq_false hhold⟩
  case untampered =>
    intro s dt sources d hsrc
    exact (exec_tamperAlarm ..).trans (State.onAll_next_sameMem rfl (if_pos (.inl hsrc)))

end Sys2Proof.Machine
end

section
/-! PROOFS. The cipher engine's commands (R387–R403), row by row. -/

namespace Sys2Proof.Machine

open R

theorem exec_ceSubmit (dt : Nat) (a : Sys2Proof.Acc) (l v : Nat) (s : State) :
    exec (.ceSubmit dt a l v) s = s.onDevM dt (l < 4) fun m d => d.regWrite m a (CE_SUBMIT l) (·.ceSubmit m l (v % 2 ^ 32)) := rfl

theorem exec_chunkDeliveryRetry (dt l : Nat) (s : State) :
    exec (.chunkDeliveryRetry dt l) s = s.onAll dt (l < 4) fun m d => d.ceRetry m l := rfl

/-- The lane has been unable to deliver for STALL_MS (R389). -/
def Dev.outputStall (d : Dev) (m : Mem) (l : Nat) : Dev × Mem :=
  match (d.lane l).run with
  | none => (d, m)
  | some r =>
    if r.why = .output ∧ !(r.revoked ∧ r.escrow) ∧ 1000000 * d.fld CE_CFG_STALL_MS ≤ d.up - r.since then
      (((d.set CE_STS_STALL).raiseIf CE_INT_EN_FAULT 228).cePost 0x0006 1 r.cmd.owner l).ceAbort m l 0x15
    else (d, m)

theorem exec_outputStallTimeout (dt l : Nat) (s : State) :
    exec (.outputStallTimeout dt l) s = s.onAll dt (l < 4) fun m d => d.outputStall m l := rfl

/-- The purge instant and the notice of a command to be revoked (R399). -/
def Dev.provisionalRevoke (d : Dev) (m : Mem) (l : Nat) : Dev × Mem :=
  match (d.lane l).run with
  | none => (d, m)
  | some r =>
    if r.why = .purge ∧ !d.ceArrived r then (d, m)
    else if r.why = .purge then (d.cePurge m r).2.1.ceNotice (d.cePurge m r).2.2 l (d.cePurge m r).1
    else if r.why = .notice then d.ceNotice m l r else (d, m)

theorem exec_provisionalRevoke (dt l : Nat) (s : State) :
    exec (.provisionalRevoke dt l) s = s.onAll dt (l < 4) fun m d => d.provisionalRevoke m l := rfl

theorem exec_nonceBlockReserved (dt l : Nat) (s : State) :
    exec (.nonceBlockReserved dt l) s = s.onAll dt (l < 4) fun m d => d.reserved m l := rfl

theorem exec_ceKeyload (dt : Nat) (a : Sys2Proof.Acc) (v : Nat) (s : State) :
    exec (.ceKeyload dt a v) s = s.onDevM dt true fun m d => d.regWrite m a CE_KEYLOAD (·.keyLoad v) := rfl

theorem exec_ceKeyloadClr (dt : Nat) (a : Sys2Proof.Acc) (v : Nat) (s : State) :
    exec (.ceKeyloadClr dt a v) s = s.onDevM dt true fun m d => d.regWrite m a CE_KEYLOAD (·.keyLoad v) := rfl

theorem exec_laneFault (dt l : Nat) (s : State) :
    exec (.laneFault dt l) s = s.onAll dt (l < 4) fun m d => if d.laneUp l ∧ d.frm.beyvoUp then d.laneFault m l else (d, m) := rfl

theorem exec_ceLaneReadmit (dt : Nat) (a : Sys2Proof.Acc) (v : Nat) (s : State) :
    exec (.ceLaneReadmit dt a v) s = s.onDevM dt true fun m d => d.regWrite m a CE_LANE_CTL (·.laneCtl v) := rfl

/-- The lane's known-answer tests end (R402). -/
def Dev.laneTested (d : Dev) (l : Nat) (pass : Bool) : Dev :=
  if d.ce.testing.contains l then
    let d : Dev := { d with ce := { d.ce with testing := d.ce.testing.filter (· ≠ l) } }
    if pass then (d.set ⟨CE_STS, l, l⟩).cePost 0x0004 0 8 l else d.cePost 0x0003 1 8 l
  else d

theorem exec_laneSelfTestDone (dt l : Nat) (pass : Bool) (s : State) :
    exec (.laneSelfTestDone dt l pass) s = s.onDev dt (l < 4) fun d => d.laneTested l pass := rfl

/-- An idle, ungated lane in service starts the command at the head of its queue (R387, R442). -/
theorem State.ceRow_starts {s : State} {dt l op a : Nat} {rest : List Nat} {i : Instr} (he : exec i s = s.ceRow dt l op) (hl : l < 4)
    (hq : ((s.now dt).lane l).queue = a :: rest) (hrun : ((s.now dt).lane l).run = none) (hup : (s.now dt).laneUp l = true)
    (hgate : (s.now dt).gated 1 l = false) (hop : (ceCmd s.mem a).op = op) :
    exec i s = .next (s.becomesM ((s.now dt).ceStart s.mem l a).1 ((s.now dt).ceStart s.mem l a).2) := by
  refine he.trans (State.onAll_next (decide_eq_true hl) ?_)
  dsimp only
  rw [hq]
  exact if_pos ⟨by rw [hrun]; rfl, hup, by rw [hgate]; rfl, .inl hop⟩

/-- A descriptor in a Guard page of SRAM with R and W, with room in the queue of a lane in service, waits as the last (R387). -/
theorem Dev.ceSubmit_waits {d : Dev} {m : Mem} {l v i : Nat} (hpage : pageIndex v = some i) (hlo : 0x10000000 ≤ v)
    (hhi : v < 0x11800000) (howner : entryOwner (Mem.entry m i) = 8) (hr : entryR (Mem.entry m i) = true)
    (hw : entryW (Mem.entry m i) = true) (halign : v % 128 = 0) (hroom : (d.lane l).queue.length < 8) (hup : d.laneUp l = true) :
    d.ceSubmit m l v = d.setLane l { d.lane l with queue := (d.lane l).queue ++ [v] } := by
  unfold Dev.ceSubmit
  refine if_pos ⟨?_, halign, hroom, hup⟩
  simp [hpage, hlo, hhi, howner, hr, hw]

theorem Dev.ceSubmit_full {d : Dev} (m : Mem) {l : Nat} (v : Nat) (h : 8 ≤ (d.lane l).queue.length) :
    d.ceSubmit m l v = d.set (CE_LSTS_SUBMIT_REF l) := by
  unfold Dev.ceSubmit
  exact if_neg fun ⟨_, _, hroom, _⟩ => absurd hroom (Nat.not_lt.mpr h)

theorem Dev.ceRetry_delivers {d : Dev} (m : Mem) {l : Nat} {r : CeRun} (hrun : (d.lane l).run = some r) (hwhy : r.why = .output)
    (hrev : r.revoked = false) : d.ceRetry m l = Dev.ceDeliver l r r.chunks d m := by
  unfold Dev.ceRetry
  rw [hrun]
  dsimp only
  rw [if_pos hwhy, if_neg]
  rintro ⟨hrev', _⟩
  exact absurd (hrev'.symm.trans hrev) (by decide)

theorem Dev.outputStall_aborts {d : Dev} (m : Mem) {l : Nat} {r : CeRun} (hrun : (d.lane l).run = some r) (hwhy : r.why = .output)
    (hlong : 1000000 * d.fld CE_CFG_STALL_MS ≤ d.up - r.since) (h : r.revoked = false ∨ r.escrow = false) :
    d.outputStall m l = (((d.set CE_STS_STALL).raiseIf CE_INT_EN_FAULT 228).cePost 0x0006 1 r.cmd.owner l).ceAbort m l 0x15 := by
  unfold Dev.outputStall
  rw [hrun]
  refine if_pos ⟨hwhy, ?_, hlong⟩
  rcases h with h | h <;> simp [h]

theorem Dev.provisionalRevoke_purges {d : Dev} (m : Mem) {l : Nat} {r : CeRun} (hrun : (d.lane l).run = some r) (hwhy : r.why = .purge)
    (harrived : d.ceArrived r = true) :
    d.provisionalRevoke m l = (d.cePurge m r).2.1.ceNotice (d.cePurge m r).2.2 l (d.cePurge m r).1 := by
  unfold Dev.provisionalRevoke
  rw [hrun]
  exact (if_neg fun ⟨_, hno⟩ => by rw [harrived] at hno; exact absurd hno (by decide)).trans (if_pos hwhy)

theorem Dev.reserved_idle {d : Dev} (m : Mem) {l : Nat} (hwant : (d.lane l).want = true) (hrun : (d.lane l).run = none) :
    d.reserved m l = ((d.odoAdvance 0 (2 ^ 20)).setLane l { d.lane l with spare := some (d.odo 0), want := false }, m) := by
  unfold Dev.reserved
  dsimp only
  rw [hwant, if_neg (by decide), hrun]

/-- A 256-bit AES key is taken from the key words (R394). -/
theorem Dev.keyLoad_aes256 (d : Dev) {v : Nat} (hclr : bit 19 v = false) (htype : bits 9 6 v = 2) :
    d.keyLoad v =
      let k := 16 * bits 1 0 v + bits 5 2 v
      { d with ce := { d.ce with
        keyin := []
        temp := tput k { type := 2, owner := bits 17 14 v, key := ((List.range 16).flatMap (fun i => leBytes 4 (tget 0 d.ce.keyin i))).take 32,
                         prov := bit 18 v } (terase k d.ce.temp) } } := by
  unfold Dev.keyLoad
  dsimp only
  rw [hclr, htype, if_neg Bool.false_ne_true]
  exact if_neg (show ¬(32 = 0 ∨ (2 = 3 ∧ (32 < 16 ∨ 64 < 32))) by decide)

theorem Dev.keyLoad_clears (d : Dev) {v : Nat} (hclr : bit 19 v = true) :
    d.keyLoad v = { d with ce := { d.ce with temp := terase (16 * bits 1 0 v + bits 5 2 v) d.ce.temp } } := if_pos hclr

/-- Settles O29, row by row. -/
theorem cipherCommandsTakeEffect : Obligations.CipherCommandsTakeEffect := by
  unfold Obligations.CipherCommandsTakeEffect
  refine ⟨?submit, ?full, ?encrypt, ?decrypt, ?macGen, ?macVerify, ?hashMsg, ?msecInstall, ?msecRemove, ?retry, ?stall, ?revoke,
    ?nonce, ?keyload, ?keyloadClr, ?fault, ?readmit, ?passed, ?failed⟩
  case submit =>
    intro s dt l v i a d hl hmay hv hpage hlo hhi howner hr hw halign hroom hup
    refine (exec_ceSubmit ..).trans (State.onDevM_next (decide_eq_true hl) ((Dev.regWrite_pass hmay).trans ?_))
    rw [Nat.mod_eq_of_lt hv]
    exact Dev.ceSubmit_waits hpage hlo hhi howner hr hw halign hroom hup
  case full =>
    intro s dt l v a d hl hmay hfull
    exact (exec_ceSubmit ..).trans
      (State.onDevM_next (decide_eq_true hl) ((Dev.regWrite_pass hmay).trans (Dev.ceSubmit_full _ _ hfull)))
  case encrypt | decrypt | macGen | macVerify | hashMsg | msecInstall | msecRemove =>
    intro s dt l a rest d hl hq hrun hup hgate hop
    exact State.ceRow_starts rfl hl hq hrun hup hgate hop
  case retry =>
    intro s dt l r d hl hrun hwhy hrev
    exact (exec_chunkDeliveryRetry ..).trans (State.onAll_next (decide_eq_true hl) (Dev.ceRetry_delivers _ hrun hwhy hrev))
  case stall =>
    intro s dt l r d hl hrun hwhy hlong h
    exact (exec_outputStallTimeout ..).trans (State.onAll_next (decide_eq_true hl) (Dev.outputStall_aborts _ hrun hwhy hlong h))
  case revoke =>
    intro s dt l r d hl hrun hwhy harrived
    exact (exec_provisionalRevoke ..).trans
      (State.onAll_next (decide_eq_true hl) (Dev.provisionalRevoke_purges _ hrun hwhy harrived))
  case nonce =>
    intro s dt l d hl hwant hrun
    exact (exec_nonceBlockReserved ..).trans (State.onAll_next (r := (_, _)) (decide_eq_true hl) (Dev.reserved_idle _ hwant hrun))
  case keyload =>
    intro s dt v a d hmay hclr htype
    exact (exec_ceKeyload ..).trans (State.onDevM_next rfl ((Dev.regWrite_pass hmay).trans (d.keyLoad_aes256 hclr htype)))
  case keyloadClr =>
    intro s dt v a d hmay hclr
    exact (exec_ceKeyloadClr ..).trans (State.onDevM_next rfl ((Dev.regWrite_pass hmay).trans (d.keyLoad_clears hclr)))
  case fault =>
    intro s dt l d hl hup hbeyvo
    exact (exec_laneFault ..).trans (State.onAll_next (decide_eq_true hl) (if_pos ⟨hup, hbeyvo⟩))
  case readmit =>
    intro s dt v a d hmay
    exact (exec_ceLaneReadmit ..).trans (State.onDevM_next rfl (Dev.regWrite_pass hmay))
  case passed | failed =>
    intro s dt l d hl htest
    exact (exec_laneSelfTestDone ..).trans
      (State.onDev_next (decide_eq_true hl) (if_pos (List.contains_iff_mem.mpr htest)))

end Sys2Proof.Machine
end

section
/-! PROOFS. A state in which a cipher command's completion record does not show DONE: STATUS is a plain number in the model, which
no command sets above 0x100, and one above 255 carries into DONE. -/

namespace Sys2Proof.Machine

open R

theorem Dev.ceRecord_word (d : Dev) (m : Mem) (l desc : Nat) {st : Nat} (gen : Nat) (prov revoked : Bool) (nonce result : List Nat)
    (h : st ≠ stOpen) :
    Mem.word (d.ceRecord m l desc st gen prov revoked nonce result).2 (desc + 48) =
      (st + 256 + 512 * b2n prov + 1024 * b2n revoked + 65536 * gen) % 2 ^ 32 := by
  unfold Dev.ceRecord
  dsimp only
  rw [if_neg h, Mem.word_setWord]

/-- A command that no provisional output holds ends when it has nothing left to deliver, and its record shows its STATUS. -/
theorem Dev.ceRetry_word {d : Dev} (m : Mem) {l : Nat} {r : CeRun} (hrun : (d.lane l).run = some r) (hwhy : r.why = .output)
    (hchunks : r.chunks = []) (hrev : r.revoked = false) (hprov : r.prov = false) (hst : r.status ≠ stOpen) :
    Mem.word (d.ceRetry m l).2 (r.desc + 48) = (r.status + 256 + 65536 * r.gen) % 2 ^ 32 := by
  rw [Dev.ceRetry_delivers m hrun hwhy hrev, hchunks]
  unfold Dev.ceDeliver Dev.ceFinish
  dsimp only
  rw [hprov, if_neg (fun h => Bool.false_ne_true h.1)]
  unfold Dev.ceEnd
  dsimp only
  rw [hrev, if_neg (fun h => Bool.false_ne_true h.1), Dev.ceRecord_word _ _ _ _ _ _ _ _ _ hst]
  rfl

theorem chunkDeliveryRetry_mem {s t : State} {dt l : Nat} (hl : l < 4) (h : exec (.chunkDeliveryRetry dt l) s = .next t) :
    t.mem = ((s.now dt).ceRetry s.mem l).2 := by
  have hnext : exec (.chunkDeliveryRetry dt l) s = .next (s.becomesM ((s.now dt).ceRetry s.mem l).1 ((s.now dt).ceRetry s.mem l).2) :=
    (exec_chunkDeliveryRetry ..).trans (State.onAll_next (decide_eq_true hl) rfl)
  obtain rfl := Host.Outcome.next.inj (h.symm.trans hnext)
  rfl

/-- A command with nothing left to deliver, its STATUS one above the values of R404. -/
def strayRun : CeRun :=
  { desc := 0, cmd := { op := 3, alg := 0, owner := 0, key := 0, tkr := false, pad := false, w1 := 0, addr := 0, len := 0, aad := 0, iv := [] },
    why := .output, slot := none, key := [], salt := [], gen := 0, revoked := false, chunks := [], escrow := false, prov := false,
    tagOk := true, status := 0x101, nonce := [], result := [], was := [], sent := [], released := 0, first := none, out := [],
    outLen := 0, firstTag := 0, firstWb := [], segCons := 0, descCons := 0, purged := 0, noNotice := false, since := 0 }

/-- The reset state, but with that command on lane 0. -/
def strayRunState : State :=
  { State.reset with dev := { Dev.reset with ce := { CeSt.reset with lanes := [(0, { Lane.reset with run := some strayRun })] } } }

theorem strayRunState_run : ((strayRunState.now 0).lane 0).run = some strayRun := by decide

/-- Its completion record holds 0x101 + 0x100, in which bit 8 is 0. -/
theorem strayRunState_word : Mem.word ((strayRunState.now 0).ceRetry strayRunState.mem 0).2 (strayRun.desc + 48) = 0x201 :=
  Dev.ceRetry_word _ strayRunState_run rfl rfl rfl rfl (by decide)

/-- Refutes O55: of `strayRun`, chunkDeliveryRetry completes without DONE in the record. -/
theorem not_cipherAndStrongboxCommandsComplete : ¬ Obligations.CipherAndStrongboxCommandsComplete := by
  unfold Obligations.CipherAndStrongboxCommandsComplete
  intro h
  obtain ⟨_, _, _, _, _, _, _, _, hretry, _⟩ := h
  obtain ⟨t, ht, _, hdone⟩ := hretry strayRunState 0 0 strayRun (by decide) strayRunState_run rfl rfl rfl rfl
  rw [chunkDeliveryRetry_mem (by decide) ht, strayRunState_word] at hdone
  exact absurd hdone (by decide)

end Sys2Proof.Machine
end

section
/-! PROOFS. The boot sequence and its timers, seal, coach starts, fuses, flash commands and service frames (R415–R426), row by row. -/

namespace Sys2Proof.Machine

open R

theorem exec_bootSequence (dt : Nat) (pufOk : Bool) (unread : Nat) (iOk sOk : Bool) (odo : List (Nat × Option Nat)) (s : State) :
    exec (.bootSequence dt pufOk unread iOk sOk odo) s =
      s.onAll dt (odo.all (fun x => x.1 < 16)) fun m d => d.bootRun m pufOk unread iOk sOk odo := rfl

/-- The boot timer runs out (R421). -/
def Dev.bootTimeout (d : Dev) (m : Mem) : Dev :=
  if (d.boot.phase ≠ .rom ∧ d.boot.phase ≠ .applied) ∨ d.bootWaits m ∨ d.frm.devReset.isSome ∨
      !d.passed d.boot.timerFrom 5000000000 then d
  else
    let r := d.fld SYS_BOOT_STS_RETRY
    let d := d.aoForce 0x80 0x0005 2 r
    if r = 3 then d.enterHold else (d.bumpF SYS_BOOT_STS_RETRY).startDeviceReset 4 0 0

theorem exec_bootTimerExpiry (dt : Nat) (s : State) :
    exec (.bootTimerExpiry dt) s = s.onDevM dt true fun m d => d.bootTimeout m := rfl

theorem exec_certificateWaitTimeout (dt : Nat) (s : State) :
    exec (.certificateWaitTimeout dt) s = s.onDev dt true fun d =>
      if d.boot.phase = .rom ∧ d.fld SYS_BOOT_STS_BOOTSEL = 2 ∧ !d.on SBX_ROOT_CERT ∧ d.passed d.boot.releasedAt 10000000000 then d.enterHold
      else d := rfl

theorem exec_seal (dt failed : Nat) (s : State) : exec (.seal dt failed) s = s.onDev dt true (·.seal failed) := rfl

theorem exec_coachStart (dt c : Nat) (s : State) :
    exec (.coachStart dt c) s = s.onDev dt (c < 8) fun d =>
      if d.startable c ∧ d.startCond c then (d.coachStart c).post 0x01 0x0001 0 9 c
      else if d.on (SYS_COACH_STS_STARTED c) then d.coachRelease c else d := rfl

theorem exec_coachStartTimeout (dt c : Nat) (s : State) :
    exec (.coachStartTimeout dt c) s = s.onDev dt (c < 8) fun d =>
      if d.startable c ∧ d.fld (SYS_COACH_START_TMO c) ≠ 0 ∧ !d.startCond c ∧
          d.passed d.boot.sealedAt (100000000 * d.fld (SYS_COACH_START_TMO c)) then
        ((((d.coachStart c).set (SYS_COACH_STS_TMO_START c)).set SYS_STS_TMO_START).raiseIf SYS_INT_EN_START 1).post 0x01 0x0002 1 9 c
      else d := rfl

theorem exec_guardGo (dt : Nat) (a : Sys2Proof.Acc) (v : Nat) (s : State) :
    exec (.guardGo dt a v) s =
      s.onDevM dt true fun m d => d.regWrite m a SYS_CTL (fun d => if bit 0 v then d.set SYS_CTL_GUARD_GO else d) := rfl

theorem exec_sysRollbackCmt (dt : Nat) (a : Sys2Proof.Acc) (v : Nat) (s : State) :
    exec (.sysRollbackCmt dt a v) s = s.onDevM dt true fun m d => d.regWrite m a SYS_ROLLBACK_CMT (·.rollbackCmt v) := rfl

theorem exec_flashErase (dt : Nat) (a : Sys2Proof.Acc) (v : Nat) (s : State) :
    exec (.flashErase dt a v) s = s.onDevM dt true fun m d => d.regWrite m a SYS_FLASH_CMD (·.flashCmd m v) := rfl

theorem exec_flashProgram (dt : Nat) (a : Sys2Proof.Acc) (v : Nat) (s : State) :
    exec (.flashProgram dt a v) s = s.onDevM dt true fun m d => d.regWrite m a SYS_FLASH_CMD (·.flashCmd m v) := rfl

/-- The flash command completes with its verification passed (R416). -/
def Dev.flashDone (d : Dev) (m : Mem) : Dev × Mem :=
  match d.boot.flash with
  | none => (d, m)
  | some c =>
    (((({ d with boot := { d.boot with flash := none } } : Dev).clr SYS_FLASH_STS_BUSY).set SYS_FLASH_STS_DONE).raiseIf SYS_INT_EN_FLASH 0,
      Mem.setBytes m c.addr (d.flashBytes c true))

theorem exec_flashCommandDone (dt : Nat) (s : State) :
    exec (.flashCommandDone dt true) s = s.onAll dt true fun m d => d.flashDone m := rfl

/-- A HELLO frame is due (R424). -/
def Dev.helloDue (d : Dev) : Bool :=
  match d.boot.helloAt with
  | none => true
  | some t => d.passed t 100000000

theorem exec_hello (dt : Nat) (s : State) :
    exec (.hello dt) s = s.onDev dt true fun d =>
      if d.inService ∧ !d.boot.answered ∧ d.helloDue then
        ({ d with boot := { d.boot with helloAt := some d.up } } : Dev).serviceSend (List.replicate 6 0xFF) 1 0
          (d.serial ++ leBytes 4 (d.rn SYS_BOOT_STS) ++ [d.fld SBX_ROLLBACK_CONSIST])
      else d := rfl

theorem exec_data (dt tool offset : Nat) (data : List Nat) (s : State) :
    exec (.data dt tool offset data) s = s.onAll dt true fun m d => d.serviceData m tool offset data := rfl

theorem exec_cert (dt offset : Nat) (data : List Nat) (s : State) :
    exec (.cert dt offset data) s = s.onDev dt true (·.certFrame offset data) := rfl

theorem exec_certLoad (dt : Nat) (cert : List Nat) (s : State) :
    exec (.certLoad dt cert) s = s.onDev dt true fun d => if d.frm.beyvoUp ∧ cert.length ≤ 16384 then d.certArrived cert else d := rfl

theorem exec_certSts (dt : Nat) (s : State) :
    exec (.certSts dt) s = s.onDev dt true fun d => d.returns (d.boot.certSts + 4 * (d.rn MAN_DBG_STS % 16)) := rfl

/-! ### What the commands do where their conditions hold -/

/-- The boot sequence runs. -/
theorem Dev.bootRun_runs {d : Dev} {m : Mem} (hphase : d.boot.phase = .rom) (hdev : d.frm.devReset = none) (hbv : d.frm.bvReset = none)
    (hwaits : d.bootWaits m = false) :
    ¬(d.boot.phase ≠ .rom ∨ d.frm.devReset.isSome ∨ d.frm.bvReset.isSome ∨ d.bootWaits m) := by
  rw [hphase, hdev, hbv, hwaits]
  decide

/-- A device root that is not reconstructed is a fault of severity 3 (R370); its block and code are the model's choice (log entry
52, DEDUCED). -/
theorem Dev.bootRun_pufFails {d : Dev} {m : Mem} (unread : Nat) (iOk sOk : Bool) (odo : List (Nat × Option Nat))
    (hphase : d.boot.phase = .rom) (hdev : d.frm.devReset = none) (hbv : d.frm.bvReset = none) (hwaits : d.bootWaits m = false) :
    d.bootRun m false unread iOk sOk odo = (d.fault 3 0x41 0 8, m) := by
  unfold Dev.bootRun
  dsimp only
  rw [if_neg (Dev.bootRun_runs hphase hdev hbv hwaits), if_pos (by decide)]

/-- BOOTSEL = 3 ends in boot hold after step 2 (R417, R421). -/
theorem Dev.bootRun_hold {d : Dev} {m : Mem} (unread : Nat) (iOk sOk : Bool) (odo : List (Nat × Option Nat))
    (hphase : d.boot.phase = .rom) (hdev : d.frm.devReset = none) (hbv : d.frm.bvReset = none) (hwaits : d.bootWaits m = false)
    (hsel : d.fld SYS_BOOT_STS_BOOTSEL = 3) : d.bootRun m true unread iOk sOk odo = ((d.bootKeys odo).enterHold, m) := by
  unfold Dev.bootRun
  dsimp only
  rw [if_neg (Dev.bootRun_runs hphase hdev hbv hwaits), if_neg (by decide), hsel]
  rfl

/-- The boot timer has run out. -/
theorem Dev.bootTimeout_runs {d : Dev} {m : Mem} (hphase : d.boot.phase = .rom ∨ d.boot.phase = .applied)
    (hwaits : d.bootWaits m = false) (hdev : d.frm.devReset = none) (hlong : d.boot.timerFrom + 5000000000 ≤ d.up) :
    d.bootTimeout m =
      if d.fld SYS_BOOT_STS_RETRY = 3 then (d.aoForce 0x80 0x0005 2 (d.fld SYS_BOOT_STS_RETRY)).enterHold
      else ((d.aoForce 0x80 0x0005 2 (d.fld SYS_BOOT_STS_RETRY)).bumpF SYS_BOOT_STS_RETRY).startDeviceReset 4 0 0 := by
  have hpassed : d.passed d.boot.timerFrom 5000000000 = true := Dev.passed_iff.mpr hlong
  refine if_neg ?_
  rw [hwaits, hdev, hpassed]
  rcases hphase with h | h <;> simp [h]

theorem Dev.rollbackCmt_blows {d : Dev} {v : Nat} (hkey : bits 31 16 v = 0xB10E) (hlow : d.fld SBX_ROLLBACK_CONSIST < d.boot.rollback) :
    d.rollbackCmt v =
      ((({ d with boot := { d.boot with blow := some (d.fld SBX_ROLLBACK_CONSIST, d.up) } } : Dev).put SBX_ROLLBACK_CONSIST
        d.boot.rollback).set SYS_STS_RB_DONE).post 0x01 0x0003 0 9 d.boot.rollback :=
  if_neg (by omega)

theorem Dev.flashCmd_starts {d : Dev} {m : Mem} {v : Nat} {c : FlashCmd} (hcmd : bits 1 0 v = 1 ∨ bits 1 0 v = 2)
    (hbusy : d.on SYS_FLASH_STS_BUSY = false) (hstart : d.flashStart m v = some c) :
    d.flashCmd m v = ({ d with boot := { d.boot with flash := some c } } : Dev).set SYS_FLASH_STS_BUSY := by
  unfold Dev.flashCmd
  rw [hbusy, if_neg (by rcases hcmd with h | h <;> simp [h]), hstart]

theorem Dev.flashCmd_refused {d : Dev} {m : Mem} {v : Nat} (hcmd : bits 1 0 v = 1 ∨ bits 1 0 v = 2)
    (hbusy : d.on SYS_FLASH_STS_BUSY = false) (hstart : d.flashStart m v = none) :
    d.flashCmd m v = ((d.set SYS_FLASH_STS_REFUSED).raiseIf SYS_INT_EN_FLASH 0).post 0x01 0x0004 1 9 (bits 1 0 v) := by
  unfold Dev.flashCmd
  rw [hbusy, if_neg (by rcases hcmd with h | h <;> simp [h]), hstart]

theorem Dev.flashDone_writes {d : Dev} (m : Mem) {c : FlashCmd} (h : d.boot.flash = some c) :
    d.flashDone m =
      (((({ d with boot := { d.boot with flash := none } } : Dev).clr SYS_FLASH_STS_BUSY).set SYS_FLASH_STS_DONE).raiseIf
        SYS_INT_EN_FLASH 0, Mem.setBytes m c.addr (d.flashBytes c true)) := by
  unfold Dev.flashDone
  rw [h]

theorem Dev.helloDue_of_all {d : Dev} (h : d.boot.helloAt.all (fun t => decide (t + 100000000 ≤ d.up)) = true) : d.helloDue = true := by
  unfold Dev.helloDue
  cases ht : d.boot.helloAt with
  | none => rfl
  | some t =>
    rw [ht, Option.all_some] at h
    exact Dev.passed_iff.mpr (of_decide_eq_true h)

/-- The state once a DATA frame has been taken (R424). -/
def Dev.dataTaken (d : Dev) (n : Nat) : Dev :=
  { d with boot := { d.boot with answered := true, received := d.boot.received + n } }

/-- Data at the offset already received enter DRAM and are acknowledged (R424). -/
theorem Dev.serviceData_takes {d : Dev} {m : Mem} (tool : Nat) {offset : Nat} {data : List Nat} (hservice : d.inService = true)
    (hlen : data.length ≤ 1024) (hoffset : offset = d.boot.received)
    (hdone : ({ d with boot := { d.boot with answered := true } } : Dev).serviceDone m = false) :
    d.serviceData m tool offset data =
      let m' := Mem.setBytes m (0x100000000 + offset) data
      let e := d.dataTaken data.length
      ((if e.serviceDone m' then ({ e with boot := { e.boot with timerFrom := e.up } } : Dev) else e).serviceSend (beBytes 6 tool) 3
        (offset + data.length) [], m') := by
  subst hoffset
  unfold Dev.serviceData
  dsimp only
  rw [hservice, if_neg (by simpa using hlen), hdone, if_neg (by simp)]
  rfl

theorem Dev.certFrame_piece {d : Dev} {offset : Nat} {data : List Nat} (hopen : d.toolOpen = true) (hlen : data.length ≤ 1024)
    (hoffset : offset = d.boot.cert.length) (hshort : (d.boot.cert ++ data).length < certLen (d.boot.cert ++ data)) :
    d.certFrame offset data = { d with boot := { d.boot with cert := d.boot.cert ++ data } } := by
  unfold Dev.certFrame
  dsimp only
  rw [hopen, if_neg (by simp [hoffset]; omega), if_pos hshort]

/-- Settles O30, row by row; block and code of the fault of R370, the record at RETRY = 3 and when the fuses' blowing is kept are
the model's choices (log entries 52, DEDUCED, 119 and 141). -/
theorem bootAndServiceCommandsTakeEffect : Obligations.BootAndServiceCommandsTakeEffect := by
  unfold Obligations.BootAndServiceCommandsTakeEffect
  refine ⟨?puf, ?hold, ?lastRetry, ?retry, ?certWait, ?sealing, ?start, ?startTimeout, ?guardGo, ?rollback, ?erase, ?refused, ?program,
    ?flashDone, ?hello, ?data, ?cert, ?certLoad, ?lateCert, ?certSts⟩
  case puf =>
    intro s dt unread iOk sOk odo d hodo hphase hdev hbv hwaits
    exact (exec_bootSequence ..).trans
      (State.onAll_next (r := (_, _)) hodo (Dev.bootRun_pufFails unread iOk sOk odo hphase hdev hbv hwaits))
  case hold =>
    intro s dt unread iOk sOk odo d hodo hphase hdev hbv hwaits hsel
    exact (exec_bootSequence ..).trans
      (State.onAll_next (r := (_, _)) hodo (Dev.bootRun_hold unread iOk sOk odo hphase hdev hbv hwaits hsel))
  case lastRetry =>
    intro s dt d hphase hwaits hdev hretry hlong
    refine (exec_bootTimerExpiry ..).trans (State.onDevM_next rfl ((Dev.bootTimeout_runs hphase hwaits hdev hlong).trans ?_))
    rw [if_pos hretry, hretry]
  case retry =>
    intro s dt d hphase hwaits hdev hretry hlong
    exact (exec_bootTimerExpiry ..).trans
      (State.onDevM_next rfl ((Dev.bootTimeout_runs hphase hwaits hdev hlong).trans (if_neg hretry)))
  case certWait =>
    intro s dt d hphase hsel hcert hlong
    refine (exec_certificateWaitTimeout ..).trans (State.onDev_next rfl (if_pos ⟨hphase, hsel, ?_, Dev.passed_iff.mpr hlong⟩))
    rw [show (s.now dt).on SBX_ROOT_CERT = false from hcert]
    rfl
  case sealing =>
    intro s dt failed d _ _ _
    exact (exec_seal ..).trans (State.onDev_next rfl rfl)
  case start =>
    intro s dt c d hc hstart hcond
    exact (exec_coachStart ..).trans (State.onDev_next (decide_eq_true hc) (if_pos ⟨hstart, hcond⟩))
  case startTimeout =>
    intro s dt c d hc hstart htmo hcond hlong
    refine (exec_coachStartTimeout ..).trans (State.onDev_next (decide_eq_true hc)
      (if_pos ⟨hstart, htmo, ?_, Dev.passed_iff.mpr hlong⟩))
    rw [show (s.now dt).startCond c = false from hcond]
    rfl
  case guardGo =>
    intro s dt v a d hmay hgo
    exact (exec_guardGo ..).trans (State.onDevM_next rfl ((Dev.regWrite_pass hmay).trans (if_pos hgo)))
  case rollback =>
    intro s dt v a d hmay hkey hlow
    exact (exec_sysRollbackCmt ..).trans (State.onDevM_next rfl ((Dev.regWrite_pass hmay).trans (Dev.rollbackCmt_blows hkey hlow)))
  case erase =>
    intro s dt v a c d hmay hcmd hbusy hstart
    exact (exec_flashErase ..).trans
      (State.onDevM_next rfl ((Dev.regWrite_pass hmay).trans (Dev.flashCmd_starts (.inl hcmd) hbusy hstart)))
  case refused =>
    intro s dt v a d hmay hcmd hbusy hstart
    refine (exec_flashProgram ..).trans
      (State.onDevM_next rfl ((Dev.regWrite_pass hmay).trans ((Dev.flashCmd_refused (.inr hcmd) hbusy hstart).trans ?_)))
    rw [hcmd]
  case program =>
    intro s dt v a c d hmay hcmd hbusy hstart
    exact (exec_flashProgram ..).trans
      (State.onDevM_next rfl ((Dev.regWrite_pass hmay).trans (Dev.flashCmd_starts (.inr hcmd) hbusy hstart)))
  case flashDone =>
    intro s dt c d hflash
    exact (exec_flashCommandDone ..).trans (State.onAll_next (r := (_, _)) rfl (Dev.flashDone_writes _ hflash))
  case hello =>
    intro s dt d hservice hanswered hdue
    refine (exec_hello ..).trans (State.onDev_next rfl (if_pos ⟨hservice, ?_, Dev.helloDue_of_all hdue⟩))
    rw [show (s.now dt).boot.answered = false from hanswered]
    rfl
  case data =>
    intro s dt tool offset data d e hservice hlen hoffset hdone
    exact (exec_data ..).trans
      (State.onAll_next (r := (_, _)) rfl (Dev.serviceData_takes tool hservice hlen hoffset hdone))
  case cert =>
    intro s dt offset data d hopen hlen hoffset hshort
    exact (exec_cert ..).trans (State.onDev_next rfl (Dev.certFrame_piece hopen hlen hoffset hshort))
  case certLoad =>
    intro s dt cert d hup hlen hphase
    exact (exec_certLoad ..).trans (State.onDev_next rfl ((if_pos ⟨hup, hlen⟩).trans (if_pos (.inl hphase))))
  case lateCert =>
    intro s dt cert d hup hlen hphase
    refine (exec_certLoad ..).trans (State.onDev_next rfl ((if_pos ⟨hup, hlen⟩).trans (if_neg ?_)))
    rw [show (s.now dt).boot.phase = .applied from hphase]
    decide
  case certSts =>
    intro s dt
    exact (exec_certSts ..).trans (State.onDev_next rfl rfl)

end Sys2Proof.Machine
end

section
/-! PROOFS. The access words of the debug ports (R426, R428), row by row. -/

namespace Sys2Proof.Machine

open R

theorem exec_debugRead (dt : Nat) (port : Bool) (core addr : Nat) (s : State) :
    exec (.debugRead dt port core addr) s =
      s.onAll dt (core < 12 && addr < 2 ^ 64) fun m d => d.dbgMove m port 1 core addr 0 := rfl

theorem exec_debugWrite (dt : Nat) (port : Bool) (core addr v : Nat) (s : State) :
    exec (.debugWrite dt port core addr v) s =
      s.onAll dt (core < 12 && addr < 2 ^ 64) fun m d => d.dbgMove m port 2 core addr v := rfl

theorem exec_debugHalt (dt : Nat) (port : Bool) (core addr : Nat) (s : State) :
    exec (.debugHalt dt port core addr) s = s.onDev dt (core < 12 && addr < 2 ^ 64) (·.dbgRun port 3 core addr) := rfl

theorem exec_debugResume (dt : Nat) (port : Bool) (core addr : Nat) (s : State) :
    exec (.debugResume dt port core addr) s = s.onDev dt (core < 12 && addr < 2 ^ 64) (·.dbgRun port 4 core addr) := rfl

theorem exec_debugStep (dt : Nat) (port : Bool) (core addr : Nat) (s : State) :
    exec (.debugStep dt port core addr) s = s.onDev dt (core < 12 && addr < 2 ^ 64) (·.dbgRun port 5 core addr) := rfl

theorem dbgWord_ok {core addr : Nat} (hcore : core < 12) (haddr : addr < 2 ^ 64) :
    (decide (core < 12) && decide (addr < 2 ^ 64)) = true := by
  rw [decide_eq_true hcore, decide_eq_true haddr]
  rfl

/-! ### Served words -/

section Served

variable {d : Dev} {port : Bool} {core addr : Nat}

/-- The core is halted; a leader no longer counts towards its pair's fold (R357). -/
def Dev.dbgHalted (d : Dev) (core : Nat) : Dev :=
  (({ d with dbg := { d.dbg with halted := insertNat core d.dbg.halted } } : Dev).when (core < 8 && core % 2 == 0)
    (·.foldStop (core / 2))).post 0x70 0x0003 0 9 core

/-- The core is halted no longer. -/
def Dev.dbgResumed (d : Dev) (core : Nat) : Dev :=
  ({ d with dbg := { d.dbg with halted := d.dbg.halted.filter (· ≠ core) } } : Dev).leaderGoes core

theorem Dev.dbgRun_refused {op : Nat} (hserved : d.dbgServed port = true)
    (hgrant : (d.dbgTaken port op core addr).dbgGrant core true = none) :
    d.dbgRun port op core addr = (d.dbgTaken port op core addr).dbgRefused port op core addr := by
  unfold Dev.dbgRun
  dsimp only
  rw [hserved, if_neg (by decide), hgrant]

theorem Dev.dbgRun_halts {a : Sys2Proof.Acc} (hserved : d.dbgServed port = true)
    (hgrant : (d.dbgTaken port 3 core addr).dbgGrant core true = some a) :
    d.dbgRun port 3 core addr = ((d.dbgTaken port 3 core addr).dbgHalted core).dbgAnswer port 3 core addr 0 none := by
  unfold Dev.dbgRun
  dsimp only
  rw [hserved, if_neg (by decide), hgrant]
  rfl

theorem Dev.dbgRun_resumes {a : Sys2Proof.Acc} (hserved : d.dbgServed port = true)
    (hgrant : (d.dbgTaken port 4 core addr).dbgGrant core true = some a)
    (hhalted : core ∈ (d.dbgTaken port 4 core addr).dbg.halted) :
    d.dbgRun port 4 core addr = ((d.dbgTaken port 4 core addr).dbgResumed core).dbgAnswer port 4 core addr 0 none := by
  unfold Dev.dbgRun
  dsimp only
  rw [hserved, if_neg (by decide), hgrant]
  dsimp only
  rw [if_neg (by decide), if_pos ⟨rfl, List.contains_iff_mem.mpr hhalted⟩]
  rfl

theorem Dev.dbgRun_steps {a : Sys2Proof.Acc} (hserved : d.dbgServed port = true)
    (hgrant : (d.dbgTaken port 5 core addr).dbgGrant core true = some a) :
    d.dbgRun port 5 core addr = (d.dbgTaken port 5 core addr).dbgAnswer port 5 core addr 0 none := by
  unfold Dev.dbgRun
  dsimp only
  rw [hserved, if_neg (by decide), hgrant]
  dsimp only
  rw [if_neg (by decide), if_neg (fun h => absurd h.1 (by decide))]

theorem Dev.dbgMove_refused {op : Nat} (m : Mem) (v : Nat) (hserved : d.dbgServed port = true)
    (hgrant : (d.dbgTaken port op core addr).dbgGrant core (op == 2) = none) :
    d.dbgMove m port op core addr v = ((d.dbgTaken port op core addr).dbgRefused port op core addr, m) := by
  unfold Dev.dbgMove
  dsimp only
  rw [hserved, if_neg (by decide), hgrant]

/-- The access of a word that is granted. -/
def Dev.dbgAccessed (d : Dev) (m : Mem) (port : Bool) (op core addr v : Nat) (a : Sys2Proof.Acc) : Dev × Mem :=
  Dev.dbgAccess { d.dbgTaken port op core addr with bus := { data := 0, err := false } } m a (if op = 2 then .write else .read) addr v

theorem Dev.dbgMove_granted {op : Nat} (m : Mem) (v : Nat) {a : Sys2Proof.Acc} (hserved : d.dbgServed port = true)
    (hgrant : (d.dbgTaken port op core addr).dbgGrant core (op == 2) = some a) :
    d.dbgMove m port op core addr v =
      let r := d.dbgAccessed m port op core addr v a
      (r.1.dbgAnswer port op core addr (if r.1.bus.err then 2 else 0) (if op = 1 ∧ !r.1.bus.err then some r.1.bus.data else none), r.2) := by
  unfold Dev.dbgMove
  dsimp only
  rw [hserved, if_neg (by decide), hgrant]
  rfl

/-- A read that is granted brings its data back unless the access is turned away. -/
theorem Dev.dbgMove_reads (m : Mem) {a : Sys2Proof.Acc} (hserved : d.dbgServed port = true)
    (hgrant : (d.dbgTaken port 1 core addr).dbgGrant core false = some a) :
    d.dbgMove m port 1 core addr 0 =
      let r := d.dbgAccessed m port 1 core addr 0 a
      (r.1.dbgAnswer port 1 core addr (if r.1.bus.err then 2 else 0) (if r.1.bus.err then none else some r.1.bus.data), r.2) := by
  have hdata : ∀ (b : Bool) (x : Nat), (if 1 = 1 ∧ !b then some x else none) = if b then none else some x :=
    fun b x => by cases b <;> rfl
  rw [Dev.dbgMove_granted m 0 hserved hgrant]
  dsimp only
  rw [hdata]

end Served

/-- Settles O31, row by row; STATUS 2 for a bus error, that STEP leaves the core halted, the enable that RESUME needs and the identity
of the debugger's access are the model's choices (log entry 57, DEDUCED). -/
theorem debugCommandsTakeEffect : Obligations.DebugCommandsTakeEffect := by
  unfold Obligations.DebugCommandsTakeEffect
  refine ⟨?halt, ?resume, ?step, ?noHalt, ?noResume, ?noStep, ?noRead, ?read, ?write, ?noWrite⟩
  case halt =>
    intro s dt core addr port a d hcore haddr hserved hgrant
    exact (exec_debugHalt ..).trans (State.onDev_next (dbgWord_ok hcore haddr) (Dev.dbgRun_halts hserved hgrant))
  case resume =>
    intro s dt core addr port a d hcore haddr hserved hgrant hhalted
    exact (exec_debugResume ..).trans (State.onDev_next (dbgWord_ok hcore haddr) (Dev.dbgRun_resumes hserved hgrant hhalted))
  case step =>
    intro s dt core addr port a d hcore haddr hserved hgrant
    exact (exec_debugStep ..).trans (State.onDev_next (dbgWord_ok hcore haddr) (Dev.dbgRun_steps hserved hgrant))
  case noHalt =>
    intro s dt core addr port d hcore haddr hserved hgrant
    exact (exec_debugHalt ..).trans (State.onDev_next (dbgWord_ok hcore haddr) (Dev.dbgRun_refused hserved hgrant))
  case noResume =>
    intro s dt core addr port d hcore haddr hserved hgrant
    exact (exec_debugResume ..).trans (State.onDev_next (dbgWord_ok hcore haddr) (Dev.dbgRun_refused hserved hgrant))
  case noStep =>
    intro s dt core addr port d hcore haddr hserved hgrant
    exact (exec_debugStep ..).trans (State.onDev_next (dbgWord_ok hcore haddr) (Dev.dbgRun_refused hserved hgrant))
  case noRead =>
    intro s dt core addr port d hcore haddr hserved hgrant
    exact (exec_debugRead ..).trans
      (State.onAll_next (r := (_, _)) (dbgWord_ok hcore haddr) (Dev.dbgMove_refused _ _ hserved hgrant))
  case read =>
    intro s dt core addr port a d hcore haddr hserved hgrant
    exact (exec_debugRead ..).trans
      (State.onAll_next (r := (_, _)) (dbgWord_ok hcore haddr) (Dev.dbgMove_reads _ hserved hgrant))
  case write =>
    intro s dt core addr v port a d hcore haddr hserved hgrant
    exact (exec_debugWrite ..).trans
      (State.onAll_next (r := (_, _)) (dbgWord_ok hcore haddr) (Dev.dbgMove_granted _ _ hserved hgrant))
  case noWrite =>
    intro s dt core addr v port d hcore haddr hserved hgrant
    exact (exec_debugWrite ..).trans
      (State.onAll_next (r := (_, _)) (dbgWord_ok hcore haddr) (Dev.dbgMove_refused _ _ hserved hgrant))

end Sys2Proof.Machine
end

section
/-! PROOFS. Sleep requests, core waits, the wake timer, supply, REFCLK, PLL and gates (R430–R442), row by row. -/

namespace Sys2Proof.Machine

open R

theorem exec_pwrmSleepReq (dt : Nat) (a : Sys2Proof.Acc) (o v : Nat) (s : State) :
    exec (.pwrmSleepReq dt a o v) s = s.onDevM dt (o < 9) fun m d => d.regWrite m a (PWRM_SLEEP_REQ o) (·.sleepReq o v) := rfl

theorem exec_pwrmTolUs (dt : Nat) (a : Sys2Proof.Acc) (o v : Nat) (s : State) :
    exec (.pwrmTolUs dt a o v) s = s.onDevM dt (o < 9) fun m d => d.regWrite m a (PWRM_TOL_US o) (·.tolUs o v) := rfl

/-- A core waits; a leader no longer counts towards its pair's fold (R357, R430). -/
def Dev.coreWaits (d : Dev) (core : Nat) : Dev :=
  ({ d with wld := { d.wld with waiting := insertNat core d.wld.waiting } } : Dev).when (core < 8 && core % 2 == 0)
    (·.foldStop (core / 2))

theorem exec_coreWait (dt core : Nat) (s : State) :
    exec (.coreWait dt core) s =
      s.onDev dt (core < 12) fun d => if d.wld.running.contains core then d.coreWaits core else d := rfl

theorem exec_coreRetentionWake (dt core : Nat) (s : State) :
    exec (.coreRetentionWake dt core) s =
      s.onDev dt (core < 12) fun d => if d.coreCalled core ∧ d.wld.waiting.contains core then d.coreGoes core else d := rfl

/-- PWRM_WAKE_TMR reaches 0 in SENTINEL (R436). -/
def Dev.wakeTimeout (d : Dev) : Dev :=
  if d.sid.asleep ≠ 1 ∨ d.sid.timer = 0 ∨ !d.passed d.sid.enteredAt (1000000000 * d.sid.timer) then d
  else
    let d : Dev := { d with sid := { d.sid with timer := 0 } }
    if d.sid.noted then d else d.wakeOther 1 PWRM_WAKE_INFO_TIMER

theorem exec_wakeTimerExpiry (dt : Nat) (s : State) : exec (.wakeTimerExpiry dt) s = s.onDev dt true (·.wakeTimeout) := rfl

/-- VBAT_L's range changes (R439). -/
def Dev.supplyRange (d : Dev) (m : Mem) (range : Nat) (low : Bool) (bootsel : Nat) (meshOk : Bool) : Dev × Mem :=
  if d.frm.lockedOut then (d, m)
  else if range = 4 then (d.powerLost.absent, Mem.flashOnly m)
  else if d.meshFails range meshOk then
    let cut := d.sid.cut
    let d := ({ d with frm := { d.frm with startWait := none } } : Dev).newRange range bootsel
    let x := ((d.wakeOther cut PWRM_WAKE_INFO_SUPPLY).linSupply (below7 range low)).tamperKeys m
    (x.1.tamperHold 1, x.2)
  else
    ((d.newRange range bootsel).linSupply (below7 range low),
      if !d.frm.beyvoUp ∧ (d.newRange range bootsel).frm.beyvoUp then Mem.atBoot m
      else if d.frm.beyvoUp ∧ !(d.newRange range bootsel).frm.beyvoUp then Mem.scrubAll m false else m)

theorem exec_supplyRangeChange (dt range : Nat) (low : Bool) (bootsel : Nat) (meshOk : Bool) (s : State) :
    exec (.supplyRangeChange dt range low bootsel meshOk) s =
      s.onAll dt (range < 5 && bootsel < 4) fun m d => d.supplyRange m range low bootsel meshOk := rfl

theorem exec_vbatP3Reverse (dt : Nat) (below : Bool) (s : State) :
    exec (.vbatP3Reverse dt below) s = s.onDev dt true fun d =>
      if !d.hvRuns then d
      else (d.put CHAN_GSTS_P3_REV (b2n below)).each ((List.range 16).map (· + 24)) (fun i d => d.updOut i) := rfl

theorem exec_refclkSelected (dt ppm : Nat) (s : State) :
    exec (.refclkSelected dt ppm) s = s.onDev dt true fun d =>
      if !d.frm.beyvoUp ∨ d.on CLK_STS_REF ∨ 1000 < ppmSize ppm then d
      else ((d.set CLK_STS_PRESENT).wr CLK_REFCLK_PPM ppm).refSwitch true 1 0 := rfl

theorem exec_refclkLost (dt : Nat) (edges : Bool) (ppm : Nat) (s : State) :
    exec (.refclkLost dt edges ppm) s = s.onDev dt true fun d =>
      if !d.frm.beyvoUp ∨ !d.on CLK_STS_REF ∨ (edges ∧ ppmSize ppm ≤ 2000) then d
      else ((d.put CLK_STS_PRESENT (b2n edges)).wr CLK_REFCLK_PPM ppm).refSwitch false 2 1 := rfl

theorem exec_pllUnlock (dt pll : Nat) (s : State) :
    exec (.pllUnlock dt pll) s = s.onDev dt true fun d =>
      if d.frm.beyvoUp then (d.set CLK_STS_PLL_UNLOCK).faultPost 3 0x04 0x0003 9 pll else d := rfl

theorem exec_clkGateWrite (dt : Nat) (a : Sys2Proof.Acc) (u v : Nat) (s : State) :
    exec (.clkGateWrite dt a u v) s =
      s.onDevM dt (1 ≤ u && u ≤ 6) fun m d => d.regWrite m a (CLK_GATE u) (·.clkGate u v) := rfl

theorem exec_pwrmPgateWrite (dt : Nat) (a : Sys2Proof.Acc) (u v : Nat) (s : State) :
    exec (.pwrmPgateWrite dt a u v) s =
      s.onDevM dt (1 ≤ u && u ≤ 6) fun m d => d.regWrite m a (PWRM_PGATE u) (·.pwrGate u v) := rfl

theorem exec_gateInEffect (dt u j : Nat) (s : State) :
    exec (.gateInEffect dt u j) s = s.onDev dt (1 ≤ u && u ≤ 6 && j < 4) (·.gateEffect u j) := rfl

/-! ### What the commands do where their conditions hold -/

theorem unit_ok {u : Nat} (hlo : 1 ≤ u) (hhi : u ≤ 6) : (decide (1 ≤ u) && decide (u ≤ 6)) = true := by
  rw [decide_eq_true hlo, decide_eq_true hhi]
  rfl

theorem Dev.sleepReq_asks {d : Dev} (o : Nat) {v : Nat} (h : v % 2 = 1) :
    d.sleepReq o v = (d.put (PWRM_SLEEP_REQ_REQ o) v).pwrmShow :=
  if_neg fun ⟨heven, _⟩ => by omega

theorem Dev.tolUs_long {d : Dev} (o : Nat) {v : Nat} (hlong : 80000 ≤ v) (hv : v < 2 ^ 32) :
    d.tolUs o v = (d.wr (PWRM_TOL_US o) v).pwrmShow := by
  unfold Dev.tolUs
  dsimp only
  rw [Nat.mod_eq_of_lt hv, if_neg]
  rintro ⟨hshort, _⟩
  split at hshort <;> omega

theorem Dev.wakeTimeout_wakes {d : Dev} (hasleep : d.sid.asleep = 1) (htimer : d.sid.timer ≠ 0) (hnoted : d.sid.noted = false)
    (hlong : d.sid.enteredAt + 1000000000 * d.sid.timer ≤ d.up) :
    d.wakeTimeout = ({ d with sid := { d.sid with timer := 0 } } : Dev).wakeOther 1 PWRM_WAKE_INFO_TIMER := by
  have hpassed : d.passed d.sid.enteredAt (1000000000 * d.sid.timer) = true := Dev.passed_iff.mpr hlong
  unfold Dev.wakeTimeout
  dsimp only
  rw [hpassed, if_neg (by simp [hasleep, htimer]), hnoted, if_neg Bool.false_ne_true]

theorem Dev.supplyRange_lockout {d : Dev} (m : Mem) (low : Bool) (bootsel : Nat) (meshOk : Bool) (h : d.frm.lockedOut = false) :
    d.supplyRange m 4 low bootsel meshOk = (d.powerLost.absent, Mem.flashOnly m) := by
  unfold Dev.supplyRange
  rw [h, if_neg Bool.false_ne_true, if_pos rfl]

theorem Dev.supplyRange_same {d : Dev} (m : Mem) {range : Nat} (low : Bool) (bootsel : Nat) {meshOk : Bool} (hrange : range < 4)
    (h : d.frm.lockedOut = false) (hmesh : d.meshFails range meshOk = false) (hsame : d.fld HPS_SUP_STS_RANGE = range) :
    d.supplyRange m range low bootsel meshOk = (d.linSupply (below7 range low), m) := by
  have hnew : d.newRange range bootsel = d := if_pos hsame.symm
  unfold Dev.supplyRange
  rw [h, if_neg Bool.false_ne_true, if_neg (by omega), hmesh, if_neg Bool.false_ne_true, hnew]
  cases d.frm.beyvoUp <;> rfl

theorem Dev.pwrGate_gates {d : Dev} {u v : Nat} (h : v % subUnits u &&& d.fld (CLK_GATE_OFF u) = v % subUnits u) :
    d.pwrGate u v =
      (d.put (PWRM_PGATE_OFF u) (v % subUnits u)).put (PWRM_PGATE_GATED u) (d.fld (PWRM_PGATE_GATED u) &&& (v % subUnits u)) :=
  if_neg fun hne => hne h

/-- A clock gate that is requested takes effect on an idle sub-unit without a power gate. -/
theorem Dev.gateEffect_gates {d : Dev} {u j : Nat} (hidle : d.unitIdle u j = true) (hoff : bit j (d.fld (CLK_GATE_OFF u)) = true)
    (hpower : bit j ((d.set ⟨CLK_GATE u, 8 + j, 8 + j⟩).fld (PWRM_PGATE_OFF u)) = false) :
    d.gateEffect u j = d.set ⟨CLK_GATE u, 8 + j, 8 + j⟩ := by
  unfold Dev.gateEffect
  dsimp only
  rw [hidle, if_neg (by decide), hoff, if_pos rfl, hpower, if_neg (fun h => Bool.false_ne_true h.1)]

/-- Settles O32, row by row; what an emptied byte of memory reads as is the model's choice (log entries 5 and 44). -/
theorem powerSupplyAndClockCommandsTakeEffect : Obligations.PowerSupplyAndClockCommandsTakeEffect := by
  unfold Obligations.PowerSupplyAndClockCommandsTakeEffect
  refine ⟨?sleepReq, ?tolUs, ?coreWait, ?wake, ?wakeTimer, ?lockout, ?sameRange, ?reverse, ?selected, ?lost, ?pll, ?clkGate, ?pwrGate,
    ?gate⟩
  case sleepReq =>
    intro s dt o v a d ho hmay hreq
    exact (exec_pwrmSleepReq ..).trans
      (State.onDevM_next (decide_eq_true ho) ((Dev.regWrite_pass hmay).trans (Dev.sleepReq_asks o hreq)))
  case tolUs =>
    intro s dt o v a d ho hmay hlong hv
    exact (exec_pwrmTolUs ..).trans
      (State.onDevM_next (decide_eq_true ho) ((Dev.regWrite_pass hmay).trans (Dev.tolUs_long o hlong hv)))
  case coreWait =>
    intro s dt core d hcore hruns
    exact (exec_coreWait ..).trans (State.onDev_next (decide_eq_true hcore) (if_pos (List.contains_iff_mem.mpr hruns)))
  case wake =>
    intro s dt core d hcore hcalled hwaits
    exact (exec_coreRetentionWake ..).trans
      (State.onDev_next (decide_eq_true hcore) (if_pos ⟨hcalled, List.contains_iff_mem.mpr hwaits⟩))
  case wakeTimer =>
    intro s dt d hasleep htimer hnoted hlong
    exact (exec_wakeTimerExpiry ..).trans (State.onDev_next rfl (Dev.wakeTimeout_wakes hasleep htimer hnoted hlong))
  case lockout =>
    intro s dt bs low ok d hbs hopen
    exact (exec_supplyRangeChange ..).trans
      (State.onAll_next (r := (_, _)) (by simp [hbs]) (Dev.supplyRange_lockout _ _ _ _ hopen))
  case sameRange =>
    intro s dt range bs low ok d hrange hbs hopen hmesh hsame
    exact (exec_supplyRangeChange ..).trans
      (State.onAll_next (r := (_, _)) (by simp [hbs]; omega) (Dev.supplyRange_same _ _ _ hrange hopen hmesh hsame))
  case reverse =>
    intro s dt below d hruns
    refine (exec_vbatP3Reverse ..).trans (State.onDev_next rfl (if_neg ?_))
    rw [show (s.now dt).hvRuns = true from hruns]
    decide
  case selected =>
    intro s dt ppm d hup href hppm
    refine (exec_refclkSelected ..).trans (State.onDev_next rfl (if_neg ?_))
    rw [show (s.now dt).frm.beyvoUp = true from hup, show (s.now dt).on CLK_STS_REF = false from href]
    simpa using hppm
  case lost =>
    intro s dt ppm edges d hup href hppm
    refine (exec_refclkLost ..).trans (State.onDev_next rfl (if_neg ?_))
    rw [show (s.now dt).frm.beyvoUp = true from hup, show (s.now dt).on CLK_STS_REF = true from href]
    simpa using hppm
  case pll =>
    intro s dt pll d hup
    exact (exec_pllUnlock ..).trans (State.onDev_next rfl (if_pos hup))
  case clkGate =>
    intro s dt u v a d hlo hhi hmay
    exact (exec_clkGateWrite ..).trans (State.onDevM_next (unit_ok hlo hhi) (Dev.regWrite_pass hmay))
  case pwrGate =>
    intro s dt u v a d hlo hhi hmay hclk
    exact (exec_pwrmPgateWrite ..).trans
      (State.onDevM_next (unit_ok hlo hhi) ((Dev.regWrite_pass hmay).trans (Dev.pwrGate_gates hclk)))
  case gate =>
    intro s dt u j d hlo hhi hj hidle hoff hpower
    refine (exec_gateInEffect ..).trans (State.onDev_next ?_ (Dev.gateEffect_gates hidle hoff hpower))
    rw [unit_ok hlo hhi, decide_eq_true hj]
    rfl

end Sys2Proof.Machine
end

section
/-! PROOFS. Faults and resets (R445–R456): what each command of the fault and reset manager does. -/

namespace Sys2Proof.Machine

open R

/-! ### The rows -/

theorem exec_frmAck (dt v : Nat) (a : Sys2Proof.Acc) (s : State) :
    exec (.frmAck dt a v) s = s.onDevM dt true fun m d => d.regWrite m a FRM_ACK (·.frmAck v) := rfl

theorem exec_frmSafeCtl (dt v : Nat) (a : Sys2Proof.Acc) (s : State) :
    exec (.frmSafeCtl dt a v) s = s.onDevM dt true fun m d => d.regWrite m a FRM_SAFE_CTL (·.safeCtl v) := rfl

theorem exec_frmResetDevice (dt v : Nat) (a : Sys2Proof.Acc) (s : State) :
    exec (.frmResetDevice dt a v) s = s.onDevM dt true fun m d => d.regWrite m a FRM_RESET_CMD (·.resetCmd v) := rfl

theorem exec_frmResetBeyvo (dt v : Nat) (a : Sys2Proof.Acc) (s : State) :
    exec (.frmResetBeyvo dt a v) s = s.onDevM dt true fun m d => d.regWrite m a FRM_RESET_CMD (·.resetCmd v) := rfl

theorem exec_deviceReset (dt bs : Nat) (ok : Bool) (s : State) :
    exec (.deviceReset dt bs ok) s = execDeviceReset dt bs ok s := rfl

theorem exec_beyvoReset (dt bs : Nat) (s : State) : exec (.beyvoReset dt bs) s = execBeyvoReset dt bs s := rfl

theorem exec_powerOnReset (dt bs : Nat) (s : State) :
    exec (.powerOnReset dt bs) s =
      s.onAll dt (bs < 4) fun m d => (d.powerLost.powerOn bs, Mem.flashOnly m) := rfl

theorem exec_resetNLow (dt us : Nat) (s : State) : exec (.resetNLow dt us) s = execResetNLow dt us s := rfl

theorem exec_caResetReq (dt c v : Nat) (a : Sys2Proof.Acc) (s : State) :
    exec (.caResetReq dt a c v) s = s.onDevM dt (c < 8) fun m d => d.regWrite m a (CA_RESET_REQ c) (·.resetReq c v) := rfl

theorem exec_frmCoachReset (dt c v : Nat) (a : Sys2Proof.Acc) (s : State) :
    exec (.frmCoachReset dt a c v) s = s.onDevM dt (c < 8) fun m d => d.regWrite m a (FRM_COACH_CTL c) (·.coachCtl c v) := rfl

theorem exec_frmCoachRestart (dt c v : Nat) (a : Sys2Proof.Acc) (s : State) :
    exec (.frmCoachRestart dt a c v) s = s.onDevM dt (c < 8) fun m d => d.regWrite m a (FRM_COACH_CTL c) (·.coachCtl c v) := rfl

theorem exec_frmCoachDsRel (dt c v : Nat) (a : Sys2Proof.Acc) (s : State) :
    exec (.frmCoachDsRel dt a c v) s = s.onDevM dt (c < 8) fun m d => d.regWrite m a (FRM_COACH_CTL c) (·.coachCtl c v) := rfl

theorem exec_coachReset (dt c : Nat) (s : State) : exec (.coachReset dt c) s = execCoachReset dt c s := rfl

theorem exec_frmCtlLock (dt v : Nat) (a : Sys2Proof.Acc) (s : State) :
    exec (.frmCtlLock dt a v) s =
      s.onDevM dt true fun m d => d.regWrite m a FRM_CTL fun d => if bit 0 v then d.set FRM_CTL_LOCK else d := rfl

theorem exec_blockResetCanLin (dt v : Nat) (a : Sys2Proof.Acc) (s : State) :
    exec (.blockResetCanLin dt a v) s = s.onAll dt true fun m d => d.regWriteM m a FRM_BLK_RST (Dev.blkRst v) := rfl

theorem exec_blockResetTally (dt v : Nat) (a : Sys2Proof.Acc) (s : State) :
    exec (.blockResetTally dt a v) s = s.onAll dt true fun m d => d.regWriteM m a FRM_BLK_RST (Dev.blkRst v) := rfl

theorem exec_blockResetOutr (dt v : Nat) (a : Sys2Proof.Acc) (s : State) :
    exec (.blockResetOutr dt a v) s = s.onAll dt true fun m d => d.regWriteM m a FRM_BLK_RST (Dev.blkRst v) := rfl

theorem exec_blockResetLio (dt v : Nat) (a : Sys2Proof.Acc) (s : State) :
    exec (.blockResetLio dt a v) s = s.onAll dt true fun m d => d.regWriteM m a FRM_BLK_RST (Dev.blkRst v) := rfl

/-! ### Pins, reports and requests -/

section Requests

variable {d : Dev} {v : Nat}

theorem Dev.safeCtl_high (hkey : bits 31 16 v = 0x5AFE) (hgo : bit 0 v = true) (hboot : d.frm.bootHold = false)
    (htamper : d.frm.tamperHold = false) (hkept : (List.range 8).any d.keepsSafeLow = false) :
    d.safeCtl v = d.pin FRM_STS_SAFE_N 1 true := by
  unfold Dev.safeCtl
  rw [if_neg (by simp [hkey, hgo]), if_neg (by simp [hboot, htamper, hkept])]

/-- A coach's own page reports faults of that coach, of severity 2 at most. -/
theorem Dev.swFault_coach {a : Sys2Proof.Acc} {c : Nat} (hc : c < 8) (hwho : a.guard = true ∨ bits 7 4 v = 0)
    (hsev : bits 1 0 v ≠ 0) :
    d.swFault a c v =
      d.faultPost (min (bits 1 0 v) 2) 0x02 0x0005 c c [bits 31 16 v] { core := none, cause := 8 } := by
  have hown : ¬ ((!a.guard) = true ∧ bits 7 4 v ≠ 0) := by
    rintro ⟨hguard, howner⟩
    rcases hwho with h | h
    · simp [h] at hguard
    · exact howner h
  unfold Dev.swFault
  dsimp only
  rw [if_neg hown, if_neg hsev, if_pos hc, if_pos hc, if_neg (by omega)]

theorem Dev.swFault_guard {a : Sys2Proof.Acc} (hguard : a.guard = true) (hsev : bits 1 0 v ≠ 0) :
    d.swFault a 8 v =
      d.faultPost (bits 1 0 v) 0x02 0x0005 (bits 7 4 v) (bits 7 4 v) [bits 31 16 v]
        { core := if bits 7 4 v = 8 ∧ a.core < 12 then some a.core else none, cause := 8 } := by
  have hown : ¬ ((!a.guard) = true ∧ bits 7 4 v ≠ 0) := fun h => by simp [hguard] at h
  unfold Dev.swFault
  dsimp only
  rw [if_neg hown, if_neg hsev, if_neg (by decide), if_neg (by decide)]

theorem Dev.resetCmd_device (hkey : bits 31 16 v = 0xDE5E) (hcmd : bits 1 0 v = 1) :
    d.resetCmd v = d.startDeviceReset 2 0 0 := by
  unfold Dev.resetCmd
  rw [if_neg (not_not.mpr hkey), hcmd]
  rfl

theorem Dev.resetCmd_beyvo (hkey : bits 31 16 v = 0xDE5E) (hcmd : bits 1 0 v = 2) : d.resetCmd v = d.startBeyvoReset 6 := by
  unfold Dev.resetCmd
  rw [if_neg (not_not.mpr hkey), hcmd]
  rfl

variable {c : Nat}

theorem Dev.requestReset_starts (cause : Nat) (hlatent : d.tan.latent.find? (fun x => d.pairOwner x.1 == c) = none) :
    d.requestReset c cause = d.startCoachReset c cause := by
  unfold Dev.requestReset
  rw [hlatent]

/-- A reset that a latent mismatch has deferred is performed instead (R359). -/
theorem Dev.requestReset_pair {p at0 : Nat} (cause : Nat)
    (hlatent : d.tan.latent.find? (fun x => d.pairOwner x.1 == c) = some (p, at0)) :
    d.requestReset c cause = d.pairReset p 3 := by
  unfold Dev.requestReset
  rw [hlatent]

theorem Dev.resetReq_requests (hkey : bits 31 16 v = 0xC0AC) (hpair : d.dDegraded c = false) :
    d.resetReq c v = d.requestReset c 5 := by
  unfold Dev.resetReq
  rw [if_neg (not_not.mpr hkey), hpair, if_neg Bool.false_ne_true]

/-- The three commands of FRM_COACHc_CTL act in the order of their bits. -/
theorem Dev.coachCtl_acts (hkey : bits 31 16 v = 0xC0AC) (hen : d.on (MAN_COACH_CFG_EN c) = true) :
    d.coachCtl c v =
      ((d.when (bit 0 v) (·.guardReset c)).when (bit 1 v) (·.guardRestartCoach c)).when (bit 2 v) (·.guardDsRel c) := by
  unfold Dev.coachCtl
  rw [if_neg (by simp [hkey, hen])]

theorem Dev.coachCtl_reset (hkey : bits 31 16 v = 0xC0AC) (hen : d.on (MAN_COACH_CFG_EN c) = true) (h0 : bit 0 v = true)
    (h1 : bit 1 v = false) (h2 : bit 2 v = false) (hpair : d.dDegraded c = false) :
    d.coachCtl c v = d.requestReset c 6 := by
  rw [Dev.coachCtl_acts hkey hen, h0, h1, h2]
  exact if_neg (ne_true_of_eq_false hpair)

theorem Dev.coachCtl_restart (hkey : bits 31 16 v = 0xC0AC) (hen : d.on (MAN_COACH_CFG_EN c) = true) (h0 : bit 0 v = false)
    (h1 : bit 1 v = true) (h2 : bit 2 v = false) (hpair : d.dDegraded c = false) :
    d.coachCtl c v = ({ d with frm := { d.frm with held := d.frm.held.filter (· ≠ c) } } : Dev).coachRelease c := by
  rw [Dev.coachCtl_acts hkey hen, h0, h1, h2]
  exact if_neg (ne_true_of_eq_false hpair)

theorem Dev.coachCtl_releases (hkey : bits 31 16 v = 0xC0AC) (hen : d.on (MAN_COACH_CFG_EN c) = true) (h0 : bit 0 v = false)
    (h1 : bit 1 v = false) (h2 : bit 2 v = true) (hdown : d.coachDown c = false) (hpair : d.dDegraded c = false)
    (hpolicy : c ∈ d.frm.dsPolicy) :
    d.coachCtl c v =
      ({ d with frm := { d.frm with dsPolicy := d.frm.dsPolicy.filter (· ≠ c) } } : Dev).dsReleaseCoach c := by
  rw [Dev.coachCtl_acts hkey hen, h0, h1, h2]
  show d.guardDsRel c = _
  unfold Dev.guardDsRel
  rw [if_neg (by simp [hdown, hpair]), if_pos (List.contains_iff_mem.mpr hpolicy)]

end Requests

/-! ### Block resets -/

section BlockReset

variable {d : Dev} {v : Nat} (m : Mem) (hkey : bits 31 16 v = 0xB1C0)
include hkey

theorem Dev.blkRst_bus (hunit : bits 2 0 v = 1) (hlo : 16 ≤ bits 8 3 v) (hhi : bits 8 3 v ≤ 35) :
    Dev.blkRst v m d = ((d.busRestart (bits 8 3 v)).post 0x02 0x0008 0 9 1 [v % 512], m) := by
  unfold Dev.blkRst
  dsimp only
  rw [if_neg (by omega), hunit]
  rfl

theorem Dev.blkRst_tally (hunit : bits 2 0 v = 2) :
    Dev.blkRst v m d = ((d.tallyReset m).1.post 0x02 0x0008 0 9 2 [v % 512], (d.tallyReset m).2) := by
  unfold Dev.blkRst
  dsimp only
  rw [if_neg (by omega), hunit]
  rfl

theorem Dev.blkRst_outr (hunit : bits 2 0 v = 3) :
    Dev.blkRst v m d = (d.outrRestart.post 0x02 0x0008 0 9 3 [v % 512], m) := by
  unfold Dev.blkRst
  dsimp only
  rw [if_neg (by omega), hunit]
  rfl

theorem Dev.blkRst_lio (hunit : bits 2 0 v = 4) (hhi : bits 8 3 v ≤ 31) :
    Dev.blkRst v m d = ((d.lioEmpty (bits 8 3 v)).post 0x02 0x0008 0 9 4 [v % 512], m) := by
  unfold Dev.blkRst
  dsimp only
  rw [if_neg (by omega), hunit]
  rfl

end BlockReset

/-! ### The resets -/

/-- A device reset takes place outside the holds, once the lid mesh that it has to check is found whole. -/
theorem execDeviceReset_resets {s : State} {dt bs : Nat} {ok : Bool} {r : ResetReq} (hbs : bs < 4)
    (hreq : (s.now dt).frm.devReset = some r) (htamper : (s.now dt).frm.tamperHold = false)
    (hboot : (s.now dt).frm.bootHold = false) (hout : (s.now dt).frm.lockedOut = false)
    (hmesh : (s.now dt).frm.meshDue = true → ok = true) :
    exec (.deviceReset dt bs ok) s =
      .next (s.becomesM ((s.now dt).deviceClear.start r bs) (Mem.atBoot (Mem.scrubAll s.mem true))) := by
  have hpass : ¬ ((s.now dt).frm.meshDue = true ∧ (!ok) = true) := fun h => by simp [hmesh h.1] at h
  refine (exec_deviceReset ..).trans (State.onAll_next
    (r := ((s.now dt).deviceClear.start r bs, Mem.atBoot (Mem.scrubAll s.mem true))) (decide_eq_true hbs) ?_)
  dsimp only
  rw [hreq]
  dsimp only
  rw [if_neg (by simp [htamper, hboot, hout]), if_neg hpass]

theorem execBeyvoReset_resets {s : State} {dt bs : Nat} {r : ResetReq} (hbs : bs < 4)
    (hreq : (s.now dt).frm.bvReset = some r) (htamper : (s.now dt).frm.tamperHold = false)
    (hboot : (s.now dt).frm.bootHold = false) (hout : (s.now dt).frm.lockedOut = false)
    (hpin : (s.now dt).frm.resetNLow = false) :
    exec (.beyvoReset dt bs) s =
      .next (s.becomesM ((s.now dt).beyvoDown.start r bs) (Mem.atBoot (Mem.scrubAll s.mem false))) := by
  refine (exec_beyvoReset ..).trans (State.onAll_next
    (r := ((s.now dt).beyvoDown.start r bs, Mem.atBoot (Mem.scrubAll s.mem false))) (decide_eq_true hbs) ?_)
  rw [hreq]
  dsimp only
  rw [if_neg (by simp [htamper, hboot, hout, hpin])]

theorem execPowerOnReset_restarts (s : State) (dt : Nat) {bs : Nat} (hbs : bs < 4) :
    exec (.powerOnReset dt bs) s = .next (s.becomesM ((s.now dt).powerLost.powerOn bs) (Mem.flashOnly s.mem)) :=
  (exec_powerOnReset ..).trans (if_pos (decide_eq_true hbs))

theorem execResetNLow_ignored (s : State) (dt : Nat) : exec (.resetNLow dt 0) s = .next (s.becomes (s.now dt)) := by
  refine (exec_resetNLow ..).trans (State.onDev_next rfl ?_)
  rw [if_neg (by decide), if_pos rfl]

theorem execResetNLow_acts {s : State} {dt us : Nat} (h : 10 ≤ us) :
    exec (.resetNLow dt us) s = .next (s.becomes (s.now dt).resetN) :=
  (exec_resetNLow ..).trans (State.onDev_next rfl (if_pos h))

/-- Steps 2 to 6 of a coach reset (R453). -/
def Dev.coachResets (d : Dev) (m : Mem) (c cause : Nat) : Dev × Mem :=
  let x := ((d.enterCoachReset c).resetCores c).resetUnits m c
  ((x.1.chanPolicy c).resetDone c cause, Mem.scrub x.2 (fun e => entryOwner e == c && entryScrub e))

theorem execCoachReset_resets {s : State} {dt c i cause : Nat} (hc : c < 8)
    (hreq : (s.now dt).frm.coachReset.find? (·.1 == c) = some (i, cause)) (hdev : (s.now dt).frm.devReset = none)
    (hguard : (s.now dt).coachInGuard c = false) :
    exec (.coachReset dt c) s =
      .next (s.becomesM ((s.now dt).coachResets s.mem c cause).1 ((s.now dt).coachResets s.mem c cause).2) := by
  refine (exec_coachReset ..).trans (State.onAll_next (r := Dev.coachResets (s.now dt) s.mem c cause) (decide_eq_true hc) ?_)
  rw [hreq]
  exact if_neg (by simp [hdev, hguard])

/-- Settles O33, row by row; the places of UNIT and INDEX in the record of a block reset are the model's choice (log entry 42,
DEDUCED). -/
theorem faultAndResetCommandsTakeEffect : Obligations.FaultAndResetCommandsTakeEffect := by
  unfold Obligations.FaultAndResetCommandsTakeEffect
  refine ⟨?ack, ?safe, ?swCoach, ?swGuard, ?resetDevice, ?resetBeyvo, ?device, ?beyvo, ?powerOn, ?low, ?glitch, ?request,
    ?requestPair, ?guardReset, ?restart, ?dsRel, ?coach, ?lock, ?bus, ?tally, ?outr, ?lio⟩
  case ack =>
    intro s dt v a d hmay hkey
    exact (exec_frmAck ..).trans (State.onDevM_next rfl ((Dev.regWrite_pass hmay).trans (if_pos hkey)))
  case safe =>
    intro s dt v a d hmay hkey hgo hboot htamper hkept
    exact (exec_frmSafeCtl ..).trans
      (State.onDevM_next rfl ((Dev.regWrite_pass hmay).trans (Dev.safeCtl_high hkey hgo hboot htamper hkept)))
  case swCoach =>
    intro s dt c v a d hc hmay hwho hsev
    exact (exec_frmSwfault ..).trans
      (State.onDevM_next (decide_eq_true (by omega)) ((Dev.regWrite_pass hmay).trans (Dev.swFault_coach hc hwho hsev)))
  case swGuard =>
    intro s dt v a d hmay hguard hsev
    exact (exec_frmSwfault ..).trans
      (State.onDevM_next (by decide) ((Dev.regWrite_pass hmay).trans (Dev.swFault_guard hguard hsev)))
  case resetDevice =>
    intro s dt v a d hmay hkey hcmd
    exact (exec_frmResetDevice ..).trans
      (State.onDevM_next rfl ((Dev.regWrite_pass hmay).trans (Dev.resetCmd_device hkey hcmd)))
  case resetBeyvo =>
    intro s dt v a d hmay hkey hcmd
    exact (exec_frmResetBeyvo ..).trans
      (State.onDevM_next rfl ((Dev.regWrite_pass hmay).trans (Dev.resetCmd_beyvo hkey hcmd)))
  case device =>
    intro s dt bs ok r d hbs hreq htamper hboot hout hmesh
    exact execDeviceReset_resets hbs hreq htamper hboot hout hmesh
  case beyvo =>
    intro s dt bs r d hbs hreq htamper hboot hout hpin
    exact execBeyvoReset_resets hbs hreq htamper hboot hout hpin
  case powerOn =>
    intro s dt bs d hbs
    exact execPowerOnReset_restarts s dt hbs
  case low =>
    intro s dt us d hus
    exact execResetNLow_acts hus
  case glitch =>
    intro s dt d
    exact execResetNLow_ignored s dt
  case request =>
    intro s dt c v a d hc hmay hkey hpair hlatent
    exact (exec_caResetReq ..).trans (State.onDevM_next (decide_eq_true hc) ((Dev.regWrite_pass hmay).trans
      ((Dev.resetReq_requests hkey hpair).trans (Dev.requestReset_starts 5 hlatent))))
  case requestPair =>
    intro s dt c v p at0 a d hc hmay hkey hpair hlatent
    exact (exec_caResetReq ..).trans (State.onDevM_next (decide_eq_true hc) ((Dev.regWrite_pass hmay).trans
      ((Dev.resetReq_requests hkey hpair).trans (Dev.requestReset_pair 5 hlatent))))
  case guardReset =>
    intro s dt c v a d hc hmay hkey hen h0 h1 h2 hpair hlatent
    exact (exec_frmCoachReset ..).trans (State.onDevM_next (decide_eq_true hc) ((Dev.regWrite_pass hmay).trans
      ((Dev.coachCtl_reset hkey hen h0 h1 h2 hpair).trans (Dev.requestReset_starts 6 hlatent))))
  case restart =>
    intro s dt c v a d hc hmay hkey hen h0 h1 h2 hpair
    exact (exec_frmCoachRestart ..).trans (State.onDevM_next (decide_eq_true hc)
      ((Dev.regWrite_pass hmay).trans (Dev.coachCtl_restart hkey hen h0 h1 h2 hpair)))
  case dsRel =>
    intro s dt c v a d hc hmay hkey hen h0 h1 h2 hdown hpair hpolicy
    exact (exec_frmCoachDsRel ..).trans (State.onDevM_next (decide_eq_true hc)
      ((Dev.regWrite_pass hmay).trans (Dev.coachCtl_releases hkey hen h0 h1 h2 hdown hpair hpolicy)))
  case coach =>
    intro s dt c i cause d hc hreq hdev hguard
    rw [execCoachReset_resets hc hreq hdev hguard, Dev.coachResets]
  case lock =>
    intro s dt v a d hmay hgo
    exact (exec_frmCtlLock ..).trans (State.onDevM_next rfl ((Dev.regWrite_pass hmay).trans (if_pos hgo)))
  case bus =>
    intro s dt v a d hmay hkey hunit hlo hhi
    exact (exec_blockResetCanLin ..).trans (State.onAll_next (r := (_, _)) rfl
      ((Dev.regWriteM_pass hmay).trans (Dev.blkRst_bus _ hkey hunit hlo hhi)))
  case tally =>
    intro s dt v a d hmay hkey hunit
    exact (exec_blockResetTally ..).trans (State.onAll_next (r := (_, _)) rfl
      ((Dev.regWriteM_pass hmay).trans (Dev.blkRst_tally _ hkey hunit)))
  case outr =>
    intro s dt v a d hmay hkey hunit
    exact (exec_blockResetOutr ..).trans (State.onAll_next (r := (_, _)) rfl
      ((Dev.regWriteM_pass hmay).trans (Dev.blkRst_outr _ hkey hunit)))
  case lio =>
    intro s dt v a d hmay hkey hunit hhi
    exact (exec_blockResetLio ..).trans (State.onAll_next (r := (_, _)) rfl
      ((Dev.regWriteM_pass hmay).trans (Dev.blkRst_lio _ hkey hunit hhi)))

/-! ### RESET_N in lockout -/

/-- In lockout the module is as absent (R439): RESET_N changes nothing. -/
theorem Dev.resetN_lockedOut {d : Dev} (h : d.frm.lockedOut = true) : d.resetN = d := if_pos (.inr h)

/-- The reset state, in lockout. -/
def lockedOutState : State :=
  { State.reset with dev := { Dev.reset with frm := { FrmSt.reset with lockedOut := true } } }

theorem lockedOutState_locked : (lockedOutState.now 0).frm.lockedOut = true := by decide

/-- Refutes O58: resetNLow of 10 microseconds in lockout leaves the device as it is, with RESET_N not noted as low. -/
theorem not_faultAndResetCommandsComplete : ¬ Obligations.FaultAndResetCommandsComplete := by
  unfold Obligations.FaultAndResetCommandsComplete
  intro h
  obtain ⟨_, _, _, _, _, _, _, _, hlow, _⟩ := h
  obtain ⟨t, ht, _, hnoted, _⟩ := hlow lockedOutState 0 10 (by decide) (by decide) (by decide)
  obtain rfl := Host.Outcome.next.inj (ht.symm.trans (execResetNLow_acts (le_refl 10)))
  rw [Dev.resetN_lockedOut lockedOutState_locked] at hnoted
  exact absurd hnoted (by decide)

end Sys2Proof.Machine
end

section
/-! PROOFS. The tally counters and precise sampling (R460–R466), the accesses that a core makes, and the tick of a stage. -/

namespace Sys2Proof.Machine

open R

/-! ### The rows -/

theorem exec_tallyCounterWrite (dt addr v : Nat) (a : Sys2Proof.Acc) (s : State) :
    exec (.tallyCounterWrite dt a addr v) s = s.onDevM dt (counterHalf addr).isSome fun m d =>
      d.regWrite m a addr (·.unlessInert addr (·.counterWrite addr v)) := rfl

theorem exec_smpCfgWrite (dt core v : Nat) (a : Sys2Proof.Acc) (s : State) :
    exec (.smpCfgWrite dt a core v) s = s.onDevM dt (core < 12) fun m d =>
      d.regWrite m a (TALLY_C_SMP_CFG core) (·.unlessInert (TALLY_C_SMP_CFG core) (·.smpCfg core v)) := rfl

theorem exec_smpRdWrite (dt core v : Nat) (a : Sys2Proof.Acc) (s : State) :
    exec (.smpRdWrite dt a core v) s = s.onDevM dt (core < 12) fun m d =>
      d.regWrite m a (TALLY_C_SMP_RD core) (·.unlessInert (TALLY_C_SMP_RD core) (·.smpRd core v)) := rfl

theorem exec_preciseSample (dt core count addr opcode latency : Nat) (s : State) :
    exec (.preciseSample dt core count addr opcode latency) s = execPreciseSample dt core count addr opcode latency s := rfl

theorem exec_bandwidthLatchPoint (dt n : Nat) (s : State) :
    exec (.bandwidthLatchPoint dt n) s = execBandwidthLatchPoint dt n s := rfl

/-! ### Counters -/

theorem Dev.unlessInert_live {d : Dev} {addr : Nat} {f : Dev → Dev} (h : d.inertPage addr = false) :
    d.unlessInert addr f = f d := if_neg (ne_true_of_eq_false h)

theorem Dev.unlessInert_inert {d : Dev} {addr : Nat} {f : Dev → Dev} (h : d.inertPage addr = true) :
    d.unlessInert addr f = d := if_pos h

theorem Dev.counterWrite_half {addr : Nat} {high : Bool} (d : Dev) (v : Nat) (h : counterHalf addr = some high) :
    d.counterWrite addr v =
      ({ d with
        tim := { d.tim with latched := d.tim.latched.filter (·.1 ≠ addr) }
        tal := { d.tal with wrote := tset 0 (d.tallyCycle (addr - addr % 16)) (addr - addr % 16) d.tal.wrote } } : Dev).wr
        addr (if high then v % 65536 else v) := by
  unfold Dev.counterWrite
  rw [h]

/-! ### Precise sampling -/

section Sampling

variable {core : Nat}

theorem Dev.smpRd_moves {d : Dev} {v : Nat} (hv : v < 2 ^ 32)
    (hbehind : (d.rn (TALLY_C_SMP_WR core) + 2 ^ 32 - v) % 2 ^ 32 ≤ 512) (hmoves : v ≠ d.rn (TALLY_C_SMP_RD core)) :
    d.smpRd core v =
      (({ d with tal := { d.tal with smpFull := d.tal.smpFull.filter (· ≠ core) } } : Dev).wr (TALLY_C_SMP_RD core) v).smpThresh
        core := by
  unfold Dev.smpRd
  dsimp only
  rw [Nat.mod_eq_of_lt hv, if_neg (by omega)]

/-- The device once the occurrences that a sample tells are counted (R462). -/
def Dev.smpTold (d : Dev) (core count : Nat) : Dev :=
  if ownEvent (d.smpEvent core) then d else d.tallyC core (d.smpEvent core) count

/-- The sample count of a core with those occurrences. -/
def Dev.smpTotal (d : Dev) (core count : Nat) : Nat :=
  tget 0 (d.smpTold core count).tal.smp core + (if ownEvent (d.smpEvent core) then 0 else count)

/-- The count of a core goes on from `n`. -/
def Dev.smpFrom (d : Dev) (core n : Nat) : Dev := { d with tal := { d.tal with smp := tset 0 n core d.tal.smp } }

/-- Precise sampling of one command (R463). -/
def Dev.smpTakes (d : Dev) (m : Mem) (core count addr opcode latency : Nat) : Dev × Mem :=
  let e := d.smpTold core count
  let t := d.smpTotal core count
  let n := e.fld (TALLY_C_SMP_CFG_N core)
  if !e.smpOn core then (e, m)
  else if t < n then (e.smpFrom core (t % n), m)
  else
    let r := Dev.smpFree core (t / n - 1) (e.smpFrom core (t % n)) m
    r.1.smpDue r.2 core addr opcode latency

theorem execPreciseSample_takes {s : State} {dt : Nat} (count addr opcode latency : Nat) (hcore : core < 12) :
    exec (.preciseSample dt core count addr opcode latency) s =
      .next (s.becomesM ((s.now dt).smpTakes s.mem core count addr opcode latency).1
        ((s.now dt).smpTakes s.mem core count addr opcode latency).2) :=
  (exec_preciseSample ..).trans (State.onAll_next (decide_eq_true hcore) rfl)

variable {d : Dev} {count : Nat} (m : Mem) (addr opcode latency : Nat)

/-- Short of N nothing is sampled. -/
theorem Dev.smpTakes_short (hon : (d.smpTold core count).smpOn core = true)
    (hshort : d.smpTotal core count < (d.smpTold core count).fld (TALLY_C_SMP_CFG_N core)) :
    d.smpTakes m core count addr opcode latency = ((d.smpTold core count).smpFrom core (d.smpTotal core count), m) := by
  unfold Dev.smpTakes
  dsimp only
  rw [hon, if_neg (by decide), if_pos hshort, Nat.mod_eq_of_lt hshort]

/-- From N to below 2 N one sample is due, and the count goes on from the excess. -/
theorem Dev.smpTakes_one {n : Nat} (hon : (d.smpTold core count).smpOn core = true)
    (hn : (d.smpTold core count).fld (TALLY_C_SMP_CFG_N core) = n) (hdue : n ≤ d.smpTotal core count)
    (hone : d.smpTotal core count < 2 * n)
    (hroom : ((d.smpTold core count).smpFrom core (d.smpTotal core count - n)).smpFill core < 512) :
    d.smpTakes m core count addr opcode latency =
      ((d.smpTold core count).smpFrom core (d.smpTotal core count - n)).smpWrite m core addr opcode latency := by
  have hrest : d.smpTotal core count % n = d.smpTotal core count - n := by
    rw [Nat.mod_eq_sub_mod hdue, Nat.mod_eq_of_lt (by omega)]
  have hquot : d.smpTotal core count / n = 1 := Nat.div_eq_of_lt_le (by omega) (by omega)
  unfold Dev.smpTakes
  dsimp only
  rw [hon, if_neg (by decide), hn, if_neg (by omega), hrest, hquot]
  exact if_pos hroom

end Sampling

/-! ### Accesses -/

theorem badWidth_word {addr : Nat} (hlegacy : addr / 0x10000 ≠ 0x4033) (halign : addr % 4 = 0) : badWidth addr 4 = false := by
  unfold badWidth
  rw [if_neg hlegacy]
  simp [halign]

theorem Dev.access_writeReg {d : Dev} {m : Mem} {a : Sys2Proof.Acc} {addr v : Nat} (hwin : (window addr).isSome = true)
    (hlegacy : addr / 0x10000 ≠ 0x4033) (halign : addr % 4 = 0) (hmay : d.mayWrite m a addr) (hlive : d.deadAperture addr = false) :
    d.access m a .write addr 4 v = d.writeReg m a addr v := by
  rw [Dev.access_register_pass hwin (badWidth_word hlegacy halign) hmay, Dev.regAccess, hlive, if_neg Bool.false_ne_true,
    if_pos rfl]

/-- Below DRAM no access counts as one of DRAM. -/
theorem Dev.memAccess_stores (d : Dev) (m : Mem) (a : Sys2Proof.Acc) {addr : Nat} (width v : Nat) (h : addr < 0x100000000) :
    d.memAccess m a .write addr width v = (d.returns 0, Mem.setBytes m addr (leBytes width v)) := by
  unfold Dev.memAccess
  dsimp only
  rw [if_pos rfl, if_neg (by omega)]

theorem Dev.memAccess_loads (d : Dev) (m : Mem) (a : Sys2Proof.Acc) {addr : Nat} (width v : Nat) (hrom : 0x40000 ≤ addr)
    (h : addr < 0x100000000) :
    d.memAccess m a .read addr width v = (d.returns (leNat (Mem.bytes m addr width)), m) := by
  unfold Dev.memAccess
  dsimp only
  rw [if_neg AccKind.noConfusion, if_neg (Nat.not_lt.mpr hrom), if_neg (by omega)]

theorem Dev.access_timeNowLo {d : Dev} {m : Mem} {a : Sys2Proof.Acc} (v : Nat) (hmay : d.mayRead m a TIME_NOW_LO) :
    d.access m a .read TIME_NOW_LO 4 v = (d.plainRead a TIME_NOW_LO, m) := by
  rw [Dev.access_register_pass rfl rfl hmay]
  rfl

/-- Settles O34, row by row; that a value lies little-endian in memory is the model's choice (log entry 36, DEDUCED). -/
theorem tallyAndAccessCommandsTakeEffect : Obligations.TallyAndAccessCommandsTakeEffect := by
  unfold Obligations.TallyAndAccessCommandsTakeEffect
  refine ⟨?counter, ?inert, ?config, ?rd, ?short, ?one, ?latch, ?store, ?load, ?register, ?time, ?tick, ?early⟩
  case counter =>
    intro s dt addr v high a d hhalf hmay hlive
    exact (exec_tallyCounterWrite ..).trans (State.onDevM_next (Option.isSome_of_eq_some hhalf)
      ((Dev.regWrite_pass hmay).trans ((Dev.unlessInert_live hlive).trans (Dev.counterWrite_half d v hhalf))))
  case inert =>
    intro s dt addr v a d hhalf hmay hinert
    exact (exec_tallyCounterWrite ..).trans
      (State.onDevM_next hhalf ((Dev.regWrite_pass hmay).trans (Dev.unlessInert_inert hinert)))
  case config =>
    intro s dt core v a d hcore hmay hlive
    exact (exec_smpCfgWrite ..).trans
      (State.onDevM_next (decide_eq_true hcore) ((Dev.regWrite_pass hmay).trans (Dev.unlessInert_live hlive)))
  case rd =>
    intro s dt core v a d hcore hmay hv hbehind hmoves hlive
    exact (exec_smpRdWrite ..).trans (State.onDevM_next (decide_eq_true hcore)
      ((Dev.regWrite_pass hmay).trans ((Dev.unlessInert_live hlive).trans (Dev.smpRd_moves hv hbehind hmoves))))
  case short =>
    intro s dt core count addr opcode lat d ev e t0 n hcore hon hshort
    rw [execPreciseSample_takes _ _ _ _ hcore, Dev.smpTakes_short s.mem addr opcode lat hon hshort]
    rfl
  case one =>
    intro s dt core count addr opcode lat d ev e t0 n hcore hon hdue hone hroom
    rw [execPreciseSample_takes _ _ _ _ hcore, Dev.smpTakes_one s.mem addr opcode lat hon rfl hdue hone hroom]
    rfl
  case latch =>
    intro s dt n d hn hne hkind hwork happlies hin
    exact (exec_bandwidthLatchPoint ..).trans
      (State.onDev_next (decide_eq_true hn) (if_pos ⟨hne, hkind, hwork, happlies, hin⟩))
  case store =>
    intro s dt addr width v a d hwidth hwin hfirst hlast hdram
    exact (exec_coreMemoryAccess ..).trans (State.onAll_next (r := (_, _)) hwidth
      ((Dev.access_memory_pass v (Option.isSome_eq_false_iff.mpr (Option.isNone_iff_eq_none.mpr hwin)) hfirst hlast).trans
        (Dev.memAccess_stores d s.mem a width v hdram)))
  case load =>
    intro s dt addr width v a d hwidth hwin hfirst hlast hrom hdram
    exact (exec_coreMemoryAccess ..).trans (State.onAll_next (r := (_, _)) hwidth
      ((Dev.access_memory_pass v (Option.isSome_eq_false_iff.mpr (Option.isNone_iff_eq_none.mpr hwin)) hfirst hlast).trans
        (Dev.memAccess_loads d s.mem a width v hrom hdram)))
  case register =>
    intro s dt addr v a d hwin hlegacy halign hmay hlive
    exact (exec_registerWrite ..).trans
      (State.onAll_next (by decide) (Dev.access_writeReg hwin hlegacy halign hmay hlive))
  case time =>
    intro s dt a d hmay
    exact (exec_latchingReadLo ..).trans (State.onAll_next (r := (_, _)) rfl (Dev.access_timeNowLo 0 hmay))
  case tick =>
    intro s dt d hsealed hup hsid hdue
    exact exec_stageTick_due ⟨hsealed, hup, hsid, hdue⟩
  case early =>
    intro s dt d hearly
    have hnot : ¬((s.now dt).boot.phase = .sealed ∧ (s.now dt).frm.beyvoUp = true ∧ (s.now dt).fld SID_STS_STATE ≠ 3 ∧
        (s.now dt).stg.nextTick ≤ (s.now dt).domNs) := fun h => Nat.not_lt.mpr h.2.2.2 hearly
    exact (exec_stageTick ..).trans (State.onAll_next (r := (_, _)) rfl (if_neg hnot))

end Sys2Proof.Machine
end

section
/-! PROOFS. What pins, records, ports, channels, frames and pairs do behind the boot ROM's back: of the chip's own registers,
of the boot phase, of the odometers and of the temperature models they change nothing. -/

namespace Sys2Proof.Machine

open R

/-! ### What those functions cannot undo -/

/-- A register beyond SYS and the counters of faults, or that of the pins, or the counter of faults of severity 2. -/
abbrev apart (a : Nat) : Prop := 0x40010030 < a ∨ a = FRM_STS ∨ a = FRM_CNT 2

theorem apart_add {b : Nat} (k : Nat) (h : 0x40010030 < b) : apart (b + k) := .inl (Nat.lt_add_right k h)

theorem apart_add_add {b : Nat} (k l : Nat) (h : 0x40010030 < b) : apart (b + k + l) :=
  .inl (Nat.lt_add_right l (Nat.lt_add_right k h))

theorem apart_shedLo : apart HPS_SHED_LO := by decide

theorem apart_shedHi : apart HPS_SHED_HI := by decide

/-- `e` is `d` but for state that no register, no phase of the boot, no odometer, no fuse, no entry of the always-on log and no
channel shows. -/
structure Dev.Beside (d e : Dev) : Prop where
  regs : e.regs = d.regs
  phase : e.boot.phase = d.boot.phase
  odo : e.sbx.odo = d.sbx.odo
  fuses : e.sbx.fuses = d.sbx.fuses
  ao : e.log.ao = d.log.ao
  chans : e.chans = d.chans

theorem Dev.beside_fab (d : Dev) (f : FabSt) : Dev.Beside d { d with fab := f } := ⟨rfl, rfl, rfl, rfl, rfl, rfl⟩

/-- `P` survives every write to a register apart, every change beside, and every change of a channel that leaves its models. -/
structure Dev.KeptApart (P : Dev → Prop) : Prop where
  wr : ∀ {d a} v, apart a → P d → P (d.wr a v)
  beside : ∀ {d e}, Dev.Beside d e → P d → P e
  chan : ∀ {d i f}, Chan.KeepsModels f → P d → P (d.modChan i f)

/-- A change made under a condition keeps what it keeps whenever it is made. -/
theorem Dev.kept_when {P : Dev → Prop} {d : Dev} {c : Bool} {f : Dev → Dev} (hf : ∀ {e}, P e → P (f e)) (hd : P d) :
    P (d.when c f) := kept_ite (hf hd) hd

section Apart

variable {P : Dev → Prop} {d : Dev} (h : Dev.KeptApart P)
include h

theorem Dev.KeptApart.aside {e : Dev} (hd : P d)
    (he : Dev.Beside d e := by exact ⟨rfl, rfl, rfl, rfl, rfl, rfl⟩) : P e := h.beside he hd

/-! ### Registers, interrupts, counters and records -/

theorem Dev.KeptApart.put {f : Fld} (v : Nat) (hf : apart f.addr) (hd : P d) : P (d.put f v) := h.wr _ hf hd

theorem Dev.KeptApart.set {f : Fld} (hf : apart f.addr) (hd : P d) : P (d.set f) := h.put _ hf hd

theorem Dev.KeptApart.clr {f : Fld} (hf : apart f.addr) (hd : P d) : P (d.clr f) := h.put _ hf hd

theorem Dev.KeptApart.bump {a : Nat} (ha : apart a) (hd : P d) : P (d.bump a) := h.wr _ ha hd

theorem Dev.KeptApart.wrPair {lo hi : Nat} (v : Nat) (hlo : apart lo) (hhi : apart hi) (hd : P d) : P (d.wrPair lo hi v) :=
  h.wr _ hhi (h.wr _ hlo hd)

theorem Dev.KeptApart.fresh (w : Nat) (hd : P d) : P (d.fresh w).2 := h.aside hd

theorem Dev.KeptApart.raise (src : Nat) (hd : P d) : P (d.raise src) :=
  kept_ite hd (h.put _ (apart_add _ (by decide)) hd)

theorem Dev.KeptApart.raiseIf (en : Fld) (src : Nat) (hd : P d) : P (d.raiseIf en src) := kept_ite (h.raise src hd) hd

theorem Dev.KeptApart.stageAdd (r : Rec) (hd : P d) : P (d.stageAdd r) :=
  kept_ite hd (h.aside hd)

theorem Dev.KeptApart.tallyAdd {ctl : Nat} {ovf : Fld} (ev k src owner inst : Nat) (hctl : 0x40010030 < ctl) (hovf : apart ovf.addr)
    (hd : P d) : P (d.tallyAdd ctl ev k ovf src owner inst) := by
  have hsum := h.wrPair ((d.pair (ctl + 4) (ctl + 8) + k) % 2 ^ 48) (apart_add 4 hctl) (apart_add 8 hctl) hd
  have hset := h.put (2 ^ (ovf.hi + 1 - ovf.lo) - 1) hovf hsum
  unfold Dev.tallyAdd
  exact kept_ite hd (kept_ite hsum (h.stageAdd _ (kept_ite (h.raise src hset) hset)))

theorem Dev.KeptApart.tallyCount {ctl : Nat} {ovf : Fld} (ev k src owner inst : Nat) (adds : Bool) (hctl : 0x40010030 < ctl)
    (hovf : apart ovf.addr) (hd : P d) : P (d.tallyCount ctl ev k ovf src owner inst adds) := by
  have hpulse : P { d with tal := { d.tal with pulse := tset 0 (d.tallyCycle ctl) ctl d.tal.pulse } } :=
    h.aside hd
  unfold Dev.tallyCount
  exact kept_ite hd (kept_ite hpulse (h.tallyAdd _ _ _ _ _ hctl hovf hpulse))

theorem Dev.KeptApart.tallyD (ev k : Nat) (hd : P d) : P (d.tallyD ev k) := by
  have hovf : apart TALLY_D_STS := by decide
  exact Dev.kept_each (fun _ _ _ he => h.tallyCount _ _ _ _ _ _ (Nat.lt_add_right _ (by decide)) hovf he) hd

theorem Dev.KeptApart.tallyP (p ev k : Nat) (hd : P d) : P (d.tallyP p ev k) :=
  Dev.kept_each (fun _ _ _ he => h.tallyCount _ _ _ _ _ _ (Nat.lt_add_right _ (Nat.lt_add_right _ (by decide)))
    (apart_add _ (by decide)) he) hd

theorem Dev.KeptApart.enqueue (r : Rec) (hd : P d) : P (d.enqueue r) := by
  have hdropped : P { d with log := { d.log with dropped := d.log.dropped + 1 } } := h.aside hd
  unfold Dev.enqueue
  exact kept_ite (h.aside hd) (kept_ite (h.aside hd)
    (h.raiseIf _ _ (h.put _ (by decide) (h.bump (by decide) hdropped))))

theorem Dev.KeptApart.postRaw (r : Rec) (hd : P d) : P (d.postRaw r) := by
  have hselected : ∀ r, P (d.aoSelect r) := fun _ => kept_ite (h.aside hd) hd
  unfold Dev.postRaw
  exact kept_ite (h.tallyD _ _ (h.enqueue _ (hselected _))) (hselected _)

theorem Dev.KeptApart.pinTo {f : Fld} (which : Nat) (high : Bool) (hf : apart f.addr) (hd : P d) : P (d.pinTo f which high) := by
  unfold Dev.pinTo
  exact kept_ite hd (h.postRaw _ (h.raiseIf _ _ (h.put _ hf hd)))

theorem Dev.KeptApart.pin {f : Fld} (which : Nat) (high : Bool) (hf : apart f.addr) (hd : P d) : P (d.pin f which high) := by
  unfold Dev.pin
  exact kept_ite (h.pinTo _ _ hf hd) (h.pinTo _ _ (by decide) (h.put _ (by decide) (h.pinTo _ _ hf hd)))

theorem Dev.KeptApart.updFaultN (hd : P d) : P d.updFaultN := h.pin _ _ (by decide) hd

theorem Dev.KeptApart.pend (sev : Nat) (hd : P d) : P (d.pend sev) :=
  kept_ite (h.updFaultN (h.put _ (by decide) hd)) hd

theorem Dev.KeptApart.post (block code sev owner inst : Nat) (data : List Nat) (hd : P d) :
    P (d.post block code sev owner inst data) := h.pend _ (h.postRaw _ hd)

theorem Dev.KeptApart.postStage (block code sev owner inst : Nat) (upd : List Nat → List Nat) (hd : P d) :
    P (d.postStage block code sev owner inst upd) := by
  unfold Dev.postStage
  exact kept_ite (h.aside hd) (h.aside hd)

theorem Dev.KeptApart.postOnce (block code sev owner inst : Nat) (data : List Nat) (countAt : Option Nat) (hd : P d) :
    P (d.postOnce block code sev owner inst data countAt) := by
  unfold Dev.postOnce
  exact kept_ite (h.aside hd) (h.aside hd)

theorem Dev.KeptApart.pinsLow (hd : P d) : P d.pinsLow := h.pin _ _ (by decide) (h.pin _ _ (by decide) hd)

/-! ### Channels -/

theorem Dev.KeptApart.request (i : Nat) : Dev.KeptByRequest i P where
  out _ he := h.put _ (apart_add _ (by decide)) he
  inrush _ he := h.put _ (apart_add _ (by decide)) he
  sc he := h.put _ (apart_add _ (by decide)) he
  oc he := h.put _ (apart_add _ (by decide)) he
  chan hf he := h.chan hf he
  retry he := h.put _ (apart_add _ (by decide)) he
  shed he := h.put _ (apart_add _ (by decide)) he
  shedLo he := h.put _ apart_shedLo he
  shedHi he := h.put _ apart_shedHi he

theorem Dev.KeptApart.dropPending (i : Nat) (hd : P d) : P (d.dropPending i) := by
  unfold Dev.dropPending Dev.updPend
  have hnone : P (d.modChan i fun c => { c with pend := [], dropTill := d.ns + 2000 }) :=
    h.chan (fun _ => ⟨rfl, rfl, rfl, rfl⟩) hd
  split <;> exact h.wr _ (apart_add _ (by decide)) hnone

theorem Dev.KeptApart.dsChan (i : Nat) (coach : Bool) (hd : P d) : P (d.dsChan i coach) := by
  have hevent : ∀ {e : Dev}, P e →
      P ((e.set (CHAN_STS_DRAGSHOE i)).chanEvt (CHAN_PEVT_DRAGSHOE i) (CHAN_PINT_EN_DRAGSHOE i) i) := fun he =>
    h.raiseIf _ _ (h.put _ (apart_add _ (by decide)) (h.put _ (apart_add _ (by decide)) he))
  have hstate : ∀ {e : Dev} (r : Req), P e →
      P (if coach then e.modChan i fun c => { c with dsCoach := some r }
        else (e.clr (CHAN_STS_COAST i)).modChan i fun c => { c with ds := some r, coast := none }) := fun _ he =>
    kept_ite (h.chan (fun _ => ⟨rfl, rfl, rfl, rfl⟩) he)
      (h.chan (fun _ => ⟨rfl, rfl, rfl, rfl⟩) (h.put _ (apart_add _ (by decide)) he))
  have hnow := hstate (d.dsState i) (hevent (h.dropPending i hd))
  unfold Dev.dsChan
  exact (h.request i).reqChanged _ (kept_ite ((h.request i).requestedOff hnow) hnow)

theorem Dev.KeptApart.applyDs (cause : Nat) (hd : P d) : P (d.applyDs cause) := by
  have hstates : P (d.each d.outputs fun i d => d.dsChan i false) := Dev.kept_each (fun i _ _ he => h.dsChan i false he) hd
  unfold Dev.applyDs
  exact h.post _ _ _ _ _ _ (Dev.kept_when (fun he => h.raiseIf _ _ he) (h.clr (by decide) (h.clr (by decide)
    (h.put _ (by decide) (h.set (by decide) hstates)))))

theorem Dev.KeptApart.applyDsCoach (c inst : Nat) (hd : P d) : P (d.applyDsCoach c inst) :=
  h.post _ _ _ _ _ _ (Dev.kept_each (fun i _ _ he => h.dsChan i true he) hd)

theorem Dev.KeptApart.coastChan (i : Nat) (hd : P d) : P (d.coastChan i) := by
  unfold Dev.coastChan
  exact h.chan (fun _ => ⟨rfl, rfl, rfl, rfl⟩) (h.set (apart_add _ (by decide)) (h.dropPending i hd))

theorem Dev.KeptApart.coastBegin (hd : P d) : P d.coastBegin := by
  have hheld : P (d.each d.outputs fun i d => d.coastChan i) := Dev.kept_each (fun i _ _ he => h.coastChan i he) hd
  unfold Dev.coastBegin
  exact h.post _ _ _ _ _ _ (h.raiseIf _ _ (h.put _ (by decide) (h.put _ (by decide)
    (h.aside hheld))))

theorem Dev.KeptApart.coastStart (hd : P d) : P d.coastStart := by
  have hdrop : P d.dropRelease := h.aside hd
  have hfree := h.clr (f := HLK_CW_STS_ARMED) (by decide) hdrop
  unfold Dev.coastStart
  exact kept_ite hdrop (kept_ite (h.applyDs 2 hfree) (h.coastBegin hfree))

/-! ### Frames -/

theorem Dev.KeptApart.edrop (p : Nat) (c : EDrop) (hd : P d) : P (d.edrop p c) :=
  h.postStage _ _ _ _ _ _ (h.raiseIf _ _ (h.tallyP _ _ _ (h.bump (apart_add_add _ _ (by decide)) hd)))

theorem Dev.KeptApart.shaper (p : Nat) (hd : P d) : P (d.shaper p) :=
  kept_ite hd (Dev.kept_each (fun _ _ _ he => h.aside he) hd)

theorem Dev.KeptApart.bufLow (hd : P d) : P d.bufLow := kept_ite (h.put _ (by decide) hd) hd

theorem Dev.KeptApart.mirror (body : List Nat) (bad : Bool) (src : Nat) (hd : P d) : P (d.mirror body bad src) := by
  unfold Dev.mirror
  split
  next => exact hd
  next =>
    exact kept_ite (h.postOnce _ _ _ _ _ _ _ (h.raiseIf _ _ (h.set (by decide) (h.set (by decide)
        (h.put _ (by decide) (h.bump (by decide) hd))))))
      (h.tallyP _ _ _ (h.bufLow (h.aside hd)))

theorem Dev.KeptApart.egressMirror (id p : Nat) (bad : Bool) (hd : P d) : P (d.egressMirror id p bad) := by
  unfold Dev.egressMirror
  split
  next => exact kept_ite (h.mirror _ _ _ hd) hd
  next => exact hd

theorem Dev.KeptApart.settle (id : Nat) (hd : P d) : P (d.settle id) := by
  unfold Dev.settle
  split
  next => exact hd
  next f _ =>
    have hgone : P { d with fab := { d.fab with frames := d.fab.frames.filter (·.id ≠ id) } } :=
      h.aside hd
    refine kept_ite ?_ hd
    cases f.sendQ with
    | none => exact hgone
    | some q => exact kept_ite (h.aside hgone) hgone

theorem Dev.KeptApart.doFlip (hd : P d) : P d.doFlip := by
  have hbanks : P ((((d.put LKP_STS_ACTIVE_BANK (d.fld LKP_STS_SHADOW_BANK)).put LKP_STS_EPOCH (d.fld LKP_STS_EPOCH + 1)).put
      LKP_STS_DRAIN_BANK (if d.drainCount (d.fld LKP_STS_EPOCH) = 0 then 3 else d.fld LKP_STS_ACTIVE_BANK)).put
      LKP_STS_SHADOW_BANK 3) :=
    h.put _ (by decide) (h.put _ (by decide) (h.put _ (by decide) (h.put _ (by decide) hd)))
  have hdone : ∀ {e : Dev}, P e →
      P ((((e.set LKP_STS_SYNC).clr LKP_STS_PENDING).clr LKP_STS_BUSY).set LKP_STS_FLIP_DONE) := fun he =>
    h.set (by decide) (h.clr (by decide) (h.clr (by decide) (h.set (by decide) he)))
  unfold Dev.doFlip
  dsimp only
  refine h.post _ _ _ _ _ _ (h.raiseIf _ _ ?_)
  refine Dev.kept_when (fun he => h.put _ (by decide) he) ?_
  exact h.beside (Dev.beside_fab _ _) (hdone hbanks)

theorem Dev.KeptApart.drained (hd : P d) : P d.drained := by
  have hfree := h.clr (f := LKP_STS_BUSY) (by decide) (h.put 3 (f := LKP_STS_DRAIN_BANK) (by decide) hd)
  unfold Dev.drained
  exact kept_ite (kept_ite (h.doFlip hfree) hfree) hd

theorem Dev.KeptApart.resolve (id p : Nat) (delivered : Bool) (hd : P d) : P (d.resolve id p delivered) := by
  have htail : P ((d.shaper p).sampleTail id (some p) (!delivered)) :=
    h.aside (h.shaper p hd)
  unfold Dev.resolve
  exact h.drained (h.settle _ (h.aside (h.beside ⟨rfl, rfl, rfl, rfl, rfl, rfl⟩
    (h.egressMirror id p (!delivered) htail))))

theorem Dev.KeptApart.flushPort (p : Nat) (c : EDrop) (hd : P d) : P (d.flushPort p c) :=
  Dev.kept_each (fun _ _ _ he => Dev.kept_each (fun _ _ _ he => h.resolve _ _ _ (h.edrop _ _ he)) he) hd

/-! ### Ports -/

theorem Dev.KeptApart.portState {f : Fld} (p : Nat) (hf : apart f.addr) (hd : P d) : P (d.portState p f) :=
  h.raiseIf _ _ (h.put _ hf hd)

theorem Dev.KeptApart.symErr (p : Nat) (hd : P d) : P (d.symErr p) := by
  have hdrawn := h.fresh 32 hd
  unfold Dev.symErr
  exact kept_ite hd (kept_ite hdrawn (h.raiseIf _ _ (h.put _ (apart_add _ (by decide)) (h.wr _ (apart_add _ (by decide)) hdrawn))))

theorem Dev.KeptApart.sidEnter (p st : Nat) (hd : P d) : P (d.sidEnter p st) := by
  have hleft : P (if d.fld (SID_PORT_STS_STATE p) = 0 ∧ st ≠ 0 then ((d.symErr p).flushPort p .siding).clearCan p else d) :=
    kept_ite (h.aside (h.flushPort p .siding (h.symErr p hd))) hd
  unfold Dev.sidEnter
  exact h.post _ _ _ _ _ _ (h.raiseIf _ _ (h.put _ (apart_add _ (by decide)) (h.put _ (apart_add _ (by decide))
    (h.put _ (apart_add _ (by decide)) (h.aside hleft)))))

theorem Dev.KeptApart.linkDown (p : Nat) (hd : P d) : P (d.linkSet p false) := by
  have hpost : P ((((d.put (PORT_STS_LINK p) (b2n false)).portState p (PORT_STS_LINK_CHG p)).bump (PORT_LINKDN_CNT p)).portPost
      p 0x0002 0) :=
    h.post _ _ _ _ _ _ (h.bump (apart_add _ (by decide)) (h.portState p (apart_add _ (by decide))
      (h.put _ (apart_add _ (by decide)) hd)))
  unfold Dev.linkSet
  exact kept_ite hd (h.put _ (apart_add _ (by decide)) (h.beside ⟨rfl, rfl, rfl, rfl, rfl, rfl⟩
    (h.aside (h.flushPort p .down hpost))))

theorem Dev.KeptApart.wakePort (p want : Nat) (drive : Bool) (hd : P d) : P (d.wakePort p want drive) := by
  have hwaking := h.sidEnter p 3 hd
  have htrains : ∀ rate, P ((d.sidEnter p 3).train p rate) := fun _ =>
    h.aside (h.put (f := PORT_PHY_STS_TRAIN p) 1 (apart_add _ (by decide)) hwaking)
  unfold Dev.wakePort
  exact kept_ite
    (h.sidEnter _ _ (h.aside (kept_ite (htrains _) hwaking)))
    (h.aside (kept_ite (htrains _) hwaking))

theorem Dev.KeptApart.standbyAll (hd : P d) : P d.standbyAll :=
  Dev.kept_each (fun _ _ _ he => kept_ite he (h.linkDown _ (kept_ite (h.aside he) he))) hd

end Apart

end Sys2Proof.Machine
end

section
/-! PROOFS. A Beyvo reset and what it leaves of the Heavia die (R448, R449). -/

namespace Sys2Proof.Machine

open R

/-! ### What a start of the Beyvo die cannot undo -/

/-- `P` survives what a start of the Beyvo die does: writes to any register but the count of faults of severity 3, and a boot
that begins in the boot ROM. -/
structure Dev.KeptByStart (P : Dev → Prop) : Prop where
  wr : ∀ {d a} v, a ≠ FRM_CNT 3 → P d → P (d.wr a v)
  beside : ∀ {d e}, Dev.Beside d e → P d → P e
  chan : ∀ {d i f}, Chan.KeepsModels f → P d → P (d.modChan i f)
  rom : ∀ {d}, P d → P { d with
    frm := { d.frm with beyvoUp := true }
    boot := { BootSt.reset with phase := .rom, releasedAt := d.up, timerFrom := d.up } }

theorem Dev.beside_foldGo (d : Dev) (p : Nat) : Dev.Beside d (d.foldGo p) := ⟨rfl, rfl, rfl, rfl, rfl, rfl⟩

theorem Dev.rn_of_regs {d e : Dev} (h : e.regs = d.regs) (b : Nat) : e.rn b = d.rn b := by
  unfold Dev.rn Dev.reg
  rw [h]

section Start

variable {P : Dev → Prop} {d : Dev} (h : Dev.KeptByStart P)
include h

theorem Dev.KeptByStart.apart : Dev.KeptApart P where
  wr v ha hd := h.wr v (fun heq => absurd ha (heq ▸ by decide)) hd
  beside := h.beside
  chan := h.chan

theorem Dev.KeptByStart.put {f : Fld} (v : Nat) (hf : f.addr ≠ FRM_CNT 3) (hd : P d) : P (d.put f v) := h.wr _ hf hd

theorem Dev.KeptByStart.ready {n : Nat} (hn : n < 32) (hd : P d) : P (d.ready n) := by
  have hbit : P (d.set ⟨SYS_READY, n, n⟩) := h.put _ (by decide : SYS_READY ≠ FRM_CNT 3) hd
  unfold Dev.ready
  exact kept_ite hd (h.wr _ (by unfold SYS_READY_T FRM_CNT; split <;> omega) hbit)

theorem Dev.KeptByStart.freeRun (hd : P d) : P d.freeRun := by
  have hfreq : ∀ v, P (d.wr TIME_FREQ v) := fun _ => h.wr _ (by decide) hd
  exact kept_ite (h.apart.aside (hfreq _)) (hfreq _)

theorem Dev.KeptByStart.resumeTime (cause : Nat) (hd : P d) : P (d.resumeTime cause) := by
  have hservo : P { d with tim := { d.tim with mode := .servo, rem := 0 } } := h.apart.aside hd
  unfold Dev.resumeTime
  exact kept_ite hd (h.apart.post _ _ _ _ _ _ (h.freeRun hservo))

theorem Dev.KeptByStart.linkTrained (hd : P d) : P d.linkTrained := by
  have hup : P (d.set HLK_STS_UP) := h.put _ (by decide) hd
  unfold Dev.linkTrained
  exact Dev.kept_when (fun he => h.apart.post _ _ _ _ _ _ he) (h.apart.aside hup)

theorem Dev.KeptByStart.startUp (cause block code bootsel : Nat) (hd : P d) : P (d.startUp cause block code bootsel) := by
  have hcause : P (((d.put FRM_BOOT_CAUSE_CAUSE cause).put FRM_BOOT_CAUSE_BLOCK block).put FRM_BOOT_CAUSE_CODE code) :=
    h.put _ (by decide) (h.put _ (by decide) (h.put _ (by decide) hd))
  have htime := h.resumeTime cause (h.rom (h.apart.post 0x02 0x0001 0 9 cause [] hcause))
  have hlow := Dev.kept_each (l := (List.range 8).map (· + 28)) (f := fun p d => d.put (PORT_TRX_STS_UV p) (b2n d.hv.linLow))
    (fun _ _ _ he => h.apart.put _ (apart_add _ (by decide)) he) (h.put bootsel (f := SYS_BOOT_STS_BOOTSEL) (by decide) htime)
  have hpairs := Dev.kept_each (l := List.range 4)
    (f := fun p d => d.put (TAN_PAIR_STS_STATE p) (if d.tan.degraded.contains p then 2 else 1))
    (fun _ _ _ he => h.apart.put _ (apart_add _ (by decide)) he) (h.linkTrained (h.put 15 (f := HLK_STS_LANES) (by decide) hlow))
  have hfold := h.beside (Dev.beside_foldGo _ 0) hpairs
  unfold Dev.startUp
  exact h.apart.updFaultN (h.ready (by decide) (h.ready (by decide) (h.put _ (by decide) (h.put _ (by decide) hfold))))

theorem Dev.KeptByStart.start (r : ResetReq) (bootsel : Nat) (hd : P d) : P (d.start r bootsel) := by
  have hnow : P { d with frm := { d.frm with startWait := none } } := h.apart.aside hd
  unfold Dev.start
  exact kept_ite hd (kept_ite (h.apart.aside hd) (h.startUp _ _ _ _ hnow))

end Start

/-! ### What both dies' reset keeps of the Heavia die -/

/-- `e` shows of the Heavia die what `d` shows: odometers, fuses, the always-on log, the temperature models and the count of
faults of severity 3. -/
structure Dev.KeepsHeavia (d e : Dev) : Prop where
  odo : e.sbx.odo = d.sbx.odo
  fuses : e.sbx.fuses = d.sbx.fuses
  ao : e.log.ao = d.log.ao
  models : ∀ i, (e.chan i).theta = (d.chan i).theta ∧ (e.chan i).phi = (d.chan i).phi
  count : e.rn (FRM_CNT 3) = d.rn (FRM_CNT 3)

theorem Dev.keepsHeavia_start (d : Dev) : Dev.KeptByStart (Dev.KeepsHeavia d) where
  wr v ha he := ⟨he.odo, he.fuses, he.ao, he.models, (Dev.rn_wr_ne _ v ha).trans he.count⟩
  beside hb he :=
    { odo := hb.odo.trans he.odo
      fuses := hb.fuses.trans he.fuses
      ao := hb.ao.trans he.ao
      models := fun i => Dev.chan_of_chans hb.chans i ▸ he.models i
      count := (Dev.rn_of_regs hb.regs _).trans he.count }
  chan {e i f} hf he := by
    refine ⟨he.odo, he.fuses, he.ao, fun j => ?_, he.count⟩
    by_cases hij : i = j
    · subst hij
      obtain ⟨hth, hphi, -⟩ := hf (e.chan i)
      rw [Dev.chan_modChan_self, hth, hphi]
      exact he.models i
    · rw [Dev.chan_modChan_ne _ _ hij]
      exact he.models j
  rom he := ⟨he.odo, he.fuses, he.ao, he.models, he.count⟩

/-! ### The Beyvo die goes down -/

/-- `e` is `d` with the registers of the Beyvo die and its boot lost. -/
structure Dev.BeyvoLost (d e : Dev) : Prop where
  regs : e.regs = d.regs.filter fun r => keepsBeyvo r.1
  odo : e.sbx.odo = d.sbx.odo
  fuses : e.sbx.fuses = d.sbx.fuses
  ao : e.log.ao = d.log.ao
  chans : e.chans = d.chans
  boot : e.boot = BootSt.reset

/-- What holds once the Beyvo die's state is lost holds once its pins and its shadows are set. -/
theorem Dev.KeptByStart.beyvoOff {P : Dev → Prop} {d : Dev} (h : Dev.KeptByStart P) (hlost : ∀ e, Dev.BeyvoLost d e → P e) :
    P d.beyvoOff := by
  unfold Dev.beyvoOff
  exact h.put _ (by decide) (h.put _ (by decide) (h.put _ (by decide) (h.put _ (by decide) (h.put _ (by decide)
    (h.put _ (by decide) (h.put _ (by decide) (h.put _ (by decide) (h.put _ (by decide) (h.put _ (by decide)
    (hlost _ ⟨rfl, rfl, rfl, rfl, rfl, rfl⟩))))))))))

theorem Dev.keepsHeavia_beyvoOff {d e : Dev} (he : Dev.KeepsHeavia d e) : Dev.KeepsHeavia d e.beyvoOff := by
  refine d.keepsHeavia_start.beyvoOff fun f hf => ⟨hf.odo.trans he.odo, hf.fuses.trans he.fuses, hf.ao.trans he.ao,
    fun i => Dev.chan_of_chans hf.chans i ▸ he.models i, Eq.trans ?_ he.count⟩
  unfold Dev.rn Dev.reg
  rw [hf.regs, tget_filter, if_pos (by decide)]

theorem Dev.keepsHeavia_beyvoDown (d : Dev) : Dev.KeepsHeavia d d.beyvoDown := by
  have h := d.keepsHeavia_start.apart
  unfold Dev.beyvoDown
  exact Dev.keepsHeavia_beyvoOff (h.pinsLow (h.standbyAll (h.coastStart ⟨rfl, rfl, rfl, fun _ => ⟨rfl, rfl⟩, rfl⟩)))

theorem Dev.unsealed_start : Dev.KeptByStart fun e => e.boot.phase ≠ .sealed where
  wr _ _ he := he
  beside hb he := hb.phase ▸ he
  chan _ he := he
  rom _ := BootPhase.noConfusion

theorem Dev.beyvoDown_unsealed (d : Dev) : d.beyvoDown.boot.phase ≠ .sealed := by
  unfold Dev.beyvoDown
  exact Dev.unsealed_start.beyvoOff fun e he => he.boot ▸ by decide

/-! ### Flash -/

theorem pageIndex_flash {x : Nat} (hlo : 0x20000000 ≤ x) (hhi : x < 0x30000000) : pageIndex x = none := by
  unfold pageIndex
  rw [if_neg (by omega), if_neg (by omega), if_neg (by omega)]

/-- A byte of an address that a scrub leaves. -/
def Mem.leftByScrub (m : Mem) (q : Nat → Bool) (x : Nat) : Bool :=
  match pageIndex x with
  | some i => !(decide (i < 137216) && q (Mem.entry m i))
  | none => true

theorem Mem.scrub_eq_filter (m : Mem) (q : Nat → Bool) : Mem.scrub m q = m.filter fun c => Mem.leftByScrub m q c.1 := rfl

/-- Flash has no page of the manifest. -/
theorem Mem.byte_scrub_flash (m : Mem) (q : Nat → Bool) {x : Nat} (hlo : 0x20000000 ≤ x) (hhi : x < 0x30000000) :
    Mem.byte (Mem.scrub m q) x = Mem.byte m x := by
  have hleft : Mem.leftByScrub m q x = true := by rw [Mem.leftByScrub, pageIndex_flash hlo hhi]
  unfold Mem.byte
  rw [Mem.scrub_eq_filter, tget_filter, if_pos hleft]

theorem Mem.byte_atBoot_flash (m : Mem) {x : Nat} (hlo : 0x20000000 ≤ x) : Mem.byte (Mem.atBoot m) x = Mem.byte m x := by
  unfold Mem.atBoot
  rw [Mem.byte_zero, if_neg (by omega), Mem.byte_zero, if_neg (by omega)]

/-- In a hold a Beyvo reset changes nothing. -/
theorem execBeyvoReset_held {s : State} {dt bs : Nat} {r : ResetReq} (hbs : bs < 4) (hreq : (s.now dt).frm.bvReset = some r)
    (hheld : (s.now dt).frm.tamperHold = true ∨ (s.now dt).frm.bootHold = true ∨ (s.now dt).frm.lockedOut = true ∨
      (s.now dt).frm.resetNLow = true) :
    exec (.beyvoReset dt bs) s = .next (s.becomes (s.now dt)) := by
  refine (exec_beyvoReset ..).trans (State.onAll_next_sameMem (e := s.now dt) (decide_eq_true hbs) ?_)
  rw [hreq]
  exact if_pos hheld

/-- Settles O46: a Beyvo reset changes the Heavia die's state only as coast and standby do; that a hold comes first is the
model's choice (log entries 43 and 66). -/
theorem beyvoResetKeepsTheHeaviaSide : Obligations.BeyvoResetKeepsTheHeaviaSide := by
  unfold Obligations.BeyvoResetKeepsTheHeaviaSide
  intro s dt bootsel r d hbs hreq
  by_cases hheld : d.frm.tamperHold = true ∨ d.frm.bootHold = true ∨ d.frm.lockedOut = true ∨ d.frm.resetNLow = true
  · refine ⟨s.becomes d, execBeyvoReset_held hbs hreq hheld, rfl, fun _ => rfl, fun h1 h2 h3 h4 => ?_⟩
    rw [h1, h2, h3, h4] at hheld
    exact absurd hheld (by decide)
  · simp only [not_or, Bool.not_eq_true] at hheld
    obtain ⟨htamper, hboot, hout, hpin⟩ := hheld
    have hkept : Dev.KeepsHeavia d (d.beyvoDown.start r bootsel) := d.keepsHeavia_start.start r bootsel d.keepsHeavia_beyvoDown
    refine ⟨_, execBeyvoReset_resets hbs hreq htamper hboot hout hpin, rfl, fun h => ?_, fun _ _ _ _ =>
      ⟨hkept.odo, hkept.fuses, hkept.ao, hkept.models, hkept.count, ?_, fun x hlo hhi => ?_⟩⟩
    · simp [htamper, hboot, hout, hpin] at h
    · exact Dev.unsealed_start.start r bootsel d.beyvoDown_unsealed
    · exact (Mem.byte_atBoot_flash _ hlo).trans (Mem.byte_scrub_flash _ _ hlo hhi)

end Sys2Proof.Machine
end

section
/-! PROOFS. What debug words and the commands of power, supply, clocks and gates leave behind (R426–R442). -/

namespace Sys2Proof.Machine

open R

/-- A one-bit field that takes a truth value holds it. -/
theorem Dev.on_put_b2n (d : Dev) (f : Fld) (b : Bool) (h : f.lo = f.hi) (hh : f.hi < 32) : (d.put f (b2n b)).on f = b := by
  unfold Dev.on
  rw [d.fld_put_self f _ (by omega) hh, h, Nat.add_sub_cancel_left]
  cases b <;> rfl

/-! ### Debug words -/

section Word

variable (d : Dev) (port : Bool) (op core addr st : Nat) (data : Option Nat)

/-- The response begins with the word's operation and core, and its STATUS. -/
theorem Dev.dbgAnswer_response :
    (d.dbgAnswer port op core addr st data).dbg.response.take 4 = [op, core, st % 256, st / 256 % 256] := by
  unfold Dev.dbgAnswer
  cases port <;> cases data <;> rfl

theorem Dev.dbgAnswer_halted : (d.dbgAnswer port op core addr st data).dbg.halted = d.dbg.halted := by
  unfold Dev.dbgAnswer
  cases port <;> cases data <;> rfl

theorem Dev.dbgTaken_halted : (d.dbgTaken port op core addr).dbg.halted = d.dbg.halted := by
  unfold Dev.dbgTaken
  exact kept_ite (Q := fun e : Dev => e.dbg.halted = d.dbg.halted) ((congrArg DbgSt.halted (Dev.post_dbg ..)).trans rfl) rfl

theorem Dev.dbgHalted_halted : core ∈ (d.dbgHalted core).dbg.halted := by
  unfold Dev.dbgHalted
  rw [Dev.post_dbg]
  unfold Dev.when
  split <;> exact mem_insertNat ..

theorem Dev.leaderGoes_dbg : (d.leaderGoes core).dbg = d.dbg := by
  unfold Dev.leaderGoes
  split <;> rfl

theorem Dev.dbgResumed_halted : core ∉ (d.dbgResumed core).dbg.halted := by
  unfold Dev.dbgResumed
  rw [Dev.leaderGoes_dbg]
  simp

end Word

/-! ### Sleep requests, waits and wakes -/

theorem Dev.rn_pwrmShow (d : Dev) {b : Nat} (hstate : PWRM_STATE ≠ b) (htol : PWRM_MIN_TOL ≠ b) : d.pwrmShow.rn b = d.rn b := by
  unfold Dev.pwrmShow
  dsimp only
  rw [Dev.rn_wr_ne _ _ htol, Dev.rn_put_ne _ _ _ hstate, Dev.rn_put_ne _ _ _ hstate, Dev.rn_put_ne _ _ _ hstate]

theorem pwrmState_ne_sleepReq (o : Nat) : PWRM_STATE ≠ PWRM_SLEEP_REQ o ∧ PWRM_MIN_TOL ≠ PWRM_SLEEP_REQ o := by
  unfold PWRM_STATE PWRM_MIN_TOL PWRM_SLEEP_REQ ownerPage
  constructor <;> split <;> omega

theorem pwrmState_ne_tolUs (o : Nat) : PWRM_STATE ≠ PWRM_TOL_US o ∧ PWRM_MIN_TOL ≠ PWRM_TOL_US o := by
  unfold PWRM_STATE PWRM_MIN_TOL PWRM_TOL_US ownerPage
  constructor <;> split <;> omega

theorem Dev.coreWaits_waiting (d : Dev) (core : Nat) : core ∈ (d.coreWaits core).wld.waiting := by
  unfold Dev.coreWaits Dev.when
  split <;> exact mem_insertNat ..

theorem Dev.coreWaits_regs (d : Dev) (core : Nat) : (d.coreWaits core).regs = d.regs := by
  unfold Dev.coreWaits Dev.when
  split <;> rfl

theorem Dev.coreGoes_waiting (d : Dev) (core : Nat) : core ∉ (d.coreGoes core).wld.waiting := by
  unfold Dev.coreGoes Dev.leaderGoes
  split <;> simp [Dev.foldGo]

theorem Dev.coreGoes_regs (d : Dev) (core : Nat) : (d.coreGoes core).regs = d.regs := by
  unfold Dev.coreGoes Dev.leaderGoes
  split <;> rfl

theorem Dev.wakeOther_sid (d : Dev) (from_ : Nat) (info : Fld) :
    (d.wakeOther from_ info).sid.timer = d.sid.timer ∧ (d.wakeOther from_ info).sid.noted = true := by
  unfold Dev.wakeOther Dev.wakePost
  dsimp only
  rw [Dev.post_sid]
  exact ⟨rfl, rfl⟩

/-! ### Clocks and supply -/

/-- The device once the status bits show the time clock's source. -/
def Dev.refShown (d : Dev) (ref : Bool) : Dev :=
  ((d.put CLK_STS_REF (b2n ref)).put TIME_STS_REFCLK (b2n ref)).set CLK_STS_REFCLK_CHG

theorem Dev.on_refShown (d : Dev) (ref : Bool) :
    (d.refShown ref).on CLK_STS_REF = ref ∧ (d.refShown ref).on CLK_STS_PRESENT = d.on CLK_STS_PRESENT := by
  have hchg : ∀ g, g.lo ≤ g.hi → CLK_STS_REFCLK_CHG.hi < g.lo ∨ g.hi < CLK_STS_REFCLK_CHG.lo → TIME_STS_REFCLK.addr ≠ g.addr →
      (d.refShown ref).fld g = (d.put CLK_STS_REF (b2n ref)).fld g := fun g hg hapart hne =>
    (Dev.fld_set_apart _ _ g (by decide) (by decide) hg hapart).trans (Dev.fld_put_ne _ _ g _ hne)
  constructor
  · exact (congrArg (· == 1) (hchg CLK_STS_REF (by decide) (by decide) (by decide))).trans (d.on_put_b2n _ _ rfl (by decide))
  · exact congrArg (· == 1) ((hchg CLK_STS_PRESENT (by decide) (by decide) (by decide)).trans
      (d.fld_put_apart _ _ _ (by decide) (by decide) (by decide) (by decide)))

/-- The switch of the time clock shows the new source and leaves PRESENT. -/
theorem Dev.refSwitch_shows (d : Dev) (ref : Bool) (code sev : Nat) :
    (d.refSwitch ref code sev).on CLK_STS_REF = ref ∧ (d.refSwitch ref code sev).on CLK_STS_PRESENT = d.on CLK_STS_PRESENT := by
  obtain ⟨href, hpresent⟩ := d.on_refShown ref
  have hrn : (d.refSwitch ref code sev).rn CLK_STS = (d.refShown ref).rn CLK_STS := by
    unfold Dev.refSwitch
    exact (Dev.rn_post _ (by decide)).trans ((Dev.rn_raiseIf _ _ (by decide) (by decide)).trans
      (kept_ite (Q := fun e : Dev => e.rn CLK_STS = (d.refShown ref).rn CLK_STS) rfl rfl))
  exact ⟨(Dev.on_of_rn hrn).trans href, (Dev.on_of_rn hrn).trans hpresent⟩

theorem Dev.on_p3Rev_updOut (d : Dev) (below : Bool) :
    ((d.put CHAN_GSTS_P3_REV (b2n below)).each ((List.range 16).map (· + 24)) (fun i d => d.updOut i)).on CHAN_GSTS_P3_REV =
      below := by
  have hshown : (d.put CHAN_GSTS_P3_REV (b2n below)).on CHAN_GSTS_P3_REV = below := d.on_put_b2n _ _ rfl (by decide)
  refine (Dev.on_of_rn ?_).trans hshown
  refine Dev.kept_each (P := fun e => e.rn CHAN_GSTS = (d.put CHAN_GSTS_P3_REV (b2n below)).rn CHAN_GSTS) (fun i hi e he => ?_) rfl
  simp only [List.mem_map, List.mem_range] at hi
  obtain ⟨k, hk, rfl⟩ := hi
  exact (Dev.keptByModels_rn (i := k + 24) (by omega) (by decide)
    (by unfold CHAN_STS CHAN_GSTS; omega) (by unfold CHAN_PEVT CHAN_GSTS; omega) (by unfold CHAN_TRIP_CNT CHAN_GSTS; omega)
    (by unfold CHAN_MODEL_T CHAN_GSTS; omega) _).updOut false he

theorem subUnits_le (u : Nat) : subUnits u ≤ 16 := by
  unfold subUnits
  split <;> decide

theorem mod_subUnits_lt (u v : Nat) : v % subUnits u < 16 := by
  have hpos : 0 < subUnits u := by unfold subUnits; split <;> decide
  exact lt_of_lt_of_le (Nat.mod_lt v hpos) (subUnits_le u)

/-- OFF shows what is written, whatever GATED takes. -/
theorem Dev.fld_gateOff (d : Dev) (a gated : Nat) {off : Nat} (h : off < 16) :
    ((d.put ⟨a, 3, 0⟩ off).put ⟨a, 11, 8⟩ gated).fld ⟨a, 3, 0⟩ = off :=
  (Dev.fld_put_apart _ _ _ _ (by decide : 8 ≤ 11) (by decide : 11 < 32) (by decide : 0 ≤ 3) (.inr (by decide : 3 < 8))).trans
    ((d.fld_put_self _ _ (by decide : 0 ≤ 3) (by decide : 3 < 32)).trans (Nat.mod_eq_of_lt h))

theorem Dev.clkGate_off (d : Dev) (u v : Nat) : (d.clkGate u v).fld (CLK_GATE_OFF u) = v % subUnits u :=
  d.fld_gateOff _ _ (mod_subUnits_lt u v)

/-- In lockout the Beyvo die is down. -/
theorem Dev.absent_frm (d : Dev) : d.absent.frm.beyvoUp = false ∧ d.absent.frm.lockedOut = true := ⟨rfl, rfl⟩

/-- Settles O57: each command's state is that of its row; the STATUS values of the debug words are the model's choice (log entry
57, DEDUCED). -/
theorem debugAndPowerCommandsComplete : Obligations.DebugAndPowerCommandsComplete := by
  unfold Obligations.DebugAndPowerCommandsComplete
  refine ⟨?halt, ?resume, ?step, ?read, ?write, ?sleepReq, ?tolUs, ?coreWait, ?wake, ?wakeTimer, ?lockout, ?reverse, ?selected,
    ?lost, ?pll, ?clkGate, ?pwrGate, ?gate⟩
  case halt =>
    intro s dt core addr port a d hcore haddr hserved hgrant
    refine completes_onDev (exec_debugHalt ..) (dbgWord_ok hcore haddr) ?_
    rw [Dev.dbgRun_halts hserved hgrant]
    exact ⟨(Dev.dbgAnswer_halted ..).symm ▸ Dev.dbgHalted_halted .., Dev.dbgAnswer_response .., rfl, rfl⟩
  case resume =>
    intro s dt core addr port a d hcore haddr hserved hgrant hhalted
    refine completes_onDev (exec_debugResume ..) (dbgWord_ok hcore haddr) ?_
    rw [Dev.dbgRun_resumes hserved hgrant hhalted]
    exact ⟨(Dev.dbgAnswer_halted ..).symm ▸ Dev.dbgResumed_halted _ _, Dev.dbgAnswer_response .., rfl, rfl⟩
  case step =>
    intro s dt core addr port a d hcore haddr hserved hgrant
    refine completes_onDev (exec_debugStep ..) (dbgWord_ok hcore haddr) ?_
    rw [Dev.dbgRun_steps hserved hgrant]
    exact ⟨(Dev.dbgAnswer_halted ..).trans (Dev.dbgTaken_halted ..), Dev.dbgAnswer_response .., rfl, rfl⟩
  case read =>
    intro s dt core addr port a d hcore haddr hserved hgrant
    refine completes_onAll (exec_debugRead ..) (dbgWord_ok hcore haddr) ?_
    rw [Dev.dbgMove_reads _ hserved hgrant]
    dsimp only
    rw [Dev.dbgAnswer_response]
    cases (Dev.dbgAccessed _ s.mem port 1 core addr 0 a).1.bus.err with
    | false => exact .inl rfl
    | true => exact .inr rfl
  case write =>
    intro s dt core addr v port a d hcore haddr hserved hgrant
    refine completes_onAll (exec_debugWrite ..) (dbgWord_ok hcore haddr) ?_
    rw [Dev.dbgMove_granted _ _ hserved hgrant]
    dsimp only
    rw [Dev.dbgAnswer_response]
    cases (Dev.dbgAccessed _ s.mem port 2 core addr v a).1.bus.err with
    | false => exact .inl rfl
    | true => exact .inr rfl
  case sleepReq =>
    intro s dt o v a d ho hmay hreq
    refine completes_onDevM (exec_pwrmSleepReq ..) (decide_eq_true ho) ?_
    rw [Dev.regWrite_pass hmay, Dev.sleepReq_asks o hreq]
    have hrn := Dev.rn_pwrmShow (d.put (PWRM_SLEEP_REQ_REQ o) v) (pwrmState_ne_sleepReq o).1 (pwrmState_ne_sleepReq o).2
    have hfld : (d.put (PWRM_SLEEP_REQ_REQ o) v).fld (PWRM_SLEEP_REQ_REQ o) = 1 :=
      (d.fld_put_self _ _ (Nat.le_refl 0) (by decide : 0 < 32)).trans hreq
    exact ⟨(Dev.on_of_rn hrn).trans (beq_iff_eq.mpr hfld), rfl, rfl⟩
  case tolUs =>
    intro s dt o v a d ho hmay hlong hv
    refine completes_onDevM (exec_pwrmTolUs ..) (decide_eq_true ho) ?_
    rw [Dev.regWrite_pass hmay, Dev.tolUs_long o hlong hv]
    exact ⟨(Dev.rn_pwrmShow _ (pwrmState_ne_tolUs o).1 (pwrmState_ne_tolUs o).2).trans
      ((Dev.rn_wr_self ..).trans (Nat.mod_eq_of_lt hv)), rfl, rfl⟩
  case coreWait =>
    intro s dt core d hcore hruns
    refine completes_onDev (exec_coreWait ..) (decide_eq_true hcore) ?_
    rw [if_pos (List.contains_iff_mem.mpr hruns)]
    exact ⟨Dev.coreWaits_waiting .., Dev.coreWaits_regs .., rfl, rfl⟩
  case wake =>
    intro s dt core d hcore hcalled hwaits
    refine completes_onDev (exec_coreRetentionWake ..) (decide_eq_true hcore) ?_
    rw [if_pos ⟨hcalled, List.contains_iff_mem.mpr hwaits⟩]
    exact ⟨Dev.coreGoes_waiting _ _, Dev.coreGoes_regs .., rfl, rfl⟩
  case wakeTimer =>
    intro s dt d hasleep htimer hnoted hlong
    refine completes_onDev (exec_wakeTimerExpiry ..) rfl ?_
    rw [Dev.wakeTimeout_wakes hasleep htimer hnoted hlong]
    obtain ⟨hzero, hnow⟩ := Dev.wakeOther_sid { d with sid := { d.sid with timer := 0 } } 1 PWRM_WAKE_INFO_TIMER
    exact ⟨hzero, hnow, rfl, rfl⟩
  case lockout =>
    intro s dt bs low ok d hbs hopen
    refine completes_onAll (exec_supplyRangeChange ..) (by simp [hbs]) ?_
    rw [Dev.supplyRange_lockout _ _ _ _ hopen]
    obtain ⟨hdown, hout⟩ := d.powerLost.absent_frm
    exact ⟨hdown, hout, rfl, rfl⟩
  case reverse =>
    intro s dt below d hruns
    refine completes_onDev (exec_vbatP3Reverse ..) rfl ?_
    rw [show (s.dev.pass dt).hvRuns = true from hruns, if_neg (by decide)]
    exact ⟨Dev.on_p3Rev_updOut .., rfl, rfl⟩
  case selected =>
    intro s dt ppm d hup href hppm
    refine completes_onDev (exec_refclkSelected ..) rfl ?_
    rw [show (s.dev.pass dt).frm.beyvoUp = true from hup, show (s.dev.pass dt).on CLK_STS_REF = false from href,
      if_neg (by simpa using hppm)]
    obtain ⟨hnew, hpresent⟩ := Dev.refSwitch_shows ((d.set CLK_STS_PRESENT).wr CLK_REFCLK_PPM ppm) true 1 0
    exact ⟨hnew, hpresent.trans ((Dev.on_of_rn (Dev.rn_wr_ne _ _ (by decide))).trans (d.on_set _ rfl (by decide))), rfl, rfl⟩
  case lost =>
    intro s dt ppm edges d hup href hppm
    refine completes_onDev (exec_refclkLost ..) rfl ?_
    rw [show (s.dev.pass dt).frm.beyvoUp = true from hup, show (s.dev.pass dt).on CLK_STS_REF = true from href,
      if_neg (by simpa using hppm)]
    obtain ⟨hnew, hpresent⟩ := Dev.refSwitch_shows ((d.put CLK_STS_PRESENT (b2n edges)).wr CLK_REFCLK_PPM ppm) false 2 1
    exact ⟨hnew, hpresent.trans ((Dev.on_of_rn (Dev.rn_wr_ne _ _ (by decide))).trans (d.on_put_b2n _ _ rfl (by decide))), rfl, rfl⟩
  case pll =>
    intro s dt pll d hup
    refine completes_onDev (exec_pllUnlock ..) rfl ?_
    rw [if_pos hup]
    exact ⟨(Dev.on_of_rn (Dev.rn_faultPost (o := {}) _ (.inr (by decide)) (by decide))).trans (d.on_set _ rfl (by decide)), rfl, rfl⟩
  case clkGate =>
    intro s dt u v a d hlo hhi hmay
    refine completes_onDevM (exec_clkGateWrite ..) (unit_ok hlo hhi) ?_
    rw [Dev.regWrite_pass hmay]
    exact ⟨Dev.clkGate_off .., rfl, rfl⟩
  case pwrGate =>
    intro s dt u v a d hlo hhi hmay hclk
    refine completes_onDevM (exec_pwrmPgateWrite ..) (unit_ok hlo hhi) ?_
    rw [Dev.regWrite_pass hmay, Dev.pwrGate_gates hclk]
    exact ⟨d.fld_gateOff _ _ (mod_subUnits_lt u v), rfl, rfl⟩
  case gate =>
    intro s dt u j d hlo hhi hj hidle hoff hpower
    refine completes_onDev (exec_gateInEffect ..) (by rw [unit_ok hlo hhi, decide_eq_true hj]; rfl) ?_
    rw [Dev.gateEffect_gates hidle hoff hpower]
    exact ⟨d.on_set _ rfl (by omega : 8 + j < 32), rfl, rfl⟩

end Sys2Proof.Machine
end

section
/-! PROOFS. Queues, Guard restarts, pairs, the time's state and seal (R348, R356, R361, R420): they too leave the chip's own registers
and the boot phase. -/

namespace Sys2Proof.Machine

open R

theorem apart_outrSts : apart OUTR_STS := by decide

theorem Dev.beside_ce (d : Dev) (c : CeSt) : Dev.Beside d { d with ce := c } := ⟨rfl, rfl, rfl, rfl, rfl, rfl⟩

theorem Dev.beside_tim (d : Dev) (t : TimSt) : Dev.Beside d { d with tim := t } := ⟨rfl, rfl, rfl, rfl, rfl, rfl⟩

theorem Dev.beside_tan (d : Dev) (t : TanSt) : Dev.Beside d { d with tan := t } := ⟨rfl, rfl, rfl, rfl, rfl, rfl⟩

theorem Dev.beside_wld (d : Dev) (w : WorldSt) : Dev.Beside d { d with wld := w } := ⟨rfl, rfl, rfl, rfl, rfl, rfl⟩

theorem Dev.beside_hv (d : Dev) (v : HeaviaSt) : Dev.Beside d { d with hv := v } := ⟨rfl, rfl, rfl, rfl, rfl, rfl⟩

theorem Dev.beside_sid (d : Dev) (t : SidSt) : Dev.Beside d { d with sid := t } := ⟨rfl, rfl, rfl, rfl, rfl, rfl⟩

theorem Dev.beside_dbg (d : Dev) (t : DbgSt) : Dev.Beside d { d with dbg := t } := ⟨rfl, rfl, rfl, rfl, rfl, rfl⟩

theorem Dev.beside_frm (d : Dev) (t : FrmSt) : Dev.Beside d { d with frm := t } := ⟨rfl, rfl, rfl, rfl, rfl, rfl⟩

theorem Dev.beside_deadFab (d : Dev) (l : List Nat) (f : FabSt) : Dev.Beside d { d with dead := l, fab := f } :=
  ⟨rfl, rfl, rfl, rfl, rfl, rfl⟩

theorem Dev.fault2_deferred (d : Dev) (owner : Nat) {o : FaultOpt} (ho : o.deferred = true) :
    d.fault2 owner o =
      let e := (d.bump (FRM_CNT 2)).raiseIf FRM_INT_EN_FAULT 2
      if e.safeCoach owner then e.pin FRM_STS_SAFE_N 1 false else e := by
  unfold Dev.fault2
  dsimp only
  rw [if_pos ho]

theorem Dev.fault_two_up {d : Dev} (block code owner : Nat) (o : FaultOpt) (hup : d.frm.beyvoUp = true) :
    d.fault 2 block code owner o = ((d.pend 2).when (decide (1 ≤ 2)) (·.tallyD 0x89 1)).fault2 owner o := by
  unfold Dev.fault
  rw [if_pos hup]
  rfl

theorem Dev.fault_two_down {d : Dev} (block code owner : Nat) (o : FaultOpt) (hdown : d.frm.beyvoUp = false) :
    d.fault 2 block code owner o =
      (d.when (decide (2 ≤ 2)) (·.pin FRM_STS_FAULT_N 0 false)).when (decide (3 ≤ 2) || (2 == 2 && d.safeCoach owner))
        (·.pin FRM_STS_SAFE_N 1 false) := by
  unfold Dev.fault
  rw [if_neg (ne_true_of_eq_false hdown), if_neg (by decide)]

section Apart

variable {P : Dev → Prop} {d : Dev} (h : Dev.KeptApart P)
include h

/-! ### Queues and Guard restarts -/

theorem Dev.KeptApart.towOwnerReset (o : Nat) (hd : P d) : P (d.towOwnerReset o) := by
  have hset : P (d.setTow 0) := by
    unfold Dev.setTow
    exact kept_ite hd (h.raiseIf _ _ (h.put _ (by decide) (h.put _ (by decide) (h.put _ (by decide) hd))))
  unfold Dev.towOwnerReset
  exact kept_ite (h.post _ _ _ _ _ _ hset) hd

theorem Dev.KeptApart.clearQueueRegs (c n : Nat) (hd : P d) : P (d.clearQueueRegs c n) :=
  h.clr (apart_add_add _ _ (by decide)) (h.wr _ (apart_add_add _ _ (by decide)) (h.wr _ (apart_add_add _ _ (by decide))
    (h.wr _ (apart_add_add _ _ (by decide)) (h.wr _ (apart_add_add _ _ (by decide)) hd))))

theorem Dev.KeptApart.sampleDrop (k : Nat) (hd : P d) : P (d.sampleDrop k) := by
  unfold Dev.sampleDrop
  exact kept_ite hd (h.postOnce _ _ _ _ _ _ _ (h.raiseIf _ _ (h.put _ apart_outrSts
    (h.bump (apart_add _ (by decide)) (kept_ite (h.put _ apart_outrSts hd) hd)))))

theorem Dev.KeptApart.dropWaiting (gone : Option Nat → Bool) (hd : P d) : P (d.dropWaiting gone) :=
  Dev.kept_each (fun _ _ _ he => h.sampleDrop _ (h.beside (Dev.beside_fab _ _) he)) hd

theorem Dev.KeptApart.clearQueues (c : Nat) (ns : List Nat) (hd : P d) : P (d.clearQueues c ns) := by
  have hregs : ∀ {e : Dev}, P e → P (e.each ns fun n d => d.clearQueueRegs c n) := fun he =>
    Dev.kept_each (fun n _ _ he => h.clearQueueRegs c n he) he
  unfold Dev.clearQueues
  exact h.beside (Dev.beside_deadFab _ _ _) (h.dropWaiting _ (hregs (h.beside (Dev.beside_ce _ _) hd)))

theorem Dev.KeptApart.dropWins (o : Nat) (p : Win → Bool) (hd : P d) : P (d.dropWins o p) := by
  have hfewer : P { d with stg := { d.stg with wins := d.stg.wins.filter (fun w => !p w) } } := h.aside hd
  unfold Dev.dropWins Dev.updInWindow
  exact h.put _ (by split <;> [exact apart_add _ (by decide); decide]) hfewer

theorem Dev.KeptApart.clearGuardHalf (k : Nat) (hd : P d) : P (d.clearGuardHalf k) := by
  have hless : P { d with wld := { d.wld with active := d.wld.active.filter (fun x => !(x.1 == k && x.2.1)) } } := h.aside hd
  unfold Dev.clearGuardHalf
  exact h.wr _ (apart_add_add _ _ (by decide)) (h.wr _ (apart_add_add _ _ (by decide))
    (h.wr _ (apart_add_add _ _ (by decide)) hless))

theorem Dev.KeptApart.guardRestart (k : Nat) (hd : P d) : P (d.guardRestart k) := by
  have hlimit : P { d with wld := { d.wld with
      glimit := tset 0 0 k d.wld.glimit, saved := d.wld.saved.filter (· ≠ k) } } := h.aside hd
  have hqueues := fun l => h.towOwnerReset 8 (h.clearQueues 8 l (h.clr (f := STG_GSTS_OVR_CNT_OVF) (by decide)
    (h.dropWins 8 (fun w => w.owner == 8 && w.core == k) (h.clearGuardHalf k hlimit))))
  unfold Dev.guardRestart
  exact h.set (apart_add _ (by decide)) (kept_ite (hqueues _) (h.clr (apart_add _ (by decide)) (hqueues _)))

/-! ### Faults of severity 2, and pairs -/

theorem Dev.KeptApart.startCoachReset (c cause : Nat) (hd : P d) : P (d.startCoachReset c cause) :=
  kept_ite hd (h.aside hd)

/-- A fault of severity 2 whose reset is deferred. -/
theorem Dev.KeptApart.faultDeferred (block code owner : Nat) (o : FaultOpt) (ho : o.deferred = true) (hd : P d) :
    P (d.fault 2 block code owner o) := by
  have hcounted : P ((d.pend 2).when (decide (1 ≤ 2)) (·.tallyD 0x89 1)) :=
    Dev.kept_when (fun he => h.tallyD _ _ he) (h.pend 2 hd)
  have hpins : ∀ b c : Bool, P ((d.when b (·.pin FRM_STS_FAULT_N 0 false)).when c (·.pin FRM_STS_SAFE_N 1 false)) := fun _ _ =>
    Dev.kept_when (fun he => h.pin _ _ (by decide) he) (Dev.kept_when (fun he => h.pin _ _ (by decide) he) hd)
  cases hup : d.frm.beyvoUp with
  | false =>
    rw [Dev.fault_two_down _ _ _ _ hup]
    exact hpins _ _
  | true =>
    have hraised := h.raiseIf FRM_INT_EN_FAULT 2 (h.bump (a := FRM_CNT 2) (by decide) hcounted)
    rw [Dev.fault_two_up _ _ _ _ hup, Dev.fault2_deferred _ _ ho]
    exact kept_ite (h.pin _ _ (by decide) hraised) hraised

/-- The reset of a pair, but for its record. -/
theorem Dev.KeptApart.pairHeld (p st o cause : Nat) (t : TanSt) (w : WorldSt) (f : FrmSt) (hd : P d) :
    P ((if o < 8 then
      ({ ((d.clr (TAN_PAIR_STS_LATENT_PEND p)).put (TAN_PAIR_STS_STATE p) st) with tan := t, wld := w, frm := f } : Dev).startCoachReset
        o cause
      else { ((d.clr (TAN_PAIR_STS_LATENT_PEND p)).put (TAN_PAIR_STS_STATE p) st) with tan := t, wld := w }).guardRestart (2 * p)) := by
  have hshown : P ((d.clr (TAN_PAIR_STS_LATENT_PEND p)).put (TAN_PAIR_STS_STATE p) st) :=
    h.put _ (apart_add _ (by decide)) (h.clr (apart_add _ (by decide)) hd)
  exact h.guardRestart _ (kept_ite (h.startCoachReset _ _ (h.aside hshown)) (h.aside hshown))

theorem Dev.KeptApart.pairReset (p cause : Nat) (hd : P d) : P (d.pairReset p cause) := by
  unfold Dev.pairReset
  exact kept_ite (h.post _ _ _ _ _ _ (h.pairHeld _ _ _ _ _ _ _ hd)) (h.pairHeld _ _ _ _ _ _ _ hd)

theorem Dev.KeptApart.infraFault (p : Nat) (parity : Bool) (rail : Nat) (hd : P d) : P (d.infraFault p parity rail) := by
  have hevent : ∀ f : Fld, apart f.addr → P (d.pairEvt p f) := fun _ hf => h.raiseIf _ _ (h.set hf hd)
  have hfault : ∀ f : Fld, apart f.addr → ∀ code data, P ((d.pairEvt p f).faultPost 2 0x07 code (d.pairOwner p) p data
      { core := some (2 * p), cause := 4, deferred := true }) := fun f hf _ _ =>
    h.faultDeferred _ _ _ _ rfl (h.post _ _ _ _ _ _ (hevent f hf))
  have hreset : ∀ {e : Dev} (t : TanSt), P e → P ((({ e with tan := t } : Dev).recause p 4).pairReset p 4) := fun _ he =>
    h.pairReset _ _ (kept_ite (h.beside (Dev.beside_frm _ _) (h.beside (Dev.beside_tan _ _) he)) (h.beside (Dev.beside_tan _ _) he))
  have hbit : apart (if parity then TAN_PAIR_STS_PARITY p else TAN_PAIR_STS_STEST_FAIL p).addr := by
    split <;> exact apart_add _ (by decide)
  unfold Dev.infraFault
  exact kept_ite hd (kept_ite (h.applyDsCoach _ _ (hreset _ (hfault _ hbit _ _))) (hreset _ (hfault _ hbit _ _)))

/-! ### The time's state -/

theorem Dev.KeptApart.updRegime (hd : P d) : P d.updRegime := by
  unfold Dev.updRegime
  exact kept_ite hd (h.post _ _ _ _ _ _ (h.raiseIf _ _ (h.put _ (by decide) hd)))

theorem Dev.KeptApart.tsState (st : Nat) (hd : P d) : P (d.tsState st) := by
  have hstate := h.put (f := STG_STS_LOCKED) (b2n (st == 1)) (by decide) (h.raiseIf TIME_INT_EN_STATE 16
    (h.put (f := TIME_DOM_STS_STATE d.primary) st (apart_add _ (by decide))
      (h.put (f := TIME_STS_STATE) st (by decide) hd)))
  have hsynced := kept_ite (c := st = 1 ∨ st = 3) (h.updRegime (h.clr (f := FAB_MODE_UNSYNC) (by decide) hstate)) hstate
  unfold Dev.tsState
  exact kept_ite hd (kept_ite (h.post _ _ _ _ _ _ (h.raiseIf _ _ (h.set (by decide) (h.set (by decide) hsynced))))
    (kept_ite (h.post _ _ _ _ _ _ (h.raiseIf _ _ (h.clr (by decide) hsynced))) hsynced))

theorem Dev.KeptApart.beGrandmaster (hd : P d) : P d.beGrandmaster :=
  h.beside (Dev.beside_tim _ _) (h.tsState 3 (h.wrPair _ (by decide) (by decide) hd))

/-! ### The steps of seal -/

theorem Dev.KeptApart.coresRun (o : Nat) (hd : P d) : P (d.coresRun o) := by
  have hpair : ∀ {e : Dev} (p : Nat), P e → P (e.pairUp p) := fun {e} p he =>
    Dev.kept_when (fun hf => h.beside (Dev.beside_foldGo _ p) hf) (h.beside (Dev.beside_tan _ _)
      (kept_ite (c := e.fld (TAN_PAIR_STS_STATE p) = 3) (h.put 1 (apart_add _ (by decide)) he) he))
  unfold Dev.coresRun
  exact h.beside (Dev.beside_wld _ _) (Dev.kept_each (fun _ _ _ he => hpair _ he) hd)

theorem Dev.KeptApart.setCount (p k v : Nat) (hd : P d) : P (d.setCount p k v) :=
  h.put _ (apart_add_add _ _ (by decide)) (h.beside (Dev.beside_fab _ _) hd)

theorem Dev.KeptApart.reload (p k : Nat) (hd : P d) : P (d.reload p k) := by
  unfold Dev.reload
  exact kept_ite (h.setCount _ _ _ hd) (kept_ite (h.setCount _ _ _ hd) (h.setCount _ _ _ (h.beside (Dev.beside_fab _ _) hd)))

theorem Dev.KeptApart.sealTow (hd : P d) : P d.sealTow :=
  kept_ite (h.post _ _ _ _ _ _ (h.set (by decide) hd)) hd

theorem Dev.KeptApart.sealSamplers (hd : P d) : P d.sealSamplers :=
  Dev.kept_each (fun _ _ _ he => Dev.kept_each (fun _ _ _ hf => h.reload _ _ hf) (h.aside he)) hd

theorem Dev.KeptApart.sealPhases (hd : P d) : P d.sealPhases :=
  Dev.kept_each (fun _ _ _ he => Dev.kept_each (fun _ _ _ hf => h.put _ (apart_add _ (by decide)) hf) he) hd

theorem Dev.KeptApart.sealTout (hd : P d) : P d.sealTout := Dev.kept_each (fun _ _ _ he => h.aside he) hd

theorem Dev.KeptApart.cwNext (hd : P d) : P d.cwNext := by
  unfold Dev.cwNext
  exact h.beside (Dev.beside_hv _ _) (h.put _ (by decide) (h.put _ (by decide) (h.fresh 8 hd)))

theorem Dev.KeptApart.sealTime (hd : P d) : P d.sealTime :=
  Dev.kept_each (fun _ _ _ he => kept_ite he (kept_ite (kept_ite (h.beGrandmaster he) he) (h.put _ (apart_add _ (by decide)) he))) hd

theorem Dev.KeptApart.sealPorts (hd : P d) : P d.sealPorts :=
  Dev.kept_each (fun _ _ _ he => kept_ite (h.wakePort _ _ _ he) (h.sidEnter _ _ (h.linkDown _ he))) hd

theorem Dev.KeptApart.sealSiding (hd : P d) : P d.sealSiding := by
  have hasleep : P (d.each d.sid.fsPend fun p d =>
      ((d.set (SID_PORT_STS_FS_SLEEP p)).set SID_STS_FS_SLEEP).raiseIf SID_INT_EN_FS 212) :=
    Dev.kept_each (fun _ _ _ he => h.raiseIf _ _ (h.set (by decide) (h.set (apart_add _ (by decide)) he))) hd
  unfold Dev.sealSiding
  exact h.beside (Dev.beside_sid _ _) (kept_ite hasleep (h.post _ _ _ _ _ _ (h.raiseIf _ _ (h.set (by decide) hasleep))))

theorem Dev.KeptApart.sealPairs (failed : Nat) (hd : P d) : P (d.sealPairs failed) := by
  have hstop : ∀ {e : Dev} (p : Nat), P e → P (e.foldStop p) := fun _ he => h.beside (Dev.beside_tan _ _) he
  unfold Dev.sealPairs
  exact Dev.kept_each (fun _ _ _ he => h.infraFault _ _ _ (h.fresh 1 he)) (Dev.kept_each (fun _ _ _ he =>
    kept_ite (h.put _ (apart_add _ (by decide)) (hstop _ he))
      (h.set (apart_add _ (by decide)) (Dev.kept_when (fun hf => hstop _ hf) he))) hd)

theorem Dev.KeptApart.sealQuiesced (hd : P d) : P d.sealQuiesced := by
  unfold Dev.sealQuiesced
  exact kept_ite (h.beside (Dev.beside_wld _ _) (Dev.kept_each (fun _ _ _ he =>
    h.set (apart_add _ (by decide)) (h.set (apart_add _ (by decide)) he)) hd)) hd

theorem Dev.KeptApart.cert (c : List Nat) (hd : P d) : P (d.cert c).2 := by
  have hgranted : ∀ v x y, P (((d.wr MAN_DBG_STS v).put DBG_STS_ENABLES x).put DBG_STS_COACHES y) := fun _ _ _ =>
    h.put _ (by decide) (h.put _ (by decide) (h.wr _ (by decide) hd))
  unfold Dev.cert
  dsimp only
  split
  · exact h.post _ _ _ _ _ _ (h.beside (Dev.beside_dbg _ _) (h.set (by decide) (h.put _ (by decide) (h.set (by decide) (hgranted _ _ _)))))
  · exact h.post _ _ _ _ _ _ hd

theorem Dev.KeptApart.sealCert (hd : P d) : P d.sealCert := by
  unfold Dev.sealCert Dev.presentCert
  split
  · exact hd
  · exact h.aside (h.cert _ (h.aside (e := { d with boot := { d.boot with lateCert := none } }) hd))

end Apart

end Sys2Proof.Machine
end

section
/-! PROOFS. The boot sequence and its timers, seal, coach starts, fuses, flash commands and service frames reach the state that
their rule names (R415–R425). -/

namespace Sys2Proof.Machine

open R

/-! ### A register of the chip behind everything that is kept apart -/

theorem Dev.keptApart_rn {b : Nat} (hb : ¬ apart b) (x : Nat) : Dev.KeptApart fun e => e.rn b = x where
  wr {d a} v ha he := (Dev.rn_wr_ne d v fun heq : a = b => hb (heq ▸ ha)).trans he
  beside hbe he := (Dev.rn_of_regs hbe.regs b).trans he
  chan _ he := he

theorem Dev.keptApart_phase (p : BootPhase) : Dev.KeptApart fun e => e.boot.phase = p where
  wr _ _ he := he
  beside hbe he := hbe.phase.trans he
  chan _ he := he

/-! ### Boot hold -/

/-- The output stage of a channel leaves the boot's phase and hold. -/
theorem Dev.keptByOutput_hold (i : Nat) : Dev.KeptByOutput i fun e => e.boot.phase = .hold ∧ e.frm.bootHold = true where
  out _ he := he
  inrush _ he := he
  sc he := he
  oc he := he
  chan _ he := he

theorem Dev.enterHold_holds (d : Dev) : d.enterHold.boot.phase = .hold ∧ d.enterHold.frm.bootHold = true := by
  have hforced : ∀ {e : Dev} (x : Nat), e.boot.phase = .hold ∧ e.frm.bootHold = true →
      (((e.aoForce 0x80 0x0004 3 x).pend 3).pinsLow).boot.phase = .hold ∧
        (((e.aoForce 0x80 0x0004 3 x).pend 3).pinsLow).frm.bootHold = true := by
    intro e x he
    have hao : (e.aoForce 0x80 0x0004 3 x).boot.phase = .hold ∧ (e.aoForce 0x80 0x0004 3 x).frm.bootHold = true :=
      kept_ite (Q := fun e : Dev => e.boot.phase = .hold ∧ e.frm.bootHold = true) he he
    have hfrm : (((e.aoForce 0x80 0x0004 3 x).pend 3).pinsLow).frm = (e.aoForce 0x80 0x0004 3 x).frm :=
      Dev.frm_of_restT (Dev.restT_of_rest (by unfold Dev.pinsLow; simp))
    exact ⟨(Dev.keptApart_phase _).pinsLow ((Dev.keptApart_phase _).pend 3 hao.1), hfrm ▸ hao.2⟩
  unfold Dev.enterHold
  exact Dev.kept_each (P := fun e => e.boot.phase = .hold ∧ e.frm.bootHold = true)
    (fun i _ _ he => (Dev.keptByOutput_hold i).updOut false he) (hforced _ ⟨rfl, rfl⟩)

/-! ### Candidates -/

theorem leNat_lt (l : List Nat) : leNat l < 256 ^ l.length := by
  induction l with
  | nil => exact Nat.one_pos
  | cons b r ih =>
    have hb := Nat.mod_lt b (by decide : 256 > 0)
    rw [leNat, List.length_cons, Nat.pow_succ]
    omega

theorem imageVersion_lt (b : List Nat) : imageVersion b < 2 ^ 32 := by
  have hlen : ((b.drop 0x18).take 4).length ≤ 4 := List.length_take_le ..
  exact lt_of_lt_of_le (leNat_lt _) (Nat.pow_le_pow_right (by decide) hlen)

theorem ite_lt_256 {c : Prop} [Decidable c] {x y : Nat} (hx : x < 256) (hy : y < 256) : (if c then x else y) < 256 :=
  kept_ite (Q := (· < 256)) hx hy

theorem sigBlock_lt (b digest : List Nat) : sigBlock b digest < 256 := by
  unfold sigBlock
  dsimp only
  exact ite_lt_256 (by decide) (ite_lt_256 (by decide) (ite_lt_256 (by decide) (ite_lt_256 (by decide) (by decide))))

theorem verifyErr_lt (m : Mem) (h : Nat) (unreadable : Bool) : verifyErr m h unreadable < 256 := by
  unfold verifyErr
  dsimp only
  exact ite_lt_256 (by decide) (ite_lt_256 (by decide) (ite_lt_256 (by decide) (ite_lt_256 (by decide) (sigBlock_lt ..))))

/-- Only a half that is a candidate is tried. -/
theorem Dev.candErr_of_bootHalves {d : Dev} {m : Mem} {h : Nat} (hh : h ∈ d.bootHalves m) : d.candErr m h = 0 := by
  have hcand : ∀ x ∈ [0, 1].filter (fun h => d.candErr m h == 0), d.candErr m x = 0 := fun x hx =>
    beq_iff_eq.mp (List.mem_filter.mp hx).2
  unfold Dev.bootHalves at hh
  dsimp only at hh
  split at hh
  next hboth =>
    refine hcand h ?_
    rw [hboth.1]
    simpa [or_comm] using hh
  next => exact hcand h hh

section Try

variable {cmp iOk sOk : Bool} {unread h : Nat} {rest : List Nat} {d : Dev} {m : Mem}

/-- A candidate that is verified and whose sections apply is applied. -/
theorem tryImages_applies (hcand : d.candErr m h = 0) (hverified : verifyErr m h (bit h unread) = 0)
    (happlies : (applyImage h cmp iOk sOk d m).err = 0) :
    tryImages cmp iOk sOk unread (h :: rest) d m =
      ((applyImage h cmp iOk sOk d m).dev.imageApplied h (imageHead m h), (applyImage h cmp iOk sOk d m).mem) := by
  unfold tryImages
  dsimp only
  rw [if_pos hcand, hverified, if_neg (not_not.mpr rfl : ¬ (0 : Nat) ≠ 0), if_pos happlies]

/-- The last candidate is not verified: boot hold. -/
theorem tryImages_holds (hcand : d.candErr m h = 0) (hfails : verifyErr m h (bit h unread) ≠ 0) :
    ∃ e : Dev, (tryImages cmp iOk sOk unread [h] d m).1 = e.enterHold := by
  have hlt := verifyErr_lt m h (bit h unread)
  unfold tryImages
  dsimp only
  rw [if_pos hcand, if_pos hfails]
  dsimp only
  rw [if_neg hfails, if_neg (by omega)]
  exact ⟨_, rfl⟩

end Try

/-- What an applied image shows of its half and its version. -/
theorem Dev.imageApplied_shows (d : Dev) (h : Nat) (head : List Nat) :
    (d.imageApplied h head).on SYS_BOOT_STS_HALF = (h == 1) ∧ (d.imageApplied h head).rn SYS_IMAGE_VER = imageVersion head := by
  have hversion := imageVersion_lt head
  unfold Dev.imageApplied
  constructor
  · refine (Dev.on_of_rn (Dev.rn_post _ (by decide))).trans ((Dev.on_of_rn (Dev.rn_wr_ne _ _ (by decide))).trans ?_)
    exact (congrArg (· == 1) (Dev.fld_put_apart _ _ _ _ (by decide) (by decide) (by decide) (by decide))).trans
      (d.on_put_b2n _ _ rfl (by decide))
  · exact (Dev.rn_post _ (by decide)).trans ((Dev.rn_wr_self ..).trans (Nat.mod_eq_of_lt hversion))

/-! ### Seal -/

/-- The device as seal begins: SEAL and READY show it, RETRY is 0, and the boot is sealed. -/
def Dev.sealBegun (d : Dev) : Dev :=
  let e := ((d.set SYS_SEAL_SEAL).ready 31).clr SYS_BOOT_STS_RETRY
  { e with boot := { e.boot with phase := .sealed, sealedAt := e.up }, frm := { e.frm with bootLow := false } }

theorem Dev.rn_bootFrm (d : Dev) (x : BootSt) (f : FrmSt) (b : Nat) : ({ d with boot := x, frm := f } : Dev).rn b = d.rn b := rfl

theorem Dev.rn_sealBegun (d : Dev) (b : Nat) :
    d.sealBegun.rn b = (((d.set SYS_SEAL_SEAL).ready 31).clr SYS_BOOT_STS_RETRY).rn b := Dev.rn_bootFrm ..

theorem Dev.beside_sealStage (d : Dev) : Dev.Beside d d.sealStage := ⟨rfl, rfl, rfl, rfl, rfl, rfl⟩

/-- What the steps of R420 leave. -/
theorem Dev.KeptApart.seal {P : Dev → Prop} {d : Dev} (h : Dev.KeptApart P) (failed : Nat) (hphase : d.boot.phase = .applied)
    (hdev : d.frm.devReset = none) (hbv : d.frm.bvReset = none) (hd : P d.sealBegun) : P (d.seal failed) := by
  have hpins := h.sealTout (h.sealPhases (h.sealSamplers (h.sealTow hd)))
  unfold Dev.seal
  rw [if_neg (by simp [hphase, hdev, hbv])]
  exact h.sealCert (h.updFaultN (h.post _ _ _ _ _ _ (h.sealQuiesced (h.sealPairs failed (h.coresRun 8
    (h.sealSiding (h.sealPorts (h.sealTime (h.beside (Dev.beside_sealStage _) (h.beside (Dev.beside_hv _ _)
      (h.cwNext (h.set (by decide) hpins))))))))))))

theorem Dev.ready_shows (d : Dev) : (d.ready 31).on SYS_READY_SEALED = true := by
  unfold Dev.ready
  split
  next hbit =>
    have hfld : d.fld SYS_READY_SEALED = 1 := of_decide_eq_true hbit
    exact beq_iff_eq.mpr hfld
  next => exact (Dev.on_of_rn (Dev.rn_wr_ne _ _ (by decide))).trans (d.on_set SYS_READY_SEALED rfl (by decide))

theorem Dev.rn_ready_ne (d : Dev) {n b : Nat} (hready : SYS_READY ≠ b) (htime : SYS_READY_T (if n = 31 then 20 else n) ≠ b) :
    (d.ready n).rn b = d.rn b :=
  kept_ite (Q := fun e : Dev => e.rn b = d.rn b) rfl ((Dev.rn_wr_ne _ _ htime).trans (Dev.rn_set_ne _ _ hready))

theorem Dev.seal_shows {d : Dev} (failed : Nat) (hphase : d.boot.phase = .applied) (hdev : d.frm.devReset = none)
    (hbv : d.frm.bvReset = none) :
    (d.seal failed).boot.phase = .sealed ∧ (d.seal failed).on SYS_SEAL_SEAL = true ∧ (d.seal failed).on SYS_READY_SEALED = true ∧
      (d.seal failed).fld SYS_BOOT_STS_RETRY = 0 := by
  have hrn : ∀ b, ¬ apart b → (d.seal failed).rn b = (((d.set SYS_SEAL_SEAL).ready 31).clr SYS_BOOT_STS_RETRY).rn b := fun b hb =>
    ((Dev.keptApart_rn hb _).seal failed hphase hdev hbv rfl).trans (d.rn_sealBegun b)
  refine ⟨(Dev.keptApart_phase .sealed).seal failed hphase hdev hbv rfl, (Dev.on_of_rn (hrn _ (by decide))).trans ?_,
    (Dev.on_of_rn (hrn _ (by decide))).trans ?_, (Dev.fld_of_rn (hrn _ (by decide))).trans ?_⟩
  · exact (Dev.on_of_rn (Dev.rn_clr_ne _ _ (by decide))).trans ((Dev.on_of_rn (Dev.rn_ready_ne _ (by decide) (by decide))).trans
      (d.on_set _ rfl (by decide)))
  · exact (Dev.on_of_rn (Dev.rn_clr_ne _ _ (by decide))).trans (Dev.ready_shows _)
  · exact Dev.fld_clr_self _ _ (by decide) (by decide)

/-! ### Coach starts -/

/-- A coach that starts shows it, whatever its cores do. -/
theorem Dev.coachStart_shows {d : Dev} {c : Nat} (hc : c < 8) : (d.coachStart c).on (SYS_COACH_STS_STARTED c) = true := by
  have hstarted : ∀ t, ((d.set (SYS_COACH_STS_STARTED c)).put (SYS_COACH_STS_START c) t).on (SYS_COACH_STS_STARTED c) = true := fun t =>
    (congrArg (· == 1) (Dev.fld_put_apart _ _ _ t (by decide : 8 ≤ 31) (by decide : 31 < 32) (by decide : 0 ≤ 0)
      (.inr (by decide : 0 < 8)))).trans (d.on_set _ rfl (by decide : 0 < 32))
  have hb : ¬ apart (SYS_COACH_STS c) := by unfold apart SYS_COACH_STS FRM_STS FRM_CNT; omega
  unfold Dev.coachStart
  dsimp only
  split
  · exact hstarted _
  · exact (Dev.on_of_rn ((Dev.keptApart_rn hb _).coresRun c rfl)).trans (hstarted _)

theorem sysCoachSts_calm {c : Nat} (hc : c < 8) : calm (SYS_COACH_STS c) := by
  unfold calm SYS_COACH_STS
  omega

/-- A coach that starts without its condition shows that too. -/
theorem Dev.coachStartTimed_shows (d : Dev) {c : Nat} (hc : c < 8) :
    let e := ((((d.coachStart c).set (SYS_COACH_STS_TMO_START c)).set SYS_STS_TMO_START).raiseIf SYS_INT_EN_START 1).post 0x01 0x0002 1 9
      c
    e.on (SYS_COACH_STS_STARTED c) = true ∧ e.on (SYS_COACH_STS_TMO_START c) = true ∧ e.on SYS_STS_TMO_START = true := by
  have hcalm := sysCoachSts_calm hc
  have hne : SYS_STS ≠ SYS_COACH_STS c := by unfold SYS_STS SYS_COACH_STS; omega
  have hrn : ∀ b, calm b →
      (((((d.coachStart c).set (SYS_COACH_STS_TMO_START c)).set SYS_STS_TMO_START).raiseIf SYS_INT_EN_START 1).post 0x01 0x0002 1 9
        c).rn b = (((d.coachStart c).set (SYS_COACH_STS_TMO_START c)).set SYS_STS_TMO_START).rn b := fun b hb =>
    (Dev.rn_post _ hb).trans (Dev.rn_raiseIf _ _ (by decide) hb)
  refine ⟨(Dev.on_of_rn (hrn _ hcalm)).trans ?_, (Dev.on_of_rn (hrn _ hcalm)).trans ?_, (Dev.on_of_rn (hrn _ (by decide))).trans
    (Dev.on_set _ _ rfl (by decide))⟩
  · exact (Dev.on_of_rn (Dev.rn_set_ne _ _ hne)).trans ((congrArg (· == 1) (Dev.fld_set_apart _ _ _ (by decide : 1 ≤ 1)
      (by decide : 1 < 32) (by decide : 0 ≤ 0) (.inr (by decide : 0 < 1)))).trans (Dev.coachStart_shows hc))
  · exact (Dev.on_of_rn (Dev.rn_set_ne _ _ hne)).trans (Dev.on_set _ _ rfl (by decide : 1 < 32))

/-! ### Timers and flash -/

theorem Dev.aoForce_regs (d : Dev) (block code sev inst : Nat) :
    (d.aoForce block code sev inst).regs = d.regs ∧ (d.aoForce block code sev inst).frm = d.frm := by
  unfold Dev.aoForce
  split <;> exact ⟨rfl, rfl⟩

section Retry

variable {d : Dev} {r : Nat}

theorem Dev.startDeviceReset_starts (cause block code : Nat) (h : d.frm.devReset = none) :
    (d.startDeviceReset cause block code).frm.devReset = some ⟨cause, block, code⟩ := by
  unfold Dev.startDeviceReset
  rw [h]
  rfl

theorem Dev.bootRetry_resets (h : d.frm.devReset = none) :
    (((d.aoForce 0x80 0x0005 2 r).bumpF SYS_BOOT_STS_RETRY).startDeviceReset 4 0 0).frm.devReset = some ⟨4, 0, 0⟩ :=
  Dev.startDeviceReset_starts _ _ _ (by rw [Dev.bumpF_frm, (d.aoForce_regs ..).2, h])

theorem Dev.bootRetry_counts (hr : d.fld SYS_BOOT_STS_RETRY ≠ 3) :
    (((d.aoForce 0x80 0x0005 2 r).bumpF SYS_BOOT_STS_RETRY).startDeviceReset 4 0 0).fld SYS_BOOT_STS_RETRY =
      d.fld SYS_BOOT_STS_RETRY + 1 := by
  have hlt : d.fld SYS_BOOT_STS_RETRY < 4 := Nat.mod_lt _ (by decide)
  have hao : (d.aoForce 0x80 0x0005 2 r).fld SYS_BOOT_STS_RETRY = d.fld SYS_BOOT_STS_RETRY :=
    Dev.fld_of_rn (Dev.rn_of_regs (d.aoForce_regs ..).1 _)
  rw [Dev.fld_of_rn (Dev.rn_startDeviceReset ..), Dev.bumpF, Dev.fld_put_self _ _ _ (by decide) (by decide), hao]
  exact Nat.mod_eq_of_lt (by change _ < 4; omega)

end Retry

theorem Dev.flashIdle_shows (d : Dev) :
    let e := ((({ d with boot := { d.boot with flash := none } } : Dev).clr SYS_FLASH_STS_BUSY).set SYS_FLASH_STS_DONE).raiseIf
      SYS_INT_EN_FLASH 0
    e.boot.flash = none ∧ e.on SYS_FLASH_STS_BUSY = false ∧ e.on SYS_FLASH_STS_DONE = true := by
  refine ⟨?_, (Dev.on_of_rn (Dev.rn_raiseIf _ _ (by decide) (by decide))).trans ?_,
    (Dev.on_of_rn (Dev.rn_raiseIf _ _ (by decide) (by decide))).trans (Dev.on_set _ _ rfl (by decide))⟩
  · exact kept_ite (Q := fun e : Dev => e.boot.flash = none) (kept_ite (Q := fun e : Dev => e.boot.flash = none) rfl rfl) rfl
  · refine (congrArg (· == 1) (Dev.fld_set_apart _ _ _ (by decide) (by decide) (by decide) (by decide))).trans ?_
    exact congrArg (· == 1) (Dev.fld_clr_self _ _ (by decide) (by decide))

/-! ### The boot in normal mode -/

theorem Dev.bootRun_normal {d : Dev} {m : Mem} (unread : Nat) (iOk sOk : Bool) (odo : List (Nat × Option Nat))
    (hphase : d.boot.phase = .rom) (hdev : d.frm.devReset = none) (hbv : d.frm.bvReset = none) (hwaits : d.bootWaits m = false)
    (hsel : d.fld SYS_BOOT_STS_BOOTSEL = 0) :
    d.bootRun m true unread iOk sOk odo =
      let k := (d.bootKeys odo).put FAB_MODE_TEST 0
      let e := (k.putErr 0 (k.candErr m 0)).putErr 1 (k.candErr m 1)
      let cause := d.fld FRM_BOOT_CAUSE_CAUSE
      tryImages (cause == 5 || cause == 6 || cause == 8 || cause == 9) iOk sOk unread (e.bootHalves m) e m := by
  unfold Dev.bootRun
  dsimp only
  rw [if_neg (Dev.bootRun_runs hphase hdev hbv hwaits), if_neg (by decide), hsel]
  rfl

/-- In normal mode the first candidate is applied where it stands, and boot hold follows where the last one is not verified. -/
theorem bootSequence_normal (s : State) (dt unread h : Nat) (iOk sOk : Bool) (odo : List (Nat × Option Nat)) (rest : List Nat) :
    let d := s.now dt
    let k := (d.bootKeys odo).put FAB_MODE_TEST 0
    let e := (k.putErr 0 (k.candErr s.mem 0)).putErr 1 (k.candErr s.mem 1)
    let cause := d.fld FRM_BOOT_CAUSE_CAUSE
    let b := applyImage h (cause == 5 || cause == 6 || cause == 8 || cause == 9) iOk sOk e s.mem
    let err := verifyErr s.mem h (bit h unread)
    (odo.all fun x => decide (x.1 < 16)) = true → d.boot.phase = .rom → d.frm.devReset = none → d.frm.bvReset = none →
    d.bootWaits s.mem = false → d.fld SYS_BOOT_STS_BOOTSEL = 0 → e.bootHalves s.mem = h :: rest →
    Completes (.bootSequence dt true unread iOk sOk odo) s fun t => t.pending = s.pending ∧
      (err = 0 → b.err = 0 → t.mem = b.mem ∧ t.dev.boot.phase = .applied ∧ t.dev.boot.rollback = imageRollback (imageHead s.mem h) ∧
        t.dev.on SYS_BOOT_STS_HALF = (h == 1) ∧ t.dev.rn SYS_IMAGE_VER = imageVersion (imageHead s.mem h)) ∧
      (err ≠ 0 → rest = [] → t.dev.boot.phase = .hold ∧ t.dev.frm.bootHold = true) := by
  intro d k e cause b err hodo hphase hdev hbv hwaits hsel hhalves
  have hcand : e.candErr s.mem h = 0 := Dev.candErr_of_bootHalves (hhalves ▸ List.mem_cons_self)
  refine completes_onAll (exec_bootSequence ..) hodo ?_
  rw [Dev.bootRun_normal unread iOk sOk odo hphase hdev hbv hwaits hsel]
  dsimp only
  rw [show (((d.bootKeys odo).put FAB_MODE_TEST 0).putErr 0 (((d.bootKeys odo).put FAB_MODE_TEST 0).candErr s.mem 0)).putErr 1
    (((d.bootKeys odo).put FAB_MODE_TEST 0).candErr s.mem 1) = e from rfl, hhalves]
  refine ⟨rfl, fun hverified happlies => ?_, fun hfails hlast => ?_⟩
  · rw [tryImages_applies hcand hverified happlies]
    obtain ⟨hhalf, hversion⟩ := b.dev.imageApplied_shows h (imageHead s.mem h)
    exact ⟨rfl, rfl, rfl, hhalf, hversion⟩
  · subst hlast
    obtain ⟨f, hf⟩ := tryImages_holds (cmp := cause == 5 || cause == 6 || cause == 8 || cause == 9) (iOk := iOk) (sOk := sOk) hcand
      hfails
    rw [hf]
    exact f.enterHold_holds

/-! ### Service frames and certificates -/

theorem Dev.presentCert_answers (d : Dev) (c : List Nat) : (d.presentCert c).boot.certSts = 1 ∨ (d.presentCert c).boot.certSts = 2 := by
  have hsts : (d.presentCert c).boot.certSts = if (d.cert c).1 then 1 else 2 := rfl
  rw [hsts]
  cases (d.cert c).1 with
  | false => exact .inr rfl
  | true => exact .inl rfl

/-- The data taken count as received, and the tool as answered. -/
theorem Dev.dataAcknowledged (d : Dev) (n : Nat) (c : Prop) [Decidable c] (dst : List Nat) (kind off : Nat) :
    ((if c then ({ d.dataTaken n with boot := { (d.dataTaken n).boot with timerFrom := (d.dataTaken n).up } } : Dev)
      else d.dataTaken n).serviceSend dst kind off []).boot.received = d.boot.received + n ∧
    ((if c then ({ d.dataTaken n with boot := { (d.dataTaken n).boot with timerFrom := (d.dataTaken n).up } } : Dev)
      else d.dataTaken n).serviceSend dst kind off []).boot.answered = true := by
  split <;> exact ⟨rfl, rfl⟩

/-- Settles O56: each command's state is that of its row; of an image that is applied, of seal and of coach starts, what the rule
names stays behind all that follows. -/
theorem bootAndServiceCommandsComplete : Obligations.BootAndServiceCommandsComplete := by
  unfold Obligations.BootAndServiceCommandsComplete
  refine ⟨?hold, ?normal, ?lastRetry, ?again, ?retry, ?certWait, ?sealing, ?start, ?startTimeout, ?guardGo, ?rollback, ?erase,
    ?program, ?flashDone, ?hello, ?data, ?cert, ?certLoad, ?certSts⟩
  case hold =>
    intro s dt unread iOk sOk odo d hodo hphase hdev hbv hwaits hsel
    refine completes_onAll (exec_bootSequence ..) hodo ?_
    rw [Dev.bootRun_hold unread iOk sOk odo hphase hdev hbv hwaits hsel]
    exact ⟨(Dev.enterHold_holds _).2, (Dev.enterHold_holds _).1, rfl, rfl⟩
  case normal =>
    intro s dt unread h iOk sOk odo rest
    exact bootSequence_normal s dt unread h iOk sOk odo rest
  case again =>
    intro s dt unread h iOk sOk odo rest
    exact bootSequence_normal s dt unread h iOk sOk odo rest
  case lastRetry =>
    intro s dt d hphase hwaits hdev hretry hlong
    refine completes_onDevM (exec_bootTimerExpiry ..) rfl ?_
    rw [Dev.bootTimeout_runs hphase hwaits hdev hlong, if_pos hretry]
    exact ⟨(Dev.enterHold_holds _).2, (Dev.enterHold_holds _).1, rfl, rfl⟩
  case retry =>
    intro s dt d hphase hwaits hdev hretry hlong
    refine completes_onDevM (exec_bootTimerExpiry ..) rfl ?_
    rw [Dev.bootTimeout_runs hphase hwaits hdev hlong, if_neg hretry]
    exact ⟨Dev.bootRetry_resets hdev, Dev.bootRetry_counts hretry, rfl, rfl⟩
  case certWait =>
    intro s dt d hphase hsel hcert hlong
    refine completes_onDev (exec_certificateWaitTimeout ..) rfl ?_
    rw [show (s.dev.pass dt).on SBX_ROOT_CERT = false from hcert, if_pos ⟨hphase, hsel, rfl, Dev.passed_iff.mpr hlong⟩]
    exact ⟨(Dev.enterHold_holds _).2, (Dev.enterHold_holds _).1, rfl, rfl⟩
  case sealing =>
    intro s dt failed d hphase hdev hbv
    obtain ⟨hsealed, hseal, hready, hretry⟩ := Dev.seal_shows failed hphase hdev hbv
    exact completes_onDev (exec_seal ..) rfl ⟨hsealed, hseal, hready, hretry, rfl, rfl⟩
  case start =>
    intro s dt c d hc hstart hcond
    refine completes_onDev (exec_coachStart ..) (decide_eq_true hc) ?_
    rw [if_pos ⟨hstart, hcond⟩]
    exact ⟨(Dev.on_of_rn (Dev.rn_post _ (sysCoachSts_calm hc))).trans (Dev.coachStart_shows hc), rfl, rfl⟩
  case startTimeout =>
    intro s dt c d hc hstart htmo hcond hlong
    refine completes_onDev (exec_coachStartTimeout ..) (decide_eq_true hc) ?_
    rw [show (s.dev.pass dt).startCond c = false from hcond, if_pos ⟨hstart, htmo, rfl, Dev.passed_iff.mpr hlong⟩]
    obtain ⟨hstarted, htimed, hshown⟩ := Dev.coachStartTimed_shows d hc
    exact ⟨hstarted, htimed, hshown, rfl, rfl⟩
  case guardGo =>
    intro s dt v a d hmay hgo
    refine completes_onDevM (exec_guardGo ..) rfl ?_
    rw [Dev.regWrite_pass hmay, if_pos hgo]
    exact ⟨Dev.on_set _ _ rfl (by decide), rfl, rfl⟩
  case rollback =>
    intro s dt v a d hmay hkey hlow hsmall
    refine completes_onDevM (exec_sysRollbackCmt ..) rfl ?_
    rw [Dev.regWrite_pass hmay, Dev.rollbackCmt_blows hkey hlow]
    refine ⟨(Dev.fld_of_rn (Dev.rn_post _ (by decide))).trans ((Dev.fld_put_ne _ _ _ _ (by decide)).trans
      ((Dev.fld_put_self _ _ _ (by decide) (by decide)).trans (Nat.mod_eq_of_lt hsmall))),
      (Dev.on_of_rn (Dev.rn_post _ (by decide))).trans (Dev.on_set _ _ rfl (by decide)), rfl, rfl⟩
  case erase =>
    intro s dt v a c d hmay hcmd hbusy hstart
    refine completes_onDevM (exec_flashErase ..) rfl ?_
    rw [Dev.regWrite_pass hmay, Dev.flashCmd_starts (.inl hcmd) hbusy hstart]
    exact ⟨rfl, Dev.on_set _ _ rfl (by decide), rfl, rfl⟩
  case program =>
    intro s dt v a c d hmay hcmd hbusy hstart
    refine completes_onDevM (exec_flashProgram ..) rfl ?_
    rw [Dev.regWrite_pass hmay, Dev.flashCmd_starts (.inr hcmd) hbusy hstart]
    exact ⟨rfl, Dev.on_set _ _ rfl (by decide), rfl, rfl⟩
  case flashDone =>
    intro s dt c d hflash
    refine completes_onAll (exec_flashCommandDone ..) rfl ?_
    rw [Dev.flashDone_writes _ hflash]
    obtain ⟨hidle, hbusy, hdone⟩ := d.flashIdle_shows
    exact ⟨rfl, hidle, hbusy, hdone⟩
  case hello =>
    intro s dt d hservice hanswered hdue
    refine completes_onDev (exec_hello ..) rfl ?_
    rw [show (s.dev.pass dt).boot.answered = false from hanswered, if_pos ⟨hservice, rfl, Dev.helloDue_of_all hdue⟩]
    exact ⟨rfl, rfl, rfl, rfl⟩
  case data =>
    intro s dt tool offset data d hservice hlen hoffset hdone
    refine completes_onAll (exec_data ..) rfl ?_
    rw [Dev.serviceData_takes tool hservice hlen hoffset hdone]
    obtain ⟨hreceived, hanswered⟩ := d.dataAcknowledged data.length
      ((d.dataTaken data.length).serviceDone (Mem.setBytes s.mem (0x100000000 + offset) data) = true) (beBytes 6 tool) 3
      (offset + data.length)
    exact ⟨rfl, hreceived.trans (by rw [hoffset]), hanswered⟩
  case cert =>
    intro s dt offset data d hopen hlen hoffset hshort
    refine completes_onDev (exec_cert ..) rfl ?_
    rw [Dev.certFrame_piece hopen hlen hoffset hshort]
    exact ⟨rfl, rfl, rfl, rfl⟩
  case certLoad =>
    intro s dt cert d hup hlen hphase
    refine completes_onDev (exec_certLoad ..) rfl ?_
    rw [if_pos ⟨hup, hlen⟩, Dev.certArrived, if_pos hphase]
    exact ⟨Dev.presentCert_answers .., rfl, rfl⟩
  case certSts =>
    intro s dt
    exact completes_onDev (exec_certSts ..) rfl ⟨rfl, rfl, rfl, rfl⟩

end Sys2Proof.Machine
end
